-- ==== Sys2Proof/Word.lean ====
section
/-! DEFINITION. The word and byte types, and the one container the state is built from: a list of
(index, value) pairs in rising index order (R26: indexed register files, slots, queues). -/

namespace Sys2Proof.Machine

/-- A byte of a frame, a payload or a memory. -/
abbrev Byte := BitVec 8

/-- A 32-bit word, the width of every peripheral register (R30). -/
abbrev Word := BitVec 32

/-- The 64-bit VALUE of a signal slot (R168). -/
abbrev Value := BitVec 64

/-- A sparse indexed store: pairs of an index and a value, indices strictly rising. An index that is not
listed holds the value that its reader names as the default. -/
structure Map (α : Type) where
  items : List (Nat × α)
deriving DecidableEq, Repr

end Sys2Proof.Machine
end

