-- ==== Sys2Proof/Syntax.lean ====
section
/-! DEFINITION. The commands of the block: one constructor of `Instr` per row of the operation table, with the
operands the command carries, and the data a command can bring along (decks, frames, messages). -/

namespace Sys2Proof.Machine

/-! ### The pattern deck (chapter "The pattern deck") -/

/-- A table entry (R126, R127): the 128-bit record by its fields. -/
structure Entry where
  pick : Nat
  op : Nat
  cls : Nat
  flg : Nat
  src : Nat
  dst : Nat
  arg : Nat
deriving DecidableEq, Repr

/-- A record of the lands card (R53). -/
structure LandRec where
  kind : Nat
  unit : Nat
  func : Nat
  opt : Nat
deriving DecidableEq, Repr

/-- A record of the beat card (R54): one input line. -/
structure BeatRec where
  kind : Nat
  index : Nat
  mode : Nat
  debounce : Nat
  thresh : Nat
  owner : Nat
deriving DecidableEq, Repr

/-- A record of the signals card (R56). -/
structure SigRec where
  signal : Nat
  type : Nat
  sflags : Nat
  group : Nat
  writer : Nat
  ageLimit : Nat
  watch : Nat
  subst : Value
deriving DecidableEq, Repr

/-- A record of the contexts card (R57). -/
structure CtxRec where
  ctx : Nat
  cls : Nat
  bind : Nat
  bobbins : Nat
  resetCh : Nat
  depth : List Nat
deriving DecidableEq, Repr

/-- A channel record of a bank card (R58): the channel index and its eight register words. -/
structure BankRec where
  index : Nat
  words : List Nat
deriving DecidableEq, Repr

/-- A record of a register-image card (R58): CAN, time-triggered, switch, bridge, sleep, recorder or security.
A field that the card's record does not have is 0. Of a time-triggered record `kind` is the channel mask, `index` the
buffer, `owner` the slot and `w0` the buffer's register; of a sleep record `kind` is the wake mode, `index` the cluster
bus unit and `w0` NMW_CLk; of a security record `index` is the slot, `owner` the owner context and `w0` KEY_ATTRk. -/
structure ImgRec where
  kind : Nat
  index : Nat
  owner : Nat
  w0 : Nat
  w1 : Nat
  w2 : Nat
deriving DecidableEq, Repr

/-- A record of the inventory card (R60). -/
structure InvRec where
  partner : Nat
  kind : Nat
  unit : Nat
  key : Nat
  owner : Nat
  discoverMs : Nat
  lossMs : Nat
  cls : Nat
deriving DecidableEq, Repr

/-- A record of the idle card (R61). -/
structure IdleRec where
  kind : Nat
  target : Nat
  value : Nat
deriving DecidableEq, Repr

/-- The contents of a card by its type (R48, R51 to R61). -/
inductive CardBody
  | system (clkMode appMask rtMask bankMask mgmtVlan nodeNum confirmS : Nat)
  | lands (recs : List LandRec)
  | beat (source srcUnit perCycle repeatLen pickNs holdoverMs stepBoundNs : Nat) (recs : List BeatRec)
  | table (repeatLen entryCount maxPick : Nat) (entries : List Entry)
  | signals (groups : Nat) (recs : List SigRec)
  | contexts (routes : List Nat) (recs : List CtxRec)
  | bank (cfg budget inrush : Nat) (recs : List BankRec)
  | can (mode nbt dbt tdc q1own nopart : Nat) (recs : List ImgRec)
  | tt (cycle slotcfg cold guard : Nat) (recs : List ImgRec)
  | switch (gcfg pool : Nat) (recs : List ImgRec)
  | bridge (cfg : Nat) (recs : List ImgRec)
  | sleep (cfg times : Nat) (recs : List ImgRec)
  | recorder (cfg : Nat) (recs : List ImgRec)
  | security (keyPolicy dbgPolicy : Nat) (recs : List ImgRec)
  | inventory (recs : List InvRec)
  | idle (recs : List IdleRec)
  | unknown
deriving DecidableEq, Repr

/-- A card with its directory entry (R45), its own header (R47), the padding that follows it (R46) and the
digest of its plaintext. -/
structure Card where
  type : Nat
  cfmt : Nat
  inst : Nat
  offset : Nat
  length : Nat
  cardVer : Nat
  digest : Nat
  hType : Nat
  hCfmt : Nat
  hInst : Nat
  recordCount : Nat
  recordSize : Nat
  fixedLen : Nat
  /-- the padding after the card is zero (R46) -/
  padZero : Bool
  /-- the bytes the card layouts call zero are zero (R51 to R61) -/
  reservedZero : Bool
  /-- the first 16 bytes of the SHA-256 of the card's plaintext, compared with `digest` -/
  contentDigest : Nat
  body : CardBody
  /-- the card's plaintext, LENGTH bytes from OFFSET; the other fields are what it and its directory entry spell -/
  bytes : List Byte := []
deriving DecidableEq, Repr

/-- The header of a deck (R43). -/
structure DeckHeader where
  magic : Nat := 0
  fmt : Nat := 0
  hdrLen : Nat := 0
  deckId : Nat := 0
  deckVer : Nat := 0
  totalLen : Nat := 0
  partMask : Nat := 0
  minStep : Nat := 0
  flags : Nat := 0
  cardCount : Nat := 0
  dirOff : Nat := 0
  decSlot : Nat := 0
  verSlot : Nat := 0
  baseId : Nat := 0
  baseVer : Nat := 0
  toolVer : Nat := 0
  iv : Nat := 0
  tag : Nat := 0
  /-- the bytes that the layout calls zero: at 0x17, 0x1A and 0x4C -/
  zero17 : Nat := 0
  zero1A : Nat := 0
  zero4C : Nat := 0
deriving DecidableEq, Repr

/-- A deck or card set: its header and its cards in directory order. -/
structure Deck where
  hdr : DeckHeader
  cards : List Card
deriving DecidableEq, Repr

/-- What the security engine finds about a received deck's cryptography (R41): the message that the last 96 bytes sign
under the key of VER_SLOT, and the additional data that TAG authenticates together with the body under the key of DEC_SLOT
and IV; none where they sign or authenticate nothing. -/
structure CryptoVerdict where
  signed : Option (List Byte) := none
  aad : Option (List Byte) := none
deriving DecidableEq, Repr

/-- What it finds about a deck in its slot: the HMAC under the deck storage key verifies, and the body's GCM tag does
(R66, R67). -/
structure StoredVerdict where
  hmac : Bool
  tag : Bool
deriving DecidableEq, Repr

/-! ### Findings of engines that the model takes as operands -/

/-- What the key engine finds in the course of an operation (R585, log entry 63): nothing amiss; the plaintext that AES-GCM opens; a tag,
signature or blob that does not verify; a public key off its curve; the random generator fails. -/
inductive KeyFinding
  | done
  | opened (plain : List Byte)
  | unverified
  | offCurve
  | randomFailed
deriving DecidableEq, Repr

/-! ### Inputs that a pick boundary brings -/

/-- What the outside supplies at a pick boundary: the gPTP and local times in ns, the pick period that the beat unit
measures on the source in 1/16 ns (0: none), and the samples of the input lines taken at this boundary: the SW and AIN
voltages in µV and the WAKE levels as a mask (R85, R106, R107, R113, R117). -/
structure PickIn where
  period : Nat := 0
  gptp : Nat := 0
  localNs : Nat := 0
  sw : List Nat := []
  ain : List Nat := []
  wake : Nat := 0
deriving DecidableEq, Repr

/-! ### CAN and time-triggered frames -/

/-- A CAN frame on the wire (R342 to R356). `form`: 0 classical, 1 FD, 2 XL; `res`: a recessive res bit after FDF. -/
structure CanFrame where
  ident : Nat := 0
  ide : Bool := false
  rtr : Bool := false
  form : Nat := 0
  res : Bool := false
  brs : Bool := false
  esi : Bool := false
  sec : Bool := false
  sdt : Nat := 0
  vcid : Nat := 0
  af : Nat := 0
  soft : Nat := 0
  data : List Byte := []
  /-- the receiver's own error that ended the frame (none: the frame is valid), with the number of further events of ISO 11898-1
  that count 8: a dominant bit first after the error flag, a bit error within it, each eight further dominant bits (R366) -/
  err : Option Nat := none
deriving DecidableEq, Repr

/-- A valid time-triggered frame as heard on one channel: null frame, payload preamble, sync and startup frame indicators, local time of
the frame start sequence, and data (R385, R392, R395). -/
structure TtHeard where
  null : Bool := false
  preamble : Bool := false
  sync : Bool := false
  startup : Bool := false
  soft : Nat := 0
  data : List Byte := []
deriving DecidableEq, Repr

/-- What a controller heard in a slot on channels A and B: none stands for an empty slot or an invalid frame (R392). -/
structure TtFrame where
  slot : Nat := 1
  a : Option TtHeard := none
  b : Option TtHeard := none
deriving DecidableEq, Repr

/-! ### Shuttle messages -/

/-- How a Shuttle message stands up to the checks of R527. -/
inductive MsgCheck
  | good | badVersion | malformed | badTag | badField | unknownCmd
deriving DecidableEq, Repr

/-- The header of a Shuttle message after the handshake: SESSION, SEQ, and the outcome of its checks. -/
structure Msg where
  session : Nat
  seq : Nat
  check : MsgCheck := .good
deriving DecidableEq, Repr

/-- A manifest by its fields (R668). -/
structure Manifest where
  magic : Nat := 0x4B57494D
  fmt : Nat := 1
  manLen : Nat := 0xEC
  target : Nat := 0
  partMask : Nat := 1
  minStep : Nat := 0
  flags : Nat := 0
  imgVer : Nat := 0
  blocks : Nat := 1
  setVer : Nat := 0
  migFrom : Nat := 0
  entry : Nat := 0
  warm : Nat := 0
  keyIv : Nat := 0
  keyCt : Nat := 0
  keyTag : Nat := 0
  tableHash : Nat := 0
  sig : Nat := 0
deriving DecidableEq, Repr

/-- What the boot code finds in the course of a start-up (R691, R715): the checks of the boot images 0 and 1, the
firmware slots A and B and the recovery image, whether the boot image hands over to the firmware image, whether the
random generator passes its health tests, and what cryptography says of the decks in the two deck slots. -/
structure BootIn where
  boot0 : Bool := true
  boot1 : Bool := true
  fwA : Bool := true
  fwB : Bool := true
  recovery : Bool := true
  handover : Bool := true
  random : Bool := true
  deck0 : StoredVerdict := ⟨true, true⟩
  deck1 : StoredVerdict := ⟨true, true⟩
deriving DecidableEq, Repr

/-- What the engines find about an arriving stream block of an image (R671, R672): the checks of its signature, its key,
TABLE_HASH or its tag, and the plaintext of a body block. -/
structure BlockFind where
  verified : Bool := true
  plain : List Byte := []
deriving DecidableEq, Repr

/-- A request of R535 with its payload. Where the engines must decide something about the payload (an authentication
code, a wrapped key, a block's decryption), the finding comes along as an operand; so does what the specification leaves to
the module: the XFER number it gives, and whether an ABORT meets the command past its safe point. -/
inductive Request
  | ping
  | bye
  | subscribe (on : Nat)
  | abort (target : Nat) (late : Bool)
  | restart
  | updOpen (ikind total xfer : Nat)
  | updBlock (xfer offset : Nat) (data : List Byte) (found : BlockFind)
  | updClose (xfer : Nat)
  | updActivate (xfer when_ at_ now : Nat)
  | updCancel (xfer : Nat)
  | updStatus
  | invGet
  | presGet (first count : Nat)
  | recRead (fromSeq count : Nat)
  | recClear
  | keyLoad (slot wrap len : Nat) (found : KeyFinding)
  | keyCommit (slot : Nat)
  | keyInval (slot : Nat)
  | outChal (slot nonce : Nat)
  | lcChange (target : Nat) (auth : List Byte)
  | sigRead (first count : Nat)
  | sigForce (signal : Nat) (value : Value)
  | sigRelease (signal : Nat)
  | chMan (channel en cmd : Nat)
  | sleepReq (cluster set : Nat)
  | ctxReset (c : Nat)
  | ctxStop (c : Nat)
  | ctxRestart (c : Nat)
  | ctxStat (c : Nat)
  | trdIdle
  | trdRelease
  /-- a request that no command reads: the STATUS that it gets (R544) -/
  | unread (status : Nat)
deriving DecidableEq, Repr

/-! ### Ethernet frames -/

/-- What a MACsec frame brings (R443): its association number and packet number, and the result of the integrity
check. -/
structure SecIn where
  an : Nat := 0
  pn : Nat := 1
  verified : Bool := true
deriving DecidableEq, Repr


/-- An Ethernet frame as the switch sees it (R413 to R422). -/
structure EthFrame where
  dmac : Nat := 0
  smac : Nat := 0
  vid : Nat := 0
  pcp : Nat := 0
  tagged : Bool := false
  dei : Bool := false
  /-- length of the whole frame in bytes -/
  len : Nat := 64
  etype : Nat := 0
  /-- sequence number of the R-TAG, when present (R440, R441) -/
  rtag : Option Nat := none
  fcsOk : Bool := true
  payload : List Byte := []
deriving DecidableEq, Repr

/-- What a channel's sensors show at one moment: current, voltage and junction codes, and ΔT in 0.125 K (R276). -/
structure Sense where
  i : Nat := 0
  v : Nat := 0
  tj : Nat := 0
  dt : Nat := 0
deriving DecidableEq, Repr

/-- A keep-awake message as it is received: a frame of a CAN controller's filter 127 with its identifier and payload (R499), or a
frame at I3 that arrived on an Ethernet port (R501). -/
inductive KaMsg
  | can (unit ident : Nat) (payload : List Byte)
  | eth (port : Nat) (frame : EthFrame)
deriving DecidableEq, Repr

/-- An operation of the debug module interface (R619, R628, R631): a halt or resume request, a trigger of a hart, a word of
the program buffer, and the fields of DBG_CTL that only the debug module writes. -/
inductive DmiOp
  | select
  | halt (hart : Nat)
  | resume (hart : Nat)
  | trigger (hart n value : Nat)
  | program (n word : Nat)
  | holdRun (on : Bool)
  | haltReset (on : Bool)
deriving DecidableEq, Repr

/-- The fault window counters, each with its unit (R727, R731). -/
inductive CounterId
  | row (address : Nat)
  | core (n : Nat)
  | pair (n : Nat)
  | can (c : Nat)
  | cell (channel cell : Nat)
  | nor (sector : Nat)
  | busLink
  | bankLink (b : Nat)
  | channel (m : Nat)
  | noPartner (c : Nat)
  | truncation (t ch : Nat)
  | handshake
  | unlock
  | access (ctx : Nat)
  | resets (ctx : Nat)
  | retrain (b : Nat)
  | busReset
deriving DecidableEq, Repr

/-- What the checks of a closed item find (R63, R64, R678): the stream block of an image whose tag fails when it is read
back, if one does; or the plaintext to which a deck's body decrypts, with what cryptography says of the deck. -/
inductive CloseIn
  | image (bad : Option Nat)
  | deck (body : List Byte) (v : CryptoVerdict)
deriving DecidableEq, Repr

end Sys2Proof.Machine

namespace Sys2Proof

open Machine

/-- The commands: one constructor per row of the operation table. `init` is the initiator of an access: hart 0 to 9 (R206),
or 14 for the debug port. -/
inductive Instr
  /-- PICK_BOUNDARY (R142). The beat unit starts a pick: it latches the inputs, applies any idle-card entry or exit
  and any swap due, sets the run-time budget and makes the first shed check. -/
  | pickBoundary (x : PickIn)
  /-- CARD_SWAP (R158). At the first repeat boundary at least one pick after arming, all staged cards take effect in
  one clock cycle. -/
  | cardSwap
  /-- SWAP_ABANDON (R72). A bridge card swap finds changed windows busy at 16 boundaries and is abandoned with code
  0x0506. -/
  | swapAbandon
  /-- SOURCE_QUALIFY (R99). The pick source qualifies and the beat unit aligns, slews or steps into LOCKED. -/
  | sourceQualify (phErr : Int)
  /-- ALIGNMENT (R101). A pending alignment or step is made at the source's next pick boundary. -/
  | alignment (pick : Nat) (x : PickIn)
  /-- SOURCE_LOSS (R98). The pick source is lost and the beat unit enters HOLDOVER or IDLE. -/
  | sourceLoss
  /-- HOLDOVER_EXPIRY (R99). The holdover timer expires and the idle card runs from the next pick boundary. -/
  | holdoverExpiry (tie : Bool)
  /-- PHASE_STEP (R100). A phase error beyond STEP_BOUND_NS ends the repeat and restarts it at the source's pick. -/
  | phaseStep (phErr : Int)
  /-- POSITION_EDGE (R90). An accepted change of PI_A or PI_B updates the net count and may end a pick. -/
  | positionEdge (a b : Bool) (gap ns : Nat) (index : Bool) (x : PickIn)
  /-- INDEX_ACCEPTED (R92). An index on PI_Z ends the pick and starts pick 0 of a new repeat, or realigns pick 0. -/
  | indexAccepted (ns : Nat) (x : PickIn)
  /-- ZERO_CROSSING (R95). A zero crossing on LC_ZX sets the next line cycle's pick period and measures the phase
  error. -/
  | zeroCrossing (t x : Nat)
  /-- TABLE_READ_CORRECTED (R125). A table prefetch corrects a single-bit error, charges 4 slots and makes a shed
  check. -/
  | tableReadCorrected (idx : Nat)
  /-- NOP (R130). A NOP entry takes its slot and does nothing else. -/
  | nop (idx : Nat)
  /-- TAKE (R130). A TAKE entry copies a field of a receive object's latest frame into a signal. -/
  | take (idx : Nat)
  /-- SAMPLE (R130). A SAMPLE entry writes a sample source's latched value into a signal. -/
  | sample (idx : Nat)
  /-- STAMP (R135). A STAMP entry writes a repeat/pick, gPTP or local time into a signal. -/
  | stamp (idx : Nat)
  /-- MOVE (R130). A MOVE entry copies a signal's VALUE into another of the same type. -/
  | move (idx : Nat)
  /-- SCALE (R132). A SCALE entry computes a fixed multiply-add with saturation. -/
  | scale (idx : Nat)
  /-- PACK (R134). A PACK entry gathers bit fields of consecutive signals into one. -/
  | pack (idx : Nat)
  /-- UNPACK (R134). An UNPACK entry extracts a bit field of a signal. -/
  | unpack (idx : Nat)
  /-- SEND (R130). A SEND entry writes a field of a transmit object and marks it ready. -/
  | send (idx : Nat)
  /-- DRIVE (R130). A DRIVE entry places a signal's low 16 bits as the channel's command word in this pick's frame. -/
  | drive (idx : Nat)
  /-- PWMSET (R133). A PWMSET entry places a duty code, period and phase for a channel in this pick's frame. -/
  | pwmset (idx : Nat)
  /-- GATE (R130). A GATE entry sets a port's gate state. -/
  | gate (idx : Nat)
  /-- KICK (R139). A KICK entry starts a CAN or dynamic-segment transmission with the object's current payload. -/
  | kick (idx : Nat)
  /-- MARK (R130). A MARK entry writes TRD_MARKn and sets its flag. -/
  | mark (idx : Nat)
  /-- GROUP_COMMIT (R182). A write to TRD_GCOMMIT commits a context-written group and sets PEND. -/
  | groupCommit (init g : Nat)
  /-- GROUP_FLIP (R183). At the first cycle free of both lanes, a pending group's back and front copies are exchanged.
  -/
  | groupFlip (g : Nat)
  /-- SIGNAL_WRITE (R176). Software writes a signal's VALUE through the window, checked against the single writer. -/
  | signalWrite (init n off width value : Nat)
  /-- SIGNAL_READ (R174). A read at offset 0 latches the whole slot for the reading hart. -/
  | signalRead (init n off width : Nat)
  /-- STALE_SWEEP (R188). The sweep visits every aged signal at least once every 132 µs and judges staleness. -/
  | staleSweep (n : Nat)
  /-- Q0_MOVE (R351). At the first cycle free of both lanes, waiting Q0 frames move into their receive objects. -/
  | q0Move
  /-- TT_RX_MOVE (R392). At the first cycle free of both lanes, waiting time-triggered frames move into their receive
  objects. -/
  | ttRxMove
  /-- I2_OBJECT_MOVE (R422). At the first cycle free of both lanes, frames waiting at I2 move into their receive
  objects after the source check. -/
  | i2ObjectMove
  /-- PRESENCE_EVIDENCE (R80). Evidence of a partner makes it PRESENT and reports a change. -/
  | presenceEvidence (partner : Nat)
  /-- DISCOVER_EXPIRY (R80). DISCOVER_MS passes without evidence and the partner becomes ABSENT. -/
  | discoverExpiry (partner : Nat) (tie : Bool)
  /-- LOSS_EXPIRY (R80). LOSS_MS passes since the last evidence and the partner becomes ABSENT. -/
  | lossExpiry (partner : Nat) (tie : Bool)
  /-- SYSCTL_EVT_CLEAR (R784). A W1C write to SYSCTL_EVT clears bits only for the context to which the source is
  routed. -/
  | sysctlEvtClear (init value : Nat)
  /-- CTX_EVT_CLEAR (R785). A W1C write to CTX_EVT clears bits only for the routed context. -/
  | ctxEvtClear (init value : Nat)
  /-- CTX_HART_WRITE (R207). Hart h writes CTX_HARTh to name its running context, checked against the binding. -/
  | ctxHartWrite (init h valid bind ctx : Nat)
  /-- RESET_SELF (R212). CTX_CMD reset-self order resets the writing context with cause SELF. -/
  | resetSelf (init ctx : Nat)
  /-- RUN_SELF (R216). CTX_CMD run-self order takes a context from RESTART to ACTIVE. -/
  | runSelf (init ctx : Nat)
  /-- CONTEXT_RESET_COMPLETE (R216). The reset actions complete and the context enters RESTART or STOPPED with a
  notice. -/
  | contextResetComplete (c : Nat)
  /-- BOBBIN_WRITE (R209). A record is written into a bobbin from reserved or borrowed units, or discarded. -/
  | bobbinWrite (q kind : Nat) (payload : List Byte)
  /-- BOBBIN_POP (R210). A write to CTX_HPOPh releases the head record and returns its units. -/
  | bobbinPop (init h : Nat)
  /-- TIMER_CONFIG (R226). A write to CTX_TMRCFGk starts, restarts or stops timer k. -/
  | timerConfig (init k exp unit mode : Nat)
  /-- TIMER_EXPIRY (R225). Timer k reaches zero, sets EXP, raises its source and reloads in periodic mode. -/
  | timerExpiry (k : Nat)
  /-- DOORBELL_RING (R227). A write to CTX_DBRINGd sets PEND, records sender and data and raises its source. -/
  | doorbellRing (init b data : Nat)
  /-- NOTICE_POP (R234). A read of CTX_NQHIb returns and pops the head notice. -/
  | noticePop (init b : Nat)
  /-- COMMAND_FRAME_RECEIVED (R246). A keeper receives a bank command frame and each channel acts on its slot. -/
  | commandFrameReceived (b : Nat) (good : Bool)
  /-- LINK_HEARTBEAT (R21). A heartbeat on the bank link keeps the keeper's silence timer from expiring. -/
  | linkHeartbeat (b : Nat)
  /-- LINK_SILENCE (R21). 8 µs without frame or heartbeat makes the keeper treat the core die as reset and start
  holds. -/
  | linkSilence (b : Nat)
  /-- HOLD_EXPIRY (R325). A channel's hold timer expires and its fail state is applied. -/
  | holdExpiry (m : Nat)
  /-- PICK_MARK (R313). At a pick mark the keeper releases one waiting start, or starts channels at DEFMAX. -/
  | pickMark (b ns : Nat) (atMark atMid : List Sense) (case vsup : Nat)
  /-- PWM_PERIOD_START (R250). A PWM period starts with the output on for its high time. -/
  | pwmPeriodStart (m : Nat)
  /-- PWM_HIGH_TIME_END (R250). The high time ends and the output turns off for the rest of the period. -/
  | pwmHighTimeEnd (m : Nat)
  /-- PWM_RESTART (R249). A PHRST restart ends the period at PHASE ticks after the pick boundary and applies the new
  setting. -/
  | pwmRestart (m : Nat)
  /-- INRUSH_WINDOW_END (R257). The inrush window ends and the normal limit comes into force. -/
  | inrushWindowEnd (m : Nat)
  /-- LIMITER_REGULATE (R256). The output current passes the limit and the limiter begins to regulate. -/
  | limiterRegulate (m cur : Nat)
  /-- DWELL_TRIP (R258). Regulation outside the window lasts DWELL and the channel trips with cause LIMIT. -/
  | dwellTrip (m run : Nat) (same : List Nat)
  /-- DT_TRIP (R260). ΔT exceeds DTMAX in two samples and the channel trips with cause DT. -/
  | dtTrip (m : Nat) (d0 d1 d2 : Int) (same : List Nat)
  /-- TJ_TRIP (R261). The junction reaches 175 °C in two samples and the channel trips with cause TJ. -/
  | tjTrip (m : Nat) (t0 t1 t2 : Int) (same : List Nat)
  /-- WIRE_MODEL_UPDATE (R262). Every 1 ms the keeper updates the wire and pin models and may warn or trip. -/
  | wireModelUpdate (m : Nat) (cur : List (List Nat)) (same : List Nat)
  /-- COOL_RECOVERY (R264). The recovery condition holds and RETRY has passed, so the channel restarts or goes OFF. -/
  | coolRecovery (m ms : Nat) (tj dt : List Int)
  /-- LATCH_CLEAR (R253). The owner writes CHm_CLR and a latched channel passes to COOL with NEEDOFF. -/
  | latchClear (init m value : Nat)
  /-- OPEN_LOAD_FILTER_END (R269). The output stays high for OLFILT with the pull-up on, so the keeper turns the
  pull-up off for 2 ms. -/
  | openLoadFilterEnd (m mv : Nat)
  /-- OPEN_LOAD_COMPARE (R269). After 2 ms the keeper finds an open load or a short to battery. -/
  | openLoadCompare (m mv : Nat)
  /-- MANUAL_DRIVE (R280). A write of CHm_MAN with EN 1 in SERVICE starts or renews manual drive. -/
  | manualDrive (init m cmd : Nat)
  /-- MANUAL_DRIVE_END (R281). A write with EN 0 ends manual drive with MODE 0 and code 0x0419. -/
  | manualDriveEnd (init m cmd : Nat)
  /-- MANUAL_LEASE_EXPIRY (R281). 1,000 ms pass without a write to CHm_MAN and manual drive ends. -/
  | manualLeaseExpiry (m : Nat) (tie : Bool)
  /-- CLASS_CHECK_END (R298). A 10 ms class check passes, fails or starts again. -/
  | classCheckEnd (b lo hi : Nat)
  /-- OVERVOLTAGE_LOCK (R299). The bank supply stays above the overvoltage level and the bank locks. -/
  | overvoltageLock (b lo us : Nat)
  /-- UNDERVOLTAGE_LOCK (R299). A 48 V bank supply stays below 24 V and the bank locks. -/
  | undervoltageLock (b hi us : Nat)
  /-- SUPPLY_UNLOCK (R299). The unlock condition holds and a voltage-locked bank returns to ACTIVE. -/
  | supplyUnlock (b lo hi us : Nat)
  /-- KEEPER_RESET (R301). The bank supply falls below 4.0 V for 100 µs and the keeper resets every bank and channel
  register. -/
  | keeperReset (b hi us : Nat)
  /-- KEEPER_START (R301). The supply stays above 4.5 V for 100 µs; the keeper starts and PWR rewrites the bank card.
  -/
  | keeperStart (b lo us : Nat)
  /-- BUDGET_SAMPLE (R304). Every 10 µs the keeper judges the bank current against the budget and may shed a channel.
  -/
  | budgetSample (b : Nat) (cur : List Nat) (trips : List (Nat × Nat))
  /-- DISSIPATION_ESTIMATE (R309). Every 1 ms the thermal manager estimates P and may shed for the dissipation limit.
  -/
  | dissipationEstimate (b : Nat) (cur : List (List Nat)) (tj : List Int) (trips : List (Nat × Nat))
  /-- CASE_LIMIT (R310). The case exceeds CASEMAX in two samples and the thermal manager sheds. -/
  | caseLimit (b : Nat) (t1 t2 : Int) (cur : List Nat) (trips : List (Nat × Nat))
  /-- THERMAL_SHED (R310). Each 100 ms while a thermal limit is broken a further channel is shed. -/
  | thermalShed (b : Nat) (cur : List Nat) (trips : List (Nat × Nat))
  /-- SHORT_EVENT_END (R315). SHQUIET ms after the last regulation or trip the short event ends. -/
  | shortEventEnd (b : Nat)
  /-- CELL_TEST (R318). An H channel measures each cell's share once in its period and counts failures. -/
  | cellTest (m : Nat) (cells : List Nat) (spare : Nat)
  /-- CAN_FRAME_RECEIVED (R349). A received CAN frame is matched against filters into Q0, Q1 or discarded. -/
  | canFrameReceived (c : Nat) (f : CanFrame)
  /-- CAN_TXSTART (R361). A write of CANn_TXSTART starts a software-fed buffer. -/
  | canTxstart (init c mask : Nat)
  /-- CAN_TXCAN (R361). A write of CANn_TXCAN cancels a pending buffer or reports too late. -/
  | canTxcan (init c mask : Nat)
  /-- CAN_BUFFER_WRITE (R381). The owner writes a software-fed buffer's payload through its window. -/
  | canBufferWrite (init c k off : Nat) (data : List Byte)
  /-- CAN_ARBITRATION_WON (R360). A pending buffer wins arbitration and its payload is latched. -/
  | canArbitrationWon (c b delay : Nat)
  /-- CAN_TX_ERROR (R361). Arbitration is lost or an error ends the attempt and the buffer returns to PENDING. -/
  | canTxError (c b : Nat) (lost ref : Bool)
  /-- CAN_FRAME_ACKED (R361). A frame ends acknowledged, sets TXDONE and the buffer becomes IDLE or PENDING. -/
  | canFrameAcked (c b : Nat)
  /-- CAN_ACK_ERROR (R368). An attempt ends with an acknowledge error and counts in the no-partner counter. -/
  | canAckError (c b : Nat) (dominant : Bool)
  /-- BUS_OFF_DELAY_END (R367). BODLY × 10 ms pass and recovery starts. -/
  | busOffDelayEnd (c : Nat)
  /-- BUS_OFF_RECOVERED (R367). The recovery sequence is seen and the controller is error active again. -/
  | busOffRecovered (c : Nat)
  /-- TT_SLOT_START (R389). At a static slot the controller latches the buffer and sends a data or null frame. -/
  | ttSlotStart (t slot start til : Nat)
  /-- TT_FRAME_RECEIVED (R392). A valid frame in a receive slot waits for the move, or goes to a bobbin. -/
  | ttFrameReceived (t : Nat) (f : TtFrame)
  /-- TT_DYNAMIC_SEND (R394). A pending dynamic buffer is sent in its minislot or stays pending. -/
  | ttDynamicSend (t k mini : Nat)
  /-- TT_CLUSTER_AWAKE (R397). The cluster wakes and the controller enters STARTUP. -/
  | ttClusterAwake (t : Nat)
  /-- TT_LISTEN_TIMEOUT (R399). pdListenTimeout passes silent and a coldstart node sends its symbol. -/
  | ttListenTimeout (t silent : Nat)
  /-- TT_STARTUP_COMPLETE (R397). Startup completes and the controller is NORMAL_ACTIVE. -/
  | ttStartupComplete (t : Nat)
  /-- TT_COLDSTART_ABANDON (R399). A coldstart node abandons its attempt for another node. -/
  | ttColdstartAbandon (t : Nat)
  /-- TT_COLDSTART_EXHAUSTED (R397). Coldstart attempts are used up and the node only integrates. -/
  | ttColdstartExhausted (t : Nat)
  /-- TT_CLOCK_CORRECTION_MISSING (R397). Missing clock correction takes the controller to NORMAL_PASSIVE or HALT. -/
  | ttClockCorrectionMissing (t : Nat)
  /-- TT_CLOCK_CORRECTION_REGAINED (R397). Two double cycles with clock correction return the controller to
  NORMAL_ACTIVE. -/
  | ttClockCorrectionRegained (t : Nat) (rates offsets : List Int)
  /-- TT_HALT_EXPIRY (R397). 10 nominal cycles after HALT the controller returns to READY. -/
  | ttHaltExpiry (t : Nat)
  /-- GUARDIAN_CYCLE_MARK (R401). The guardian receives a cycle mark, accepts or rejects it and rescales its windows.
  -/
  | guardianCycleMark (t cycle len : Nat)
  /-- GUARDIAN_MARK_TIMEOUT (R401). No mark by 1.002 × L closes every window until the next accepted mark. -/
  | guardianMarkTimeout (t : Nat)
  /-- TT_TRUNCATION (R402). The guardian cuts a frame and counts a truncation. -/
  | ttTruncation (t ch start til : Nat)
  /-- TT_WAKE_FRAMES (R515). The module sends four wake frames 2 ms apart on each channel to wake a cluster. -/
  | ttWakeFrames (t : Nat)
  /-- SWX_FRAME_INGRESS (R415). A frame arrives at a port and is tagged, filtered, metered and admitted or dropped. -/
  | swxFrameIngress (p : Nat) (f : EthFrame) (x : SecIn) (t : Nat)
  /-- SWX_FRAME_EGRESS (R429). An egress port sends from its highest open queue and returns the frame's cells. -/
  | swxFrameEgress (p t : Nat)
  /-- SWX_RING_TRANSMIT (R423). The switch takes a frame from an owned I0 or I1 transmit descriptor. -/
  | swxRingTransmit (p t : Nat)
  /-- SWX_LINK_LOST (R436). A port's link is lost and it enters HOLD or DOWN. -/
  | swxLinkLost (p t : Nat)
  /-- SWX_LINK_RETURN (R436). A port's link returns and sending resumes. -/
  | swxLinkReturn (p rate : Nat)
  /-- SWX_LINK_HOLD_EXPIRY (R436). The link-hold timer expires and every queued frame is flushed. -/
  | swxLinkHoldExpiry (p : Nat)
  /-- SWX_GATE_ENTRY (R430). A gPTP-timed gate-list entry begins and sets the port's gate states. -/
  | swxGateEntry (p pos : Nat)
  /-- GPTP_SYNC (R439). A Sync message is received and the domain synchronises. -/
  | gptpSync (p : Nat)
  /-- GPTP_SYNC_TIMEOUT (R439). No Sync within 3 intervals: synchronisation is lost and the clock holds over. -/
  | gptpSyncTimeout
  /-- GPTP_CLOCK_STEP (R432). The working clock steps and every gPTP-driven list restarts its cycle. -/
  | gptpClockStep
  /-- PPS_IN_EDGE (R439). A rising edge on PPS_IN is time-stamped into SWX_PPSIN. -/
  | ppsInEdge (ns : Nat)
  /-- PPS_OUT_PULSE (R439). PPS_OUT gives a 1 ms pulse at each whole second. -/
  | ppsOutPulse
  /-- FRER_RESET (R441). The recovery function's reset timeout expires and it resets. -/
  | frerReset (r : Nat)
  /-- MACSEC_OLD_KEY_EXPIRY (R444). 2,000 ms after a receive key switch the old key is discarded. -/
  | macsecOldKeyExpiry (p : Nat)
  /-- BRG_WINDOW_WRITE (R469). A write to an outbound window is posted or stalls for room. -/
  | brgWindowWrite (init w off size data : Nat)
  /-- BRG_WINDOW_READ (R471). A read to an outbound window stalls until an answer or 2 µs. -/
  | brgWindowRead (init w off size : Nat)
  /-- BRG_READ_STALL_END (R471). 2 µs pass and the read completes deferred into a collect slot or with NOSLOT. -/
  | brgReadStallEnd (h : Nat)
  /-- BRG_REQUEST_SEND (R466). A window takes its next work item and sends a request. -/
  | brgRequestSend (w : Nat)
  /-- BRG_ANSWER (R467). An answer matching the outstanding request completes it or is discarded as stray. -/
  | brgAnswer (w type seq addr data : Nat)
  /-- BRG_RESPONSE_TIMEOUT (R467). No answer within RSPTO, so the request is resent or fails with TIMEOUT. -/
  | brgResponseTimeout (w : Nat)
  /-- BRG_COLLECT_READ (R472). The reading context reads BRG_CDATAs and frees the slot. -/
  | brgCollectRead (init q : Nat)
  /-- BRG_COLLECT_EXPIRY (R472). The collect timer expires and the slot is freed. -/
  | brgCollectExpiry (q : Nat)
  /-- BRG_CABORT (R473). A write of BRG_CABORT aborts a deferred read. -/
  | brgCabort (init q : Nat)
  /-- BRG_WACK_RESUME (R479). BRG_WACKk MODE 1 delivers held writes and resumes the window. -/
  | brgWackResume (init w : Nat)
  /-- BRG_WACK_DISCARD (R479). BRG_WACKk MODE 2 discards held writes and resumes the window. -/
  | brgWackDiscard (init w : Nat)
  /-- BRG_IWRITE (R483). An IWRITE from a satellite writes a signal and is answered with an IACK. -/
  | brgIwrite (bus unit node seq size addr : Nat) (data : Value)
  /-- BRG_POLL_DUE (R485). POLLMS elapses and a status poll joins the window's queue. -/
  | brgPollDue (w : Nat)
  /-- BRG_PROBE_DUE (R486). An identity probe falls due and is queued first. -/
  | brgProbeDue (w : Nat)
  /-- NMW_REQ_SET (R503). A context sets a request on a cluster with a reason byte. -/
  | nmwReqSet (init k reason : Nat)
  /-- NMW_REQ_RELEASE (R503). A context releases its request on a cluster. -/
  | nmwReqRelease (init k : Nat)
  /-- KEEP_AWAKE_SEND (R504). Every KAPER × 100 ms the module sends a keep-awake message on every member. -/
  | keepAwakeSend (k : Nat)
  /-- KEEP_AWAKE_RECEIVED (R505). A valid keep-awake message restarts the sleep-wait timer or is counted bad. -/
  | keepAwakeReceived (m : KaMsg)
  /-- SLEEP_WAIT_EXPIRY (R507). The sleep-wait timer expires and the cluster enters PREPARE. -/
  | sleepWaitExpiry (k : Nat)
  /-- PREPARE_EXPIRY (R508). The prepare timer expires at the sleep commit point and the commit steps begin. -/
  | prepareExpiry (k : Nat)
  /-- SLEEP_COMMIT_COMPLETE (R508). The commit steps complete and the cluster enters SLEEP. -/
  | sleepCommitComplete (k : Nat)
  /-- WAKE_EVENT (R506). A wake event cancels prepare-sleep or wakes a committed or sleeping cluster. -/
  | wakeEvent (k cause unit node : Nat)
  /-- SELECTIVE_WAKE_OVERFLOW (R512). The transceiver frame error counter reaches 32 and wakes the cluster. -/
  | selectiveWakeOverflow (c : Nat)
  /-- AWAKE_LIMIT_REACHED (R516). A single-holder stretch reaches AWLIM × 10 s and is recorded. -/
  | awakeLimitReached (k : Nat)
  /-- AWAKE_STRETCH_END (R516). A stretch beyond the limit ends and its length is recorded. -/
  | awakeStretchEnd (k dur : Nat)
  /-- HELLO (R529). A HELLO opens a half-open session and is answered with a CHALLENGE. -/
  | hello (check : MsgCheck) (host number nonce epub : Nat)
  /-- PROOF (R531). A PROOF is verified and the session established, or the handshake fails. -/
  | proof (m : Msg) (resp : List Byte)
  /-- LOCKOUT_END (R531). The 60 s handshake lockout ends. -/
  | lockoutEnd
  /-- HALF_OPEN_TIMEOUT (R530). A half-open session without PROOF within 2 s is discarded. -/
  | halfOpenTimeout (number : Nat)
  /-- SESSION_IDLE_TIMEOUT (R534). A session without a verified message for 30 s ends. -/
  | sessionIdleTimeout (number : Nat)
  /-- PING (R535). PING is answered. -/
  | ping (m : Msg)
  /-- BYE (R535). BYE is answered and the session ends. -/
  | bye (m : Msg)
  /-- SUBSCRIBE (R542). SUBSCRIBE turns notices on or off for the session. -/
  | subscribe (m : Msg) (on : Nat)
  /-- ABORT (R541). ABORT stops a waiting or executing long command at its safe point. -/
  | abort (m : Msg) (target : Nat) (late : Bool)
  /-- RESTART (R535). RESTART orders a core-die restart 100 ms after the reply. -/
  | restart (m : Msg)
  /-- UPD_OPEN (R674). UPD_OPEN takes the staging lock and opens a transfer. -/
  | updOpen (m : Msg) (ikind total xfer : Nat)
  /-- UPD_BLOCK (R672). UPD_BLOCK delivers one stream block, checked and stored. -/
  | updBlock (m : Msg) (xfer offset : Nat) (data : List Byte) (found : BlockFind)
  /-- UPD_CLOSE (R678). UPD_CLOSE checks and stages an image, deck or card set. -/
  | updClose (m : Msg) (xfer : Nat)
  /-- UPD_ACTIVATE (R679). UPD_ACTIVATE arms a staged image or full deck for an activation time. -/
  | updActivate (m : Msg) (xfer when_ at_ now : Nat)
  /-- UPD_CANCEL (R677). UPD_CANCEL discards the item and frees the lock. -/
  | updCancel (m : Msg) (xfer : Nat)
  /-- UPD_STATUS (R535). UPD_STATUS returns the update state and lock holder. -/
  | updStatus (m : Msg)
  /-- INV_GET (R535). INV_GET returns the part, identity, deck and firmware versions. -/
  | invGet (m : Msg)
  /-- PRES_GET (R535). PRES_GET returns the presence states of partners. -/
  | presGet (m : Msg) (first count : Nat)
  /-- REC_READ (R659). REC_READ returns checked records from FROM_SEQ. -/
  | recRead (m : Msg) (fromSeq count : Nat)
  /-- REC_CLEAR (R661). REC_CLEAR erases the ring and writes record 0x0030. -/
  | recClear (m : Msg)
  /-- KEY_LOAD (R588). KEY_LOAD unwraps a blob into a slot's pending copy and returns its KCV. -/
  | keyLoad (m : Msg) (slot wrap len : Nat) (found : KeyFinding)
  /-- KEY_COMMIT (R595). KEY_COMMIT makes a verified pending copy the slot's key. -/
  | keyCommit (m : Msg) (slot : Nat)
  /-- KEY_INVAL (R598). KEY_INVAL invalidates a slot. -/
  | keyInval (m : Msg) (slot : Nat)
  /-- OUT_CHAL (R602). OUT_CHAL returns the outsider challenge response. -/
  | outChal (m : Msg) (slot nonce : Nat)
  /-- LC_CHANGE (R607). LC_CHANGE carries out a life-cycle transition. -/
  | lcChange (m : Msg) (target : Nat) (auth : List Byte)
  /-- SIG_READ (R535). SIG_READ returns signal slots. -/
  | sigRead (m : Msg) (first count : Nat)
  /-- SIG_FORCE (R192). SIG_FORCE forces a signal's value in SERVICE. -/
  | sigForce (m : Msg) (signal : Nat) (value : Value)
  /-- SIG_RELEASE (R193). SIG_RELEASE releases a forced signal. -/
  | sigRelease (m : Msg) (signal : Nat)
  /-- CH_MAN (R279). CH_MAN writes CHm_MAN as the host's service command. -/
  | chMan (m : Msg) (channel en cmd : Nat)
  /-- SLEEP_REQ (R536). SLEEP_REQ sets or clears the host request on a cluster. -/
  | sleepReq (m : Msg) (cluster on : Nat)
  /-- CTX_RESET (R536). CTX_RESET resets a context with cause HOST. -/
  | ctxReset (m : Msg) (c : Nat)
  /-- CTX_STOP (R536). CTX_STOP resets a context and stops it. -/
  | ctxStop (m : Msg) (c : Nat)
  /-- CTX_RESTART (R216). CTX_RESTART takes a stopped context to RESTART. -/
  | ctxRestart (m : Msg) (c : Nat)
  /-- CTX_STAT (R535). CTX_STAT returns a context's status image. -/
  | ctxStat (m : Msg) (c : Nat)
  /-- TRD_IDLE (R536). TRD_IDLE sets IDLE_HOST. -/
  | trdIdle (m : Msg)
  /-- TRD_RELEASE (R536). TRD_RELEASE clears IDLE_DROP, IDLE_CONF and IDLE_HOST. -/
  | trdRelease (m : Msg)
  /-- NOTICE_ACK (R542). A host acknowledgement stops a notice's resends. -/
  | noticeAck (m : Msg) (notice : Nat)
  /-- NOTICE_RESEND (R542). An unacknowledged notice is resent every 500 ms, then dropped. -/
  | noticeResend (number notice : Nat)
  /-- NEIGHBOR_SOLICITATION (R522). The module answers Neighbor Discovery for its own address. -/
  | neighborSolicitation (own : Bool) (src : Nat)
  /-- ICMPV6_ECHO (R522). The module answers an ICMPv6 echo request. -/
  | icmpv6Echo (own : Bool) (src ident seq : Nat) (data : List Nat)
  /-- REASSEMBLY_TIMEOUT (R522). A fragmented datagram not complete within 2 s is discarded. -/
  | reassemblyTimeout (src ident : Nat)
  /-- LOCKSTEP_MISMATCH (R555). A pair's cores disagree; the pair halts and its partition restarts. -/
  | lockstepMismatch (j : Nat)
  /-- SRAM_ECC_READ (R563). An SRAM read corrects a single-bit error or faults on an uncorrectable one. -/
  | sramEccRead (addr n : Nat) (unc : Bool)
  /-- SRAM_SCRUB (R563). The background scrub reads system SRAM once every 10 minutes. -/
  | sramScrub (cor unc : List Nat)
  /-- GCM_ENC (R584). A key channel starts GCM encryption. -/
  | gcmEnc (init n slot : Nat) (irq : Bool)
  /-- GCM_DEC (R584). A key channel starts GCM decryption. -/
  | gcmDec (init n slot : Nat) (irq : Bool)
  /-- CMAC (R584). A key channel starts CMAC generation. -/
  | cmac (init n slot : Nat) (irq : Bool)
  /-- CMAC_VER (R584). A key channel starts CMAC verification. -/
  | cmacVer (init n slot : Nat) (irq : Bool)
  /-- HMAC (R584). A key channel starts HMAC generation. -/
  | hmac (init n slot : Nat) (irq : Bool)
  /-- HMAC_VER (R584). A key channel starts HMAC verification. -/
  | hmacVer (init n slot : Nat) (irq : Bool)
  /-- SIGN (R584). A key channel starts an ECDSA signature. -/
  | sign (init n slot : Nat) (irq : Bool)
  /-- VERIFY (R584). A key channel starts ECDSA verification. -/
  | verify (init n slot : Nat) (irq : Bool)
  /-- ECDH (R593). A key channel derives an HMAC child by ECDH. -/
  | ecdh (init n slot : Nat) (irq : Bool)
  /-- KDF (R592). A key channel derives a child under SP 800-108. -/
  | kdf (init n slot : Nat) (irq : Bool)
  /-- HKDF (R593). A key channel derives a child under HKDF. -/
  | hkdf (init n slot : Nat) (irq : Bool)
  /-- CHAL (R602). A key channel computes the outsider challenge response. -/
  | chal (init n slot : Nat) (irq : Bool)
  /-- LOAD (R588). A key channel unwraps a blob into a pending copy. -/
  | load (init n slot : Nat) (irq : Bool)
  /-- COMMIT (R595). A key channel commits a verified pending copy. -/
  | commit (init n : Nat) (irq : Bool)
  /-- INVAL (R598). A key channel invalidates a slot. -/
  | inval (init n : Nat) (irq : Bool)
  /-- SHA256 (R584). A key channel hashes with SHA-256. -/
  | sha256 (init n : Nat) (irq : Bool)
  /-- SHA384 (R584). A key channel hashes with SHA-384. -/
  | sha384 (init n : Nat) (irq : Bool)
  /-- KEY_OP_ABORT (R587). A write of ABORT stops the channel's operation at its safe point. -/
  | keyOpAbort (init n : Nat)
  /-- KEY_OP_COMPLETE (R586). A key operation completes and sets DONE with its CODE. -/
  | keyOpComplete (n : Nat) (found : KeyFinding)
  /-- KEY_OP_RELEASE (R613). The owner clears DONE and frees the channel. -/
  | keyOpRelease (init n : Nat)
  /-- TAMPER (R573). A tamper source trips; the anchor and security SRAM are cleared and the core die reset. -/
  | tamper (cause : Nat) (value : Int) (ns : Nat) (x : BootIn)
  /-- VKEEP_LOSS (R571). VKEEP below 1.8 V for 10 µs clears the anchor and its marker. -/
  | vkeepLoss (mv ns : Nat) (x : BootIn)
  /-- IDCODE (R617). The TAP selects the IDCODE register. -/
  | idcode
  /-- SAMPLE_PRELOAD (R616). The TAP selects the boundary scan register for sampling. -/
  | samplePreload (lands : List Nat)
  /-- EXTEST (R618). At FULL, EXTEST drives the boundary scan and stops the Treadle. -/
  | extest (lands : List Nat)
  /-- DTMCS (R616). The TAP selects the RISC-V debug transport control register. -/
  | dtmcs
  /-- DMI (R619). The TAP selects the debug module interface. -/
  | dmi (o : DmiOp)
  /-- DBGCHAL (R622). DBGCHAL requests a level and returns a NONCE challenge. -/
  | dbgchal (level nonce : Nat)
  /-- DBGRESP (R622). DBGRESP checks the response and raises the level or counts a failure. -/
  | dbgresp (resp : List Byte)
  /-- DBGSTAT (R616). The TAP selects the image of DBG_STAT. -/
  | dbgstat
  /-- WAKEREQ (R630). WAKEREQ wakes the module from STANDBY or HIBERNATE. -/
  | wakereq (bit : Bool)
  /-- BYPASS (R616). The TAP selects BYPASS. -/
  | bypass
  /-- NTRST (R616). NTRST low resets the TAP and sets the level to CLOSED. -/
  | ntrst
  /-- NONCE_EXPIRY (R623). A NONCE lapses 60 s after it was issued. -/
  | nonceExpiry
  /-- DBG_LOCKOUT_END (R623). The 300 s unlock lockout ends. -/
  | dbgLockoutEnd
  /-- DBG_CLOSE (R624). A write of DBG_CTL.CLOSE lowers the level to CLOSED. -/
  | dbgClose (init : Nat)
  /-- REC_TRIG (R650). A context writes REC_TRIG to trigger a code of its own range. -/
  | recTrig (init code : Nat)
  /-- BUCKET_TOKEN (R652). A bucket gains one token every FILL ms. -/
  | bucketToken (b : Nat)
  /-- REC_RING_WRITE (R654). The recorder writes the next staged record into the ring. -/
  | recRingWrite
  /-- REC_CURSOR (R658). A write of REC_CUR selects a slot and checks its CRC. -/
  | recCursor (init seq : Nat)
  /-- OPTIME_TICK (R643). The operating-time count advances every 1/64 s while SYS is on. -/
  | optimeTick
  /-- OPTIME_SAVE (R643). Every 64 s the operating time is saved to MRAM. -/
  | optimeSave
  /-- STAGING_LOCK_LAPSE (R675). 60 s without an accepted command discards the item and frees the lock. -/
  | stagingLockLapse
  /-- ACTIVATION_TIME (R681). The activation time arrives and the commit point is made, or the module is not ready. -/
  | activationTime (supplyOk : Bool)
  /-- UPD_CONFIRM (R685). A C0 context writes UPD_CONFIRM and confirms the item on probation. -/
  | updConfirm (init key : Nat)
  /-- CONFIRM_EXPIRY (R688). The confirm window expires and the module falls back. -/
  | confirmExpiry
  /-- ORDERED_RESTART (R717). 100 ms after an order the core die restarts with a full capture. -/
  | orderedRestart (x : BootIn)
  /-- POWER_ON_RESET (R706). KL30 rises above 5.0 V and the module starts from power-on. -/
  | powerOnReset
  /-- STARTUP_TIMEOUT (R716). The 2 s start-up timer expires and PWR resets the core die. -/
  | startupTimeout (x : BootIn)
  /-- BROWN_OUT (R717). VSUP_LOG below 4.3 V for 5 µs resets the core die. -/
  | brownOut
  /-- NRST (R763). NRST low for three samples resets the core die. -/
  | nrst (x : BootIn)
  /-- POWER_OFF (R706). KL30 below 4.0 V for 100 µs removes AON and the module is OFF. -/
  | powerOff
  /-- VSUP_LOW (R721). VSUP_LOG below 4.6 V sets VLOW and makes a short capture. -/
  | vsupLow
  /-- VSUP_HIGH (R721). VSUP_LOG above 5.6 V sets VHIGH. -/
  | vsupHigh
  /-- VKEEP_LOW (R723). VKEEP below 2.2 V sets VKLOW. -/
  | vkeepLow
  /-- CORE_TEMP_HIGH (R771). The core-die junction above 125 °C sets PWR_EVT.TEMP. -/
  | coreTempHigh
  /-- CLOCK_CHECK (R709). Every 1 ms PWR measures the reference against the guardian oscillator. -/
  | clockCheck (ppm : Int)
  /-- DOZE_ENTER (R700). A C0 context writes PWR_REQ 1 and the module enters DOZE. -/
  | dozeEnter (init : Nat)
  /-- DOZE_EXIT (R700). A C0 context writes PWR_REQ 0 and the module returns to RUN. -/
  | dozeExit (init : Nat)
  /-- STANDBY_REQUEST (R701). ALLSLEEP rises and PWR starts the STANDBY delay. -/
  | standbyRequest
  /-- STANDBY_COMMIT (R701). The delay ends with nothing holding and the STANDBY commit point is made. -/
  | standbyCommit
  /-- STANDBY_CAPTURE_DONE (R701). The capture completes, domains turn off and SUP_EN falls. -/
  | standbyCaptureDone
  /-- HIBERNATE_ENTRY (R703). HIBAFTER minutes in STANDBY pass and the module enters HIBERNATE. -/
  | hibernateEntry
  /-- WAKE_FROM_STANDBY (R704). A wake in STANDBY or HIBERNATE latches NMW_WAKESRC and runs start-up. -/
  | wakeFromStandby (cause cluster unit : Nat) (rising : Bool)
  /-- PWR_HOLD_TAKE (R702). A write of PWR_HOLD.HOLD 1 takes or renews a lease. -/
  | pwrHoldTake (init : Nat)
  /-- PWR_HOLD_RELEASE (R702). A write of PWR_HOLD.HOLD 0 releases a lease. -/
  | pwrHoldRelease (init : Nat)
  /-- PWR_LEASE_LAPSE (R702). A lease lapses 10 s after its last write. -/
  | pwrLeaseLapse (c : Nat)
  /-- DOMAIN_RESET (R719). A write of PWR_DRST resets one domain. -/
  | domainReset (init k : Nat)
  /-- BUS_DIE_RESET (R720). A bus-link fault or bus-die brown-out resets the bus die. -/
  | busDieReset
  /-- WATCHDOG_KICK (R722). A write of the key to PWR_WDKICKh restarts the count. -/
  | watchdogKick (init h key : Nat)
  /-- WATCHDOG_WARNING (R722). The count passes 75 % of PERIOD and sets WDWARN. -/
  | watchdogWarning (h : Nat)
  /-- WATCHDOG_EXPIRY (R722). The count reaches PERIOD and resets the hart's domain or the core die. -/
  | watchdogExpiry (h : Nat) (x : BootIn)
  /-- FAULT_WINDOW_CLOSE (R727). A fault window closes below THRESH and its count returns to 0. -/
  | faultWindowClose (c : CounterId)
  /-- MEMORY_ROW_FAIL (R734). A memory row error counts toward repair, or a segment is withdrawn. -/
  | memoryRowFail (addr : Nat) (unc : Bool)
  /-- CORE_ERROR (R731). An application core error counts and restarts its partition. -/
  | coreError (j : Nat)
  /-- CAN_CONTROLLER_ERROR (R731). A CAN controller error counts and restarts the controller. -/
  | canControllerError (u : Nat)
  /-- NOR_VERIFY_FAIL (R736). A NOR erase or program fails, is retried, and at THRESH the sector is remapped. -/
  | norVerifyFail (n : Nat)
  /-- BUS_LINK_CRC_ERROR (R737). A bus-link frame fails CRC and is repeated, counting toward a bus-die reset. -/
  | busLinkCrcError
  /-- REGISTER_WRITE (R10). A write to a register without a row of its own acts by its access code, RWL locks
  included. -/
  | registerWrite (init addr width value : Nat)
  /-- RC_FIELD_READ (R12). A read of an RC field returns its value and then clears it. -/
  | rcFieldRead (init addr width : Nat)
  /-- REGULATION_END (R258). The output current falls below the limit in force and the limiter stops regulating,
  clearing LIMITING and breaking the DWELL run. -/
  | regulationEnd (m cur : Nat)
  /-- OWN_OSCILLATOR_PICK (R316). During a hand-over the keeper counts a pick on its own oscillator at the last
  measured period and releases waiting starts. -/
  | ownOscillatorPick (b : Nat)
  /-- BUS_INTEGRATION_COMPLETE (R509). A CAN controller that is integrating sees 11 recessive bit times and becomes
  error active, leaving ignore mode or completing a spare substitution. -/
  | busIntegrationComplete (c : Nat)
  /-- HOLDER_EXPIRY (R516). A node's last AWAKE = 1 message becomes older than SWAIT and the node leaves the cluster's
  holder set, which can begin a single-holder stretch. -/
  | holderExpiry (k node : Nat)
  /-- SLEEP_COMMIT_STEP_END (R507). The commit step in progress ends while a wake after commit is held, and the
  cluster's members are started into WAKING. -/
  | sleepCommitStepEnd (k : Nat)
  /-- BRG_WRITE_STALL_END (R469). A window write stalled on a full posted-write buffer reaches 2 µs without a free
  entry and ends in an access fault with FULL set. -/
  | brgWriteStallEnd (h : Nat)
  /-- VSUP_LOG_GOOD (R715). VSUP_LOG rises above 4.75 V and start-up continues from step 3 to power SYS and boot. -/
  | vsupLogGood (x : BootIn)
  /-- UPD_CLOSE_COMPLETE (R678). The checks of a closed image, deck or card set finish, and the item is staged, armed
  or rejected with the final reply. -/
  | updCloseComplete (x : CloseIn)
  /-- LC_TRANSITION_COMPLETE (R607). The life-cycle record is committed with the new state, LCBUSY clears, the final
  reply is sent and the restart is ordered. -/
  | lcTransitionComplete
  /-- RING_ERASE_COMPLETE (R661). Every ring slot is zeroed, record 0x0030 is written, CLEARING returns to 0 and the
  final reply is sent. -/
  | ringEraseComplete
  /-- DOMAIN_RESET_DONE (R719). A reset domain restarts, sets DRDONE and raises source 409; after a TRD reset the
  Treadle restarts at ACQUIRE. -/
  | domainResetDone (k : Nat)
  /-- UNCORRECTABLE_TABLE_READ (R150). A table prefetch finds an uncorrectable error and drops the entry as a C0 drop.
  -/
  | uncorrectableTableRead (idx : Nat)
deriving DecidableEq, Repr

end Sys2Proof
end

