-- ==== Sys2Proof/Decode.lean ====
section
/-! DEFINITION. The words of commands. The operation table gives no command any bits: commands come from the buses, the pins,
the links and the clock, and the specification gives them no common encoding. So no word spells a command. -/

namespace Sys2Proof

/-- The command that a word spells by the table's bits: none, since no row of the table has bits. -/
def decodeTableWord (_nbits _w : Nat) : Option Instr := none

end Sys2Proof
end

