-- ==== Sys2Proof/Config.lean ====
section
/-! DEFINITION. What the specification leaves open: free values, constants without a body, which no proof can see. -/

namespace Sys2Proof.Config

/-- A free value of `w` bits: the `n`-th fresh value the block needs (log entry 5). Nothing constrains it. -/
opaque freeValue (w n : Nat) : BitVec w

/-- The number by which the module names something that the specification numbers no further (log entry 5): 0 the core
record and 1 the signal image as parts of code 0x0608; 3 the APLIC priority of every source; 4 to 9 the causes of code
0x0513. -/
opaque openCode (n : Nat) : BitVec 32

/-- Byte `j` of what the module's own storage keys produce at their `n`-th use: ciphertext, and from `j` = 2^32 on an
authentication code (R66, log entry 56). -/
opaque sealedByte (n j : Nat) : BitVec 8

/-- P-256 and P-384 (`big`), which the specification names and does not define (log entry 63): the public key of a private one, X then
Y; the X coordinate of the secret that a private key shares with a public one; and the signature, r then s, of a digest under a
private key with a nonce (R529, R584, R593). -/
opaque ecPublic (big : Bool) (priv : Nat) : Nat

opaque ecShared (big : Bool) (priv pub : Nat) : Nat

opaque ecSign (big : Bool) (priv digest nonce : Nat) : Nat

/-- AES, which the specification names and does not define (log entry 63): byte `j` of the ciphertext and then the tag of AES-GCM, and
AES-CMAC (R584, R591, R592). -/
opaque aesGcm (key iv aad plain : List (BitVec 8)) (j : Nat) : BitVec 8

opaque aesCmac (key msg : List (BitVec 8)) : BitVec 128

/-- The length of the label of a KDF or the salt of an HKDF at AUX, up to 64 bytes, which no field of the descriptor gives (R583, R584,
log entry 63). -/
opaque auxLength : Fin 65

/-- The factory secret in the fuses, unique per part (R569, R577, log entry 63). -/
opaque factorySecret : BitVec 256

/-- Where the bobbin pool of 768 KB begins within its region of 1 MB, in rows of 1 KB (R28, R209, log entry 5). -/
opaque poolStart : Fin 257

end Sys2Proof.Config
end

