-- ==== Sys2Proof/Machine/Regs.lean ====
section
/-! DEFINITION. The register table: one definition per register field of the specification, with its
address, place, width, access code (R10), reset value (R16) and Kept mark (R17), and the lists of the
fields of each block (R29). Every value here is the specification's own table entry. -/

namespace Sys2Proof.Machine

/-- The access codes of R10. -/
inductive Access
  | rw | ro | w1c | w1s | wo | rc | rwl
deriving DecidableEq, Repr

/-- How a field's reset value is given (R16). -/
inductive ResetRule
  /-- one value for every instance -/
  | fixed (n : Nat)
  /-- the instance's own index within its block ("Own index", R289 and R379) -/
  | ownIndex (modulus : Nat)
  /-- the class of the load channel by its index in the bank (R240, R289) -/
  | chClass
  /-- the cells of the load channel: 4 for class H, 0 otherwise (R292) -/
  | chCells
deriving DecidableEq, Repr

/-- One register field. Instance `i` of the register lies at
`base + (i / group) * gstride + (i % group) * stride`; registers that each hart holds for itself keep
their copies apart by a `gstride` above the 32-bit address space. -/
structure Field where
  base : Nat
  lsb : Nat
  width : Nat
  acc : Access
  rst : ResetRule
  kept : Bool := false
  count : Nat := 1
  stride : Nat := 0
  group : Nat := 1
  gstride : Nat := 0
deriving DecidableEq, Repr

/-- The address of instance `i` (for a per-hart register, above the address space by the hart). -/
def Field.addr (f : Field) (i : Nat) : Nat :=
  f.base + (i / f.group) * f.gstride + (i % f.group) * f.stride

/-- The index under which the register file holds the field: its address and its lowest bit. -/
def Field.key (f : Field) (i : Nat) : Nat := f.addr i * 32 + f.lsb

/-- The reset value of instance `i` (R16). -/
def Field.resetVal (f : Field) (i : Nat) : Nat :=
  match f.rst with
  | .fixed n => n
  | .ownIndex m => i % m
  | .chClass => if i % 16 < 2 then 0 else if i % 16 < 8 then 1 else 2
  | .chCells => if i % 16 < 2 then 4 else 0

/-- R5: Variant number -/
def SYSCTL_PARTID_PART : Field where
  base := 0x40000000; lsb := 16; width := 16; acc := .ro; rst := .fixed 34880; kept := true

/-- R5: Number of power dies fitted -/
def SYSCTL_PARTID_BANKS : Field where
  base := 0x40000000; lsb := 12; width := 4; acc := .ro; rst := .fixed 4; kept := true

/-- R5: 0x1 = grade E; other values are not issued -/
def SYSCTL_PARTID_GRADE : Field where
  base := 0x40000000; lsb := 8; width := 4; acc := .ro; rst := .fixed 1; kept := true

/-- R5: Stepping letter: 0x1 = A, 0x2 = B -/
def SYSCTL_PARTID_STEP_LTR : Field where
  base := 0x40000000; lsb := 4; width := 4; acc := .ro; rst := .fixed 2; kept := true

/-- R5: Stepping digit -/
def SYSCTL_PARTID_STEP_NUM : Field where
  base := 0x40000000; lsb := 0; width := 4; acc := .ro; rst := .fixed 0; kept := true

/-- R83: Code of the last rejection or abandonment; 0x0000 none -/
def SYSCTL_DECKSTAT_REJ_CODE : Field where
  base := 0x40000040; lsb := 16; width := 16; acc := .ro; rst := .fixed 0

/-- R83: A card set is armed -/
def SYSCTL_DECKSTAT_SWAP_ARMED : Field where
  base := 0x40000040; lsb := 9; width := 1; acc := .ro; rst := .fixed 0

/-- R83: Deck slot running: 0 or 1 -/
def SYSCTL_DECKSTAT_ACT_SLOT : Field where
  base := 0x40000040; lsb := 8; width := 1; acc := .ro; rst := .fixed 0

/-- R83: 0x0 deckless, 0x1 checking at start-up, 0x2 running; others not used -/
def SYSCTL_DECKSTAT_STATE : Field where
  base := 0x40000040; lsb := 0; width := 4; acc := .ro; rst := .fixed 0

/-- R784: A card set was abandoned after arming (R72) -/
def SYSCTL_EVT_SWAPABN : Field where
  base := 0x40000050; lsb := 2; width := 1; acc := .w1c; rst := .fixed 0

/-- R784: A presence report was made (R81) -/
def SYSCTL_EVT_PRESENCE : Field where
  base := 0x40000050; lsb := 1; width := 1; acc := .w1c; rst := .fixed 0

/-- R784: A card swap took effect (R70, step 7) -/
def SYSCTL_EVT_SWAPDONE : Field where
  base := 0x40000050; lsb := 0; width := 1; acc := .w1c; rst := .fixed 0

/-- R116: Picks per line cycle or edges per pick -/
def BEAT_CFG_PER_CYCLE : Field where
  base := 0x40010000; lsb := 16; width := 16; acc := .rwl; rst := .fixed 0

/-- R116: Controller of source 1 or 2 -/
def BEAT_CFG_SRC_UNIT : Field where
  base := 0x40010000; lsb := 8; width := 5; acc := .rwl; rst := .fixed 0

/-- R116: Encoding of R85; 6–7 not used -/
def BEAT_CFG_SOURCE : Field where
  base := 0x40010000; lsb := 0; width := 3; acc := .rwl; rst := .fixed 5

/-- R117: REPEAT_LEN -/
def BEAT_REPLEN_REPEAT_LEN : Field where
  base := 0x40010004; lsb := 0; width := 17; acc := .rwl; rst := .fixed 1

/-- R117: PICK_NS -/
def BEAT_PICKNS_PICK_NS : Field where
  base := 0x40010008; lsb := 0; width := 32; acc := .rwl; rst := .fixed 0x186a0

/-- R117: HOLDOVER_MS -/
def BEAT_HOLDMS_HOLDOVER_MS : Field where
  base := 0x4001000c; lsb := 0; width := 14; acc := .rwl; rst := .fixed 0

/-- R117: STEP_BOUND_NS -/
def BEAT_STEPB_STEP_BOUND_NS : Field where
  base := 0x40010010; lsb := 0; width := 32; acc := .rwl; rst := .fixed 0xc350

/-- R117: MIN_NS, R88; the reset value is 100,000 − 97 = 99,903 ns -/
def BEAT_MINPICK_MIN_NS : Field where
  base := 0x40010014; lsb := 0; width := 32; acc := .ro; rst := .fixed 0x1863f

/-- R117: PICK, the pick in progress -/
def BEAT_PICK : Field where
  base := 0x40010024; lsb := 0; width := 16; acc := .ro; rst := .fixed 0

/-- R117: REPCNT, the repeat count -/
def BEAT_REPCNT : Field where
  base := 0x40010028; lsb := 0; width := 32; acc := .ro; rst := .fixed 0

/-- R117: PERIOD, the measured pick period in 1/16 ns; Kept Yes -/
def BEAT_PERIOD : Field where
  base := 0x4001002c; lsb := 0; width := 32; acc := .ro; rst := .fixed 0; kept := true

/-- R117: PHERR in ns, two's complement, positive when picks lag the source -/
def BEAT_PHERR : Field where
  base := 0x40010030; lsb := 0; width := 32; acc := .ro; rst := .fixed 0

/-- R117: LEFT_MS, holdover remaining -/
def BEAT_HOLDLEFT_LEFT_MS : Field where
  base := 0x40010034; lsb := 0; width := 14; acc := .ro; rst := .fixed 0

/-- R117: LINE_NS, the last line period -/
def BEAT_LINEPER_LINE_NS : Field where
  base := 0x40010038; lsb := 0; width := 32; acc := .ro; rst := .fixed 0

/-- R117: POSCNT, the net edge count, two's complement -/
def BEAT_POSCNT : Field where
  base := 0x4001003c; lsb := 0; width := 32; acc := .ro; rst := .fixed 0

/-- R117: ACC_ERR, access errors of the block, saturating -/
def BEAT_ACCERR_ACC_ERR : Field where
  base := 0x40010058; lsb := 0; width := 16; acc := .rc; rst := .fixed 0

/-- R117: Debounced state of SW0–SW31 -/
def BEAT_SWSTATE_SW : Field where
  base := 0x40010200; lsb := 0; width := 32; acc := .ro; rst := .fixed 0

/-- R117: Raw comparator of SW0–SW31 -/
def BEAT_SWRAW_SW : Field where
  base := 0x40010204; lsb := 0; width := 32; acc := .ro; rst := .fixed 0

/-- R117: Debounced level of WAKE0–WAKE7 -/
def BEAT_WKSTATE_WK : Field where
  base := 0x40010208; lsb := 0; width := 8; acc := .ro; rst := .fixed 0

/-- R117: Change flags of SW0–SW31 -/
def BEAT_SWEVT_SW : Field where
  base := 0x40010210; lsb := 0; width := 32; acc := .w1c; rst := .fixed 0

/-- R117: Window flags of AIN0–AIN15 -/
def BEAT_AINEVT_AIN : Field where
  base := 0x40010214; lsb := 0; width := 16; acc := .w1c; rst := .fixed 0

/-- R117: VOLT, latched voltage, 10 mV per code -/
def BEAT_SWV_VOLT : Field where
  base := 0x40010280; lsb := 0; width := 12; acc := .ro; rst := .fixed 0; count := 32; stride := 0x4; group := 32; gstride := 0x0

/-- R117: CODE, latched conversion -/
def BEAT_AIN_CODE : Field where
  base := 0x40010300; lsb := 0; width := 12; acc := .ro; rst := .fixed 0; count := 16; stride := 0x4; group := 16; gstride := 0x0

/-- R118: Qualifying references seen since the last loss, saturating at 255 -/
def BEAT_STAT_QUAL_CNT : Field where
  base := 0x40010020; lsb := 16; width := 8; acc := .ro; rst := .fixed 0

/-- R118: Source the pick timing follows; 5 in ACQUIRE, HOLDOVER and IDLE -/
def BEAT_STAT_RUN_SRC : Field where
  base := 0x40010020; lsb := 8; width := 3; acc := .ro; rst := .fixed 5

/-- R118: 0 ACQUIRE, 1 LOCKED, 2 HOLDOVER, 3 IDLE -/
def BEAT_STAT_STATE : Field where
  base := 0x40010020; lsb := 0; width := 2; acc := .ro; rst := .fixed 0

/-- R119: Source out of range -/
def BEAT_EVT_RANGE : Field where
  base := 0x40010040; lsb := 7; width := 1; acc := .w1c; rst := .fixed 0

/-- R119: Illegal transition or rate violation -/
def BEAT_EVT_QUAD_ERR : Field where
  base := 0x40010040; lsb := 6; width := 1; acc := .w1c; rst := .fixed 0

/-- R119: Repeat ended without an index -/
def BEAT_EVT_IDX_MISS : Field where
  base := 0x40010040; lsb := 5; width := 1; acc := .w1c; rst := .fixed 0

/-- R119: Idle card left -/
def BEAT_EVT_IDLE_OUT : Field where
  base := 0x40010040; lsb := 4; width := 1; acc := .w1c; rst := .fixed 0

/-- R119: Idle card entered -/
def BEAT_EVT_IDLE_IN : Field where
  base := 0x40010040; lsb := 3; width := 1; acc := .w1c; rst := .fixed 0

/-- R119: Phase step -/
def BEAT_EVT_STEP : Field where
  base := 0x40010040; lsb := 2; width := 1; acc := .w1c; rst := .fixed 0

/-- R119: Source qualified -/
def BEAT_EVT_ACQ : Field where
  base := 0x40010040; lsb := 1; width := 1; acc := .w1c; rst := .fixed 0

/-- R119: Source lost -/
def BEAT_EVT_LOSS : Field where
  base := 0x40010040; lsb := 0; width := 1; acc := .w1c; rst := .fixed 0

/-- R121: R111, R114 or R115 -/
def BEAT_SWCFG_THRESH : Field where
  base := 0x40010100; lsb := 16; width := 16; acc := .rwl; rst := .fixed 0; count := 32; stride := 0x4; group := 32; gstride := 0x0

/-- R121: R111, R114 or R115 -/
def BEAT_AINCFG_THRESH : Field where
  base := 0x40010180; lsb := 16; width := 16; acc := .rwl; rst := .fixed 0; count := 16; stride := 0x4; group := 16; gstride := 0x0

/-- R121: R111, R114 or R115 -/
def BEAT_WKCFG_THRESH : Field where
  base := 0x400101c0; lsb := 16; width := 16; acc := .rwl; rst := .fixed 0; count := 8; stride := 0x4; group := 8; gstride := 0x0

/-- R121: Picks -/
def BEAT_SWCFG_DEBOUNCE : Field where
  base := 0x40010100; lsb := 8; width := 8; acc := .rwl; rst := .fixed 0; count := 32; stride := 0x4; group := 32; gstride := 0x0

/-- R121: Picks -/
def BEAT_AINCFG_DEBOUNCE : Field where
  base := 0x40010180; lsb := 8; width := 8; acc := .rwl; rst := .fixed 0; count := 16; stride := 0x4; group := 16; gstride := 0x0

/-- R121: Picks -/
def BEAT_WKCFG_DEBOUNCE : Field where
  base := 0x400101c0; lsb := 8; width := 8; acc := .rwl; rst := .fixed 0; count := 8; stride := 0x4; group := 8; gstride := 0x0

/-- R121: R109, R113 or R115 -/
def BEAT_SWCFG_MODE : Field where
  base := 0x40010100; lsb := 0; width := 8; acc := .rwl; rst := .fixed 0; count := 32; stride := 0x4; group := 32; gstride := 0x0

/-- R121: R109, R113 or R115 -/
def BEAT_AINCFG_MODE : Field where
  base := 0x40010180; lsb := 0; width := 8; acc := .rwl; rst := .fixed 0; count := 16; stride := 0x4; group := 16; gstride := 0x0

/-- R121: R109, R113 or R115 -/
def BEAT_WKCFG_MODE : Field where
  base := 0x400101c0; lsb := 0; width := 8; acc := .rwl; rst := .fixed 0; count := 8; stride := 0x4; group := 8; gstride := 0x0

/-- R164: Host idle order in force -/
def TRD_STAT_IDLE_HOST : Field where
  base := 0x40020000; lsb := 11; width := 1; acc := .ro; rst := .fixed 0

/-- R164: Run-time C0 conflict -/
def TRD_STAT_IDLE_CONF : Field where
  base := 0x40020000; lsb := 10; width := 1; acc := .ro; rst := .fixed 0

/-- R164: C0 entry dropped -/
def TRD_STAT_IDLE_DROP : Field where
  base := 0x40020000; lsb := 9; width := 1; acc := .ro; rst := .fixed 0

/-- R164: Beat unit in IDLE -/
def TRD_STAT_IDLE_BEAT : Field where
  base := 0x40020000; lsb := 8; width := 1; acc := .ro; rst := .fixed 0

/-- R164: 0 weft lane or overhead, 1 warp lane -/
def TRD_STAT_LANE : Field where
  base := 0x40020000; lsb := 5; width := 1; acc := .ro; rst := .fixed 0

/-- R164: Active table half -/
def TRD_STAT_ACT_HALF : Field where
  base := 0x40020000; lsb := 4; width := 1; acc := .ro; rst := .fixed 0

/-- R164: 0 STOPPED, 1 RUN, 2 IDLE; 3 not used -/
def TRD_STAT_STATE : Field where
  base := 0x40020000; lsb := 0; width := 2; acc := .ro; rst := .fixed 0

/-- R165: An entry with FLG.MARK ran -/
def TRD_EVT_MARKF : Field where
  base := 0x40020040; lsb := 9; width := 1; acc := .w1c; rst := .fixed 0

/-- R165: A card swap took effect -/
def TRD_EVT_SWAPPED : Field where
  base := 0x40020040; lsb := 8; width := 1; acc := .w1c; rst := .fixed 0

/-- R165: An entry was refused (R141) -/
def TRD_EVT_REFUSE : Field where
  base := 0x40020040; lsb := 7; width := 1; acc := .w1c; rst := .fixed 0

/-- R165: Saturation in an entry with SAT_EVT -/
def TRD_EVT_SAT : Field where
  base := 0x40020040; lsb := 6; width := 1; acc := .w1c; rst := .fixed 0

/-- R165: Uncorrectable table read -/
def TRD_EVT_ECC_UNC : Field where
  base := 0x40020040; lsb := 5; width := 1; acc := .w1c; rst := .fixed 0

/-- R165: Corrected table read -/
def TRD_EVT_ECC_COR : Field where
  base := 0x40020040; lsb := 4; width := 1; acc := .w1c; rst := .fixed 0

/-- R165: Idle card left -/
def TRD_EVT_IDLE_OUT : Field where
  base := 0x40020040; lsb := 3; width := 1; acc := .w1c; rst := .fixed 0

/-- R165: Idle card entered -/
def TRD_EVT_IDLE_IN : Field where
  base := 0x40020040; lsb := 2; width := 1; acc := .w1c; rst := .fixed 0

/-- R165: C0 entry dropped -/
def TRD_EVT_DROP_C0 : Field where
  base := 0x40020040; lsb := 1; width := 1; acc := .w1c; rst := .fixed 0

/-- R165: An entry was dropped -/
def TRD_EVT_DROP : Field where
  base := 0x40020040; lsb := 0; width := 1; acc := .w1c; rst := .fixed 0

/-- R166: COUNT, entries in the active half -/
def TRD_ENTRIES_COUNT : Field where
  base := 0x40020004; lsb := 0; width := 17; acc := .ro; rst := .fixed 0

/-- R166: MAX, MAX_PICK of the active half -/
def TRD_MAXPICK_MAX : Field where
  base := 0x40020008; lsb := 0; width := 17; acc := .ro; rst := .fixed 0

/-- R166: SLOTS, B of the pick in progress (R147) -/
def TRD_BUDGET_SLOTS : Field where
  base := 0x4002000c; lsb := 0; width := 17; acc := .ro; rst := .fixed 0

/-- R166: USED, slots used by the last completed pick, charged slots included and overhead excluded -/
def TRD_LASTUSE_USED : Field where
  base := 0x40020010; lsb := 0; width := 17; acc := .ro; rst := .fixed 0

/-- R166: PEAK, the largest USED since the last read -/
def TRD_PEAK : Field where
  base := 0x40020014; lsb := 0; width := 17; acc := .rc; rst := .fixed 0

/-- R166: PICK in which PEAK occurred -/
def TRD_PEAKPICK_PICK : Field where
  base := 0x40020018; lsb := 0; width := 16; acc := .ro; rst := .fixed 0

/-- R166: DROPS, class Cn entries dropped -/
def TRD_DROPS : Field where
  base := 0x40020020; lsb := 0; width := 32; acc := .rc; rst := .fixed 0; count := 4; stride := 0x4; group := 4; gstride := 0x0

/-- R166: PICK of the latest drop -/
def TRD_DROPPICK_PICK : Field where
  base := 0x40020030; lsb := 0; width := 16; acc := .ro; rst := .fixed 0

/-- R166: REPCNT of the latest drop -/
def TRD_DROPREP_REPCNT : Field where
  base := 0x40020034; lsb := 0; width := 32; acc := .ro; rst := .fixed 0

/-- R166: Flag n set by MARK to mark n -/
def TRD_MARKEVT_FLAGS : Field where
  base := 0x40020044; lsb := 0; width := 8; acc := .w1c; rst := .fixed 0

/-- R166: PICK in [31:16] and table INDEX in [15:0] of the last entry that ran with FLG.MARK -/
def TRD_FMARK_PICK : Field where
  base := 0x40020048; lsb := 16; width := 16; acc := .ro; rst := .fixed 0

/-- R166: PICK in [31:16] and table INDEX in [15:0] of the last entry that ran with FLG.MARK -/
def TRD_FMARK_INDEX : Field where
  base := 0x40020048; lsb := 0; width := 16; acc := .ro; rst := .fixed 0

/-- R166: UNC in [31:16], COR in [15:0] -/
def TRD_ECCCNT_UNC : Field where
  base := 0x4002004c; lsb := 16; width := 16; acc := .rc; rst := .fixed 0

/-- R166: UNC in [31:16], COR in [15:0] -/
def TRD_ECCCNT_COR : Field where
  base := 0x4002004c; lsb := 0; width := 16; acc := .rc; rst := .fixed 0

/-- R166: Saturations -/
def TRD_SATCNT_COUNT : Field where
  base := 0x40020050; lsb := 0; width := 32; acc := .rc; rst := .fixed 0

/-- R166: Freshness skips -/
def TRD_SKIPCNT_COUNT : Field where
  base := 0x40020054; lsb := 0; width := 32; acc := .rc; rst := .fixed 0

/-- R166: Substitutions -/
def TRD_SUBSTCNT_COUNT : Field where
  base := 0x40020058; lsb := 0; width := 32; acc := .rc; rst := .fixed 0

/-- R166: Refused entries, and KICKs to empty objects -/
def TRD_REFCNT_COUNT : Field where
  base := 0x4002005c; lsb := 0; width := 32; acc := .rc; rst := .fixed 0

/-- R166: ACC_ERR, access errors of the block -/
def TRD_ACCERR_ACC_ERR : Field where
  base := 0x40020060; lsb := 0; width := 16; acc := .rc; rst := .fixed 0

/-- R166: VAL, ARG[31:0] of the last MARK to mark n -/
def TRD_MARK_VAL : Field where
  base := 0x40020080; lsb := 0; width := 32; acc := .ro; rst := .fixed 0; count := 8; stride := 0x4; group := 8; gstride := 0x0

/-- R199: Refused writes (R179) -/
def TRD_SIGWERR_COUNT : Field where
  base := 0x40021000; lsb := 0; width := 32; acc := .rc; rst := .fixed 0

/-- R199: SIGNAL in [31:16], CTX in [15:0] of the latest refused write -/
def TRD_SIGWLAST_SIGNAL : Field where
  base := 0x40021004; lsb := 16; width := 16; acc := .ro; rst := .fixed 0

/-- R199: SIGNAL in [31:16], CTX in [15:0] of the latest refused write -/
def TRD_SIGWLAST_CTX : Field where
  base := 0x40021004; lsb := 0; width := 16; acc := .ro; rst := .fixed 0

/-- R199: Writes discarded while FORCED -/
def TRD_SIGFDROP_COUNT : Field where
  base := 0x40021008; lsb := 0; width := 32; acc := .rc; rst := .fixed 0

/-- R199: TAKEs beyond the payload -/
def TRD_SIGSHORT_COUNT : Field where
  base := 0x4002100c; lsb := 0; width := 32; acc := .rc; rst := .fixed 0

/-- R199: Ethernet frames from undeclared sources -/
def TRD_SIGUNDECL_COUNT : Field where
  base := 0x40021010; lsb := 0; width := 32; acc := .rc; rst := .fixed 0

/-- R199: Signals judged stale -/
def TRD_SIGSTALE_COUNT : Field where
  base := 0x40021014; lsb := 0; width := 32; acc := .rc; rst := .fixed 0

/-- R199: GCOMMIT: the latest refusal was of a commit, and TRD_SIGWLAST.SIGNAL then holds a group (R179) -/
def TRD_SIGWKIND_GCOMMIT : Field where
  base := 0x40021018; lsb := 0; width := 1; acc := .ro; rst := .fixed 0

/-- R199: GROUP to commit (R182) -/
def TRD_GCOMMIT_GROUP : Field where
  base := 0x40021020; lsb := 0; width := 12; acc := .wo; rst := .fixed 0

/-- R200: Commit accepted, flip not yet made -/
def TRD_GVER_PEND : Field where
  base := 0x40024000; lsb := 16; width := 1; acc := .ro; rst := .fixed 0; count := 4096; stride := 0x4; group := 4096; gstride := 0x0

/-- R200: Flips of group n, modulo 65,536 -/
def TRD_GVER : Field where
  base := 0x40024000; lsb := 0; width := 16; acc := .ro; rst := .fixed 0; count := 4096; stride := 0x4; group := 4096; gstride := 0x0

/-- R201: Signal that triggered last -/
def TRD_WATCH_SIGNAL : Field where
  base := 0x40021100; lsb := 16; width := 16; acc := .ro; rst := .fixed 0; count := 64; stride := 0x4; group := 64; gstride := 0x0

/-- R201: A watched signal was judged stale -/
def TRD_WATCH_STALEF : Field where
  base := 0x40021100; lsb := 1; width := 1; acc := .w1c; rst := .fixed 0; count := 64; stride := 0x4; group := 64; gstride := 0x0

/-- R201: A watched signal's VALUE changed -/
def TRD_WATCH_CHG : Field where
  base := 0x40021100; lsb := 0; width := 1; acc := .w1c; rst := .fixed 0; count := 64; stride := 0x4; group := 64; gstride := 0x0

/-- R234: DECL, declared contexts -/
def CTX_GSTAT_DECL : Field where
  base := 0x40200000; lsb := 0; width := 12; acc := .ro; rst := .fixed 0

/-- R234: UNITS usable -/
def CTX_POOLSIZE_UNITS : Field where
  base := 0x40200004; lsb := 0; width := 14; acc := .ro; rst := .fixed 0x3000

/-- R234: UNITS reserved -/
def CTX_POOLRES_UNITS : Field where
  base := 0x40200008; lsb := 0; width := 14; acc := .ro; rst := .fixed 0

/-- R234: UNITS borrowed -/
def CTX_POOLBOR_UNITS : Field where
  base := 0x4020000c; lsb := 0; width := 14; acc := .ro; rst := .fixed 0

/-- R234: CMD in [31:28] (0x1 reset self, 0x2 run self), CTX in [10:0]; refused unless CTX is the writer's own -/
def CTX_CMD : Field where
  base := 0x40200010; lsb := 28; width := 4; acc := .wo; rst := .fixed 0

/-- R234: CMD in [31:28] (0x1 reset self, 0x2 run self), CTX in [10:0]; refused unless CTX is the writer's own -/
def CTX_CMD_CTX : Field where
  base := 0x40200010; lsb := 0; width := 11; acc := .wo; rst := .fixed 0

/-- R234: ACC_ERR -/
def CTX_ACCERR_ACC_ERR : Field where
  base := 0x40200014; lsb := 0; width := 16; acc := .rc; rst := .fixed 0

/-- R234: Breaches of kind k -/
def CTX_BRCNT_COUNT : Field where
  base := 0x40200020; lsb := 0; width := 32; acc := .rc; rst := .fixed 0; count := 4; stride := 0x4; group := 4; gstride := 0x0

/-- R234: Run-time C0 conflicts -/
def CTX_C0CONF_COUNT : Field where
  base := 0x40200030; lsb := 0; width := 16; acc := .rc; rst := .fixed 0

/-- R234: BOB -/
def CTX_HSEL_BOB : Field where
  base := 0x40200180; lsb := 0; width := 4; acc := .rw; rst := .fixed 0; count := 10; stride := 0x4; group := 10; gstride := 0x0

/-- R234: Any value pops -/
def CTX_HPOP_POP : Field where
  base := 0x402001c0; lsb := 0; width := 32; acc := .wo; rst := .fixed 0; count := 10; stride := 0x4; group := 10; gstride := 0x0

/-- R234: First queue -/
def CTXN_QBASE : Field where
  base := 0x40214000; lsb := 0; width := 13; acc := .ro; rst := .fixed 0; count := 2048; stride := 0x4; group := 2048; gstride := 0x0

/-- R234: ACC, refused accesses -/
def CTXN_FAULT_ACC : Field where
  base := 0x40212000; lsb := 0; width := 16; acc := .rc; rst := .fixed 0; count := 2048; stride := 0x4; group := 2048; gstride := 0x0

/-- R234: PERIOD -/
def CTX_TMRPER_PERIOD : Field where
  base := 0x40230000; lsb := 0; width := 32; acc := .rw; rst := .fixed 0; count := 32; stride := 0x10; group := 32; gstride := 0x0

/-- R234: Remaining count -/
def CTX_TMRCNT_CNT : Field where
  base := 0x40230008; lsb := 0; width := 32; acc := .ro; rst := .fixed 0; count := 32; stride := 0x10; group := 32; gstride := 0x0

/-- R234: DATA; a write rings -/
def CTX_DBRING_DATA : Field where
  base := 0x40231000; lsb := 0; width := 16; acc := .wo; rst := .fixed 0; count := 44; stride := 0x4; group := 44; gstride := 0x0

/-- R234: Bytes 0–3 of the head notice -/
def CTX_NQLO_BYTES : Field where
  base := 0x40232000; lsb := 0; width := 32; acc := .ro; rst := .fixed 0; count := 68; stride := 0x8; group := 68; gstride := 0x0

/-- R234: Bytes 4–7; the read pops -/
def CTX_NQHI_BYTES : Field where
  base := 0x40232004; lsb := 0; width := 32; acc := .rc; rst := .fixed 0; count := 68; stride := 0x8; group := 68; gstride := 0x0

/-- R234: COUNT -/
def CTX_NQSTAT_COUNT : Field where
  base := 0x40232400; lsb := 0; width := 8; acc := .ro; rst := .fixed 0; count := 68; stride := 0x4; group := 68; gstride := 0x0

/-- R234: Lost notices -/
def CTX_NQLOST_COUNT : Field where
  base := 0x40232600; lsb := 0; width := 16; acc := .rc; rst := .fixed 0; count := 68; stride := 0x4; group := 68; gstride := 0x0

/-- R234: DEPTH in force -/
def CTX_QD_DEPTH : Field where
  base := 0x40248000; lsb := 0; width := 14; acc := .ro; rst := .fixed 0; count := 8192; stride := 0x4; group := 8192; gstride := 0x0

/-- R235: A context is running -/
def CTX_HART_VALID : Field where
  base := 0x40200100; lsb := 31; width := 1; acc := .rw; rst := .fixed 0; count := 10; stride := 0x4; group := 10; gstride := 0x0

/-- R235: Binding code of R57; RO on real-time pairs (R207) -/
def CTX_HART_BIND : Field where
  base := 0x40200100; lsb := 16; width := 7; acc := .rw; rst := .fixed 0; count := 10; stride := 0x4; group := 10; gstride := 0x0

/-- R235: Running context -/
def CTX_HART_CTX : Field where
  base := 0x40200100; lsb := 0; width := 11; acc := .rw; rst := .fixed 0; count := 10; stride := 0x4; group := 10; gstride := 0x0

/-- R236: Count of the context's reset counter (R212), 0–3 -/
def CTXN_STAT_RESETS : Field where
  base := 0x40210000; lsb := 25; width := 2; acc := .ro; rst := .fixed 0; count := 2048; stride := 0x4; group := 2048; gstride := 0x0

/-- R236: 0–16 -/
def CTXN_STAT_BOBBINS : Field where
  base := 0x40210000; lsb := 20; width := 5; acc := .ro; rst := .fixed 0; count := 2048; stride := 0x4; group := 2048; gstride := 0x0

/-- R236: Last reset cause (R212); 0 none -/
def CTXN_STAT_CAUSE : Field where
  base := 0x40210000; lsb := 16; width := 4; acc := .ro; rst := .fixed 0; count := 2048; stride := 0x4; group := 2048; gstride := 0x0

/-- R236: Binding code -/
def CTXN_STAT_BIND : Field where
  base := 0x40210000; lsb := 8; width := 8; acc := .ro; rst := .fixed 0; count := 2048; stride := 0x4; group := 2048; gstride := 0x0

/-- R236: C0–C3 -/
def CTXN_STAT_CLASS : Field where
  base := 0x40210000; lsb := 4; width := 2; acc := .ro; rst := .fixed 0; count := 2048; stride := 0x4; group := 2048; gstride := 0x0

/-- R236: 0 NONE, 1 ACTIVE, 2 RESETTING, 3 RESTART, 4 STOPPED -/
def CTXN_STAT_STATE : Field where
  base := 0x40210000; lsb := 0; width := 3; acc := .ro; rst := .fixed 0; count := 2048; stride := 0x4; group := 2048; gstride := 0x0

/-- R237: Records held -/
def CTX_Q_RECS : Field where
  base := 0x40240000; lsb := 16; width := 14; acc := .ro; rst := .fixed 0; count := 8192; stride := 0x4; group := 8192; gstride := 0x0

/-- R237: DEPTH reduced (R231) -/
def CTX_Q_SHRUNK : Field where
  base := 0x40240000; lsb := 15; width := 1; acc := .w1c; rst := .fixed 0; count := 8192; stride := 0x4; group := 8192; gstride := 0x0

/-- R237: A record was discarded (R209) -/
def CTX_Q_OVF : Field where
  base := 0x40240000; lsb := 14; width := 1; acc := .w1c; rst := .fixed 0; count := 8192; stride := 0x4; group := 8192; gstride := 0x0

/-- R237: Units held, borrowed included -/
def CTX_Q_USED : Field where
  base := 0x40240000; lsb := 0; width := 14; acc := .ro; rst := .fixed 0; count := 8192; stride := 0x4; group := 8192; gstride := 0x0

/-- R238: Timer reached zero -/
def CTX_TMRCFG_EXP : Field where
  base := 0x40230004; lsb := 3; width := 1; acc := .w1c; rst := .fixed 0; count := 32; stride := 0x10; group := 32; gstride := 0x0

/-- R238: 0 µs, 1 picks -/
def CTX_TMRCFG_UNIT : Field where
  base := 0x40230004; lsb := 2; width := 1; acc := .rw; rst := .fixed 0; count := 32; stride := 0x10; group := 32; gstride := 0x0

/-- R238: 0 off, 1 one-shot, 2 periodic; 3 not used -/
def CTX_TMRCFG_MODE : Field where
  base := 0x40230004; lsb := 0; width := 2; acc := .rw; rst := .fixed 0; count := 32; stride := 0x10; group := 32; gstride := 0x0

/-- R238: DATA of the last ring -/
def CTX_DBSTAT_DATA : Field where
  base := 0x40231100; lsb := 16; width := 16; acc := .ro; rst := .fixed 0; count := 44; stride := 0x4; group := 44; gstride := 0x0

/-- R238: Context of the last ring -/
def CTX_DBSTAT_FROM : Field where
  base := 0x40231100; lsb := 5; width := 11; acc := .ro; rst := .fixed 0; count := 44; stride := 0x4; group := 44; gstride := 0x0

/-- R238: Rung while pending -/
def CTX_DBSTAT_OVR : Field where
  base := 0x40231100; lsb := 1; width := 1; acc := .w1c; rst := .fixed 0; count := 44; stride := 0x4; group := 44; gstride := 0x0

/-- R238: Rung -/
def CTX_DBSTAT_PEND : Field where
  base := 0x40231100; lsb := 0; width := 1; acc := .w1c; rst := .fixed 0; count := 44; stride := 0x4; group := 44; gstride := 0x0

/-- R785: A notice was lost at a full queue (R223) -/
def CTX_EVT_NQLOST : Field where
  base := 0x40200034; lsb := 2; width := 1; acc := .w1c; rst := .fixed 0

/-- R785: A promise was broken (R230) -/
def CTX_EVT_BREACH : Field where
  base := 0x40200034; lsb := 1; width := 1; acc := .w1c; rst := .fixed 0

/-- R785: A context changed state (R216) -/
def CTX_EVT_STATECHG : Field where
  base := 0x40200034; lsb := 0; width := 1; acc := .w1c; rst := .fixed 0

/-- R289: Bank index of the group lead (R271) -/
def CH_CFG_LEAD : Field where
  base := 0x40301000; lsb := 24; width := 4; acc := .rwl; rst := .ownIndex 16; kept := true; count := 64; stride := 0x80; group := 16; gstride := 0x10000

/-- R289: 0 pick boundary, 1 mid high time (R277); 2–3 not used -/
def CH_CFG_SENSE : Field where
  base := 0x40301000; lsb := 18; width := 2; acc := .rwl; rst := .fixed 0; kept := true; count := 64; stride := 0x80; group := 16; gstride := 0x10000

/-- R289: R268; 3 not used -/
def CH_CFG_OLMODE : Field where
  base := 0x40301000; lsb := 16; width := 2; acc := .rwl; rst := .fixed 0; kept := true; count := 64; stride := 0x80; group := 16; gstride := 0x10000

/-- R289: Open-load filter, 1–255 ms -/
def CH_CFG_OLFILT : Field where
  base := 0x40301000; lsb := 8; width := 8; acc := .rwl; rst := .fixed 0xa; kept := true; count := 64; stride := 0x80; group := 16; gstride := 0x10000

/-- R289: 1 slow slew (R247) -/
def CH_CFG_SLOW : Field where
  base := 0x40301000; lsb := 2; width := 1; acc := .rwl; rst := .fixed 0; kept := true; count := 64; stride := 0x80; group := 16; gstride := 0x10000

/-- R289: 0 H, 1 M, 2 L; 3 not used -/
def CH_CFG_CLS : Field where
  base := 0x40301000; lsb := 0; width := 2; acc := .ro; rst := .chClass; kept := true; count := 64; stride := 0x80; group := 16; gstride := 0x10000

/-- R290: Regulation before trip, in 10 µs, 1–1,000 -/
def CH_LIM_DWELL : Field where
  base := 0x40301004; lsb := 16; width := 10; acc := .rwl; rst := .fixed 0x64; kept := true; count := 64; stride := 0x80; group := 16; gstride := 0x10000

/-- R290: Normal limit in 0.1 A; H 200–600, M 60–250, L 20–90 -/
def CH_LIM_LIMIT : Field where
  base := 0x40301004; lsb := 0; width := 10; acc := .rwl; rst := .fixed 0; kept := true; count := 64; stride := 0x80; group := 16; gstride := 0x10000

/-- R290: Window in 0.1 ms; H 0–2,000, M 0–1,000, L 0–500 -/
def CH_INRUSH_WIN : Field where
  base := 0x40301008; lsb := 16; width := 11; acc := .rwl; rst := .fixed 0; kept := true; count := 64; stride := 0x80; group := 16; gstride := 0x10000

/-- R290: Inrush limit in 0.1 A; LIMIT to 1,200 (H), 600 (M), 240 (L) -/
def CH_INRUSH_ILIM : Field where
  base := 0x40301008; lsb := 0; width := 11; acc := .rwl; rst := .fixed 0; kept := true; count := 64; stride := 0x80; group := 16; gstride := 0x10000

/-- R290: Time constant in 0.1 s, 5–10,000 -/
def CH_WIRE_TAU : Field where
  base := 0x4030100c; lsb := 16; width := 14; acc := .rwl; rst := .fixed 0; kept := true; count := 64; stride := 0x80; group := 16; gstride := 0x10000

/-- R290: Rated current in 0.05 A, from 10 to the class pin capacity, or for a lead the sum over its group -/
def CH_WIRE_IRATED : Field where
  base := 0x4030100c; lsb := 0; width := 12; acc := .rwl; rst := .fixed 0; kept := true; count := 64; stride := 0x80; group := 16; gstride := 0x10000

/-- R290: Recovery hysteresis, 5–30 K -/
def CH_THERM_HYST : Field where
  base := 0x40301010; lsb := 8; width := 8; acc := .rwl; rst := .fixed 0xa; kept := true; count := 64; stride := 0x80; group := 16; gstride := 0x10000

/-- R290: Thermal-shock limit, 20–80 K -/
def CH_THERM_DTMAX : Field where
  base := 0x40301010; lsb := 0; width := 8; acc := .rwl; rst := .fixed 0x3c; kept := true; count := 64; stride := 0x80; group := 16; gstride := 0x10000

/-- R290: 0 1 ms, 1 100 ms, 2 10 s; 3 not used -/
def CH_FAULT_WUNIT : Field where
  base := 0x40301014; lsb := 30; width := 2; acc := .rwl; rst := .fixed 0; kept := true; count := 64; stride := 0x80; group := 16; gstride := 0x10000

/-- R290: Window in units of WUNIT (R266) -/
def CH_FAULT_WIN : Field where
  base := 0x40301014; lsb := 16; width := 14; acc := .rwl; rst := .fixed 0; kept := true; count := 64; stride := 0x80; group := 16; gstride := 0x10000

/-- R290: Retry delay, 0–255 ms -/
def CH_FAULT_RETRY : Field where
  base := 0x40301014; lsb := 8; width := 8; acc := .rwl; rst := .fixed 0; kept := true; count := 64; stride := 0x80; group := 16; gstride := 0x10000

/-- R290: 1–255 -/
def CH_FAULT_THRESH : Field where
  base := 0x40301014; lsb := 0; width := 8; acc := .rwl; rst := .fixed 0; kept := true; count := 64; stride := 0x80; group := 16; gstride := 0x10000

/-- R291: Deck marks the channel for HOLD -/
def CH_FAIL_HMARK : Field where
  base := 0x40301018; lsb := 18; width := 1; acc := .rwl; rst := .fixed 0; kept := true; count := 64; stride := 0x80; group := 16; gstride := 0x10000

/-- R291: 0 OFF, 1 ON, 2 HOLD; 3 not used -/
def CH_FAIL_FSTATE : Field where
  base := 0x40301018; lsb := 16; width := 2; acc := .rwl; rst := .fixed 0; kept := true; count := 64; stride := 0x80; group := 16; gstride := 0x10000

/-- R291: Hold time, 0–2,000 ms -/
def CH_FAIL_HOLDMS : Field where
  base := 0x40301018; lsb := 0; width := 11; acc := .rwl; rst := .fixed 0x1f4; kept := true; count := 64; stride := 0x80; group := 16; gstride := 0x10000

/-- R291: Owning context, 0–2,047; 0xFFFF unused (R248) -/
def CH_OWNER : Field where
  base := 0x4030101c; lsb := 0; width := 16; acc := .rwl; rst := .fixed 0xffff; kept := true; count := 64; stride := 0x80; group := 16; gstride := 0x10000

/-- R292: 0 OFF, 1 WAIT, 2 INRUSH, 3 ON, 4 COOL, 5 LATCHED, 6 LOCKED; 7 not used -/
def CH_STAT_STATE : Field where
  base := 0x40301020; lsb := 29; width := 3; acc := .ro; rst := .fixed 0; kept := true; count := 64; stride := 0x80; group := 16; gstride := 0x10000

/-- R292: Manual drive in progress -/
def CH_STAT_MAN : Field where
  base := 0x40301020; lsb := 28; width := 1; acc := .ro; rst := .fixed 0; kept := true; count := 64; stride := 0x80; group := 16; gstride := 0x10000

/-- R292: Limiter regulating now -/
def CH_STAT_LIMITING : Field where
  base := 0x40301020; lsb := 27; width := 1; acc := .ro; rst := .fixed 0; kept := true; count := 64; stride := 0x80; group := 16; gstride := 0x10000

/-- R292: H cells in service -/
def CH_STAT_CELLS : Field where
  base := 0x40301020; lsb := 24; width := 3; acc := .ro; rst := .chCells; kept := true; count := 64; stride := 0x80; group := 16; gstride := 0x10000

/-- R292: Events in the fault window -/
def CH_STAT_FCNT : Field where
  base := 0x40301020; lsb := 16; width := 8; acc := .ro; rst := .fixed 0; kept := true; count := 64; stride := 0x80; group := 16; gstride := 0x10000

/-- R292: Latest trip: 0 none, 1 LIMIT, 2 DT, 3 TJ, 4 WIRE, 5 GROUP -/
def CH_STAT_CAUSE : Field where
  base := 0x40301020; lsb := 12; width := 4; acc := .ro; rst := .fixed 0; kept := true; count := 64; stride := 0x80; group := 16; gstride := 0x10000

/-- R292: An OFF command is awaited (R254) -/
def CH_STAT_NEEDOFF : Field where
  base := 0x40301020; lsb := 11; width := 1; acc := .ro; rst := .fixed 0; kept := true; count := 64; stride := 0x80; group := 16; gstride := 0x10000

/-- R292: Open load found -/
def CH_STAT_OPEN : Field where
  base := 0x40301020; lsb := 10; width := 1; acc := .ro; rst := .fixed 0; kept := true; count := 64; stride := 0x80; group := 16; gstride := 0x10000

/-- R292: Short to battery found -/
def CH_STAT_STB : Field where
  base := 0x40301020; lsb := 9; width := 1; acc := .ro; rst := .fixed 0; kept := true; count := 64; stride := 0x80; group := 16; gstride := 0x10000

/-- R292: Wire level at or above 0.8 -/
def CH_STAT_WARN : Field where
  base := 0x40301020; lsb := 8; width := 1; acc := .ro; rst := .fixed 0; kept := true; count := 64; stride := 0x80; group := 16; gstride := 0x10000

/-- R293: Manual drive ended -/
def CH_EVT_MANEND : Field where
  base := 0x40301024; lsb := 6; width := 1; acc := .w1c; rst := .fixed 0; kept := true; count := 64; stride := 0x80; group := 16; gstride := 0x10000

/-- R293: Invalid command word (R244) -/
def CH_EVT_CMDERR : Field where
  base := 0x40301024; lsb := 5; width := 1; acc := .w1c; rst := .fixed 0; kept := true; count := 64; stride := 0x80; group := 16; gstride := 0x10000

/-- R293: Wire warning -/
def CH_EVT_WARN : Field where
  base := 0x40301024; lsb := 4; width := 1; acc := .w1c; rst := .fixed 0; kept := true; count := 64; stride := 0x80; group := 16; gstride := 0x10000

/-- R293: Short to battery found -/
def CH_EVT_STB : Field where
  base := 0x40301024; lsb := 3; width := 1; acc := .w1c; rst := .fixed 0; kept := true; count := 64; stride := 0x80; group := 16; gstride := 0x10000

/-- R293: Open load found -/
def CH_EVT_OPEN : Field where
  base := 0x40301024; lsb := 2; width := 1; acc := .w1c; rst := .fixed 0; kept := true; count := 64; stride := 0x80; group := 16; gstride := 0x10000

/-- R293: Channel latched off -/
def CH_EVT_LATCH : Field where
  base := 0x40301024; lsb := 1; width := 1; acc := .w1c; rst := .fixed 0; kept := true; count := 64; stride := 0x80; group := 16; gstride := 0x10000

/-- R293: Channel tripped -/
def CH_EVT_TRIP : Field where
  base := 0x40301024; lsb := 0; width := 1; acc := .w1c; rst := .fixed 0; kept := true; count := 64; stride := 0x80; group := 16; gstride := 0x10000

/-- R294: DUTY, duty code in force -/
def CH_CMD_DUTY : Field where
  base := 0x40301028; lsb := 16; width := 16; acc := .ro; rst := .fixed 0; kept := true; count := 64; stride := 0x80; group := 16; gstride := 0x10000

/-- R294: CMD, command word in force -/
def CH_CMD : Field where
  base := 0x40301028; lsb := 0; width := 16; acc := .ro; rst := .fixed 0; kept := true; count := 64; stride := 0x80; group := 16; gstride := 0x10000

/-- R294: PERIOD in force, ticks -/
def CH_PWMPER_PERIOD : Field where
  base := 0x4030102c; lsb := 0; width := 24; acc := .ro; rst := .fixed 0; kept := true; count := 64; stride := 0x80; group := 16; gstride := 0x10000

/-- R294: CODE, latest current (R276) -/
def CH_ISENSE_CODE : Field where
  base := 0x40301030; lsb := 0; width := 12; acc := .ro; rst := .fixed 0; kept := true; count := 64; stride := 0x80; group := 16; gstride := 0x10000

/-- R294: CODE, latest output voltage -/
def CH_VSENSE_CODE : Field where
  base := 0x40301034; lsb := 0; width := 12; acc := .ro; rst := .fixed 0; kept := true; count := 64; stride := 0x80; group := 16; gstride := 0x10000

/-- R294: TJ, junction, 0.125 °C -/
def CH_TEMP_TJ : Field where
  base := 0x40301038; lsb := 16; width := 16; acc := .ro; rst := .fixed 0; kept := true; count := 64; stride := 0x80; group := 16; gstride := 0x10000

/-- R294: DT, ΔT, 0.125 K -/
def CH_TEMP_DT : Field where
  base := 0x40301038; lsb := 0; width := 16; acc := .ro; rst := .fixed 0; kept := true; count := 64; stride := 0x80; group := 16; gstride := 0x10000

/-- R294: PINLEVEL (R263) -/
def CH_WIREST_PINLEVEL : Field where
  base := 0x4030103c; lsb := 16; width := 16; acc := .ro; rst := .fixed 0; kept := true; count := 64; stride := 0x80; group := 16; gstride := 0x10000

/-- R294: LEVEL (R262) -/
def CH_WIREST_LEVEL : Field where
  base := 0x4030103c; lsb := 0; width := 16; acc := .ro; rst := .fixed 0; kept := true; count := 64; stride := 0x80; group := 16; gstride := 0x10000

/-- R294: TRIPS since the last read -/
def CH_CNT_TRIPS : Field where
  base := 0x40301040; lsb := 16; width := 16; acc := .rc; rst := .fixed 0; kept := true; count := 64; stride := 0x80; group := 16; gstride := 0x10000

/-- R294: LATCHES since the last read -/
def CH_CNT_LATCHES : Field where
  base := 0x40301040; lsb := 0; width := 16; acc := .rc; rst := .fixed 0; kept := true; count := 64; stride := 0x80; group := 16; gstride := 0x10000

/-- R294: CLR; 1 clears LATCHED (R253); refused unless tagged with the owner -/
def CH_CLR : Field where
  base := 0x40301044; lsb := 0; width := 1; acc := .wo; rst := .fixed 0; kept := true; count := 64; stride := 0x80; group := 16; gstride := 0x10000

/-- R295: 1 starts or renews manual drive (R280) -/
def CH_MAN_EN : Field where
  base := 0x40301048; lsb := 31; width := 1; acc := .rw; rst := .fixed 0; count := 64; stride := 0x80; group := 16; gstride := 0x10000

/-- R295: Command word (R243) -/
def CH_MAN_CMD : Field where
  base := 0x40301048; lsb := 0; width := 16; acc := .rw; rst := .fixed 0; count := 64; stride := 0x80; group := 16; gstride := 0x10000

/-- R333: Case limit, 80–135 °C (R310) -/
def BANK_CFG_CASEMAX : Field where
  base := 0x40300000; lsb := 24; width := 8; acc := .rwl; rst := .fixed 0x7d; kept := true; count := 4; stride := 0x10000; group := 4; gstride := 0x0

/-- R333: Dissipation limit in 0.1 W, 30–75 -/
def BANK_CFG_PDMAX : Field where
  base := 0x40300000; lsb := 16; width := 7; acc := .rwl; rst := .fixed 0x4b; kept := true; count := 4; stride := 0x10000; group := 4; gstride := 0x0

/-- R333: Cell test period: 0 1 s, 1 10 s, 2 1 min, 3 10 min, 4 1 h; 5–15 not used -/
def BANK_CFG_CELLPER : Field where
  base := 0x40300000; lsb := 8; width := 4; acc := .rwl; rst := .fixed 2; kept := true; count := 4; stride := 0x10000; group := 4; gstride := 0x0

/-- R333: Cell fault threshold, 1–15 -/
def BANK_CFG_CELLTH : Field where
  base := 0x40300000; lsb := 4; width := 4; acc := .rwl; rst := .fixed 3; kept := true; count := 4; stride := 0x10000; group := 4; gstride := 0x0

/-- R333: 0 12 V class, 1 48 V class; 2–3 not used -/
def BANK_CFG_VCLASS : Field where
  base := 0x40300000; lsb := 0; width := 2; acc := .rwl; rst := .fixed 0; kept := true; count := 4; stride := 0x10000; group := 4; gstride := 0x0

/-- R334: Over-budget time, 1–100 ms (R304) -/
def BANK_BUDGET_OVERMS : Field where
  base := 0x40300004; lsb := 23; width := 7; acc := .rwl; rst := .fixed 0x32; kept := true; count := 4; stride := 0x10000; group := 4; gstride := 0x0

/-- R334: Peak limit in 0.1 A, up to 2,000 -/
def BANK_BUDGET_PEAK : Field where
  base := 0x40300004; lsb := 12; width := 11; acc := .rwl; rst := .fixed 0x7d0; kept := true; count := 4; stride := 0x10000; group := 4; gstride := 0x0

/-- R334: Continuous limit in 0.1 A, up to 800 -/
def BANK_BUDGET_CONT : Field where
  base := 0x40300004; lsb := 0; width := 10; acc := .rwl; rst := .fixed 0x320; kept := true; count := 4; stride := 0x10000; group := 4; gstride := 0x0

/-- R334: Short-event tail, 0–255 ms (R315) -/
def BANK_INRUSH_SHQUIET : Field where
  base := 0x40300008; lsb := 20; width := 8; acc := .rwl; rst := .fixed 0xa; kept := true; count := 4; stride := 0x10000; group := 4; gstride := 0x0

/-- R334: Deferral limit, 0–1,023 picks -/
def BANK_INRUSH_DEFMAX : Field where
  base := 0x40300008; lsb := 10; width := 10; acc := .rwl; rst := .fixed 0x32; kept := true; count := 4; stride := 0x10000; group := 4; gstride := 0x0

/-- R334: Start spacing, 0–1,023 picks -/
def BANK_INRUSH_SPACE : Field where
  base := 0x40300008; lsb := 0; width := 10; acc := .rwl; rst := .fixed 0; kept := true; count := 4; stride := 0x10000; group := 4; gstride := 0x0

/-- R335: Budget count (R304) -/
def BANK_STAT_BUDCNT : Field where
  base := 0x40300010; lsb := 16; width := 14; acc := .ro; rst := .fixed 0; kept := true; count := 4; stride := 0x10000; group := 4; gstride := 0x0

/-- R335: Dissipation or case limit broken (R310) -/
def BANK_STAT_THERMLIM : Field where
  base := 0x40300010; lsb := 8; width := 1; acc := .ro; rst := .fixed 0; kept := true; count := 4; stride := 0x10000; group := 4; gstride := 0x0

/-- R335: Budget broken (R304) -/
def BANK_STAT_OVERBUD : Field where
  base := 0x40300010; lsb := 7; width := 1; acc := .ro; rst := .fixed 0; kept := true; count := 4; stride := 0x10000; group := 4; gstride := 0x0

/-- R335: Short event active (R315) -/
def BANK_STAT_SHORTEV : Field where
  base := 0x40300010; lsb := 6; width := 1; acc := .ro; rst := .fixed 0; kept := true; count := 4; stride := 0x10000; group := 4; gstride := 0x0

/-- R335: Hand-over in progress (R326) -/
def BANK_STAT_LINK : Field where
  base := 0x40300010; lsb := 5; width := 1; acc := .ro; rst := .fixed 0; kept := true; count := 4; stride := 0x10000; group := 4; gstride := 0x0

/-- R335: 0 none, 1 no bank card, 2 class mismatch, 3 overvoltage, 4 undervoltage; 5–7 not used -/
def BANK_STAT_LOCKWHY : Field where
  base := 0x40300010; lsb := 2; width := 3; acc := .ro; rst := .fixed 0; kept := true; count := 4; stride := 0x10000; group := 4; gstride := 0x0

/-- R335: 0 RESET, 1 CHECK, 2 ACTIVE, 3 LOCKED -/
def BANK_STAT_STATE : Field where
  base := 0x40300010; lsb := 0; width := 2; acc := .ro; rst := .fixed 0; kept := true; count := 4; stride := 0x10000; group := 4; gstride := 0x0

/-- R336: The keeper has reset -/
def BANK_EVT_KRESET : Field where
  base := 0x40300014; lsb := 12; width := 1; acc := .w1c; rst := .fixed 1; kept := true; count := 4; stride := 0x10000; group := 4; gstride := 0x0

/-- R336: Case limit broken -/
def BANK_EVT_CASELIM : Field where
  base := 0x40300014; lsb := 11; width := 1; acc := .w1c; rst := .fixed 0; kept := true; count := 4; stride := 0x10000; group := 4; gstride := 0x0

/-- R336: Dissipation limit broken -/
def BANK_EVT_PDLIM : Field where
  base := 0x40300014; lsb := 10; width := 1; acc := .w1c; rst := .fixed 0; kept := true; count := 4; stride := 0x10000; group := 4; gstride := 0x0

/-- R336: An H channel went out of service -/
def BANK_EVT_CELLOUT : Field where
  base := 0x40300014; lsb := 9; width := 1; acc := .w1c; rst := .fixed 0; kept := true; count := 4; stride := 0x10000; group := 4; gstride := 0x0

/-- R336: An H channel was derated to three cells -/
def BANK_EVT_DERATE : Field where
  base := 0x40300014; lsb := 8; width := 1; acc := .w1c; rst := .fixed 0; kept := true; count := 4; stride := 0x10000; group := 4; gstride := 0x0

/-- R336: A cell was retired and the spare took its place -/
def BANK_EVT_CELL : Field where
  base := 0x40300014; lsb := 7; width := 1; acc := .w1c; rst := .fixed 0; kept := true; count := 4; stride := 0x10000; group := 4; gstride := 0x0

/-- R336: Hand-over ended -/
def BANK_EVT_RESUME : Field where
  base := 0x40300014; lsb := 6; width := 1; acc := .w1c; rst := .fixed 0; kept := true; count := 4; stride := 0x10000; group := 4; gstride := 0x0

/-- R336: A fail state was applied -/
def BANK_EVT_FAIL : Field where
  base := 0x40300014; lsb := 5; width := 1; acc := .w1c; rst := .fixed 0; kept := true; count := 4; stride := 0x10000; group := 4; gstride := 0x0

/-- R336: Hand-over began -/
def BANK_EVT_HOLD : Field where
  base := 0x40300014; lsb := 4; width := 1; acc := .w1c; rst := .fixed 0; kept := true; count := 4; stride := 0x10000; group := 4; gstride := 0x0

/-- R336: A start passed the deferral limit -/
def BANK_EVT_DEFLIM : Field where
  base := 0x40300014; lsb := 3; width := 1; acc := .w1c; rst := .fixed 0; kept := true; count := 4; stride := 0x10000; group := 4; gstride := 0x0

/-- R336: A channel was shed -/
def BANK_EVT_SHED : Field where
  base := 0x40300014; lsb := 2; width := 1; acc := .w1c; rst := .fixed 0; kept := true; count := 4; stride := 0x10000; group := 4; gstride := 0x0

/-- R336: The bank was unlocked -/
def BANK_EVT_UNLOCK : Field where
  base := 0x40300014; lsb := 1; width := 1; acc := .w1c; rst := .fixed 0; kept := true; count := 4; stride := 0x10000; group := 4; gstride := 0x0

/-- R336: The bank was locked -/
def BANK_EVT_LOCK : Field where
  base := 0x40300014; lsb := 0; width := 1; acc := .w1c; rst := .fixed 0; kept := true; count := 4; stride := 0x10000; group := 4; gstride := 0x0

/-- R337: VOLT, supply code at 20 mV -/
def BANK_VSUP_VOLT : Field where
  base := 0x40300018; lsb := 0; width := 12; acc := .ro; rst := .fixed 0; kept := true; count := 4; stride := 0x10000; group := 4; gstride := 0x0

/-- R337: CUR, total current code at 0.1 A -/
def BANK_ISUM_CUR : Field where
  base := 0x4030001c; lsb := 0; width := 12; acc := .ro; rst := .fixed 0; kept := true; count := 4; stride := 0x10000; group := 4; gstride := 0x0

/-- R337: PMS, P of the last ms in 0.01 W -/
def BANK_PDISS_PMS : Field where
  base := 0x40300020; lsb := 16; width := 16; acc := .ro; rst := .fixed 0; kept := true; count := 4; stride := 0x10000; group := 4; gstride := 0x0

/-- R337: PMEAN, the 1,000 ms mean in 0.01 W -/
def BANK_PDISS_PMEAN : Field where
  base := 0x40300020; lsb := 0; width := 16; acc := .ro; rst := .fixed 0; kept := true; count := 4; stride := 0x10000; group := 4; gstride := 0x0

/-- R337: Shed channels (R306) -/
def BANK_SHED_CHANS : Field where
  base := 0x40300024; lsb := 0; width := 16; acc := .ro; rst := .fixed 0; kept := true; count := 4; stride := 0x10000; group := 4; gstride := 0x0

/-- R337: FAILED channels -/
def BANK_HOLD_FAILED : Field where
  base := 0x40300028; lsb := 16; width := 16; acc := .ro; rst := .fixed 0; kept := true; count := 4; stride := 0x10000; group := 4; gstride := 0x0

/-- R337: HOLDING channels -/
def BANK_HOLD_HOLDING : Field where
  base := 0x40300028; lsb := 0; width := 16; acc := .ro; rst := .fixed 0; kept := true; count := 4; stride := 0x10000; group := 4; gstride := 0x0

/-- R337: Channels in WAIT -/
def BANK_WAITING_CHANS : Field where
  base := 0x4030002c; lsb := 0; width := 16; acc := .ro; rst := .fixed 0; kept := true; count := 4; stride := 0x10000; group := 4; gstride := 0x0

/-- R337: Order entries 0–7, entry j in [4j + 3:4j] -/
def BANK_SHORDER0_ORDER : Field where
  base := 0x40300030; lsb := 0; width := 32; acc := .ro; rst := .fixed 0; kept := true; count := 4; stride := 0x10000; group := 4; gstride := 0x0

/-- R337: Order entries 8–15, entry 8 + j in [4j + 3:4j] -/
def BANK_SHORDER1_ORDER : Field where
  base := 0x40300034; lsb := 0; width := 32; acc := .ro; rst := .fixed 0; kept := true; count := 4; stride := 0x10000; group := 4; gstride := 0x0

/-- R337: Channels whose owner is class C0 -/
def BANK_C0MASK_CHANS : Field where
  base := 0x40300038; lsb := 0; width := 16; acc := .ro; rst := .fixed 0; kept := true; count := 4; stride := 0x10000; group := 4; gstride := 0x0

/-- R337: RET1, retired cells of H channel 1, bit k for cell k -/
def BANK_CELLMAP_RET1 : Field where
  base := 0x4030003c; lsb := 8; width := 5; acc := .ro; rst := .fixed 0; kept := true; count := 4; stride := 0x10000; group := 4; gstride := 0x0

/-- R337: RET0, retired cells of H channel 0 -/
def BANK_CELLMAP_RET0 : Field where
  base := 0x4030003c; lsb := 0; width := 5; acc := .ro; rst := .fixed 0; kept := true; count := 4; stride := 0x10000; group := 4; gstride := 0x0

/-- R337: LOGLOST, keeper log events lost (R329) -/
def BANK_LINKERR_LOGLOST : Field where
  base := 0x40300050; lsb := 16; width := 16; acc := .rc; rst := .fixed 0; kept := true; count := 4; stride := 0x10000; group := 4; gstride := 0x0

/-- R337: CRCERR, command frames discarded (R20) -/
def BANK_LINKERR_CRCERR : Field where
  base := 0x40300050; lsb := 0; width := 16; acc := .rc; rst := .fixed 0; kept := true; count := 4; stride := 0x10000; group := 4; gstride := 0x0

/-- R337: SHEDS -/
def BANK_CNT_SHEDS : Field where
  base := 0x40300054; lsb := 16; width := 16; acc := .rc; rst := .fixed 0; kept := true; count := 4; stride := 0x10000; group := 4; gstride := 0x0

/-- R337: DEFLIM, starts beyond the deferral limit -/
def BANK_CNT_DEFLIM : Field where
  base := 0x40300054; lsb := 0; width := 16; acc := .rc; rst := .fixed 0; kept := true; count := 4; stride := 0x10000; group := 4; gstride := 0x0

/-- R337: ACC_ERR, access errors of the block -/
def BANK_ACCERR_ACC_ERR : Field where
  base := 0x40300058; lsb := 0; width := 16; acc := .rc; rst := .fixed 0; kept := true; count := 4; stride := 0x10000; group := 4; gstride := 0x0

/-- R376: FAST mode with PWM coding (R347) -/
def CAN_MODE_XLFAST : Field where
  base := 0x40400000; lsb := 20; width := 1; acc := .rwl; rst := .fixed 0; count := 26; stride := 0x1000; group := 26; gstride := 0x0

/-- R376: Bus-off recovery delay in 10 ms, 0–255 -/
def CAN_MODE_BODLY : Field where
  base := 0x40400000; lsb := 12; width := 8; acc := .rwl; rst := .fixed 0; count := 26; stride := 0x1000; group := 26; gstride := 0x0

/-- R376: Reference message buffer (R372) -/
def CAN_MODE_REFBUF : Field where
  base := 0x40400000; lsb := 6; width := 5; acc := .rwl; rst := .fixed 0; count := 26; stride := 0x1000; group := 26; gstride := 0x0

/-- R376: Level-1 time master -/
def CAN_MODE_TM : Field where
  base := 0x40400000; lsb := 5; width := 1; acc := .rwl; rst := .fixed 0; count := 26; stride := 0x1000; group := 26; gstride := 0x0

/-- R376: 1 protocol exception handled as a form error -/
def CAN_MODE_PXHD : Field where
  base := 0x40400000; lsb := 4; width := 1; acc := .rwl; rst := .fixed 0; count := 26; stride := 0x1000; group := 26; gstride := 0x0

/-- R376: CAN XL allowed; XL-capable controllers only -/
def CAN_MODE_XLOE : Field where
  base := 0x40400000; lsb := 3; width := 1; acc := .rwl; rst := .fixed 0; count := 26; stride := 0x1000; group := 26; gstride := 0x0

/-- R376: Bit-rate switch allowed -/
def CAN_MODE_BRSE : Field where
  base := 0x40400000; lsb := 2; width := 1; acc := .rwl; rst := .fixed 0; count := 26; stride := 0x1000; group := 26; gstride := 0x0

/-- R376: CAN FD allowed -/
def CAN_MODE_FDOE : Field where
  base := 0x40400000; lsb := 1; width := 1; acc := .rwl; rst := .fixed 0; count := 26; stride := 0x1000; group := 26; gstride := 0x0

/-- R376: Listen-only (R371) -/
def CAN_MODE_LOM : Field where
  base := 0x40400000; lsb := 0; width := 1; acc := .rwl; rst := .fixed 0; count := 26; stride := 0x1000; group := 26; gstride := 0x0

/-- R377: 1–128 tq -/
def CAN_NBT_SJW : Field where
  base := 0x40400004; lsb := 23; width := 7; acc := .rwl; rst := .fixed 0; count := 26; stride := 0x1000; group := 26; gstride := 0x0

/-- R377: 1–128 tq -/
def CAN_NBT_TSEG2 : Field where
  base := 0x40400004; lsb := 16; width := 7; acc := .rwl; rst := .fixed 0; count := 26; stride := 0x1000; group := 26; gstride := 0x0

/-- R377: 2–256 tq -/
def CAN_NBT_TSEG1 : Field where
  base := 0x40400004; lsb := 8; width := 8; acc := .rwl; rst := .fixed 0; count := 26; stride := 0x1000; group := 26; gstride := 0x0

/-- R377: 1–256 -/
def CAN_NBT_BRP : Field where
  base := 0x40400004; lsb := 0; width := 8; acc := .rwl; rst := .fixed 0; count := 26; stride := 0x1000; group := 26; gstride := 0x0

/-- R377: 1–32 tq -/
def CAN_DBT_SJW : Field where
  base := 0x40400008; lsb := 24; width := 5; acc := .rwl; rst := .fixed 0; count := 26; stride := 0x1000; group := 26; gstride := 0x0

/-- R377: 1–32 tq -/
def CAN_DBT_TSEG2 : Field where
  base := 0x40400008; lsb := 16; width := 5; acc := .rwl; rst := .fixed 0; count := 26; stride := 0x1000; group := 26; gstride := 0x0

/-- R377: 1–64 tq -/
def CAN_DBT_TSEG1 : Field where
  base := 0x40400008; lsb := 8; width := 6; acc := .rwl; rst := .fixed 0; count := 26; stride := 0x1000; group := 26; gstride := 0x0

/-- R377: 1–32 -/
def CAN_DBT_BRP : Field where
  base := 0x40400008; lsb := 0; width := 5; acc := .rwl; rst := .fixed 0; count := 26; stride := 0x1000; group := 26; gstride := 0x0

/-- R377: PWM offset, 0–63 mtq -/
def CAN_TDC_PWMO : Field where
  base := 0x4040000c; lsb := 26; width := 6; acc := .rwl; rst := .fixed 0; count := 26; stride := 0x1000; group := 26; gstride := 0x0

/-- R377: PWM long phase, 1–63 mtq -/
def CAN_TDC_PWML : Field where
  base := 0x4040000c; lsb := 20; width := 6; acc := .rwl; rst := .fixed 0; count := 26; stride := 0x1000; group := 26; gstride := 0x0

/-- R377: PWM short phase, 1–31 mtq -/
def CAN_TDC_PWMS : Field where
  base := 0x4040000c; lsb := 15; width := 5; acc := .rwl; rst := .fixed 0; count := 26; stride := 0x1000; group := 26; gstride := 0x0

/-- R377: Smallest delay taken, 0–63 mtq -/
def CAN_TDC_TDCF : Field where
  base := 0x4040000c; lsb := 8; width := 6; acc := .rwl; rst := .fixed 0; count := 26; stride := 0x1000; group := 26; gstride := 0x0

/-- R377: Delay compensation on -/
def CAN_TDC_TDCE : Field where
  base := 0x4040000c; lsb := 7; width := 1; acc := .rwl; rst := .fixed 0; count := 26; stride := 0x1000; group := 26; gstride := 0x0

/-- R377: Offset, 0–127 mtq -/
def CAN_TDC_TDCO : Field where
  base := 0x4040000c; lsb := 0; width := 7; acc := .rwl; rst := .fixed 0; count := 26; stride := 0x1000; group := 26; gstride := 0x0

/-- R378: Q1 in use -/
def CAN_Q1OWN_EN : Field where
  base := 0x40400010; lsb := 31; width := 1; acc := .rwl; rst := .fixed 0; count := 26; stride := 0x1000; group := 26; gstride := 0x0

/-- R378: Bobbin of CTX -/
def CAN_Q1OWN_BOB : Field where
  base := 0x40400010; lsb := 16; width := 4; acc := .rwl; rst := .fixed 0; count := 26; stride := 0x1000; group := 26; gstride := 0x0

/-- R378: Context that reads Q1 -/
def CAN_Q1OWN_CTX : Field where
  base := 0x40400010; lsb := 0; width := 11; acc := .rwl; rst := .fixed 0; count := 26; stride := 0x1000; group := 26; gstride := 0x0

/-- R378: 0 1 ms, 1 100 ms, 2 10 s; 3 not used -/
def CAN_NOPART_WUNIT : Field where
  base := 0x40400014; lsb := 30; width := 2; acc := .rwl; rst := .fixed 0; count := 26; stride := 0x1000; group := 26; gstride := 0x0

/-- R378: Window in WUNIT, 1 ms to 24 h -/
def CAN_NOPART_WIN : Field where
  base := 0x40400014; lsb := 16; width := 14; acc := .rwl; rst := .fixed 0; count := 26; stride := 0x1000; group := 26; gstride := 0x0

/-- R378: Abandon the frame at the report -/
def CAN_NOPART_STOP : Field where
  base := 0x40400014; lsb := 8; width := 1; acc := .rwl; rst := .fixed 0; count := 26; stride := 0x1000; group := 26; gstride := 0x0

/-- R378: 0 off, 1–255 attempts -/
def CAN_NOPART_THRESH : Field where
  base := 0x40400014; lsb := 0; width := 8; acc := .rwl; rst := .fixed 0; count := 26; stride := 0x1000; group := 26; gstride := 0x0

/-- R379: Controller index served (R375) -/
def CAN_STAT_SERVES : Field where
  base := 0x40400020; lsb := 24; width := 5; acc := .ro; rst := .ownIndex 64; count := 26; stride := 0x1000; group := 26; gstride := 0x0

/-- R379: Time-master cycle count -/
def CAN_STAT_CYCLE : Field where
  base := 0x40400020; lsb := 18; width := 6; acc := .ro; rst := .fixed 0; count := 26; stride := 0x1000; group := 26; gstride := 0x0

/-- R379: 0 not master, 1 CURRENT, 2 BACKUP; 3 not used -/
def CAN_STAT_ROLE : Field where
  base := 0x40400020; lsb := 16; width := 2; acc := .ro; rst := .fixed 0; count := 26; stride := 0x1000; group := 26; gstride := 0x0

/-- R379: No-partner reported (R368) -/
def CAN_STAT_NOPART : Field where
  base := 0x40400020; lsb := 4; width := 1; acc := .ro; rst := .fixed 0; count := 26; stride := 0x1000; group := 26; gstride := 0x0

/-- R379: Listen-only -/
def CAN_STAT_LOM : Field where
  base := 0x40400020; lsb := 3; width := 1; acc := .ro; rst := .fixed 0; count := 26; stride := 0x1000; group := 26; gstride := 0x0

/-- R379: 0 disabled, 1 integrating, 2 error active, 3 error passive, 4 bus-off, 5 recovering; 6–7 not used -/
def CAN_STAT_STATE : Field where
  base := 0x40400020; lsb := 0; width := 3; acc := .ro; rst := .fixed 0; count := 26; stride := 0x1000; group := 26; gstride := 0x0

/-- R380: Q0 or Q1 frame lost -/
def CAN_EVT_QLOST : Field where
  base := 0x40400024; lsb := 12; width := 1; acc := .w1c; rst := .fixed 0; count := 26; stride := 0x1000; group := 26; gstride := 0x0

/-- R380: Time-master role changed -/
def CAN_EVT_TMROLE : Field where
  base := 0x40400024; lsb := 11; width := 1; acc := .w1c; rst := .fixed 0; count := 26; stride := 0x1000; group := 26; gstride := 0x0

/-- R380: Protocol exception -/
def CAN_EVT_PXE : Field where
  base := 0x40400024; lsb := 10; width := 1; acc := .w1c; rst := .fixed 0; count := 26; stride := 0x1000; group := 26; gstride := 0x0

/-- R380: Acknowledge after no-partner -/
def CAN_EVT_PARTNER : Field where
  base := 0x40400024; lsb := 9; width := 1; acc := .w1c; rst := .fixed 0; count := 26; stride := 0x1000; group := 26; gstride := 0x0

/-- R380: No-partner reported -/
def CAN_EVT_NOPART : Field where
  base := 0x40400024; lsb := 8; width := 1; acc := .w1c; rst := .fixed 0; count := 26; stride := 0x1000; group := 26; gstride := 0x0

/-- R380: Bus-off recovered -/
def CAN_EVT_BOREC : Field where
  base := 0x40400024; lsb := 7; width := 1; acc := .w1c; rst := .fixed 0; count := 26; stride := 0x1000; group := 26; gstride := 0x0

/-- R380: Bus-off -/
def CAN_EVT_BOFF : Field where
  base := 0x40400024; lsb := 6; width := 1; acc := .w1c; rst := .fixed 0; count := 26; stride := 0x1000; group := 26; gstride := 0x0

/-- R380: Back to error active -/
def CAN_EVT_EACT : Field where
  base := 0x40400024; lsb := 5; width := 1; acc := .w1c; rst := .fixed 0; count := 26; stride := 0x1000; group := 26; gstride := 0x0

/-- R380: Error passive -/
def CAN_EVT_EPASS : Field where
  base := 0x40400024; lsb := 4; width := 1; acc := .w1c; rst := .fixed 0; count := 26; stride := 0x1000; group := 26; gstride := 0x0

/-- R380: A cancel came too late -/
def CAN_EVT_TXLATE : Field where
  base := 0x40400024; lsb := 3; width := 1; acc := .w1c; rst := .fixed 0; count := 26; stride := 0x1000; group := 26; gstride := 0x0

/-- R380: A buffer was abandoned or cancelled -/
def CAN_EVT_TXABT : Field where
  base := 0x40400024; lsb := 2; width := 1; acc := .w1c; rst := .fixed 0; count := 26; stride := 0x1000; group := 26; gstride := 0x0

/-- R380: A frame completed -/
def CAN_EVT_TXDONE : Field where
  base := 0x40400024; lsb := 1; width := 1; acc := .w1c; rst := .fixed 0; count := 26; stride := 0x1000; group := 26; gstride := 0x0

/-- R380: A frame entered the Q1 bobbin -/
def CAN_EVT_RXQ1 : Field where
  base := 0x40400024; lsb := 0; width := 1; acc := .w1c; rst := .fixed 0; count := 26; stride := 0x1000; group := 26; gstride := 0x0

/-- R381: REC -/
def CAN_ERRCNT_REC : Field where
  base := 0x40400028; lsb := 16; width := 8; acc := .ro; rst := .fixed 0; count := 26; stride := 0x1000; group := 26; gstride := 0x0

/-- R381: TEC -/
def CAN_ERRCNT_TEC : Field where
  base := 0x40400028; lsb := 0; width := 9; acc := .ro; rst := .fixed 0; count := 26; stride := 0x1000; group := 26; gstride := 0x0

/-- R381: Measured loop delay, mtq -/
def CAN_TDCVAL_DELAY : Field where
  base := 0x4040002c; lsb := 0; width := 7; acc := .ro; rst := .fixed 0; count := 26; stride := 0x1000; group := 26; gstride := 0x0

/-- R381: Q0LOST -/
def CAN_RXCNT_Q0LOST : Field where
  base := 0x40400030; lsb := 24; width := 8; acc := .rc; rst := .fixed 0; count := 26; stride := 0x1000; group := 26; gstride := 0x0

/-- R381: Q1LOST -/
def CAN_RXCNT_Q1LOST : Field where
  base := 0x40400030; lsb := 16; width := 8; acc := .rc; rst := .fixed 0; count := 26; stride := 0x1000; group := 26; gstride := 0x0

/-- R381: NOMATCH -/
def CAN_RXCNT_NOMATCH : Field where
  base := 0x40400030; lsb := 0; width := 16; acc := .rc; rst := .fixed 0; count := 26; stride := 0x1000; group := 26; gstride := 0x0

/-- R381: MERGED -/
def CAN_TXCNT_MERGED : Field where
  base := 0x40400034; lsb := 0; width := 16; acc := .rc; rst := .fixed 0; count := 26; stride := 0x1000; group := 26; gstride := 0x0

/-- R381: BUSOFF -/
def CAN_FLTCNT_BUSOFF : Field where
  base := 0x40400038; lsb := 16; width := 16; acc := .rc; rst := .fixed 0; count := 26; stride := 0x1000; group := 26; gstride := 0x0

/-- R381: PXCNT -/
def CAN_FLTCNT_PXCNT : Field where
  base := 0x40400038; lsb := 0; width := 16; acc := .rc; rst := .fixed 0; count := 26; stride := 0x1000; group := 26; gstride := 0x0

/-- R381: ACC_ERR -/
def CAN_ACCERR_ACC_ERR : Field where
  base := 0x4040003c; lsb := 0; width := 16; acc := .rc; rst := .fixed 0; count := 26; stride := 0x1000; group := 26; gstride := 0x0

/-- R381: Buffers PENDING or ON_BUS -/
def CAN_TXPEND_BUFS : Field where
  base := 0x40400040; lsb := 0; width := 32; acc := .ro; rst := .fixed 0; count := 26; stride := 0x1000; group := 26; gstride := 0x0

/-- R381: 1 starts the buffer -/
def CAN_TXSTART_BUFS : Field where
  base := 0x40400044; lsb := 0; width := 32; acc := .wo; rst := .fixed 0; count := 26; stride := 0x1000; group := 26; gstride := 0x0

/-- R381: 1 cancels the buffer -/
def CAN_TXCAN_BUFS : Field where
  base := 0x40400048; lsb := 0; width := 32; acc := .wo; rst := .fixed 0; count := 26; stride := 0x1000; group := 26; gstride := 0x0

/-- R381: Frame completed -/
def CAN_TXDONE_BUFS : Field where
  base := 0x4040004c; lsb := 0; width := 32; acc := .w1c; rst := .fixed 0; count := 26; stride := 0x1000; group := 26; gstride := 0x0

/-- R381: Abandoned or cancelled -/
def CAN_TXABT_BUFS : Field where
  base := 0x40400050; lsb := 0; width := 32; acc := .w1c; rst := .fixed 0; count := 26; stride := 0x1000; group := 26; gstride := 0x0

/-- R381: Cancel too late -/
def CAN_TXLATE_BUFS : Field where
  base := 0x40400054; lsb := 0; width := 32; acc := .w1c; rst := .fixed 0; count := 26; stride := 0x1000; group := 26; gstride := 0x0

/-- R381: Buffer of the no-partner report -/
def CAN_NPBUF_BUF : Field where
  base := 0x40400058; lsb := 0; width := 5; acc := .ro; rst := .fixed 0; count := 26; stride := 0x1000; group := 26; gstride := 0x0

/-- R381: Q0REPL, Q0 frames replaced by a later frame for the same filter (R352) -/
def CAN_Q0CNT_Q0REPL : Field where
  base := 0x4040005c; lsb := 0; width := 16; acc := .rc; rst := .fixed 0; count := 26; stride := 0x1000; group := 26; gstride := 0x0

/-- R381: Frame length in bytes; RO for Treadle-fed buffers (R359) -/
def CAN_TXLEN_LEN : Field where
  base := 0x40400180; lsb := 0; width := 11; acc := .rw; rst := .fixed 0; count := 832; stride := 0x4; group := 32; gstride := 0x1000

/-- R382: 0 classical base, 1 classical extended, 2 FD base, 3 FD extended, 4 FD base with BRS, 5 FD extended with BRS,  -/
def CAN_TXCFG_FORM : Field where
  base := 0x40400100; lsb := 29; width := 3; acc := .rwl; rst := .fixed 0; count := 832; stride := 0x4; group := 32; gstride := 0x1000

/-- R382: Base: [10:0], [28:11] 0. Extended: [28:0]. XL: priority identifier [10:0], SDT [18:11], VCID [26:19], SEC [27] -/
def CAN_TXCFG_ID : Field where
  base := 0x40400100; lsb := 0; width := 29; acc := .rwl; rst := .fixed 0; count := 832; stride := 0x4; group := 32; gstride := 0x1000

/-- R383: Filter in use -/
def CAN_FMATCH_EN : Field where
  base := 0x40400200; lsb := 31; width := 1; acc := .rwl; rst := .fixed 0; count := 3328; stride := 0x8; group := 128; gstride := 0x1000

/-- R383: 0 Q0, 1 Q1 -/
def CAN_FMATCH_Q : Field where
  base := 0x40400200; lsb := 30; width := 1; acc := .rwl; rst := .fixed 0; count := 3328; stride := 0x8; group := 128; gstride := 0x1000

/-- R383: Identifier format to match -/
def CAN_FMATCH_IDE : Field where
  base := 0x40400200; lsb := 29; width := 1; acc := .rwl; rst := .fixed 0; count := 3328; stride := 0x8; group := 128; gstride := 0x1000

/-- R383: Identifier to match -/
def CAN_FMATCH_ID : Field where
  base := 0x40400200; lsb := 0; width := 29; acc := .rwl; rst := .fixed 0; count := 3328; stride := 0x8; group := 128; gstride := 0x1000

/-- R383: 0 any, 1 classical, 2 FD, 3 XL -/
def CAN_FMASK_FORM : Field where
  base := 0x40400204; lsb := 30; width := 2; acc := .rwl; rst := .fixed 0; count := 3328; stride := 0x8; group := 128; gstride := 0x1000

/-- R383: 1 IDE must match -/
def CAN_FMASK_IDEM : Field where
  base := 0x40400204; lsb := 29; width := 1; acc := .rwl; rst := .fixed 0; count := 3328; stride := 0x8; group := 128; gstride := 0x1000

/-- R383: 1 = bit compared -/
def CAN_FMASK_MASK : Field where
  base := 0x40400204; lsb := 0; width := 29; acc := .rwl; rst := .fixed 0; count := 3328; stride := 0x8; group := 128; gstride := 0x1000

/-- R405: Macroticks per cycle, 10–16,000 -/
def TT_CYCLE_MACROS : Field where
  base := 0x40500000; lsb := 18; width := 14; acc := .rwl; rst := .fixed 0; count := 2; stride := 0x8000; group := 2; gstride := 0x0

/-- R405: Microticks per macrotick, 40–240 -/
def TT_CYCLE_UPM : Field where
  base := 0x40500000; lsb := 10; width := 8; acc := .rwl; rst := .fixed 0; count := 2; stride := 0x8000; group := 2; gstride := 0x0

/-- R405: gCycleCountMax, odd, 7–63 -/
def TT_CYCLE_CCMAX : Field where
  base := 0x40500000; lsb := 4; width := 6; acc := .rwl; rst := .fixed 0; count := 2; stride := 0x8000; group := 2; gstride := 0x0

/-- R405: Transmission start sequence, 3–15 bits -/
def TT_CYCLE_TSS : Field where
  base := 0x40500000; lsb := 0; width := 4; acc := .rwl; rst := .fixed 0; count := 2; stride := 0x8000; group := 2; gstride := 0x0

/-- R405: Static slots, 2–1,023 -/
def TT_SLOTCFG_NSTATIC : Field where
  base := 0x40500004; lsb := 22; width := 10; acc := .rwl; rst := .fixed 0; count := 2; stride := 0x8000; group := 2; gstride := 0x0

/-- R405: Static slot length, 4–661 macroticks -/
def TT_SLOTCFG_SLOTLEN : Field where
  base := 0x40500004; lsb := 12; width := 10; acc := .rwl; rst := .fixed 0; count := 2; stride := 0x8000; group := 2; gstride := 0x0

/-- R405: Static payload, 0–127 words -/
def TT_SLOTCFG_PAYLOAD : Field where
  base := 0x40500004; lsb := 5; width := 7; acc := .rwl; rst := .fixed 0; count := 2; stride := 0x8000; group := 2; gstride := 0x0

/-- R405: Action point offset, 1–31 macroticks -/
def TT_SLOTCFG_SAPO : Field where
  base := 0x40500004; lsb := 0; width := 5; acc := .rwl; rst := .fixed 0; count := 2; stride := 0x8000; group := 2; gstride := 0x0

/-- R405: Coldstart node -/
def TT_COLD_CSEN : Field where
  base := 0x40500008; lsb := 31; width := 1; acc := .rwl; rst := .fixed 0; count := 2; stride := 0x8000; group := 2; gstride := 0x0

/-- R405: Sync node -/
def TT_COLD_SYNCN : Field where
  base := 0x40500008; lsb := 30; width := 1; acc := .rwl; rst := .fixed 0; count := 2; stride := 0x8000; group := 2; gstride := 0x0

/-- R405: Coldstart attempts, 2–31 -/
def TT_COLD_ATTEMPTS : Field where
  base := 0x40500008; lsb := 25; width := 5; acc := .rwl; rst := .fixed 0; count := 2; stride := 0x8000; group := 2; gstride := 0x0

/-- R405: Minislots, 0–7,986 -/
def TT_COLD_NMINI : Field where
  base := 0x40500008; lsb := 12; width := 13; acc := .rwl; rst := .fixed 0; count := 2; stride := 0x8000; group := 2; gstride := 0x0

/-- R405: Minislot length, 2–63 macroticks -/
def TT_COLD_MINILEN : Field where
  base := 0x40500008; lsb := 6; width := 6; acc := .rwl; rst := .fixed 0; count := 2; stride := 0x8000; group := 2; gstride := 0x0

/-- R405: Minislot action point offset, 1–31 macroticks -/
def TT_COLD_MAPO : Field where
  base := 0x40500008; lsb := 0; width := 6; acc := .rwl; rst := .fixed 0; count := 2; stride := 0x8000; group := 2; gstride := 0x0

/-- R405: Selvedge in 25 ns, 10–160 -/
def TT_GUARD_SELV : Field where
  base := 0x4050000c; lsb := 24; width := 8; acc := .rwl; rst := .fixed 0; count := 2; stride := 0x8000; group := 2; gstride := 0x0

/-- R405: 0 1 ms, 1 100 ms, 2 10 s; 3 not used -/
def TT_GUARD_WUNIT : Field where
  base := 0x4050000c; lsb := 22; width := 2; acc := .rwl; rst := .fixed 0; count := 2; stride := 0x8000; group := 2; gstride := 0x0

/-- R405: Truncation window in WUNIT, 1 ms to 24 h -/
def TT_GUARD_WIN : Field where
  base := 0x4050000c; lsb := 8; width := 14; acc := .rwl; rst := .fixed 0; count := 2; stride := 0x8000; group := 2; gstride := 0x0

/-- R405: Truncations to passive, 1–255 -/
def TT_GUARD_THRESH : Field where
  base := 0x4050000c; lsb := 0; width := 8; acc := .rwl; rst := .fixed 0; count := 2; stride := 0x8000; group := 2; gstride := 0x0

/-- R406: 0 unused, 1 static transmit, 2 static receive, 3 dynamic transmit, 4 dynamic receive to the object, 5 dynamic  -/
def TT_BUFCFG_KIND : Field where
  base := 0x40500400; lsb := 29; width := 3; acc := .rwl; rst := .fixed 0; count := 512; stride := 0x4; group := 256; gstride := 0x8000

/-- R406: Static transmit: ready mark kept (R389) -/
def TT_BUFCFG_KEEP : Field where
  base := 0x40500400; lsb := 28; width := 1; acc := .rwl; rst := .fixed 0; count := 512; stride := 0x4; group := 256; gstride := 0x8000

/-- R406: Key slot buffer (R390) -/
def TT_BUFCFG_STARTUP : Field where
  base := 0x40500400; lsb := 27; width := 1; acc := .rwl; rst := .fixed 0; count := 512; stride := 0x4; group := 256; gstride := 0x8000

/-- R406: Repetition 2^REP, 0–6 -/
def TT_BUFCFG_REP : Field where
  base := 0x40500400; lsb := 24; width := 3; acc := .rwl; rst := .fixed 0; count := 512; stride := 0x4; group := 256; gstride := 0x8000

/-- R406: Base cycle, below 2^REP -/
def TT_BUFCFG_BASE : Field where
  base := 0x40500400; lsb := 18; width := 6; acc := .rwl; rst := .fixed 0; count := 512; stride := 0x4; group := 256; gstride := 0x8000

/-- R406: Bobbin for KIND 5 -/
def TT_BUFCFG_BOB : Field where
  base := 0x40500400; lsb := 14; width := 4; acc := .rwl; rst := .fixed 0; count := 512; stride := 0x4; group := 256; gstride := 0x8000

/-- R406: Payload words; static buffers must equal PAYLOAD -/
def TT_BUFCFG_PLEN : Field where
  base := 0x40500400; lsb := 7; width := 7; acc := .rwl; rst := .fixed 0; count := 512; stride := 0x4; group := 256; gstride := 0x8000

/-- R407: Cycle count -/
def TT_STAT_CYCLE : Field where
  base := 0x40500020; lsb := 26; width := 6; acc := .ro; rst := .fixed 0; count := 2; stride := 0x8000; group := 2; gstride := 0x0

/-- R407: Static slot in progress; 0 outside the static segment -/
def TT_STAT_SLOT : Field where
  base := 0x40500020; lsb := 16; width := 10; acc := .ro; rst := .fixed 0; count := 2; stride := 0x8000; group := 2; gstride := 0x0

/-- R407: Coldstart attempts left -/
def TT_STAT_ATTLEFT : Field where
  base := 0x40500020; lsb := 5; width := 5; acc := .ro; rst := .fixed 0; count := 2; stride := 0x8000; group := 2; gstride := 0x0

/-- R407: Channel B guardian-passive -/
def TT_STAT_PASSB : Field where
  base := 0x40500020; lsb := 4; width := 1; acc := .ro; rst := .fixed 0; count := 2; stride := 0x8000; group := 2; gstride := 0x0

/-- R407: Channel A guardian-passive -/
def TT_STAT_PASSA : Field where
  base := 0x40500020; lsb := 3; width := 1; acc := .ro; rst := .fixed 0; count := 2; stride := 0x8000; group := 2; gstride := 0x0

/-- R407: 0 DISABLED, 1 READY, 2 STARTUP, 3 NORMAL_ACTIVE, 4 NORMAL_PASSIVE, 5 HALT; 6–7 not used -/
def TT_STAT_STATE : Field where
  base := 0x40500020; lsb := 0; width := 3; acc := .ro; rst := .fixed 0; count := 2; stride := 0x8000; group := 2; gstride := 0x0

/-- R408: Channel B became guardian-passive -/
def TT_EVT_PASSB : Field where
  base := 0x40500024; lsb := 9; width := 1; acc := .w1c; rst := .fixed 0; count := 2; stride := 0x8000; group := 2; gstride := 0x0

/-- R408: Channel A became guardian-passive -/
def TT_EVT_PASSA : Field where
  base := 0x40500024; lsb := 8; width := 1; acc := .w1c; rst := .fixed 0; count := 2; stride := 0x8000; group := 2; gstride := 0x0

/-- R408: Truncation on B -/
def TT_EVT_TRUNCB : Field where
  base := 0x40500024; lsb := 7; width := 1; acc := .w1c; rst := .fixed 0; count := 2; stride := 0x8000; group := 2; gstride := 0x0

/-- R408: Truncation on A -/
def TT_EVT_TRUNCA : Field where
  base := 0x40500024; lsb := 6; width := 1; acc := .w1c; rst := .fixed 0; count := 2; stride := 0x8000; group := 2; gstride := 0x0

/-- R408: Cycle mark rejected -/
def TT_EVT_MARKERR : Field where
  base := 0x40500024; lsb := 5; width := 1; acc := .w1c; rst := .fixed 0; count := 2; stride := 0x8000; group := 2; gstride := 0x0

/-- R408: Coldstart attempts used up -/
def TT_EVT_COLDEX : Field where
  base := 0x40500024; lsb := 4; width := 1; acc := .w1c; rst := .fixed 0; count := 2; stride := 0x8000; group := 2; gstride := 0x0

/-- R408: STATE changed -/
def TT_EVT_STATE : Field where
  base := 0x40500024; lsb := 3; width := 1; acc := .w1c; rst := .fixed 0; count := 2; stride := 0x8000; group := 2; gstride := 0x0

/-- R408: A dynamic frame was sent -/
def TT_EVT_DYNDONE : Field where
  base := 0x40500024; lsb := 2; width := 1; acc := .w1c; rst := .fixed 0; count := 2; stride := 0x8000; group := 2; gstride := 0x0

/-- R408: A frame entered the bobbin -/
def TT_EVT_RXBOB : Field where
  base := 0x40500024; lsb := 1; width := 1; acc := .w1c; rst := .fixed 0; count := 2; stride := 0x8000; group := 2; gstride := 0x0

/-- R408: A cycle began -/
def TT_EVT_CYC : Field where
  base := 0x40500024; lsb := 0; width := 1; acc := .w1c; rst := .fixed 0; count := 2; stride := 0x8000; group := 2; gstride := 0x0

/-- R409: SLOTERR (R392) -/
def TT_RXCNT_SLOTERR : Field where
  base := 0x40500028; lsb := 0; width := 16; acc := .rc; rst := .fixed 0; count := 2; stride := 0x8000; group := 2; gstride := 0x0

/-- R409: LATE (R394) -/
def TT_TXCNT_LATE : Field where
  base := 0x4050002c; lsb := 0; width := 16; acc := .rc; rst := .fixed 0; count := 2; stride := 0x8000; group := 2; gstride := 0x0

/-- R409: TRUNCA -/
def TT_GCNT_TRUNCA : Field where
  base := 0x40500030; lsb := 24; width := 8; acc := .rc; rst := .fixed 0; count := 2; stride := 0x8000; group := 2; gstride := 0x0

/-- R409: TRUNCB -/
def TT_GCNT_TRUNCB : Field where
  base := 0x40500030; lsb := 16; width := 8; acc := .rc; rst := .fixed 0; count := 2; stride := 0x8000; group := 2; gstride := 0x0

/-- R409: MARKERR -/
def TT_GCNT_MARKERR : Field where
  base := 0x40500030; lsb := 8; width := 8; acc := .rc; rst := .fixed 0; count := 2; stride := 0x8000; group := 2; gstride := 0x0

/-- R409: HALTS -/
def TT_GCNT_HALTS : Field where
  base := 0x40500030; lsb := 0; width := 8; acc := .rc; rst := .fixed 0; count := 2; stride := 0x8000; group := 2; gstride := 0x0

/-- R409: RATE, last rate correction in µT, two's complement -/
def TT_CLKCOR_RATE : Field where
  base := 0x40500034; lsb := 16; width := 16; acc := .ro; rst := .fixed 0; count := 2; stride := 0x8000; group := 2; gstride := 0x0

/-- R409: OFFSET, last offset correction in µT, two's complement -/
def TT_CLKCOR_OFFSET : Field where
  base := 0x40500034; lsb := 0; width := 16; acc := .ro; rst := .fixed 0; count := 2; stride := 0x8000; group := 2; gstride := 0x0

/-- R409: ACC_ERR -/
def TT_ACCERR_ACC_ERR : Field where
  base := 0x40500038; lsb := 0; width := 16; acc := .rc; rst := .fixed 0; count := 2; stride := 0x8000; group := 2; gstride := 0x0

/-- R409: CHMASK, bit 0 A, bit 1 B -/
def TT_BUFSLOT_CHMASK : Field where
  base := 0x40500800; lsb := 16; width := 2; acc := .rwl; rst := .fixed 0; count := 512; stride := 0x4; group := 256; gstride := 0x8000

/-- R409: SLOT, frame ID -/
def TT_BUFSLOT_SLOT : Field where
  base := 0x40500800; lsb := 0; width := 11; acc := .rwl; rst := .fixed 0; count := 512; stride := 0x4; group := 256; gstride := 0x8000

/-- R447: Recovery reset timeout, 1–255 ms -/
def SWX_GCFG_FRTO : Field where
  base := 0x40600000; lsb := 24; width := 8; acc := .rwl; rst := .fixed 0x64

/-- R447: gPTP domain -/
def SWX_GCFG_DOMAIN : Field where
  base := 0x40600000; lsb := 16; width := 8; acc := .rwl; rst := .fixed 0

/-- R447: EtherType of transmit objects, 0x0600 or above -/
def SWX_GCFG_ETYPE : Field where
  base := 0x40600000; lsb := 0; width := 16; acc := .rwl; rst := .fixed 0

/-- R447: Shared pool limit in cells (R424) -/
def SWX_POOL_LIMIT : Field where
  base := 0x40600004; lsb := 0; width := 15; acc := .rwl; rst := .fixed 0x4000

/-- R447: Module's own address -/
def SWX_MACLO_MAC : Field where
  base := 0x40600008; lsb := 0; width := 32; acc := .ro; rst := .fixed 0

/-- R447: Module's own address -/
def SWX_MACHI_MAC : Field where
  base := 0x4060000c; lsb := 0; width := 16; acc := .ro; rst := .fixed 0x0200

/-- R447: Cells in service (R428) -/
def SWX_BUF_USABLE : Field where
  base := 0x40600010; lsb := 16; width := 15; acc := .ro; rst := .fixed 0x4000

/-- R447: Shared cells in use -/
def SWX_BUF_SHARED : Field where
  base := 0x40600010; lsb := 0; width := 15; acc := .ro; rst := .fixed 0

/-- R447: Slave port index; 0xFF none -/
def SWX_GPTP_SLAVE : Field where
  base := 0x40600018; lsb := 8; width := 8; acc := .ro; rst := .fixed 0xff

/-- R447: 0 never synchronised, 1 synchronised, 2 holdover; 3 not used -/
def SWX_GPTP_STATE : Field where
  base := 0x40600018; lsb := 0; width := 2; acc := .ro; rst := .fixed 0

/-- R447: Working-clock ns within the second at the last PPS_IN edge -/
def SWX_PPSIN_NS : Field where
  base := 0x40600020; lsb := 0; width := 32; acc := .ro; rst := .fixed 0

/-- R447: Unicast frames with no filter (R419) -/
def SWX_NOFILT_COUNT : Field where
  base := 0x40600024; lsb := 0; width := 32; acc := .rc; rst := .fixed 0

/-- R447: Access errors of the block; [31:16] reserved -/
def SWX_ACCERR_ACC_ERR : Field where
  base := 0x40600028; lsb := 0; width := 16; acc := .rc; rst := .fixed 0

/-- R448: Lists restarted after a clock step (R432) -/
def SWX_GEVT_GATESTEP : Field where
  base := 0x40600014; lsb := 7; width := 1; acc := .w1c; rst := .fixed 0

/-- R448: A link-hold flush -/
def SWX_GEVT_FLUSH : Field where
  base := 0x40600014; lsb := 6; width := 1; acc := .w1c; rst := .fixed 0

/-- R448: A queue minimum reduced -/
def SWX_GEVT_MINRED : Field where
  base := 0x40600014; lsb := 5; width := 1; acc := .w1c; rst := .fixed 0

/-- R448: A recovery function reset -/
def SWX_GEVT_FRERRST : Field where
  base := 0x40600014; lsb := 4; width := 1; acc := .w1c; rst := .fixed 0

/-- R448: Unicast frame without a filter -/
def SWX_GEVT_NOFILT : Field where
  base := 0x40600014; lsb := 3; width := 1; acc := .w1c; rst := .fixed 0

/-- R448: Red frame discarded by a policer -/
def SWX_GEVT_POLRED : Field where
  base := 0x40600014; lsb := 2; width := 1; acc := .w1c; rst := .fixed 0

/-- R448: gPTP synchronisation lost -/
def SWX_GEVT_GPTPLOST : Field where
  base := 0x40600014; lsb := 1; width := 1; acc := .w1c; rst := .fixed 0

/-- R448: gPTP state changed -/
def SWX_GEVT_GPTP : Field where
  base := 0x40600014; lsb := 0; width := 1; acc := .w1c; rst := .fixed 0

/-- R449: MACsec on; E0–E5 only -/
def SWXP_CFG0_MACSEC : Field where
  base := 0x40610000; lsb := 26; width := 1; acc := .rwl; rst := .fixed 0; count := 27; stride := 0x100; group := 27; gstride := 0x0

/-- R449: Cut-through allowed (R433) -/
def SWXP_CFG0_CTEN : Field where
  base := 0x40610000; lsb := 25; width := 1; acc := .rwl; rst := .fixed 0; count := 27; stride := 0x100; group := 27; gstride := 0x0

/-- R449: Link-hold time, 0–255 ms -/
def SWXP_CFG0_LINKHOLD : Field where
  base := 0x40610000; lsb := 17; width := 8; acc := .rwl; rst := .fixed 0x14; count := 27; stride := 0x100; group := 27; gstride := 0x0

/-- R449: Port VID, 1–4094 -/
def SWXP_CFG0_PVID : Field where
  base := 0x40610000; lsb := 5; width := 12; acc := .rwl; rst := .fixed 1; count := 27; stride := 0x100; group := 27; gstride := 0x0

/-- R449: Priority of untagged frames -/
def SWXP_CFG0_DEFPCP : Field where
  base := 0x40610000; lsb := 2; width := 3; acc := .rwl; rst := .fixed 0; count := 27; stride := 0x100; group := 27; gstride := 0x0

/-- R449: 0 all, 1 tagged only, 2 untagged only; 3 not used -/
def SWXP_CFG0_ACCEPT : Field where
  base := 0x40610000; lsb := 0; width := 2; acc := .rwl; rst := .fixed 0; count := 27; stride := 0x100; group := 27; gstride := 0x0

/-- R449: List cycle in 10 ns -/
def SWXP_CFG1_CYCLE : Field where
  base := 0x40610004; lsb := 8; width := 24; acc := .rwl; rst := .fixed 0; count := 27; stride := 0x100; group := 27; gstride := 0x0

/-- R449: List entries, 1–63 -/
def SWXP_CFG1_GLEN : Field where
  base := 0x40610004; lsb := 2; width := 6; acc := .rwl; rst := .fixed 0; count := 27; stride := 0x100; group := 27; gstride := 0x0

/-- R449: R430 -/
def SWXP_CFG1_GSRC : Field where
  base := 0x40610004; lsb := 0; width := 2; acc := .rwl; rst := .fixed 0; count := 27; stride := 0x100; group := 27; gstride := 0x0

/-- R449: MACsec transmit slot (R443) -/
def SWXP_CFG2_TXSLOT : Field where
  base := 0x40610008; lsb := 23; width := 9; acc := .rwl; rst := .fixed 0; count := 27; stride := 0x100; group := 27; gstride := 0x0

/-- R449: List offset in 10 ns, below CYCLE -/
def SWXP_CFG2_GOFF : Field where
  base := 0x40610008; lsb := 0; width := 23; acc := .rwl; rst := .fixed 0; count := 27; stride := 0x100; group := 27; gstride := 0x0

/-- R450: Link-hold remaining, ms -/
def SWXP_STAT_HOLDLEFT : Field where
  base := 0x40610010; lsb := 16; width := 8; acc := .ro; rst := .fixed 0; count := 27; stride := 0x100; group := 27; gstride := 0x0

/-- R450: Gate state in force, bit q for queue q -/
def SWXP_STAT_GATES : Field where
  base := 0x40610010; lsb := 8; width := 8; acc := .ro; rst := .fixed 0xff; count := 27; stride := 0x100; group := 27; gstride := 0x0

/-- R450: 0 DOWN, 1 HOLD, 2 UP; 3 not used -/
def SWXP_STAT_LSTATE : Field where
  base := 0x40610010; lsb := 2; width := 2; acc := .ro; rst := .fixed 0; count := 27; stride := 0x100; group := 27; gstride := 0x0

/-- R450: MACsec keys usable -/
def SWXP_STAT_SECUP : Field where
  base := 0x40610010; lsb := 1; width := 1; acc := .ro; rst := .fixed 0; count := 27; stride := 0x100; group := 27; gstride := 0x0

/-- R450: Link up -/
def SWXP_STAT_LINK : Field where
  base := 0x40610010; lsb := 0; width := 1; acc := .ro; rst := .fixed 0; count := 27; stride := 0x100; group := 27; gstride := 0x0

/-- R450: I0, I1: a transmit descriptor returned -/
def SWXP_EVT_TXDONE : Field where
  base := 0x40610014; lsb := 9; width := 1; acc := .w1c; rst := .fixed 0; count := 27; stride := 0x100; group := 27; gstride := 0x0

/-- R450: I0, I1: a receive descriptor filled -/
def SWXP_EVT_RXDONE : Field where
  base := 0x40610014; lsb := 8; width := 1; acc := .w1c; rst := .fixed 0; count := 27; stride := 0x100; group := 27; gstride := 0x0

/-- R450: Packet number at 0xC000_0000 -/
def SWXP_EVT_SECPN : Field where
  base := 0x40610014; lsb := 7; width := 1; acc := .w1c; rst := .fixed 0; count := 27; stride := 0x100; group := 27; gstride := 0x0

/-- R450: A new key in use -/
def SWXP_EVT_SECKEY : Field where
  base := 0x40610014; lsb := 6; width := 1; acc := .w1c; rst := .fixed 0; count := 27; stride := 0x100; group := 27; gstride := 0x0

/-- R450: MACsec discard or missing key -/
def SWXP_EVT_SECERR : Field where
  base := 0x40610014; lsb := 5; width := 1; acc := .w1c; rst := .fixed 0; count := 27; stride := 0x100; group := 27; gstride := 0x0

/-- R450: Frame lost at link loss (R435) -/
def SWXP_EVT_TXABORT : Field where
  base := 0x40610014; lsb := 4; width := 1; acc := .w1c; rst := .fixed 0; count := 27; stride := 0x100; group := 27; gstride := 0x0

/-- R450: Link-hold flush -/
def SWXP_EVT_FLUSH : Field where
  base := 0x40610014; lsb := 3; width := 1; acc := .w1c; rst := .fixed 0; count := 27; stride := 0x100; group := 27; gstride := 0x0

/-- R450: Link lost -/
def SWXP_EVT_LINKDN : Field where
  base := 0x40610014; lsb := 1; width := 1; acc := .w1c; rst := .fixed 0; count := 27; stride := 0x100; group := 27; gstride := 0x0

/-- R450: Link up -/
def SWXP_EVT_LINKUP : Field where
  base := 0x40610014; lsb := 0; width := 1; acc := .w1c; rst := .fixed 0; count := 27; stride := 0x100; group := 27; gstride := 0x0

/-- R452: Class of the minimum's promise -/
def SWXQ_CFG0_CLASS : Field where
  base := 0x40620000; lsb := 30; width := 2; acc := .rwl; rst := .fixed 3; count := 216; stride := 0x20; group := 216; gstride := 0x0

/-- R452: Shared cells allowed, 0–16,384 -/
def SWXQ_CFG0_CAP : Field where
  base := 0x40620000; lsb := 15; width := 15; acc := .rwl; rst := .fixed 0; count := 216; stride := 0x20; group := 216; gstride := 0x0

/-- R452: Reserved cells, 0–16,384 -/
def SWXQ_CFG0_MIN : Field where
  base := 0x40620000; lsb := 0; width := 15; acc := .rwl; rst := .fixed 0; count := 216; stride := 0x20; group := 216; gstride := 0x0

/-- R452: Maximum residence in 0.1 ms; 0 none -/
def SWXQ_CFG1_MAXRES : Field where
  base := 0x40620004; lsb := 8; width := 16; acc := .rwl; rst := .fixed 0; count := 216; stride := 0x20; group := 216; gstride := 0x0

/-- R452: Early drop on -/
def SWXQ_CFG1_REDEN : Field where
  base := 0x40620004; lsb := 4; width := 1; acc := .rwl; rst := .fixed 0; count := 216; stride := 0x20; group := 216; gstride := 0x0

/-- R452: Drop profile 0–15 -/
def SWXQ_CFG1_PROFILE : Field where
  base := 0x40620004; lsb := 0; width := 4; acc := .rwl; rst := .fixed 0; count := 216; stride := 0x20; group := 216; gstride := 0x0

/-- R452: Minimum in force -/
def SWXQ_STAT_MINNOW : Field where
  base := 0x40620008; lsb := 16; width := 15; acc := .ro; rst := .fixed 0; count := 216; stride := 0x20; group := 216; gstride := 0x0

/-- R452: Cells held -/
def SWXQ_STAT_USED : Field where
  base := 0x40620008; lsb := 0; width := 15; acc := .ro; rst := .fixed 0; count := 216; stride := 0x20; group := 216; gstride := 0x0

/-- R452: R426 -/
def SWXQ_TAILDROP_COUNT : Field where
  base := 0x4062000c; lsb := 0; width := 32; acc := .rc; rst := .fixed 0; count := 216; stride := 0x20; group := 216; gstride := 0x0

/-- R452: R426 -/
def SWXQ_REDDROP_COUNT : Field where
  base := 0x40620010; lsb := 0; width := 32; acc := .rc; rst := .fixed 0; count := 216; stride := 0x20; group := 216; gstride := 0x0

/-- R452: R426 -/
def SWXQ_DOWNDROP_COUNT : Field where
  base := 0x40620014; lsb := 0; width := 32; acc := .rc; rst := .fixed 0; count := 216; stride := 0x20; group := 216; gstride := 0x0

/-- R452: R436 -/
def SWXQ_AGED_COUNT : Field where
  base := 0x40620018; lsb := 0; width := 32; acc := .rc; rst := .fixed 0; count := 216; stride := 0x20; group := 216; gstride := 0x0

/-- R487: Identifier bits 10:7 of satellite frames on CAN -/
def BRG_CFG_RSPBASE : Field where
  base := 0x40700000; lsb := 28; width := 4; acc := .rwl; rst := .fixed 0

/-- R487: Identifier bits 10:7 of module frames on CAN -/
def BRG_CFG_REQBASE : Field where
  base := 0x40700000; lsb := 24; width := 4; acc := .rwl; rst := .fixed 0

/-- R487: Priority of bridge frames on 10BASE-T1S -/
def BRG_CFG_PCP : Field where
  base := 0x40700000; lsb := 21; width := 3; acc := .rwl; rst := .fixed 0

/-- R487: Byte 4 of satellite addresses -/
def BRG_CFG_NET : Field where
  base := 0x40700000; lsb := 13; width := 8; acc := .rwl; rst := .fixed 0

/-- R487: VLAN of bridge frames, 1–4094 -/
def BRG_CFG_VID : Field where
  base := 0x40700000; lsb := 0; width := 12; acc := .rwl; rst := .fixed 0

/-- R488: SLOTS, collect slots in use -/
def BRG_STAT_SLOTS : Field where
  base := 0x40700004; lsb := 16; width := 9; acc := .ro; rst := .fixed 0

/-- R488: ENTRIES, posted-write entries in use -/
def BRG_STAT_ENTRIES : Field where
  base := 0x40700004; lsb := 0; width := 9; acc := .ro; rst := .fixed 0

/-- R488: ACC_ERR -/
def BRG_ACCERR_ACC_ERR : Field where
  base := 0x40700008; lsb := 0; width := 16; acc := .rc; rst := .fixed 0

/-- R488: UNDECL -/
def BRG_INCNT_UNDECL : Field where
  base := 0x4070000c; lsb := 16; width := 16; acc := .rc; rst := .fixed 0

/-- R488: DROPPED -/
def BRG_INCNT_DROPPED : Field where
  base := 0x4070000c; lsb := 0; width := 16; acc := .rc; rst := .fixed 0

/-- R488: EXPIRED -/
def BRG_CNT_EXPIRED : Field where
  base := 0x40700010; lsb := 16; width := 16; acc := .rc; rst := .fixed 0

/-- R488: NOSLOT -/
def BRG_CNT_NOSLOT : Field where
  base := 0x40700010; lsb := 0; width := 16; acc := .rc; rst := .fixed 0

/-- R488: SLOT to abort (R473) -/
def BRG_CABORT_SLOT : Field where
  base := 0x40700080; lsb := 0; width := 8; acc := .wo; rst := .fixed 0

/-- R489: Collect slot when ST = 1 -/
def BRG_RSTAT_SLOT : Field where
  base := 0x40700020; lsb := 16; width := 8; acc := .ro; rst := .fixed 0; count := 10; stride := 0x4; group := 10; gstride := 0x0

/-- R489: R465 -/
def BRG_RSTAT_CODE : Field where
  base := 0x40700020; lsb := 8; width := 8; acc := .ro; rst := .fixed 0; count := 10; stride := 0x4; group := 10; gstride := 0x0

/-- R489: 0 done, 1 deferred, 2 error; 3 not used -/
def BRG_RSTAT_ST : Field where
  base := 0x40700020; lsb := 0; width := 2; acc := .ro; rst := .fixed 0; count := 10; stride := 0x4; group := 10; gstride := 0x0

/-- R490: 0 CAN, 1 10BASE-T1S -/
def BRG_WCFG_BUS : Field where
  base := 0x40701000; lsb := 31; width := 1; acc := .rwl; rst := .fixed 0; count := 64; stride := 0x40; group := 64; gstride := 0x0

/-- R490: CAN controller 0–25, or port 14–21 -/
def BRG_WCFG_UNIT : Field where
  base := 0x40701000; lsb := 26; width := 5; acc := .rwl; rst := .fixed 0; count := 64; stride := 0x40; group := 64; gstride := 0x0

/-- R490: Satellite node number -/
def BRG_WCFG_NODE : Field where
  base := 0x40701000; lsb := 18; width := 8; acc := .rwl; rst := .fixed 0; count := 64; stride := 0x40; group := 64; gstride := 0x0

/-- R490: CAN request buffer -/
def BRG_WCFG_TXBUF : Field where
  base := 0x40701000; lsb := 13; width := 5; acc := .rwl; rst := .fixed 0; count := 64; stride := 0x40; group := 64; gstride := 0x0

/-- R490: CAN answer filter -/
def BRG_WCFG_FILTER : Field where
  base := 0x40701000; lsb := 6; width := 7; acc := .rwl; rst := .fixed 0; count := 64; stride := 0x40; group := 64; gstride := 0x0

/-- R490: Posted entries allowed, 1–63 -/
def BRG_WCFG_PWMAX : Field where
  base := 0x40701000; lsb := 0; width := 6; acc := .rwl; rst := .fixed 0; count := 64; stride := 0x40; group := 64; gstride := 0x0

/-- R490: Resends, 0–15 -/
def BRG_WPOLL_RETRIES : Field where
  base := 0x40701004; lsb := 28; width := 4; acc := .rwl; rst := .fixed 0; count := 64; stride := 0x40; group := 64; gstride := 0x0

/-- R490: Answer timeout in 0.1 ms, 1–1,000 -/
def BRG_WPOLL_RSPTO : Field where
  base := 0x40701004; lsb := 18; width := 10; acc := .rwl; rst := .fixed 0; count := 64; stride := 0x40; group := 64; gstride := 0x0

/-- R490: Collect timer: 0 1 ms, 1 2 ms, 2 5 ms, 3 10 ms, 4 20 ms, 5 50 ms, 6 100 ms, 7 200 ms, 8 500 ms, 9 1 s; 10–15 n -/
def BRG_WPOLL_CTMR : Field where
  base := 0x40701004; lsb := 14; width := 4; acc := .rwl; rst := .fixed 0; count := 64; stride := 0x40; group := 64; gstride := 0x0

/-- R490: Poll period, 1–10,000 ms; 0 off -/
def BRG_WPOLL_POLLMS : Field where
  base := 0x40701004; lsb := 0; width := 14; acc := .rwl; rst := .fixed 0; count := 64; stride := 0x40; group := 64; gstride := 0x0

/-- R490: Status width: 0 1 byte, 1 2 bytes, 2 4 bytes; 3 not used -/
def BRG_WSTAT_SSIZE : Field where
  base := 0x40701008; lsb := 16; width := 2; acc := .rwl; rst := .fixed 0; count := 64; stride := 0x40; group := 64; gstride := 0x0

/-- R490: Far address of the status register -/
def BRG_WSTAT_STATADDR : Field where
  base := 0x40701008; lsb := 0; width := 16; acc := .rwl; rst := .fixed 0; count := 64; stride := 0x40; group := 64; gstride := 0x0

/-- R491 -/
def BRG_INCFG_BUS : Field where
  base := 0x40702000; lsb := 31; width := 1; acc := .rwl; rst := .fixed 0; count := 16; stride := 0x40; group := 16; gstride := 0x0

/-- R491 -/
def BRG_INCFG_UNIT : Field where
  base := 0x40702000; lsb := 26; width := 5; acc := .rwl; rst := .fixed 0; count := 16; stride := 0x40; group := 16; gstride := 0x0

/-- R491 -/
def BRG_INCFG_NODE : Field where
  base := 0x40702000; lsb := 18; width := 8; acc := .rwl; rst := .fixed 0; count := 16; stride := 0x40; group := 16; gstride := 0x0

/-- R491: CAN IACK buffer (R459) -/
def BRG_INCFG_IACKBUF : Field where
  base := 0x40702000; lsb := 13; width := 5; acc := .rwl; rst := .fixed 0; count := 16; stride := 0x40; group := 16; gstride := 0x0

/-- R491: First signal -/
def BRG_INPOLL_SIGBASE : Field where
  base := 0x40702004; lsb := 16; width := 16; acc := .rwl; rst := .fixed 0; count := 16; stride := 0x40; group := 16; gstride := 0x0

/-- R491: Signals, 1–255 -/
def BRG_INPOLL_COUNT : Field where
  base := 0x40702004; lsb := 0; width := 8; acc := .rwl; rst := .fixed 0; count := 16; stride := 0x40; group := 16; gstride := 0x0

/-- R491: Far address of signal SIGBASE -/
def BRG_INSTAT_ABASE : Field where
  base := 0x40702008; lsb := 0; width := 16; acc := .rwl; rst := .fixed 0; count := 16; stride := 0x40; group := 16; gstride := 0x0

/-- R492: STATE: 0 undeclared, 1 RUN, 2 HALTED; 3 not used -/
def BRG_WSTATE_STATE : Field where
  base := 0x4070100c; lsb := 30; width := 2; acc := .ro; rst := .fixed 0; count := 64; stride := 0x40; group := 64; gstride := 0x0

/-- R492: HELD, held writes -/
def BRG_WSTATE_HELD : Field where
  base := 0x4070100c; lsb := 8; width := 6; acc := .ro; rst := .fixed 0; count := 64; stride := 0x40; group := 64; gstride := 0x0

/-- R492: PEND, posted entries -/
def BRG_WSTATE_PEND : Field where
  base := 0x4070100c; lsb := 0; width := 6; acc := .ro; rst := .fixed 0; count := 64; stride := 0x40; group := 64; gstride := 0x0

/-- R492: RDERR, a read or poll failed -/
def BRG_WEVT_RDERR : Field where
  base := 0x40701010; lsb := 5; width := 1; acc := .w1c; rst := .fixed 0; count := 64; stride := 0x40; group := 64; gstride := 0x0

/-- R492: FULL (R469) -/
def BRG_WEVT_FULL : Field where
  base := 0x40701010; lsb := 4; width := 1; acc := .w1c; rst := .fixed 0; count := 64; stride := 0x40; group := 64; gstride := 0x0

/-- R492: IDMIS (R486) -/
def BRG_WEVT_IDMIS : Field where
  base := 0x40701010; lsb := 3; width := 1; acc := .w1c; rst := .fixed 0; count := 64; stride := 0x40; group := 64; gstride := 0x0

/-- R492: STATCHG (R485) -/
def BRG_WEVT_STATCHG : Field where
  base := 0x40701010; lsb := 2; width := 1; acc := .w1c; rst := .fixed 0; count := 64; stride := 0x40; group := 64; gstride := 0x0

/-- R492: COLLECT (R472) -/
def BRG_WEVT_COLLECT : Field where
  base := 0x40701010; lsb := 1; width := 1; acc := .w1c; rst := .fixed 0; count := 64; stride := 0x40; group := 64; gstride := 0x0

/-- R492: HALT (R477) -/
def BRG_WEVT_HALT : Field where
  base := 0x40701010; lsb := 0; width := 1; acc := .w1c; rst := .fixed 0; count := 64; stride := 0x40; group := 64; gstride := 0x0

/-- R492: Number of the last accepted write -/
def BRG_WSEQ_NUM : Field where
  base := 0x40701014; lsb := 0; width := 32; acc := .ro; rst := .fixed 0; count := 64; stride := 0x40; group := 64; gstride := 0x0

/-- R492: Number of the failed write -/
def BRG_WFAIL_NUM : Field where
  base := 0x40701018; lsb := 0; width := 32; acc := .ro; rst := .fixed 0; count := 64; stride := 0x40; group := 64; gstride := 0x0

/-- R492: ADDR -/
def BRG_WFINFO_ADDR : Field where
  base := 0x4070101c; lsb := 16; width := 16; acc := .ro; rst := .fixed 0; count := 64; stride := 0x40; group := 64; gstride := 0x0

/-- R492: SIZE -/
def BRG_WFINFO_SIZE : Field where
  base := 0x4070101c; lsb := 8; width := 2; acc := .ro; rst := .fixed 0; count := 64; stride := 0x40; group := 64; gstride := 0x0

/-- R492: CODE -/
def BRG_WFINFO_CODE : Field where
  base := 0x4070101c; lsb := 0; width := 8; acc := .ro; rst := .fixed 0; count := 64; stride := 0x40; group := 64; gstride := 0x0

/-- R492: MODE: 1 resume, 2 discard (R479) -/
def BRG_WACK_MODE : Field where
  base := 0x40701020; lsb := 0; width := 2; acc := .wo; rst := .fixed 0; count := 64; stride := 0x40; group := 64; gstride := 0x0

/-- R492: Last polled status -/
def BRG_WSVAL_VALUE : Field where
  base := 0x40701024; lsb := 0; width := 32; acc := .ro; rst := .fixed 0; count := 64; stride := 0x40; group := 64; gstride := 0x0

/-- R492: Last identity read -/
def BRG_WID_ID : Field where
  base := 0x40701028; lsb := 0; width := 32; acc := .ro; rst := .fixed 0; count := 64; stride := 0x40; group := 64; gstride := 0x0

/-- R492: RETRIES of an outbound window, WRITES of an inbound one -/
def BRG_WCNT_RETRIES : Field where
  base := 0x4070102c; lsb := 16; width := 16; acc := .rc; rst := .fixed 0; count := 80; stride := 0x40; group := 80; gstride := 0x0

/-- R492: STRAY of an outbound window, REFUSED of an inbound one -/
def BRG_WCNT_STRAY : Field where
  base := 0x4070102c; lsb := 0; width := 16; acc := .rc; rst := .fixed 0; count := 80; stride := 0x40; group := 80; gstride := 0x0

/-- R492: REFUSED -/
def BRG_WCNT2_REFUSED : Field where
  base := 0x40701030; lsb := 16; width := 16; acc := .rc; rst := .fixed 0; count := 64; stride := 0x40; group := 64; gstride := 0x0

/-- R492: DISCARDED -/
def BRG_WCNT2_DISCARDED : Field where
  base := 0x40701030; lsb := 0; width := 16; acc := .rc; rst := .fixed 0; count := 64; stride := 0x40; group := 64; gstride := 0x0

/-- R493: Slot allocated -/
def BRG_CSTAT_BUSY : Field where
  base := 0x40708000; lsb := 31; width := 1; acc := .ro; rst := .fixed 0; count := 256; stride := 0x10; group := 256; gstride := 0x0

/-- R493: Result landed -/
def BRG_CSTAT_DONE : Field where
  base := 0x40708000; lsb := 30; width := 1; acc := .ro; rst := .fixed 0; count := 256; stride := 0x10; group := 256; gstride := 0x0

/-- R493: Window of the read -/
def BRG_CSTAT_WIN : Field where
  base := 0x40708000; lsb := 16; width := 6; acc := .ro; rst := .fixed 0; count := 256; stride := 0x10; group := 256; gstride := 0x0

/-- R493: R465 -/
def BRG_CSTAT_CODE : Field where
  base := 0x40708000; lsb := 8; width := 8; acc := .ro; rst := .fixed 0; count := 256; stride := 0x10; group := 256; gstride := 0x0

/-- R493: Result; a read with DONE = 1 frees the slot -/
def BRG_CDATA_DATA : Field where
  base := 0x40708004; lsb := 0; width := 32; acc := .rc; rst := .fixed 0; count := 256; stride := 0x10; group := 256; gstride := 0x0

/-- R517: ETHEN, Ethernet keep-awake in use -/
def NMW_CFG_ETHEN : Field where
  base := 0x40710000; lsb := 31; width := 1; acc := .rwl; rst := .fixed 0

/-- R517: PCP -/
def NMW_CFG_PCP : Field where
  base := 0x40710000; lsb := 12; width := 3; acc := .rwl; rst := .fixed 0

/-- R517: VID, 1–4094 -/
def NMW_CFG_VID : Field where
  base := 0x40710000; lsb := 0; width := 12; acc := .rwl; rst := .fixed 0

/-- R517: SWAIT, sleep wait, 100–60,000 ms -/
def NMW_TIMES_SWAIT : Field where
  base := 0x40710004; lsb := 16; width := 16; acc := .rwl; rst := .fixed 0x7d0

/-- R517: PREP, prepare-sleep, 50–60,000 ms -/
def NMW_TIMES_PREP : Field where
  base := 0x40710004; lsb := 0; width := 16; acc := .rwl; rst := .fixed 0x5dc

/-- R517: ALLSLEEP -/
def NMW_STAT_ALLSLEEP : Field where
  base := 0x40710008; lsb := 16; width := 1; acc := .ro; rst := .fixed 0

/-- R517: Declared clusters, bit k for cluster k -/
def NMW_STAT_DECL : Field where
  base := 0x40710008; lsb := 0; width := 16; acc := .ro; rst := .fixed 0

/-- R517: SET -/
def NMW_REQ_SET : Field where
  base := 0x40710010; lsb := 31; width := 1; acc := .wo; rst := .fixed 0

/-- R517: CLUSTER -/
def NMW_REQ_CLUSTER : Field where
  base := 0x40710010; lsb := 16; width := 4; acc := .wo; rst := .fixed 0

/-- R517: REASON -/
def NMW_REQ_REASON : Field where
  base := 0x40710010; lsb := 0; width := 8; acc := .wo; rst := .fixed 0

/-- R517: Clusters requested by the context of the access -/
def NMW_MYREQ_CLUSTERS : Field where
  base := 0x40710014; lsb := 0; width := 16; acc := .ro; rst := .fixed 0

/-- R517: Selected edge on WAKE0–WAKE7; source 356 + n while bit n is 1 -/
def NMW_WKEVT_WAKE : Field where
  base := 0x40710018; lsb := 0; width := 8; acc := .w1c; rst := .fixed 0

/-- R517: BADKA (R502) -/
def NMW_CNT_BADKA : Field where
  base := 0x40710020; lsb := 16; width := 16; acc := .rc; rst := .fixed 0

/-- R517: CANCEL (R507) -/
def NMW_CNT_CANCEL : Field where
  base := 0x40710020; lsb := 0; width := 16; acc := .rc; rst := .fixed 0

/-- R517: ACC_ERR -/
def NMW_ACCERR_ACC_ERR : Field where
  base := 0x40710024; lsb := 0; width := 16; acc := .rc; rst := .fixed 0

/-- R517: Sleep-wait or prepare time left, ms -/
def NMW_TLEFT_S : Field where
  base := 0x40710140; lsb := 0; width := 16; acc := .ro; rst := .fixed 0; count := 16; stride := 0x4; group := 16; gstride := 0x0

/-- R517: NODE of the last stretch (R516) -/
def NMW_AW_NODE : Field where
  base := 0x40710180; lsb := 16; width := 16; acc := .ro; rst := .fixed 0; count := 16; stride := 0x4; group := 16; gstride := 0x0

/-- R517: DUR, stretch length in s, saturating -/
def NMW_AW_DUR : Field where
  base := 0x40710180; lsb := 0; width := 16; acc := .ro; rst := .fixed 0; count := 16; stride := 0x4; group := 16; gstride := 0x0

/-- R517: CAUSE of the wake from STANDBY or HIBERNATE -/
def NMW_WAKESRC_CAUSE : Field where
  base := 0x40710200; lsb := 28; width := 4; acc := .ro; rst := .fixed 0; kept := true

/-- R517: CLUSTER -/
def NMW_WAKESRC_CLUSTER : Field where
  base := 0x40710200; lsb := 24; width := 4; acc := .ro; rst := .fixed 0; kept := true

/-- R517: Unit: transceiver, controller, port or wake input -/
def NMW_WAKESRC_UNIT : Field where
  base := 0x40710200; lsb := 0; width := 8; acc := .ro; rst := .fixed 0; kept := true

/-- R518: Keep-awake identifier block (R499) -/
def NMW_CL_KABLK : Field where
  base := 0x40710040; lsb := 27; width := 5; acc := .rwl; rst := .fixed 0; count := 16; stride := 0x4; group := 16; gstride := 0x0

/-- R518: Wake inputs that wake the cluster, bit n for WAKEn -/
def NMW_CL_WAKEIN : Field where
  base := 0x40710040; lsb := 19; width := 8; acc := .rwl; rst := .fixed 0; count := 16; stride := 0x4; group := 16; gstride := 0x0

/-- R518: Awake limit in 10 s; 0 off -/
def NMW_CL_AWLIM : Field where
  base := 0x40710040; lsb := 12; width := 7; acc := .rwl; rst := .fixed 0; count := 16; stride := 0x4; group := 16; gstride := 0x0

/-- R518: Keep-awake period in 100 ms, 1–15 -/
def NMW_CL_KAPER : Field where
  base := 0x40710040; lsb := 8; width := 4; acc := .rwl; rst := .fixed 5; count := 16; stride := 0x4; group := 16; gstride := 0x0

/-- R518: The module sends no keep-awake message -/
def NMW_CL_LISTEN : Field where
  base := 0x40710040; lsb := 7; width := 1; acc := .rwl; rst := .fixed 0; count := 16; stride := 0x4; group := 16; gstride := 0x0

/-- R519: Last wake event (R506) -/
def NMW_CLSTAT_CAUSE : Field where
  base := 0x40710080; lsb := 24; width := 4; acc := .ro; rst := .fixed 0; count := 16; stride := 0x4; group := 16; gstride := 0x0

/-- R519: Nodes in the holder set (R516) -/
def NMW_CLSTAT_HOLDERS : Field where
  base := 0x40710080; lsb := 16; width := 8; acc := .ro; rst := .fixed 0; count := 16; stride := 0x4; group := 16; gstride := 0x0

/-- R519: 0 undeclared, 1 WAKING, 2 AWAKE, 3 PREPARE, 4 COMMIT, 5 SLEEP; 6–7 not used -/
def NMW_CLSTAT_STATE : Field where
  base := 0x40710080; lsb := 0; width := 3; acc := .ro; rst := .fixed 0; count := 16; stride := 0x4; group := 16; gstride := 0x0

/-- R519: Frame-error overflow (R512) -/
def NMW_EVT_SWMIS : Field where
  base := 0x40710100; lsb := 6; width := 1; acc := .w1c; rst := .fixed 0; count := 16; stride := 0x4; group := 16; gstride := 0x0

/-- R519: Awake limit reached -/
def NMW_EVT_AWLIM : Field where
  base := 0x40710100; lsb := 5; width := 1; acc := .w1c; rst := .fixed 0; count := 16; stride := 0x4; group := 16; gstride := 0x0

/-- R519: Wake after commit -/
def NMW_EVT_WAC : Field where
  base := 0x40710100; lsb := 4; width := 1; acc := .w1c; rst := .fixed 0; count := 16; stride := 0x4; group := 16; gstride := 0x0

/-- R519: Any wake event -/
def NMW_EVT_WAKE : Field where
  base := 0x40710100; lsb := 3; width := 1; acc := .w1c; rst := .fixed 0; count := 16; stride := 0x4; group := 16; gstride := 0x0

/-- R519: Sleep commit -/
def NMW_EVT_COMMIT : Field where
  base := 0x40710100; lsb := 2; width := 1; acc := .w1c; rst := .fixed 0; count := 16; stride := 0x4; group := 16; gstride := 0x0

/-- R519: Prepare-sleep entered -/
def NMW_EVT_PREP : Field where
  base := 0x40710100; lsb := 1; width := 1; acc := .w1c; rst := .fixed 0; count := 16; stride := 0x4; group := 16; gstride := 0x0

/-- R519: STATE changed -/
def NMW_EVT_STATE : Field where
  base := 0x40710100; lsb := 0; width := 1; acc := .w1c; rst := .fixed 0; count := 16; stride := 0x4; group := 16; gstride := 0x0

/-- R545: Handshake lockout remaining, s -/
def SHT_STAT_LOCKOUT : Field where
  base := 0x40720000; lsb := 16; width := 8; acc := .ro; rst := .fixed 0

/-- R545: Half-open sessions, 0–4 -/
def SHT_STAT_HALFOPEN : Field where
  base := 0x40720000; lsb := 4; width := 3; acc := .ro; rst := .fixed 0

/-- R545: Open sessions, 0–4 -/
def SHT_STAT_OPEN : Field where
  base := 0x40720000; lsb := 0; width := 3; acc := .ro; rst := .fixed 0

/-- R546: A request discarded under R537 -/
def SHT_EVT_REPLAY : Field where
  base := 0x40720004; lsb := 6; width := 1; acc := .w1c; rst := .fixed 0

/-- R546: A notice dropped -/
def SHT_EVT_NOTELOST : Field where
  base := 0x40720004; lsb := 5; width := 1; acc := .w1c; rst := .fixed 0

/-- R546: A message failed its tag -/
def SHT_EVT_TAGERR : Field where
  base := 0x40720004; lsb := 4; width := 1; acc := .w1c; rst := .fixed 0

/-- R546: Handshake lockout began -/
def SHT_EVT_LOCKOUT : Field where
  base := 0x40720004; lsb := 3; width := 1; acc := .w1c; rst := .fixed 0

/-- R546: A handshake failed -/
def SHT_EVT_AUTHFAIL : Field where
  base := 0x40720004; lsb := 2; width := 1; acc := .w1c; rst := .fixed 0

/-- R546: A session ended -/
def SHT_EVT_CLOSE : Field where
  base := 0x40720004; lsb := 1; width := 1; acc := .w1c; rst := .fixed 0

/-- R546: A session opened -/
def SHT_EVT_OPEN : Field where
  base := 0x40720004; lsb := 0; width := 1; acc := .w1c; rst := .fixed 0

/-- R547: AUTHFAIL -/
def SHT_CNT0_AUTHFAIL : Field where
  base := 0x40720008; lsb := 16; width := 16; acc := .rc; rst := .fixed 0

/-- R547: TAGERR -/
def SHT_CNT0_TAGERR : Field where
  base := 0x40720008; lsb := 0; width := 16; acc := .rc; rst := .fixed 0

/-- R547: REPLAY -/
def SHT_CNT1_REPLAY : Field where
  base := 0x4072000c; lsb := 16; width := 16; acc := .rc; rst := .fixed 0

/-- R547: NOSESS -/
def SHT_CNT1_NOSESS : Field where
  base := 0x4072000c; lsb := 0; width := 16; acc := .rc; rst := .fixed 0

/-- R547: NOTELOST -/
def SHT_CNT2_NOTELOST : Field where
  base := 0x40720010; lsb := 16; width := 16; acc := .rc; rst := .fixed 0

/-- R547: MALFORM -/
def SHT_CNT2_MALFORM : Field where
  base := 0x40720010; lsb := 0; width := 16; acc := .rc; rst := .fixed 0

/-- R547: ACC_ERR -/
def SHT_ACCERR_ACC_ERR : Field where
  base := 0x40720014; lsb := 0; width := 16; acc := .rc; rst := .fixed 0

/-- R547: SESSION number of session s -/
def SHT_SID_SESSION : Field where
  base := 0x40720030; lsb := 0; width := 32; acc := .ro; rst := .fixed 0; count := 4; stride := 0x4; group := 4; gstride := 0x0

/-- R547: MODULE_ID bytes 4n to 4n + 3, byte 4n in [31:24] -/
def SHT_MODID_BYTES : Field where
  base := 0x40720040; lsb := 0; width := 32; acc := .ro; rst := .fixed 0; count := 4; stride := 0x4; group := 4; gstride := 0x0

/-- R548: 0 free, 1 half-open, 2 open; 3 not used -/
def SHT_SESS_STATE : Field where
  base := 0x40720020; lsb := 30; width := 2; acc := .ro; rst := .fixed 0; count := 4; stride := 0x4; group := 4; gstride := 0x0

/-- R548: Notices subscribed -/
def SHT_SESS_SUB : Field where
  base := 0x40720020; lsb := 29; width := 1; acc := .ro; rst := .fixed 0; count := 4; stride := 0x4; group := 4; gstride := 0x0

/-- R548: HOST_ID -/
def SHT_SESS_HOST : Field where
  base := 0x40720020; lsb := 16; width := 4; acc := .ro; rst := .fixed 0; count := 4; stride := 0x4; group := 4; gstride := 0x0

/-- R548: Role mask (R528) -/
def SHT_SESS_ROLES : Field where
  base := 0x40720020; lsb := 0; width := 5; acc := .ro; rst := .fixed 0; count := 4; stride := 0x4; group := 4; gstride := 0x0

/-- R567: Failed pairs, bit n for physical pair n -/
def SYSCTL_CPUMAP_FAILRT : Field where
  base := 0x40000080; lsb := 25; width := 5; acc := .ro; rst := .fixed 0; kept := true

/-- R567: Failed application cores -/
def SYSCTL_CPUMAP_FAILAPP : Field where
  base := 0x40000080; lsb := 20; width := 5; acc := .ro; rst := .fixed 0; kept := true

/-- R567: Physical pair of logical pair n in [2n + 1:2n] within the four active -/
def SYSCTL_CPUMAP_RTMAP : Field where
  base := 0x40000080; lsb := 12; width := 8; acc := .ro; rst := .fixed 0xe4; kept := true

/-- R567: Physical core of logical core n, coded as RTMAP -/
def SYSCTL_CPUMAP_APPMAP : Field where
  base := 0x40000080; lsb := 4; width := 8; acc := .ro; rst := .fixed 0xe4; kept := true

/-- R567: [1] spare application core left; [0] spare real-time pair left; [3:2] 0 -/
def SYSCTL_CPUMAP_SPARES : Field where
  base := 0x40000080; lsb := 0; width := 4; acc := .ro; rst := .fixed 3; kept := true

/-- R568: UNC -/
def SYSCTL_ECCCNT_UNC : Field where
  base := 0x40000084; lsb := 16; width := 16; acc := .rc; rst := .fixed 0

/-- R568: COR -/
def SYSCTL_ECCCNT_COR : Field where
  base := 0x40000084; lsb := 0; width := 16; acc := .rc; rst := .fixed 0

/-- R568: Address of the latest uncorrectable read -/
def SYSCTL_ECCADDR_ADDR : Field where
  base := 0x40000088; lsb := 0; width := 32; acc := .ro; rst := .fixed 0

/-- R568: ACC_ERR -/
def SYSCTL_ACCERR_ACC_ERR : Field where
  base := 0x4000008c; lsb := 0; width := 16; acc := .rc; rst := .fixed 0

/-- R611: R576 -/
def KEY_STAT_KEYLESS : Field where
  base := 0x40800000; lsb := 31; width := 1; acc := .ro; rst := .fixed 0

/-- R611: Device secret in use -/
def KEY_STAT_DSREADY : Field where
  base := 0x40800000; lsb := 30; width := 1; acc := .ro; rst := .fixed 0

/-- R611: TRNG health failure (R575) -/
def KEY_STAT_TRNGERR : Field where
  base := 0x40800000; lsb := 29; width := 1; acc := .ro; rst := .fixed 0

/-- R611: Transition in progress -/
def KEY_STAT_LCBUSY : Field where
  base := 0x40800000; lsb := 28; width := 1; acc := .ro; rst := .fixed 0

/-- R611: Channels busy, bit n for channel n -/
def KEY_STAT_BUSY : Field where
  base := 0x40800000; lsb := 0; width := 16; acc := .ro; rst := .fixed 0

/-- R611: [0] left BLANK, [1] RETURNED, [2] SCRAPPED -/
def KEY_LC_FUSES : Field where
  base := 0x40800004; lsb := 16; width := 3; acc := .ro; rst := .fixed 0; kept := true

/-- R611: Target of the transition in progress -/
def KEY_LC_TARGET : Field where
  base := 0x40800004; lsb := 8; width := 3; acc := .ro; rst := .fixed 0; kept := true

/-- R611: 0 BLANK, 1 PROVISIONED, 2 FIELD, 3 SERVICE, 4 RETURNED, 5 SCRAPPED; 6–7 not used -/
def KEY_LC_STATE : Field where
  base := 0x40800004; lsb := 0; width := 3; acc := .ro; rst := .fixed 0; kept := true

/-- R611: [0] TAMP0, [1] TAMP1, [2] mesh, [3] VKEEP, [4] clock, [5] voltage, [6] temperature; cleared only by the transi -/
def KEY_TAMPER_CAUSE : Field where
  base := 0x40800008; lsb := 0; width := 7; acc := .ro; rst := .fixed 0; kept := true

/-- R611: Lid inputs armed, bit n for TAMPn -/
def KEY_POLICY_TAMPEN : Field where
  base := 0x4080000c; lsb := 0; width := 2; acc := .rwl; rst := .fixed 0

/-- R612: Life-cycle state changed -/
def KEY_EVT_LCCHG : Field where
  base := 0x40800010; lsb := 6; width := 1; acc := .w1c; rst := .fixed 0

/-- R612: Tamper recorded -/
def KEY_EVT_TAMPER : Field where
  base := 0x40800010; lsb := 5; width := 1; acc := .w1c; rst := .fixed 0

/-- R612: Keyless found -/
def KEY_EVT_KEYLESS : Field where
  base := 0x40800010; lsb := 4; width := 1; acc := .w1c; rst := .fixed 0

/-- R612: A slot was orphaned -/
def KEY_EVT_ORPHAN : Field where
  base := 0x40800010; lsb := 3; width := 1; acc := .w1c; rst := .fixed 0

/-- R612: A slot was committed -/
def KEY_EVT_COMMIT : Field where
  base := 0x40800010; lsb := 2; width := 1; acc := .w1c; rst := .fixed 0

/-- R612: An operation ended with CODE other than 0x00 -/
def KEY_EVT_OPERR : Field where
  base := 0x40800010; lsb := 1; width := 1; acc := .w1c; rst := .fixed 0

/-- R612: An operation ended with 0x00 -/
def KEY_EVT_OPDONE : Field where
  base := 0x40800010; lsb := 0; width := 1; acc := .w1c; rst := .fixed 0

/-- R613: TAGFAIL -/
def KEY_CNT_TAGFAIL : Field where
  base := 0x40800014; lsb := 16; width := 16; acc := .rc; rst := .fixed 0

/-- R613: REFUSED -/
def KEY_CNT_REFUSED : Field where
  base := 0x40800014; lsb := 0; width := 16; acc := .rc; rst := .fixed 0

/-- R613: ACC_ERR -/
def KEY_ACCERR_ACC_ERR : Field where
  base := 0x40800018; lsb := 0; width := 16; acc := .rc; rst := .fixed 0

/-- R613: START; the write starts OP on SLOT -/
def KEY_OP_CTL_START : Field where
  base := 0x40800100; lsb := 31; width := 1; acc := .wo; rst := .fixed 0; count := 16; stride := 0x20; group := 16; gstride := 0x0

/-- R613: ABORT (R587) -/
def KEY_OP_CTL_ABORT : Field where
  base := 0x40800100; lsb := 30; width := 1; acc := .wo; rst := .fixed 0; count := 16; stride := 0x20; group := 16; gstride := 0x0

/-- R613: IRQ, completion raises source 380 or 381 -/
def KEY_OP_CTL_IRQ : Field where
  base := 0x40800100; lsb := 29; width := 1; acc := .rw; rst := .fixed 0; count := 16; stride := 0x20; group := 16; gstride := 0x0

/-- R613: OP (R584) -/
def KEY_OP_CTL_OP : Field where
  base := 0x40800100; lsb := 16; width := 8; acc := .rw; rst := .fixed 0; count := 16; stride := 0x20; group := 16; gstride := 0x0

/-- R613: SLOT -/
def KEY_OP_CTL_SLOT : Field where
  base := 0x40800100; lsb := 0; width := 9; acc := .rw; rst := .fixed 0; count := 16; stride := 0x20; group := 16; gstride := 0x0

/-- R613: ADDR[31:5] of the descriptor -/
def KEY_OP_DESC_ADDR : Field where
  base := 0x40800104; lsb := 5; width := 27; acc := .rw; rst := .fixed 0; count := 16; stride := 0x20; group := 16; gstride := 0x0

/-- R613: STATE: 0 free, 1 busy, 2 done; 3 not used -/
def KEY_OP_STAT_STATE : Field where
  base := 0x40800108; lsb := 30; width := 2; acc := .ro; rst := .fixed 0; count := 16; stride := 0x20; group := 16; gstride := 0x0

/-- R613: DONE; clearing frees the channel -/
def KEY_OP_STAT_DONE : Field where
  base := 0x40800108; lsb := 29; width := 1; acc := .w1c; rst := .fixed 0; count := 16; stride := 0x20; group := 16; gstride := 0x0

/-- R613: CTX, owning context -/
def KEY_OP_STAT_CTX : Field where
  base := 0x40800108; lsb := 16; width := 11; acc := .ro; rst := .fixed 0; count := 16; stride := 0x20; group := 16; gstride := 0x0

/-- R613: CODE (R585) -/
def KEY_OP_STAT_CODE : Field where
  base := 0x40800108; lsb := 0; width := 8; acc := .ro; rst := .fixed 0; count := 16; stride := 0x20; group := 16; gstride := 0x0

/-- R613: Bytes written to OUT -/
def KEY_OP_OUTLEN_B : Field where
  base := 0x4080010c; lsb := 0; width := 32; acc := .ro; rst := .fixed 0; count := 16; stride := 0x20; group := 16; gstride := 0x0

/-- R613: STATE, as the commit word (R594) -/
def KEY_SLOTSTAT_STATE : Field where
  base := 0x40802000; lsb := 30; width := 2; acc := .ro; rst := .fixed 0; count := 512; stride := 0x4; group := 512; gstride := 0x0

/-- R613: PEND: 0 none, 1 LOADED, 2 VERIFIED; 3 not used -/
def KEY_SLOTSTAT_PEND : Field where
  base := 0x40802000; lsb := 28; width := 2; acc := .ro; rst := .fixed 0; count := 512; stride := 0x4; group := 512; gstride := 0x0

/-- R613: INUSE, operations in flight -/
def KEY_SLOTSTAT_INUSE : Field where
  base := 0x40802000; lsb := 16; width := 5; acc := .ro; rst := .fixed 0; count := 512; stride := 0x4; group := 512; gstride := 0x0

/-- R613: KVER committed -/
def KEY_KVER : Field where
  base := 0x40802800; lsb := 0; width := 32; acc := .ro; rst := .fixed 0; count := 512; stride := 0x4; group := 512; gstride := 0x0

/-- R613: OWNER: context, or the role mask for slots 496–511 -/
def KEY_OWN_OWNER : Field where
  base := 0x40803000; lsb := 0; width := 16; acc := .rwl; rst := .fixed 0; count := 512; stride := 0x4; group := 512; gstride := 0x0

/-- R614: R580 -/
def KEY_ATTR_USE : Field where
  base := 0x40801000; lsb := 30; width := 2; acc := .rwl; rst := .fixed 0; count := 512; stride := 0x4; group := 512; gstride := 0x0

/-- R614: 0 none, 1 AES-128, 2 AES-256, 3 HMAC-SHA-256, 4 HMAC-SHA-384, 5 P-256 private, 6 P-256 public, 7 P-384 private -/
def KEY_ATTR_ALG : Field where
  base := 0x40801000; lsb := 26; width := 4; acc := .rwl; rst := .fixed 0; count := 512; stride := 0x4; group := 512; gstride := 0x0

/-- R614: States in which the slot may be used, bit 20 + s for KEY_LC.STATE s -/
def KEY_ATTR_LCMASK : Field where
  base := 0x40801000; lsb := 20; width := 6; acc := .rwl; rst := .fixed 0; count := 512; stride := 0x4; group := 512; gstride := 0x0

/-- R614: 0 loaded, 1 derived, 2 module slot; 3 not used -/
def KEY_ATTR_SOURCE : Field where
  base := 0x40801000; lsb := 18; width := 2; acc := .rwl; rst := .fixed 0; count := 512; stride := 0x4; group := 512; gstride := 0x0

/-- R614: Slot answers outsider challenges (R602) -/
def KEY_ATTR_OUTCHAL : Field where
  base := 0x40801000; lsb := 17; width := 1; acc := .rwl; rst := .fixed 0; count := 512; stride := 0x4; group := 512; gstride := 0x0

/-- R614: Parent slot when SOURCE = 1 -/
def KEY_ATTR_PARENT : Field where
  base := 0x40801000; lsb := 0; width := 9; acc := .rwl; rst := .fixed 0; count := 512; stride := 0x4; group := 512; gstride := 0x0

/-- R636: Unlock lockout remaining, s -/
def DBG_STAT_LOCKLEFT : Field where
  base := 0x40810000; lsb := 15; width := 9; acc := .ro; rst := .fixed 0

/-- R636: Harts halted by the debugger, bit h for hart h (R206) -/
def DBG_STAT_HALTED : Field where
  base := 0x40810000; lsb := 5; width := 10; acc := .ro; rst := .fixed 0

/-- R636: Power-state request held (R631) -/
def DBG_STAT_PWRHELD : Field where
  base := 0x40810000; lsb := 4; width := 1; acc := .ro; rst := .fixed 0

/-- R636: A NONCE is live (R622) -/
def DBG_STAT_CHRDY : Field where
  base := 0x40810000; lsb := 3; width := 1; acc := .ro; rst := .fixed 0

/-- R636: TCK has toggled within the last 1 s -/
def DBG_STAT_ATTACHED : Field where
  base := 0x40810000; lsb := 2; width := 1; acc := .ro; rst := .fixed 0

/-- R636: 0 CLOSED, 1 APP, 2 FULL; 3 not used -/
def DBG_STAT_LEVEL : Field where
  base := 0x40810000; lsb := 0; width := 2; acc := .ro; rst := .fixed 0; kept := true

/-- R636: HOLDRUN honoured in PROVISIONED, FIELD, SERVICE: bits 3, 4, 5 -/
def DBG_POLICY_HOLDLC : Field where
  base := 0x40810004; lsb := 3; width := 3; acc := .rwl; rst := .fixed 0

/-- R636: APP allowed in PROVISIONED, FIELD, SERVICE: bits 0, 1, 2 -/
def DBG_POLICY_APPLC : Field where
  base := 0x40810004; lsb := 0; width := 3; acc := .rwl; rst := .fixed 5

/-- R637: 1 sets the level to CLOSED (R624) -/
def DBG_CTL_CLOSE : Field where
  base := 0x40810008; lsb := 2; width := 1; acc := .wo; rst := .fixed 0

/-- R637: Halt reachable harts after a core-die reset (R628); writable through the debug module only -/
def DBG_CTL_HALTRST : Field where
  base := 0x40810008; lsb := 1; width := 1; acc := .rw; rst := .fixed 0; kept := true

/-- R637: Hold power-state entry (R631); writable through the debug module only -/
def DBG_CTL_HOLDRUN : Field where
  base := 0x40810008; lsb := 0; width := 1; acc := .rw; rst := .fixed 0

/-- R637: A power-state request was held -/
def DBG_EVT_HELD : Field where
  base := 0x4081000c; lsb := 3; width := 1; acc := .w1c; rst := .fixed 0

/-- R637: Unlock lockout began -/
def DBG_EVT_LOCKOUT : Field where
  base := 0x4081000c; lsb := 2; width := 1; acc := .w1c; rst := .fixed 0

/-- R637: An unlock failed -/
def DBG_EVT_FAIL : Field where
  base := 0x4081000c; lsb := 1; width := 1; acc := .w1c; rst := .fixed 0

/-- R637: The debug level changed -/
def DBG_EVT_LEVEL : Field where
  base := 0x4081000c; lsb := 0; width := 1; acc := .w1c; rst := .fixed 0

/-- R663: DDEPTH, default bucket depth, 1–255 -/
def REC_CFG_DDEPTH : Field where
  base := 0x40900000; lsb := 16; width := 8; acc := .rwl; rst := .fixed 0x10

/-- R663: DFILL, default bucket fill, ms; 0 unlimited -/
def REC_CFG_DFILL : Field where
  base := 0x40900000; lsb := 0; width := 16; acc := .rwl; rst := .fixed 0x3e8

/-- R663: STAGED, records waiting, 0–2,048 -/
def REC_STAT_STAGED : Field where
  base := 0x40900004; lsb := 16; width := 12; acc := .ro; rst := .fixed 0

/-- R663: HEADSLOT, slot of REC_HEAD (R657) -/
def REC_STAT_HEADSLOT : Field where
  base := 0x40900004; lsb := 2; width := 14; acc := .ro; rst := .fixed 0x3fff

/-- R663: CLEARING (R661) -/
def REC_STAT_CLEARING : Field where
  base := 0x40900004; lsb := 1; width := 1; acc := .ro; rst := .fixed 0

/-- R663: READY (R656) -/
def REC_STAT_READY : Field where
  base := 0x40900004; lsb := 0; width := 1; acc := .ro; rst := .fixed 0

/-- R663: SEQ of the newest record; rebuilt from the ring -/
def REC_HEAD_SEQ : Field where
  base := 0x40900008; lsb := 0; width := 32; acc := .ro; rst := .fixed 0

/-- R663: SEQ of the oldest record -/
def REC_TAIL_SEQ : Field where
  base := 0x4090000c; lsb := 0; width := 32; acc := .ro; rst := .fixed 0

/-- R663: Cursor SEQ, per hart (R658) -/
def REC_CUR_SEQ : Field where
  base := 0x40900010; lsb := 0; width := 32; acc := .rw; rst := .fixed 0; count := 11; stride := 0x0; group := 1; gstride := 0x100000000

/-- R663: CRCERR -/
def REC_CURSTAT_CRCERR : Field where
  base := 0x40900014; lsb := 1; width := 1; acc := .ro; rst := .fixed 0; count := 11; stride := 0x0; group := 1; gstride := 0x100000000

/-- R663: PRESENT -/
def REC_CURSTAT_PRESENT : Field where
  base := 0x40900014; lsb := 0; width := 1; acc := .ro; rst := .fixed 0; count := 11; stride := 0x0; group := 1; gstride := 0x100000000

/-- R663: SUPP -/
def REC_CNT_SUPP : Field where
  base := 0x4090001c; lsb := 16; width := 16; acc := .rc; rst := .fixed 0

/-- R663: LOST -/
def REC_CNT_LOST : Field where
  base := 0x4090001c; lsb := 0; width := 16; acc := .rc; rst := .fixed 0

/-- R663: OPTIME[31:0] -/
def REC_OPTIMEL_OPTIME : Field where
  base := 0x40900020; lsb := 0; width := 32; acc := .ro; rst := .fixed 0; kept := true

/-- R663: OPTIME[39:32] -/
def REC_OPTIMEH_OPTIME : Field where
  base := 0x40900024; lsb := 0; width := 8; acc := .ro; rst := .fixed 0; kept := true

/-- R663: PWRCYC -/
def REC_PWRCYC : Field where
  base := 0x40900028; lsb := 0; width := 24; acc := .ro; rst := .fixed 0; kept := true

/-- R663: CODE; the write triggers (R650) -/
def REC_TRIG_CODE : Field where
  base := 0x4090002c; lsb := 0; width := 16; acc := .wo; rst := .fixed 0

/-- R663: ACC_ERR -/
def REC_ACCERR_ACC_ERR : Field where
  base := 0x40900030; lsb := 0; width := 16; acc := .rc; rst := .fixed 0

/-- R663: SUPPCNT of the default bucket -/
def REC_DBKT_SUPPCNT : Field where
  base := 0x40900034; lsb := 8; width := 8; acc := .ro; rst := .fixed 0

/-- R663: TOKENS of the default bucket -/
def REC_DBKT_TOKENS : Field where
  base := 0x40900034; lsb := 0; width := 8; acc := .ro; rst := .fixed 0

/-- R663: Argument k, per hart -/
def REC_ARG : Field where
  base := 0x40900040; lsb := 0; width := 32; acc := .rw; rst := .fixed 0; count := 80; stride := 0x4; group := 8; gstride := 0x100000000

/-- R663: Word n of the slot at the cursor -/
def REC_WIN_WORD : Field where
  base := 0x40900080; lsb := 0; width := 32; acc := .ro; rst := .fixed 0; count := 352; stride := 0x4; group := 32; gstride := 0x100000000

/-- R663: Entry (R648) -/
def REC_SET_ENTRY : Field where
  base := 0x40904000; lsb := 0; width := 32; acc := .rwl; rst := .fixed 0; count := 1536; stride := 0x4; group := 24; gstride := 0x80

/-- R664: A record lost at a full staging buffer -/
def REC_EVT_LOST : Field where
  base := 0x40900018; lsb := 4; width := 1; acc := .w1c; rst := .fixed 0

/-- R664: A CRC failed at a cursor write -/
def REC_EVT_CRCERR : Field where
  base := 0x40900018; lsb := 3; width := 1; acc := .w1c; rst := .fixed 0

/-- R664: A trigger suppressed -/
def REC_EVT_SUPP : Field where
  base := 0x40900018; lsb := 2; width := 1; acc := .w1c; rst := .fixed 0

/-- R664: Slot 16,383 written -/
def REC_EVT_WRAP : Field where
  base := 0x40900018; lsb := 1; width := 1; acc := .w1c; rst := .fixed 0

/-- R664: A record of a context code written -/
def REC_EVT_CTXREC : Field where
  base := 0x40900018; lsb := 0; width := 1; acc := .w1c; rst := .fixed 0

/-- R665: Last code of the range -/
def REC_RNG_CODES_HI : Field where
  base := 0x40900400; lsb := 16; width := 16; acc := .rwl; rst := .fixed 0; count := 256; stride := 0x10; group := 256; gstride := 0x0

/-- R665: First code of the range -/
def REC_RNG_CODES_LO : Field where
  base := 0x40900400; lsb := 0; width := 16; acc := .rwl; rst := .fixed 0; count := 256; stride := 0x10; group := 256; gstride := 0x0

/-- R665: Range in use -/
def REC_RNG_CTL_EN : Field where
  base := 0x40900404; lsb := 31; width := 1; acc := .rwl; rst := .fixed 0; count := 256; stride := 0x10; group := 256; gstride := 0x0

/-- R665: Snapshot set 0–63; 0x7F arguments -/
def REC_RNG_CTL_SET : Field where
  base := 0x40900404; lsb := 16; width := 7; acc := .rwl; rst := .fixed 0x7f; count := 256; stride := 0x10; group := 256; gstride := 0x0

/-- R665: Context allowed to trigger; 0xFFFF device -/
def REC_RNG_CTL_OWNER : Field where
  base := 0x40900404; lsb := 0; width := 16; acc := .rwl; rst := .fixed 0xffff; count := 256; stride := 0x10; group := 256; gstride := 0x0

/-- R665: Bucket in use -/
def REC_BKT_CODE_EN : Field where
  base := 0x40902000; lsb := 31; width := 1; acc := .rwl; rst := .fixed 0; count := 512; stride := 0x10; group := 512; gstride := 0x0

/-- R665: Code limited -/
def REC_BKT_CODE : Field where
  base := 0x40902000; lsb := 0; width := 16; acc := .rwl; rst := .fixed 0; count := 512; stride := 0x10; group := 512; gstride := 0x0

/-- R665: Tokens, 1–255 -/
def REC_BKT_FILL_DEPTH : Field where
  base := 0x40902004; lsb := 16; width := 8; acc := .rwl; rst := .fixed 0; count := 512; stride := 0x10; group := 512; gstride := 0x0

/-- R665: ms per token; 0 unlimited -/
def REC_BKT_FILL : Field where
  base := 0x40902004; lsb := 0; width := 16; acc := .rwl; rst := .fixed 0; count := 512; stride := 0x10; group := 512; gstride := 0x0

/-- R665: Suppressed count (R652) -/
def REC_BKT_STATE_SUPPCNT : Field where
  base := 0x40902008; lsb := 8; width := 8; acc := .ro; rst := .fixed 0; count := 512; stride := 0x10; group := 512; gstride := 0x0

/-- R665: Tokens held -/
def REC_BKT_STATE_TOKENS : Field where
  base := 0x40902008; lsb := 0; width := 8; acc := .ro; rst := .fixed 0; count := 512; stride := 0x10; group := 512; gstride := 0x0

/-- R692: 0 IDLE, 1 RECEIVING, 2 STAGED, 3 ARMED, 4 PROBATION; 5–7 not used -/
def UPD_STAT_STATE : Field where
  base := 0x40a00000; lsb := 13; width := 3; acc := .ro; rst := .fixed 0; kept := true

/-- R692: IKIND of the item; 0 none -/
def UPD_STAT_IKIND : Field where
  base := 0x40a00000; lsb := 11; width := 2; acc := .ro; rst := .fixed 0

/-- R692: Manifest TARGET -/
def UPD_STAT_TARGET : Field where
  base := 0x40a00000; lsb := 9; width := 2; acc := .ro; rst := .fixed 0

/-- R692: Staging lock held -/
def UPD_STAT_LOCKED : Field where
  base := 0x40a00000; lsb := 8; width := 1; acc := .ro; rst := .fixed 0

/-- R692: HOST_ID of the holder -/
def UPD_STAT_HOLDER : Field where
  base := 0x40a00000; lsb := 4; width := 4; acc := .ro; rst := .fixed 0

/-- R692: Probation in force -/
def UPD_STAT_TRY : Field where
  base := 0x40a00000; lsb := 3; width := 1; acc := .ro; rst := .fixed 0; kept := true

/-- R692: Active boot slot -/
def UPD_STAT_ACTBOOT : Field where
  base := 0x40a00000; lsb := 2; width := 1; acc := .ro; rst := .fixed 0; kept := true

/-- R692: Active FW slot -/
def UPD_STAT_ACTFW : Field where
  base := 0x40a00000; lsb := 1; width := 1; acc := .ro; rst := .fixed 0; kept := true

/-- R692: Active settings bank -/
def UPD_STAT_ACTSET : Field where
  base := 0x40a00000; lsb := 0; width := 1; acc := .ro; rst := .fixed 0; kept := true

/-- R693: A manifest, table or block failed -/
def UPD_EVT_VERIFY : Field where
  base := 0x40a0000c; lsb := 6; width := 1; acc := .w1c; rst := .fixed 0

/-- R693: Fallback made -/
def UPD_EVT_FALLBACK : Field where
  base := 0x40a0000c; lsb := 5; width := 1; acc := .w1c; rst := .fixed 0

/-- R693: Item confirmed -/
def UPD_EVT_CONFIRMED : Field where
  base := 0x40a0000c; lsb := 4; width := 1; acc := .w1c; rst := .fixed 0

/-- R693: Not ready at activation -/
def UPD_EVT_NOTREADY : Field where
  base := 0x40a0000c; lsb := 3; width := 1; acc := .w1c; rst := .fixed 0

/-- R693: Commit point passed -/
def UPD_EVT_ACTIVATED : Field where
  base := 0x40a0000c; lsb := 2; width := 1; acc := .w1c; rst := .fixed 0

/-- R693: Lock taken, lapsed or freed -/
def UPD_EVT_LOCKCHG : Field where
  base := 0x40a0000c; lsb := 1; width := 1; acc := .w1c; rst := .fixed 0

/-- R693: Item staged -/
def UPD_EVT_STAGED : Field where
  base := 0x40a0000c; lsb := 0; width := 1; acc := .w1c; rst := .fixed 0

/-- R694: KEY; 0x434F_4E46 confirms (R685) -/
def UPD_CONFIRM_KEY : Field where
  base := 0x40a00004; lsb := 0; width := 32; acc := .wo; rst := .fixed 0

/-- R694: Confirm window left, s -/
def UPD_CFMLEFT_LEFT : Field where
  base := 0x40a00008; lsb := 0; width := 10; acc := .ro; rst := .fixed 0

/-- R694: Stream blocks received -/
def UPD_RECEIVED_BLOCKS : Field where
  base := 0x40a00010; lsb := 0; width := 32; acc := .ro; rst := .fixed 0

/-- R694: IMG_VER of the active firmware image -/
def UPD_IMGVER_IMG_VER : Field where
  base := 0x40a00014; lsb := 0; width := 32; acc := .ro; rst := .fixed 0; kept := true

/-- R694: IMG_VER of the item staged or on trial -/
def UPD_TRYVER_IMG_VER : Field where
  base := 0x40a00018; lsb := 0; width := 32; acc := .ro; rst := .fixed 0; kept := true

/-- R694: FW_FLOOR -/
def UPD_FWFLOOR_FW_FLOOR : Field where
  base := 0x40a0001c; lsb := 0; width := 32; acc := .ro; rst := .fixed 0; kept := true

/-- R694: SET_VER of the active bank -/
def UPD_SETVER_SET_VER : Field where
  base := 0x40a00020; lsb := 0; width := 16; acc := .ro; rst := .fixed 0; kept := true

/-- R694: BLKFAIL -/
def UPD_CNT_BLKFAIL : Field where
  base := 0x40a00024; lsb := 16; width := 16; acc := .rc; rst := .fixed 0

/-- R694: FALLBACKS -/
def UPD_CNT_FALLBACKS : Field where
  base := 0x40a00024; lsb := 0; width := 16; acc := .rc; rst := .fixed 0

/-- R694: ACC_ERR -/
def UPD_ACCERR_ACC_ERR : Field where
  base := 0x40a00028; lsb := 0; width := 16; acc := .rc; rst := .fixed 0

/-- R723: Domains on, bit i for index i of R696 -/
def PWR_STAT_DOMON : Field where
  base := 0x40b00000; lsb := 16; width := 16; acc := .ro; rst := .fixed 0x8007; kept := true

/-- R723: 0 power-on, 1 brown-out, 2 NRST, 3 watchdog, 4 ordered restart, 5 tamper, 6 wake from STANDBY, 7 wake from HIB -/
def PWR_STAT_LASTRST : Field where
  base := 0x40b00000; lsb := 12; width := 4; acc := .ro; rst := .fixed 0; kept := true

/-- R723: STANDBY request pending (R701) -/
def PWR_STAT_PEND : Field where
  base := 0x40b00000; lsb := 5; width := 1; acc := .ro; rst := .fixed 0

/-- R723: Signal image restored (R713) -/
def PWR_STAT_RETB : Field where
  base := 0x40b00000; lsb := 4; width := 1; acc := .ro; rst := .fixed 0; kept := true

/-- R723: Core record used -/
def PWR_STAT_RETA : Field where
  base := 0x40b00000; lsb := 3; width := 1; acc := .ro; rst := .fixed 0; kept := true

/-- R723: 0 RUN, 1 DOZE; 2–3 not used -/
def PWR_STAT_STATE : Field where
  base := 0x40b00000; lsb := 0; width := 2; acc := .ro; rst := .fixed 0

/-- R723: VKEEP below 2.2 V -/
def PWR_EVT_VKLOW : Field where
  base := 0x40b00004; lsb := 13; width := 1; acc := .w1c; rst := .fixed 0

/-- R723: Core-die junction above 125 °C -/
def PWR_EVT_TEMP : Field where
  base := 0x40b00004; lsb := 12; width := 1; acc := .w1c; rst := .fixed 0

/-- R723: Keeper reset of bank A–D (R301) -/
def PWR_EVT_KRST : Field where
  base := 0x40b00004; lsb := 8; width := 4; acc := .w1c; rst := .fixed 0

/-- R723: Bus-die reset -/
def PWR_EVT_BUSRST : Field where
  base := 0x40b00004; lsb := 7; width := 1; acc := .w1c; rst := .fixed 0

/-- R723: A watchdog passed 75 % -/
def PWR_EVT_WDWARN : Field where
  base := 0x40b00004; lsb := 6; width := 1; acc := .w1c; rst := .fixed 0

/-- R723: A domain reset completed -/
def PWR_EVT_DRDONE : Field where
  base := 0x40b00004; lsb := 5; width := 1; acc := .w1c; rst := .fixed 0

/-- R723: Reference deviation (R709) -/
def PWR_EVT_CLK : Field where
  base := 0x40b00004; lsb := 4; width := 1; acc := .w1c; rst := .fixed 0

/-- R723: VSUP_LOG above 5.6 V -/
def PWR_EVT_VHIGH : Field where
  base := 0x40b00004; lsb := 3; width := 1; acc := .w1c; rst := .fixed 0

/-- R723: VSUP_LOG below 4.6 V -/
def PWR_EVT_VLOW : Field where
  base := 0x40b00004; lsb := 2; width := 1; acc := .w1c; rst := .fixed 0

/-- R723: Start by a wake; NMW_WAKESRC latched -/
def PWR_EVT_WAKE : Field where
  base := 0x40b00004; lsb := 1; width := 1; acc := .w1c; rst := .fixed 0

/-- R723: STANDBY requested -/
def PWR_EVT_REQ : Field where
  base := 0x40b00004; lsb := 0; width := 1; acc := .w1c; rst := .fixed 0

/-- R724: REQ: 0 RUN, 1 DOZE (R700) -/
def PWR_REQ : Field where
  base := 0x40b00008; lsb := 0; width := 2; acc := .wo; rst := .fixed 0

/-- R724: HIBAFTER, minutes, 0 never -/
def PWR_CFG_HIBAFTER : Field where
  base := 0x40b0000c; lsb := 16; width := 16; acc := .rw; rst := .fixed 0; kept := true

/-- R724: STBYDLY, 0–10,000 ms -/
def PWR_CFG_STBYDLY : Field where
  base := 0x40b0000c; lsb := 0; width := 16; acc := .rw; rst := .fixed 0x1f4; kept := true

/-- R724: HOLDERS, leases held -/
def PWR_HOLD_HOLDERS : Field where
  base := 0x40b00010; lsb := 16; width := 12; acc := .ro; rst := .fixed 0

/-- R724: HOLD: 1 takes or renews the writer's lease, 0 releases it -/
def PWR_HOLD : Field where
  base := 0x40b00010; lsb := 0; width := 1; acc := .wo; rst := .fixed 0

/-- R724: DOMAIN to reset, 3–15 (R719) -/
def PWR_DRST_DOMAIN : Field where
  base := 0x40b00014; lsb := 0; width := 4; acc := .wo; rst := .fixed 0

/-- R724: VSUP_LOG, 2 mV per code -/
def PWR_VSUP_VSUP_LOG : Field where
  base := 0x40b00018; lsb := 0; width := 12; acc := .ro; rst := .fixed 0

/-- R724: Core-die junction, 0.125 °C, two's complement -/
def PWR_TEMP_TJ : Field where
  base := 0x40b0001c; lsb := 0; width := 16; acc := .ro; rst := .fixed 0

/-- R724: SEQ of the core record in use -/
def PWR_RETSEQ_SEQ : Field where
  base := 0x40b00020; lsb := 0; width := 32; acc := .ro; rst := .fixed 0; kept := true

/-- R724: BROWNOUTS -/
def PWR_CNT_BROWNOUTS : Field where
  base := 0x40b00024; lsb := 16; width := 16; acc := .rc; rst := .fixed 0; kept := true

/-- R724: WDRESETS -/
def PWR_CNT_WDRESETS : Field where
  base := 0x40b00024; lsb := 0; width := 16; acc := .rc; rst := .fixed 0; kept := true

/-- R724: ACC_ERR -/
def PWR_ACCERR_ACC_ERR : Field where
  base := 0x40b00028; lsb := 0; width := 16; acc := .rc; rst := .fixed 0

/-- R724: KEY; 0x4B49_434B restarts the count -/
def PWR_WDKICK_KEY : Field where
  base := 0x40b00044; lsb := 0; width := 32; acc := .wo; rst := .fixed 0; count := 10; stride := 0x8; group := 10; gstride := 0x0

/-- R725: Watchdog on; cannot be cleared once set (R722) -/
def PWR_WDCFG_EN : Field where
  base := 0x40b00040; lsb := 31; width := 1; acc := .rw; rst := .fixed 0; count := 10; stride := 0x8; group := 10; gstride := 0x0

/-- R725: 0 domain reset, 1 core-die reset -/
def PWR_WDCFG_ACTION : Field where
  base := 0x40b00040; lsb := 30; width := 1; acc := .rw; rst := .fixed 0; count := 10; stride := 0x8; group := 10; gstride := 0x0

/-- R725: 1–65,535 ms; 0 with EN refused -/
def PWR_WDCFG_PERIOD : Field where
  base := 0x40b00040; lsb := 0; width := 16; acc := .rw; rst := .fixed 0; count := 10; stride := 0x8; group := 10; gstride := 0x0

/-- R743: SRAM redundancy rows left -/
def FLT_STAT_SROWS : Field where
  base := 0x40c00000; lsb := 24; width := 8; acc := .ro; rst := .fixed 0x80

/-- R743: MRAM redundancy rows left -/
def FLT_STAT_MROWS : Field where
  base := 0x40c00000; lsb := 16; width := 8; acc := .ro; rst := .fixed 0x20

/-- R743: NOR spare sectors left -/
def FLT_STAT_NORSP : Field where
  base := 0x40c00000; lsb := 8; width := 8; acc := .ro; rst := .fixed 0x40

/-- R743: CAN spares left -/
def FLT_STAT_CANSP : Field where
  base := 0x40c00000; lsb := 4; width := 2; acc := .ro; rst := .fixed 2

/-- R743: Bus die held -/
def FLT_STAT_BUSHELD : Field where
  base := 0x40c00000; lsb := 3; width := 1; acc := .ro; rst := .fixed 0

/-- R743: ? -/
def FLT_STAT_LINKOFF : Field where
  base := 0x40c00000; lsb := 0; width := 3; acc := .ro; rst := .fixed 0

/-- R744: A unit latched off -/
def FLT_EVT_LATCHOFF : Field where
  base := 0x40c00004; lsb := 11; width := 1; acc := .w1c; rst := .fixed 0

/-- R744: A repair completed -/
def FLT_EVT_REPAIRED : Field where
  base := 0x40c00004; lsb := 10; width := 1; acc := .w1c; rst := .fixed 0

/-- R744: A spare was due and none remained -/
def FLT_EVT_EXHAUST : Field where
  base := 0x40c00004; lsb := 9; width := 1; acc := .w1c; rst := .fixed 0

/-- R744: A spare took over -/
def FLT_EVT_SUBST : Field where
  base := 0x40c00004; lsb := 8; width := 1; acc := .w1c; rst := .fixed 0

/-- R744: Bit k: a counter of source 420 + k reached THRESH -/
def FLT_EVT_REACHED : Field where
  base := 0x40c00004; lsb := 0; width := 8; acc := .w1c; rst := .fixed 0

/-- R745: Counter, as source − 420 -/
def FLT_LAST_KIND : Field where
  base := 0x40c00008; lsb := 28; width := 4; acc := .ro; rst := .fixed 0

/-- R745: 0 partition restart, 1 substitution, 2 repair, 3 latch-off, 4 exhausted, 5 withdrawal; 6–7 not used -/
def FLT_LAST_ACTION : Field where
  base := 0x40c00008; lsb := 25; width := 3; acc := .ro; rst := .fixed 0

/-- R745: Physical index, controller, bank or sector -/
def FLT_LAST_UNIT : Field where
  base := 0x40c00008; lsb := 0; width := 16; acc := .ro; rst := .fixed 0

/-- R746: ROWREP, rows repaired -/
def FLT_REPCNT_ROWREP : Field where
  base := 0x40c0000c; lsb := 16; width := 16; acc := .ro; rst := .fixed 0

/-- R746: NORREP, sectors repaired -/
def FLT_REPCNT_NORREP : Field where
  base := 0x40c0000c; lsb := 0; width := 16; acc := .ro; rst := .fixed 0

/-- R746: Address of the row of the latest event -/
def FLT_ROWLAST_ADDR : Field where
  base := 0x40c00010; lsb := 0; width := 32; acc := .ro; rst := .fixed 0

/-- R746: ACC_ERR -/
def FLT_ACCERR_ACC_ERR : Field where
  base := 0x40c00014; lsb := 0; width := 16; acc := .rc; rst := .fixed 0

/-- R746: Count in the open window -/
def FLT_CORECNT_COUNT : Field where
  base := 0x40c00100; lsb := 24; width := 8; acc := .ro; rst := .fixed 0; count := 5; stride := 0x4; group := 5; gstride := 0x0

/-- R746: THRESH reached in this window -/
def FLT_CORECNT_REACHED : Field where
  base := 0x40c00100; lsb := 23; width := 1; acc := .ro; rst := .fixed 0; count := 5; stride := 0x4; group := 5; gstride := 0x0

/-- R746: Window left, ms -/
def FLT_CORECNT_WLEFT : Field where
  base := 0x40c00100; lsb := 0; width := 23; acc := .ro; rst := .fixed 0; count := 5; stride := 0x4; group := 5; gstride := 0x0

/-- R746: Count in the open window -/
def FLT_PAIRCNT_COUNT : Field where
  base := 0x40c00120; lsb := 24; width := 8; acc := .ro; rst := .fixed 0; count := 5; stride := 0x4; group := 5; gstride := 0x0

/-- R746: THRESH reached in this window -/
def FLT_PAIRCNT_REACHED : Field where
  base := 0x40c00120; lsb := 23; width := 1; acc := .ro; rst := .fixed 0; count := 5; stride := 0x4; group := 5; gstride := 0x0

/-- R746: Window left, ms -/
def FLT_PAIRCNT_WLEFT : Field where
  base := 0x40c00120; lsb := 0; width := 23; acc := .ro; rst := .fixed 0; count := 5; stride := 0x4; group := 5; gstride := 0x0

/-- R746: Count in the open window -/
def FLT_CANCNT_COUNT : Field where
  base := 0x40c00140; lsb := 24; width := 8; acc := .ro; rst := .fixed 0; count := 26; stride := 0x4; group := 26; gstride := 0x0

/-- R746: THRESH reached in this window -/
def FLT_CANCNT_REACHED : Field where
  base := 0x40c00140; lsb := 23; width := 1; acc := .ro; rst := .fixed 0; count := 26; stride := 0x4; group := 26; gstride := 0x0

/-- R746: Window left, ms -/
def FLT_CANCNT_WLEFT : Field where
  base := 0x40c00140; lsb := 0; width := 23; acc := .ro; rst := .fixed 0; count := 26; stride := 0x4; group := 26; gstride := 0x0

/-- R746: Count in the open window -/
def FLT_BUSCNT_COUNT : Field where
  base := 0x40c001b0; lsb := 24; width := 8; acc := .ro; rst := .fixed 0

/-- R746: THRESH reached in this window -/
def FLT_BUSCNT_REACHED : Field where
  base := 0x40c001b0; lsb := 23; width := 1; acc := .ro; rst := .fixed 0

/-- R746: Window left, ms -/
def FLT_BUSCNT_WLEFT : Field where
  base := 0x40c001b0; lsb := 0; width := 23; acc := .ro; rst := .fixed 0

/-- R746: Count in the open window -/
def FLT_BANKCNT_COUNT : Field where
  base := 0x40c001c0; lsb := 24; width := 8; acc := .ro; rst := .fixed 0; count := 4; stride := 0x4; group := 4; gstride := 0x0

/-- R746: THRESH reached in this window -/
def FLT_BANKCNT_REACHED : Field where
  base := 0x40c001c0; lsb := 23; width := 1; acc := .ro; rst := .fixed 0; count := 4; stride := 0x4; group := 4; gstride := 0x0

/-- R746: Window left, ms -/
def FLT_BANKCNT_WLEFT : Field where
  base := 0x40c001c0; lsb := 0; width := 23; acc := .ro; rst := .fixed 0; count := 4; stride := 0x4; group := 4; gstride := 0x0

/-- R120 -/
def BEAT_CNT0_LOSS_CNT : Field where
  base := 0x40010050; lsb := 16; width := 16; acc := .rc; rst := .fixed 0

/-- R120 -/
def BEAT_CNT0_STEP_CNT : Field where
  base := 0x40010050; lsb := 0; width := 16; acc := .rc; rst := .fixed 0

/-- R120 -/
def BEAT_CNT1_IDX_CNT : Field where
  base := 0x40010054; lsb := 16; width := 16; acc := .rc; rst := .fixed 0

/-- R120 -/
def BEAT_CNT1_QUAD_CNT : Field where
  base := 0x40010054; lsb := 0; width := 16; acc := .rc; rst := .fixed 0

/-- R84 -/
def SYSCTL_DECKID_DECK_ID : Field where
  base := 0x40000044; lsb := 0; width := 32; acc := .ro; rst := .fixed 0

/-- R84 -/
def SYSCTL_DECKVER_DECK_VER : Field where
  base := 0x40000048; lsb := 0; width := 32; acc := .ro; rst := .fixed 0

/-- R84 -/
def SYSCTL_DECKFLOOR_FLOOR : Field where
  base := 0x4000004c; lsb := 0; width := 32; acc := .ro; rst := .fixed 0

/-- R451 -/
def SWXP_RXFRAMES_COUNT : Field where
  base := 0x40610020; lsb := 0; width := 32; acc := .rc; rst := .fixed 0; count := 27; stride := 0x100; group := 27; gstride := 0x0

/-- R451 -/
def SWXP_TXFRAMES_COUNT : Field where
  base := 0x40610024; lsb := 0; width := 32; acc := .rc; rst := .fixed 0; count := 27; stride := 0x100; group := 27; gstride := 0x0

/-- R451 -/
def SWXP_RXERR_COUNT : Field where
  base := 0x40610028; lsb := 0; width := 32; acc := .rc; rst := .fixed 0; count := 27; stride := 0x100; group := 27; gstride := 0x0

/-- R451 -/
def SWXP_FLUSHED_COUNT : Field where
  base := 0x4061002c; lsb := 0; width := 32; acc := .rc; rst := .fixed 0; count := 27; stride := 0x100; group := 27; gstride := 0x0

/-- R451 -/
def SWXP_TXABORT_COUNT : Field where
  base := 0x40610030; lsb := 0; width := 32; acc := .rc; rst := .fixed 0; count := 27; stride := 0x100; group := 27; gstride := 0x0

/-- R451 -/
def SWXP_SECDROP_COUNT : Field where
  base := 0x40610034; lsb := 0; width := 32; acc := .rc; rst := .fixed 0; count := 27; stride := 0x100; group := 27; gstride := 0x0

/-- R453 -/
def SWX_VLAN_ID_FLOOD : Field where
  base := 0x40630000; lsb := 12; width := 1; acc := .rwl; rst := .fixed 0; count := 256; stride := 0x10; group := 256; gstride := 0x0

/-- R453 -/
def SWX_VLAN_ID_VID : Field where
  base := 0x40630000; lsb := 0; width := 12; acc := .rwl; rst := .fixed 0; count := 256; stride := 0x10; group := 256; gstride := 0x0

/-- R453 -/
def SWX_VLAN_MEMBER : Field where
  base := 0x40630004; lsb := 0; width := 27; acc := .rwl; rst := .fixed 0; count := 256; stride := 0x10; group := 256; gstride := 0x0

/-- R453 -/
def SWX_VLAN_UNTAG : Field where
  base := 0x40630008; lsb := 0; width := 27; acc := .rwl; rst := .fixed 0; count := 256; stride := 0x10; group := 256; gstride := 0x0

/-- R453 -/
def SWX_SF_DMAC : Field where
  base := 0x40640000; lsb := 0; width := 32; acc := .rwl; rst := .fixed 0; count := 256; stride := 0x10; group := 256; gstride := 0x0

/-- R453 -/
def SWX_SF_MATCH_FRER : Field where
  base := 0x40640004; lsb := 24; width := 8; acc := .rwl; rst := .fixed 0; count := 256; stride := 0x10; group := 256; gstride := 0x0

/-- R453 -/
def SWX_SF_MATCH_POLICER : Field where
  base := 0x40640004; lsb := 17; width := 7; acc := .rwl; rst := .fixed 0; count := 256; stride := 0x10; group := 256; gstride := 0x0

/-- R453 -/
def SWX_SF_MATCH_INPORT : Field where
  base := 0x40640004; lsb := 12; width := 5; acc := .rwl; rst := .fixed 0; count := 256; stride := 0x10; group := 256; gstride := 0x0

/-- R453 -/
def SWX_SF_MATCH_VID : Field where
  base := 0x40640004; lsb := 0; width := 12; acc := .rwl; rst := .fixed 0; count := 256; stride := 0x10; group := 256; gstride := 0x0

/-- R453 -/
def SWX_SF_ACTION_TOOBJ : Field where
  base := 0x40640008; lsb := 31; width := 1; acc := .rwl; rst := .fixed 0; count := 256; stride := 0x10; group := 256; gstride := 0x0

/-- R453 -/
def SWX_SF_ACTION_EGRESS : Field where
  base := 0x40640008; lsb := 0; width := 27; acc := .rwl; rst := .fixed 0; count := 256; stride := 0x10; group := 256; gstride := 0x0

/-- R453 -/
def SWX_SF_CNT_MATCHES : Field where
  base := 0x4064000c; lsb := 0; width := 32; acc := .rc; rst := .fixed 0; count := 256; stride := 0x10; group := 256; gstride := 0x0

/-- R453 -/
def SWX_POL_RATE_EIR : Field where
  base := 0x40650000; lsb := 16; width := 16; acc := .rwl; rst := .fixed 0; count := 127; stride := 0x10; group := 127; gstride := 0x0

/-- R453 -/
def SWX_POL_RATE_CIR : Field where
  base := 0x40650000; lsb := 0; width := 16; acc := .rwl; rst := .fixed 0; count := 127; stride := 0x10; group := 127; gstride := 0x0

/-- R453 -/
def SWX_POL_BURST_EBS : Field where
  base := 0x40650004; lsb := 16; width := 16; acc := .rwl; rst := .fixed 0; count := 127; stride := 0x10; group := 127; gstride := 0x0

/-- R453 -/
def SWX_POL_BURST_CBS : Field where
  base := 0x40650004; lsb := 0; width := 16; acc := .rwl; rst := .fixed 0; count := 127; stride := 0x10; group := 127; gstride := 0x0

/-- R453 -/
def SWX_POL_MODE_DROPRED : Field where
  base := 0x40650008; lsb := 2; width := 1; acc := .rwl; rst := .fixed 0; count := 127; stride := 0x10; group := 127; gstride := 0x0

/-- R453 -/
def SWX_POL_MODE_AWARE : Field where
  base := 0x40650008; lsb := 1; width := 1; acc := .rwl; rst := .fixed 0; count := 127; stride := 0x10; group := 127; gstride := 0x0

/-- R453 -/
def SWX_POL_MODE_COUPLE : Field where
  base := 0x40650008; lsb := 0; width := 1; acc := .rwl; rst := .fixed 0; count := 127; stride := 0x10; group := 127; gstride := 0x0

/-- R453 -/
def SWX_POL_CNT_RED : Field where
  base := 0x4065000c; lsb := 16; width := 16; acc := .rc; rst := .fixed 0; count := 127; stride := 0x10; group := 127; gstride := 0x0

/-- R453 -/
def SWX_POL_CNT_YELLOW : Field where
  base := 0x4065000c; lsb := 0; width := 16; acc := .rc; rst := .fixed 0; count := 127; stride := 0x10; group := 127; gstride := 0x0

/-- R453 -/
def SWX_GL_CTL_STATES : Field where
  base := 0x40660000; lsb := 11; width := 8; acc := .rwl; rst := .fixed 0; count := 256; stride := 0x10; group := 256; gstride := 0x0

/-- R453 -/
def SWX_GL_CTL_POS : Field where
  base := 0x40660000; lsb := 5; width := 6; acc := .rwl; rst := .fixed 0; count := 256; stride := 0x10; group := 256; gstride := 0x0

/-- R453 -/
def SWX_GL_CTL_PORT : Field where
  base := 0x40660000; lsb := 0; width := 5; acc := .rwl; rst := .fixed 0; count := 256; stride := 0x10; group := 256; gstride := 0x0

/-- R453 -/
def SWX_GL_INTV_INTERVAL : Field where
  base := 0x40660004; lsb := 0; width := 32; acc := .rwl; rst := .fixed 0; count := 256; stride := 0x10; group := 256; gstride := 0x0

/-- R453 -/
def SWX_DP_GREEN_PMAX : Field where
  base := 0x40670000; lsb := 28; width := 4; acc := .rwl; rst := .fixed 0; count := 16; stride := 0x10; group := 16; gstride := 0x0

/-- R453 -/
def SWX_DP_GREEN_MAX : Field where
  base := 0x40670000; lsb := 14; width := 14; acc := .rwl; rst := .fixed 0; count := 16; stride := 0x10; group := 16; gstride := 0x0

/-- R453 -/
def SWX_DP_GREEN_MIN : Field where
  base := 0x40670000; lsb := 0; width := 14; acc := .rwl; rst := .fixed 0; count := 16; stride := 0x10; group := 16; gstride := 0x0

/-- R453 -/
def SWX_DP_YELLOW_PMAX : Field where
  base := 0x40670004; lsb := 28; width := 4; acc := .rwl; rst := .fixed 0; count := 16; stride := 0x10; group := 16; gstride := 0x0

/-- R453 -/
def SWX_DP_YELLOW_MAX : Field where
  base := 0x40670004; lsb := 14; width := 14; acc := .rwl; rst := .fixed 0; count := 16; stride := 0x10; group := 16; gstride := 0x0

/-- R453 -/
def SWX_DP_YELLOW_MIN : Field where
  base := 0x40670004; lsb := 0; width := 14; acc := .rwl; rst := .fixed 0; count := 16; stride := 0x10; group := 16; gstride := 0x0

/-- R453 -/
def SWX_DP_RED_PMAX : Field where
  base := 0x40670008; lsb := 28; width := 4; acc := .rwl; rst := .fixed 0; count := 16; stride := 0x10; group := 16; gstride := 0x0

/-- R453 -/
def SWX_DP_RED_MAX : Field where
  base := 0x40670008; lsb := 14; width := 14; acc := .rwl; rst := .fixed 0; count := 16; stride := 0x10; group := 16; gstride := 0x0

/-- R453 -/
def SWX_DP_RED_MIN : Field where
  base := 0x40670008; lsb := 0; width := 14; acc := .rwl; rst := .fixed 0; count := 16; stride := 0x10; group := 16; gstride := 0x0

/-- R453 -/
def SWX_RS_DMACHI_DMAC : Field where
  base := 0x40680000; lsb := 0; width := 32; acc := .rwl; rst := .fixed 0; count := 255; stride := 0x10; group := 255; gstride := 0x0

/-- R453 -/
def SWX_RS_CTL_DMAC : Field where
  base := 0x40680004; lsb := 16; width := 16; acc := .rwl; rst := .fixed 0; count := 255; stride := 0x10; group := 255; gstride := 0x0

/-- R453 -/
def SWX_RS_CTL_VID : Field where
  base := 0x40680004; lsb := 4; width := 12; acc := .rwl; rst := .fixed 0; count := 255; stride := 0x10; group := 255; gstride := 0x0

/-- R453 -/
def SWX_RS_CTL_PCP : Field where
  base := 0x40680004; lsb := 1; width := 3; acc := .rwl; rst := .fixed 0; count := 255; stride := 0x10; group := 255; gstride := 0x0

/-- R453 -/
def SWX_RS_CTL_SEQGEN : Field where
  base := 0x40680004; lsb := 0; width := 1; acc := .rwl; rst := .fixed 0; count := 255; stride := 0x10; group := 255; gstride := 0x0

/-- R453 -/
def SWX_RS_OUT_REPL : Field where
  base := 0x40680008; lsb := 31; width := 1; acc := .rwl; rst := .fixed 0; count := 255; stride := 0x10; group := 255; gstride := 0x0

/-- R453 -/
def SWX_RS_OUT_PORTB : Field where
  base := 0x40680008; lsb := 26; width := 5; acc := .rwl; rst := .fixed 0x1f; count := 255; stride := 0x10; group := 255; gstride := 0x0

/-- R453 -/
def SWX_RS_OUT_PORTA : Field where
  base := 0x40680008; lsb := 21; width := 5; acc := .rwl; rst := .fixed 0x1f; count := 255; stride := 0x10; group := 255; gstride := 0x0

/-- R453 -/
def SWX_RS_OUT_LEN : Field where
  base := 0x40680008; lsb := 10; width := 11; acc := .rwl; rst := .fixed 0; count := 255; stride := 0x10; group := 255; gstride := 0x0

/-- R453 -/
def SWX_RS_OUT_OBJ : Field where
  base := 0x40680008; lsb := 0; width := 10; acc := .rwl; rst := .fixed 0x3ff; count := 255; stride := 0x10; group := 255; gstride := 0x0

/-- R453 -/
def SWX_RS_CNT_DISCARD : Field where
  base := 0x4068000c; lsb := 16; width := 16; acc := .rc; rst := .fixed 0; count := 255; stride := 0x10; group := 255; gstride := 0x0

/-- R453 -/
def SWX_RS_CNT_LOST : Field where
  base := 0x4068000c; lsb := 0; width := 16; acc := .rc; rst := .fixed 0; count := 255; stride := 0x10; group := 255; gstride := 0x0

/-- R453 -/
def SWX_RS_UNTAG_UNTAGGED : Field where
  base := 0x40690000; lsb := 0; width := 32; acc := .rc; rst := .fixed 0; count := 255; stride := 0x4; group := 255; gstride := 0x0

/-- R638 -/
def DBG_CNT_FAILS : Field where
  base := 0x40810010; lsb := 16; width := 16; acc := .rc; rst := .fixed 0

/-- R638 -/
def DBG_CNT_REFUSED : Field where
  base := 0x40810010; lsb := 0; width := 16; acc := .rc; rst := .fixed 0

/-- R638 -/
def DBG_ACCERR_ACC_ERR : Field where
  base := 0x40810014; lsb := 0; width := 16; acc := .rc; rst := .fixed 0

/-- R559: AIA direct mode -/
def APLIC_IDELIVERY_VALUE : Field where
  base := 0x40004000; lsb := 0; width := 32; acc := .rw; rst := .fixed 0; count := 4; stride := 0x20; group := 4; gstride := 0x0

/-- R559: AIA direct mode -/
def APLIC_IFORCE_VALUE : Field where
  base := 0x40004004; lsb := 0; width := 32; acc := .rw; rst := .fixed 0; count := 4; stride := 0x20; group := 4; gstride := 0x0

/-- R559: AIA direct mode -/
def APLIC_ITHRESHOLD_VALUE : Field where
  base := 0x40004008; lsb := 0; width := 32; acc := .rw; rst := .fixed 0; count := 4; stride := 0x20; group := 4; gstride := 0x0

/-- R559: AIA direct mode -/
def APLIC_TOPI_VALUE : Field where
  base := 0x40004018; lsb := 0; width := 32; acc := .ro; rst := .fixed 0; count := 4; stride := 0x20; group := 4; gstride := 0x0

/-- R559: AIA direct mode -/
def APLIC_CLAIMI_VALUE : Field where
  base := 0x4000401c; lsb := 0; width := 32; acc := .ro; rst := .fixed 0; count := 4; stride := 0x20; group := 4; gstride := 0x0

def fieldsSysctl0 : List Field := [
  SYSCTL_PARTID_PART, SYSCTL_PARTID_BANKS, SYSCTL_PARTID_GRADE, SYSCTL_PARTID_STEP_LTR,
  SYSCTL_PARTID_STEP_NUM, SYSCTL_DECKSTAT_REJ_CODE, SYSCTL_DECKSTAT_SWAP_ARMED, SYSCTL_DECKSTAT_ACT_SLOT,
  SYSCTL_DECKSTAT_STATE, SYSCTL_EVT_SWAPABN, SYSCTL_EVT_PRESENCE, SYSCTL_EVT_SWAPDONE,
  SYSCTL_CPUMAP_FAILRT, SYSCTL_CPUMAP_FAILAPP, SYSCTL_CPUMAP_RTMAP, SYSCTL_CPUMAP_APPMAP,
  SYSCTL_CPUMAP_SPARES, SYSCTL_ECCCNT_UNC, SYSCTL_ECCCNT_COR, SYSCTL_ECCADDR_ADDR,
  SYSCTL_ACCERR_ACC_ERR, SYSCTL_DECKID_DECK_ID, SYSCTL_DECKVER_DECK_VER, SYSCTL_DECKFLOOR_FLOOR]

def fieldsSysctl1 : List Field := [
  APLIC_IDELIVERY_VALUE, APLIC_IFORCE_VALUE, APLIC_ITHRESHOLD_VALUE, APLIC_TOPI_VALUE,
  APLIC_CLAIMI_VALUE]

/-- Every field of block SYSCTL (R29). -/
def fieldsSysctl : List Field :=
  fieldsSysctl0 ++ fieldsSysctl1

def fieldsBeat0 : List Field := [
  BEAT_CFG_PER_CYCLE, BEAT_CFG_SRC_UNIT, BEAT_CFG_SOURCE, BEAT_REPLEN_REPEAT_LEN,
  BEAT_PICKNS_PICK_NS, BEAT_HOLDMS_HOLDOVER_MS, BEAT_STEPB_STEP_BOUND_NS, BEAT_MINPICK_MIN_NS,
  BEAT_PICK, BEAT_REPCNT, BEAT_PERIOD, BEAT_PHERR,
  BEAT_HOLDLEFT_LEFT_MS, BEAT_LINEPER_LINE_NS, BEAT_POSCNT, BEAT_ACCERR_ACC_ERR,
  BEAT_SWSTATE_SW, BEAT_SWRAW_SW, BEAT_WKSTATE_WK, BEAT_SWEVT_SW,
  BEAT_AINEVT_AIN, BEAT_SWV_VOLT, BEAT_AIN_CODE, BEAT_STAT_QUAL_CNT]

def fieldsBeat1 : List Field := [
  BEAT_STAT_RUN_SRC, BEAT_STAT_STATE, BEAT_EVT_RANGE, BEAT_EVT_QUAD_ERR,
  BEAT_EVT_IDX_MISS, BEAT_EVT_IDLE_OUT, BEAT_EVT_IDLE_IN, BEAT_EVT_STEP,
  BEAT_EVT_ACQ, BEAT_EVT_LOSS, BEAT_SWCFG_THRESH, BEAT_AINCFG_THRESH,
  BEAT_WKCFG_THRESH, BEAT_SWCFG_DEBOUNCE, BEAT_AINCFG_DEBOUNCE, BEAT_WKCFG_DEBOUNCE,
  BEAT_SWCFG_MODE, BEAT_AINCFG_MODE, BEAT_WKCFG_MODE, BEAT_CNT0_LOSS_CNT,
  BEAT_CNT0_STEP_CNT, BEAT_CNT1_IDX_CNT, BEAT_CNT1_QUAD_CNT]

/-- Every field of block BEAT (R29). -/
def fieldsBeat : List Field :=
  fieldsBeat0 ++ fieldsBeat1

def fieldsTrd0 : List Field := [
  TRD_STAT_IDLE_HOST, TRD_STAT_IDLE_CONF, TRD_STAT_IDLE_DROP, TRD_STAT_IDLE_BEAT,
  TRD_STAT_LANE, TRD_STAT_ACT_HALF, TRD_STAT_STATE, TRD_EVT_MARKF,
  TRD_EVT_SWAPPED, TRD_EVT_REFUSE, TRD_EVT_SAT, TRD_EVT_ECC_UNC,
  TRD_EVT_ECC_COR, TRD_EVT_IDLE_OUT, TRD_EVT_IDLE_IN, TRD_EVT_DROP_C0,
  TRD_EVT_DROP, TRD_ENTRIES_COUNT, TRD_MAXPICK_MAX, TRD_BUDGET_SLOTS,
  TRD_LASTUSE_USED, TRD_PEAK, TRD_PEAKPICK_PICK, TRD_DROPS]

def fieldsTrd1 : List Field := [
  TRD_DROPPICK_PICK, TRD_DROPREP_REPCNT, TRD_MARKEVT_FLAGS, TRD_FMARK_PICK,
  TRD_FMARK_INDEX, TRD_ECCCNT_UNC, TRD_ECCCNT_COR, TRD_SATCNT_COUNT,
  TRD_SKIPCNT_COUNT, TRD_SUBSTCNT_COUNT, TRD_REFCNT_COUNT, TRD_ACCERR_ACC_ERR,
  TRD_MARK_VAL, TRD_SIGWERR_COUNT, TRD_SIGWLAST_SIGNAL, TRD_SIGWLAST_CTX,
  TRD_SIGFDROP_COUNT, TRD_SIGSHORT_COUNT, TRD_SIGUNDECL_COUNT, TRD_SIGSTALE_COUNT,
  TRD_SIGWKIND_GCOMMIT, TRD_GCOMMIT_GROUP, TRD_GVER_PEND, TRD_GVER]

def fieldsTrd2 : List Field := [
  TRD_WATCH_SIGNAL, TRD_WATCH_STALEF, TRD_WATCH_CHG]

/-- Every field of block TRD (R29). -/
def fieldsTrd : List Field :=
  fieldsTrd0 ++ fieldsTrd1 ++ fieldsTrd2

def fieldsCtx0 : List Field := [
  CTX_GSTAT_DECL, CTX_POOLSIZE_UNITS, CTX_POOLRES_UNITS, CTX_POOLBOR_UNITS,
  CTX_CMD, CTX_CMD_CTX, CTX_ACCERR_ACC_ERR, CTX_BRCNT_COUNT,
  CTX_C0CONF_COUNT, CTX_HSEL_BOB, CTX_HPOP_POP, CTXN_QBASE,
  CTXN_FAULT_ACC, CTX_TMRPER_PERIOD, CTX_TMRCNT_CNT, CTX_DBRING_DATA,
  CTX_NQLO_BYTES, CTX_NQHI_BYTES, CTX_NQSTAT_COUNT, CTX_NQLOST_COUNT,
  CTX_QD_DEPTH, CTX_HART_VALID, CTX_HART_BIND, CTX_HART_CTX]

def fieldsCtx1 : List Field := [
  CTXN_STAT_RESETS, CTXN_STAT_BOBBINS, CTXN_STAT_CAUSE, CTXN_STAT_BIND,
  CTXN_STAT_CLASS, CTXN_STAT_STATE, CTX_Q_RECS, CTX_Q_SHRUNK,
  CTX_Q_OVF, CTX_Q_USED, CTX_TMRCFG_EXP, CTX_TMRCFG_UNIT,
  CTX_TMRCFG_MODE, CTX_DBSTAT_DATA, CTX_DBSTAT_FROM, CTX_DBSTAT_OVR,
  CTX_DBSTAT_PEND, CTX_EVT_NQLOST, CTX_EVT_BREACH, CTX_EVT_STATECHG]

/-- Every field of block CTX (R29). -/
def fieldsCtx : List Field :=
  fieldsCtx0 ++ fieldsCtx1

def fieldsBank0 : List Field := [
  CH_CFG_LEAD, CH_CFG_SENSE, CH_CFG_OLMODE, CH_CFG_OLFILT,
  CH_CFG_SLOW, CH_CFG_CLS, CH_LIM_DWELL, CH_LIM_LIMIT,
  CH_INRUSH_WIN, CH_INRUSH_ILIM, CH_WIRE_TAU, CH_WIRE_IRATED,
  CH_THERM_HYST, CH_THERM_DTMAX, CH_FAULT_WUNIT, CH_FAULT_WIN,
  CH_FAULT_RETRY, CH_FAULT_THRESH, CH_FAIL_HMARK, CH_FAIL_FSTATE,
  CH_FAIL_HOLDMS, CH_OWNER, CH_STAT_STATE, CH_STAT_MAN]

def fieldsBank1 : List Field := [
  CH_STAT_LIMITING, CH_STAT_CELLS, CH_STAT_FCNT, CH_STAT_CAUSE,
  CH_STAT_NEEDOFF, CH_STAT_OPEN, CH_STAT_STB, CH_STAT_WARN,
  CH_EVT_MANEND, CH_EVT_CMDERR, CH_EVT_WARN, CH_EVT_STB,
  CH_EVT_OPEN, CH_EVT_LATCH, CH_EVT_TRIP, CH_CMD_DUTY,
  CH_CMD, CH_PWMPER_PERIOD, CH_ISENSE_CODE, CH_VSENSE_CODE,
  CH_TEMP_TJ, CH_TEMP_DT, CH_WIREST_PINLEVEL, CH_WIREST_LEVEL]

def fieldsBank2 : List Field := [
  CH_CNT_TRIPS, CH_CNT_LATCHES, CH_CLR, CH_MAN_EN,
  CH_MAN_CMD, BANK_CFG_CASEMAX, BANK_CFG_PDMAX, BANK_CFG_CELLPER,
  BANK_CFG_CELLTH, BANK_CFG_VCLASS, BANK_BUDGET_OVERMS, BANK_BUDGET_PEAK,
  BANK_BUDGET_CONT, BANK_INRUSH_SHQUIET, BANK_INRUSH_DEFMAX, BANK_INRUSH_SPACE,
  BANK_STAT_BUDCNT, BANK_STAT_THERMLIM, BANK_STAT_OVERBUD, BANK_STAT_SHORTEV,
  BANK_STAT_LINK, BANK_STAT_LOCKWHY, BANK_STAT_STATE, BANK_EVT_KRESET]

def fieldsBank3 : List Field := [
  BANK_EVT_CASELIM, BANK_EVT_PDLIM, BANK_EVT_CELLOUT, BANK_EVT_DERATE,
  BANK_EVT_CELL, BANK_EVT_RESUME, BANK_EVT_FAIL, BANK_EVT_HOLD,
  BANK_EVT_DEFLIM, BANK_EVT_SHED, BANK_EVT_UNLOCK, BANK_EVT_LOCK,
  BANK_VSUP_VOLT, BANK_ISUM_CUR, BANK_PDISS_PMS, BANK_PDISS_PMEAN,
  BANK_SHED_CHANS, BANK_HOLD_FAILED, BANK_HOLD_HOLDING, BANK_WAITING_CHANS,
  BANK_SHORDER0_ORDER, BANK_SHORDER1_ORDER, BANK_C0MASK_CHANS, BANK_CELLMAP_RET1]

def fieldsBank4 : List Field := [
  BANK_CELLMAP_RET0, BANK_LINKERR_LOGLOST, BANK_LINKERR_CRCERR, BANK_CNT_SHEDS,
  BANK_CNT_DEFLIM, BANK_ACCERR_ACC_ERR]

/-- Every field of block BANK (R29). -/
def fieldsBank : List Field :=
  fieldsBank0 ++ fieldsBank1 ++ fieldsBank2 ++ fieldsBank3 ++ fieldsBank4

def fieldsCan0 : List Field := [
  CAN_MODE_XLFAST, CAN_MODE_BODLY, CAN_MODE_REFBUF, CAN_MODE_TM,
  CAN_MODE_PXHD, CAN_MODE_XLOE, CAN_MODE_BRSE, CAN_MODE_FDOE,
  CAN_MODE_LOM, CAN_NBT_SJW, CAN_NBT_TSEG2, CAN_NBT_TSEG1,
  CAN_NBT_BRP, CAN_DBT_SJW, CAN_DBT_TSEG2, CAN_DBT_TSEG1,
  CAN_DBT_BRP, CAN_TDC_PWMO, CAN_TDC_PWML, CAN_TDC_PWMS,
  CAN_TDC_TDCF, CAN_TDC_TDCE, CAN_TDC_TDCO, CAN_Q1OWN_EN]

def fieldsCan1 : List Field := [
  CAN_Q1OWN_BOB, CAN_Q1OWN_CTX, CAN_NOPART_WUNIT, CAN_NOPART_WIN,
  CAN_NOPART_STOP, CAN_NOPART_THRESH, CAN_STAT_SERVES, CAN_STAT_CYCLE,
  CAN_STAT_ROLE, CAN_STAT_NOPART, CAN_STAT_LOM, CAN_STAT_STATE,
  CAN_EVT_QLOST, CAN_EVT_TMROLE, CAN_EVT_PXE, CAN_EVT_PARTNER,
  CAN_EVT_NOPART, CAN_EVT_BOREC, CAN_EVT_BOFF, CAN_EVT_EACT,
  CAN_EVT_EPASS, CAN_EVT_TXLATE, CAN_EVT_TXABT, CAN_EVT_TXDONE]

def fieldsCan2 : List Field := [
  CAN_EVT_RXQ1, CAN_ERRCNT_REC, CAN_ERRCNT_TEC, CAN_TDCVAL_DELAY,
  CAN_RXCNT_Q0LOST, CAN_RXCNT_Q1LOST, CAN_RXCNT_NOMATCH, CAN_TXCNT_MERGED,
  CAN_FLTCNT_BUSOFF, CAN_FLTCNT_PXCNT, CAN_ACCERR_ACC_ERR, CAN_TXPEND_BUFS,
  CAN_TXSTART_BUFS, CAN_TXCAN_BUFS, CAN_TXDONE_BUFS, CAN_TXABT_BUFS,
  CAN_TXLATE_BUFS, CAN_NPBUF_BUF, CAN_Q0CNT_Q0REPL, CAN_TXLEN_LEN,
  CAN_TXCFG_FORM, CAN_TXCFG_ID, CAN_FMATCH_EN, CAN_FMATCH_Q]

def fieldsCan3 : List Field := [
  CAN_FMATCH_IDE, CAN_FMATCH_ID, CAN_FMASK_FORM, CAN_FMASK_IDEM,
  CAN_FMASK_MASK]

/-- Every field of block CAN (R29). -/
def fieldsCan : List Field :=
  fieldsCan0 ++ fieldsCan1 ++ fieldsCan2 ++ fieldsCan3

def fieldsTt0 : List Field := [
  TT_CYCLE_MACROS, TT_CYCLE_UPM, TT_CYCLE_CCMAX, TT_CYCLE_TSS,
  TT_SLOTCFG_NSTATIC, TT_SLOTCFG_SLOTLEN, TT_SLOTCFG_PAYLOAD, TT_SLOTCFG_SAPO,
  TT_COLD_CSEN, TT_COLD_SYNCN, TT_COLD_ATTEMPTS, TT_COLD_NMINI,
  TT_COLD_MINILEN, TT_COLD_MAPO, TT_GUARD_SELV, TT_GUARD_WUNIT,
  TT_GUARD_WIN, TT_GUARD_THRESH, TT_BUFCFG_KIND, TT_BUFCFG_KEEP,
  TT_BUFCFG_STARTUP, TT_BUFCFG_REP, TT_BUFCFG_BASE, TT_BUFCFG_BOB]

def fieldsTt1 : List Field := [
  TT_BUFCFG_PLEN, TT_STAT_CYCLE, TT_STAT_SLOT, TT_STAT_ATTLEFT,
  TT_STAT_PASSB, TT_STAT_PASSA, TT_STAT_STATE, TT_EVT_PASSB,
  TT_EVT_PASSA, TT_EVT_TRUNCB, TT_EVT_TRUNCA, TT_EVT_MARKERR,
  TT_EVT_COLDEX, TT_EVT_STATE, TT_EVT_DYNDONE, TT_EVT_RXBOB,
  TT_EVT_CYC, TT_RXCNT_SLOTERR, TT_TXCNT_LATE, TT_GCNT_TRUNCA,
  TT_GCNT_TRUNCB, TT_GCNT_MARKERR, TT_GCNT_HALTS, TT_CLKCOR_RATE]

def fieldsTt2 : List Field := [
  TT_CLKCOR_OFFSET, TT_ACCERR_ACC_ERR, TT_BUFSLOT_CHMASK, TT_BUFSLOT_SLOT]

/-- Every field of block TT (R29). -/
def fieldsTt : List Field :=
  fieldsTt0 ++ fieldsTt1 ++ fieldsTt2

def fieldsSwx0 : List Field := [
  SWX_GCFG_FRTO, SWX_GCFG_DOMAIN, SWX_GCFG_ETYPE, SWX_POOL_LIMIT,
  SWX_MACLO_MAC, SWX_MACHI_MAC, SWX_BUF_USABLE, SWX_BUF_SHARED,
  SWX_GPTP_SLAVE, SWX_GPTP_STATE, SWX_PPSIN_NS, SWX_NOFILT_COUNT,
  SWX_ACCERR_ACC_ERR, SWX_GEVT_GATESTEP, SWX_GEVT_FLUSH, SWX_GEVT_MINRED,
  SWX_GEVT_FRERRST, SWX_GEVT_NOFILT, SWX_GEVT_POLRED, SWX_GEVT_GPTPLOST,
  SWX_GEVT_GPTP, SWXP_CFG0_MACSEC, SWXP_CFG0_CTEN, SWXP_CFG0_LINKHOLD]

def fieldsSwx1 : List Field := [
  SWXP_CFG0_PVID, SWXP_CFG0_DEFPCP, SWXP_CFG0_ACCEPT, SWXP_CFG1_CYCLE,
  SWXP_CFG1_GLEN, SWXP_CFG1_GSRC, SWXP_CFG2_TXSLOT, SWXP_CFG2_GOFF,
  SWXP_STAT_HOLDLEFT, SWXP_STAT_GATES, SWXP_STAT_LSTATE, SWXP_STAT_SECUP,
  SWXP_STAT_LINK, SWXP_EVT_TXDONE, SWXP_EVT_RXDONE, SWXP_EVT_SECPN,
  SWXP_EVT_SECKEY, SWXP_EVT_SECERR, SWXP_EVT_TXABORT, SWXP_EVT_FLUSH,
  SWXP_EVT_LINKDN, SWXP_EVT_LINKUP, SWXQ_CFG0_CLASS, SWXQ_CFG0_CAP]

def fieldsSwx2 : List Field := [
  SWXQ_CFG0_MIN, SWXQ_CFG1_MAXRES, SWXQ_CFG1_REDEN, SWXQ_CFG1_PROFILE,
  SWXQ_STAT_MINNOW, SWXQ_STAT_USED, SWXQ_TAILDROP_COUNT, SWXQ_REDDROP_COUNT,
  SWXQ_DOWNDROP_COUNT, SWXQ_AGED_COUNT, SWXP_RXFRAMES_COUNT, SWXP_TXFRAMES_COUNT,
  SWXP_RXERR_COUNT, SWXP_FLUSHED_COUNT, SWXP_TXABORT_COUNT, SWXP_SECDROP_COUNT,
  SWX_VLAN_ID_FLOOD, SWX_VLAN_ID_VID, SWX_VLAN_MEMBER, SWX_VLAN_UNTAG,
  SWX_SF_DMAC, SWX_SF_MATCH_FRER, SWX_SF_MATCH_POLICER, SWX_SF_MATCH_INPORT]

def fieldsSwx3 : List Field := [
  SWX_SF_MATCH_VID, SWX_SF_ACTION_TOOBJ, SWX_SF_ACTION_EGRESS, SWX_SF_CNT_MATCHES,
  SWX_POL_RATE_EIR, SWX_POL_RATE_CIR, SWX_POL_BURST_EBS, SWX_POL_BURST_CBS,
  SWX_POL_MODE_DROPRED, SWX_POL_MODE_AWARE, SWX_POL_MODE_COUPLE, SWX_POL_CNT_RED,
  SWX_POL_CNT_YELLOW, SWX_GL_CTL_STATES, SWX_GL_CTL_POS, SWX_GL_CTL_PORT,
  SWX_GL_INTV_INTERVAL, SWX_DP_GREEN_PMAX, SWX_DP_GREEN_MAX, SWX_DP_GREEN_MIN,
  SWX_DP_YELLOW_PMAX, SWX_DP_YELLOW_MAX, SWX_DP_YELLOW_MIN, SWX_DP_RED_PMAX]

def fieldsSwx4 : List Field := [
  SWX_DP_RED_MAX, SWX_DP_RED_MIN, SWX_RS_DMACHI_DMAC, SWX_RS_CTL_DMAC,
  SWX_RS_CTL_VID, SWX_RS_CTL_PCP, SWX_RS_CTL_SEQGEN, SWX_RS_OUT_REPL,
  SWX_RS_OUT_PORTB, SWX_RS_OUT_PORTA, SWX_RS_OUT_LEN, SWX_RS_OUT_OBJ,
  SWX_RS_CNT_DISCARD, SWX_RS_CNT_LOST, SWX_RS_UNTAG_UNTAGGED]

/-- Every field of block SWX (R29). -/
def fieldsSwx : List Field :=
  fieldsSwx0 ++ fieldsSwx1 ++ fieldsSwx2 ++ fieldsSwx3 ++ fieldsSwx4

def fieldsBrg0 : List Field := [
  BRG_CFG_RSPBASE, BRG_CFG_REQBASE, BRG_CFG_PCP, BRG_CFG_NET,
  BRG_CFG_VID, BRG_STAT_SLOTS, BRG_STAT_ENTRIES, BRG_ACCERR_ACC_ERR,
  BRG_INCNT_UNDECL, BRG_INCNT_DROPPED, BRG_CNT_EXPIRED, BRG_CNT_NOSLOT,
  BRG_CABORT_SLOT, BRG_RSTAT_SLOT, BRG_RSTAT_CODE, BRG_RSTAT_ST,
  BRG_WCFG_BUS, BRG_WCFG_UNIT, BRG_WCFG_NODE, BRG_WCFG_TXBUF,
  BRG_WCFG_FILTER, BRG_WCFG_PWMAX, BRG_WPOLL_RETRIES, BRG_WPOLL_RSPTO]

def fieldsBrg1 : List Field := [
  BRG_WPOLL_CTMR, BRG_WPOLL_POLLMS, BRG_WSTAT_SSIZE, BRG_WSTAT_STATADDR,
  BRG_INCFG_BUS, BRG_INCFG_UNIT, BRG_INCFG_NODE, BRG_INCFG_IACKBUF,
  BRG_INPOLL_SIGBASE, BRG_INPOLL_COUNT, BRG_INSTAT_ABASE, BRG_WSTATE_STATE,
  BRG_WSTATE_HELD, BRG_WSTATE_PEND, BRG_WEVT_RDERR, BRG_WEVT_FULL,
  BRG_WEVT_IDMIS, BRG_WEVT_STATCHG, BRG_WEVT_COLLECT, BRG_WEVT_HALT,
  BRG_WSEQ_NUM, BRG_WFAIL_NUM, BRG_WFINFO_ADDR, BRG_WFINFO_SIZE]

def fieldsBrg2 : List Field := [
  BRG_WFINFO_CODE, BRG_WACK_MODE, BRG_WSVAL_VALUE, BRG_WID_ID,
  BRG_WCNT_RETRIES, BRG_WCNT_STRAY, BRG_WCNT2_REFUSED, BRG_WCNT2_DISCARDED,
  BRG_CSTAT_BUSY, BRG_CSTAT_DONE, BRG_CSTAT_WIN, BRG_CSTAT_CODE,
  BRG_CDATA_DATA]

/-- Every field of block BRG (R29). -/
def fieldsBrg : List Field :=
  fieldsBrg0 ++ fieldsBrg1 ++ fieldsBrg2

def fieldsNmw0 : List Field := [
  NMW_CFG_ETHEN, NMW_CFG_PCP, NMW_CFG_VID, NMW_TIMES_SWAIT,
  NMW_TIMES_PREP, NMW_STAT_ALLSLEEP, NMW_STAT_DECL, NMW_REQ_SET,
  NMW_REQ_CLUSTER, NMW_REQ_REASON, NMW_MYREQ_CLUSTERS, NMW_WKEVT_WAKE,
  NMW_CNT_BADKA, NMW_CNT_CANCEL, NMW_ACCERR_ACC_ERR, NMW_TLEFT_S,
  NMW_AW_NODE, NMW_AW_DUR, NMW_WAKESRC_CAUSE, NMW_WAKESRC_CLUSTER,
  NMW_WAKESRC_UNIT, NMW_CL_KABLK, NMW_CL_WAKEIN, NMW_CL_AWLIM]

def fieldsNmw1 : List Field := [
  NMW_CL_KAPER, NMW_CL_LISTEN, NMW_CLSTAT_CAUSE, NMW_CLSTAT_HOLDERS,
  NMW_CLSTAT_STATE, NMW_EVT_SWMIS, NMW_EVT_AWLIM, NMW_EVT_WAC,
  NMW_EVT_WAKE, NMW_EVT_COMMIT, NMW_EVT_PREP, NMW_EVT_STATE]

/-- Every field of block NMW (R29). -/
def fieldsNmw : List Field :=
  fieldsNmw0 ++ fieldsNmw1

def fieldsSht0 : List Field := [
  SHT_STAT_LOCKOUT, SHT_STAT_HALFOPEN, SHT_STAT_OPEN, SHT_EVT_REPLAY,
  SHT_EVT_NOTELOST, SHT_EVT_TAGERR, SHT_EVT_LOCKOUT, SHT_EVT_AUTHFAIL,
  SHT_EVT_CLOSE, SHT_EVT_OPEN, SHT_CNT0_AUTHFAIL, SHT_CNT0_TAGERR,
  SHT_CNT1_REPLAY, SHT_CNT1_NOSESS, SHT_CNT2_NOTELOST, SHT_CNT2_MALFORM,
  SHT_ACCERR_ACC_ERR, SHT_SID_SESSION, SHT_MODID_BYTES, SHT_SESS_STATE,
  SHT_SESS_SUB, SHT_SESS_HOST, SHT_SESS_ROLES]

/-- Every field of block SHT (R29). -/
def fieldsSht : List Field :=
  fieldsSht0

def fieldsKey0 : List Field := [
  KEY_STAT_KEYLESS, KEY_STAT_DSREADY, KEY_STAT_TRNGERR, KEY_STAT_LCBUSY,
  KEY_STAT_BUSY, KEY_LC_FUSES, KEY_LC_TARGET, KEY_LC_STATE,
  KEY_TAMPER_CAUSE, KEY_POLICY_TAMPEN, KEY_EVT_LCCHG, KEY_EVT_TAMPER,
  KEY_EVT_KEYLESS, KEY_EVT_ORPHAN, KEY_EVT_COMMIT, KEY_EVT_OPERR,
  KEY_EVT_OPDONE, KEY_CNT_TAGFAIL, KEY_CNT_REFUSED, KEY_ACCERR_ACC_ERR,
  KEY_OP_CTL_START, KEY_OP_CTL_ABORT, KEY_OP_CTL_IRQ, KEY_OP_CTL_OP]

def fieldsKey1 : List Field := [
  KEY_OP_CTL_SLOT, KEY_OP_DESC_ADDR, KEY_OP_STAT_STATE, KEY_OP_STAT_DONE,
  KEY_OP_STAT_CTX, KEY_OP_STAT_CODE, KEY_OP_OUTLEN_B, KEY_SLOTSTAT_STATE,
  KEY_SLOTSTAT_PEND, KEY_SLOTSTAT_INUSE, KEY_KVER, KEY_OWN_OWNER,
  KEY_ATTR_USE, KEY_ATTR_ALG, KEY_ATTR_LCMASK, KEY_ATTR_SOURCE,
  KEY_ATTR_OUTCHAL, KEY_ATTR_PARENT]

/-- Every field of block KEY (R29). -/
def fieldsKey : List Field :=
  fieldsKey0 ++ fieldsKey1

def fieldsDbg0 : List Field := [
  DBG_STAT_LOCKLEFT, DBG_STAT_HALTED, DBG_STAT_PWRHELD, DBG_STAT_CHRDY,
  DBG_STAT_ATTACHED, DBG_STAT_LEVEL, DBG_POLICY_HOLDLC, DBG_POLICY_APPLC,
  DBG_CTL_CLOSE, DBG_CTL_HALTRST, DBG_CTL_HOLDRUN, DBG_EVT_HELD,
  DBG_EVT_LOCKOUT, DBG_EVT_FAIL, DBG_EVT_LEVEL, DBG_CNT_FAILS,
  DBG_CNT_REFUSED, DBG_ACCERR_ACC_ERR]

/-- Every field of block DBG (R29). -/
def fieldsDbg : List Field :=
  fieldsDbg0

def fieldsRec0 : List Field := [
  REC_CFG_DDEPTH, REC_CFG_DFILL, REC_STAT_STAGED, REC_STAT_HEADSLOT,
  REC_STAT_CLEARING, REC_STAT_READY, REC_HEAD_SEQ, REC_TAIL_SEQ,
  REC_CUR_SEQ, REC_CURSTAT_CRCERR, REC_CURSTAT_PRESENT, REC_CNT_SUPP,
  REC_CNT_LOST, REC_OPTIMEL_OPTIME, REC_OPTIMEH_OPTIME, REC_PWRCYC,
  REC_TRIG_CODE, REC_ACCERR_ACC_ERR, REC_DBKT_SUPPCNT, REC_DBKT_TOKENS,
  REC_ARG, REC_WIN_WORD, REC_SET_ENTRY, REC_EVT_LOST]

def fieldsRec1 : List Field := [
  REC_EVT_CRCERR, REC_EVT_SUPP, REC_EVT_WRAP, REC_EVT_CTXREC,
  REC_RNG_CODES_HI, REC_RNG_CODES_LO, REC_RNG_CTL_EN, REC_RNG_CTL_SET,
  REC_RNG_CTL_OWNER, REC_BKT_CODE_EN, REC_BKT_CODE, REC_BKT_FILL_DEPTH,
  REC_BKT_FILL, REC_BKT_STATE_SUPPCNT, REC_BKT_STATE_TOKENS]

/-- Every field of block REC (R29). -/
def fieldsRec : List Field :=
  fieldsRec0 ++ fieldsRec1

def fieldsUpd0 : List Field := [
  UPD_STAT_STATE, UPD_STAT_IKIND, UPD_STAT_TARGET, UPD_STAT_LOCKED,
  UPD_STAT_HOLDER, UPD_STAT_TRY, UPD_STAT_ACTBOOT, UPD_STAT_ACTFW,
  UPD_STAT_ACTSET, UPD_EVT_VERIFY, UPD_EVT_FALLBACK, UPD_EVT_CONFIRMED,
  UPD_EVT_NOTREADY, UPD_EVT_ACTIVATED, UPD_EVT_LOCKCHG, UPD_EVT_STAGED,
  UPD_CONFIRM_KEY, UPD_CFMLEFT_LEFT, UPD_RECEIVED_BLOCKS, UPD_IMGVER_IMG_VER,
  UPD_TRYVER_IMG_VER, UPD_FWFLOOR_FW_FLOOR, UPD_SETVER_SET_VER, UPD_CNT_BLKFAIL]

def fieldsUpd1 : List Field := [
  UPD_CNT_FALLBACKS, UPD_ACCERR_ACC_ERR]

/-- Every field of block UPD (R29). -/
def fieldsUpd : List Field :=
  fieldsUpd0 ++ fieldsUpd1

def fieldsPwr0 : List Field := [
  PWR_STAT_DOMON, PWR_STAT_LASTRST, PWR_STAT_PEND, PWR_STAT_RETB,
  PWR_STAT_RETA, PWR_STAT_STATE, PWR_EVT_VKLOW, PWR_EVT_TEMP,
  PWR_EVT_KRST, PWR_EVT_BUSRST, PWR_EVT_WDWARN, PWR_EVT_DRDONE,
  PWR_EVT_CLK, PWR_EVT_VHIGH, PWR_EVT_VLOW, PWR_EVT_WAKE,
  PWR_EVT_REQ, PWR_REQ, PWR_CFG_HIBAFTER, PWR_CFG_STBYDLY,
  PWR_HOLD_HOLDERS, PWR_HOLD, PWR_DRST_DOMAIN, PWR_VSUP_VSUP_LOG]

def fieldsPwr1 : List Field := [
  PWR_TEMP_TJ, PWR_RETSEQ_SEQ, PWR_CNT_BROWNOUTS, PWR_CNT_WDRESETS,
  PWR_ACCERR_ACC_ERR, PWR_WDKICK_KEY, PWR_WDCFG_EN, PWR_WDCFG_ACTION,
  PWR_WDCFG_PERIOD]

/-- Every field of block PWR (R29). -/
def fieldsPwr : List Field :=
  fieldsPwr0 ++ fieldsPwr1

def fieldsFlt0 : List Field := [
  FLT_STAT_SROWS, FLT_STAT_MROWS, FLT_STAT_NORSP, FLT_STAT_CANSP,
  FLT_STAT_BUSHELD, FLT_STAT_LINKOFF, FLT_EVT_LATCHOFF, FLT_EVT_REPAIRED,
  FLT_EVT_EXHAUST, FLT_EVT_SUBST, FLT_EVT_REACHED, FLT_LAST_KIND,
  FLT_LAST_ACTION, FLT_LAST_UNIT, FLT_REPCNT_ROWREP, FLT_REPCNT_NORREP,
  FLT_ROWLAST_ADDR, FLT_ACCERR_ACC_ERR, FLT_CORECNT_COUNT, FLT_CORECNT_REACHED,
  FLT_CORECNT_WLEFT, FLT_PAIRCNT_COUNT, FLT_PAIRCNT_REACHED, FLT_PAIRCNT_WLEFT]

def fieldsFlt1 : List Field := [
  FLT_CANCNT_COUNT, FLT_CANCNT_REACHED, FLT_CANCNT_WLEFT, FLT_BUSCNT_COUNT,
  FLT_BUSCNT_REACHED, FLT_BUSCNT_WLEFT, FLT_BANKCNT_COUNT, FLT_BANKCNT_REACHED,
  FLT_BANKCNT_WLEFT]

/-- Every field of block FLT (R29). -/
def fieldsFlt : List Field :=
  fieldsFlt0 ++ fieldsFlt1

end Sys2Proof.Machine
end

