-- ==== Sys2Proof/Machine/State.lean ====
section
/-! DEFINITION. The state of the block as plain data: the register file, the memories, queues, counters and
progress states that the specification gives the module, and the queue of waiting commands. -/

namespace Sys2Proof.Machine

/-! ### Faults and refusals -/

/-- Reasons for which the block stops. No command of the table stops the block: an access fault (R27, R28, R35,
R179) ends one access and is recorded in `Dev.access`, and the machine goes on. -/
inductive Fault
  /-- raised by no command: kept so that the type names what a stop would be. Safe: nothing can reach it. -/
  | none
deriving DecidableEq, Repr

/-- Reasons for which a command has no meaning here. -/
inductive Refusal
  /-- answered by the dispatcher for a command that has no meaning yet; safe, since nothing is claimed of it -/
  | notModelled (mnemonic : String)
deriving DecidableEq, Repr

/-! ### Shared pieces -/

/-- A fault window counter (R727): its count and whether it has reached its threshold. The window is open while
the count is not 0. -/
structure FaultWindow where
  count : Nat := 0
  reached : Bool := false
deriving DecidableEq, Repr

/-- A software access as the initiator saw it end (R10, R27, R35): the value read and whether it ended in an
access fault. -/
structure AccessResult where
  value : Nat := 0
  fault : Bool := false
  stalled : Bool := false
deriving DecidableEq, Repr

/-! ### Recorder (chapter "Event recorder") -/

/-- A ring record (R640). `crc` is the stored CRC word. -/
structure RingRec where
  seq : Nat
  code : Nat
  optime : Nat
  pwrcyc : Nat
  supp : Nat
  flags : Nat
  snap : List Nat
  crc : Nat
deriving DecidableEq, Repr

/-- A record waiting in the staging buffer (R654); it holds no SEQ yet. -/
structure Staged where
  code : Nat
  optime : Nat
  pwrcyc : Nat
  supp : Nat
  flags : Nat
  snap : List Nat
deriving DecidableEq, Repr

/-- Recorder state beside its registers. -/
structure RecState where
  /-- the occupied ring slots in MRAM (R654) -/
  ring : Map RingRec := ⟨[]⟩
  /-- records waiting in the staging buffer, oldest first (R654) -/
  staged : List Staged := []
  /-- the next record written carries LOSTBEFORE (R655) -/
  lostPending : Bool := false
  /-- the next record written carries TGAP (R643) -/
  tgapPending : Bool := false
  /-- the operating time last saved to MRAM and its clean marker (R643) -/
  savedOptime : Nat := 0
  cleanMark : Bool := true
  /-- the power-cycle count held in MRAM (R644) -/
  savedPwrcyc : Nat := 0
  /-- HOST_ID of the clear in progress, and its session (R661) -/
  clearHost : Nat := 0
deriving DecidableEq, Repr

/-! ### Deck (chapter "The pattern deck") -/

/-- A deck slot in MRAM: the fields of its slot record (R65), the bytes stored behind it, and the deck that they decrypt
to, where they hold a checked one. -/
structure DeckSlot where
  magic : Nat := 0
  seq : Nat := 0
  state : Nat := 0
  len : Nat := 0
  hash : List Byte := []
  crc : Nat := 0
  bytes : List Byte := []
  deck : Option Deck := none
deriving DecidableEq, Repr

/-- The presence state of a partner (R80). -/
inductive Presence
  | unknown | present | absent
deriving DecidableEq, Repr

/-- Deck storage, the running deck, the staged swap and the partners' presence. -/
structure DeckState where
  /-- the running deck; none while deckless (R67) -/
  running : Option Deck := none
  slot0 : DeckSlot := {}
  slot1 : DeckSlot := {}
  /-- the merged deck of an armed card set, with the types and instances of the cards it changes (R70) -/
  armed : Option Deck := none
  changed : List (Nat × Nat) := []
  /-- picks begun since the swap was armed (R69, R73) and boundaries at which a bridge swap had to wait (R72) -/
  picksSinceArm : Nat := 0
  bridgeWaits : Nat := 0
  /-- the picks begun when the latest of those boundaries was counted -/
  waitedAt : Option Nat := none
  /-- the rollback floor held in MRAM, which SYSCTL_DECKFLOOR shows (R44, R84) -/
  floor : Nat := 0
  /-- presence per partner; a partner not listed is UNKNOWN (R80) -/
  presence : Map Presence := ⟨[]⟩
deriving DecidableEq, Repr

/-! ### Beat unit (chapter "Beat unit and input lines") -/

/-- Beat unit state beside its registers. -/
structure BeatState where
  /-- a pending alignment (R99, R101) or step (R100, R783) -/
  alignPending : Bool := false
  stepPending : Bool := false
  /-- the holdover timer runs (R99) and has expired, idle card due at the next pick boundary (R783) -/
  holdRunning : Bool := false
  holdExpired : Bool := false
  /-- sample of the previous boundary and run length per input line: SW 0-31, AIN 32-47, WAKE 48-55 (R112, R114, R115) -/
  lastSample : Map Nat := ⟨[]⟩
  run : Map Nat := ⟨[]⟩
  /-- position stage: levels A and B, and the net edge count since the pick began (R90 to R94) -/
  posA : Bool := false
  posB : Bool := false
  netEdges : Int := 0
  /-- an index has been accepted in the repeat in progress (R94); one has been accepted in the pick in progress, which ends
  when BEAT_MINPICK has passed (R92) -/
  indexSeen : Bool := false
  indexPending : Bool := false
  /-- consecutive qualifying references, and an index accepted, since the last loss; illegal transitions and rate
  violations in the repeat in progress (R98) -/
  refs : Nat := 0
  /-- of the last level-2 reference message: its frame synchronisation time, Master_Ref_Mark and Disc_Bit (R354) -/
  refTime : Nat := 0
  refMark : Nat := 0
  refDisc : Bool := false
  indexOk : Bool := false
  quadErrs : Nat := 0
  /-- picks begun since start, counted for debounce, timers and swaps -/
  picksBegun : Nat := 0
deriving DecidableEq, Repr

/-! ### Treadle (chapter "The Treadle") -/

/-- One half of the table memory with its idle store and last-version words (R122, R123). An entry without a
listed last-version word has never run. -/
structure TableHalf where
  entries : List Entry := []
  maxPick : Nat := 0
  idle : List IdleRec := []
  lastVer : Map Nat := ⟨[]⟩
deriving DecidableEq, Repr

/-- The slot of one channel in the bank command frame under construction (R19, R324). -/
structure FrameSlot where
  cmd : Nat := 0
  duty : Nat := 0
  period : Nat := 0
  phrst : Bool := false
  phase : Nat := 0
  assert : Bool := false
deriving DecidableEq, Repr

/-- A receive object: the latest frame's payload and the count of frames received (R129, R137, R140). -/
structure RxObj where
  payload : List Byte := []
  count : Nat := 0
  held : Bool := false
deriving DecidableEq, Repr

/-- A transmit object: payload, ready and stale marks (R138, R139). -/
structure TxObj where
  payload : List Byte := []
  ready : Bool := false
  stale : Bool := false
  held : Bool := false
deriving DecidableEq, Repr

/-- Treadle state beside its registers. -/
structure TrdState where
  half0 : TableHalf := {}
  half1 : TableHalf := {}
  /-- table indices of this pick's entries that have neither begun nor been dropped, in table order (R148) -/
  todo : List Nat := []
  /-- the run-time budget B of this pick (R147) -/
  budget : Nat := 0
  /-- slots used in this pick, and the entries whose corrected reads charged 4 slots not yet used (R125, R148) -/
  used : Nat := 0
  charged : List Nat := []
  /-- drops made in this pick, and the lowest class among them (R149, R230) -/
  drops : Nat := 0
  dropMin : Nat := 3
  /-- step 5 of the pick has been made: frames closed and sent (R142) -/
  framesSent : Bool := true
  /-- boundary time of this pick: gPTP and local, in ns (R135) -/
  gptpNs : Nat := 0
  localNs : Nat := 0
  /-- a cause other than IDLE_BEAT was set during the idle stay (R155) -/
  otherCause : Bool := false
  /-- an idle cause is set and takes effect at the next pick boundary (R152) -/
  idlePending : Bool := false
  /-- bank command frames under construction, per global channel (R19) -/
  frame : Map FrameSlot := ⟨[]⟩
  rxObj : Map RxObj := ⟨[]⟩
  txObj : Map TxObj := ⟨[]⟩
  /-- frame records of the idle card in force: transmit object to VALUE (R154) -/
  idleFrames : Map Nat := ⟨[]⟩
  /-- channels whose context-reset fail state goes out in the next bank command frame (R213) -/
  failNext : List Nat := []
deriving DecidableEq, Repr

/-! ### Signal store (chapter "Signals and gatewaying") -/

/-- A signal slot (R168); its TYPE is the running deck's. -/
structure Slot where
  value : Value := 0
  version : Nat := 0
  stamp : Nat := 0
  status : Nat := 0
deriving DecidableEq, Repr

/-- Signal store state beside its registers. -/
structure SigState where
  /-- front copies, which readers see (R168, R181) -/
  front : Map Slot := ⟨[]⟩
  /-- back copies of grouped signals (R181, R182) -/
  back : Map Slot := ⟨[]⟩
  /-- members written since the group's previous flip (R183), and those that a pending commit claims (R186) -/
  written : List Nat := []
  claimed : List Nat := []
  /-- per hart: the latched slot and its index (R174) -/
  latch : Map (Nat × Nat) := ⟨[]⟩
  /-- per hart: the held low half of a 64-bit write and its signal (R175) -/
  wlatch : Map (Nat × Nat) := ⟨[]⟩
  /-- accepted writes that stall their initiator until a group's flip, oldest first: initiator, signal, value (R182) -/
  stalled : List (Nat × Nat × Value) := []
deriving DecidableEq, Repr

/-! ### Function contexts -/

/-- A bobbin record (R208): payload kind, payload bytes, LOST byte, stamp, and whether each unit is borrowed is
told by the queue's borrowed count. -/
structure BobbinRec where
  kind : Nat
  payload : List Byte
  lost : Nat
  stamp : Nat
deriving DecidableEq, Repr

/-- A hardware queue: its records oldest first, units borrowed, and discards since the last accepted record. -/
structure Bobbin where
  recs : List BobbinRec := []
  borrowed : Nat := 0
  lost : Nat := 0
deriving DecidableEq, Repr

/-- A notice entry (R223). -/
structure Notice where
  ctx : Nat
  kind : Nat
  cls : Nat
  detail : Nat
deriving DecidableEq, Repr

/-- Context manager state beside its registers. -/
structure CtxState where
  /-- hardware queues by number (R209) -/
  bobbin : Map Bobbin := ⟨[]⟩
  /-- contexts with a stop pending (R216), and contexts whose reset brought the reset counter to 3 -/
  stopPending : List Nat := []
  atThree : List Nat := []
  /-- notice queues by binding, oldest first (R223) -/
  notices : Map (List Notice) := ⟨[]⟩
  /-- timers that hold a loaded count, with the unit of that load (R226) -/
  timerRunning : Map Nat := ⟨[]⟩
  /-- contexts that have issued the run order and accept channel entries from the next pick (R216) -/
  runPending : List Nat := []
deriving DecidableEq, Repr

/-! ### Load channels and power banks -/

/-- Keeper state of one load channel beside its registers. -/
structure ChanState where
  /-- a PWM setting has been received since the keeper last reset (R244) -/
  pwmSet : Bool := false
  /-- the setting that takes effect at the next period start (R249): duty code and period -/
  pwmNext : Option (Nat × Nat) := none
  /-- a restart is due PHASE ticks after the next pick boundary (R249): phase, duty code, period -/
  restart : Option (Nat × Nat × Nat) := none
  /-- the high time of the last PWM period that ended, in ticks (R277) -/
  lastHigh : Nat := 0
  /-- a period is running, and a period starts at the next pick boundary (R252) -/
  periodOn : Bool := false
  periodAtPick : Bool := false
  /-- the output is on -/
  output : Bool := false
  /-- regulation has begun outside the window and DWELL is counting; the limiter has regulated in the on time in progress
  (R258) -/
  dwellRun : Bool := false
  onReg : Bool := false
  /-- the inrush window has started (R257) -/
  winOpen : Bool := false
  /-- RETRY is counting since the latest trip (R253) -/
  retryRun : Bool := false
  /-- wire and pin model accumulators in 2^-20 A² (R262, R263) -/
  w : Nat := 0
  pinW : Nat := 0
  /-- open-load test: pull-up on, comparing without pull-up, and OLREQ of the last frame (R268, R269) -/
  pullUp : Bool := false
  compare : Bool := false
  olReq : Bool := false
  /-- manual drive runs its lease (R280, R281) -/
  manual : Bool := false
  /-- the hold timer runs (R325) -/
  holdRun : Bool := false
  /-- picks waited in WAIT, and the reasons that held the start back: 1 spacing, 2 short event (R314) -/
  waited : Nat := 0
  waitWhy : Nat := 0
  /-- what SAMPLE entries of the pick in progress read: current, voltage and junction codes (R276, R277) -/
  retI : Nat := 0
  retV : Nat := 0
  retT : Nat := 0
  /-- out of service for good (R321) -/
  outOfService : Bool := false
deriving DecidableEq, Repr

/-- A keeper log event (R329): its code, arguments and the keeper's time stamp. -/
structure LogEvent where
  code : Nat
  args : List Nat
  time : Nat
deriving DecidableEq, Repr

/-- Keeper state of one bank beside its registers. -/
structure BankState where
  /-- the voltage class being checked or last checked (R299) -/
  checked : Nat := 0
  /-- consecutive samples above PEAK (R304) -/
  peakRun : Nat := 0
  /-- picks counted by pick marks, and the start pick of the latest start (R312, R316) -/
  pickCount : Nat := 0
  lastStart : Option Nat := none
  /-- budget samples since the last budget shed, up to 5 (R304), and 100 ms have not passed since the last thermal
  shed (R310) -/
  sinceShed : Nat := 5
  thermWait : Bool := false
  /-- the command frame that the core die sent last (R19) -/
  lastFrame : List FrameSlot := []
  /-- ns since the last conversion, and a conversion has been made since the Treadle's or the keeper's start (R106, R277,
  R278) -/
  convAgo : Option Nat := none
  converted : Bool := false
  /-- latest case conversion, and what SAMPLE entries of the pick in progress read: case, supply, total current
  (R276, R277, R302) -/
  caseTemp : Nat := 0
  retCase : Nat := 0
  retVsup : Nat := 0
  retIsum : Nat := 0
  /-- the hand-over has ended for every used channel (R326) -/
  resumed : Bool := true
  /-- the P of each of the last milliseconds in µW, newest first, at most 1,000 (R309) -/
  pRing : List Nat := []
  /-- dissipation limit and case limit broken (R310) -/
  pdBroken : Bool := false
  caseBroken : Bool := false
  /-- the keeper runs; it has reset since the module's start; it started again while the core die was in reset, which PWR
  has still to answer (R301) -/
  keeperOn : Bool := false
  again : Bool := false
  rewriteDue : Bool := false
  /-- the keeper log, oldest first, at most 16 events (R329) -/
  log : List LogEvent := []
  /-- retained copy of BANKn_CELLMAP (R322) -/
  savedCells : Nat := 0
  savedCellsValid : Bool := false
  /-- the core die sends the bank nothing more: link latched off (R738) -/
  latchedOff : Bool := false
deriving DecidableEq, Repr

/-! ### CAN -/

/-- The state of a CAN transmit buffer (R361). -/
inductive BufSt
  | idle | pending | onBus
deriving DecidableEq, Repr

/-- A CAN transmit buffer beside its registers. Its current payload is transmit object c × 32 + b, Treadle-fed or
software-fed (R129, R358). -/
structure CanBuf where
  st : BufSt := .idle
  latched : List Byte := []
  resend : Bool := false
deriving DecidableEq, Repr

/-- A frame waiting in Q0 for its receive object (R351). -/
structure WaitFrame where
  obj : Nat
  payload : List Byte
deriving DecidableEq, Repr

/-- A CAN controller beside its registers. -/
structure CanCtl where
  bufs : Map CanBuf := ⟨[]⟩
  /-- Q0 frames waiting for the move, one per filter, in arrival order (R351, R352) -/
  q0 : List WaitFrame := []
  /-- the protocol engine ignores the bus, or is off, while its cluster sleeps (R508, R509) -/
  ignore : Bool := false
  off : Bool := false
  /-- KICKs of REFBUF in a row while BACKUP (R373) -/
  tmKicks : Nat := 0
  /-- leaves the bus when the frame on the bus ends: a card swap or a restart waits for it (R365) -/
  leaving : Bool := false
  /-- the cycle of the last frame that ended acknowledged (R369) -/
  ackAt : Option Nat := none
  /-- the frame error counter of its transceiver under selective wake (R512) -/
  wakeErr : Nat := 0
deriving DecidableEq, Repr

/-- A frame in Q1 that waits to be written into its bobbin (R355): controller, filter and frame. -/
structure Q1Wait where
  ctl : Nat
  filter : Nat
  frame : CanFrame
deriving DecidableEq, Repr

/-- CAN state: controllers by block index, and by the index of each spare in use the failed controller it serves (R375). -/
structure CanState where
  ctl : Map CanCtl := ⟨[]⟩
  subst : Map Nat := ⟨[]⟩
  /-- substitutions whose integration is under way (R375 step 3): by block index, the failed physical controller -/
  joining : Map Nat := ⟨[]⟩
  /-- the frames in Q1 of every controller, in arrival order (R355) -/
  q1 : List Q1Wait := []
deriving DecidableEq, Repr

/-! ### Time-triggered bus -/

/-- The phases of a controller's startup: it integrates, listens as a coldstart node, has sent its symbol, or is in collision
resolution or the consistency check (R397, R399). -/
inductive TtPhase
  | integrating
  | listening
  | symbol
  | resolving
  | checking
deriving DecidableEq, Repr

/-- A time-triggered controller beside its registers. -/
structure TtCtl where
  /-- frames that wait for the move into receive objects (R392) -/
  waiting : List WaitFrame := []
  /-- guardian: windows closed until the next accepted mark, the last accepted cycle length in ns (0: none), and
  whether a mark has been seen since READY (R401) -/
  windowsClosed : Bool := true
  lastLen : Nat := 0
  marked : Bool := false
  /-- consecutive double cycles without, and with, clock correction (R397) -/
  missing : Nat := 0
  regained : Nat := 0
  /-- coldstart attempts used up, or a card swap: integrate only until the next READY (R71, R397) -/
  integrateOnly : Bool := false
  /-- the startup's phase, and whether the consistency check has heard startup frames in an even and an odd cycle (R399) -/
  phase : TtPhase := .integrating
  heardEven : Bool := false
  heardOdd : Bool := false
  /-- dynamic buffers that a KICK has made pending (R394) -/
  pending : List Nat := []
  /-- the slot in progress, static or dynamic (0: none), and whether the controller leaves the cluster at its end, to integrate only
  after a card swap (R71, R397) -/
  slot : Nat := 0
  leaving : Bool := false
  rejoin : Bool := false
  /-- the cycle in progress began in NORMAL_ACTIVE (R98) -/
  activeCycle : Bool := false
deriving DecidableEq, Repr

/-! ### Ethernet switch -/

/-- A frame in an egress queue: its cells, colour (0 green, 1 yellow, 2 red) and admission time in ns (R426, R436). -/
structure QFrame where
  frame : EthFrame
  cells : Nat
  colour : Nat
  admitted : Nat
  /-- the port on which the frame came in (R501) -/
  src : Nat := 27
deriving DecidableEq, Repr

/-- The tokens of a policer's two buckets in bytes, and the time of the last refill (R425). -/
structure Meter where
  c : Nat := 0
  e : Nat := 0
  last : Nat := 0
  primed : Bool := false
deriving DecidableEq, Repr

/-- A recovery function (R441): whether it has taken a frame since its reset, the newest sequence number and the
history of the 32 numbers up to it, bit k for the number k below the newest. -/
structure Frer where
  active : Bool := false
  newest : Nat := 0
  history : Nat := 0
deriving DecidableEq, Repr

/-- The MACsec state of a port (R442 to R445): the transmitter's association number and next packet number, the
receiver's association number and highest packet number, and the old key that the receiver still holds. -/
structure MacSec where
  txAn : Nat := 0
  txPn : Nat := 1
  rxAn : Nat := 0
  rxPn : Nat := 0
  oldHeld : Bool := false
  oldPn : Nat := 0
deriving DecidableEq, Repr

/-- Switch state beside its registers. -/
structure SwxState where
  /-- egress queues by k = port × 8 + queue, oldest frame first -/
  queues : Map (List QFrame) := ⟨[]⟩
  /-- the local time at which the frame last begun on a port ends (R429, R435) -/
  sending : Map Nat := ⟨[]⟩
  /-- the rate in Mbit/s that the PHY of a SerDes port last reported (R412) -/
  rates : Map Nat := ⟨[]⟩
  meters : Map Meter := ⟨[]⟩
  frer : Map Frer := ⟨[]⟩
  /-- next R-TAG sequence number per replication stream (R440) -/
  seqGen : Map Nat := ⟨[]⟩
  macsec : Map MacSec := ⟨[]⟩
  /-- next descriptor of each ring: receive and transmit of I0 (0, 1) and I1 (2, 3) (R423) -/
  ringIdx : Map Nat := ⟨[]⟩
  /-- frames waiting at I2: object, source address, ingress port, payload (R422) -/
  i2 : List (Nat × Nat × Nat × List Byte) := []
  /-- of a deckless module: the port at which the last frame for I3 came in, on which I3 answers (R417) -/
  i3Port : Option Nat := none
  /-- fragments that wait at I3 for the rest of their datagrams (R522) -/
  i3 : List EthFrame := []
  /-- LIMIT in force (R428) -/
  limit : Nat := 0x4000
  /-- the list position in force per port under GSRC 1; a port whose list waits for its next cycle after a clock step
  has none (R430, R432) -/
  gatePos : Map Nat := ⟨[]⟩
  /-- ports in reset while new records load (R438) -/
  portReset : List Nat := []
deriving DecidableEq, Repr

/-! ### Far-bus bridge -/

/-- A piece of a window's work: a posted write, a read, a status poll or an identity probe (R466). -/
inductive WorkKind
  | write | read | poll | probe
deriving DecidableEq, Repr

structure Work where
  kind : WorkKind
  addr : Nat
  size : Nat
  data : Nat := 0
  /-- number of the write (R469), or the collect slot of a deferred read -/
  num : Nat := 0
  hart : Nat := 0
  ctx : Nat := 0
  /-- the read still stalls its hart (R471); it has been deferred into the collect slot `num`; its answer is to be
  discarded on arrival (R471, R473, R213) -/
  stalled : Bool := false
  deferred : Bool := false
  dropped : Bool := false
deriving DecidableEq, Repr

/-- The request that waits for its answer (R466, R467). -/
structure Outstanding where
  work : Work
  seq : Nat
  resends : Nat := 0
  busy : Bool := false
deriving DecidableEq, Repr

/-- A far-bus window. -/
structure Window where
  /-- work in order, oldest first -/
  work : List Work := []
  sent : Option Outstanding := none
  nextSeq : Nat := 0
  probeDue : Bool := false
  /-- the first poll since commit has been made (R485) -/
  polled : Bool := false
  /-- inbound: the last SEQ and the IACK code sent for it (R483) -/
  lastIn : Option (Nat × Nat) := none
deriving DecidableEq, Repr

/-- A collect slot (R472). -/
structure Collect where
  owner : Nat := 0
deriving DecidableEq, Repr

structure BrgState where
  win : Map Window := ⟨[]⟩
  slots : Map Collect := ⟨[]⟩
  /-- harts whose window write is stalled for room, in order of arrival: window, address, size, data (R469) -/
  writeStall : List (Nat × Nat × Nat × Nat × Nat) := []
  /-- frames that have reached I4 and wait for the bridge; of their IWRITEs at most 32 (R463, R484) -/
  arrived : List EthFrame := []
deriving DecidableEq, Repr

/-! ### Network sleep and wake -/

/-- A sleep cluster beside its registers. -/
structure Cluster where
  /-- requests of contexts: context and reason (R503) -/
  reqs : Map Nat := ⟨[]⟩
  hostReq : Bool := false
  /-- a wake after commit is held: cause and unit (R507) -/
  held : Option (Nat × Nat) := none
  /-- nodes whose latest message said AWAKE = 1 (R516) -/
  holders : List Nat := []
  /-- a single-holder stretch runs, its node, and whether the limit has been reported (R516) -/
  stretch : Option Nat := none
  limitSeen : Bool := false
  kaSeq : Nat := 0
  /-- the next keep-awake message is the first after a wake (R501) -/
  firstAfterWake : Bool := false
  /-- the step of the commit in progress, from 2 (R508) -/
  step : Nat := 0
deriving DecidableEq, Repr

structure NmwState where
  cl : Map Cluster := ⟨[]⟩
  /-- keep-awake datagrams that have reached I3, with the port on which each arrived (R501) -/
  heard : List (Nat × EthFrame) := []
deriving DecidableEq, Repr

/-! ### Shuttle -/

/-- An unacknowledged notice: its SEQ, code, payload and the resends made (R542). -/
structure Unacked where
  seq : Nat
  code : Nat
  payload : List Byte
  resends : Nat := 0
deriving DecidableEq, Repr

/-- The keys and salts of a session (R525, R529): host to module, and module to host. -/
structure SessionKeys where
  hm : List Byte := []
  mh : List Byte := []
  saltHm : List Byte := []
  saltMh : List Byte := []
deriving DecidableEq, Repr

/-- A reply that is kept for a repeat of its request: SEQ answered, own SEQ, CMD, STATUS and payload (R526, R537). -/
structure KeptReply where
  answers : Nat
  seq : Nat
  cmd : Nat
  status : Nat
  payload : List Byte
deriving DecidableEq, Repr

/-- An open session beside its registers (R529 to R542). -/
structure Session where
  /-- highest SEQ seen, and the SEQs seen among the 64 below it -/
  high : Nat := 0
  seen : List Nat := []
  nextSeq : Nat := 1
  keys : SessionKeys := {}
  /-- NONCE_M of its handshake, for AUTH (R606) -/
  nonceM : Nat := 0
  /-- the last 16 replies kept for a repeated SEQ, newest first (R526, R537) -/
  replies : List KeptReply := []
  /-- requests waiting and the long command that executes, each with its SEQ (R538, R541) -/
  waiting : List (Nat × Request) := []
  executing : Option (Nat × Request) := none
  unacked : List Unacked := []
deriving DecidableEq, Repr

/-- A half-open session (R529, R530): its number, HOST_ID, the register slot that shows it, both nonces, the host's ephemeral public
key and the module's ephemeral private key. -/
structure HalfOpen where
  number : Nat
  host : Nat
  slot : Option Nat
  nonceH : Nat := 0
  nonceM : Nat := 0
  epubH : Nat := 0
  priv : Nat := 0
deriving DecidableEq, Repr

/-- A session that another of its host has replaced while a command executed: its number, HOST_ID and roles, the
command that executes with its SEQ, and the requests that wait (R532). -/
structure OldSession where
  number : Nat
  host : Nat
  roles : Nat
  executing : Nat × Request
  waiting : List (Nat × Request)
  nonceM : Nat := 0
deriving DecidableEq, Repr

structure ShtState where
  /-- open sessions by register slot -/
  sess : Map Session := ⟨[]⟩
  half : List HalfOpen := []
  old : List OldSession := []
  /-- the handshake lockout is in force (R531) -/
  locked : Bool := false
deriving DecidableEq, Repr

/-! ### Compute, keys, debug, update, power, faults -/

structure CpuState where
  /-- words of SRAM marked uncorrectable (R563, R734) -/
  marked : List Nat := []
deriving DecidableEq, Repr

/-- What the key store holds of a slot beside its registers, which mirror its commit word (R594): the USE, ALG,
SOURCE and PARENT stored with the committed key and with the pending copy (R582), the pending copy's KVER, both copies of the key,
and the number of the committed one. -/
structure KeySlot where
  attr : Nat := 0
  pendAttr : Nat := 0
  pendVer : Nat := 0
  key : List Byte := []
  pendKey : List Byte := []
  act : Nat := 0
deriving DecidableEq, Repr

/-- The operation of a key channel (R583): its code, slot and IRQ as its start took them; the target, the output address and the
length that it writes; the copy of its key and that key's ALG (R597); and where its input, additional data and auxiliary input lie. -/
structure KeyChan where
  op : Nat := 0
  slot : Nat := 0
  irq : Bool := false
  target : Nat := 0
  out : Nat := 0
  outLen : Nat := 0
  key : List Byte := []
  alg : Nat := 0
  inp : Nat := 0
  inLen : Nat := 0
  aad : Nat := 0
  aadLen : Nat := 0
  aux : Nat := 0
deriving DecidableEq, Repr

structure KeyState where
  slots : Map KeySlot := ⟨[]⟩
  chans : Map KeyChan := ⟨[]⟩
  /-- anchor secret held, its KEEP marker, and the copy of TAMPEN in KEEP (R570 to R573) -/
  anchor : Bool := false
  anchorKey : Nat := 0
  keepMarker : Bool := false
  keepTampen : Nat := 0
  /-- a tamper that the next start reports (R573) -/
  tamperNew : Bool := false
  /-- device secret held and needed (R575) -/
  devSecret : Bool := false
  deviceKey : Nat := 0
  dsNeeded : Bool := false
  /-- life-cycle change in progress: target and the session and SEQ that ordered it (R607) -/
  lcTarget : Option (Nat × Nat × Nat) := none
deriving DecidableEq, Repr

structure DbgState where
  /-- the TAP's instruction (R616) -/
  ir : Nat := 0
  /-- a live NONCE: the level asked for and the challenge (R622) -/
  nonce : Option (Nat × Nat) := none
  locked : Bool := false
  /-- EXTEST is in force: the boundary scan drives the lands (R618) -/
  extest : Bool := false
  /-- the triggers by hart × 4 + number, and the words of the program buffer (R619) -/
  triggers : Map Nat := ⟨[]⟩
  progbuf : Map Nat := ⟨[]⟩
  /-- the moment at which TCK last toggled (R636) -/
  tck : Nat := 0
deriving DecidableEq, Repr

/-- The item of the update controller (R670 to R681): the stream blocks received, the bytes of a deck, the plaintext of an
image's body blocks by number, the manifest of an image, the deck of a staged full deck, and the activation ordered. -/
structure UpdItem where
  xfer : Nat := 0
  ikind : Nat := 0
  totalLen : Nat := 0
  blocks : List Nat := []
  stream : List Byte := []
  plain : Map (List Byte) := ⟨[]⟩
  man : Option Manifest := none
  deck : Option Deck := none
  when_ : Nat := 0
  at_ : Nat := 0
deriving DecidableEq, Repr

/-- The boot record in MRAM (R684 to R689). -/
structure BootRec where
  tries : Nat := 0
  probDeck : Bool := false
  try_ : Bool := false
  tryBoot : Nat := 0
  tryFw : Nat := 0
  trySet : Nat := 0
  actBoot : Nat := 0
  actFw : Nat := 0
  actSet : Nat := 0
deriving DecidableEq, Repr

structure UpdState where
  item : Option UpdItem := none
  /-- staging lock: host and session (R674) -/
  lock : Option (Nat × Nat) := none
  boot : BootRec := {}
  fwFloor : Nat := 0
  /-- what the cache reads of the body blocks written through UPD: plaintext by region × 65,536 + block (R565, R672) -/
  plain : Map (List Byte) := ⟨[]⟩
  /-- the manifests stored by region: 0, 1 FW_A and FW_B, 2, 3 the boot images, 4 the recovery image, 5 user data -/
  manifests : Map Manifest := ⟨[]⟩
  /-- no bootable image at the previous start (R691) -/
  noImage : Bool := false
  /-- the close in progress, and the activation that awaits its time: session number and SEQ (R678, R681) -/
  closing : Option (Nat × Nat) := none
  armed : Option (Nat × Nat) := none
  /-- update notices held until a session subscribes: EVENT and DETAIL (R690) -/
  notices : List (Nat × Nat) := []
deriving DecidableEq, Repr

/-- The power states (R699). PWR_STAT.STATE shows RUN and DOZE. -/
inductive PowerState
  | off | start | run | doze | standbyEntry | standby | hibernate
deriving DecidableEq, Repr

/-- What can wake the module from STANDBY or HIBERNATE (R115, R496, R514): a wake input with its EDGE (kind 0), or a member of
a sleep cluster with its wake mode: 1 CAN, 2 time-triggered, 3 Ethernet (R495). -/
structure WakeSrc where
  kind : Nat
  mode : Nat
  cluster : Nat
  unit : Nat
deriving DecidableEq, Repr

structure PwrState where
  state : PowerState := .start
  /-- SYS is on: step 4 of R715 has been reached -/
  sysOn : Bool := false
  /-- start-up timed out too often: the core die stays in reset (R716) -/
  heldReset : Bool := false
  /-- an earlier start timed out (R716) -/
  timedOut : Bool := false
  /-- power domains in a domain reset (R719) -/
  resetting : List Nat := []
  /-- start-up attempts in a row that timed out (R716) -/
  retries : Nat := 0
  /-- no image passed and the core die stays in the boot ROM, with the start-up timer stopped (R691, R716) -/
  inRom : Bool := false
  /-- leases held through PWR_HOLD (R702) -/
  leases : List Nat := []
  /-- a restart has been ordered (R717) -/
  ordered : Bool := false
  /-- SUP_EN (R699) -/
  supEn : Bool := true
  /-- the crystal amplifier is on (R708) -/
  xtalAmp : Bool := false
  /-- watchdogs: harts whose count has passed 75 % (R722) -/
  warned : List Nat := []
  /-- a wake latched during STANDBY entry: cause, cluster, unit (R704) -/
  wakeLatched : Option (Nat × Nat × Nat) := none
  /-- the wake detection armed at the STANDBY commit point (R514) -/
  wakeSrcs : List WakeSrc := []
  /-- the retained copies A and B in MRAM: SEQ and validity (R710 to R713) -/
  retSeqA : Nat := 0
  retSeqB : Nat := 0
  retValidA : Bool := false
  retValidB : Bool := false
  /-- what the newest retained record holds: kept registers, signal image, deck identity and card digests -/
  retRegs : Map Nat := ⟨[]⟩
  retSigs : Map Slot := ⟨[]⟩
  /-- the SEQ of the signal image, the partners' presence and the source followed (R710) -/
  retSigSeq : Nat := 0
  retPresence : Map Presence := ⟨[]⟩
  retSource : Nat := 0
  retDeck : Option Deck := none
  /-- the debugger has held the STANDBY request in progress (R631) -/
  heldOnce : Bool := false
deriving DecidableEq, Repr

structure FltState where
  /-- suspect rows followed, oldest window first (R734) -/
  suspects : List Nat := []
  /-- repair record: rows remapped, sectors remapped, segments withdrawn, CAN controllers marked failed (R741) -/
  rows : List Nat := []
  sectors : List Nat := []
  poolSegs : List Nat := []
  swxSegs : List Nat := []
  failedUnits : List Nat := []
  busHeld : Bool := false
  /-- substitutions of harts under way (R560, R740): kind (1 application core, 2 pair), logical index, failed unit and spare -/
  joining : List (Nat × Nat × Nat × Nat) := []
deriving DecidableEq, Repr

/-! ### Outputs -/

/-- The header of a Shuttle message, but for VER and LEN (R524). -/
structure ShtHead where
  kind : Nat
  cmd : Nat
  session : Nat
  seq : Nat := 0
  rseq : Nat := 0
  status : Nat := 0
deriving DecidableEq, Repr

/-- What the block sends or drives towards the outside: kept in order, newest last. `kind` names the path and
`words` the contents: see the constructors' docstrings. -/
inductive Out
  /-- a bank command frame: bank and, per channel, command word, duty, period, PHRST, phase, ASSERT (R19) -/
  | bankFrame (bank : Nat) (slots : List FrameSlot)
  /-- a CAN frame on the bus: controller, buffer, FORM of R382, identifier (an XL frame's priority identifier), SDT, VCID and SEC of
  an XL frame, and payload (R348, R360, R382) -/
  | canFrame (ctl buf form ident sdt vcid : Nat) (sec : Bool) (payload : List Byte)
  /-- a time-triggered frame: controller, slot, cycle count, channels on which the guardian lets it out whole, sync and startup frame
  indicators, data frame (else null), payload (R389, R390, R400) -/
  | ttFrame (ctl slot cycle chmask : Nat) (sync startup data : Bool) (payload : List Byte)
  /-- an Ethernet frame sent on a port, with its tag and drop-eligible mark, and under MACsec its association and packet number (R420,
  R442) -/
  | ethFrame (port : Nat) (frame : EthFrame) (tagged dei : Bool) (sec : Option (Nat × Nat))
  /-- a Shuttle message under its session's K_MH: header, initialisation vector and payload (R524 to R526, R537) -/
  | shuttle (head : ShtHead) (iv payload : List Byte)
  /-- a Shuttle message without a tag: CHALLENGE or a clear error reply (R527, R529) -/
  | clear (head : ShtHead) (payload : List Byte)
  /-- a reply of an internet protocol on I3 (R522): type and identifying words -/
  | ip (type : Nat) (payload : List Nat)
  /-- an MSI sent by the APLIC for a source: to the guest interrupt file `file` of logical application core `core`, as
  interrupt identity `ident` (R38, R221, R558) -/
  | msi (source core file ident : Nat)
  /-- an access that was still open at a domain's switch-off ends in an access fault at its initiator (R36) -/
  | accessFault (init : Nat)
  /-- a spare core or pair, by physical index, starts at an address with its logical index in a0 (R560) -/
  | hartStart (pair : Bool) (phys address a0 : Nat)
  /-- the PPS_OUT pulse (R439) -/
  | pps
  /-- a wake frame on a channel of a time-triggered cluster: frame ID, cycle count and payload; both indicators are 0 (R515) -/
  | ttWake (ctl channel ident cycle : Nat) (payload : List Byte)
  /-- what the TAP shifts out (R616) -/
  | tap (reg : Nat) (words : List Nat)
deriving DecidableEq, Repr

/-! ### The block and the machine -/

/-- Everything the specification gives the block, but the queue of waiting commands. -/
structure Dev where
  /-- the register file: every register field that has been set, by its key -/
  regs : Map Nat := ⟨[]⟩
  /-- addressed memory: bytes of SRAM, MRAM and NOR that initiators reach (R26, R28), rising addresses -/
  mem : List Host.Cell := []
  /-- what the block has sent to the outside, in order -/
  out : List Out := []
  /-- how the latest software access ended (R10, R27) -/
  access : AccessResult := {}
  /-- free values used so far: the model's own field (log entry 5) -/
  free : Nat := 0
  /-- clock cycles in which the block idled: the model's own field (log entry 3) -/
  now : Nat := 0
  fw : Map FaultWindow := ⟨[]⟩
  recd : RecState := {}
  deck : DeckState := {}
  beat : BeatState := {}
  trd : TrdState := {}
  sig : SigState := {}
  ctx : CtxState := {}
  chan : Map ChanState := ⟨[]⟩
  bank : Map BankState := ⟨[]⟩
  can : CanState := {}
  tt : Map TtCtl := ⟨[]⟩
  swx : SwxState := {}
  brg : BrgState := {}
  nmw : NmwState := {}
  sht : ShtState := {}
  cpu : CpuState := {}
  key : KeyState := {}
  dbg : DbgState := {}
  upd : UpdState := {}
  pwr : PwrState := {}
  flt : FltState := {}
deriving DecidableEq, Repr

/-- The machine: the block, and the commands that wait, first in, first out. -/
structure State where
  dev : Dev := {}
  pending : List Instr := []
deriving DecidableEq, Repr

/-- The machine right after reset: every register at its reset value (R16), every memory and queue empty, no deck
running, and no command waiting. The values for which the specification gives none are those of log entry 4. -/
def State.reset : State := {}

end Sys2Proof.Machine
end

