-- ==== Sys2Proof/Machine/Ops.lean ====
section
/-! DEFINITION. The named operations over the state: the sparse store, the register file, counters, fault window
counters, free values, outputs and the running deck's records. -/

namespace Sys2Proof.Machine

/-! ### The sparse store -/

/-- The value listed at an index. -/
def lookupList {α : Type} (k : Nat) : List (Nat × α) → Option α
  | [] => none
  | (j, v) :: rest => if k = j then some v else if k < j then none else lookupList k rest

/-- Put a value at an index, keeping the indices rising. -/
def insertList {α : Type} (k : Nat) (v : α) : List (Nat × α) → List (Nat × α)
  | [] => [(k, v)]
  | (j, u) :: rest =>
    if k = j then (k, v) :: rest
    else if k < j then (k, v) :: (j, u) :: rest
    else (j, u) :: insertList k v rest

/-- Remove an index. -/
def eraseList {α : Type} (k : Nat) : List (Nat × α) → List (Nat × α)
  | [] => []
  | (j, u) :: rest => if k = j then rest else (j, u) :: eraseList k rest

/-- The value at an index, if one is listed. -/
def Map.find {α : Type} (m : Map α) (k : Nat) : Option α := lookupList k m.items

/-- The value at an index, or the default. -/
def Map.get {α : Type} (m : Map α) (k : Nat) (d : α) : α := (m.find k).getD d

/-- The store with a value put at an index. -/
def Map.set {α : Type} (m : Map α) (k : Nat) (v : α) : Map α := ⟨insertList k v m.items⟩

/-- The store without an index. -/
def Map.erase {α : Type} (m : Map α) (k : Nat) : Map α := ⟨eraseList k m.items⟩

/-- The store with only the entries that a test keeps. -/
def Map.keep {α : Type} (m : Map α) (p : Nat → Bool) : Map α := ⟨m.items.filter fun e => p e.1⟩

/-- The empty store. -/
def Map.empty {α : Type} : Map α := ⟨[]⟩

/-- The listed indices, rising. -/
def Map.keys {α : Type} (m : Map α) : List Nat := m.items.map fun e => e.1

/-- Indices strictly rise from `lo` on. -/
def risingFrom {α : Type} (lo : Nat) : List (Nat × α) → Bool
  | [] => true
  | (j, _) :: rest => decide (lo ≤ j) && risingFrom (j + 1) rest

/-- The canonical form of a store: indices strictly rising. -/
def Map.wf {α : Type} (m : Map α) : Bool := risingFrom 0 m.items

/-! ### The register file (R10, R16) -/

/-- The value of a register field: what it was last set to, or its reset value. -/
def Dev.rdi (d : Dev) (f : Field) (i : Nat) : Nat := d.regs.get (f.key i) (f.resetVal i)

/-- Set a register field, cut to its width. -/
def Dev.wri (d : Dev) (f : Field) (i v : Nat) : Dev :=
  { d with regs := d.regs.set (f.key i) (v % 2 ^ f.width) }

/-- The value of a field of a register that exists once. -/
def Dev.rd (d : Dev) (f : Field) : Nat := d.rdi f 0

/-- Set a field of a register that exists once. -/
def Dev.wr (d : Dev) (f : Field) (v : Nat) : Dev := d.wri f 0 v

/-- A counter field rises by `n` and saturates at all ones (R117, R166, R234 and the like). -/
def Dev.addi (d : Dev) (f : Field) (i n : Nat) : Dev := d.wri f i (min (d.rdi f i + n) (2 ^ f.width - 1))

/-- A counter of a register that exists once rises by 1, saturating. -/
def Dev.inc (d : Dev) (f : Field) : Dev := d.addi f 0 1

/-- A counter of an instance rises by 1, saturating. -/
def Dev.inci (d : Dev) (f : Field) (i : Nat) : Dev := d.addi f i 1

/-- Set bit `n` of a field. -/
def Dev.setBit (d : Dev) (f : Field) (i n : Nat) : Dev := d.wri f i (d.rdi f i ||| 2 ^ n)

/-- Clear bit `n` of a field. -/
def Dev.clrBit (d : Dev) (f : Field) (i n : Nat) : Dev :=
  d.wri f i (if (d.rdi f i).testBit n then d.rdi f i - 2 ^ n else d.rdi f i)

/-- Bit `n` of a field. -/
def Dev.bit (d : Dev) (f : Field) (i n : Nat) : Bool := (d.rdi f i).testBit n

/-- Whether a one-bit flag of a register that exists once is set. -/
def Dev.flag (d : Dev) (f : Field) : Bool := d.rd f == 1

/-- Whether a one-bit flag of an instance is set. -/
def Dev.flagi (d : Dev) (f : Field) (i : Nat) : Bool := d.rdi f i == 1

/-- Forget what was written to the registers whose addresses lie from `lo` to below `hi`: they read their reset
values again. -/
def Dev.resetRange (d : Dev) (lo hi : Nat) : Dev :=
  { d with regs := d.regs.keep fun k => !(decide (lo * 32 ≤ k % (2 ^ 37)) && decide (k % (2 ^ 37) < hi * 32)) }

/-- One bit as a number. -/
def b2n (b : Bool) : Nat := if b then 1 else 0

/-- Bits `hi` down to `lo` of a word. -/
def bits (w hi lo : Nat) : Nat := w / 2 ^ lo % 2 ^ (hi + 1 - lo)

/-- Apply a step when a condition holds. -/
def Dev.when (d : Dev) (c : Bool) (f : Dev → Dev) : Dev := if c then f d else d

/-- Apply a step for each element of a list, in order. -/
def Dev.each {α : Type} (d : Dev) (l : List α) (f : Dev → α → Dev) : Dev := l.foldl f d

/-- Send something to the outside. -/
def Dev.send (d : Dev) (o : Out) : Dev := { d with out := d.out ++ [o] }

/-- A fresh free value of `w` bits: the value and the state that has used it (log entry 5). -/
def Dev.fresh (d : Dev) : Dev := { d with free := d.free + 1 }

/-- The free value that the next use takes. -/
def Dev.freeVal (d : Dev) (w : Nat) : Nat := (Config.freeValue w d.free).toNat

/-- A quotient whose rounding the specification does not state: the floor, or one more when the division is not exact
(log entry 5). -/
def Dev.quot (d : Dev) (num den : Nat) : Nat := num / den + (if num % den = 0 then 0 else d.freeVal 1)

/-! ### The running deck's records -/

/-- The body of the deck's first card of a type and instance. -/
def Deck.body (k : Deck) (type inst : Nat) : Option CardBody :=
  (k.cards.find? fun c => c.type == type && c.inst == inst).map fun c => c.body

/-- Whether the deck holds a card of a type and instance. -/
def Deck.has (k : Deck) (type inst : Nat) : Bool := (k.body type inst).isSome

/-- The system card's fields (R51): APP_MASK, RT_MASK, BANK_MASK, MGMT_VLAN, NODE_NUM, CONFIRM_S. -/
structure SysCard where
  clkMode : Nat := 0
  appMask : Nat := 0
  rtMask : Nat := 0
  bankMask : Nat := 0
  mgmtVlan : Nat := 0
  nodeNum : Nat := 0
  confirmS : Nat := 0
deriving DecidableEq, Repr

def Deck.sys (k : Deck) : SysCard :=
  match k.body 1 0 with
  | some (.system a b c e f g h) => ⟨a, b, c, e, f, g, h⟩
  | _ => {}

def Deck.lands (k : Deck) : List LandRec :=
  match k.body 2 0 with | some (.lands r) => r | _ => []

def Deck.lines (k : Deck) : List BeatRec :=
  match k.body 3 0 with | some (.beat _ _ _ _ _ _ _ r) => r | _ => []

def Deck.entries (k : Deck) : List Entry :=
  match k.body 4 0 with | some (.table _ _ _ e) => e | _ => []

def Deck.signals (k : Deck) : List SigRec :=
  match k.body 5 0 with | some (.signals _ r) => r | _ => []

def Deck.groups (k : Deck) : Nat :=
  match k.body 5 0 with | some (.signals g _) => g | _ => 0

def Deck.routes (k : Deck) : List Nat :=
  match k.body 6 0 with | some (.contexts r _) => r | _ => []

def Deck.contexts (k : Deck) : List CtxRec :=
  match k.body 6 0 with | some (.contexts _ r) => r | _ => []

def Deck.bankRecs (k : Deck) (b : Nat) : List BankRec :=
  match k.body 7 b with | some (.bank _ _ _ r) => r | _ => []

def Deck.canRecs (k : Deck) (c : Nat) : List ImgRec :=
  match k.body 8 c with | some (.can _ _ _ _ _ _ r) => r | _ => []

def Deck.ttRecs (k : Deck) (t : Nat) : List ImgRec :=
  match k.body 9 t with | some (.tt _ _ _ _ r) => r | _ => []

def Deck.switchRecs (k : Deck) : List ImgRec :=
  match k.body 10 0 with | some (.switch _ _ r) => r | _ => []

def Deck.bridgeRecs (k : Deck) : List ImgRec :=
  match k.body 11 0 with | some (.bridge _ r) => r | _ => []

def Deck.sleepRecs (k : Deck) : List ImgRec :=
  match k.body 12 0 with | some (.sleep _ _ r) => r | _ => []

def Deck.recorderRecs (k : Deck) : List ImgRec :=
  match k.body 13 0 with | some (.recorder _ r) => r | _ => []

def Deck.securityRecs (k : Deck) : List ImgRec :=
  match k.body 14 0 with | some (.security _ _ r) => r | _ => []

def Deck.inventory (k : Deck) : List InvRec :=
  match k.body 15 0 with | some (.inventory r) => r | _ => []

def Deck.idle (k : Deck) : List IdleRec :=
  match k.body 16 0 with | some (.idle r) => r | _ => []

/-- A deck with nothing in it. -/
def emptyDeck : Deck := ⟨{}, []⟩

/-- The running deck; a deckless module runs none of a deck's declarations (R67). -/
def Dev.rdeck (d : Dev) : Deck := d.deck.running.getD emptyDeck

/-- The context to which the running deck routes an event source; 0xFFFF when it routes none (R57). -/
def Dev.route (d : Dev) (src : Nat) : Nat := d.rdeck.routes.getD src 0xFFFF

/-- The record of a declared context (R203). -/
def Dev.ctxRec (d : Dev) (c : Nat) : Option CtxRec := d.rdeck.contexts.find? fun r => r.ctx == c

/-- The record of a declared signal (R56). -/
def Dev.sigRec (d : Dev) (n : Nat) : Option SigRec := d.rdeck.signals.find? fun r => r.signal == n

/-! ### Power domains (R29, R35, R696) -/

/-- The power domain of an address of the peripheral region (R29). -/
def domainOf (addr : Nat) : Nat :=
  if addr < 0x40010000 then 0
  else if addr < 0x40030000 then 11
  else if addr < 0x40100000 then 2
  else if addr < 0x40200000 then 11
  else if addr < 0x40400000 then 2
  else if addr < 0x4041A000 then 13
  else if addr < 0x40600000 then 2
  else if addr < 0x40700000 then 12
  else if addr < 0x40710000 then 2
  else if addr < 0x40720000 then 0
  else if addr < 0x40810000 then 2
  else if addr < 0x40900000 then 0
  else if addr < 0x40B00000 then 2
  else if addr < 0x40C00000 then 0
  else 2

/-- Whether a power domain is on (PWR_STAT.DOMON). -/
def Dev.domainOn (d : Dev) (k : Nat) : Bool := d.bit PWR_STAT_DOMON 0 k

/-- Whether an address lies in a block of R29. -/
def inBlock (a : Nat) : Bool :=
  (decide (0x40000000 ≤ a) && decide (a ≤ 0x4002FFFF)) ||
  (decide (0x40100000 ≤ a) && decide (a ≤ 0x402FFFFF)) ||
  (decide (0x40300000 ≤ a) && decide (a ≤ 0x4033FFFF)) ||
  (decide (0x40400000 ≤ a) && decide (a ≤ 0x40419FFF)) ||
  (decide (0x40500000 ≤ a) && decide (a ≤ 0x4050FFFF)) ||
  (decide (0x40600000 ≤ a) && decide (a ≤ 0x4072FFFF)) && !(decide (0x40730000 ≤ a)) ||
  (decide (0x40800000 ≤ a) && decide (a ≤ 0x4081FFFF)) ||
  (decide (0x40900000 ≤ a) && decide (a ≤ 0x4090FFFF)) ||
  (decide (0x40A00000 ≤ a) && decide (a ≤ 0x40A0FFFF)) ||
  (decide (0x40B00000 ≤ a) && decide (a ≤ 0x40B0FFFF)) ||
  (decide (0x40C00000 ≤ a) && decide (a ≤ 0x40C0FFFF))

/-- The fields of the block that holds an address (R29). -/
def fieldsAt (addr : Nat) : List Field :=
  if addr < 0x40010000 then fieldsSysctl
  else if addr < 0x40020000 then fieldsBeat
  else if addr < 0x40030000 then fieldsTrd
  else if addr < 0x40300000 then fieldsCtx
  else if addr < 0x40400000 then fieldsBank
  else if addr < 0x40500000 then fieldsCan
  else if addr < 0x40600000 then fieldsTt
  else if addr < 0x40700000 then fieldsSwx
  else if addr < 0x40710000 then fieldsBrg
  else if addr < 0x40720000 then fieldsNmw
  else if addr < 0x40800000 then fieldsSht
  else if addr < 0x40810000 then fieldsKey
  else if addr < 0x40900000 then fieldsDbg
  else if addr < 0x40A00000 then fieldsRec
  else if addr < 0x40B00000 then fieldsUpd
  else if addr < 0x40C00000 then fieldsPwr
  else fieldsFlt

/-- The instance of a field's register that lies at an address, if one does. A register that each hart holds for
itself has one instance per hart at the same address; `hart` chooses it. -/
def Field.instAt (f : Field) (addr hart : Nat) : Option Nat :=
  if f.gstride ≥ 2 ^ 32 then
    let off := addr - f.base
    if f.base ≤ addr then
      if f.stride = 0 then (if off = 0 then some (hart * f.group) else none)
      else if off % f.stride = 0 ∧ off / f.stride < f.group then some (hart * f.group + off / f.stride)
      else none
    else none
  else if addr < f.base then none
  else
    let off := addr - f.base
    let hi := if f.gstride = 0 then 0 else off / f.gstride
    let lo := if f.gstride = 0 then off else off % f.gstride
    let i := if f.stride = 0 then 0 else lo / f.stride
    if (f.stride = 0 ∧ lo = 0 ∨ f.stride ≠ 0 ∧ lo % f.stride = 0) ∧ i < f.group ∧ hi * f.group + i < f.count
    then some (hi * f.group + i) else none

/-- The fields that make up the register at an address, each with its instance. -/
def regFields (addr hart : Nat) : List (Field × Nat) :=
  (fieldsAt addr).filterMap fun f => (f.instAt addr hart).map fun i => (f, i)

/-- The 32-bit word of the register at an address, without any side effect; an unassigned address reads 0 (R15). -/
def Dev.wordAt (d : Dev) (addr hart : Nat) : Nat :=
  (regFields addr hart).foldl (fun w p =>
    if p.1.acc = .wo then w else w + (d.rdi p.1 p.2 % 2 ^ p.1.width) * 2 ^ p.1.lsb) 0

/-- A register that shows what the module measures now, VSUP_LOG or the core die's junction: no command brings the measurement, so its
word is a free value (R724, log entry 11). -/
def Dev.measured (d : Dev) (addr : Nat) : Option Nat :=
  if addr = PWR_VSUP_VSUP_LOG.base then some (d.freeVal 12)
  else if addr = PWR_TEMP_TJ.base then some (d.freeVal 16)
  else none

/-- Write a 32-bit register image into the fields of the register at an address that the deck writes, whatever
their lock (R58). -/
def Dev.image (d : Dev) (addr w : Nat) : Dev :=
  (regFields addr 0).foldl (fun d p =>
    if p.1.acc = .rwl then d.wri p.1 p.2 (w / 2 ^ p.1.lsb) else d) d

/-! ### Fault window counters (R727 to R730) -/

/-- The index of a counter in the store of counters. -/
def CounterId.key : CounterId → Nat
  | .row a => a
  | .core n => 1 * 2 ^ 32 + n
  | .pair n => 2 * 2 ^ 32 + n
  | .can c => 3 * 2 ^ 32 + c
  | .cell m k => 4 * 2 ^ 32 + m * 8 + k
  | .nor s => 5 * 2 ^ 32 + s
  | .busLink => 6 * 2 ^ 32
  | .bankLink b => 7 * 2 ^ 32 + b
  | .channel m => 8 * 2 ^ 32 + m
  | .noPartner c => 9 * 2 ^ 32 + c
  | .truncation t c => 10 * 2 ^ 32 + t * 2 + c
  | .handshake => 11 * 2 ^ 32
  | .unlock => 12 * 2 ^ 32
  | .access c => 13 * 2 ^ 32 + c
  | .resets c => 14 * 2 ^ 32 + c
  | .retrain b => 15 * 2 ^ 32 + b
  | .busReset => 16 * 2 ^ 32

/-- The register in which a counter shows itself, which is then its home: its count field and, where it has one,
its REACHED field (R236, R292, R746). -/
def CounterId.home : CounterId → Option (Field × Option Field × Nat)
  | .core n => some (FLT_CORECNT_COUNT, some FLT_CORECNT_REACHED, n)
  | .pair n => some (FLT_PAIRCNT_COUNT, some FLT_PAIRCNT_REACHED, n)
  | .can c => some (FLT_CANCNT_COUNT, some FLT_CANCNT_REACHED, c)
  | .busLink => some (FLT_BUSCNT_COUNT, some FLT_BUSCNT_REACHED, 0)
  | .bankLink b => some (FLT_BANKCNT_COUNT, some FLT_BANKCNT_REACHED, b)
  | .channel m => some (CH_STAT_FCNT, none, m)
  | .resets c => some (CTXN_STAT_RESETS, none, c)
  | _ => none

/-- The count of a counter. -/
def Dev.fwCount (d : Dev) (c : CounterId) : Nat :=
  match c.home with
  | some (f, _, i) => d.rdi f i
  | none => (d.fw.get c.key {}).count

/-- Whether a counter has declared a lasting fault that no action has cleared. -/
def Dev.fwReached (d : Dev) (c : CounterId) (thresh : Nat) : Bool :=
  decide (thresh ≤ d.fwCount c)

/-- The register field that shows the time left of a counter's window in ms, its instance, and the window (R731, R746). -/
def CounterId.left : CounterId → Option (Field × Nat × Nat)
  | .core n => some (FLT_CORECNT_WLEFT, n, 10000)
  | .pair n => some (FLT_PAIRCNT_WLEFT, n, 1000)
  | .can c => some (FLT_CANCNT_WLEFT, c, 10000)
  | .busLink => some (FLT_BUSCNT_WLEFT, 0, 1)
  | .bankLink b => some (FLT_BANKCNT_WLEFT, b, 100)
  | _ => none

/-- The window register after a counter has been set: the whole window when the first event opens it, 0 when the count
returns to 0. -/
def Dev.fwLeft (d : Dev) (c : CounterId) (count : Nat) : Dev :=
  match c.left with
  | some (f, i, w) => if count = 0 then d.wri f i 0 else if count = 1 then d.wri f i w else d
  | none => d

/-- Set a counter. -/
def Dev.fwSet (d : Dev) (c : CounterId) (count : Nat) (reached : Bool) : Dev :=
  let d := d.fwLeft c count
  match c.home with
  | some (f, some r, i) => (d.wri f i count).wri r i (b2n reached)
  | some (f, none, i) => d.wri f i count
  | none => { d with fw := d.fw.set c.key ⟨count, reached⟩ }

/-- One event of a counter with a threshold (R727): a counter at its threshold counts no further (R730). -/
def Dev.fwEvent (d : Dev) (c : CounterId) (thresh : Nat) : Dev :=
  if thresh ≤ d.fwCount c then d
  else d.fwSet c (d.fwCount c + 1) (decide (d.fwCount c + 1 = thresh))

/-- Whether the next event brings the counter to its threshold. -/
def Dev.fwFires (d : Dev) (c : CounterId) (thresh : Nat) : Bool := decide (d.fwCount c + 1 = thresh)

/-- The counter starts again at 0. -/
def Dev.fwClear (d : Dev) (c : CounterId) : Dev := d.fwSet c 0 false

/-! ### Addressed memory (R26, R28) -/

/-- What a byte of memory that nothing has written reads as (log entry 6). -/
def memDefault : Byte := 0

/-- The byte at an address. -/
def memRead (m : List Host.Cell) (a : Nat) : Byte := (lookupList a m).getD memDefault

/-- Write one byte; a byte that equals the default is not listed, so equal memories are equal lists. -/
def memWrite (m : List Host.Cell) (a : Nat) (b : Byte) : List Host.Cell :=
  if b = memDefault then eraseList a m else insertList a b m

/-- Write consecutive bytes from an address. -/
def memWriteList : List Byte → Nat → List Host.Cell → List Host.Cell
  | [], _, m => m
  | b :: rest, a, m => memWriteList rest (a + 1) (memWrite m a b)

/-- `n` consecutive bytes from an address. -/
def memReadList (m : List Host.Cell) (a n : Nat) : List Byte := (List.range n).map fun k => memRead m (a + k)

/-- The canonical form of memory: addresses strictly rising, and no entry equal to the default. -/
def memWf (m : List Host.Cell) : Bool := risingFrom 0 m && m.all fun c => c.2 != memDefault

/-- The value of a list of bytes, least significant first (R8). -/
def leVal : List Byte → Nat
  | [] => 0
  | b :: rest => b.toNat + 256 * leVal rest

/-- The value of a list of bytes, most significant first (R9). -/
def beVal (l : List Byte) : Nat := leVal l.reverse

/-- Bytes of a list, cut or padded with zeros to a length. -/
def padTo (n : Nat) (l : List Byte) : List Byte := (List.range n).map fun k => l.getD k 0

/-- The `n` bytes of a number, least significant first. -/
def leOf : Nat → Nat → List Byte
  | 0, _ => []
  | n + 1, v => BitVec.ofNat 8 v :: leOf n (v / 256)

/-- The `n` bytes of a number, most significant first. -/
def beOf (n v : Nat) : List Byte := (leOf n v).reverse

/-- Write consecutive bytes of the block's memory. -/
def Dev.poke (d : Dev) (a : Nat) (l : List Byte) : Dev := { d with mem := memWriteList l a d.mem }

/-- Read consecutive bytes of the block's memory. -/
def Dev.peek (d : Dev) (a n : Nat) : List Byte := memReadList d.mem a n

/-- Forget the memory of an address range: it reads as the default again. -/
def Dev.memForget (d : Dev) (lo hi : Nat) : Dev :=
  { d with mem := d.mem.filter fun c => !(decide (lo ≤ c.1) && decide (c.1 < hi)) }

end Sys2Proof.Machine
end

