-- ==== Sys2Proof/Machine/Flags.lean ====
section
/-! DEFINITION. The event sources: which register flags assert each of the 512 sources of R220 and the sources of the
notice queues (R223), and the interrupt messages that a command causes (R221, R558). `onDev` is the one form of every
command's meaning. -/

namespace Sys2Proof.Machine

/-! ### Assertion (R220) -/

/-- The flags of the sources 132 to 163: switch ports, gPTP, filters, replication, buffer, gates (R448, R450). -/
def switchFlags (s : Nat) : Nat × Nat :=
  if s < 154 then (0x40610014 + 0x100 * (s - 132), 0x3FB)
  else if s = 154 then (0x40600014, 0x03)
  else if s = 155 then (0x40600014, 0x0C)
  else if s = 156 then (0x40600014, 0x10)
  else if s = 157 then (0x40600014, 0x60)
  else if s < 163 then (0x40610014 + 0x100 * (22 + (s - 158)), 0x3FB)
  else (0x40600014, 0x80)

/-- The flags of the sources 364 to 435 that one register each asserts: Shuttle, update, swap, presence, keys, debug,
recorder, power, faults, contexts (R546, R693, R784, R612, R637, R664, R723, R744, R785). -/
def systemFlags (s : Nat) : Nat × Nat :=
  if s = 372 then (0x40720004, 0x03)
  else if s = 373 then (0x40720004, 0x7C)
  else if s = 374 then (0x40A0000C, 0x43)
  else if s = 375 then (0x40A0000C, 0x1C)
  else if s = 376 then (0x40000050, 0x05)
  else if s = 377 then (0x40000050, 0x02)
  else if s = 378 then (0x40A0000C, 0x20)
  else if 380 ≤ s ∧ s ≤ 386 then (0x40800010, 2 ^ (s - 380))
  else if s = 387 then (0x4081000C, 0x06)
  else if s = 388 then (0x4081000C, 0x09)
  else if s = 396 then (0x40900018, 0x01)
  else if s = 397 then (0x40900018, 0x02)
  else if s = 398 then (0x40900018, 0x14)
  else if s = 399 then (0x40900018, 0x08)
  else if 404 ≤ s ∧ s ≤ 417 then (0x40B00004, 2 ^ (s - 404))
  else if 420 ≤ s ∧ s ≤ 431 then (0x40C00004, 2 ^ (s - 420))
  else if 432 ≤ s ∧ s ≤ 434 then (0x40200034, 2 ^ (s - 432))
  else (0x40000050, 0)

/-- The registers whose flags assert an event source, each with the mask of those flags (R220). Sources from 512 on are
those of the notice queues, numbered as the APLIC does less 1 (R223). -/
def sourceFlags (s : Nat) : List (Nat × Nat) :=
  if s < 64 then [(0x40301024 + 0x10000 * (s / 16) + 0x80 * (s % 16), 0x7F)]
  else if s < 68 then [(0x40300014 + 0x10000 * (s - 64), 0x13FF)]
  else if s < 72 then [(0x40300014 + 0x10000 * (s - 68), 0x0C00)]
  else if s < 124 then [(0x40400024 + 0x1000 * ((s - 72) / 2), if s % 2 = 0 then 0x000F else 0x1FF0)]
  else if s < 132 then
    [(0x40500024 + 0x8000 * ((s - 124) / 4),
      if s % 4 = 0 then 0x001 else if s % 4 = 1 then 0x006 else if s % 4 = 2 then 0x038 else 0x3C0)]
  else if s < 164 then [switchFlags s]
  else if s < 228 then [(0x40701010 + 0x40 * (s - 164), 0x3F)]
  else if s < 236 then [(0x40020044, 2 ^ (s - 228))]
  else if s < 240 then
    [(0x40020040, if s = 236 then 0x003 else if s = 237 then 0x00C else if s = 238 then 0x0F0 else 0x300)]
  else if s < 244 then
    [(0x40010040, if s = 240 then 0x03 else if s = 241 then 0x04 else if s = 242 then 0x18 else 0xE0)]
  else if s < 308 then [(0x40021100 + 4 * (s - 244), 0x3)]
  else if s < 340 then [(0x40010210, 2 ^ (s - 308))]
  else if s < 356 then [(0x40010214, 2 ^ (s - 340))]
  else if s < 364 then [(0x40710018, 2 ^ (s - 356))]
  else if s < 371 then (List.range 16).map fun k => (0x40710100 + 4 * k, 2 ^ (s - 364))
  else if s < 436 then [systemFlags s]
  else if s < 468 then [(0x40230004 + 0x10 * (s - 436), 0x8)]
  else if s < 512 then [(0x40231100 + 4 * (s - 468), 2 ^ CTX_DBSTAT_PEND.lsb)]
  else if s < 580 then [(0x40232400 + 4 * (s - 512), 0xFF)]
  else []

/-- The bank that raises a source is fitted and a channel that raises it is used, or the source is none of a bank's (R2,
R248). -/
def Dev.sourceFitted (d : Dev) (s : Nat) : Bool :=
  if s < 64 then decide (s / 16 < d.rd SYSCTL_PARTID_BANKS) && d.rdi CH_OWNER s != 0xFFFF
  else if s < 72 then decide (s % 4 < d.rd SYSCTL_PARTID_BANKS)
  else true

/-- A source is asserted while any of its flags is set (R220, R556). -/
def Dev.asserted (d : Dev) (s : Nat) : Bool :=
  d.sourceFitted s && (sourceFlags s).any fun p => (d.wordAt p.1 0 &&& p.2) != 0

/-! ### Delivery (R221, R223, R558) -/

/-- The binding to which a source is delivered: that of the routed context, or the notice queue's own. -/
def Dev.sourceBind (d : Dev) (s : Nat) : Option Nat :=
  if s < 512 then (d.ctxRec (d.route s)).map fun r => r.bind
  else if s < 580 then some (s - 512)
  else none

/-- Whether a source is delivered to a virtual machine, and so by message. -/
def Dev.sourceToVm (d : Dev) (s : Nat) : Bool :=
  match d.sourceBind s with
  | some b => decide (b < 64)
  | none => false

/-- The message for a source that is delivered to virtual machine `v`: to core floor(v / 16), guest file (v mod 16) + 1, as
identity s + 1 (R38, R221). A real-time partition has no message: its pair reads topi (R559). -/
def Dev.msiOf (d : Dev) (s : Nat) : Out :=
  let v := (d.sourceBind s).getD 0
  .msi s (v / 16) (v % 16 + 1) (s + 1)

/-- The messages for the sources that are newly asserted in `d`, against the state `old` before it. -/
def Dev.announce (d old : Dev) : Dev :=
  if d.deck.running.isSome then
    { d with out := d.out ++
        (((List.range 580).filter fun s => d.sourceToVm s && d.asserted s && !old.asserted s).map d.msiOf) }
  else d

/-- The messages that the APLIC sends again to the spare that has taken the place of logical core `n`: of every source that is
still asserted and lands on that core (R562). -/
def Dev.announceCore (d : Dev) (n : Nat) : Dev :=
  { d with out := d.out ++
      (((List.range 580).filter fun s =>
        d.sourceToVm s && (d.sourceBind s).getD 0 / 16 == n && d.asserted s).map d.msiOf) }

/-- The messages that the APLIC sends at the end of a W1C write to the register at `addr`: of each source with a flag
there that is still asserted (R558). -/
def Dev.announceAgain (d : Dev) (addr : Nat) : Dev :=
  if d.deck.running.isSome then
    { d with out := d.out ++
        (((List.range 580).filter fun s =>
          (sourceFlags s).any (fun p => p.1 == addr) && d.sourceToVm s && d.asserted s).map d.msiOf) }
  else d

/-! ### Meanings -/

/-- A command that takes the block from one state to the next: its effect on everything but the queue, and the interrupt
messages of the sources it asserts. -/
def onDev (f : Dev → Dev) (s : State) : Host.Outcome State Fault Refusal :=
  .next { s with dev := (f s.dev).announce s.dev }

end Sys2Proof.Machine
end

