-- ==== Sys2Proof/Machine/Trigger.lean ====
section
/-! DEFINITION. The recorder's trigger, as the one operation by which every block writes its codes (R645 to R655),
the record's CRC (R641), and the broken promises, notices and fault-counter actions that several blocks share. -/

namespace Sys2Proof.Machine

/-! ### CRC-32 (R641) -/

/-- One bit of the reflected CRC-32 of IEEE 802.3. -/
def crcBit (c : Nat) : Nat := if c % 2 = 1 then (c / 2) ^^^ 0xEDB88320 else c / 2

/-- One byte of the CRC-32. -/
def crcByte (c b : Nat) : Nat :=
  crcBit (crcBit (crcBit (crcBit (crcBit (crcBit (crcBit (crcBit (c ^^^ b))))))))

/-- The CRC-32 of a list of bytes: initial value and final exclusive-or of all ones (R641). -/
def crc32 (l : List Nat) : Nat := (l.foldl crcByte 0xFFFFFFFF) ^^^ 0xFFFFFFFF

/-- The `n` bytes of a number, least significant first (R8). -/
def leBytes : Nat → Nat → List Nat
  | 0, _ => []
  | n + 1, v => v % 256 :: leBytes n (v / 256)

/-- The bytes 0 to 111 of a record (R640). -/
def recBytes (seq code optime pwrcyc supp flags : Nat) (snap : List Nat) : List Nat :=
  leBytes 4 seq ++ leBytes 2 code ++ leBytes 5 optime ++ leBytes 3 pwrcyc ++ leBytes 1 supp ++ leBytes 1 flags ++
    (List.range 24).flatMap fun k => leBytes 4 (snap.getD k 0)

/-- The CRC over a ring record's bytes 0 to 111 (R640). -/
def RingRec.calcCrc (r : RingRec) : Nat := crc32 (recBytes r.seq r.code r.optime r.pwrcyc r.supp r.flags r.snap)

/-- Little-endian word `n` of a list of bytes. -/
def wordOfBytes (l : List Nat) (n : Nat) : Nat :=
  l.getD (4 * n) 0 + 256 * l.getD (4 * n + 1) 0 + 65536 * l.getD (4 * n + 2) 0 + 16777216 * l.getD (4 * n + 3) 0

/-- Word `n` (0 to 31) of a ring slot's 128 bytes (R640, R658). -/
def RingRec.word (r : RingRec) (n : Nat) : Nat :=
  if n < 28 then wordOfBytes (recBytes r.seq r.code r.optime r.pwrcyc r.supp r.flags r.snap) n
  else if n = 28 then r.crc else 0

/-- The 128 bytes of a record as REC_READ carries it: the fields of R640 in their order, each most significant byte first, and
each snapshot word one field (R642). -/
def RingRec.wire (r : RingRec) : List Byte :=
  beOf 4 r.seq ++ beOf 2 r.code ++ beOf 5 r.optime ++ beOf 3 r.pwrcyc ++ beOf 1 r.supp ++ beOf 1 r.flags ++
    ((List.range 24).flatMap fun k => beOf 4 (r.snap.getD k 0)) ++ beOf 4 r.crc ++ List.replicate 12 0

/-! ### Sequence numbers (R657) -/

/-- The successor of a SEQ. -/
def seqNext (s : Nat) : Nat := if s = 0xFFFFFFFF then 1 else s + 1

/-- The serial distance from `b` to `a`: (a - b) mod (2^32 - 1). -/
def seqDist (a b : Nat) : Nat := (a + 0xFFFFFFFF - b % 0xFFFFFFFF) % 0xFFFFFFFF

/-- The operating-time count (R643): 40 bits over two registers. -/
def Dev.optime (d : Dev) : Nat := d.rd REC_OPTIMEH_OPTIME * 2 ^ 32 + d.rd REC_OPTIMEL_OPTIME

/-! ### Triggers -/

/-- The code range of the recorder card that holds a code (R650). -/
def Dev.rangeOf (d : Dev) (code : Nat) : Option Nat :=
  (List.range 256).find? fun r =>
    d.flagi REC_RNG_CTL_EN r && decide (d.rdi REC_RNG_CODES_LO r ≤ code) && decide (code ≤ d.rdi REC_RNG_CODES_HI r)

/-- The bucket that names a code (R652). -/
def Dev.bucketOf (d : Dev) (code : Nat) : Option Nat :=
  (List.range 512).find? fun b => d.flagi REC_BKT_CODE_EN b && d.rdi REC_BKT_CODE b == code

/-- The first eight arguments, missing ones 0 (R646). -/
def args8 (args : List Nat) : List Nat := (List.range 8).map fun k => args.getD k 0 % 2 ^ 32

/-- One entry of a snapshot set (R648, R651): the word and whether its domain was off. -/
def Dev.snapEntry (d : Dev) (args : List Nat) (e : Nat) : Nat × Bool :=
  if e = 0 then (0, false)
  else if 0xFFFFFF00 ≤ e then ((args8 args).getD (e - 0xFFFFFF00) 0, false)
  else if d.domainOn (domainOf e) then ((d.measured e).getD (d.wordAt e 0), false)
  else (0, true)

/-- The snapshot of a code: the set's entries up to the highest non-zero one, or the arguments (R648, R650). -/
def Dev.snapshot (d : Dev) (code : Nat) (args : List Nat) : List Nat × Bool :=
  match d.rangeOf code with
  | some r =>
    let s := d.rdi REC_RNG_CTL_SET r
    if s ≤ 63 then
      let es := (List.range 24).map fun e => d.rdi REC_SET_ENTRY (s * 24 + e)
      let used := (es.reverse.dropWhile fun e => e == 0).reverse
      let ws := used.map (d.snapEntry args)
      (ws.map fun w => w.1, ws.any fun w => w.2)
    else (args8 args, false)
  | none => (args8 args, false)

/-- Codes that take no token and are never suppressed (R652). -/
def exemptCode (code : Nat) : Bool :=
  code == 0x0030 || code == 0x0031 || (decide (0x0500 ≤ code) && decide (code ≤ 0x05FF))

/-- Whether a code's bucket limits it now: a bucket with FILL 0 is unlimited, and no bucket limits before a deck is
committed (R652, log entry 12). -/
def Dev.limited (d : Dev) (code : Nat) : Bool :=
  !exemptCode code && d.deck.running.isSome &&
    match d.bucketOf code with
    | some b => d.rdi REC_BKT_FILL b != 0
    | none => d.rd REC_CFG_DFILL != 0

/-- Tokens in a code's bucket. -/
def Dev.tokens (d : Dev) (code : Nat) : Nat :=
  match d.bucketOf code with
  | some b => d.rdi REC_BKT_STATE_TOKENS b
  | none => d.rd REC_DBKT_TOKENS

/-- Suppressed count of a code's bucket. -/
def Dev.suppCnt (d : Dev) (code : Nat) : Nat :=
  match d.bucketOf code with
  | some b => d.rdi REC_BKT_STATE_SUPPCNT b
  | none => d.rd REC_DBKT_SUPPCNT

def Dev.setTokens (d : Dev) (code n : Nat) : Dev :=
  match d.bucketOf code with
  | some b => d.wri REC_BKT_STATE_TOKENS b n
  | none => d.wr REC_DBKT_TOKENS n

def Dev.setSuppCnt (d : Dev) (code n : Nat) : Dev :=
  match d.bucketOf code with
  | some b => d.wri REC_BKT_STATE_SUPPCNT b n
  | none => d.wr REC_DBKT_SUPPCNT n

/-- A record enters the staging buffer, or is lost when the buffer is full (R654, R655). -/
def Dev.stage (d : Dev) (r : Staged) : Dev :=
  if d.recd.staged.length < 2048 then
    ({ d with recd := { d.recd with staged := d.recd.staged ++ [r] } }).wr REC_STAT_STAGED (d.recd.staged.length + 1)
  else
    (({ d with recd := { d.recd with lostPending := true } }).inc REC_CNT_LOST).wr REC_EVT_LOST 1

/-- A trigger that has been accepted: its snapshot is taken and the record staged (R650, R651, R652). -/
def Dev.accept (d : Dev) (code : Nat) (args : List Nat) (flags optime : Nat) : Dev :=
  let sn := d.snapshot code args
  let r : Staged := { code := code, optime := optime, pwrcyc := d.rd REC_PWRCYC, supp := d.suppCnt code,
                      flags := flags + (if sn.2 then 4 else 0), snap := sn.1 }
  (d.setSuppCnt code 0).stage r

/-- A trigger, with the flags of its record and its operating time (R652). -/
def Dev.trigWith (d : Dev) (code : Nat) (args : List Nat) (flags optime : Nat) : Dev :=
  if d.limited code then
    if d.tokens code = 0 then
      ((d.setSuppCnt code (min (d.suppCnt code + 1) 255)).inc REC_CNT_SUPP).wr REC_EVT_SUPP 1
    else (d.setTokens code (d.tokens code - 1)).accept code args flags optime
  else d.accept code args flags optime

/-- A device code is written with its arguments (R645, R646). -/
def Dev.trig (d : Dev) (code : Nat) (args : List Nat) : Dev := d.trigWith code args 0 d.optime

/-! ### Notices and broken promises (R223, R230, R232) -/

/-- CTX_NQLOb and CTX_NQHIb show the head notice, CTX_NQSTATb how many wait (R223, R234). -/
def Dev.noticeShow (d : Dev) (b : Nat) : Dev :=
  let q := d.ctx.notices.get b []
  let d := d.wri CTX_NQSTAT_COUNT b q.length
  match q with
  | n :: _ => (d.wri CTX_NQLO_BYTES b (n.ctx + n.kind * 2 ^ 16 + n.cls * 2 ^ 24)).wri CTX_NQHI_BYTES b n.detail
  | [] => (d.wri CTX_NQLO_BYTES b 0).wri CTX_NQHI_BYTES b 0

/-- A notice enters the queue of a binding, or is lost when it is full (R223). -/
def Dev.noticeTo (d : Dev) (b : Nat) (n : Notice) : Dev :=
  let q := d.ctx.notices.get b []
  if q.length < 128 then
    ({ d with ctx := { d.ctx with notices := d.ctx.notices.set b (q ++ [n]) } }).noticeShow b
  else (d.inci CTX_NQLOST_COUNT b).wr CTX_EVT_NQLOST 1

/-- A notice for a context goes to the queue of its binding; an undeclared context has none. -/
def Dev.notice (d : Dev) (c kind cls detail : Nat) : Dev :=
  match d.ctxRec c with
  | some r => d.noticeTo r.bind ⟨c, kind, cls, detail⟩
  | none => d

/-- A run-time C0 conflict of a promise of kind 1, 2 or 3 (R232): IDLE_CONF from the next pick boundary, the count,
the notice and the code. -/
def Dev.c0Conflict (d : Dev) (c kind : Nat) : Dev :=
  let d := (d.wr TRD_STAT_IDLE_CONF 1).inc CTX_C0CONF_COUNT
  let d := { d with trd := { d.trd with idlePending := true, otherCause := true } }
  (d.notice c 0x14 0 kind).trig 0x0334 [c]

/-- A broken promise (R230): counted for its kind, noticed to the owner, source 433, and the code of the block. A C0
promise of kind 1 to 3 is a conflict besides (R232). -/
def Dev.breach (d : Dev) (kind owner cls noticeKind detail code : Nat) (args : List Nat) : Dev :=
  let d := (d.inci CTX_BRCNT_COUNT kind).wr CTX_EVT_BREACH 1
  let d := (d.notice owner noticeKind cls detail).trig code args
  if cls = 0 ∧ kind ≠ 0 then d.c0Conflict owner kind else d

/-- The class of a context; an undeclared one ranks as C3. -/
def Dev.ctxClass (d : Dev) (c : Nat) : Nat :=
  match d.ctxRec c with
  | some r => r.cls
  | none => 3

/-- A lasting fault is declared (R733): the source of the counter by its bit of FLT_EVT, FLT_LAST, and code 0x0700
with the counter's kind and the unit, written by `write`. -/
def Dev.lastingBy (d : Dev) (write : Dev → Nat → List Nat → Dev) (kind action unit : Nat) : Dev :=
  let d := d.setBit FLT_EVT_REACHED 0 kind
  let d := ((d.wr FLT_LAST_KIND kind).wr FLT_LAST_ACTION action).wr FLT_LAST_UNIT unit
  write d 0x0700 [kind, unit]

/-- A lasting fault of the core die's own counters, whose record is of the present moment. -/
def Dev.lasting (d : Dev) (kind action unit : Nat) : Dev := d.lastingBy Dev.trig kind action unit

end Sys2Proof.Machine
end

