-- ==== Sys2Proof/Machine/BeatOps.lean ====
section
/-! DEFINITION. The operations of the beat unit and the Treadle's idle causes that other blocks share: qualification and
loss of the pick source, and the causes of the idle card (R97 to R99, R103, R151, R152, R783). -/

namespace Sys2Proof.Machine

def Dev.setTrd (d : Dev) (t : TrdState) : Dev := { d with trd := t }

def Dev.setBeat (d : Dev) (b : BeatState) : Dev := { d with beat := b }

/-! ### The idle card's causes (R151, R152, R164) -/

/-- The Treadle runs: RUN or IDLE. -/
def Dev.trdRuns (d : Dev) : Bool := d.rd TRD_STAT_STATE == 1 || d.rd TRD_STAT_STATE == 2

/-- The Treadle is in the idle card. -/
def Dev.trdIdle (d : Dev) : Bool := d.rd TRD_STAT_STATE == 2

/-- A cause of the idle card is set while the Treadle runs: it takes effect at the next pick boundary (R151, R152). -/
def Dev.idleCause (d : Dev) (f : Field) : Dev :=
  (d.wr f 1).setTrd { d.trd with idlePending := true, otherCause := d.trd.otherCause || f.lsb != 8 }

/-- Whether any idle cause is set (R151, R164). -/
def Dev.anyCause (d : Dev) : Bool :=
  d.flag TRD_STAT_IDLE_BEAT || d.flag TRD_STAT_IDLE_DROP || d.flag TRD_STAT_IDLE_CONF || d.flag TRD_STAT_IDLE_HOST

/-! ### Qualification and loss (R97 to R99, R103, R783) -/

/-- The pick source is in force: LOCKED, no holdover. -/
def Dev.lock (d : Dev) : Dev :=
  let d := ((d.wr BEAT_STAT_STATE 1).wr BEAT_STAT_RUN_SRC (d.rd BEAT_CFG_SOURCE)).wr BEAT_HOLDLEFT_LEFT_MS 0
  let d := (d.wr BEAT_EVT_ACQ 1).wr TRD_STAT_IDLE_BEAT 0
  d.setBeat { d.beat with alignPending := false, stepPending := false, holdRunning := false, holdExpired := false }

/-- The beat unit enters IDLE: the idle card runs from the next pick boundary (R99, R151). -/
def Dev.beatIdle (d : Dev) : Dev :=
  let d := ((d.wr BEAT_STAT_STATE 3).wr BEAT_STAT_RUN_SRC 5).wr BEAT_HOLDLEFT_LEFT_MS 0
  let d := d.setBeat { d.beat with holdRunning := false, holdExpired := false }
  ((d.wr BEAT_EVT_IDLE_IN 1).trig 0x0303 []).idleCause TRD_STAT_IDLE_BEAT

/-- A signed number of ns as a 32-bit register shows it (R117). -/
def sword (e : Int) : Nat := (BitVec.ofInt 32 e).toNat

/-- A qualifying reference of the source that the beat card names: QUAL_CNT and the consecutive ones count it (R98, R118). -/
def Dev.qualRef (d : Dev) (src : Nat) : Dev :=
  if d.rd BEAT_CFG_SOURCE = src then (d.inc BEAT_STAT_QUAL_CNT).setBeat { d.beat with refs := d.beat.refs + 1 } else d

/-- The references seen no longer count as consecutive (R98). -/
def Dev.qualBreak (d : Dev) (src : Nat) : Dev :=
  if d.rd BEAT_CFG_SOURCE = src then d.setBeat { d.beat with refs := 0 } else d

/-- The references that qualify a source (R98). -/
def qualRefs (src : Nat) : Nat := if src = 5 then 0 else if src = 3 then 256 else 4

/-- The condition under which the beat card's source qualifies holds (R98). -/
def Dev.sourceReady (d : Dev) : Bool :=
  let src := d.rd BEAT_CFG_SOURCE
  decide (qualRefs src ≤ d.beat.refs) &&
    (if src = 0 then d.rd SWX_GPTP_STATE == 1
    else if src = 1 then d.rdi TT_STAT_STATE (d.rd BEAT_CFG_SRC_UNIT) == 3
    else src != 3 || d.beat.indexOk)

/-- The pick source is lost (R98, R99, R103, R783): qualification starts again. -/
def Dev.sourceLoss (d : Dev) : Dev :=
  let st := d.rd BEAT_STAT_STATE
  let due := d.beat.alignPending || d.beat.stepPending
  if d.rd BEAT_CFG_SOURCE = 5 then d
  else
    let d := (d.wr BEAT_STAT_QUAL_CNT 0).setBeat { d.beat with refs := 0, indexOk := false, quadErrs := 0 }
    if !d.trdRuns ∨ st ≠ 1 ∧ !due then d
    else
      let d := d.setBeat { d.beat with alignPending := false, stepPending := false }
      let d := ((d.wr BEAT_EVT_LOSS 1).inc BEAT_CNT0_LOSS_CNT).trig 0x0300 []
      if st = 1 then
        if d.rd BEAT_HOLDMS_HOLDOVER_MS = 0 then d.beatIdle
        else
          let d := ((d.wr BEAT_STAT_STATE 2).wr BEAT_STAT_RUN_SRC 5).wr BEAT_HOLDLEFT_LEFT_MS (d.rd BEAT_HOLDMS_HOLDOVER_MS)
          d.setBeat { d.beat with holdRunning := true, holdExpired := false }
      else if st ≠ 3 ∧ d.beat.holdExpired then d.beatIdle
      else d

/-- A block reports the loss of what the beat card names as the pick source: `src` is the kind of source, `unit` the
controller (R85, R98). -/
def Dev.lossOf (d : Dev) (src unit : Nat) : Dev :=
  if d.rd BEAT_CFG_SOURCE = src ∧ (d.rd BEAT_CFG_SRC_UNIT = unit ∨ src = 0 ∨ 3 ≤ src) then d.sourceLoss else d

end Sys2Proof.Machine
end

