-- ==== Sys2Proof/Machine/BridgeOps.lean ====
section
/-! DEFINITION. The far-bus bridge's own operations: windows, posted-write entries, collect slots, and the end of a
context's reads (R455 to R492). -/

namespace Sys2Proof.Machine

/-- The codes of R465 that the bridge itself sets. -/
def brTIMEOUT : Nat := 0x10
def brNOSLOT : Nat := 0x11
def brRESET : Nat := 0x12
def brHALTED : Nat := 0x13
def brABORTED : Nat := 0x14

def Dev.win (d : Dev) (w : Nat) : Window := d.brg.win.get w {}

def Dev.setWin (d : Dev) (w : Nat) (x : Window) : Dev := { d with brg := { d.brg with win := d.brg.win.set w x } }

/-- The posted writes a window holds, waiting or sent (R469). -/
def Window.writes (x : Window) : Nat :=
  (x.work.filter fun k => k.kind == .write).length +
    match x.sent with
    | some o => b2n (o.work.kind == .write)
    | none => 0

/-- PEND, HELD and ENTRIES show the posted-write entries in use (R488, R492). -/
def Dev.showWrites (d : Dev) (w : Nat) : Dev :=
  let n := (d.win w).writes
  let d := d.wri BRG_WSTATE_PEND w n
  let d := d.wri BRG_WSTATE_HELD w (if d.rdi BRG_WSTATE_STATE w = 2 then n else 0)
  d.wr BRG_STAT_ENTRIES ((List.range 64).foldl (fun t v => t + (d.win v).writes) 0)

/-- The outcome of a window read that still stalls its hart (R471). -/
def Dev.readEnds (d : Dev) (h st code slot value : Nat) : Dev :=
  let d := ((d.wri BRG_RSTAT_ST h st).wri BRG_RSTAT_CODE h code).wri BRG_RSTAT_SLOT h slot
  { d with access := { value := value } }

/-- A collect slot is freed (R472, R473). -/
def Dev.slotFree (d : Dev) (s : Nat) : Dev :=
  let d := (d.wri BRG_CSTAT_BUSY s 0).wri BRG_CSTAT_DONE s 0
  let d := { d with brg := { d.brg with slots := d.brg.slots.erase s } }
  d.wr BRG_STAT_SLOTS (d.brg.slots.items.length)

/-- The lowest free collect slot (R471). -/
def Dev.slotPick (d : Dev) : Option Nat := (List.range 256).find? fun s => (d.brg.slots.find s).isNone

/-- A read of a context ends at its reset: a stalled one at once with RESET, a deferred one by freeing its slot, and
its answer is discarded (R213, R465). -/
def Dev.endRead (d : Dev) (k : Work) : Dev :=
  if k.stalled then d.readEnds k.hart 2 brRESET 0 0
  else if k.deferred then (d.wri BRG_CSTAT_CODE k.num brRESET).slotFree k.num
  else d

/-- The reads of a context in one window end. -/
def Dev.endReadsIn (d : Dev) (c w : Nat) : Dev :=
  let x := d.win w
  let mine := fun (k : Work) => k.kind == .read && k.ctx == c && !k.dropped
  let d := d.each (x.work.filter mine) Dev.endRead
  let d := match x.sent with
    | some o => if mine o.work then d.endRead o.work else d
    | none => d
  d.setWin w { x with work := x.work.filter (fun k => !mine k),
                      sent := x.sent.map fun o =>
                        if mine o.work then { o with work := { o.work with stalled := false, deferred := false, dropped := true } }
                        else o }

/-- Reads of a context end in every window, and its collect slots are freed; posted writes stay (R213). -/
def Dev.bridgeEndReads (d : Dev) (c : Nat) : Dev :=
  let d := d.each d.brg.win.keys fun d w => d.endReadsIn c w
  d.each (d.brg.slots.items.filter fun e => e.2.owner == c) fun d e => (d.wri BRG_CSTAT_CODE e.1 brRESET).slotFree e.1

end Sys2Proof.Machine
end

