-- ==== Sys2Proof/Machine/Crypto.lean ====
section
/-! DEFINITION. HMAC, HKDF and the counter-mode derivation of SP 800-108 over bytes, with the hash of a key's algorithm (R529, R584,
R592, R593). The specification names these functions and does not define them: they are those of FIPS 198-1, RFC 5869 and
SP 800-108 (log entry 63). AES and the elliptic curves are open functions of Config. -/

namespace Sys2Proof.Machine

/-- A hash function: SHA-384 or SHA-256, with the length of its blocks. -/
def hashOf (big : Bool) (l : List Byte) : List Byte := if big then sha384 l else sha256 l

def hashBlock (big : Bool) : Nat := if big then 128 else 64

/-- A key as one block, each byte joined with a constant. -/
def hmacPad (big : Bool) (key : List Byte) (c : Byte) : List Byte :=
  let k := if key.length ≤ hashBlock big then key else hashOf big key
  (List.range (hashBlock big)).map fun i => k.getD i 0 ^^^ c

/-- HMAC with either hash. -/
def hmacWith (big : Bool) (key msg : List Byte) : List Byte :=
  hashOf big (hmacPad big key 0x5C ++ hashOf big (hmacPad big key 0x36 ++ msg))

/-- HMAC-SHA-256. -/
def hmac (key msg : List Byte) : List Byte := hmacWith false key msg

/-- The blocks of HKDF's expansion, from block `i` on. -/
def hkdfBlocks (big : Bool) (prk info : List Byte) : Nat → Nat → List Byte → List Byte
  | 0, _, _ => []
  | n + 1, i, last =>
    let t := hmacWith big prk (last ++ info ++ [BitVec.ofNat 8 i])
    t ++ hkdfBlocks big prk info n (i + 1) t

/-- `n` bytes of HKDF. -/
def hkdf (big : Bool) (ikm salt info : List Byte) (n : Nat) : List Byte :=
  let h := if big then 48 else 32
  (hkdfBlocks big (hmacWith big salt ikm) info ((n + h - 1) / h) 1 []).take n

/-- The pseudorandom function of a derivation by the parent's ALG: AES-CMAC, or HMAC with the parent's hash (R592). -/
def prfOf (alg : Nat) (key msg : List Byte) : List Byte :=
  if alg = 2 then beOf 16 (Config.aesCmac key msg).toNat else hmacWith (alg == 4) key msg

/-- `n` bytes of the counter-mode derivation, block i being PRF(parent, [i] ‖ Label ‖ 0x00 ‖ Context ‖ [L]) (R592). -/
def kdf (alg : Nat) (key label context : List Byte) (n : Nat) : List Byte :=
  let h := if alg = 2 then 16 else if alg = 4 then 48 else 32
  ((List.range ((n + h - 1) / h)).flatMap fun i =>
    prfOf alg key (beOf 4 (i + 1) ++ label ++ [0] ++ context ++ beOf 4 (8 * n))).take n

/-- The public key of a private one, X then Y, by the ALG of the private key (R580, R591). -/
def publicKey (alg : Nat) (priv : List Byte) : List Byte :=
  let n := if alg = 7 then 96 else 64
  beOf n (Config.ecPublic (alg == 7) (beVal priv))

/-- The key check value of a key (R591). -/
def kcvOf (alg : Nat) (key : List Byte) : List Byte :=
  let zeros : List Byte := List.replicate 16 0
  let l := if alg = 1 ∨ alg = 2 then beOf 16 (Config.aesCmac key zeros).toNat
    else if alg = 3 ∨ alg = 4 then hmacWith (alg == 4) key zeros
    else if alg = 5 ∨ alg = 7 then sha256 (publicKey alg key)
    else sha256 key
  l.take 3

end Sys2Proof.Machine
end

