-- ==== Sys2Proof/Machine/KeyOps.lean ====
section
/-! DEFINITION. The key store's own operations: the end of a channel's operation, the clearing, orphaning, commit and
destruction of slots, and the MACsec key switch that a commit brings (R578 to R601, R444). -/

namespace Sys2Proof.Machine

/-- Operation codes of R584 that name a key in SLOT. -/
def keyUsesSlot (op : Nat) : Bool := op != 0x11 && op != 0x12 && op != 0x18 && op != 0x19

/-- Operation codes that derive a child into TARGET. -/
def keyDerives (op : Nat) : Bool := op == 0x09 || op == 0x0A || op == 0x0B

/-- Operation codes that write a pending copy. -/
def keyFills (op : Nat) : Bool := keyDerives op || op == 0x10

/-- Operation codes that name a TARGET. -/
def keyTargets (op : Nat) : Bool := keyFills op || op == 0x11 || op == 0x12

/-- The USE, ALG, SOURCE and PARENT of a slot as the running deck gives them, as one number (R582). -/
def Dev.keyAttr (d : Dev) (k : Nat) : Nat :=
  ((d.rdi KEY_ATTR_USE k * 16 + d.rdi KEY_ATTR_ALG k) * 4 + d.rdi KEY_ATTR_SOURCE k) * 512 + d.rdi KEY_ATTR_PARENT k

def Dev.keySlot (d : Dev) (k : Nat) : KeySlot := d.key.slots.get k {}

def Dev.setKeySlot (d : Dev) (k : Nat) (s : KeySlot) : Dev :=
  { d with key := { d.key with slots := d.key.slots.set k s } }

def Dev.keyChan (d : Dev) (n : Nat) : KeyChan := d.key.chans.get n {}

def Dev.setKeyChan (d : Dev) (n : Nat) (c : KeyChan) : Dev :=
  { d with key := { d.key with chans := d.key.chans.set n c } }

/-- MACsec keys of a port are usable: both slots hold a valid key (R443). -/
def Dev.secUp (d : Dev) (p : Nat) : Bool :=
  let t := d.rdi SWXP_CFG2_TXSLOT p
  d.rdi KEY_SLOTSTAT_STATE t == 1 && d.rdi KEY_SLOTSTAT_STATE (t + 1) == 1

/-- Whether a port runs MACsec (R442). -/
def Dev.secOn (d : Dev) (p : Nat) : Bool := decide (p ≤ 5) && d.flagi SWXP_CFG0_MACSEC p

/-- SECUP shows on which ports the MACsec keys are usable (R443, R450). -/
def Dev.secShow (d : Dev) : Dev := d.each (List.range 6) fun d p => d.wri SWXP_STAT_SECUP p (b2n (d.secOn p && d.secUp p))

/-- The pending copy of a slot is discarded. -/
def Dev.keyDropPending (d : Dev) (k : Nat) : Dev :=
  let d := d.wri KEY_SLOTSTAT_PEND k 0
  if (d.keySlot k).pendKey.isEmpty then d else d.setKeySlot k { d.keySlot k with pendKey := [] }

/-- The factory secret of the fuses as a key (R569, R577). -/
def factoryKey : List Byte := beOf 32 Config.factorySecret.toNat

/-- MODULE_ID: four words, byte 4n in the high byte of word n (R547). -/
def Dev.moduleId (d : Dev) : List Byte := (List.range 4).flatMap fun n => beOf 4 (d.rdi SHT_MODID_BYTES n)

/-- What the security SRAM holds is lost: the anchor, the device secret and with them every key are unreadable from then on (R571, R573,
R574). -/
def Dev.keysLost (d : Dev) : Dev :=
  { d with key := { d.key with anchor := false, anchorKey := 0, devSecret := false, deviceKey := 0,
                               slots := ⟨d.key.slots.items.map fun e => (e.1, { e.2 with key := [], pendKey := [] })⟩,
                               chans := ⟨d.key.chans.items.map fun e => (e.1, { e.2 with key := [] })⟩ } }

/-- The factory identity: MODULE_ID and the MAC address that no identity record replaces (R578). -/
def Dev.factoryIdentity (d : Dev) : Dev :=
  (d.resetRange (SHT_MODID_BYTES.addr 0) (SHT_MODID_BYTES.addr 4)).resetRange SWX_MACLO_MAC.base (SWX_MACHI_MAC.base + 4)

/-- A slot is cleared to empty, both copies erased, and the code written (R590, R598, R599); without the record of slot 494
the factory identity shows (R578). -/
def Dev.keyClear (d : Dev) (k code : Nat) : Dev :=
  let d := { d with key := { d.key with slots := d.key.slots.erase k } }
  let d := ((d.wri KEY_SLOTSTAT_STATE k 0).wri KEY_SLOTSTAT_PEND k 0).wri KEY_KVER k 0
  (if k = 494 then d.factoryIdentity else d).trig code [k]

/-- An orphaned or invalidated slot is cleared when no operation is in flight on it (R598 to R601). -/
def Dev.keyClearIdle (d : Dev) (k : Nat) : Dev :=
  if d.rdi KEY_SLOTSTAT_INUSE k = 0 then
    if d.rdi KEY_SLOTSTAT_STATE k = 2 then d.keyClear k 0x0506
    else if d.rdi KEY_SLOTSTAT_STATE k = 3 then d.keyClear k 0x0504
    else d
  else d

/-- The children of a slot that hold a key, and in turn theirs, are orphaned; a pending copy of a child is discarded
(R599). `fuel` bounds the depth of the descent. -/
def orphanFrom : Nat → Dev → Nat → Dev
  | 0, d, _ => d
  | fuel + 1, d, k =>
    (List.range 480).foldl (fun d j =>
      if d.rdi KEY_ATTR_SOURCE j = 1 ∧ d.rdi KEY_ATTR_PARENT j = k then
        if d.rdi KEY_SLOTSTAT_STATE j = 1 then
          let d := ((d.wri KEY_SLOTSTAT_STATE j 2).keyDropPending j).wr KEY_EVT_ORPHAN 1
          let d := d.trig 0x0505 [j]
          (orphanFrom fuel d j).keyClearIdle j
        else d.keyDropPending j
      else d) d

/-- A slot's change orphans its children, and shows in SECUP (R450, R599). -/
def Dev.orphanChildren (d : Dev) (k : Nat) : Dev := (orphanFrom 480 d k).secShow

/-- A slot is invalidated: it refuses new operations at once and is cleared when nothing is in flight on it; its
children are orphaned (R598, R599). -/
def Dev.keyInvalidate (d : Dev) (k : Nat) : Dev :=
  if d.rdi KEY_SLOTSTAT_STATE k = 0 ∧ d.rdi KEY_SLOTSTAT_PEND k = 0 then d
  else ((d.wri KEY_SLOTSTAT_STATE k 3).orphanChildren k).keyClearIdle k

/-! ### The module's own slots (R579, R614) -/

/-- USE, ALG and LCMASK of the slots 480 to 495. LCMASK is the model's reading: PROVISIONED, FIELD and SERVICE, and
PROVISIONED alone for slot 495 (log entry 32). -/
def moduleAttr (k : Nat) : Nat × Nat × Nat :=
  if k = 483 then (1, 8, 0x0E)
  else if k = 485 ∨ k = 486 then (3, 3, 0x0E)
  else if 487 ≤ k ∧ k ≤ 493 then (0, 0, 0)
  else if k = 494 then (0, 9, 0x0E)
  else if k = 495 then (2, 2, 0x02)
  else (1, 2, 0x0E)

/-- The module sets the attributes of its own slots (R579). -/
def Dev.moduleAttrs (d : Dev) : Dev :=
  (List.range 16).foldl (fun d i =>
    let k := 480 + i
    let a := moduleAttr k
    let d := (d.wri KEY_ATTR_USE k a.1).wri KEY_ATTR_ALG k a.2.1
    (d.wri KEY_ATTR_LCMASK k a.2.2).wri KEY_ATTR_SOURCE k (if a.2.1 = 0 then 0 else 2)) d

/-! ### MACsec key switch (R444) -/

def Dev.macsec (d : Dev) (p : Nat) : MacSec := d.swx.macsec.get p {}

def Dev.setMacsec (d : Dev) (p : Nat) (m : MacSec) : Dev :=
  { d with swx := { d.swx with macsec := d.swx.macsec.set p m } }

/-- A committed key moves the transmitter or the receiver of the ports that name its slot to the next association
number; `had` tells that the receiver holds an old key to keep (R444). -/
def Dev.macsecSwitch (d : Dev) (k : Nat) (had : Bool) : Dev :=
  d.each (List.range 6) fun d p =>
    if d.rdi SWXP_CFG0_MACSEC p = 1 then
      let m := d.macsec p
      let t := d.rdi SWXP_CFG2_TXSLOT p
      if t = k then
        ((d.setMacsec p { m with txAn := (m.txAn + 1) % 4, txPn := 1 }).wri SWXP_EVT_SECKEY p 1).trig 0x0464 [p]
      else if t + 1 = k then
        ((d.setMacsec p { m with rxAn := (m.rxAn + 1) % 4, rxPn := 0,
                                 oldHeld := had, oldPn := m.rxPn }).wri
          SWXP_EVT_SECKEY p 1).trig 0x0464 [p]
      else d
    else d

/-- The identity record of slot 494 becomes the module's identity: MODULE_ID, the MAC address and two zero bytes (R578). -/
def Dev.identity (d : Dev) : Dev :=
  let l := (d.keySlot 494).key
  let d := (List.range 4).foldl (fun d n => d.wri SHT_MODID_BYTES n (beVal ((l.drop (4 * n)).take 4))) d
  let mac := beVal ((l.drop 16).take 6)
  (d.wr SWX_MACLO_MAC (mac % 2 ^ 32)).wr SWX_MACHI_MAC (mac / 2 ^ 32)

/-- The commit word is written: the pending copy becomes the slot's key (R595), the children of the old key are
orphaned (R599) and the MACsec ports switch (R444). -/
def Dev.keyCommit (d : Dev) (k : Nat) : Dev :=
  let s := d.keySlot k
  let had := d.rdi KEY_SLOTSTAT_STATE k == 1
  let d := d.setKeySlot k { s with attr := s.pendAttr, key := s.pendKey, pendKey := [], act := 1 - s.act }
  let d := ((d.wri KEY_SLOTSTAT_STATE k 1).wri KEY_SLOTSTAT_PEND k 0).wri KEY_KVER k s.pendVer
  let d := (d.wr KEY_EVT_COMMIT 1).trig 0x0503 [k, s.pendVer]
  let d := (d.orphanChildren k).macsecSwitch k had
  if k = 494 then d.identity else d

/-! ### The end of an operation (R585 to R587) -/

/-- The count that a failure adds (R585). -/
def Dev.keyCount (d : Dev) (code : Nat) : Dev :=
  if code = 0 then d else if code = 0x07 then d.inc KEY_CNT_TAGFAIL else d.inc KEY_CNT_REFUSED

/-- The operation of a channel ends with DONE and a CODE; a channel with IRQ raises its event (R585, R612). -/
def Dev.keyDone (d : Dev) (n code : Nat) : Dev :=
  let d := ((d.wri KEY_OP_STAT_STATE n 2).wri KEY_OP_STAT_DONE n 1).wri KEY_OP_STAT_CODE n code
  let d := (d.clrBit KEY_STAT_BUSY 0 n).keyCount code
  if (d.keyChan n).irq then
    if code = 0 then d.wr KEY_EVT_OPDONE 1 else d.wr KEY_EVT_OPERR 1
  else d

/-- An operation in flight on a slot ends: it is counted out, and an orphaned or invalidated slot is cleared with the
last one (R598, R599, R601). -/
def Dev.keyCountOut (d : Dev) (k : Nat) : Dev :=
  (d.wri KEY_SLOTSTAT_INUSE k (d.rdi KEY_SLOTSTAT_INUSE k - 1)).keyClearIdle k

/-- Bytes of memory that take values which no rule gives (R587, log entry 5). -/
def Dev.pokeFree (d : Dev) (a n : Nat) : Dev :=
  { d.poke a ((List.range n).map fun i => Config.freeValue 8 (d.free + i)) with free := d.free + n }

/-- A busy channel's operation ends with a code that is not success, or is aborted: a pending copy that it was
writing is discarded, and the contents of OUT of any other aborted operation are undefined (R587). -/
def Dev.keyFail (d : Dev) (n code : Nat) : Dev :=
  if d.rdi KEY_OP_STAT_STATE n = 1 then
    let op := (d.keyChan n).op
    let d := if keyFills op then d.keyDropPending (d.keyChan n).target
      else if code = 0x0E then d.pokeFree (d.keyChan n).out (d.keyChan n).outLen else d
    let d := d.keyDone n code
    if keyUsesSlot op then d.keyCountOut (d.keyChan n).slot else d
  else d

/-- Every operation of a context is aborted (R213, R587). -/
def Dev.keyAbortOf (d : Dev) (c : Nat) : Dev :=
  d.each (List.range 16) fun d n => if d.rdi KEY_OP_STAT_CTX n = c then d.keyFail n 0x0E else d

/-- A slot is destroyed by a transition or a deck commit (R582, R598). -/
def Dev.keyDestroy (d : Dev) (k : Nat) : Dev := d.keyInvalidate k

end Sys2Proof.Machine
end

