-- ==== Sys2Proof/Machine/SignalOps.lean ====
section
/-! DEFINITION. The signal store's own operations (R168 to R201): types, the accepted write, the flip of a group, the
staleness judgement, watches, and the marking of signals at a context reset. -/

namespace Sys2Proof.Machine

/-- The width in bits of a signal type (R169). -/
def typeWidth (t : Nat) : Nat :=
  if t = 0 ∨ t = 1 then 8 else if t = 2 ∨ t = 3 then 16 else if t = 4 ∨ t = 5 ∨ t = 8 then 32 else 64

/-- Whether a type is one of the integer types (R169). -/
def typeInt (t : Nat) : Bool := decide (t ≤ 7)

/-- Whether a type is signed (R169). -/
def typeSigned (t : Nat) : Bool := t == 1 || t == 3 || t == 5 || t == 7

/-- VALUE in the extended form of its type: bits above the width are the sign or zero (R169, R171). -/
def extendValue (t : Nat) (v : Value) : Value :=
  let w := typeWidth t
  let low := v.toNat % 2 ^ w
  if typeSigned t ∧ 2 ^ (w - 1) ≤ low then BitVec.ofNat 64 (low + (2 ^ 64 - 2 ^ w))
  else BitVec.ofNat 64 low

/-- VALUE as the integer it stands for in its type (R169). -/
def valueInt (t : Nat) (v : Value) : Int := if typeSigned t then v.toInt else (v.toNat : Int)

/-- STATUS bits (R170). -/
def stVALID : Nat := 1
def stSTALE : Nat := 2
def stSUBST : Nat := 4
def stHELD : Nat := 8
def stFORCED : Nat := 16

/-- The stamp of the pick in progress: REPCNT[15:0] above the pick (R168). -/
def Dev.stampNow (d : Dev) : Nat := (d.rd BEAT_REPCNT % 65536) * 65536 + d.rd BEAT_PICK % 65536

/-- The front copy of a slot. -/
def Dev.front (d : Dev) (n : Nat) : Slot := d.sig.front.get n {}

/-- The back copy of a grouped slot; before any write it equals the front (R181). -/
def Dev.back (d : Dev) (n : Nat) : Slot := d.sig.back.get n (d.front n)

def Dev.setFront (d : Dev) (n : Nat) (s : Slot) : Dev := { d with sig := { d.sig with front := d.sig.front.set n s } }

def Dev.setBack (d : Dev) (n : Nat) (s : Slot) : Dev := { d with sig := { d.sig with back := d.sig.back.set n s } }

/-- Whether a slot is FORCED (R192, R193). -/
def Slot.forced (s : Slot) : Bool := s.status.testBit 4

def Slot.stale (s : Slot) : Bool := s.status.testBit 1

/-- A watched signal has changed or gone stale: its watch records it (R195). -/
def Dev.watchChange (d : Dev) (r : SigRec) : Dev :=
  if 244 ≤ r.watch ∧ r.watch ≤ 307 then
    (d.wri TRD_WATCH_CHG (r.watch - 244) 1).wri TRD_WATCH_SIGNAL (r.watch - 244) r.signal
  else d

def Dev.watchStale (d : Dev) (r : SigRec) : Dev :=
  if 244 ≤ r.watch ∧ r.watch ≤ 307 then
    (d.wri TRD_WATCH_STALEF (r.watch - 244) 1).wri TRD_WATCH_SIGNAL (r.watch - 244) r.signal
  else d

/-- An accepted write's new slot: VALUE in extended form, VERSION + 1, STAMP, VALID, and the given marks (R136,
R176). -/
def Slot.written (s : Slot) (t : Nat) (v : Value) (stamp marks : Nat) : Slot :=
  { value := extendValue t v, version := (s.version + 1) % 65536, stamp := stamp,
    status := stVALID + marks }

/-- A write by the signal's writer, accepted: discarded while FORCED (R193), into the back copy when grouped (R181,
R182), else into the slot at once (R176). `marks` are the STALE and SUBST bits of R138. -/
def Dev.sigWrite (d : Dev) (r : SigRec) (v : Value) (marks : Nat) : Dev :=
  if (d.front r.signal).forced then d.inc TRD_SIGFDROP_COUNT
  else if r.group < 0x1000 then
    let b : Slot := { d.back r.signal with value := extendValue r.type v, status := stVALID + marks }
    let d := d.setBack r.signal b
    { d with sig := { d.sig with written := if d.sig.written.contains r.signal then d.sig.written else d.sig.written ++ [r.signal] } }
  else
    let old := d.front r.signal
    let s := old.written r.type v d.stampNow marks
    let d := d.setFront r.signal s
    if s.value = old.value then d else d.watchChange r

/-- One member of a group at its flip: a written member takes its new VALUE and STATUS, VERSION + 1 and the STAMP of
the pick in progress; another member keeps its slot (R183). The back copy is refilled from the new front. -/
def Dev.flipMember (d : Dev) (r : SigRec) : Dev :=
  if d.sig.written.contains r.signal then
    let old := d.front r.signal
    let b := d.back r.signal
    let s : Slot := { value := b.value, version := (old.version + 1) % 65536, stamp := d.stampNow, status := b.status }
    let d := (d.setFront r.signal s).setBack r.signal s
    let d := { d with sig := { d.sig with written := d.sig.written.filter (· ≠ r.signal),
                                          claimed := d.sig.claimed.filter (· ≠ r.signal) } }
    if s.value = old.value then d else d.watchChange r
  else d

/-- The members of a group in card order. -/
def Dev.groupMembers (d : Dev) (g : Nat) : List SigRec := d.rdeck.signals.filter fun r => r.group == g

/-- Whether a member of a group has been written since its previous flip. -/
def Dev.groupWritten (d : Dev) (g : Nat) : Bool :=
  (d.groupMembers g).any fun r => d.sig.written.contains r.signal

/-- An accepted write by software or by an inbound window (R176, R182): while a commit of its group is pending, the
write stalls its initiator until the flip. -/
def Dev.sigPut (d : Dev) (init : Nat) (r : SigRec) (v : Value) : Dev :=
  if r.group < 0x1000 ∧ d.flagi TRD_GVER_PEND r.group then
    { d with sig := { d.sig with stalled := d.sig.stalled ++ [(init, r.signal, v)] },
             access := if init < 10 then { stalled := true } else d.access }
  else
    let d := d.sigWrite r v 0
    if init < 10 then { d with access := {} } else d

/-- The writes that waited for the flip of a group are made, in order (R182). -/
def Dev.releaseStalled (d : Dev) (g : Nat) : Dev :=
  let mine := d.sig.stalled.filter fun w => match d.sigRec w.2.1 with | some r => r.group == g | none => false
  let d := { d with sig := { d.sig with stalled := d.sig.stalled.filter fun w => !mine.contains w } }
  d.each mine fun d w => match d.sigRec w.2.1 with
    | some r => { d.sigWrite r w.2.2 0 with access := if w.1 < 10 then {} else d.access }
    | none => d

/-- A group flips: its written members change over in one cycle, GVER rises and PEND clears; with no member written
there is no flip and PEND clears (R183). Writes that waited for the flip then take effect (R182). -/
def Dev.flipGroup (d : Dev) (g : Nat) : Dev :=
  let d := if d.groupWritten g then
      let d := d.each (d.groupMembers g) Dev.flipMember
      d.wri TRD_GVER g (d.rdi TRD_GVER g + 1)
    else d
  (d.wri TRD_GVER_PEND g 0).releaseStalled g

/-- The groups written by the Treadle, in card order of their first member (R181). -/
def Dev.treadleGroups (d : Dev) : List Nat :=
  ((d.rdeck.signals.filter fun r => r.writer == 0xFFFE && decide (r.group < 0x1000)).map fun r => r.group).dedup

/-- Groups with a commit pending. -/
def Dev.pendingGroups (d : Dev) : List Nat :=
  ((d.rdeck.signals.filter fun r => decide (r.group < 0x1000) && d.flagi TRD_GVER_PEND r.group).map fun r => r.group).dedup

/-- The age of a slot in picks (R187). -/
def Dev.ageOf (d : Dev) (s : Slot) : Nat :=
  ((d.rd BEAT_REPCNT % 65536 + 65536 - s.stamp / 65536) % 65536) * d.rd BEAT_REPLEN_REPEAT_LEN + d.rd BEAT_PICK
    - s.stamp % 65536

/-- Whether the class C0 writes a signal: its writer context is C0, or an entry of CLS 0 writes it (R188). -/
def Dev.c0Writer (d : Dev) (r : SigRec) : Bool :=
  if r.writer = 0xFFFE then
    d.rdeck.entries.any fun e => e.dst == r.signal && e.cls == 0 && decide (e.op < 0x10) && e.op != 0
  else d.ctxClass r.writer == 0 && (d.ctxRec r.writer).isSome

/-- The store judges a signal: when its age exceeds AGE_LIMIT it becomes STALE, once, and is counted (R188, R192). -/
def Dev.judge (d : Dev) (n : Nat) : Dev :=
  match d.sigRec n with
  | none => d
  | some r =>
    let s := d.front n
    if r.ageLimit = 0 ∨ s.stale ∨ s.forced ∨ d.ageOf s ≤ r.ageLimit then d
    else
      let d := (d.setFront n { s with status := s.status + stSTALE }).inc TRD_SIGSTALE_COUNT
      let d := d.watchStale r
      if d.c0Writer r then d.trig 0x0321 [n] else d

/-- The value a signal starts from: SUBST, VERSION 0, VALID as SFLAGS bit 1 sets it, and a STAMP (R190). -/
def initSlot (r : SigRec) (stamp : Nat) : Slot :=
  { value := extendValue r.type r.subst, version := 0, stamp := stamp, status := r.sflags / 2 % 2 }

/-- A signal takes HELD and keeps its VALUE (R190). -/
def Dev.holdSignal (d : Dev) (n : Nat) : Dev :=
  let s := d.front n
  if s.status.testBit 3 then d else d.setFront n { s with status := s.status + stHELD }

/-- A context reset's effect on the signals it writes: HELD (R190), and back-copy writes that no commit has claimed
discarded and refilled from the front (R186). -/
def Dev.resetSignal (d : Dev) (r : SigRec) : Dev :=
  let d := d.holdSignal r.signal
  if r.group < 0x1000 ∧ !d.sig.claimed.contains r.signal then
    let d := d.setBack r.signal (d.front r.signal)
    { d with sig := { d.sig with written := d.sig.written.filter (· ≠ r.signal) } }
  else d

def Dev.resetSignals (d : Dev) (c : Nat) : Dev :=
  d.each (d.rdeck.signals.filter fun r => r.writer == c) Dev.resetSignal

end Sys2Proof.Machine
end

