-- ==== Sys2Proof/Machine/CtxOps.lean ====
section
/-! DEFINITION. Function contexts: the tag of an access, bobbins and the queue pool, the context reset and the refused
access, which every block's owner check uses (R203 to R233). -/

namespace Sys2Proof.Machine

/-- The context number that an access by an initiator carries (R206, R179, R620): the hart's CTX while VALID, 0xFFFD
otherwise, 0xFFFF for the debug port and for a hart in debug mode. -/
def Dev.tag (d : Dev) (init : Nat) : Nat :=
  if init < 10 ∧ !d.bit DBG_STAT_HALTED 0 init then (if d.flagi CTX_HART_VALID init then d.rdi CTX_HART_CTX init else 0xFFFD) else 0xFFFF

/-- The state of a context (R236): 0 NONE, 1 ACTIVE, 2 RESETTING, 3 RESTART, 4 STOPPED. -/
def Dev.ctxState (d : Dev) (c : Nat) : Nat := if c < 2048 then d.rdi CTXN_STAT_STATE c else 0

/-- The context is declared and runs: ACTIVE or RESTART. -/
def Dev.ctxRuns (d : Dev) (c : Nat) : Bool := d.ctxState c == 1 || d.ctxState c == 3

/-- The physical harts of a kind in service, by ascending index: those of the deck's mask, and all but the failed ones
once a spare has taken a place (R551, R556, R567). -/
def activeSet (mask fail : Nat) : List Nat :=
  (List.range 5).filter fun i => !fail.testBit i && (fail != 0 || mask.testBit i)

/-- The partition that a physical real-time pair runs: the logical pair whose place in RTMAP is the pair's (R556,
R567). -/
def Dev.pairPart (d : Dev) (j : Nat) : Option Nat :=
  let act := activeSet d.rdeck.sys.rtMask (d.rd SYSCTL_CPUMAP_FAILRT)
  (List.range 4).find? fun p => act[d.rd SYSCTL_CPUMAP_RTMAP / 4 ^ p % 4]? == some j

/-- The binding of a hart: BIND of CTX_HARTh, fixed on a real-time pair to 0x40 and its partition (R207). -/
def Dev.hartBind (d : Dev) (h : Nat) : Option Nat :=
  if h < 5 then some (d.rdi CTX_HART_BIND h)
  else if h < 10 then (d.pairPart (h - 5)).map fun p => 0x40 + p
  else none

/-- Writes tagged with the context are refused: it is RESETTING or STOPPED (R215), or the deck declares no such context
(R203). -/
def Dev.ctxBarred (d : Dev) (c : Nat) : Bool := decide (c < 2048) && !d.ctxRuns c

/-! ### Bobbins (R208 to R211, R231) -/

/-- The context that owns a hardware queue, with the bobbin's index. -/
def Dev.queueOwner (d : Dev) (q : Nat) : Option (CtxRec × Nat) :=
  (d.rdeck.contexts.find? fun r =>
    decide (d.rdi CTXN_QBASE r.ctx ≤ q) && decide (q < d.rdi CTXN_QBASE r.ctx + r.bobbins)).map
    fun r => (r, q - d.rdi CTXN_QBASE r.ctx)

/-- Units that a record of `len` payload bytes takes: whole units of 64 bytes over 8 header bytes (R208). -/
def unitsFor (len : Nat) : Nat := (8 + len + 63) / 64

def Dev.bob (d : Dev) (q : Nat) : Bobbin := d.ctx.bobbin.get q {}

def Dev.setBob (d : Dev) (q : Nat) (b : Bobbin) : Dev :=
  { d with ctx := { d.ctx with bobbin := d.ctx.bobbin.set q b } }

/-- Units of the headroom: pool less reserved less borrowed units (R209). -/
def Dev.headroom (d : Dev) : Nat :=
  d.rd CTX_POOLSIZE_UNITS - d.rd CTX_POOLRES_UNITS - d.rd CTX_POOLBOR_UNITS

/-- `n` records more that a bobbin has discarded since its latest accepted one: its LOST count, saturating (R208). -/
def Bobbin.loses (b : Bobbin) (n : Nat) : Nat := min (b.lost + n) 255

/-- A record is discarded at a bobbin: its LOST count rises (R208, R209, R215). -/
def Dev.bobLose (d : Dev) (q : Nat) : Dev :=
  let b := d.bob q
  d.setBob q { b with lost := b.loses 1 }

/-- Units of a record that must be borrowed, given the bobbin's free reserved units. -/
def Dev.borrowFor (d : Dev) (q n : Nat) : Nat :=
  let b := d.bob q
  n - (d.rdi CTX_QD_DEPTH q - (d.rdi CTX_Q_USED q - b.borrowed))

/-- Whether a record of `n` units fits: free reserved units first, then units borrowed within the bobbin's own DEPTH
and the headroom (R209). -/
def Dev.bobFits (d : Dev) (q n : Nat) : Bool :=
  let x := d.borrowFor q n
  x == 0 || (decide ((d.bob q).borrowed + x ≤ d.rdi CTX_QD_DEPTH q) && decide (x ≤ d.headroom))

/-- A record arrives at a bobbin (R209, R215): stored, or discarded with OVF and a LOST count. -/
def Dev.bobPut (d : Dev) (q kind : Nat) (payload : List Byte) : Dev :=
  let barred := match d.queueOwner q with
    | some p => d.ctxBarred p.1.ctx
    | none => true
  if barred then d.bobLose q
  else
    let n := unitsFor payload.length
    if d.bobFits q n then
      let x := d.borrowFor q n
      let b := d.bob q
      let d := d.setBob q { recs := b.recs ++ [⟨kind, payload, b.lost, d.stampNow⟩], borrowed := b.borrowed + x, lost := 0 }
      let d := d.wri CTX_Q_USED q (d.rdi CTX_Q_USED q + n)
      let d := d.wri CTX_Q_RECS q (b.recs.length + 1)
      d.wr CTX_POOLBOR_UNITS (d.rd CTX_POOLBOR_UNITS + x)
    else (d.bobLose q).wri CTX_Q_OVF q 1

/-- Whether an arriving record is taken. -/
def Dev.bobTakes (d : Dev) (q : Nat) (payload : List Byte) : Bool :=
  (match d.queueOwner q with
    | some p => !d.ctxBarred p.1.ctx
    | none => false) && d.bobFits q (unitsFor payload.length)

/-- The units of a record return to the pool, borrowed ones first (R210). -/
def Dev.bobReturn (d : Dev) (q : Nat) (rest : List BobbinRec) (n : Nat) : Dev :=
  let b := d.bob q
  let x := min n b.borrowed
  let d := d.setBob q { b with recs := rest, borrowed := b.borrowed - x }
  let d := d.wri CTX_Q_USED q (d.rdi CTX_Q_USED q - n)
  let d := d.wri CTX_Q_RECS q rest.length
  d.wr CTX_POOLBOR_UNITS (d.rd CTX_POOLBOR_UNITS - x)

/-- The head record is released; an empty bobbin is left as it is (R210). -/
def Dev.bobPop (d : Dev) (q : Nat) : Dev :=
  match (d.bob q).recs with
  | [] => d
  | r :: rest => d.bobReturn q rest (unitsFor r.payload.length)

/-- The newest record is discarded, and counts as lost (R208, R231). -/
def Dev.bobDropNewest (d : Dev) (q : Nat) : Dev :=
  match (d.bob q).recs.reverse with
  | [] => d
  | r :: rest => (d.bobReturn q rest.reverse (unitsFor r.payload.length)).bobLose q

/-- A context reset empties a bobbin: records discarded, which count as lost, borrowed units returned, OVF and SHRUNK cleared
(R208, R213). -/
def Dev.bobEmpty (d : Dev) (q : Nat) : Dev :=
  let b := d.bob q
  let d := d.wr CTX_POOLBOR_UNITS (d.rd CTX_POOLBOR_UNITS - b.borrowed)
  let d := (d.setBob q { b with recs := [], borrowed := 0, lost := b.loses b.recs.length }).wri CTX_Q_USED q 0
  ((d.wri CTX_Q_RECS q 0).wri CTX_Q_OVF q 0).wri CTX_Q_SHRUNK q 0

/-- All hardware queues of the deck in ascending key order for breaking (R229): lower class first, within a class the
later declared first, and within a context the higher bobbin first; each with its class and owner. -/
def Dev.queuesByKey (d : Dev) : List (Nat × Nat × Nat) :=
  let all := d.rdeck.contexts.flatMap fun r =>
    (List.range r.bobbins).map fun k => (d.rdi CTXN_QBASE r.ctx + k, r.cls, r.ctx)
  let rev := all.reverse
  [3, 2, 1, 0].flatMap fun c => rev.filter fun p => p.2.1 == c

/-- Reclaim of borrowed units as far as the pool needs: the bobbin's newest records beyond its DEPTH go (R231). -/
def Dev.reclaim (d : Dev) (q : Nat) : Dev :=
  (List.range (d.bob q).recs.length).foldl (fun d _ =>
    if d.rd CTX_POOLRES_UNITS + d.rd CTX_POOLBOR_UNITS > d.rd CTX_POOLSIZE_UNITS ∧ 0 < (d.bob q).borrowed
    then d.bobDropNewest q else d) d

/-- A bobbin's depth is reduced as far as the pool still needs (R229, R231): the newest records beyond the new depth
are discarded, SHRUNK is set and the broken promise is signalled (R230). -/
def Dev.shrinkDepth (d : Dev) (q cls owner : Nat) : Dev :=
  let depth := d.rdi CTX_QD_DEPTH q
  let cut := min depth (d.rd CTX_POOLRES_UNITS - d.rd CTX_POOLSIZE_UNITS)
  if cut = 0 then d
  else
    let d := d.wri CTX_QD_DEPTH q (depth - cut)
    let d := d.wr CTX_POOLRES_UNITS (d.rd CTX_POOLRES_UNITS - cut)
    let d := (List.range (d.bob q).recs.length).foldl (fun d _ =>
      if depth - cut < d.rdi CTX_Q_USED q - (d.bob q).borrowed then d.bobDropNewest q else d) d
    let d := d.wri CTX_Q_SHRUNK q 1
    d.breach 3 owner cls 0x13 (q + (depth - cut) * 65536) 0x0333 [owner]

/-- The pool is tested against the units in service: borrowed units first, then depths in ascending key order
(R231). -/
def Dev.poolFit (d : Dev) : Dev :=
  let ks := d.queuesByKey
  let d := d.each ks fun d p => d.reclaim p.1
  d.each ks fun d p => d.shrinkDepth p.1 p.2.1 p.2.2

/-! ### Context reset (R212 to R219) -/

/-- The load channels that a context owns (R204). -/
def Dev.ownedChannels (d : Dev) (c : Nat) : List Nat :=
  (List.range 64).filter fun m => d.rdi CH_OWNER m == c && c != 0xFFFF

/-- The effects of a context reset, and nothing else (R213). -/
def Dev.resetEffects (d : Dev) (r : CtxRec) : Dev :=
  let d := (d.keyAbortOf r.ctx).bridgeEndReads r.ctx
  let d := d.each (List.range r.bobbins) fun d k => d.bobEmpty (d.rdi CTXN_QBASE r.ctx + k)
  let d := d.resetSignals r.ctx
  if r.resetCh = 0 then
    { d with trd := { d.trd with failNext := d.trd.failNext ++ d.ownedChannels r.ctx } }
  else d

/-- Causes that the reset counter counts (R212): SELF, ACC and PART. -/
def causeCounted (cause : Nat) : Bool := cause == 1 || cause == 3 || cause == 4

/-- A reset cause reaches a context (R212, R216, R219). Causes: 1 SELF, 2 HOST, 3 ACC, 4 PART, 5 SWAP, 6 STOP. -/
def Dev.ctxReset (d : Dev) (c cause : Nat) : Dev :=
  match d.ctxRec c with
  | none => d
  | some r =>
    if d.ctxState c = 1 ∨ d.ctxState c = 3 then
      let third := causeCounted cause && d.fwFires (.resets c) 3
      let d := if causeCounted cause then d.fwEvent (.resets c) 3 else d
      let d := if cause = 3 then d.fwClear (.access c) else d
      let d := (d.wri CTXN_STAT_CAUSE c cause).wri CTXN_STAT_STATE c 2
      let d := { d with ctx := { d.ctx with
        stopPending := if cause = 6 then d.ctx.stopPending ++ [c] else d.ctx.stopPending,
        atThree := if third then d.ctx.atThree ++ [c] else d.ctx.atThree,
        runPending := d.ctx.runPending.filter (· ≠ c) } }
      d.resetEffects r
    else if d.ctxState c = 2 ∧ cause = 6 then
      { d with ctx := { d.ctx with stopPending := if d.ctx.stopPending.contains c then d.ctx.stopPending else d.ctx.stopPending ++ [c] } }
    else d

/-- Every context bound to a set of bindings is reset with cause PART (R212, R555, R560, R733). -/
def Dev.resetBound (d : Dev) (p : Nat → Bool) : Dev :=
  d.each (d.rdeck.contexts.filter fun r => p r.bind) fun d r => d.ctxReset r.ctx 4

/-! ### Refused accesses (R179, R203, R206, R207, R212) -/

/-- A refused access counts against its context: in CTXn_FAULT always, and in the access counter, whose sixteenth
event within its window resets the context with cause ACC (R212). -/
def Dev.countRefused (d : Dev) (c : Nat) : Dev :=
  match d.ctxRec c with
  | none => if c < 2048 then d.inc CTX_ACCERR_ACC_ERR else d
  | some _ =>
    let d := d.inci CTXN_FAULT_ACC c
    if d.ctxBarred c then d
    else if d.fwFires (.access c) 16 then (d.fwEvent (.access c) 16).ctxReset c 3
    else d.fwEvent (.access c) 16

/-- An access is refused: counted once in the block's access-error counter, and against the context (R203, R212). -/
def Dev.refuse (d : Dev) (c : Nat) (f : Field) (i : Nat) : Dev :=
  if f.base = CTX_ACCERR_ACC_ERR.base ∧ (d.ctxRec c).isNone ∧ c < 2048 then d.countRefused c
  else (d.inci f i).countRefused c

/-- The access carries the number of a context that the deck does not declare (R203). -/
def Dev.undeclared (d : Dev) (c : Nat) : Bool := decide (c < 2048) && (d.ctxRec c).isNone

/-- The access ends in an access fault at the initiator. -/
def Dev.faulted (d : Dev) : Dev := { d with access := { value := 0, fault := true } }

/-- The access completes and returns a value. -/
def Dev.answered (d : Dev) (v : Nat) : Dev := { d with access := { value := v } }

/-- An access that a context's state refuses before any block judges it: counted against its number (R203, R212, R215). -/
def Dev.ctxTurnedAway (d : Dev) (c : Nat) : Dev := (d.countRefused c).answered 0

/-- BIND of the real-time pairs: 0x40 and the partition that each runs (R207). -/
def Dev.showBinds (d : Dev) : Dev :=
  d.each (List.range 5) fun d j => d.wri CTX_HART_BIND (5 + j) ((d.hartBind (5 + j)).getD 0)

/-- The initiator can make accesses: a hart, or the debug port at FULL alone (R619). -/
def Dev.portOpen (d : Dev) (init : Nat) : Bool := decide (init < 10) || d.rd DBG_STAT_LEVEL == 2

/-- The meaning of a command that an initiator makes: the debug port makes none below FULL (R619). -/
def onDevBy (init : Nat) (f : Dev → Dev) (s : State) : Host.Outcome State Fault Refusal :=
  onDev (fun d => if d.portOpen init then f d else d) s

/-- The meaning of an initiator's access to a register of the block that holds address `a`: while the block's power domain is off
the access ends in an access fault (R35); it completes otherwise, unless `f` says that it faults. -/
def onBlockBy (init a : Nat) (f : Dev → Dev) (s : State) : Host.Outcome State Fault Refusal :=
  onDevBy init (fun d => if d.domainOn (domainOf a) then f (d.answered 0) else d.faulted) s

end Sys2Proof.Machine
end

