-- ==== Sys2Proof/Machine/ShuttleOps.lean ====
section
/-! DEFINITION. Shuttle sessions as other blocks use them: messages to a session, notices to subscribing hosts, and the
end of a session (R526, R534, R537, R542). -/

namespace Sys2Proof.Machine

def Dev.session (d : Dev) (s : Nat) : Session := d.sht.sess.get s {}

def Dev.setSession (d : Dev) (s : Nat) (x : Session) : Dev := { d with sht := { d.sht with sess := d.sht.sess.set s x } }

/-- The open session with a number (R545, R548). -/
def Dev.sessionOf (d : Dev) (number : Nat) : Option Nat :=
  (List.range 4).find? fun s => d.rdi SHT_SESS_STATE s == 2 && d.rdi SHT_SID_SESSION s == number

/-- Session registers show open sessions. -/
def Dev.countOpen (d : Dev) : Dev :=
  d.wr SHT_STAT_OPEN ((List.range 4).filter fun s => d.rdi SHT_SESS_STATE s == 2).length

/-- A session ends with a reason: 1 BYE, 2 idle, 3 replaced, 4 SEQ exhausted, 5 core-die reset (R534). -/
def Dev.sessionEnd (d : Dev) (s reason : Nat) : Dev :=
  if d.rdi SHT_SESS_STATE s = 2 then
    let h := d.rdi SHT_SESS_HOST s
    let d := ((d.wri SHT_SESS_STATE s 0).wri SHT_SESS_SUB s 0).wri SHT_SESS_HOST s 0
    let d := ((d.wri SHT_SESS_ROLES s 0).wri SHT_SID_SESSION s 0).countOpen
    let d := { d with sht := { d.sht with sess := d.sht.sess.erase s } }
    (d.wr SHT_EVT_CLOSE 1).trig 0x0491 [h, reason]
  else d

/-! ### Headers, initialisation vectors and payload fields (R9, R524 to R526) -/

/-- Fields of a message, each with its width in bytes, most significant byte first (R9, R524). -/
def beBytes (l : List (Nat × Nat)) : List Byte := l.flatMap fun f => beOf f.1 f.2

/-- The 20 bytes of a header with a payload of `len` bytes: what GCM authenticates beside the payload (R524, R525). -/
def ShtHead.bytes (h : ShtHead) (len : Nat) : List Byte :=
  beBytes [(1, 1), (1, h.kind), (2, h.cmd), (4, h.session), (4, h.seq), (4, h.rseq), (2, len), (2, h.status)]

/-- The initialisation vector of a message: the salt of its direction, four zero bytes and its SEQ (R525). -/
def shtIv (salt : List Byte) (seq : Nat) : List Byte := salt ++ beBytes [(4, 0), (4, seq)]

/-- A message of the module in a session, with a SEQ that it keeps when it is sent again (R525, R526). -/
def Dev.sendSeq (d : Dev) (s kind cmd seq answers status : Nat) (payload : List Byte) : Dev :=
  d.send (.shuttle ⟨kind, cmd, d.rdi SHT_SID_SESSION s, seq, answers, status⟩ (shtIv (d.session s).keys.saltMh seq) payload)

/-- A message of the module to a session takes the next SEQ; a SEQ that would pass 0xFFFFFFFF ends the session
(R526). `answers` is the SEQ answered, 0 in a notice. -/
def Dev.sendTo (d : Dev) (s kind cmd answers status : Nat) (payload : List Byte) : Dev :=
  let x := d.session s
  if x.nextSeq > 0xFFFFFFFF then d.sessionEnd s 4
  else (d.setSession s { x with nextSeq := x.nextSeq + 1 }).sendSeq s kind cmd x.nextSeq answers status payload

/-- An acknowledgement with STATUS 0x0001 (R539). -/
def Dev.ackTo (d : Dev) (s cmd seq : Nat) : Dev := d.sendTo s 4 cmd seq 1 []

/-- A reply to a request, kept for a repeat of it (R537). -/
def Dev.replyTo (d : Dev) (s cmd seq status : Nat) (payload : List Byte) : Dev :=
  let x := d.session s
  (d.setSession s { x with replies := (⟨seq, x.nextSeq, cmd, status, payload⟩ :: x.replies).take 16 }).sendTo
    s 2 cmd seq status payload

/-- A notice that cannot be kept or delivered is dropped (R542). -/
def Dev.noteLost (d : Dev) (host : Nat) : Dev :=
  ((d.inc SHT_CNT2_NOTELOST).wr SHT_EVT_NOTELOST 1).trig 0x0494 [host]

/-- A notice goes to every subscribing session and waits there for its acknowledgement (R542). -/
def Dev.hostNotice (d : Dev) (code : Nat) (fields : List (Nat × Nat)) : Dev :=
  let payload := beBytes fields
  d.each (List.range 4) fun d s =>
    if d.rdi SHT_SESS_STATE s = 2 ∧ d.rdi SHT_SESS_SUB s = 1 then
      let x := d.session s
      if x.unacked.length < 64 then
        (d.setSession s { x with unacked := x.unacked ++ [{ seq := x.nextSeq, code := code, payload := payload }] }).sendTo
          s 3 code 0 0 payload
      else d.noteLost (d.rdi SHT_SESS_HOST s)
    else d

end Sys2Proof.Machine
end

