-- ==== Sys2Proof/Machine/Presence.lean ====
section
/-! DEFINITION. Presence of the declared partners: evidence, reports and the two timeouts (R78 to R82). -/

namespace Sys2Proof.Machine

/-- The record of a declared partner (R60). -/
def Dev.partner (d : Dev) (p : Nat) : Option InvRec := d.rdeck.inventory.find? fun r => r.partner == p

/-- The presence state of a partner; UNKNOWN before any report (R80). -/
def Dev.presenceOf (d : Dev) (p : Nat) : Presence := d.deck.presence.get p .unknown

/-- STATE of a presence report (R543). -/
def Presence.code : Presence → Nat
  | .unknown => 0
  | .present => 1
  | .absent => 2

/-- A partner takes a state and the change is reported: source 377, notice 0x20 to the owner's binding and notice
0x0380 to the host (R80, R81, R222, R543). -/
def Dev.presenceSet (d : Dev) (r : InvRec) (st : Presence) : Dev :=
  let d := { d with deck := { d.deck with presence := d.deck.presence.set r.partner st } }
  let d := d.wr SYSCTL_EVT_PRESENCE 1
  let d := d.notice r.owner 0x20 0xFF (r.partner + (if st = .present then 65536 else 0))
  d.hostNotice 0x0380 [(2, r.partner), (1, r.kind), (1, st.code), (1, r.unit), (1, r.cls), (2, 0), (8, d.optime)]

/-- Evidence of a partner (R79, R80). -/
def Dev.evidence (d : Dev) (r : InvRec) : Dev :=
  match d.presenceOf r.partner with
  | .unknown => d.presenceSet r .present
  | .present => d
  | .absent => (d.presenceSet r .present).trig 0x0203 [r.partner]

/-- Evidence of every partner that a test picks out. -/
def Dev.evidenceOf (d : Dev) (p : InvRec → Bool) : Dev := d.each (d.rdeck.inventory.filter p) Dev.evidence

/-- A no-partner report makes every CAN node on a controller ABSENT (R80, R368). -/
def Dev.noPartner (d : Dev) (c : Nat) : Dev :=
  d.each (d.rdeck.inventory.filter fun r => r.kind == 1 && r.unit == c) fun d r => d.presenceSet r .absent

/-- PRESENCE_EVIDENCE (R80): evidence of a declared partner. -/
def execPresenceEvidence (partner : Nat) (s : State) : Host.Outcome State Fault Refusal :=
  onDev (fun d => match d.partner partner with
    | some r => d.evidence r
    | none => d) s

/-- Evidence that stands as long as nothing changes: an external PHY whose link is up (R79, log entry 59). -/
def Dev.standing (d : Dev) (r : InvRec) : Bool := r.kind == 5 && d.rdi SWXP_STAT_LINK r.unit == 1

/-- DISCOVER_EXPIRY (R80, R82): DISCOVER_MS passes without evidence. `tie`: evidence falls in the same clock cycle, and wins. -/
def execDiscoverExpiry (partner : Nat) (tie : Bool) (s : State) : Host.Outcome State Fault Refusal :=
  onDev (fun d => match d.partner partner with
    | some r => if d.standing r then d.evidence r else if !tie ∧ d.presenceOf partner = .unknown then d.presenceSet r .absent else d
    | none => d) s

/-- LOSS_EXPIRY (R80, R82): LOSS_MS passes since the last evidence; code 0x0203. `tie`: evidence falls in the same clock cycle,
and wins: the partner stays PRESENT and no report is made. -/
def execLossExpiry (partner : Nat) (tie : Bool) (s : State) : Host.Outcome State Fault Refusal :=
  onDev (fun d => match d.partner partner with
    | some r => if !tie ∧ !d.standing r ∧ d.presenceOf partner = .present then (d.presenceSet r .absent).trig 0x0203 [partner] else d
    | none => d) s

end Sys2Proof.Machine
end

