-- ==== Sys2Proof/Machine/CanOps.lean ====
section
/-! DEFINITION. The CAN controllers' own operations: transmit buffers and their table, error states, identifiers and
filters (R339 to R375). -/

namespace Sys2Proof.Machine

def Dev.canCtl (d : Dev) (c : Nat) : CanCtl := d.can.ctl.get c {}

def Dev.setCanCtl (d : Dev) (c : Nat) (x : CanCtl) : Dev := { d with can := { d.can with ctl := d.can.ctl.set c x } }

def Dev.canBuf (d : Dev) (c b : Nat) : CanBuf := (d.canCtl c).bufs.get b {}

/-- Set a buffer; TXPEND shows the buffers PENDING or ON_BUS (R381). -/
def Dev.setCanBuf (d : Dev) (c b : Nat) (x : CanBuf) : Dev :=
  let k := d.canCtl c
  let d := d.setCanCtl c { k with bufs := k.bufs.set b x }
  if x.st = .idle then d.clrBit CAN_TXPEND_BUFS c b else d.setBit CAN_TXPEND_BUFS c b

/-- The transmit object of a buffer (R129). -/
def canObj (c b : Nat) : Nat := c * 32 + b

/-- A transmit object (R138, R139). -/
def Dev.txObj (d : Dev) (o : Nat) : TxObj := d.trd.txObj.get o {}

def Dev.setTxObj (d : Dev) (o : Nat) (x : TxObj) : Dev := { d with trd := { d.trd with txObj := d.trd.txObj.set o x } }

/-- Whether a table entry of the running deck names an object as its destination (R358). -/
def Deck.feeds (k : Deck) (o : Nat) : Bool := k.entries.any fun e => (e.op == 0x10 || e.op == 0x14) && e.dst == o

/-- Whether a bridge window names a buffer (R458, R459). -/
def Dev.bridgeFed (d : Dev) (c b : Nat) : Bool :=
  (List.range 64).any (fun w => d.rdi BRG_WSTATE_STATE w != 0 && d.rdi BRG_WCFG_BUS w == 0 &&
    d.rdi BRG_WCFG_UNIT w == c && d.rdi BRG_WCFG_TXBUF w == b) ||
  d.rdeck.bridgeRecs.any fun r => r.kind == 2 && d.rdi BRG_INCFG_BUS r.index == 0 &&
    d.rdi BRG_INCFG_UNIT r.index == c && d.rdi BRG_INCFG_IACKBUF r.index == b

/-- The OWNER of a buffer's card record (R58, R358). -/
def Dev.canBufOwner (d : Dev) (c b : Nat) : Option Nat :=
  ((d.rdeck.canRecs c).find? fun r => r.kind == 2 && r.index == b).map fun r => r.owner

/-- A software-fed buffer of a context (R358); buffer 31 of a sleep member is NMW-fed (R500). -/
def Dev.canSoftware (d : Dev) (ctx c b : Nat) : Bool :=
  d.canBufOwner c b == some ctx && !d.rdeck.feeds (canObj c b) && !d.bridgeFed c b &&
    !(b == 31 && d.rdeck.sleepRecs.any fun r => r.index / 4096 == 1 && r.index % 256 == c)

/-- Format of a buffer: 0 classical, 1 FD, 2 XL (R382). -/
def canForm (form : Nat) : Nat := if form ≤ 1 then 0 else if form = 6 then 2 else 1

/-- The sleep clusters of which a bus unit is a member (R495): kind 1 CAN, 2 time-triggered, 3 Ethernet port. -/
def Dev.sleepClusters (d : Dev) (kind unit : Nat) : List Nat :=
  (d.rdeck.sleepRecs.filter fun r => r.index / 4096 == kind && r.index % 256 == unit).map fun r => r.index / 256 % 16

/-- The unit's cluster is past its sleep commit point (R508). -/
def Dev.unitAsleep (d : Dev) (kind unit : Nat) : Bool :=
  (d.sleepClusters kind unit).any fun k => d.rdi NMW_CLSTAT_STATE k == 4 || d.rdi NMW_CLSTAT_STATE k == 5

/-- The controller refuses the Treadle's entries: restarting, bus-off, listen-only, or past its cluster's sleep commit
point (R141, R367, R371, R508). -/
def Dev.canRefuses (d : Dev) (c : Nat) : Bool :=
  !(d.rdi CAN_STAT_STATE c == 2 || d.rdi CAN_STAT_STATE c == 3) || d.flagi CAN_MODE_LOM c || d.unitAsleep 1 c

/-- The next length an FD frame can have (R359). -/
def fdLength (n : Nat) : Nat :=
  if n ≤ 8 then n else if n ≤ 12 then 12 else if n ≤ 16 then 16 else if n ≤ 20 then 20
  else if n ≤ 24 then 24 else if n ≤ 32 then 32 else if n ≤ 48 then 48 else 64

/-- The frame a buffer would send: its payload at the frame's length, of which a classical frame carries at most 8 bytes and
a software-fed buffer at most 64 (R359, R372). -/
def Dev.canFrame (d : Dev) (c b : Nat) : List Byte :=
  let i := c * 32 + b
  let form := canForm (d.rdi CAN_TXCFG_FORM i)
  let len := d.rdi CAN_TXLEN_LEN i
  let n := if form = 0 then min len 8 else if d.rdeck.feeds (canObj c b) then len else min len 64
  let body := padTo n (d.txObj (canObj c b)).payload
  let body := if form = 1 then padTo (fdLength n) body else body
  if d.flagi CAN_MODE_TM c ∧ d.rdi CAN_MODE_REFBUF c = b then
    match body with
    | [] => []
    | _ :: rest => BitVec.ofNat 8 (d.rdi CAN_STAT_CYCLE c) :: rest
  else body

/-- A started buffer (R361): a buffer that has never held a payload is not started. -/
def Dev.canStart (d : Dev) (c b : Nat) : Dev :=
  let x := d.canBuf c b
  match x.st with
  | .idle => if (d.txObj (canObj c b)).held then d.setCanBuf c b { x with st := .pending } else d
  | .pending => d.inci CAN_TXCNT_MERGED c
  | .onBus => (d.setCanBuf c b { x with resend := true }).inci CAN_TXCNT_MERGED c

/-- A buffer's frame is abandoned or cancelled: TXABT (R361). -/
def Dev.canAbandon (d : Dev) (c b : Nat) : Dev :=
  ((d.setCanBuf c b {}).setBit CAN_TXABT_BUFS c b).wri CAN_EVT_TXABT c 1

/-- A cancel (R361, R362). -/
def Dev.canCancel (d : Dev) (c b : Nat) : Dev :=
  match (d.canBuf c b).st with
  | .idle => d
  | .pending => d.canAbandon c b
  | .onBus => (d.setBit CAN_TXLATE_BUFS c b).wri CAN_EVT_TXLATE c 1

/-- Every pending or sending buffer is abandoned (R361, R367). -/
def Dev.canAbandonAll (d : Dev) (c : Nat) : Dev :=
  d.each ((d.canCtl c).bufs.items.filter fun e => e.2.st != .idle) fun d e => d.canAbandon c e.1

/-- The error state that the counters give (R366): passive from 128 on. -/
def Dev.canErrState (d : Dev) (c : Nat) : Dev :=
  let bad := decide (128 ≤ d.rdi CAN_ERRCNT_TEC c) || decide (128 ≤ d.rdi CAN_ERRCNT_REC c)
  if d.rdi CAN_STAT_STATE c = 2 ∧ bad then
    ((d.wri CAN_STAT_STATE c 3).wri CAN_EVT_EPASS c 1).trig 0x0440 [c]
  else if d.rdi CAN_STAT_STATE c = 3 ∧ !bad then
    (d.wri CAN_STAT_STATE c 2).wri CAN_EVT_EACT c 1
  else d

/-- Errors seen as a receiver: one of ISO 11898-1's counts of 1 and `more` of its counts of 8 (R366); a listen-only controller keeps
its counters at 0 (R371). -/
def Dev.canRxError (d : Dev) (c more : Nat) : Dev :=
  if d.flagi CAN_MODE_LOM c then d
  else (d.wri CAN_ERRCNT_REC c (min (d.rdi CAN_ERRCNT_REC c + 1 + 8 * more) 255)).canErrState c

/-- Bus-off (R367). -/
def Dev.canBusOff (d : Dev) (c : Nat) : Dev :=
  let d := ((d.wri CAN_STAT_STATE c 4).wri CAN_EVT_BOFF c 1).inci CAN_FLTCNT_BUSOFF c
  (d.trig 0x0441 [c]).canAbandonAll c

/-- The transmit error counter rises by 8 (ISO 11898-1, R366); above 255 the controller goes bus-off. -/
def Dev.canTecUp (d : Dev) (c : Nat) : Dev :=
  let t := d.rdi CAN_ERRCNT_TEC c + 8
  let d := d.wri CAN_ERRCNT_TEC c (min t 511)
  if t > 255 then d.canBusOff c else d.canErrState c

/-- Arbitration rank of an identifier: the base identifier, then base before extended, then the extension
(R360, ISO 11898-1). -/
def canRank (ide : Bool) (ident : Nat) : Nat :=
  if ide then (ident / 2 ^ 18) * 2 ^ 19 + 2 ^ 18 + ident % 2 ^ 18 else ident % 2048 * 2 ^ 19

/-- Rank of a buffer: its identifier (an XL buffer's priority identifier), then its index (R360, R382). -/
def Dev.canBufRank (d : Dev) (c b : Nat) : Nat :=
  let form := d.rdi CAN_TXCFG_FORM (c * 32 + b)
  let ide := form == 1 || form == 3 || form == 5
  canRank ide (d.rdi CAN_TXCFG_ID (c * 32 + b)) * 32 + b

/-- The frame that a buffer puts on the bus, with its identifier and, for XL, SDT, VCID and SEC from TXCFG (R348, R382). -/
def Dev.canOut (d : Dev) (c b : Nat) (payload : List Byte) : Out :=
  let i := c * 32 + b
  let form := d.rdi CAN_TXCFG_FORM i
  let id := d.rdi CAN_TXCFG_ID i
  if form = 6 then
    .canFrame c b form (id % 2048) (id / 2 ^ 11 % 256) (id / 2 ^ 19 % 256) (id.testBit 27) payload
  else .canFrame c b form id 0 0 false payload

/-- A data bit time in mtq (R344). -/
def Dev.canDataBit (d : Dev) (c : Nat) : Nat :=
  (d.rdi CAN_DBT_BRP c + 1) * (3 + d.rdi CAN_DBT_TSEG1 c + d.rdi CAN_DBT_TSEG2 c)

/-- Delay compensation puts the secondary sample point of a frame's data phase more than 3 data bit times after the bit's start: a
bit error (R346). Error signalling is off in a data phase in FAST mode (R347). -/
def Dev.canLateSample (d : Dev) (c b : Nat) : Bool :=
  let form := d.rdi CAN_TXCFG_FORM (c * 32 + b)
  d.flagi CAN_TDC_TDCE c && (form == 4 || form == 5 || form == 6 && !d.flagi CAN_MODE_XLFAST c) &&
    decide (3 * d.canDataBit c < d.rdi CAN_TDCVAL_DELAY c + d.rdi CAN_TDC_TDCO c)

/-- The pending buffer that goes first (R360). -/
def Dev.canFirst (d : Dev) (c : Nat) : Option Nat :=
  ((d.canCtl c).bufs.items.filter fun e => e.2.st == .pending).foldl (fun best e =>
    match best with
    | none => some e.1
    | some b => if d.canBufRank c e.1 < d.canBufRank c b then some e.1 else some b) none

/-- Whether filter `k` matches a frame (R349). -/
def Dev.canMatches (d : Dev) (c k : Nat) (f : CanFrame) : Bool :=
  let i := c * 128 + k
  let form := d.rdi CAN_FMASK_FORM i
  d.flagi CAN_FMATCH_EN i &&
    ((f.ident ^^^ d.rdi CAN_FMATCH_ID i) &&& d.rdi CAN_FMASK_MASK i) == 0 &&
    (d.rdi CAN_FMASK_IDEM i == 0 || b2n (f.form != 2 && f.ide) == d.rdi CAN_FMATCH_IDE i) &&
    (form == 0 || form == f.form + 1)

/-- The lowest matching filter; a remote frame is taken by Q1 filters alone (R343, R349). -/
def Dev.canFilter (d : Dev) (c : Nat) (f : CanFrame) : Option Nat :=
  (List.range 128).find? fun k => d.canMatches c k f && (!f.rtr || d.rdi CAN_FMATCH_Q (c * 128 + k) == 1)

/-- Whether an outbound bridge window takes the frames of a filter (R458). -/
def Dev.bridgeFilter (d : Dev) (c k : Nat) : Bool :=
  (List.range 64).any fun w => d.rdi BRG_WSTATE_STATE w != 0 && d.rdi BRG_WCFG_BUS w == 0 &&
    d.rdi BRG_WCFG_UNIT w == c && d.rdi BRG_WCFG_FILTER w == k

/-- Frames of filter 127 of a sleep member go to NMW only (R500). -/
def Dev.sleepFilter (d : Dev) (c k : Nat) : Bool := k == 127 && !(d.sleepClusters 1 c).isEmpty

/-- Capacity of a receive object (R353): XL-capable controllers are 8 to 15, 24 and 25 (R339). -/
def canCapacity (c k : Nat) : Nat :=
  if (8 ≤ c ∧ c ≤ 15 ∨ c = 24 ∨ c = 25) ∧ k ≤ 3 then 2052 else 64

/-- The payload a frame brings to a receive object: for XL the acceptance field in wire order, then the data
(R348). -/
def CanFrame.object (f : CanFrame) : List Byte := if f.form = 2 then beOf 4 f.af ++ f.data else f.data

/-- The payload of a CAN bobbin record (R356). -/
def CanFrame.record (f : CanFrame) (filter : Nat) : List Byte :=
  let data := f.data.take 2024
  leOf 4 (f.ident + b2n f.ide * 2 ^ 29 + b2n f.rtr * 2 ^ 30) ++ leOf 2 data.length ++
    leOf 1 f.form ++ leOf 1 (b2n f.brs + 2 * b2n f.esi + 4 * b2n f.sec + 8 * b2n (decide (2024 < f.data.length))) ++
    leOf 1 filter ++ leOf 1 (if f.form = 2 then f.sdt else 0) ++ leOf 1 (if f.form = 2 then f.vcid else 0) ++
    leOf 1 0 ++ leOf 4 (if f.form = 2 then f.af else 0) ++ leOf 8 f.soft ++ data

/-- The queue of a bobbin of a context (R209, R236). -/
def Dev.queueOf (d : Dev) (ctx bob : Nat) : Nat := d.rdi CTXN_QBASE ctx + bob

/-- The lands card joins a transceiver to a controller (R340). -/
def Deck.canJoined (k : Deck) (c : Nat) : Bool := k.lands.any fun r => r.kind == 1 && r.func == c

/-- The spare CAN controllers that can still stand in: joined to no transceiver, serving no other, not failed (R340). -/
def Dev.canSpares (d : Dev) : List Nat :=
  [24, 25].filter fun p => !d.rdeck.canJoined p && (d.can.subst.find p).isNone && !d.flt.failedUnits.contains p

/-- The physical controller behind a block index: the spare that serves it, or the controller itself (R375). -/
def Dev.canUnit (d : Dev) (c : Nat) : Nat :=
  match d.can.subst.items.find? fun e => e.2 == c with
  | some e => e.1
  | none => c

/-- The controller behind a block index is marked failed, and nothing serves in its place, or the bus die is held in reset
(R733, R737, R741). -/
def Dev.canDead (d : Dev) (c : Nat) : Bool := d.flt.busHeld || d.flt.failedUnits.contains (d.canUnit c)

/-- The frames of a controller that wait in Q1 (R355). -/
def Dev.canQ1Waiting (d : Dev) (c : Nat) : List Q1Wait := d.can.q1.filter fun w => w.ctl == c

/-- Q1 of a controller is emptied (R365). -/
def Dev.canQ1Clear (d : Dev) (c : Nat) : Dev := { d with can := { d.can with q1 := d.can.q1.filter fun w => w.ctl != c } }

/-- A controller that was off integrates with both counters at 0 and the no-partner counter anew; what its buffers hold stays
(R368, R509). -/
def Dev.canIntegrate (d : Dev) (c : Nat) : Dev :=
  let d := ((d.setCanCtl c {}).canQ1Clear c).fwClear (.noPartner c)
  let d := ((d.wri CAN_TXPEND_BUFS c 0).wri CAN_ERRCNT_TEC c 0).wri CAN_ERRCNT_REC c 0
  let d := ((d.wri CAN_STAT_STATE c 1).wri CAN_STAT_NOPART c 0).wri CAN_STAT_LOM c (d.rdi CAN_MODE_LOM c)
  let d := d.wri CAN_STAT_ROLE c (if d.flagi CAN_MODE_TM c then 1 else 0)
  let d := d.wri CAN_STAT_CYCLE c 0
  if d.canDead c then d.wri CAN_STAT_STATE c 0 else d

/-- A controller leaves the bus and integrates again with the registers as they stand: transmit buffers and receive queues
empty, error counters 0; its receive objects stay (R71, R365, R375, R733, log entry 48). -/
def Dev.canRestart (d : Dev) (c : Nat) : Dev :=
  { d with trd := { d.trd with
      txObj := d.trd.txObj.keep fun o => !(decide (canObj c 0 ≤ o) && decide (o < canObj (c + 1) 0)) } }.canIntegrate c

/-- A restart that lets a frame on the bus run to its end first (R365): pending buffers are cleared at once. -/
def Dev.canLeave (d : Dev) (c : Nat) : Dev :=
  let k := d.canCtl c
  if k.bufs.items.any fun e => e.2.st == .onBus then
    let d := d.each (k.bufs.items.filter fun e => e.2.st == .pending) fun d e => d.setCanBuf c e.1 {}
    (d.setCanCtl c { d.canCtl c with leaving := true, q0 := [] }).canQ1Clear c
  else d.canRestart c

/-- After a frame has ended: a controller that waits to leave the bus does so (R365). -/
def Dev.canAfterFrame (d : Dev) (c : Nat) : Dev := if (d.canCtl c).leaving then d.canRestart c else d

/-- An error ends the attempt of a buffer that is on the bus (R361, R366). -/
def Dev.canTxFail (d : Dev) (c b : Nat) : Dev := ((d.setCanBuf c b { st := .pending }).canTecUp c).canAfterFrame c

end Sys2Proof.Machine
end

