-- ==== Sys2Proof/Machine/SwitchOps.lean ====
section
/-! DEFINITION. The Ethernet switch's own operations: VLANs and filters, the meters, the recovery function, admission
and the return of cells, flushing, the minimum's reduction and the release of a transmit object (R411 to R441). -/

namespace Sys2Proof.Machine

/-- The module's own address (R417, R578). -/
def Dev.ownMac (d : Dev) : Nat := d.rd SWX_MACHI_MAC * 2 ^ 32 + d.rd SWX_MACLO_MAC

/-- An external port. -/
def external (p : Nat) : Bool := decide (p ≤ 21)

/-- LINK as admission sees it (R426): internal ports have no link to lose. -/
def Dev.linkUp (d : Dev) (p : Nat) : Bool := !external p || d.flagi SWXP_STAT_LINK p

/-- The VLAN record of a VID (R415). -/
def Dev.vlanOf (d : Dev) (vid : Nat) : Option Nat :=
  if vid = 0 then none else (List.range 256).find? fun i => d.rdi SWX_VLAN_ID_VID i == vid

/-- Cells that a frame of L bytes occupies (R426). -/
def cellsOf (l : Nat) : Nat := (l + 255) / 256

def Dev.queue (d : Dev) (k : Nat) : List QFrame := d.swx.queues.get k []

def Dev.setQueue (d : Dev) (k : Nat) (l : List QFrame) : Dev :=
  { d with swx := { d.swx with queues := d.swx.queues.set k l } }

/-- USED and SHARED after `n` cells are added to a queue (R426). -/
def Dev.cellsIn (d : Dev) (k n : Nat) : Dev :=
  let used := d.rdi SWXQ_STAT_USED k
  let r := min n (d.rdi SWXQ_STAT_MINNOW k - used)
  (d.wri SWXQ_STAT_USED k (used + n)).wr SWX_BUF_SHARED (d.rd SWX_BUF_SHARED + (n - r))

/-- USED and SHARED after a frame of `n` cells leaves a queue: shared cells are returned first (R427). -/
def Dev.cellsOut (d : Dev) (k n : Nat) : Dev :=
  let used := d.rdi SWXQ_STAT_USED k
  let back := min n (used - d.rdi SWXQ_STAT_MINNOW k)
  (d.wri SWXQ_STAT_USED k (used - n)).wr SWX_BUF_SHARED (d.rd SWX_BUF_SHARED - back)

/-! ### Rates and the time that a frame takes (R411, R412) -/

/-- The rate of a port in Mbit/s (R411); that of E0 to E5 is what the PHY last reported (R412). -/
def Dev.portRate (d : Dev) (p : Nat) : Nat :=
  if p ≤ 1 then d.swx.rates.get p 10000
  else if p ≤ 5 then d.swx.rates.get p 1000
  else if p ≤ 13 then 100
  else if p ≤ 21 then 10
  else if p ≤ 24 then 10000
  else 2500

/-- The time in ns that a frame of `len` bytes takes on a port's line, with the 20 bytes before and after it. -/
def Dev.lineNs (d : Dev) (p len : Nat) : Nat := (len + 20) * 8000 / d.portRate p

/-- A frame begins on a port at time `t`. -/
def Dev.swxBegin (d : Dev) (p : Nat) (f : QFrame) (t : Nat) : Dev :=
  { d with swx := { d.swx with sending := d.swx.sending.set p (t + d.lineNs p f.frame.len) } }

/-- A port's transmitter is busy at time `t`. -/
def Dev.sendingAt (d : Dev) (p t : Nat) : Bool := decide (t < d.swx.sending.get p 0)

/-! ### Gates (R430 to R432) -/

/-- The gPTP time at a local time: the two differ as they did at the latest pick boundary (R135, log entry 11). -/
def Dev.gptpAt (d : Dev) (t : Nat) : Nat := t + d.trd.gptpNs - d.trd.localNs

/-- The gate list of a port for one queue: the length of each entry in ns and whether the gate is open (R430). -/
def Dev.gateList (d : Dev) (p q : Nat) : List (Nat × Bool) :=
  (List.range (d.rdi SWXP_CFG1_GLEN p)).filterMap fun pos =>
    ((List.range 256).find? fun i => d.rdi SWX_GL_INTV_INTERVAL i != 0 && d.rdi SWX_GL_CTL_PORT i == p &&
      d.rdi SWX_GL_CTL_POS i == pos).map fun i => (d.rdi SWX_GL_INTV_INTERVAL i * 10, d.bit SWX_GL_CTL_STATES i q)

/-- A list without its first `n` ns. -/
def gatesFrom : Nat → List (Nat × Bool) → List (Nat × Bool)
  | _, [] => []
  | n, e :: rest => if n < e.1 then (e.1 - n, e.2) :: rest else gatesFrom (n - e.1) rest

/-- How long the gate stays open at the head of a list. -/
def openNs : List (Nat × Bool) → Nat
  | [] => 0
  | e :: rest => if e.2 then e.1 + openNs rest else 0

/-- Under GSRC 1 a frame of `len` bytes that starts at time `t` ends before its gate next closes (R431); after a clock step the gates
stay open until the next cycle start (R432). -/
def Dev.gateFits (d : Dev) (p q len t : Nat) : Bool :=
  if d.rdi SWXP_CFG1_GSRC p ≠ 1 then true
  else
    let cyc := d.rdi SWXP_CFG1_CYCLE p * 10
    let phase := (d.gptpAt t + cyc - d.rdi SWXP_CFG2_GOFF p * 10 % (max 1 cyc)) % cyc
    let l := d.gateList p q
    let now := if (d.swx.gatePos.find p).isSome then gatesFrom phase l else [(cyc - phase, true)]
    l.all (fun e => e.2) || decide (d.lineNs p len ≤ openNs (now ++ l))

/-- The profile word of a colour: MIN, MAX, PMAX (R426). -/
def Dev.profile (d : Dev) (i colour : Nat) : Nat × Nat × Nat :=
  if colour = 0 then (d.rdi SWX_DP_GREEN_MIN i, d.rdi SWX_DP_GREEN_MAX i, d.rdi SWX_DP_GREEN_PMAX i)
  else if colour = 1 then (d.rdi SWX_DP_YELLOW_MIN i, d.rdi SWX_DP_YELLOW_MAX i, d.rdi SWX_DP_YELLOW_PMAX i)
  else (d.rdi SWX_DP_RED_MIN i, d.rdi SWX_DP_RED_MAX i, d.rdi SWX_DP_RED_PMAX i)

/-- What admission decides of a frame of `n` cells for queue `k` of port `p` with the random value `rnd` (R426). -/
inductive Admission
  | accept | downDrop | redDrop | tailDrop
deriving DecidableEq, Repr

def Dev.admission (d : Dev) (p k n colour rnd : Nat) : Admission :=
  let used := d.rdi SWXQ_STAT_USED k
  let minnow := d.rdi SWXQ_STAT_MINNOW k
  let x := n - min n (minnow - used)
  if x = 0 then .accept
  else if !d.linkUp p then .downDrop
  else
    let pr := d.profile (d.rdi SWXQ_CFG1_PROFILE k) colour
    if d.flagi SWXQ_CFG1_REDEN k ∧ pr.2.1 ≤ used then .redDrop
    else if d.flagi SWXQ_CFG1_REDEN k ∧ pr.1 ≤ used ∧
        rnd < (used - pr.1) * (pr.2.2 + 1) * 4096 / (pr.2.1 - pr.1) then .redDrop
    else if (used - minnow) + x > d.rdi SWXQ_CFG0_CAP k ∨ d.rd SWX_BUF_SHARED + x > d.swx.limit then .tailDrop
    else .accept

/-- Every frame queued on a port is flushed and counted (R436, R438). -/
def Dev.swxFlush (d : Dev) (p : Nat) : Dev :=
  let n := (List.range 8).foldl (fun t q => t + (d.queue (p * 8 + q)).length) 0
  let d := d.each (List.range 8) fun d q =>
    (d.cellsOut (p * 8 + q) (d.rdi SWXQ_STAT_USED (p * 8 + q))).setQueue (p * 8 + q) []
  let d := (d.addi SWXP_FLUSHED_COUNT p n).wri SWXP_EVT_FLUSH p 1
  (d.wr SWX_GEVT_FLUSH 1).trig 0x0462 [p]

/-- The hold timer expires: flush, and the port is DOWN (R436). -/
def Dev.swxHoldEnd (d : Dev) (p : Nat) : Dev :=
  ((d.swxFlush p).wri SWXP_STAT_LSTATE p 0).wri SWXP_STAT_HOLDLEFT p 0

/-- The hold timer is set to LINKHOLD ms; with LINKHOLD 0 it expires as soon as it is set (R436). -/
def Dev.swxHold (d : Dev) (p : Nat) : Dev :=
  let h := d.rdi SWXP_CFG0_LINKHOLD p
  let d := (d.wri SWXP_STAT_LSTATE p 1).wri SWXP_STAT_HOLDLEFT p h
  if h = 0 then d.swxHoldEnd p else d

/-- A frame that came in on port `src` arrives at an egress port's queue (R420, R426, R436). -/
def Dev.swxEnqueue (d : Dev) (p : Nat) (f : EthFrame) (colour t : Nat) (src : Nat := 27) : Dev :=
  let k := p * 8 + f.pcp % 8
  let n := cellsOf f.len
  let rnd := d.freeVal 16
  let d := d.fresh
  match d.admission p k n colour rnd with
  | .downDrop => d.inci SWXQ_DOWNDROP_COUNT k
  | .redDrop => d.inci SWXQ_REDDROP_COUNT k
  | .tailDrop => d.inci SWXQ_TAILDROP_COUNT k
  | .accept =>
    let d := (d.cellsIn k n).setQueue k (d.queue k ++ [{ frame := f, cells := n, colour := colour, admitted := t, src := src }])
    if external p ∧ d.rdi SWXP_STAT_LSTATE p = 0 then d.swxHold p else d

/-! ### The meter (R425) -/

/-- Buckets are kept in 1/80000 byte, so that a rate of 100 kbit/s adds 1 per ns. -/
def meterUnit : Nat := 80000

/-- A meter's buckets refilled up to time `t`; the overflow of the committed bucket enters the excess bucket when
COUPLE is set. A meter starts with full buckets. -/
def Dev.meterAt (d : Dev) (i t : Nat) : Meter :=
  let capC := d.rdi SWX_POL_BURST_CBS i * 64 * meterUnit
  let capE := d.rdi SWX_POL_BURST_EBS i * 64 * meterUnit
  let m := d.swx.meters.get i {}
  if m.primed then
    let c := m.c + d.rdi SWX_POL_RATE_CIR i * (t - m.last)
    let spill := if d.flagi SWX_POL_MODE_COUPLE i then c - capC else 0
    let e := m.e + d.rdi SWX_POL_RATE_EIR i * (t - m.last) + spill
    { c := min c capC, e := min e capE, last := t, primed := true }
  else { c := capC, e := capE, last := t, primed := true }

/-- The colour that policer `i` gives a frame: 0 green, 1 yellow, 2 red. -/
def Dev.swxMeter (d : Dev) (i len colour t : Nat) : Dev × Nat :=
  let m := d.meterAt i t
  let l := len * meterUnit
  let c := if d.flagi SWX_POL_MODE_AWARE i then colour else 0
  let out : Meter × Nat :=
    if c = 0 ∧ l ≤ m.c then ({ m with c := m.c - l }, 0)
    else if c ≤ 1 ∧ l ≤ m.e then ({ m with e := m.e - l }, 1)
    else (m, 2)
  let d := { d with swx := { d.swx with meters := d.swx.meters.set i out.1 } }
  let d := if out.2 = 1 then d.inci SWX_POL_CNT_YELLOW i else if out.2 = 2 then d.inci SWX_POL_CNT_RED i else d
  (d, out.2)

/-! ### Recovery function (R441) -/

/-- The vector recovery function of a stream takes a sequence number: the state after it, and whether the frame
passes. -/
def Dev.frerTake (d : Dev) (r seq : Nat) : Dev × Bool :=
  let f := d.swx.frer.get r {}
  let put := fun (x : Frer) (d : Dev) => { d with swx := { d.swx with frer := d.swx.frer.set r x } }
  if !f.active then (put { active := true, newest := seq, history := 1 } d, true)
  else
    let ahead := (seq + 65536 - f.newest) % 65536
    let behind := (f.newest + 65536 - seq) % 65536
    if ahead ≠ 0 ∧ ahead < 32 then
      let d := put { f with newest := seq, history := (f.history * 2 ^ ahead + 1) % 2 ^ 32 } d
      (d.addi SWX_RS_CNT_LOST r (ahead - 1), true)
    else if behind < 32 ∧ !f.history.testBit behind then
      (put { f with history := f.history + 2 ^ behind } d, true)
    else (d.inci SWX_RS_CNT_DISCARD r, false)

/-! ### Minimum reduced (R428) -/

/-- The total of MINNOW. -/
def Dev.minTotal (d : Dev) : Nat := (List.range 216).foldl (fun t k => t + d.rdi SWXQ_STAT_MINNOW k) 0

/-- The queues with a record in ascending key order for breaking: lower class first, within a class the later
declared first (R229). -/
def Dev.swxQueueKeys (d : Dev) : List Nat :=
  let rev := ((d.rdeck.switchRecs.filter fun r => r.kind == 2).map fun r => r.index).reverse
  [3, 2, 1, 0].flatMap fun c => rev.filter fun k => d.rdi SWXQ_CFG0_CLASS k == c

/-- LIMIT in force and the minimums fitted to the usable cells (R428). -/
def Dev.swxFit (d : Dev) : Dev :=
  let usable := d.rd SWX_BUF_USABLE
  let d := { d with swx := { d.swx with limit := min d.swx.limit (usable - d.minTotal) } }
  d.each d.swxQueueKeys fun d k =>
    let m := d.rdi SWXQ_STAT_MINNOW k
    let cut := min m (d.minTotal - d.rd SWX_BUF_USABLE)
    if cut = 0 then d
    else
      let used := d.rdi SWXQ_STAT_USED k
      let more := (used - (m - cut)) - (used - m)
      let d := (d.wri SWXQ_STAT_MINNOW k (m - cut)).wr SWX_BUF_SHARED (d.rd SWX_BUF_SHARED + more)
      let d := d.wr SWX_GEVT_MINRED 1
      d.breach 2 (d.route 157) (d.rdi SWXQ_CFG0_CLASS k) 0x12 (k / 8 + k % 8 * 256 + (m - cut) * 65536) 0x0332 [k / 8]

/-! ### Transmit objects on I2 (R421, R440) -/

/-- A ready Ethernet object is built into a frame and sent to its ports. -/
def Dev.swxRelease (d : Dev) (o : Nat) : Dev :=
  match (List.range 255).find? fun r => d.rdi SWX_RS_OUT_OBJ r + 0x2000 == o with
  | none => d
  | some r =>
    let n := d.rdi SWX_RS_OUT_LEN r
    let seqgen := d.flagi SWX_RS_CTL_SEQGEN r
    let seq := d.swx.seqGen.get r 0
    let f : EthFrame := {
      dmac := d.rdi SWX_RS_DMACHI_DMAC r * 65536 + d.rdi SWX_RS_CTL_DMAC r, smac := d.ownMac,
      vid := d.rdi SWX_RS_CTL_VID r, pcp := d.rdi SWX_RS_CTL_PCP r, tagged := true,
      len := max 64 (22 + n + (if seqgen then 6 else 0)), etype := d.rd SWX_GCFG_ETYPE,
      rtag := if seqgen then some seq else none,
      payload := padTo (max n (if seqgen then 36 else 42)) (padTo n (d.txObj o).payload) }
    let d := if seqgen then { d with swx := { d.swx with seqGen := d.swx.seqGen.set r ((seq + 1) % 65536) } } else d
    let d := if d.rdi SWX_RS_OUT_PORTA r ≤ 21 then d.swxEnqueue (d.rdi SWX_RS_OUT_PORTA r) f 0 d.trd.localNs else d
    if d.flagi SWX_RS_OUT_REPL r ∧ d.rdi SWX_RS_OUT_PORTB r ≤ 21 then
      d.swxEnqueue (d.rdi SWX_RS_OUT_PORTB r) f 0 d.trd.localNs
    else d

end Sys2Proof.Machine
end

