-- ==== Sys2Proof/Machine/Switch.lean ====
section
/-! DEFINITION. The Ethernet switch's commands: ingress, egress, rings, links, gates, gPTP, PPS, the recovery functions
and MACsec (R411 to R454). -/

namespace Sys2Proof.Machine

/-- A MACsec discard (R443, R445). -/
def Dev.secDrop (d : Dev) (p : Nat) : Dev := (d.inci SWXP_SECDROP_COUNT p).wri SWXP_EVT_SECERR p 1

/-- MACsec at ingress: the state after the checks, and whether the frame passes (R443 to R445). The replay check takes
a packet number within the window of 64 below the highest received. -/
def Dev.secIngress (d : Dev) (p : Nat) (x : SecIn) : Dev × Bool :=
  if !d.secOn p then (d, true)
  else
    let d := d.wri SWXP_STAT_SECUP p (b2n (d.secUp p))
    if !d.secUp p then (d.secDrop p, false)
    else
      let m := d.macsec p
      if x.verified ∧ x.an = m.rxAn ∧ m.rxPn < x.pn + 64 ∧ x.pn ≠ 0 then
        (d.setMacsec p { m with rxPn := max m.rxPn x.pn }, true)
      else if x.verified ∧ m.oldHeld ∧ x.an = (m.rxAn + 3) % 4 ∧ m.oldPn < x.pn + 64 ∧ x.pn ≠ 0 then
        (d.setMacsec p { m with oldPn := max m.oldPn x.pn }, true)
      else ((d.secDrop p).trig 0x0465 [p], false)

/-- The bytes of a frame, FCS excluded (R421, R423). -/
def EthFrame.bytes (f : EthFrame) : List Byte :=
  beOf 6 f.dmac ++ beOf 6 f.smac ++
    (if f.tagged then beOf 2 0x8100 ++ beOf 2 (f.pcp * 8192 + b2n f.dei * 4096 + f.vid) else []) ++
    (match f.rtag with
      | some q => beOf 2 0xF1C1 ++ beOf 2 0 ++ beOf 2 q
      | none => []) ++
    beOf 2 f.etype ++ f.payload

/-- A frame from the bytes that a transmit descriptor holds (R423). -/
def frameOfBytes (l : List Byte) : EthFrame :=
  let tag := beVal ((l.drop 12).take 2) == 0x8100
  let tci := beVal ((l.drop 14).take 2)
  let r := l.drop (if tag then 16 else 12)
  let rt := beVal (r.take 2) == 0xF1C1
  let r2 := if rt then r.drop 6 else r
  { dmac := beVal (l.take 6), smac := beVal ((l.drop 6).take 6), tagged := tag,
    vid := if tag then tci % 4096 else 0, pcp := if tag then tci / 8192 else 0,
    dei := tag && (tci / 4096 % 2 == 1), len := max 64 (l.length + 4),
    rtag := if rt then some (beVal ((r.drop 4).take 2)) else none,
    etype := beVal (r2.take 2), payload := r2.drop 2 }

/-- Whether a port sends a frame untagged (R420); a frame of no VLAN, which only a deckless module forwards, keeps its
form. -/
def Dev.swxUntag (d : Dev) (e : Nat) (f : EthFrame) : Bool :=
  match d.vlanOf f.vid with
  | some v => d.bit SWX_VLAN_UNTAG v e
  | none => !f.tagged

/-- The conditions of cut-through at time `t` for a frame with the single egress `e` (R433). -/
def Dev.cutThrough (d : Dev) (p e : Nat) (f : EthFrame) (plain : Bool) (t : Nat) : Bool :=
  d.flagi SWXP_CFG0_CTEN p && external e && d.flagi SWXP_CFG0_CTEN e && !d.secOn p && plain && !d.sendingAt e t &&
    decide (d.portRate e ≤ d.portRate p) && d.rdi SWXP_STAT_LSTATE e == 2 && (d.queue (e * 8 + f.pcp % 8)).isEmpty &&
    d.bit SWXP_STAT_GATES e (f.pcp % 8) && d.gateFits e (f.pcp % 8) 2000 t

/-- A frame goes out of a port's line (R420), with the association and packet number of MACsec where the port runs it (R442). -/
def Dev.swxLine (d : Dev) (e : Nat) (f : EthFrame) (colour : Nat) (sec : Option (Nat × Nat)) : Dev :=
  let untag := d.swxUntag e f
  (d.inci SWXP_TXFRAMES_COUNT e).send (.ethFrame e f (!untag) (!untag && colour != 0) sec)

/-- The PDU of a far-register frame on Ethernet begins at byte 20; this is its TYPE (R460, R463). -/
def EthFrame.farType (f : EthFrame) : Nat := (f.payload.getD 2 0).toNat / 16

/-- A frame that reaches I4 is the bridge's when it is laid out as R463 says, has the VLAN of BRG_CFG and the source of a BUS 1
window; any other is discarded and counted. An IWRITE of an undeclared source goes on to the rule of its own (R483). An IWRITE that
finds 32 waiting is dropped (R484). -/
def Dev.bridgeFrame (d : Dev) (f : EthFrame) : Dev :=
  let declared := (List.range 64).any fun w => d.rdi BRG_WSTATE_STATE w != 0 && d.rdi BRG_WCFG_BUS w == 1 &&
    f.smac == 0x020000000000 + d.rd BRG_CFG_NET * 256 + d.rdi BRG_WCFG_NODE w
  if f.etype ≠ 0x88B5 ∨ (f.payload.getD 0 0).toNat ≠ 1 ∨ f.vid ≠ d.rd BRG_CFG_VID ∨ (!declared ∧ f.farType ≠ 6) then
    d.inc BRG_INCNT_UNDECL
  else if f.farType = 6 ∧ 32 ≤ (d.brg.arrived.filter fun g => g.farType == 6).length then d.inc BRG_INCNT_DROPPED
  else { d with brg := { d.brg with arrived := d.brg.arrived ++ [f] } }

/-! ### Keep-awake datagrams at I3 (R501) -/

/-- An IPv6 datagram over UDP to the keep-awake port 6471. -/
def EthFrame.keepAwake (f : EthFrame) : Bool :=
  f.etype == 0x86DD && (f.payload.getD 6 0).toNat == 17 && beVal ((f.payload.drop 42).take 2) == 6471

/-- A keep-awake datagram at I3 goes to NMW. -/
def Dev.heardAt (d : Dev) (p : Nat) (f : EthFrame) : Dev :=
  if f.keepAwake then { d with nmw := { d.nmw with heard := d.nmw.heard ++ [(p, f)] } } else d

/-! ### Reassembly at I3 (R522) -/

/-- A fragment of a datagram from `src` with an identification: an IPv6 packet whose next header is the fragment header
(R522, RFC 8200). -/
def EthFrame.fragmentOf (f : EthFrame) (src ident : Nat) : Bool :=
  f.etype == 0x86DD && (f.payload.getD 6 0).toNat == 44 && beVal ((f.payload.drop 8).take 16) == src &&
    beVal ((f.payload.drop 44).take 4) == ident

/-- The source address and identification of a fragment. -/
def EthFrame.fragmentKey (f : EthFrame) : Nat × Nat :=
  (beVal ((f.payload.drop 8).take 16), beVal ((f.payload.drop 44).take 4))

/-- The place and the length of a fragment's data, and whether it is the last. -/
def EthFrame.fragmentSpan (f : EthFrame) : Nat × Nat × Bool :=
  let w := beVal ((f.payload.drop 42).take 2)
  (w / 8 * 8, beVal ((f.payload.drop 4).take 2) - 8, w % 2 == 0)

/-- A datagram is complete when its fragments fill it up to the end of the last one. -/
def fragmentsComplete (l : List EthFrame) : Bool :=
  l.any fun f => f.fragmentSpan.2.2 &&
    l.foldl (fun t g => t + g.fragmentSpan.2.1) 0 == f.fragmentSpan.1 + f.fragmentSpan.2.1

/-- A frame at I3: a fragment waits for the rest of its datagram, which leaves with its last fragment; at most 8 datagrams
are open, none with more than 4,352 bytes beside the UDP header (R522, R523, log entry 53). -/
def Dev.fragmentIn (d : Dev) (f : EthFrame) : Dev :=
  let k := f.fragmentKey
  if !f.fragmentOf k.1 k.2 then d
  else
    let others := d.swx.i3.filter fun g => !g.fragmentOf k.1 k.2
    let mine := d.swx.i3.filter fun g => g.fragmentOf k.1 k.2 && g.fragmentSpan != f.fragmentSpan
    let mine := mine ++ [f]
    let size := mine.foldl (fun t g => max t (g.fragmentSpan.1 + g.fragmentSpan.2.1)) 0
    let full := mine.length == 1 && decide (8 ≤ (others.map EthFrame.fragmentKey).eraseDups.length)
    { d with swx := { d.swx with
        i3 := if full then d.swx.i3 else if fragmentsComplete mine || decide (4352 + 8 < size) then others else others ++ mine } }

/-- A frame leaves a port: to an internal endpoint, or over the line with MACsec where the port runs it (R420, R443 to
R446). -/
def Dev.swxOut (d : Dev) (p : Nat) (f : QFrame) : Dev :=
  let d := if p = 26 then d.bridgeFrame f.frame else if p = 25 then (d.fragmentIn f.frame).heardAt f.src f.frame else d
  if !d.secOn p then d.swxLine p f.frame f.colour none
  else
    let d := d.wri SWXP_STAT_SECUP p (b2n (d.secUp p))
    let m := d.macsec p
    if !d.secUp p then d.secDrop p
    else if m.txPn > 0xFFFFFFFF then d.inci SWXP_SECDROP_COUNT p
    else
      let d := d.setMacsec p { m with txPn := m.txPn + 1 }
      let d := if m.txPn = 0xC0000000 then (d.wri SWXP_EVT_SECPN p 1).trig 0x0466 [p] else d
      d.swxLine p f.frame f.colour (some (m.txAn, m.txPn))

/-- A cut-through frame is admitted with L = 2,000, charged its true cells at its end, and leaves at once (R426,
R433). -/
def Dev.swxCut (d : Dev) (e : Nat) (f : EthFrame) (colour t : Nat) : Dev :=
  let k := e * 8 + f.pcp % 8
  let rnd := d.freeVal 16
  let d := d.fresh
  match d.admission e k (cellsOf 2000) colour rnd with
  | .downDrop => d.inci SWXQ_DOWNDROP_COUNT k
  | .redDrop => d.inci SWXQ_REDDROP_COUNT k
  | .tailDrop => d.inci SWXQ_TAILDROP_COUNT k
  | .accept =>
    let q : QFrame := { frame := f, cells := cellsOf f.len, colour := colour, admitted := t }
    (d.swxBegin e q t).swxOut e q

/-- A frame waits at I2 for its receive object; a second frame for the object replaces it (R422). -/
def Dev.swxToObject (d : Dev) (p o : Nat) (f : EthFrame) : Dev :=
  let e := (o, f.smac, p, f.payload.take 1500)
  let l := d.swx.i2
  let l' := if l.any (fun x => x.1 == o) then l.map (fun x => if x.1 = o then e else x) else l ++ [e]
  { d with swx := { d.swx with i2 := l' } }

/-- Forwarding by a stream filter: meter, recovery function, then the egress ports or the receive object (R418, R425,
R441). -/
def Dev.swxFiltered (d : Dev) (p fl : Nat) (f : EthFrame) (t : Nat) : Dev :=
  let d := d.inci SWX_SF_CNT_MATCHES fl
  let c0 := b2n f.dei
  let pol := d.rdi SWX_SF_MATCH_POLICER fl
  let m := if pol = 127 then (d, c0) else d.swxMeter pol f.len c0 t
  let colour := m.2
  let d := m.1
  if pol ≠ 127 ∧ colour = 2 ∧ d.flagi SWX_POL_MODE_DROPRED pol then d.wr SWX_GEVT_POLRED 1
  else
    let r := d.rdi SWX_SF_MATCH_FRER fl
    let g : Dev × Bool := if r = 0xFF then (d, true) else match f.rtag with
      | none => (d.inci SWX_RS_UNTAG_UNTAGGED r, true)
      | some q => d.frerTake r q
    let d := g.1
    if !g.2 then d
    else
      let f := if r = 0xFF then f else { f with rtag := none }
      if d.flagi SWX_SF_ACTION_TOOBJ fl then d.swxToObject p (0x2000 + d.rdi SWX_SF_ACTION_EGRESS fl % 1024) f
      else
        let outs := (List.range 27).filter fun e => d.bit SWX_SF_ACTION_EGRESS fl e && e != p
        match outs with
        | [e] => if d.cutThrough p e f (pol == 127 && r == 0xFF) t then d.swxCut e f colour t else d.swxEnqueue e f colour t p
        | _ => d.each outs fun d e => d.swxEnqueue e f colour t p

/-- The lowest-numbered stream filter that a frame matches (R418). -/
def Dev.swxFilterOf (d : Dev) (p : Nat) (f : EthFrame) : Option Nat :=
  (List.range 256).find? fun i =>
    d.rdi SWX_SF_MATCH_VID i != 0 && d.rdi SWX_SF_DMAC i == f.dmac % 2 ^ 32 && d.rdi SWX_SF_MATCH_VID i == f.vid &&
      (d.rdi SWX_SF_MATCH_INPORT i == 31 || d.rdi SWX_SF_MATCH_INPORT i == p)

/-- Forwarding of a frame that has its VID and priority (R417 to R419). -/
def Dev.swxForward (d : Dev) (p : Nat) (f : EthFrame) (t : Nat) : Dev :=
  let c0 := b2n f.dei
  if f.dmac = d.ownMac ∧ f.vid = d.rdeck.sys.mgmtVlan then d.swxEnqueue 25 f c0 t p
  else
    match d.swxFilterOf p f with
    | some i => d.swxFiltered p i f t
    | none =>
      match d.vlanOf f.vid with
      | some v =>
        if (f.dmac / 2 ^ 40).testBit 0 ∧ d.flagi SWX_VLAN_ID_FLOOD v then
          d.each ((List.range 27).filter fun e => d.bit SWX_VLAN_MEMBER v e && e != p) fun d e => d.swxEnqueue e f c0 t p
        else (d.inc SWX_NOFILT_COUNT).wr SWX_GEVT_NOFILT 1
      | none => (d.inc SWX_NOFILT_COUNT).wr SWX_GEVT_NOFILT 1

/-- VID and priority at ingress (R415): none when the port discards the frame. -/
def Dev.swxTag (d : Dev) (p : Nat) (f : EthFrame) : Option EthFrame :=
  let acc := d.rdi SWXP_CFG0_ACCEPT p
  let real := f.tagged && f.vid != 0
  if (real && acc == 2) || (!real && acc == 1) then none
  else
    let g := if real then f else { f with vid := d.rdi SWXP_CFG0_PVID p, pcp := d.rdi SWXP_CFG0_DEFPCP p, dei := f.tagged && f.dei, tagged := false }
    match d.vlanOf g.vid with
    | some v => if d.bit SWX_VLAN_MEMBER v p then some g else none
    | none => none

/-- A deckless module takes untagged frames on E6 to E13 to its own address, to broadcast or to an IPv6 multicast
address: they reach I3, which answers on the ingress port (R417). -/
def Dev.swxDeckless (d : Dev) (p : Nat) (f : EthFrame) : Dev :=
  if 6 ≤ p ∧ p ≤ 13 ∧ !f.tagged ∧
      (f.dmac = d.ownMac ∨ f.dmac = 0xFFFFFFFFFFFF ∨ f.dmac / 2 ^ 32 = 0x3333) then
    ({ d with swx := { d.swx with i3Port := some p } } : Dev).fragmentIn f
  else d

/-- A frame with a bad FCS is discarded and counted; one that was being cut through has left with an inverted FCS when
ingress finds it (R413, R433). -/
def Dev.swxBadFcs (d : Dev) (p : Nat) (f : EthFrame) (t : Nat) : Dev :=
  let d := d.inci SWXP_RXERR_COUNT p
  if d.deck.running.isNone ∨ f.dmac / 16 = 0x0180C200000 then d
  else match d.swxTag p f with
    | none => d
    | some g =>
      if g.dmac = d.ownMac ∧ g.vid = d.rdeck.sys.mgmtVlan then d
      else match d.swxFilterOf p g with
        | none => d
        | some fl =>
          match (List.range 27).filter fun e => d.bit SWX_SF_ACTION_EGRESS fl e && e != p with
          | [e] =>
            let plain := d.rdi SWX_SF_MATCH_POLICER fl == 127 && d.rdi SWX_SF_MATCH_FRER fl == 0xFF &&
              !d.flagi SWX_SF_ACTION_TOOBJ fl
            if d.cutThrough p e g plain t then (d.inci SWX_SF_CNT_MATCHES fl).swxCut e g (b2n g.dei) t else d
          | _ => d

/-- A frame at a port (R413 to R419). A frame whose source address is a declared endpoint's is evidence of it, whatever the
frame carries (R79, log entry 59). -/
def Dev.swxIngress (d : Dev) (p : Nat) (f : EthFrame) (x : SecIn) (t : Nat) : Dev :=
  if f.len > 2000 then d.inci SWXP_RXERR_COUNT p
  else if !f.fcsOk then d.swxBadFcs p f t
  else
    let d := d.inci SWXP_RXFRAMES_COUNT p
    let s := d.secIngress p x
    let d := s.1
    if !s.2 then d
    else
      let d := d.evidenceOf fun r => r.kind == 3 && r.unit == p && r.key == f.smac % 2 ^ 32
      if f.dmac / 16 = 0x0180C200000 then d
      else if d.deck.running.isNone then d.swxDeckless p f
      else match d.swxTag p f with
        | none => d.inci SWXP_RXERR_COUNT p
        | some g => d.swxForward p g t

/-- SWX_FRAME_INGRESS (R415): a frame arrives at a port at local time `t` ns. A port whose link is down receives
nothing. -/
def execSwxFrameIngress (p : Nat) (f : EthFrame) (x : SecIn) (t : Nat) (s : State) :
    Host.Outcome State Fault Refusal :=
  onDev (fun d => if d.linkUp p ∧ !d.swx.portReset.contains p then d.swxIngress p f x t else d) s

/-- The head of a queue is dropped while it is older than MAXRES (R436). -/
def ageHeads (maxNs t : Nat) : List QFrame → List QFrame × Nat
  | [] => ([], 0)
  | f :: rest =>
    if maxNs ≠ 0 ∧ maxNs < t - f.admitted then
      let r := ageHeads maxNs t rest
      (r.1, r.2 + 1)
    else (f :: rest, 0)

def Dev.swxAge (d : Dev) (k t : Nat) : Dev :=
  let l := d.queue k
  let r := ageHeads (d.rdi SWXQ_CFG1_MAXRES k * 100000) t l
  if r.2 = 0 then d
  else
    let d := d.each (l.take r.2) fun d f => d.cellsOut k f.cells
    (d.setQueue k r.1).addi SWXQ_AGED_COUNT k r.2

/-- The queue a port sends from at time `t`: the highest-numbered with a frame and an open gate, which under GSRC 1 stays open until
the frame's end (R429, R431). -/
def Dev.swxPick (d : Dev) (p t : Nat) : Option Nat :=
  (List.range 8).reverse.find? fun q =>
    match d.queue (p * 8 + q) with
    | [] => false
    | f :: _ => !external p || (d.bit SWXP_STAT_GATES p q && d.gateFits p q f.frame.len t)

/-- A receive descriptor of I0 or I1 is filled (R423). The frame waits while the switch does not own it. -/
def Dev.swxRing (d : Dev) (p : Nat) (q : QFrame) (t : Nat) : Option Dev :=
  let base := d.rdi SWXP_CFG1_CYCLE p * 256 + d.rdi SWXP_CFG1_GLEN p * 4 + d.rdi SWXP_CFG1_GSRC p
  let i := d.swx.ringIdx.get ((p - 22) * 2) 0
  let a := base + i * 16
  let buf := leVal (d.peek a 4)
  let flags := leVal (d.peek (a + 6) 2)
  if flags % 2 = 0 then none
  else
    let d := { d with swx := { d.swx with ringIdx := d.swx.ringIdx.set ((p - 22) * 2) ((i + 1) % 64) } }
    if 0x20000000 ≤ buf ∧ buf + 2048 ≤ 0x20A00000 then
      let tag := !d.swxUntag p q.frame
      let b := EthFrame.bytes { q.frame with tagged := tag, dei := tag && q.colour != 0 }
      let d := (d.poke buf b).poke (a + 4) (leOf 2 b.length ++ leOf 2 0 ++ leOf 8 (d.gptpAt t))
      some (d.wri SWXP_EVT_RXDONE p 1)
    else some ((d.poke (a + 6) (leOf 2 2)).wri SWXP_EVT_RXDONE p 1)

/-- SWX_FRAME_EGRESS (R427, R429, R436): a port sends its next frame at local time `t` ns; frames older than MAXRES are
dropped as they reach the head, in every state of the link. A frame that has begun goes to its end first. -/
def execSwxFrameEgress (p t : Nat) (s : State) : Host.Outcome State Fault Refusal :=
  onDev (fun d =>
    if p ≠ 24 ∧ !d.swx.portReset.contains p ∧ !d.sendingAt p t then
      let d := d.each (List.range 8) fun d q => d.swxAge (p * 8 + q) t
      if external p ∧ d.rdi SWXP_STAT_LSTATE p ≠ 2 then d
      else match d.swxPick p t with
      | none => d
      | some q =>
        let k := p * 8 + q
        match d.queue k with
        | [] => d
        | f :: rest =>
          let gone := fun (d : Dev) => ((d.cellsOut k f.cells).setQueue k rest).swxBegin p f t
          if p = 22 ∨ p = 23 then
            match d.swxRing p f t with
            | none => d
            | some d => (gone d).inci SWXP_TXFRAMES_COUNT p
          else (gone d).swxOut p f
    else d) s

/-- SWX_RING_TRANSMIT (R423): the switch takes a frame from the next transmit descriptor of I0 or I1 that it owns. -/
def execSwxRingTransmit (p t : Nat) (s : State) : Host.Outcome State Fault Refusal :=
  onDev (fun d =>
    if p = 22 ∨ p = 23 then
      let base := d.rdi SWXP_CFG2_TXSLOT p * 2 ^ 23 + d.rdi SWXP_CFG2_GOFF p
      let i := d.swx.ringIdx.get ((p - 22) * 2 + 1) 0
      let a := base + i * 16
      let buf := leVal (d.peek a 4)
      let len := leVal (d.peek (a + 4) 2)
      if leVal (d.peek (a + 6) 2) % 2 = 0 then d
      else
        let d := { d with swx := { d.swx with ringIdx := d.swx.ringIdx.set ((p - 22) * 2 + 1) ((i + 1) % 64) } }
        if 0x20000000 ≤ buf ∧ buf + 2048 ≤ 0x20A00000 then
          let d := d.swxIngress p (frameOfBytes (d.peek buf len)) ({} : SecIn) t
          (d.poke (a + 6) (leOf 2 0 ++ leOf 8 (d.gptpAt t))).wri SWXP_EVT_TXDONE p 1
        else (d.poke (a + 6) (leOf 2 2)).wri SWXP_EVT_TXDONE p 1
    else d) s

/-- The link of an external port is lost at time `t` (R435, R436): a frame that is being sent is lost. -/
def Dev.swxLinkLost (d : Dev) (p t : Nat) : Dev :=
  if external p ∧ d.rdi SWXP_STAT_LSTATE p = 2 then
    let mid := d.sendingAt p t
    let d := { d with swx := { d.swx with sending := d.swx.sending.erase p } }
    let d := if mid then ((d.inci SWXP_TXABORT_COUNT p).wri SWXP_EVT_TXABORT p 1).trig 0x0463 [p] else d
    let d := ((d.wri SWXP_STAT_LINK p 0).wri SWXP_EVT_LINKDN p 1).trig 0x0460 [p]
    if (List.range 8).any fun q => !(d.queue (p * 8 + q)).isEmpty then d.swxHold p
    else d.wri SWXP_STAT_LSTATE p 0
  else d

/-- SWX_LINK_LOST, at local time `t` ns. -/
def execSwxLinkLost (p t : Nat) (s : State) : Host.Outcome State Fault Refusal :=
  onDev (fun d => d.swxLinkLost p t) s

/-- Whether the lands card enables a port (R53, R412); deckless, E6 to E13 are enabled (R417). -/
def Dev.portEnabled (d : Dev) (p : Nat) : Bool :=
  if d.deck.running.isNone then decide (6 ≤ p) && decide (p ≤ 13)
  else d.rdeck.lands.any fun r =>
    (r.kind == 5 && r.unit == p) || (r.kind == 4 && r.unit + 6 == p) || (r.kind == 3 && r.unit + 14 == p)

/-- SWX_LINK_RETURN (R412, R436): link up on an enabled external port; on a SerDes port, whose PHY reports its rate in Mbit/s, it is
evidence of the external PHY (R79). -/
def execSwxLinkReturn (p rate : Nat) (s : State) : Host.Outcome State Fault Refusal :=
  onDev (fun d =>
    if external p ∧ d.portEnabled p ∧ d.rdi SWXP_STAT_LSTATE p ≠ 2 then
      let d := ((d.wri SWXP_STAT_LSTATE p 2).wri SWXP_STAT_LINK p 1).wri SWXP_STAT_HOLDLEFT p 0
      let d := (d.wri SWXP_EVT_LINKUP p 1).trig 0x0461 [p]
      let d := if p ≤ 5 then { d with swx := { d.swx with rates := d.swx.rates.set p rate } } else d
      d.evidenceOf fun r => r.kind == 5 && r.unit == p
    else d) s

/-- SWX_LINK_HOLD_EXPIRY (R436): every queued frame is flushed and the port is DOWN. -/
def execSwxLinkHoldExpiry (p : Nat) (s : State) : Host.Outcome State Fault Refusal :=
  onDev (fun d => if external p ∧ d.rdi SWXP_STAT_LSTATE p = 1 then d.swxHoldEnd p else d) s

/-- SWX_GATE_ENTRY (R430, R432): position `pos` of a port's gPTP-timed list begins. After a clock step the list waits
for its position 0. -/
def execSwxGateEntry (p pos : Nat) (s : State) : Host.Outcome State Fault Refusal :=
  onDev (fun d =>
    if external p ∧ d.rdi SWXP_CFG1_GSRC p = 1 ∧ pos < d.rdi SWXP_CFG1_GLEN p ∧
        (pos = 0 ∨ (d.swx.gatePos.find p).isSome) then
      match (List.range 256).find? fun i =>
          d.rdi SWX_GL_INTV_INTERVAL i != 0 && d.rdi SWX_GL_CTL_PORT i == p && d.rdi SWX_GL_CTL_POS i == pos with
      | some i =>
        let d := d.wri SWXP_STAT_GATES p (d.rdi SWX_GL_CTL_STATES i)
        { d with swx := { d.swx with gatePos := d.swx.gatePos.set p pos } }
      | none => d
    else d) s

/-- GPTP_SYNC (R439): a Sync message on slave port `p`, one of E0 to E13; the domain is synchronised. -/
def execGptpSync (p : Nat) (s : State) : Host.Outcome State Fault Refusal :=
  onDev (fun d =>
    if p ≤ 13 then
      let d := (d.qualRef 0).wr SWX_GPTP_SLAVE p
      if d.rd SWX_GPTP_STATE = 1 then d
      else ((d.wr SWX_GPTP_STATE 1).wr SWX_GEVT_GPTP 1).trig 0x0467 [p]
    else d) s

/-- GPTP_SYNC_TIMEOUT (R98, R439): synchronisation is lost and the clock holds over; network time as the pick source is lost. -/
def execGptpSyncTimeout (s : State) : Host.Outcome State Fault Refusal :=
  onDev (fun d =>
    if d.rd SWX_GPTP_STATE = 1 then
      let d := ((d.wr SWX_GPTP_STATE 2).wr SWX_GPTP_SLAVE 0xFF).wr SWX_GEVT_GPTP 1
      ((d.wr SWX_GEVT_GPTPLOST 1).trig 0x0468 []).lossOf 0 0
    else d) s

/-- GPTP_CLOCK_STEP (R432): every gPTP-driven list ends its cycle; its gates are open until the next cycle start. -/
def execGptpClockStep (s : State) : Host.Outcome State Fault Refusal :=
  onDev (fun d =>
    let d := d.each ((List.range 22).filter fun p => d.rdi SWXP_CFG1_GSRC p == 1) fun d p =>
      let d := d.wri SWXP_STAT_GATES p 0xFF
      { d with swx := { d.swx with gatePos := d.swx.gatePos.erase p } }
    d.wr SWX_GEVT_GATESTEP 1) s

/-- PPS_IN_EDGE (R439): a rising edge at `ns` of the working clock. -/
def execPpsInEdge (ns : Nat) (s : State) : Host.Outcome State Fault Refusal :=
  onDev (fun d =>
    if d.rdeck.lands.any fun r => r.kind == 6 && r.unit == 0 then d.wr SWX_PPSIN_NS (ns % 1000000000) else d) s

/-- PPS_OUT_PULSE (R439): a 1 ms pulse at a whole second of the working clock. -/
def execPpsOutPulse (s : State) : Host.Outcome State Fault Refusal :=
  onDev (fun d =>
    if d.rdeck.lands.any fun r => r.kind == 6 && r.unit == 1 then d.send .pps else d) s

/-- FRER_RESET (R441): the reset timeout of a recovery function expires. -/
def execFrerReset (r : Nat) (s : State) : Host.Outcome State Fault Refusal :=
  onDev (fun d =>
    if (d.swx.frer.get r {}).active then
      let d := { d with swx := { d.swx with frer := d.swx.frer.erase r } }
      (d.wr SWX_GEVT_FRERRST 1).trig 0x0469 [r]
    else d) s

/-- MACSEC_OLD_KEY_EXPIRY (R444): 2,000 ms after a receive key switch the old key is discarded. -/
def execMacsecOldKeyExpiry (p : Nat) (s : State) : Host.Outcome State Fault Refusal :=
  onDev (fun d => d.setMacsec p { d.macsec p with oldHeld := false, oldPn := 0 }) s

end Sys2Proof.Machine
end

