-- ==== Sys2Proof/Machine/Bridge.lean ====
section
/-! DEFINITION. The far-bus bridge: requests, answers, posted writes, reads, collect slots, the halted window, inbound
writes, polls and probes (R455 to R494). -/

namespace Sys2Proof.Machine

/-- The width in bytes that SIZE stands for (R460). -/
def farBytes (size : Nat) : Nat := 2 ^ (size % 4)

/-- The OWNER of an outbound window's card record (R455, R456). -/
def Dev.winOwner (d : Dev) (w : Nat) : Nat :=
  ((d.rdeck.bridgeRecs.find? fun r => r.kind == 1 && r.index == w).map fun r => r.owner).getD 0xFFFF

/-- A declared outbound window (R480). -/
def Dev.winUp (d : Dev) (w : Nat) : Bool := d.rdi BRG_WSTATE_STATE w != 0

def Dev.winHalted (d : Dev) (w : Nat) : Bool := d.rdi BRG_WSTATE_STATE w == 2

/-! ### Sending (R460 to R463, R466) -/

/-- The bytes of a PDU (R460). -/
def farPdu (type size seq addr : Nat) (data : List Byte) : List Byte :=
  [BitVec.ofNat 8 (type % 16 * 16 + size % 4 * 4), BitVec.ofNat 8 seq] ++ beOf 2 addr ++ data

/-- The frame that carries a PDU on 10BASE-T1S (R463). -/
def Dev.farFrame (d : Dev) (node : Nat) (pdu : List Byte) : EthFrame :=
  { dmac := 0x020000000000 + d.rd BRG_CFG_NET * 256 + node, smac := d.ownMac, vid := d.rd BRG_CFG_VID,
    pcp := d.rd BRG_CFG_PCP, tagged := true, len := 64, etype := 0x88B5, payload := padTo 42 ([1, 0] ++ pdu) }

/-- A PDU goes out: on CAN from a buffer, which a refusing controller does not start (R467), else as a
frame that enters the switch at I4 (R411). -/
def Dev.farSend (d : Dev) (bus unit node buf : Nat) (pdu : List Byte) : Dev :=
  if bus = 0 then
    let o := canObj unit buf
    let d := (d.setTxObj o { payload := pdu, ready := false, stale := false, held := true }).wri CAN_TXLEN_LEN
      (unit * 32 + buf) pdu.length
    if d.canRefuses unit then d else d.canStart unit buf
  else d.swxIngress 26 (d.farFrame node pdu) {} d.trd.localNs

/-- The request of a window's outstanding work is sent, first or again (R462, R466, R467). -/
def Dev.farRequest (d : Dev) (w : Nat) (o : Outstanding) : Dev :=
  let k := o.work
  let pdu := if k.kind = .write then farPdu 1 k.size o.seq k.addr (beOf (farBytes k.size) k.data)
    else farPdu 2 k.size o.seq k.addr []
  d.farSend (d.rdi BRG_WCFG_BUS w) (d.rdi BRG_WCFG_UNIT w) (d.rdi BRG_WCFG_NODE w) (d.rdi BRG_WCFG_TXBUF w) pdu

/-! ### Room for posted writes (R469) -/

/-- A write to a window finds room. -/
def Dev.winRoom (d : Dev) (w : Nat) : Bool :=
  decide ((d.win w).writes < d.rdi BRG_WCFG_PWMAX w) && decide (d.rd BRG_STAT_ENTRIES < 256)

/-- A write is accepted and takes the next number. -/
def Dev.winAccept (d : Dev) (w off size data : Nat) : Dev :=
  let n := (d.rdi BRG_WSEQ_NUM w + 1) % 2 ^ 32
  let x := d.win w
  ((d.wri BRG_WSEQ_NUM w n).setWin w { x with
    work := x.work ++ [{ kind := .write, addr := off, size := size, data := data, num := n }] }).showWrites w

/-- The write of a hart is stalled no longer. -/
def Dev.stallGone (d : Dev) (h : Nat) : Dev :=
  { d with brg := { d.brg with writeStall := d.brg.writeStall.filter fun e => e.1 != h } }

/-- Stalled writes take the room that has come free, in the order in which they arrived. -/
def Dev.winUnstall (d : Dev) : Dev :=
  d.each d.brg.writeStall fun d e =>
    let x := e.2
    if d.winRoom x.1 then
      let d := d.winAccept x.1 x.2.1 x.2.2.1 x.2.2.2
      (d.stallGone e.1).answered 0
    else d

/-- A write to a halted window is refused (R478). -/
def Dev.winRefuse (d : Dev) (w : Nat) : Dev := (d.inci BRG_WCNT2_REFUSED w).faulted

/-! ### Results (R471, R472, R477, R478, R485, R486) -/

/-- The result of a read: at the stalled hart, in the collect slot, or nowhere. -/
def Dev.readResult (d : Dev) (w : Nat) (k : Work) (code value : Nat) : Dev :=
  if k.dropped then d
  else if k.stalled then
    if code = 0 then d.readEnds k.hart 0 0 0 value else d.readEnds k.hart 2 code 0 0
  else if k.deferred then
    let d := ((d.wri BRG_CSTAT_DONE k.num 1).wri BRG_CSTAT_CODE k.num code).wri BRG_CDATA_DATA k.num
      (if code = 0 then value else 0)
    d.wri BRG_WEVT_COLLECT w 1
  else d

/-- A read that fails with an error or a timeout (R492, R494). -/
def Dev.readFails (d : Dev) (w : Nat) (k : Work) (code : Nat) : Dev :=
  if k.dropped then d else ((d.readResult w k code 0).wri BRG_WEVT_RDERR w 1).trig 0x0472 [w]

/-- The window halts: reads in it end with HALTED and stalled writes are refused (R477, R478, R481). -/
def Dev.winHalt (d : Dev) (w : Nat) : Dev :=
  let x := d.win w
  let reads := x.work.filter fun k => k.kind == .read
  let d := d.setWin w { x with work := x.work.filter fun k => k.kind != .read }
  let d := (d.wri BRG_WSTATE_STATE w 2).wri BRG_WEVT_HALT w 1
  let d := d.each reads fun d k => d.readResult w k brHALTED 0
  let d := d.each (d.brg.writeStall.filter fun e => e.2.1 == w) fun d e => (d.stallGone e.1).winRefuse w
  d.showWrites w

/-- The outstanding request of a window ends with a CODE (0 for success) and a value. -/
def Dev.farEnds (d : Dev) (w : Nat) (o : Outstanding) (code value : Nat) : Dev :=
  let k := o.work
  let d := d.setWin w { d.win w with sent := none }
  match k.kind with
  | .write =>
    if code = 0 then (d.showWrites w).winUnstall
    else
      let d := d.wri BRG_WFAIL_NUM w k.num
      let d := ((d.wri BRG_WFINFO_ADDR w k.addr).wri BRG_WFINFO_SIZE w k.size).wri BRG_WFINFO_CODE w code
      let d := d.winHalt w
      (d.trig 0x0470 [k.num, k.addr * 65536 + k.size * 256 + code]).winUnstall
  | .read => if code = 0 then d.readResult w k 0 value else d.readFails w k code
  | .poll =>
    if code ≠ 0 then d.wri BRG_WEVT_RDERR w 1
    else
      let x := d.win w
      if !x.polled then (d.setWin w { x with polled := true }).wri BRG_WSVAL_VALUE w value
      else if d.rdi BRG_WSVAL_VALUE w = value then d
      else (d.wri BRG_WSVAL_VALUE w value).wri BRG_WEVT_STATCHG w 1
  | .probe =>
    if code ≠ 0 then d
    else
      let d := d.wri BRG_WID_ID w value
      match d.rdeck.inventory.find? fun r => r.kind == 4 && r.unit == w with
      | some r => if r.key = value then d.evidence r else (d.wri BRG_WEVT_IDMIS w 1).trig 0x0474 [w]
      | none => (d.wri BRG_WEVT_IDMIS w 1).trig 0x0474 [w]

/-- The request is sent again, or fails when its resends are used up (R467). -/
def Dev.farAgain (d : Dev) (w : Nat) (o : Outstanding) (busy : Bool) : Dev :=
  if o.resends < d.rdi BRG_WPOLL_RETRIES w then
    let o := { o with resends := o.resends + 1, busy := busy }
    ((d.setWin w { d.win w with sent := some o }).inci BRG_WCNT_RETRIES w).farRequest w o
  else d.farEnds w o (if busy then 0x04 else brTIMEOUT) 0

/-! ### The start of a window (R480) -/

/-- An outbound window is declared: its queue is empty, a probe is due and the next poll fills BRG_WSVALk (R480, R485,
R486). -/
def Dev.winStart (d : Dev) (w : Nat) : Dev :=
  let n := (d.win w).nextSeq
  ((d.setWin w { nextSeq := n, probeDue := true }).wri BRG_WSTATE_STATE w 1).showWrites w

/-- A window holds no posted write and no open read (R72). -/
def Dev.winQuiet (d : Dev) (w : Nat) : Bool :=
  let x := d.win w
  x.writes == 0 && !(x.work.any fun k => k.kind == .read) &&
    !(match x.sent with | some o => o.work.kind == .read | none => false) &&
    !(d.brg.slots.items.any fun e => d.rdi BRG_CSTAT_WIN e.1 == w)

/-! ### Accesses of software (R456, R469, R471) -/

/-- What an access to an outbound window meets: none when it may go on, else the refused state (R456, R215). -/
def Dev.winAccess (d : Dev) (init w off size : Nat) (write : Bool) : Option Dev :=
  let c := d.tag init
  if !d.winUp w then some (d.inc BRG_ACCERR_ACC_ERR).faulted
  else if c ≠ d.winOwner w ∨ c = 0xFFFF ∨ (write ∧ d.ctxBarred c) then some (d.refuse c BRG_ACCERR_ACC_ERR 0).faulted
  else if 2 < size ∨ off % farBytes size ≠ 0 ∨ off ≥ 0x10000 then some (d.inc BRG_ACCERR_ACC_ERR).faulted
  else none

/-- BRG_WINDOW_WRITE (R469, R478): a write of `size` (0 8, 1 16, 2 32 bits) at offset `off` of window `w` is posted,
waits for room, or is refused. -/
def execBrgWindowWrite (init w off size data : Nat) (s : State) : Host.Outcome State Fault Refusal :=
  onDevBy init (fun d =>
    match d.winAccess init w off size true with
    | some r => r
    | none =>
      let v := data % 256 ^ farBytes size
      if d.winHalted w then d.winRefuse w
      else if d.winRoom w then (d.winAccept w off size v).answered 0
      else { d with brg := { d.brg with writeStall := (d.stallGone init).brg.writeStall ++ [(init, w, off, size, v)] },
                    access := { stalled := true } }) s

/-- BRG_WINDOW_READ (R471): a read joins the window's order and stalls its hart; a halted window answers HALTED. -/
def execBrgWindowRead (init w off size : Nat) (s : State) : Host.Outcome State Fault Refusal :=
  onDevBy init (fun d =>
    match d.winAccess init w off size false with
    | some r => r
    | none =>
      if d.winHalted w then d.readEnds init 2 brHALTED 0 0
      else
        let x := d.win w
        let k : Work := { kind := .read, addr := off, size := size, hart := init, ctx := d.tag init, stalled := true }
        { d.setWin w { x with work := x.work ++ [k] } with access := { stalled := true } }) s

/-- The work that stalls a hart. -/
def Work.stalls (h : Nat) (k : Work) : Bool := k.kind == .read && k.stalled && k.hart == h

/-- Replace the work that stalls a hart in a window. -/
def Window.unstall (x : Window) (h : Nat) (f : Work → Work) : Window :=
  { x with work := x.work.map fun k => if k.stalls h then f k else k,
           sent := x.sent.map fun o => if o.work.stalls h then { o with work := f o.work } else o }

/-- The window in which a hart's read is stalled, and the read. -/
def Dev.stalledRead (d : Dev) (h : Nat) : Option (Nat × Work) :=
  d.brg.win.items.findSome? fun e =>
    match e.2.work.find? (Work.stalls h) with
    | some k => some (e.1, k)
    | none => match e.2.sent with
      | some o => if o.work.stalls h then some (e.1, o.work) else none
      | none => none

/-- BRG_READ_STALL_END (R471): 2 µs have passed for the read that stalls hart `h`. -/
def execBrgReadStallEnd (h : Nat) (s : State) : Host.Outcome State Fault Refusal :=
  onDev (fun d =>
    match d.stalledRead h with
    | none => d
    | some (w, k) =>
      match d.slotPick with
      | some q =>
        let d := d.setWin w ((d.win w).unstall h fun k => { k with stalled := false, deferred := true, num := q })
        let d := { d with brg := { d.brg with slots := d.brg.slots.set q { owner := k.ctx } } }
        let d := ((d.wri BRG_CSTAT_BUSY q 1).wri BRG_CSTAT_DONE q 0).wri BRG_CSTAT_WIN q w
        let d := ((d.wri BRG_CSTAT_CODE q 0).wri BRG_CDATA_DATA q 0).wr BRG_STAT_SLOTS d.brg.slots.items.length
        d.readEnds h 1 0 q 0
      | none =>
        let d := d.setWin w ((d.win w).unstall h fun k => { k with stalled := false, dropped := true })
        (d.inc BRG_CNT_NOSLOT).readEnds h 2 brNOSLOT 0 0) s

/-- BRG_WRITE_STALL_END (R469): 2 µs have passed without a free entry. -/
def execBrgWriteStallEnd (h : Nat) (s : State) : Host.Outcome State Fault Refusal :=
  onDev (fun d =>
    match d.brg.writeStall.find? (·.1 == h) with
    | some x => ((d.stallGone h).wri BRG_WEVT_FULL x.2.1 1).faulted
    | none => d) s

/-! ### Requests and answers -/

/-- BRG_REQUEST_SEND (R466, R478): a window with no request outstanding takes its next work: a due probe first, then
the queue in order. A halted window sends probes alone. -/
def execBrgRequestSend (w : Nat) (s : State) : Host.Outcome State Fault Refusal :=
  onDev (fun d =>
    let x := d.win w
    let go := fun (k : Work) (y : Window) =>
      let o : Outstanding := { work := k, seq := x.nextSeq }
      (d.setWin w { y with sent := some o, nextSeq := (x.nextSeq + 1) % 256 }).farRequest w o
    if !d.winUp w ∨ x.sent.isSome then d
    else if x.probeDue then go { kind := .probe, addr := 0xFFFC, size := 2 } { x with probeDue := false }
    else if d.winHalted w then d
    else match x.work with
      | [] => d
      | k :: rest => go k { x with work := rest }) s

/-- A PDU from the satellite of window `w` (R461, R467); `data` is its value or its CODE. -/
def Dev.farAnswer (d : Dev) (w type seq addr data : Nat) : Dev :=
  if type ≠ 3 ∧ type ≠ 4 ∧ type ≠ 5 then d.inc BRG_INCNT_UNDECL
  else if !d.winUp w then d
  else match (d.win w).sent with
    | none => d.inci BRG_WCNT_STRAY w
    | some o =>
      let fits := type == 5 || (if o.work.kind = .write then type == 3 else type == 4)
      if o.seq ≠ seq ∨ o.work.addr ≠ addr ∨ !fits then d.inci BRG_WCNT_STRAY w
      else if type = 5 ∧ data % 256 = 0x04 then d.farAgain w o true
      else if type = 5 then d.farEnds w o (data % 256) 0
      else d.farEnds w o 0 (data % 256 ^ farBytes o.work.size)

/-- BRG_ANSWER (R461, R467): an answer reaches the bridge from the satellite of window `w`. -/
def execBrgAnswer (w type seq addr data : Nat) (s : State) : Host.Outcome State Fault Refusal :=
  onDev (fun d => d.farAnswer w type seq addr data) s

/-- BRG_RESPONSE_TIMEOUT (R467): RSPTO has passed without a matching answer. -/
def execBrgResponseTimeout (w : Nat) (s : State) : Host.Outcome State Fault Refusal :=
  onDev (fun d =>
    match (d.win w).sent with
    | some o => d.farAgain w o o.busy
    | none => d) s

/-! ### Collect slots (R472, R473) -/

/-- BRG_COLLECT_READ (R472, R493): a read of BRG_CDATAs; for the context that made the read it returns the data, and
frees the slot once the result has landed. -/
def execBrgCollectRead (init q : Nat) (s : State) : Host.Outcome State Fault Refusal :=
  onBlockBy init 0x40700000 (fun d =>
    if d.undeclared (d.tag init) then d.ctxTurnedAway (d.tag init)
    else match d.brg.slots.find q with
    | some x =>
      if x.owner = d.tag init then
        if d.flagi BRG_CSTAT_DONE q then
          let v := d.rdi BRG_CDATA_DATA q
          ((d.slotFree q).wri BRG_CDATA_DATA q 0).answered v
        else d.answered 0
      else d.answered 0
    | none => d.answered 0) s

/-- BRG_COLLECT_EXPIRY (R472): the collect timer of a landed result expires. -/
def execBrgCollectExpiry (q : Nat) (s : State) : Host.Outcome State Fault Refusal :=
  onDev (fun d =>
    if (d.brg.slots.find q).isSome ∧ d.flagi BRG_CSTAT_DONE q then
      (((d.slotFree q).wri BRG_CDATA_DATA q 0).inc BRG_CNT_EXPIRED).trig 0x0473 [q]
    else d) s

/-- BRG_CABORT (R215, R473, R475): the context that made a deferred read aborts it; a landed result stays. -/
def execBrgCabort (init q : Nat) (s : State) : Host.Outcome State Fault Refusal :=
  onBlockBy init 0x40700000 (fun d =>
    let c := d.tag init
    if d.ctxBarred c then (d.refuse c BRG_ACCERR_ACC_ERR 0).answered 0
    else
    let own : Bool := match d.brg.slots.find q with | some x => x.owner == d.tag init | none => false
    if own ∧ !d.flagi BRG_CSTAT_DONE q then
      let w := d.rdi BRG_CSTAT_WIN q
      let mine := fun (k : Work) => k.kind == .read && k.deferred && k.num == q && !k.dropped
      let x := d.win w
      let d := d.setWin w { x with
        work := x.work.filter fun k => !mine k,
        sent := x.sent.map fun o =>
          if mine o.work then { o with work := { o.work with deferred := false, dropped := true } } else o }
      ((d.wri BRG_CSTAT_CODE q brABORTED).slotFree q).answered 0
    else d.answered 0) s

/-! ### The acknowledgement of a halt (R479) -/

/-- A write to BRG_WACKk: refused but for the owner of a halted window. -/
def Dev.winAck (d : Dev) (init w : Nat) (f : Dev → Dev) : Dev :=
  let c := d.tag init
  if c ≠ d.winOwner w ∨ c = 0xFFFF ∨ d.ctxBarred c then (d.refuse c BRG_ACCERR_ACC_ERR 0).answered 0
  else if !d.winHalted w then (d.inc BRG_ACCERR_ACC_ERR).answered 0
  else (((((f (d.wri BRG_WSTATE_STATE w 1)).showWrites w).trig 0x0471 [w]).winUnstall).answered 0)

/-- BRG_WACK_RESUME (R479): MODE 1, the held writes are delivered in order. -/
def execBrgWackResume (init w : Nat) (s : State) : Host.Outcome State Fault Refusal :=
  onBlockBy init 0x40700000 (fun d => d.winAck init w fun d => d) s

/-- BRG_WACK_DISCARD (R479): MODE 2, the held writes are discarded and counted. -/
def execBrgWackDiscard (init w : Nat) (s : State) : Host.Outcome State Fault Refusal :=
  onBlockBy init 0x40700000 (fun d => d.winAck init w fun d =>
    let x := d.win w
    let n := (x.work.filter fun k => k.kind == .write).length
    (d.setWin w { x with work := x.work.filter fun k => k.kind != .write }).addi BRG_WCNT2_DISCARDED w n) s

/-! ### Inbound writes (R483, R484) -/

/-- The IACK of an IWRITE: from the first inbound window of the satellite, kept for a repeat. -/
def Dev.farIack (d : Dev) (w seq size addr code : Nat) (inw : Option Nat) : Dev :=
  let d := d.setWin w { d.win w with lastIn := some (seq, code) }
  let pdu := farPdu 7 size seq addr [BitVec.ofNat 8 code]
  match inw with
  | some i => d.farSend (d.rdi BRG_WCFG_BUS w) (d.rdi BRG_WCFG_UNIT w) (d.rdi BRG_WCFG_NODE w) (d.rdi BRG_INCFG_IACKBUF i) pdu
  | none => if d.rdi BRG_WCFG_BUS w = 1 then d.farSend 1 0 (d.rdi BRG_WCFG_NODE w) 0 pdu else d

/-- An IWRITE that repeats no SEQ: it writes a signal and is answered. -/
def Dev.iwriteNew (d : Dev) (w : Nat) (ins : List Nat) (inw : Option Nat) (seq size addr : Nat) (data : Value) : Dev :=
  let hit := ins.find? fun i =>
    let a := d.rdi BRG_INSTAT_ABASE i
    decide (a ≤ addr) && decide (addr < a + 8 * d.rdi BRG_INPOLL_COUNT i) && (addr - a) % 8 == 0
  match hit with
  | none => d.farIack w seq size addr 0x01 inw
  | some i =>
    let n := d.rdi BRG_INPOLL_SIGBASE i + (addr - d.rdi BRG_INSTAT_ABASE i) / 8
    match d.sigRec n with
    | none => d.farIack w seq size addr 0x01 (some i)
    | some r =>
      if farBytes size * 8 ≠ typeWidth r.type then d.farIack w seq size addr 0x02 (some i)
      else if d.ctxBarred r.writer then (d.inci BRG_WCNT_STRAY (64 + i)).farIack w seq size addr 0x06 (some i)
      else ((d.sigPut 12 r data).inci BRG_WCNT_RETRIES (64 + i)).farIack w seq size addr 0x00 (some i)

/-- The declared outbound window that names a satellite (R457, R463). -/
def Dev.winOf (d : Dev) (bus unit node : Nat) : Option Nat :=
  (List.range 64).find? fun w => d.winUp w && d.rdi BRG_WCFG_BUS w == bus && d.rdi BRG_WCFG_UNIT w == unit &&
    d.rdi BRG_WCFG_NODE w == node

/-- An IWRITE from a satellite (R483). -/
def Dev.farIwrite (d : Dev) (bus unit node seq size addr : Nat) (data : Value) : Dev :=
  match d.winOf bus unit node with
  | none => (d.inc BRG_INCNT_UNDECL).trig 0x0475 [node]
  | some w =>
    let ins := ((d.rdeck.bridgeRecs.filter fun r => r.kind == 2).map fun r => r.index).filter fun i =>
      d.rdi BRG_INCFG_BUS i == bus && d.rdi BRG_INCFG_UNIT i == unit && d.rdi BRG_INCFG_NODE i == node
    let inw := ins.head?
    match (d.win w).lastIn with
    | some (q, c) => if q = seq then d.farIack w seq size addr c inw else d.iwriteNew w ins inw seq size addr data
    | none => d.iwriteNew w ins inw seq size addr data

/-- The IWRITEs that wait in the inbound queue (R484). -/
def Dev.iwritesWaiting (d : Dev) : Nat := (d.brg.arrived.filter fun g => g.farType == 6).length

/-- BRG_IWRITE (R483, R484): an IWRITE reaches the bridge from a satellite; one that finds the inbound queue full is dropped. -/
def execBrgIwrite (bus unit node seq size addr : Nat) (data : Value) (s : State) :
    Host.Outcome State Fault Refusal :=
  onDev (fun d =>
    if 32 ≤ d.iwritesWaiting ∧ (d.winOf bus unit node).isSome then d.inc BRG_INCNT_DROPPED
    else d.farIwrite bus unit node seq size addr data) s

/-- A PDU as it arrives from a satellite: an IWRITE goes to the signals, everything else to the window that names the satellite
(R460, R461, R484). -/
def Dev.farArrive (d : Dev) (bus unit node : Nat) (pdu : List Byte) : Dev :=
  let head := (pdu.getD 0 0).toNat
  let size := head / 4 % 4
  let seq := (pdu.getD 1 0).toNat
  let addr := beVal ((pdu.drop 2).take 2)
  let value := fun n => beVal ((pdu.drop 4).take n)
  if head / 16 = 6 then d.farIwrite bus unit node seq size addr (BitVec.ofNat 64 (value (farBytes size)))
  else match d.winOf bus unit node with
    | none => d.inc BRG_INCNT_UNDECL
    | some w => d.farAnswer w (head / 16) seq addr (value (if head / 16 = 5 then 1 else farBytes size))

/-- A frame of a CAN controller that a window's filter takes goes to the bridge (R458, R462). -/
def Dev.farCan (d : Dev) (c : Nat) (f : CanFrame) : Dev := d.farArrive 0 c (f.ident % 128) f.data

/-- A frame that waits at I4 is taken: its source names the NODE of a BUS 1 window, and so the port (R457, R463). -/
def Dev.farEth (d : Dev) (f : EthFrame) : Dev :=
  let node := f.smac % 256
  let unit := (((List.range 64).find? fun w => d.winUp w && d.rdi BRG_WCFG_BUS w == 1 && d.rdi BRG_WCFG_NODE w == node).map
    fun w => d.rdi BRG_WCFG_UNIT w).getD 0
  d.farArrive 1 unit node (f.payload.drop 2)

/-- The bridge takes the frames that wait at I4, in order of arrival. -/
def Dev.farDrain (d : Dev) : Dev :=
  ({ d with brg := { d.brg with arrived := [] } } : Dev).each d.brg.arrived Dev.farEth

/-- BRG_POLL_DUE (R485): a status poll joins the queue at its tail; while halted polls are suspended. -/
def execBrgPollDue (w : Nat) (s : State) : Host.Outcome State Fault Refusal :=
  onDev (fun d =>
    if d.rdi BRG_WSTATE_STATE w = 1 ∧ d.rdi BRG_WPOLL_POLLMS w ≠ 0 then
      let x := d.win w
      d.setWin w { x with work := x.work ++
        [{ kind := .poll, addr := d.rdi BRG_WSTAT_STATADDR w, size := d.rdi BRG_WSTAT_SSIZE w }] }
    else d) s

/-- BRG_PROBE_DUE (R486): an identity probe goes before all other work. -/
def execBrgProbeDue (w : Nat) (s : State) : Host.Outcome State Fault Refusal :=
  onDev (fun d => if d.winUp w then d.setWin w { d.win w with probeDue := true } else d) s

end Sys2Proof.Machine
end

