-- ==== Sys2Proof/Machine/TimeTriggered.lean ====
section
/-! DEFINITION. The time-triggered controllers: slots, reception, the dynamic segment, the controller states and the
bus guardians (R385 to R410). -/

namespace Sys2Proof.Machine

def Dev.ttCtl (d : Dev) (t : Nat) : TtCtl := d.tt.get t {}

def Dev.setTtCtl (d : Dev) (t : Nat) (x : TtCtl) : Dev := { d with tt := d.tt.set t x }

/-- The object of a buffer (R129, R387). -/
def ttObj (t b : Nat) : Nat := 0x1000 + t * 256 + b

/-- Channels that the lands card connects, bit 0 A and bit 1 B (R53, R387). -/
def Dev.ttConnected (d : Dev) (t : Nat) : Nat :=
  b2n (d.rdeck.lands.any fun r => r.kind == 2 && r.unit == 2 * t) +
    2 * b2n (d.rdeck.lands.any fun r => r.kind == 2 && r.unit == 2 * t + 1)

/-- Channels that are guardian-passive (R403). -/
def Dev.ttPassive (d : Dev) (t : Nat) : Nat := d.rdi TT_STAT_PASSA t + 2 * d.rdi TT_STAT_PASSB t

/-- A buffer takes part in a cycle (R388). -/
def Dev.ttAdmitted (d : Dev) (t k cycle : Nat) : Bool :=
  let i := t * 256 + k
  cycle % 2 ^ d.rdi TT_BUFCFG_REP i == d.rdi TT_BUFCFG_BASE i

/-- Buffers of a kind in a slot and cycle. -/
def Dev.ttBufs (d : Dev) (t slot cycle : Nat) (kinds : List Nat) : List Nat :=
  (List.range 256).filter fun k =>
    kinds.contains (d.rdi TT_BUFCFG_KIND (t * 256 + k)) && d.rdi TT_BUFSLOT_SLOT (t * 256 + k) == slot &&
      d.ttAdmitted t k cycle

/-- A controller that is NORMAL_ACTIVE leaves that state: a pick source that counts its cycles is lost (R98, R398). -/
def Dev.ttInactive (d : Dev) (t : Nat) : Dev :=
  if d.rdi TT_STAT_STATE t = 3 then (d.setTtCtl t { d.ttCtl t with activeCycle := false }).lossOf 1 t else d

/-- The slot in progress; the register shows a static slot, else 0 (R407). -/
def Dev.ttAt (d : Dev) (t slot : Nat) : Dev :=
  let last := d.rdi TT_SLOTCFG_NSTATIC t + d.rdi TT_COLD_NMINI t
  let d := d.setTtCtl t { d.ttCtl t with slot := if slot ≤ last then slot else 0 }
  d.wri TT_STAT_SLOT t (if slot ≤ d.rdi TT_SLOTCFG_NSTATIC t then slot else 0)

/-- The state field changes with its event and code (R397); no slot is in progress in HALT. -/
def Dev.ttState (d : Dev) (t st code : Nat) : Dev :=
  let d := if st = 3 then d else d.ttInactive t
  let d := if st = 5 then d.ttAt t 0 else d
  ((d.wri TT_STAT_STATE t st).wri TT_EVT_STATE t 1).trig code [t]

/-- The controller returns to READY: it has left the cluster, and sends the schedule to the guardians again (R397, R401). Frames that
wait for their move stay, and so do dynamic buffers that are pending (R392, R394). -/
def Dev.ttReady (d : Dev) (t : Nat) : Dev :=
  let d := d.ttInactive t
  let x := d.ttCtl t
  let d := d.setTtCtl t { waiting := x.waiting, pending := x.pending, integrateOnly := x.rejoin }
  (d.wri TT_STAT_STATE t (if d.flt.busHeld then 0 else 1)).wri TT_STAT_SLOT t 0

/-- The bus die's reset takes a running controller to READY (R720). -/
def Dev.ttRestart (d : Dev) (t : Nat) : Dev := if d.rdi TT_STAT_STATE t = 0 then d else d.ttReady t

/-- A swap boundary or the host's restart order (R71, R397): the controller leaves the cluster at the end of the slot in progress; in
HALT it stays, and one with no card is not concerned. -/
def Dev.ttLeave (d : Dev) (t : Nat) : Dev :=
  let st := d.rdi TT_STAT_STATE t
  if st = 2 ∨ st = 3 ∨ st = 4 then
    if (d.ttCtl t).slot = 0 then d.ttReady t else d.setTtCtl t { d.ttCtl t with leaving := true }
  else d

/-- A swap brings a card for the controller (R71, R397): one that runs reintegrates as an integrating node. -/
def Dev.ttSwap (d : Dev) (t : Nat) : Dev :=
  if d.rdi TT_STAT_STATE t = 0 then d.ttReady t
  else
    let d := d.setTtCtl t { d.ttCtl t with rejoin := true }
    if d.rdi TT_STAT_STATE t = 1 then d.ttReady t else d.ttLeave t

/-- A sleep commit of its cluster (R397, R508): it leaves the cluster at the end of the slot in progress; a controller in HALT has left it
and stays there. -/
def Dev.ttSleep (d : Dev) (t : Nat) : Dev := if d.rdi TT_STAT_STATE t = 1 then d.ttReady t else d.ttLeave t

/-- Whether every connected channel is guardian-passive (R397, R403). -/
def Dev.ttAllPassive (d : Dev) (t : Nat) : Bool := d.ttPassive t != 0 && d.ttConnected t &&& (3 - d.ttPassive t) == 0

/-! ### Derived parameters (R386) -/

/-- A macrotick in ns (R386). -/
def Dev.ttMacrotick (d : Dev) (t : Nat) : Nat := d.rdi TT_CYCLE_UPM t * 25

/-- L_nom in ns (R386, R401). -/
def Dev.ttNominal (d : Dev) (t : Nat) : Nat := d.rdi TT_CYCLE_MACROS t * d.ttMacrotick t

/-- pRateCorrectionOut in µT (R386). -/
def Dev.ttRateOut (d : Dev) (t : Nat) : Nat := (d.rdi TT_CYCLE_MACROS t * d.rdi TT_CYCLE_UPM t * 3 + 999) / 1000

/-- pdListenTimeout in µT (R386). -/
def Dev.ttListen (d : Dev) (t : Nat) : Nat :=
  2 * (d.rdi TT_CYCLE_MACROS t * d.rdi TT_CYCLE_UPM t + d.ttRateOut t)

/-- F(p) in ns: the length of a frame with `p` payload words (R387). -/
def ttFrameNs (tss p : Nat) : Nat := (tss + 3 + 10 * (8 + 2 * p)) * 100

/-- The minislots that a dynamic frame of `p` words needs, from its action point to the end of the channel idle delimiter (R386;
DEDUCED from R387's measure of a static slot, log entry 62). -/
def Dev.ttMinislots (d : Dev) (t p : Nat) : Nat :=
  let mt := d.ttMacrotick t
  let slot := d.rdi TT_COLD_MINILEN t * mt
  if slot = 0 then 0 else (d.rdi TT_COLD_MAPO t * mt + ttFrameNs (d.rdi TT_CYCLE_TSS t) p + 1100 + slot - 1) / slot

/-- pLatestTx (R386): from the longest dynamic transmit frame of the card. -/
def Dev.ttLatest (d : Dev) (t : Nat) : Nat :=
  let long := ((List.range 256).filter fun k => d.rdi TT_BUFCFG_KIND (t * 256 + k) == 3).foldl
    (fun m k => max m (d.rdi TT_BUFCFG_PLEN (t * 256 + k))) 0
  d.rdi TT_COLD_NMINI t - d.ttMinislots t long

/-- The cycle count after `n` (R386): gCycleCountMax is followed by 0. -/
def Dev.ttNextCycle (d : Dev) (t n : Nat) : Nat := if d.rdi TT_CYCLE_CCMAX t ≤ n then 0 else n + 1

/-! ### The guardian's windows (R400, R401) -/

/-- The window of a static slot, in ns after the cycle start, before scaling (R400). -/
def Dev.ttWindow (d : Dev) (t slot : Nat) : Nat × Nat :=
  let len := d.rdi TT_SLOTCFG_SLOTLEN t * d.ttMacrotick t
  let selv := d.rdi TT_GUARD_SELV t * 25
  ((slot - 1) * len + selv, slot * len - selv)

/-- The static slots of the cycle in progress for which the guardian of a channel opens a window (R400). -/
def Dev.ttWindowSlots (d : Dev) (t ch : Nat) : List Nat :=
  ((List.range 256).filter fun k => d.rdi TT_BUFCFG_KIND (t * 256 + k) == 1 &&
    (d.rdi TT_BUFSLOT_CHMASK (t * 256 + k)).testBit ch && d.ttAdmitted t k (d.rdi TT_STAT_CYCLE t)).map
    fun k => d.rdi TT_BUFSLOT_SLOT (t * 256 + k)

/-- The guardian of channel `ch` cuts a frame that runs from `from` to `til` ns after the last mark, on its own oscillator: no window,
scaled by L / L_nom, holds it whole (R400 to R402). -/
def Dev.ttCut (d : Dev) (t ch start til : Nat) : Bool :=
  let x := d.ttCtl t
  let nom := d.ttNominal t
  let l := if x.lastLen = 0 then nom else x.lastLen
  x.windowsClosed || !(d.ttWindowSlots t ch).any fun s =>
    decide ((d.ttWindow t s).1 * l ≤ start * nom) && decide (til * nom ≤ (d.ttWindow t s).2 * l)

/-- The channels of a mask that a condition admits. -/
def chMask (mask : Nat) (ok : Nat → Bool) : Nat :=
  (if mask.testBit 0 && ok 0 then 1 else 0) + (if mask.testBit 1 && ok 1 then 2 else 0)

/-- One static transmit buffer at its slot: a data frame when ready and not stale, else a null frame; while the idle
card runs, as its frame record says (R154, R389). The frame runs from `start` to `til` on the guardian's timing; nothing leaves on a
passive channel, nor outside the guardian's windows (R400, R401, R403). -/
def Dev.ttSend (d : Dev) (t slot start til k : Nat) : Dev :=
  let i := t * 256 + k
  let o := ttObj t k
  let x := d.txObj o
  let data := match d.trd.idleFrames.find o with
    | some v => v == 1
    | none => x.ready && !x.stale
  let n := 2 * d.rdi TT_BUFCFG_PLEN i
  let payload := if data then padTo n x.payload else padTo n []
  let key := d.flagi TT_BUFCFG_STARTUP i
  let live := chMask (d.rdi TT_BUFSLOT_CHMASK i) fun ch => !(d.ttPassive t).testBit ch && !d.ttCut t ch start til
  let d := if live = 0 then d
    else d.send (.ttFrame t slot (d.rdi TT_STAT_CYCLE t) live key (key && d.flagi TT_COLD_CSEN t) data payload)
  d.setTxObj o { x with ready := x.ready && d.flagi TT_BUFCFG_KEEP i, stale := false }

/-- TT_SLOT_START (R389, R390, R407): a slot begins (one past the dynamic segment, or 0: the network idle time). The controller latches
the buffers of one of its static slots and sends them, the frame running from `start` to `til` ns after the last mark on the
guardian's timing. In STARTUP the key slot's buffer alone is sent; a controller that was to leave has left. -/
def execTtSlotStart (t slot start til : Nat) (s : State) : Host.Outcome State Fault Refusal :=
  onDev (fun d =>
    let st := d.rdi TT_STAT_STATE t
    if st = 2 ∨ st = 3 ∨ st = 4 then
      if (d.ttCtl t).leaving then d.ttReady t
      else
        let d := d.ttAt t slot
        let key := (List.range 256).filter fun k =>
          d.flagi TT_BUFCFG_STARTUP (t * 256 + k) && d.rdi TT_BUFCFG_KIND (t * 256 + k) == 1 &&
            d.rdi TT_BUFSLOT_SLOT (t * 256 + k) == slot
        let ks := if st = 2 then key
          else if st = 3 then (d.ttBufs t slot (d.rdi TT_STAT_CYCLE t) [1]).filter (fun k => !key.contains k) ++ key
          else []
        d.each ks fun d k => d.ttSend t slot start til k
    else d) s

/-- A frame waits for its move into a receive object (R392). -/
def Dev.ttWait (d : Dev) (t k : Nat) (data : List Byte) : Dev :=
  let x := d.ttCtl t
  d.setTtCtl t { x with waiting := x.waiting ++ [{ obj := ttObj t k, payload := data }] }

/-- The payload of a time-triggered bobbin record (R395). -/
def TtHeard.record (h : TtHeard) (slot cycle : Nat) (onB : Bool) : List Byte :=
  leOf 2 slot ++ leOf 1 cycle ++ leOf 1 (b2n onB + 2 * b2n h.preamble) ++ leOf 2 h.data.length ++ leOf 2 0 ++
    leOf 8 h.soft ++ h.data

/-- What channel `ch` heard, for a channel mask. -/
def TtFrame.on (f : TtFrame) (mask ch : Nat) : Option TtHeard :=
  if mask.testBit ch then (if ch = 0 then f.a else f.b) else none

/-- The valid non-null frames for a buffer, with the channel: one heard alike on both channels counts once, from channel A (R392); two
that differ both count, A's first (DEDUCED, log entry 62). -/
def TtFrame.taken (f : TtFrame) (mask : Nat) : List (Bool × TtHeard) :=
  let a := (f.on mask 0).filter fun h => !h.null
  let b := (f.on mask 1).filter fun h => !h.null
  match a, b with
  | some x, some y => if x.data = y.data ∧ x.preamble = y.preamble then [(false, x)] else [(false, x), (true, y)]
  | some x, none => [(false, x)]
  | none, some y => [(true, y)]
  | none, none => []

/-- A frame enters the bobbin of a KIND 5 buffer (R395). -/
def Dev.ttBobbin (d : Dev) (t i slot : Nat) (h : Bool × TtHeard) : Dev :=
  let q := d.queueOf (d.route (125 + 4 * t)) (d.rdi TT_BUFCFG_BOB i)
  let rec_ := h.2.record slot (d.rdi TT_STAT_CYCLE t) h.1
  let took := d.bobTakes q rec_
  let d := d.bobPut q 2 rec_
  if took then d.wri TT_EVT_RXBOB t 1 else d.trig 0x0458 [t]

/-- A slot at one receive buffer (R392, R395). The controller's own frame that the guardian cut counts no SLOTERR (R402). -/
def Dev.ttTake (d : Dev) (t : Nat) (f : TtFrame) (k : Nat) : Dev :=
  let i := t * 256 + k
  let kind := d.rdi TT_BUFCFG_KIND i
  let mask := d.rdi TT_BUFSLOT_CHMASK i
  if (f.on mask 0).isNone ∧ (f.on mask 1).isNone then
    if kind = 2 ∧ !(d.ttBufs t f.slot (d.rdi TT_STAT_CYCLE t) [1]).any
        (fun k => d.rdi TT_BUFSLOT_CHMASK (t * 256 + k) &&& mask != 0) then d.inci TT_RXCNT_SLOTERR t
    else d
  else d.each (f.taken mask) fun d h => if kind = 5 then d.ttBobbin t i f.slot h else d.ttWait t k h.2.data

/-- The consistency check hears the startup frames of another coldstart node (R399). -/
def Dev.ttHear (d : Dev) (t : Nat) (f : TtFrame) : Dev :=
  let x := d.ttCtl t
  let startup := f.a.any (fun h => h.startup) || f.b.any fun h => h.startup
  if x.phase = .checking ∧ startup then
    if d.rdi TT_STAT_CYCLE t % 2 = 0 then d.setTtCtl t { x with heardEven := true }
    else d.setTtCtl t { x with heardOdd := true }
  else d

/-- TT_FRAME_RECEIVED (R392, R395): what the controller heard in a slot of the cycle in progress; none on a channel stands for an empty
slot or an invalid frame. A valid frame, null or not, is evidence of presence. -/
def execTtFrameReceived (t : Nat) (f : TtFrame) (s : State) : Host.Outcome State Fault Refusal :=
  onDev (fun d =>
    let st := d.rdi TT_STAT_STATE t
    if st = 2 ∨ st = 3 ∨ st = 4 then
      if (d.ttCtl t).leaving ∧ f.slot ≠ (d.ttCtl t).slot then d.ttReady t
      else
        let d := (d.ttAt t f.slot).ttHear t f
        let d := d.each (d.ttBufs t f.slot (d.rdi TT_STAT_CYCLE t) [2, 4, 5]) fun d k => d.ttTake t f k
        if f.a.isSome ∨ f.b.isSome then d.evidenceOf fun r => r.kind == 2 && r.unit == t && r.key == f.slot else d
    else d) s

/-- TT_DYNAMIC_SEND (R394): the frame ID of a pending dynamic buffer comes, at minislot `mini` of the dynamic segment, counted from 1. A
buffer whose channels are all guardian-passive stays pending (R403). -/
def execTtDynamicSend (t k mini : Nat) (s : State) : Host.Outcome State Fault Refusal :=
  onDev (fun d =>
    let i := t * 256 + k
    let x := d.ttCtl t
    let cycle := d.rdi TT_STAT_CYCLE t
    if x.leaving then d.ttReady t
    else if d.rdi TT_STAT_STATE t = 3 ∧ d.rdi TT_BUFCFG_KIND i = 3 ∧ x.pending.contains k ∧ d.ttAdmitted t k cycle then
      let slot := d.rdi TT_BUFSLOT_SLOT i
      let d := d.ttAt t slot
      if d.ttLatest t < mini then d.inci TT_TXCNT_LATE t
      else
        let o := d.txObj (ttObj t k)
        let live := chMask (d.rdi TT_BUFSLOT_CHMASK i) fun ch => !(d.ttPassive t).testBit ch
        if live = 0 then d
        else
          let d := d.send (.ttFrame t slot cycle live false false true (padTo (2 * d.rdi TT_BUFCFG_PLEN i) o.payload))
          let d := d.setTxObj (ttObj t k) { o with ready := false, stale := false }
          (d.setTtCtl t { d.ttCtl t with pending := x.pending.filter (· ≠ k) }).wri TT_EVT_DYNDONE t 1
    else d) s

/-- A controller enters STARTUP from READY (R397, R403): as a coldstart node it listens when CSEN is 1, and guardian-passive is cleared
on both channels. -/
def Dev.ttAwake (d : Dev) (t : Nat) : Dev :=
  let d := ((d.wri TT_STAT_STATE t 2).wri TT_STAT_PASSA t 0).wri TT_STAT_PASSB t 0
  let d := d.wri TT_STAT_ATTLEFT t (d.rdi TT_COLD_ATTEMPTS t)
  let d := (d.fwClear (.truncation t 0)).fwClear (.truncation t 1)
  let x := d.ttCtl t
  d.setTtCtl t { x with phase := if d.flagi TT_COLD_CSEN t ∧ !x.integrateOnly then .listening else .integrating,
                        missing := 0, regained := 0 }

/-- TT_LISTEN_TIMEOUT (R399): the bus stayed silent for `silent` µT, and at pdListenTimeout a coldstart node sends its symbol. -/
def execTtListenTimeout (t silent : Nat) (s : State) : Host.Outcome State Fault Refusal :=
  onDev (fun d =>
    if d.rdi TT_STAT_STATE t = 2 ∧ (d.ttCtl t).phase = .listening ∧ 0 < d.rdi TT_STAT_ATTLEFT t ∧ d.ttListen t ≤ silent then
      (d.wri TT_STAT_ATTLEFT t (d.rdi TT_STAT_ATTLEFT t - 1)).setTtCtl t { d.ttCtl t with phase := .symbol }
    else d) s

/-- The startup can complete (R399): not while a coldstart attempt is in collision resolution, and out of the consistency check only
when another node's startup frames came in an even and an odd cycle. -/
def TtCtl.joined (x : TtCtl) : Bool :=
  match x.phase with
  | .symbol | .resolving => false
  | .checking => x.heardEven && x.heardOdd
  | .integrating | .listening => true

/-- TT_STARTUP_COMPLETE (R397): the controller is NORMAL_ACTIVE, and passes on to NORMAL_PASSIVE when every connected
channel became guardian-passive during the startup. -/
def execTtStartupComplete (t : Nat) (s : State) : Host.Outcome State Fault Refusal :=
  onDev (fun d =>
    if d.rdi TT_STAT_STATE t = 2 ∧ (d.ttCtl t).joined ∧ !(d.ttCtl t).leaving then
      let d := d.setTtCtl t { d.ttCtl t with phase := .integrating, missing := 0, regained := 0, activeCycle := false }
      let d := d.ttState t 3 0x0450
      if d.ttAllPassive t then d.ttState t 4 0x0451 else d
    else d) s

/-- TT_COLDSTART_ABANDON (R399): a collision avoidance symbol in the listen time, or a valid startup frame during collision
resolution: the attempt is abandoned for another node, and the node listens again; the symbol stays counted. -/
def execTtColdstartAbandon (t : Nat) (s : State) : Host.Outcome State Fault Refusal :=
  onDev (fun d =>
    let p := (d.ttCtl t).phase
    if d.rdi TT_STAT_STATE t = 2 ∧ (p = .listening ∨ p = .symbol ∨ p = .resolving) then
      (d.setTtCtl t { d.ttCtl t with phase := .listening }).trig 0x0453 [t]
    else d) s

/-- TT_COLDSTART_EXHAUSTED (R397): the attempts are used up and the node only integrates until the next READY. -/
def execTtColdstartExhausted (t : Nat) (s : State) : Host.Outcome State Fault Refusal :=
  onDev (fun d =>
    if d.rdi TT_STAT_STATE t = 2 ∧ d.flagi TT_COLD_CSEN t ∧ d.rdi TT_STAT_ATTLEFT t = 0 ∧ (d.ttCtl t).phase = .listening then
      let d := d.setTtCtl t { d.ttCtl t with integrateOnly := true, phase := .integrating }
      (d.wri TT_EVT_COLDEX t 1).trig 0x0454 [t]
    else d) s

/-- TT_CLOCK_CORRECTION_MISSING (R386, R397): a double cycle ends without clock correction; 2 in a row lead to
NORMAL_PASSIVE and 4 to HALT. -/
def execTtClockCorrectionMissing (t : Nat) (s : State) : Host.Outcome State Fault Refusal :=
  onDev (fun d =>
    let st := d.rdi TT_STAT_STATE t
    if st = 3 ∨ st = 4 then
      let x := d.ttCtl t
      let d := d.setTtCtl t { x with missing := x.missing + 1, regained := 0 }
      if 4 ≤ x.missing + 1 then d.ttState t 5 0x0452
      else if st = 3 ∧ 2 ≤ x.missing + 1 then d.ttState t 4 0x0451
      else d
    else d) s

/-! ### Clock correction: the fault-tolerant midpoint (R385, R386) -/

/-- The largest and the smallest value of a list. -/
def largest (l : List Int) : Int := l.tail.foldl max (l.headD 0)

def smallest (l : List Int) : Int := l.tail.foldl min (l.headD 0)

/-- A list without its `k` largest and `k` smallest values. -/
def trimmed : Nat → List Int → List Int
  | 0, l => l
  | k + 1, l => let m := l.erase (largest l); trimmed k (m.erase (smallest m))

/-- The fault-tolerant midpoint of ISO 17458-2: of up to 2 values none is left out, of 3 to 7 one at each end, of 8 or more two
(PRESUMED, log entry 62). -/
def midpoint (l : List Int) : Int :=
  let m := trimmed (if l.length ≤ 2 then 0 else if l.length ≤ 7 then 1 else 2) l
  (largest m + smallest m).tdiv 2

/-- A correction is held to its bound (R386). -/
def bounded (v : Int) (bound : Nat) : Int := max (-(bound : Int)) (min v bound)

/-- pClusterDriftDamping of 1 µT (R386). -/
def damped (v : Int) : Int := if v > 1 then v - 1 else if v < -1 then v + 1 else 0

/-- The measured deviations, with a sync node's own of 0. -/
def Dev.ttMeasured (d : Dev) (t : Nat) (l : List Int) : List Int := if d.flagi TT_COLD_SYNCN t then 0 :: l else l

/-- The rate correction: the midpoint of the measured differences added to the one in force, damped and bounded (R385, R386). -/
def Dev.ttRate (d : Dev) (t : Nat) (rates : List Int) : Int :=
  let old := (BitVec.ofNat 16 (d.rdi TT_CLKCOR_RATE t)).toInt
  bounded (damped (old + midpoint (d.ttMeasured t rates))) (d.ttRateOut t)

/-- The offset correction (R385, R386). -/
def Dev.ttOffset (d : Dev) (t : Nat) (offsets : List Int) : Int :=
  bounded (midpoint (d.ttMeasured t offsets)) (d.rdi TT_CYCLE_UPM t)

/-- TT_CLOCK_CORRECTION_REGAINED (R385, R386, R397): a double cycle ends with clock correction from the differences and deviations that
sync frames gave, in µT; 2 in a row take the controller back to NORMAL_ACTIVE when a connected channel may send. -/
def execTtClockCorrectionRegained (t : Nat) (rates offsets : List Int) (s : State) : Host.Outcome State Fault Refusal :=
  onDev (fun d =>
    let st := d.rdi TT_STAT_STATE t
    if (st = 3 ∨ st = 4) ∧ rates ≠ [] ∧ offsets ≠ [] then
      let x := d.ttCtl t
      let d := (d.wri TT_CLKCOR_RATE t (BitVec.ofInt 16 (d.ttRate t rates)).toNat).wri TT_CLKCOR_OFFSET t
        (BitVec.ofInt 16 (d.ttOffset t offsets)).toNat
      let d := d.setTtCtl t { x with missing := 0, regained := x.regained + 1 }
      if st = 4 ∧ 2 ≤ x.regained + 1 ∧ d.ttConnected t &&& (3 - d.ttPassive t) ≠ 0 then
        (d.setTtCtl t { d.ttCtl t with activeCycle := false }).ttState t 3 0x0450
      else d
    else d) s

/-- TT_HALT_EXPIRY (R397): 10 nominal cycles after HALT the controller is READY again. -/
def execTtHaltExpiry (t : Nat) (s : State) : Host.Outcome State Fault Refusal :=
  onDev (fun d => if d.rdi TT_STAT_STATE t = 5 then (d.ttReady t).inci TT_GCNT_HALTS t else d) s

/-- Every window of a controller closes: a mark was rejected or is missing (R401). -/
def Dev.ttMarkError (d : Dev) (t : Nat) : Dev :=
  let d := d.setTtCtl t { d.ttCtl t with windowsClosed := true }
  ((d.inci TT_GCNT_MARKERR t).wri TT_EVT_MARKERR t 1).trig 0x0457 [t]

/-- The count of the cycle that begins: the cluster's while the node integrates, 0 after its symbol, else the next (R386, R399). -/
def Dev.ttCycleBegins (d : Dev) (t cycle : Nat) : Nat :=
  let x := d.ttCtl t
  if d.rdi TT_STAT_STATE t = 2 ∧ (x.phase = .integrating ∨ x.phase = .listening) then cycle % (d.rdi TT_CYCLE_CCMAX t + 1)
  else if x.phase = .symbol then 0
  else d.ttNextCycle t (d.rdi TT_STAT_CYCLE t)

/-- A coldstart attempt at the start of cycle `n` (R399): cycles 0 to 3 are collision resolution, 4 to 7 the consistency check, and a
check that failed returns the node to listening. -/
def TtCtl.attempt (x : TtCtl) (n : Nat) : TtCtl :=
  match x.phase with
  | .symbol => { x with phase := .resolving }
  | .resolving => if n = 4 then { x with phase := .checking, heardEven := false, heardOdd := false } else x
  | .checking => if n = 8 ∧ !(x.heardEven && x.heardOdd) then { x with phase := .listening } else x
  | .integrating | .listening => x

/-- A cycle begins (R98, R386, R399): a whole cycle in NORMAL_ACTIVE qualifies a pick source that counts the controller's cycles. -/
def Dev.ttCycle (d : Dev) (t cycle : Nat) : Dev :=
  let n := d.ttCycleBegins t cycle
  let d := (d.wri TT_STAT_CYCLE t n).wri TT_EVT_CYC t 1
  let x := d.ttCtl t
  let active := d.rdi TT_STAT_STATE t == 3
  let d := if active && x.activeCycle && d.rd BEAT_CFG_SRC_UNIT == t then d.qualRef 1 else d
  d.setTtCtl t { x.attempt n with activeCycle := active }

/-- The guardian accepts a mark that comes `len` ns after the one before it (R401): within 0.2 % of L_nom of the prediction. -/
def Dev.ttMarkOk (d : Dev) (t len : Nat) : Bool :=
  let x := d.ttCtl t
  let nom := d.ttNominal t
  let pred := if x.lastLen = 0 then nom else x.lastLen
  decide ((if len ≤ pred then pred - len else len - pred) * 1000 ≤ 2 * nom)

/-- GUARDIAN_CYCLE_MARK (R401): a cycle begins, with the cluster's count `cycle`, and the mark reaches the guardian `len` ns after the
mark before it. A mark within 0.2 % of L_nom of the prediction is accepted; the first has no prediction. -/
def execGuardianCycleMark (t cycle len : Nat) (s : State) : Host.Outcome State Fault Refusal :=
  onDev (fun d =>
    let st := d.rdi TT_STAT_STATE t
    if st = 2 ∨ st = 3 ∨ st = 4 then
      if (d.ttCtl t).leaving then d.ttReady t
      else
        let d := d.ttCycle t cycle
        let x := d.ttCtl t
        if !x.marked then d.setTtCtl t { x with marked := true, windowsClosed := false }
        else if d.ttMarkOk t len then d.setTtCtl t { x with lastLen := len, windowsClosed := false }
        else d.ttMarkError t
    else d) s

/-- GUARDIAN_MARK_TIMEOUT (R401): no mark by 1.002 × L after the last one. -/
def execGuardianMarkTimeout (t : Nat) (s : State) : Host.Outcome State Fault Refusal :=
  onDev (fun d => if (d.ttCtl t).marked then d.ttMarkError t else d) s

/-- TT_TRUNCATION (R402 to R404): the guardian of channel `ch` (0 A, 1 B) cuts a frame that runs from `start` to `til` ns after the last
mark on its timing, where no window holds it whole. At THRESH the channel becomes
guardian-passive, and with every connected channel passive NORMAL_ACTIVE is left in the same cycle; the records of one
cycle stand in ascending order of code. -/
def execTtTruncation (t ch start til : Nat) (s : State) : Host.Outcome State Fault Refusal :=
  onDev (fun d =>
    if !d.ttCut t ch start til then d else
    let th := d.rdi TT_GUARD_THRESH t
    let d := if ch = 0 then (d.inci TT_GCNT_TRUNCA t).wri TT_EVT_TRUNCA t 1
             else (d.inci TT_GCNT_TRUNCB t).wri TT_EVT_TRUNCB t 1
    let fires := d.fwFires (.truncation t ch) th
    let d := d.fwEvent (.truncation t ch) th
    if fires then
      let d := if ch = 0 then (d.wri TT_STAT_PASSA t 1).wri TT_EVT_PASSA t 1
               else (d.wri TT_STAT_PASSB t 1).wri TT_EVT_PASSB t 1
      let all := d.ttConnected t &&& (3 - d.ttPassive t) == 0
      let d := if all ∧ d.rdi TT_STAT_STATE t = 3 then d.ttState t 4 0x0451 else d
      (d.trig 0x0455 [t]).trig 0x0456 [t]
    else d.trig 0x0455 [t]) s

end Sys2Proof.Machine
end

