-- ==== Sys2Proof/Machine/SleepOps.lean ====
section
/-! DEFINITION. Network sleep and wake: requests, keep-awake messages, the cluster states, wake events and the awake
limit, as operations that several blocks share (R495 to R520). -/

namespace Sys2Proof.Machine

def Dev.cl (d : Dev) (k : Nat) : Cluster := d.nmw.cl.get k {}

def Dev.setCl (d : Dev) (k : Nat) (x : Cluster) : Dev := { d with nmw := { d.nmw with cl := d.nmw.cl.set k x } }

/-- The states of a cluster (R519). -/
def clWAKING : Nat := 1
def clAWAKE : Nat := 2
def clPREPARE : Nat := 3
def clCOMMIT : Nat := 4
def clSLEEP : Nat := 5

def Dev.clState (d : Dev) (k : Nat) : Nat := d.rdi NMW_CLSTAT_STATE k

/-- The records of a cluster's members (R495). -/
def Dev.clMembers (d : Dev) (k : Nat) : List ImgRec := d.rdeck.sleepRecs.filter fun r => r.index / 256 % 16 == k

/-- The members of a cluster of one kind, by index. -/
def Dev.clUnits (d : Dev) (k kind : Nat) : List Nat :=
  ((d.clMembers k).filter fun r => r.index / 4096 == kind).map fun r => r.index % 256

/-- The wake mode of a member (R496). -/
def Dev.wakeMode (d : Dev) (k kind unit : Nat) : Option Nat :=
  ((d.clMembers k).find? fun r => r.index / 4096 == kind && r.index % 256 == unit).map fun r => r.kind

/-- A cluster holds at least one request (R503). -/
def Dev.clRequested (d : Dev) (k : Nat) : Bool := !(d.cl k).reqs.items.isEmpty || (d.cl k).hostReq

/-! ### The STANDBY request (R702, R514) -/

/-- The STANDBY request is cancelled before its commit point (R702). -/
def Dev.standbyCancel (d : Dev) : Dev :=
  if d.flag PWR_STAT_PEND ∧ (d.pwr.state = .run ∨ d.pwr.state = .doze) then
    let d := ((d.wr PWR_STAT_PEND 0).wr DBG_STAT_PWRHELD 0).trig 0x0601 []
    { d with pwr := { d.pwr with heldOnce := false } }
  else d

/-- ALLSLEEP follows the states of the declared clusters; when it falls a pending STANDBY request is cancelled (R514,
R702). -/
def Dev.sleepShow (d : Dev) : Dev :=
  let decl := (List.range 16).filter fun k => d.bit NMW_STAT_DECL 0 k
  let all := !decl.isEmpty && decl.all fun k => d.clState k == clSLEEP
  let d := d.wr NMW_STAT_ALLSLEEP (b2n all)
  if all then d else d.standbyCancel

/-- A cluster changes state (R519). -/
def Dev.setClState (d : Dev) (k st : Nat) : Dev := ((d.wri NMW_CLSTAT_STATE k st).wri NMW_EVT_STATE k 1).sleepShow

/-! ### Holders and stretches (R516) -/

/-- The holder set: the nodes heard, and the module itself while a request is held. -/
def Dev.holders (d : Dev) (k : Nat) : List Nat :=
  let n := d.rdeck.sys.nodeNum
  let hs := (d.cl k).holders
  if d.clRequested k ∧ !hs.contains n then hs ++ [n] else hs

/-- The holder set has changed: HOLDERS shows it, and a stretch begins or ends. -/
def Dev.stretch (d : Dev) (k : Nat) : Dev :=
  let hs := d.holders k
  let d := d.wri NMW_CLSTAT_HOLDERS k (min hs.length 255)
  match hs with
  | [n] => d.setCl k { d.cl k with stretch := some n }
  | _ => d.setCl k { d.cl k with stretch := none }

/-- A node's AWAKE = 1 message makes it a holder. -/
def Dev.holderAdd (d : Dev) (k node : Nat) : Dev :=
  let x := d.cl k
  (d.setCl k { x with holders := if x.holders.contains node then x.holders else x.holders ++ [node] }).stretch k

/-! ### Keep-awake messages (R498 to R505) -/

/-- The sleep-wait timer restarts (R505). -/
def Dev.sleepWait (d : Dev) (k : Nat) : Dev := d.wri NMW_TLEFT_S k (d.rd NMW_TIMES_SWAIT)

/-- The 8-byte payload of a keep-awake message (R498). -/
def kaPayload (cluster node reason seq : Nat) (awake wake : Bool) : List Byte :=
  [BitVec.ofNat 8 (0x10 + 2 * b2n wake + b2n awake), BitVec.ofNat 8 cluster] ++ beOf 2 node ++ beOf 2 reason ++
    [BitVec.ofNat 8 seq, 0]

/-- The internet checksum of a list of bytes of even length: the one's complement of the one's complement sum. -/
def inetSum (l : List Byte) : Nat :=
  let words := (List.range (l.length / 2)).foldl (fun t k => t + beVal ((l.drop (2 * k)).take 2)) 0
  let f1 := words % 65536 + words / 65536
  let f2 := f1 % 65536 + f1 / 65536
  65535 - f2

/-- The module's link-local address: modified EUI-64 of its own MAC address (R522). -/
def linkLocal (mac : Nat) : List Byte :=
  beOf 8 0xFE80000000000000 ++ beOf 3 ((mac / 2 ^ 24) ^^^ 0x020000) ++ beOf 2 0xFFFE ++ beOf 3 (mac % 2 ^ 24)

/-- The address ff02::4b77 (R501). -/
def kaGroup : List Byte := beOf 8 0xFF02000000000000 ++ beOf 8 0x4B77

/-- A UDP datagram on IPv6 as the payload of an Ethernet frame. -/
def udp6 (src dst : List Byte) (hop sport dport : Nat) (data : List Byte) : List Byte :=
  let n := 8 + data.length
  let odd : List Byte := if data.length % 2 = 1 then [0] else []
  let ports := beOf 2 sport ++ beOf 2 dport ++ beOf 2 n
  let sum := inetSum (src ++ dst ++ beOf 4 n ++ beOf 4 17 ++ ports ++ beOf 2 0 ++ data ++ odd)
  let sum := if sum = 0 then 0xFFFF else sum
  beOf 4 0x60000000 ++ beOf 2 n ++ beOf 1 17 ++ beOf 1 hop ++ src ++ dst ++ ports ++ beOf 2 sum ++ data

/-- The Ethernet frame of a keep-awake message (R501). -/
def Dev.kaFrame (d : Dev) (p : List Byte) : EthFrame :=
  let ip := udp6 (linkLocal d.ownMac) kaGroup 1 6471 6471 p
  { dmac := 0x333300004B77, smac := d.ownMac, vid := d.rd NMW_CFG_VID, pcp := d.rd NMW_CFG_PCP, tagged := true,
    len := 22 + ip.length, etype := 0x86DD, payload := ip }

/-- The module sends a keep-awake message on every member of a cluster: buffer 31 of a CAN member, and from I3 into the
cluster's VLAN for Ethernet members (R499 to R501, R504). LISTEN silences it. -/
def Dev.kaSend (d : Dev) (k : Nat) (awake : Bool) : Dev :=
  if d.flagi NMW_CL_LISTEN k then d
  else
    let x := d.cl k
    let reason := x.reqs.items.foldl (fun t e => t ||| e.2 % 256) (if x.hostReq then 256 else 0)
    let p := kaPayload k d.rdeck.sys.nodeNum reason x.kaSeq awake (awake && x.firstAfterWake)
    let d := d.setCl k { x with kaSeq := (x.kaSeq + 1) % 256, firstAfterWake := x.firstAfterWake && !awake }
    let d := d.each (d.clUnits k 1) fun d c =>
      ((d.setTxObj (canObj c 31) { payload := p, ready := false, stale := false, held := true }).wri CAN_TXLEN_LEN
        (c * 32 + 31) 8).canStart c 31
    let d := if d.flag NMW_CFG_ETHEN ∧ !(d.clUnits k 3).isEmpty then
      d.swxIngress 25 (d.kaFrame p) {} d.trd.localNs else d
    if awake then d.sleepWait k else d

/-- A cluster enters AWAKE: the timer restarts, and a held request sends at once (R504, R507). -/
def Dev.clAwake (d : Dev) (k : Nat) : Dev :=
  let d := (d.setClState k clAWAKE).sleepWait k
  if d.clRequested k then d.kaSend k true else d

/-! ### Starting the members, and wake events (R506 to R510) -/

/-- A CAN member that still integrates out of ignore mode (R509). -/
def Dev.clIgnoring (d : Dev) (k : Nat) : Bool := (d.clUnits k 1).any fun c => (d.canCtl c).ignore

/-- WAKING ends when every member has been started: the time-triggered members, which their own command starts, have left READY
(R507, R509). -/
def Dev.clStarted (d : Dev) (k : Nat) : Dev :=
  if d.clState k = clWAKING ∧ !d.clIgnoring k ∧ (d.clUnits k 2).all (fun t => d.rdi TT_STAT_STATE t != 1) then d.clAwake k else d

/-- Every member of a cluster is started (R509): a controller in ignore mode integrates with its frozen counters, one
that was off with both counters at 0. -/
def Dev.membersStart (d : Dev) (k : Nat) : Dev :=
  let d := d.each (d.clUnits k 1) fun d c =>
    if (d.canCtl c).off then d.canIntegrate c
    else if (d.canCtl c).ignore then d.wri CAN_STAT_STATE c 1
    else d
  (d.setClState k clWAKING).clStarted k

/-- The transceivers of a cluster's members leave normal mode and stand by (R508 step 3). -/
def Dev.trxStandby (d : Dev) (k : Nat) : Bool :=
  d.clState k == clSLEEP || (d.clState k == clCOMMIT && decide (4 ≤ (d.cl k).step))

/-- The members stand by (R508 step 3, R512): mode 1 controllers ignore the bus, their transceivers' frame error counters start at 0,
the other CAN controllers are off, and the links of Ethernet members go down (R436). -/
def Dev.membersStandby (d : Dev) (k : Nat) : Dev :=
  let d := d.each (d.clUnits k 1) fun d c =>
    let m1 := d.wakeMode k 1 c == some 1
    let d := d.setCanCtl c { d.canCtl c with ignore := m1, off := !m1, wakeErr := 0 }
    if m1 then d else d.wri CAN_STAT_STATE c 0
  d.each (d.clUnits k 3) fun d p => d.swxLinkLost p d.trd.localNs

/-- A wake event reaches a cluster (R506, R507). In WAKING and AWAKE, for which the table of R507 has no row, it changes nothing
(log entry 66). -/
def Dev.wake (d : Dev) (k cause unit : Nat) : Dev :=
  let st := d.clState k
  let note := fun (d : Dev) =>
    let d := (d.wri NMW_CLSTAT_CAUSE k cause).wri NMW_EVT_WAKE k 1
    d.setCl k { d.cl k with firstAfterWake := decide (cause ≤ 3) }
  if st = clPREPARE ∧ cause ≤ 4 then ((note d).inc NMW_CNT_CANCEL |>.trig 0x0481 [cause]).clAwake k
  else if st = clCOMMIT then
    let d := ((note d).wri NMW_EVT_WAC k 1).trig 0x0483 [cause, unit]
    d.setCl k { d.cl k with held := some (cause, unit) }
  else if st = clSLEEP then
    (((note d).wri NMW_EVT_WAC k 1).trig 0x0483 [cause, unit]).membersStart k
  else d

/-- A selected edge of a wake input: its flag, and a wake event of every cluster whose mask holds it (R506, R517). -/
def Dev.wakeEdge (d : Dev) (n : Nat) : Dev :=
  let d := d.setBit NMW_WKEVT_WAKE 0 n
  d.each ((List.range 16).filter fun k => d.bit NMW_CL_WAKEIN k n) fun d k => d.wake k 3 n

/-- The host's request on a cluster changes (R503, R536). -/
def Dev.requestChange (d : Dev) (k cause unit : Nat) (had : Bool) : Dev :=
  let d := d.stretch k
  if d.clRequested k then
    if had then d
    else if d.clState k = clAWAKE then d.kaSend k true
    else d.wake k cause unit
  else if had then
    let d := if d.clState k = clAWAKE then d.kaSend k false else d
    d.sleepWait k
  else d

/-- A cluster is declared by a deck commit, or by a swap that changes its records (R507). -/
def Dev.sleepStart (d : Dev) (k : Nat) : Dev :=
  let d := ((d.setBit NMW_STAT_DECL 0 k).wri NMW_CLSTAT_CAUSE k 9).wri NMW_EVT_WAKE k 1
  let d := d.setCl k { d.cl k with held := none, firstAfterWake := false }
  d.membersStart k

end Sys2Proof.Machine
end

