-- ==== Sys2Proof/Machine/Sleep.lean ====
section
/-! DEFINITION. The commands of network sleep and wake, and the end of bus integration (R495 to R520, R375). -/

namespace Sys2Proof.Machine

/-- NMW_REQ_SET (R503): a context sets its request on a declared cluster. Writes tagged 0xFFFD or 0xFFFF, and those of a
context that is RESETTING or STOPPED (R215), are refused. -/
def execNmwReqSet (init k reason : Nat) (s : State) : Host.Outcome State Fault Refusal :=
  onDevBy init (fun d =>
    let c := d.tag init
    if c = 0xFFFD ∨ c = 0xFFFF ∨ d.ctxBarred c then (d.refuse c NMW_ACCERR_ACC_ERR 0).answered 0
    else if d.bit NMW_STAT_DECL 0 k then
      let had := d.clRequested k
      let x := d.cl k
      ((d.setCl k { x with reqs := x.reqs.set c (reason % 256) }).requestChange k 1 0 had).answered 0
    else d.answered 0) s

/-- NMW_REQ_RELEASE (R503): a context releases its request; after the last one a message with AWAKE = 0 goes out. -/
def execNmwReqRelease (init k : Nat) (s : State) : Host.Outcome State Fault Refusal :=
  onDevBy init (fun d =>
    let c := d.tag init
    if c = 0xFFFD ∨ c = 0xFFFF ∨ d.ctxBarred c then (d.refuse c NMW_ACCERR_ACC_ERR 0).answered 0
    else if d.bit NMW_STAT_DECL 0 k then
      let had := d.clRequested k
      let x := d.cl k
      ((d.setCl k { x with reqs := x.reqs.erase c }).requestChange k 1 0 had).answered 0
    else d.answered 0) s

/-- KEEP_AWAKE_SEND (R504): KAPER × 100 ms have passed; a cluster that is AWAKE and requested sends. -/
def execKeepAwakeSend (k : Nat) (s : State) : Host.Outcome State Fault Refusal :=
  onDev (fun d => if d.clState k = clAWAKE ∧ d.clRequested k then d.kaSend k true else d) s

/-- The payload of a keep-awake message (R498): on Ethernet after the headers of IPv6 and UDP. -/
def KaMsg.payload : KaMsg → List Byte
  | .can _ _ p => p
  | .eth _ f => f.payload.drop 48

def KaMsg.awake (m : KaMsg) : Bool := ((m.payload.getD 0 0).toNat).testBit 0

def KaMsg.node (m : KaMsg) : Nat := beVal ((m.payload.drop 2).take 2)

/-- The kind and index of the member on which a message ended (R495). -/
def KaMsg.member : KaMsg → Nat × Nat
  | .can c _ _ => (1, c)
  | .eth p _ => (3, p)

/-- The datagram is as R501 sends it: from a link-local address to ff02::4b77 with hop limit 1, from and to port 6471, in the VLAN of
NMW_CFG, eight bytes of data, and its checksum right. The priority is not checked (log entry 66). -/
def Dev.kaDatagram (d : Dev) (f : EthFrame) : Bool :=
  let ip := f.payload
  let src := (ip.drop 8).take 16
  f.vid == d.rd NMW_CFG_VID && f.keepAwake && (ip.getD 0 0).toNat / 16 == 6 && (ip.getD 7 0).toNat == 1 &&
    beVal (src.take 2) / 64 == 0xFE80 / 64 && (ip.drop 24).take 16 == kaGroup && beVal ((ip.drop 40).take 2) == 6471 &&
    beVal ((ip.drop 44).take 2) == 16 && ip.take 56 == (udp6 src kaGroup 1 6471 6471 ((ip.drop 48).take 8)).take 56

/-- The checks of R502: VER, on CAN the low 6 bits of the identifier, and on Ethernet those of R501. -/
def Dev.kaValid (d : Dev) (m : KaMsg) : Bool :=
  (m.payload.getD 0 0).toNat / 16 == 1 &&
    match m with
    | .can _ ident _ => ident % 64 == m.node % 64
    | .eth _ f => d.kaDatagram f

/-- The cluster for which a received message counts: that of the CAN member, or on Ethernet that of its CLUSTER byte
when the port is a member of it (R501). -/
def Dev.kaCluster (d : Dev) (m : KaMsg) : Option Nat :=
  let ks := d.sleepClusters m.member.1 m.member.2
  match m with
  | .can _ _ _ => ks.head?
  | .eth _ _ => let k := (m.payload.getD 1 0).toNat; if ks.contains k then some k else none

/-- A valid message from any node reaches its cluster (R502, R505, R506, R510, R511): past the commit point the members still receive
until step 3. -/
def Dev.kaHeard (d : Dev) (k : Nat) (m : KaMsg) : Dev :=
  let st := d.clState k
  let unit := m.member.2
  if !m.awake then d
  else if st = clCOMMIT then
    if d.wakeMode k m.member.1 unit = some 2 ∨ 3 ≤ (d.cl k).step then d
    else ((d.holderAdd k m.node).wake k 4 unit).sleepWait k
  else if st = clPREPARE then (d.holderAdd k m.node).wake k 4 unit
  else if st = clAWAKE ∨ st = clWAKING then (d.holderAdd k m.node).sleepWait k
  else d

/-- A keep-awake message ends on a member; an invalid one is counted (R502). -/
def Dev.kaReceived (d : Dev) (m : KaMsg) : Dev :=
  match d.kaCluster m, m with
  | some k, _ => if d.kaValid m then d.kaHeard k m else d.inc NMW_CNT_BADKA
  | none, .can _ _ _ => d
  | none, .eth _ _ => d.inc NMW_CNT_BADKA

/-- The messages that have reached I3 are taken in order of arrival (R501). -/
def Dev.kaDrain (d : Dev) : Dev :=
  ({ d with nmw := { d.nmw with heard := [] } } : Dev).each d.nmw.heard fun d e => d.kaReceived (.eth e.1 e.2)

/-- KEEP_AWAKE_RECEIVED (R502, R505): a message that ends on a member. -/
def execKeepAwakeReceived (m : KaMsg) (s : State) : Host.Outcome State Fault Refusal :=
  onDev (fun d => d.kaReceived m) s

/-- SLEEP_WAIT_EXPIRY (R507): PREPARE. The timer does not run while a request is held (R505). -/
def execSleepWaitExpiry (k : Nat) (s : State) : Host.Outcome State Fault Refusal :=
  onDev (fun d =>
    if d.clState k = clAWAKE ∧ !d.clRequested k then
      let d := (d.setClState k clPREPARE).wri NMW_TLEFT_S k (d.rd NMW_TIMES_PREP)
      (d.wri NMW_EVT_PREP k 1).trig 0x0480 [k]
    else d) s

/-- PREPARE_EXPIRY (R507, R508): the sleep commit point. CAN members abandon their pending buffers, time-triggered
members leave their cluster; step 2, the end of the frames on the bus, is then in progress. -/
def execPrepareExpiry (k : Nat) (s : State) : Host.Outcome State Fault Refusal :=
  onDev (fun d =>
    if d.clState k = clPREPARE then
      let d := ((d.setClState k clCOMMIT).wri NMW_TLEFT_S k 0).wri NMW_EVT_COMMIT k 1
      let d := (d.trig 0x0482 [k]).setCl k { d.cl k with step := 2 }
      let d := d.each (d.clUnits k 1) fun d c =>
        d.each ((d.canCtl c).bufs.items.filter fun e => e.2.st == .pending) fun d e => d.canAbandon c e.1
      d.each (d.clUnits k 2) Dev.ttSleep
    else d) s

/-- SLEEP_COMMIT_COMPLETE (R507, R508): with no wake held what is left of the commit's steps is done, and the cluster sleeps. -/
def execSleepCommitComplete (k : Nat) (s : State) : Host.Outcome State Fault Refusal :=
  onDev (fun d =>
    if d.clState k = clCOMMIT ∧ (d.cl k).held.isNone then
      let d := if d.trxStandby k then d else d.membersStandby k
      (d.setCl k { d.cl k with step := 0 }).setClState k clSLEEP
    else d) s

/-- SLEEP_COMMIT_STEP_END (R507, R508): the step in progress ends; the members stand by at the end of step 3. With a wake after commit
held the members start, else the next step begins. -/
def execSleepCommitStepEnd (k : Nat) (s : State) : Host.Outcome State Fault Refusal :=
  onDev (fun d =>
    if d.clState k = clCOMMIT then
      let n := (d.cl k).step
      let d := if n = 3 then d.membersStandby k else d
      if (d.cl k).held.isSome then (d.setCl k { d.cl k with held := none, step := 0 }).membersStart k
      else d.setCl k { d.cl k with step := min 4 (n + 1) }
    else d) s

/-- A wake event of CAUSE 5 to 7 needs a member whose wake mode allows it, and arises only once the transceivers have left normal
mode (R496, R506, R507); a selected wake-input edge needs the cluster's mask. -/
def Dev.wakeAllowed (d : Dev) (k cause unit : Nat) : Bool :=
  if cause = 3 then d.bit NMW_CL_WAKEIN k unit
  else if cause = 5 then d.trxStandby k && (d.clMembers k).any fun r => r.index % 256 == unit && r.kind == 0
  else if cause = 6 then d.trxStandby k && d.wakeMode k 1 unit == some 1
  else if cause = 7 then d.trxStandby k && d.wakeMode k 2 unit == some 0
  else false

/-- A wake frame of a node wakes its cluster, and counts as a keep-awake message received at its end (R506, R509, R516). -/
def Dev.wakeFrame (d : Dev) (k unit node : Nat) : Dev := ((d.holderAdd k node).wake k 6 unit).sleepWait k

/-- WAKE_EVENT (R506): a wake input's selected edge (3), activity (5), a wake frame of a node (6) or a wakeup pattern (7) at a
unit. -/
def execWakeEvent (k cause unit node : Nat) (s : State) : Host.Outcome State Fault Refusal :=
  onDev (fun d =>
    if d.wakeAllowed k cause unit then
      if cause = 6 then d.wakeFrame k unit node
      else (if cause = 3 then d.setBit NMW_WKEVT_WAKE 0 unit else d).wake k cause unit
    else d) s

/-- The frame error counter of a mode 1 member's transceiver has reached 32 (R512). -/
def Dev.wakeOverflow (d : Dev) (k c : Nat) : Dev :=
  let d := d.setCanCtl c { d.canCtl c with wakeErr := 0 }
  ((d.wri NMW_EVT_SWMIS k 1).trig 0x0486 [c]).wake k 8 c

/-- What a CAN frame does to a sleeping member's transceiver (R506, R512): under selective wake a wake frame wakes, a frame that
cannot be decoded counts, and an FD or XL frame is ignored; any frame is activity on a mode 0 member. -/
def Dev.sleepBus (d : Dev) (c : Nat) (f : CanFrame) : Dev :=
  d.each ((d.sleepClusters 1 c).filter fun k => d.trxStandby k) fun d k =>
    match d.wakeMode k 1 c with
    | some 0 => d.wake k 5 c
    | some 1 =>
      if f.form ≠ 0 then d
      else if f.res ∨ f.err.isSome then
        let n := (d.canCtl c).wakeErr + 1
        if n = 32 then d.wakeOverflow k c else d.setCanCtl c { d.canCtl c with wakeErr := n }
      else if !f.ide ∧ !f.rtr ∧ f.ident / 64 = d.rdi NMW_CL_KABLK k ∧ f.data.length = 8 ∧
          ((f.data.getD 0 0).toNat).testBit 0 then
        d.wakeFrame k c (beVal ((f.data.drop 2).take 2))
      else d
    | _ => d

/-- SELECTIVE_WAKE_OVERFLOW (R512): the frame error counter of a mode 1 member's transceiver reaches 32. -/
def execSelectiveWakeOverflow (c : Nat) (s : State) : Host.Outcome State Fault Refusal :=
  onDev (fun d =>
    d.each ((d.sleepClusters 1 c).filter fun k => d.wakeMode k 1 c == some 1 && d.trxStandby k) fun d k => d.wakeOverflow k c) s

/-- AWAKE_LIMIT_REACHED (R516): a stretch reaches AWLIM × 10 s. When the node is the module, the lowest-numbered context
with a request is named besides. -/
def execAwakeLimitReached (k : Nat) (s : State) : Host.Outcome State Fault Refusal :=
  onDev (fun d =>
    match (d.cl k).stretch with
    | some n =>
      if d.rdi NMW_CL_AWLIM k ≠ 0 ∧ !(d.cl k).limitSeen then
        let dur := d.rdi NMW_CL_AWLIM k * 10
        let d := d.setCl k { d.cl k with limitSeen := true }
        let d := ((d.wri NMW_AW_NODE k n).wri NMW_AW_DUR k dur).wri NMW_EVT_AWLIM k 1
        let own := if n = d.rdeck.sys.nodeNum then (d.cl k).reqs.keys.take 1 else []
        d.trig 0x0484 ([n, dur] ++ own)
      else d
    | none => d) s

/-- AWAKE_STRETCH_END (R516): a stretch beyond the limit has ended after `dur` seconds. -/
def execAwakeStretchEnd (k dur : Nat) (s : State) : Host.Outcome State Fault Refusal :=
  onDev (fun d =>
    if (d.cl k).limitSeen ∧ (d.cl k).stretch.isNone then
      let d := (d.setCl k { d.cl k with limitSeen := false }).wri NMW_AW_DUR k (min dur 65535)
      d.trig 0x0485 [min dur 65535]
    else d) s

/-- HOLDER_EXPIRY (R516): a node's last AWAKE = 1 message is older than SWAIT. -/
def execHolderExpiry (k node : Nat) (s : State) : Host.Outcome State Fault Refusal :=
  onDev (fun d =>
    let x := d.cl k
    if x.holders.contains node then (d.setCl k { x with holders := x.holders.filter (· ≠ node) }).stretch k else d) s

/-- TT_CLUSTER_AWAKE (R397, R509): the cluster is awake and the controller starts up, listening as a coldstart node when CSEN is 1;
entering STARTUP clears guardian-passive on both channels. -/
def execTtClusterAwake (t : Nat) (s : State) : Host.Outcome State Fault Refusal :=
  onDev (fun d =>
    if d.rdi TT_STAT_STATE t = 1 ∧ !d.unitAsleep 2 t then (d.ttAwake t).each (d.sleepClusters 2 t) Dev.clStarted else d) s

/-- TT_WAKE_FRAMES (R515): from READY, four wake frames on each connected channel of a sleep member. -/
def execTtWakeFrames (t : Nat) (s : State) : Host.Outcome State Fault Refusal :=
  onDev (fun d =>
    if d.rdi TT_STAT_STATE t = 1 then
      d.each ((List.range 2).filter fun ch => (d.ttConnected t).testBit ch && !(d.ttPassive t).testBit ch) fun d ch =>
        d.each (List.range 4) fun d _ => d.send (.ttWake t ch 0 0 (padTo 8 []))
    else d) s

/-- BUS_INTEGRATION_COMPLETE (R375 step 4, R509): 11 recessive bit times end integration; the controller leaves ignore
mode with its frozen counters, or a spare's substitution completes with source 428 and code 0x0702. -/
def execBusIntegrationComplete (c : Nat) (s : State) : Host.Outcome State Fault Refusal :=
  onDev (fun d =>
    if d.rdi CAN_STAT_STATE c = 1 then
      let passive := decide (128 ≤ d.rdi CAN_ERRCNT_TEC c) || decide (128 ≤ d.rdi CAN_ERRCNT_REC c)
      let d := d.wri CAN_STAT_STATE c (if passive then 3 else 2)
      let d := d.setCanCtl c { d.canCtl c with ignore := false, off := false }
      let d := match d.can.joining.find c with
        | some u =>
          let d := { d with can := { d.can with joining := d.can.joining.erase c } }
          let spare := d.canUnit c
          (d.wr FLT_EVT_SUBST 1).trig 0x0702 [u, spare]
        | none => d
      d.each (d.sleepClusters 1 c) Dev.clStarted
    else d) s

end Sys2Proof.Machine
end

