-- ==== Sys2Proof/Machine/Can.lean ====
section
/-! DEFINITION. The CAN commands: reception, software-fed buffers, arbitration, acknowledgement, errors, bus-off
recovery and integration (R339 to R384). -/

namespace Sys2Proof.Machine

/-- A frame waits in Q0 for its object (R351, R352). -/
def Dev.canQ0 (d : Dev) (c k : Nat) (f : CanFrame) : Dev :=
  let x := d.canCtl c
  let w : WaitFrame := { obj := c * 128 + k, payload := f.object.take (canCapacity c k) }
  if x.q0.any fun e => e.obj == w.obj then
    (d.setCanCtl c { x with q0 := x.q0.map fun e => if e.obj = w.obj then w else e }).inci CAN_Q0CNT_Q0REPL c
  else if x.q0.length < 64 then d.setCanCtl c { x with q0 := x.q0 ++ [w] }
  else ((d.inci CAN_RXCNT_Q0LOST c).wri CAN_EVT_QLOST c 1).trig 0x0446 [c]

/-- A frame enters Q1, or finds 64 frames there and is lost (R355). -/
def Dev.canQ1 (d : Dev) (c k : Nat) (f : CanFrame) : Dev :=
  if (d.canQ1Waiting c).length < 64 then
    { d with can := { d.can with q1 := d.can.q1 ++ [{ ctl := c, filter := k, frame := f }] } }
  else ((d.inci CAN_RXCNT_Q1LOST c).wri CAN_EVT_QLOST c 1).trig 0x0446 [c]

/-- A frame of Q1 becomes a bobbin record of the Q1 owner (R355, R356). -/
def Dev.canQ1Write (d : Dev) (w : Q1Wait) : Dev :=
  let q := d.queueOf (d.rdi CAN_Q1OWN_CTX w.ctl) (d.rdi CAN_Q1OWN_BOB w.ctl)
  let rec_ := w.frame.record w.filter
  let took := d.bobTakes q rec_
  let d := d.bobPut q 1 rec_
  if took then d.wri CAN_EVT_RXQ1 w.ctl 1 else d

/-- The frames that wait in Q1 are written into their bobbins in arrival order: at the next clock tick, within R355's 1 µs
(DESIGN CHOICE, log entry 9). -/
def Dev.canQ1Drain (d : Dev) : Dev :=
  ({ d with can := { d.can with q1 := [] } } : Dev).each d.can.q1 fun d w => d.canQ1Write w

/-- A reference message of the same set with a lower identifier makes a time master BACKUP (R373). -/
def Dev.canReference (d : Dev) (c : Nat) (f : CanFrame) : Dev :=
  if d.flagi CAN_MODE_TM c then
    let i := c * 32 + d.rdi CAN_MODE_REFBUF c
    let form := d.rdi CAN_TXCFG_FORM i
    let id := d.rdi CAN_TXCFG_ID i
    let ide := form == 1 || form == 3 || form == 5
    if f.form ≠ 2 ∧ f.ide = ide ∧ !f.rtr ∧ f.ident / 8 = id / 8 ∧ f.ident < id then
      let d := d.setCanCtl c { d.canCtl c with tmKicks := 0 }
      let d := d.wri CAN_STAT_CYCLE c ((f.data.getD 0 0).toNat % 64)
      if d.rdi CAN_STAT_ROLE c = 1 then
        ((d.wri CAN_STAT_ROLE c 2).wri CAN_EVT_TMROLE c 1).trig 0x0445 [c]
      else d
    else d
  else d

/-- The receive error counter after a good frame (ISO 11898-1, R366): one less; from above 127 to a value of 119 to
127 that the standard leaves open, a free value. -/
def Dev.canRecDown (d : Dev) (c : Nat) : Dev :=
  let r := d.rdi CAN_ERRCNT_REC c
  if d.flagi CAN_MODE_LOM c ∨ r = 0 then d
  else if r ≤ 127 then d.wri CAN_ERRCNT_REC c (r - 1)
  else ((d.wri CAN_ERRCNT_REC c (119 + d.freeVal 8 % 9)).fresh).canErrState c

/-- A frame that breaks the format on this controller: a protocol exception, or with PXHD a form error (R370). -/
def Dev.canException (d : Dev) (c : Nat) (f : CanFrame) : Dev :=
  if d.flagi CAN_MODE_PXHD c then
    d.canRxError c (f.err.getD 0)
  else (((d.wri CAN_STAT_STATE c 1).wri CAN_EVT_PXE c 1).inci CAN_FLTCNT_PXCNT c).trig 0x0444 [c]

/-- The first filter of the pick source's controller takes a level-2 reference message: the beat unit gets its frame
synchronisation time, Master_Ref_Mark and Disc_Bit (R85, R98, R354), at the places of ISO 11898-4 (PRESUMED, log entry 9). -/
def Dev.canGlobal (d : Dev) (c k : Nat) (f : CanFrame) : Dev :=
  if d.rd BEAT_CFG_SOURCE = 2 ∧ d.rd BEAT_CFG_SRC_UNIT = c ∧ k = 0 ∧ f.form ≠ 2 ∧ 4 ≤ f.data.length then
    let at_ := fun n => (f.data.getD n 0).toNat
    (d.setBeat { d.beat with refTime := f.soft, refMark := at_ 2 + 256 * at_ 3, refDisc := (at_ 1).testBit 0 }).qualRef 2
  else d

/-- A received frame is matched and taken (R342, R343, R349 to R357, R458). KEY of a CAN node is compared with the identifier, base or
extended (R79, log entry 59). -/
def Dev.canTake (d : Dev) (c : Nat) (f : CanFrame) : Dev :=
  match d.canFilter c f with
  | none => d.inci CAN_RXCNT_NOMATCH c
  | some k =>
    let q1 := d.rdi CAN_FMATCH_Q (c * 128 + k) == 1
    let x := d.canCtl c
    let apart := d.bridgeFilter c k || d.sleepFilter c k
    let accepted := apart ||
      (if q1 then decide ((d.canQ1Waiting c).length < 64)
       else decide (x.q0.length < 64) || x.q0.any fun e => e.obj == c * 128 + k)
    let d := if d.bridgeFilter c k then d.farCan c f else if d.sleepFilter c k then d.kaReceived (.can c f.ident f.data)
      else if q1 then d.canQ1 c k f else (d.canQ0 c k f).canGlobal c k f
    if accepted then d.evidenceOf fun r => r.kind == 1 && r.unit == c && r.key == f.ident else d

/-- CAN_FRAME_RECEIVED (R349): a frame on the bus of controller `c`. A controller that is off the bus, or that ignores
it while its cluster sleeps, takes nothing; its transceiver may wake the cluster (R512, R513). -/
def execCanFrameReceived (c : Nat) (f : CanFrame) (s : State) : Host.Outcome State Fault Refusal :=
  onDev (fun d =>
    if (d.rdi CAN_STAT_STATE c = 2 ∨ d.rdi CAN_STAT_STATE c = 3) ∧ !(d.canCtl c).ignore ∧ !(d.canCtl c).leaving then
      if f.res ∨ (f.form = 2 ∧ !d.flagi CAN_MODE_XLOE c) ∨ (f.form = 1 ∧ !d.flagi CAN_MODE_FDOE c) then d.canException c f
      else if f.err.isSome then d.canRxError c (f.err.getD 0)
      else ((d.canRecDown c).canReference c f).canTake c f
    else d.sleepBus c f) s

/-- The buffers named in a mask. -/
def bufsOf (mask : Nat) : List Nat := (List.range 32).filter fun b => mask.testBit b

/-- A write of a buffer mask acts on the software-fed buffers of the writing context; one that names any other buffer is refused
for those, and counted (R358, R381). -/
def Dev.canMask (d : Dev) (ctx c mask : Nat) (act : Dev → Nat → Dev) : Dev :=
  if d.ctxBarred ctx then (d.refuse ctx CAN_ACCERR_ACC_ERR c).answered 0
  else
    let mine := (bufsOf mask).filter fun b => d.canSoftware ctx c b
    let e := d.each mine act
    (if mine.length = (bufsOf mask).length then e else e.refuse ctx CAN_ACCERR_ACC_ERR c).answered 0

/-- CAN_TXSTART (R361, R381): a hart starts software-fed buffers of its context; a listen-only controller refuses the start
(R371). -/
def execCanTxstart (init c mask : Nat) (s : State) : Host.Outcome State Fault Refusal :=
  onBlockBy init 0x40400000 (fun d =>
    let ctx := d.tag init
    if d.flagi CAN_MODE_LOM c ∧ !d.ctxBarred ctx ∧ (bufsOf mask).all (fun b => d.canSoftware ctx c b) then
      (d.inci CAN_ACCERR_ACC_ERR c).answered 0
    else d.canMask ctx c mask fun d b => if d.flagi CAN_MODE_LOM c then d else d.canStart c b) s

/-- CAN_TXCAN (R361, R362): a hart cancels software-fed buffers of its context. -/
def execCanTxcan (init c mask : Nat) (s : State) : Host.Outcome State Fault Refusal :=
  onBlockBy init 0x40400000 (fun d =>
    d.canMask (d.tag init) c mask fun d b => d.canCancel c b) s

/-- CAN_BUFFER_WRITE (R358, R381): bytes of a software-fed buffer's payload, refused while it is PENDING or ON_BUS. -/
def execCanBufferWrite (init c k off : Nat) (data : List Byte) (s : State) : Host.Outcome State Fault Refusal :=
  onBlockBy init 0x40400000 (fun d =>
    let ctx := d.tag init
    if d.ctxBarred ctx ∨ !d.canSoftware ctx c k ∨ (d.canBuf c k).st ≠ .idle then
      (d.refuse ctx CAN_ACCERR_ACC_ERR c).answered 0
    else
      let x := d.txObj (canObj c k)
      let old := padTo 64 x.payload
      let new := (List.range 64).map fun i =>
        if off ≤ i ∧ i < off + data.length then data.getD (i - off) 0 else old.getD i 0
      (d.setTxObj (canObj c k) { x with payload := new, held := true }).answered 0) s

/-- CAN_ARBITRATION_WON (R360, R361): the first pending buffer wins and its payload is latched; with delay
compensation the measured loop delay is held, and a secondary sample point too late is a bit error (R346). -/
def execCanArbitrationWon (c b delay : Nat) (s : State) : Host.Outcome State Fault Refusal :=
  onDev (fun d =>
    if !d.canRefuses c ∧ d.canFirst c = some b ∧ !(d.canCtl c).ignore ∧
        !((d.canCtl c).bufs.items.any fun e => e.2.st == .onBus) then
      let p := d.canFrame c b
      let d := d.setCanBuf c b { st := .onBus, latched := p }
      let d := if d.flagi CAN_TDC_TDCE c ∧ canForm (d.rdi CAN_TXCFG_FORM (c * 32 + b)) ≠ 0 then
        d.wri CAN_TDCVAL_DELAY c (max delay (d.rdi CAN_TDC_TDCF c)) else d
      let d := d.setTxObj (canObj c b) { d.txObj (canObj c b) with ready := false, stale := false }
      let d := d.send (d.canOut c b p)
      if d.canLateSample c b then d.canTxFail c b else d
    else d) s

/-- CAN_TX_ERROR (R361, R366, R374): the attempt ends. `lost`: arbitration was lost rather than an error seen; `ref`:
it was lost to a lower reference message of the same set, which makes the controller BACKUP. -/
def execCanTxError (c b : Nat) (lost ref : Bool) (s : State) : Host.Outcome State Fault Refusal :=
  onDev (fun d =>
    if (d.canBuf c b).st = .onBus then
      if !lost then d.canTxFail c b
      else
        let d := d.setCanBuf c b { st := .pending }
        let d := if ref ∧ d.flagi CAN_MODE_TM c ∧ d.rdi CAN_MODE_REFBUF c = b then
            let d := d.setCanCtl c { d.canCtl c with tmKicks := 0 }
            let d := d.canAbandon c b
            if d.rdi CAN_STAT_ROLE c = 1 then
              ((d.wri CAN_STAT_ROLE c 2).wri CAN_EVT_TMROLE c 1).trig 0x0445 [c]
            else d
          else d
        d.canAfterFrame c
    else d) s

/-- CAN_FRAME_ACKED (R361, R368, R372): the frame ends acknowledged. -/
def execCanFrameAcked (c b : Nat) (s : State) : Host.Outcome State Fault Refusal :=
  onDev (fun d =>
    let x := d.canBuf c b
    if x.st = .onBus then
      let owner := d.canBufOwner c b
      let d := d.setCanBuf c b { st := if x.resend then .pending else .idle }
      let d := (d.setBit CAN_TXDONE_BUFS c b).wri CAN_EVT_TXDONE c 1
      let d := d.setCanCtl c { d.canCtl c with ackAt := some d.now }
      let d := (d.wri CAN_ERRCNT_TEC c (d.rdi CAN_ERRCNT_TEC c - 1)).canErrState c
      let d := if d.flagi CAN_STAT_NOPART c then
        ((d.wri CAN_STAT_NOPART c 0).wri CAN_EVT_PARTNER c 1).fwClear (.noPartner c) else d
      let d := if d.flagi CAN_MODE_TM c ∧ d.rdi CAN_MODE_REFBUF c = b then
        d.wri CAN_STAT_CYCLE c ((d.rdi CAN_STAT_CYCLE c + 1) % 64) else d
      let d := d.evidenceOf fun r => r.kind == 1 && r.unit == c && some r.owner == owner
      d.canAfterFrame c
    else d) s

/-- CAN_ACK_ERROR (R366, R368): an attempt ends with an acknowledge error and counts in the no-partner counter; an acknowledge of
the report's cycle wins (R369).
`dominant`: a dominant bit was seen during the passive error flag. -/
def execCanAckError (c b : Nat) (dominant : Bool) (s : State) : Host.Outcome State Fault Refusal :=
  onDev (fun d =>
    if (d.canBuf c b).st = .onBus then
      let d := d.setCanBuf c b { st := .pending }
      let d := if d.rdi CAN_STAT_STATE c = 3 ∧ !dominant then d else d.canTecUp c
      let th := d.rdi CAN_NOPART_THRESH c
      let d := if th = 0 ∨ d.flagi CAN_STAT_NOPART c then d
        else
          let fires := d.fwFires (.noPartner c) th
          let d := d.fwEvent (.noPartner c) th
          if fires ∧ (d.canCtl c).ackAt = some d.now then d.fwClear (.noPartner c)
          else if fires then
            let d := ((d.wri CAN_STAT_NOPART c 1).wri CAN_EVT_NOPART c 1).wri CAN_NPBUF_BUF c b
            let d := (d.noPartner c).trig 0x0443 [c]
            if d.flagi CAN_NOPART_STOP c ∧ (d.canBuf c b).st = .pending then d.canAbandon c b else d
          else d
      d.canAfterFrame c
    else d) s

/-- BUS_OFF_DELAY_END (R367 step 2): recovery starts. -/
def execBusOffDelayEnd (c : Nat) (s : State) : Host.Outcome State Fault Refusal :=
  onDev (fun d => if d.rdi CAN_STAT_STATE c = 4 then d.wri CAN_STAT_STATE c 5 else d) s

/-- BUS_OFF_RECOVERED (R367 step 4): error active with both counters 0. -/
def execBusOffRecovered (c : Nat) (s : State) : Host.Outcome State Fault Refusal :=
  onDev (fun d =>
    if d.rdi CAN_STAT_STATE c = 5 then
      let d := ((d.wri CAN_STAT_STATE c 2).wri CAN_ERRCNT_TEC c 0).wri CAN_ERRCNT_REC c 0
      (d.wri CAN_EVT_BOREC c 1).trig 0x0442 [c]
    else d) s

end Sys2Proof.Machine
end

