-- ==== Sys2Proof/Machine/ChanOps.lean ====
section
/-! DEFINITION. Load channels and their keepers: groups, the state table of a channel, starts under the inrush
interleave, trips, the PWM setting, sheds, locks, the keeper log and the keeper's reset (R240 to R338). -/

namespace Sys2Proof.Machine

def Dev.ch (d : Dev) (m : Nat) : ChanState := d.chan.get m {}

def Dev.setCh (d : Dev) (m : Nat) (x : ChanState) : Dev := { d with chan := d.chan.set m x }

def Dev.bk (d : Dev) (b : Nat) : BankState := d.bank.get b {}

def Dev.setBk (d : Dev) (b : Nat) (x : BankState) : Dev := { d with bank := d.bank.set b x }

/-- The states of a channel (R292). -/
def chOFF : Nat := 0
def chWAIT : Nat := 1
def chINRUSH : Nat := 2
def chON : Nat := 3
def chCOOL : Nat := 4
def chLATCHED : Nat := 5
def chLOCKED : Nat := 6

/-- The causes of a trip (R292). -/
def trLIMIT : Nat := 1
def trDT : Nat := 2
def trTJ : Nat := 3
def trWIRE : Nat := 4
def trGROUP : Nat := 5

/-- The life-cycle state SERVICE (R603, R612). -/
def lcSERVICE : Nat := 3

/-- The bank of a channel. -/
def bankOf (m : Nat) : Nat := m / 16

/-- The channels of a bank. -/
def bankChans (b : Nat) : List Nat := (List.range 16).map fun i => b * 16 + i

/-- The lead of a channel's group; a channel in no group leads itself (R271). -/
def Dev.chLead (d : Dev) (m : Nat) : Nat := m / 16 * 16 + d.rdi CH_CFG_LEAD m

/-- The members of the group of a lead, ascending. -/
def Dev.chMembers (d : Dev) (l : Nat) : List Nat := (bankChans (bankOf l)).filter fun m => d.chLead m == l

/-- A channel with an owner (R248). -/
def Dev.chUsed (d : Dev) (m : Nat) : Bool := d.rdi CH_OWNER m != 0xFFFF

/-- State of a channel. -/
def Dev.chState (d : Dev) (m : Nat) : Nat := d.rdi CH_STAT_STATE m

/-- A channel that is turned on. -/
def Dev.chLive (d : Dev) (m : Nat) : Bool := d.chState m == chINRUSH || d.chState m == chON

/-- A bank that the variant fits (R2, R5). -/
def Dev.bankFitted (d : Dev) (b : Nat) : Bool := decide (b < d.rd SYSCTL_PARTID_BANKS)

/-- A record of the keeper: written by the recorder, or logged during a hand-over, up to 16 events (R329). -/
def Dev.bankRec (d : Dev) (b code : Nat) (args : List Nat) : Dev :=
  if d.flagi BANK_STAT_LINK b then
    let k := d.bk b
    if k.log.length < 16 then d.setBk b { k with log := k.log ++ [⟨code, args, d.optime⟩] }
    else d.inci BANK_LINKERR_LOGLOST b
  else d.trig code args

/-- A short event begins (R315). -/
def Dev.shortEvent (d : Dev) (b : Nat) : Dev := d.wri BANK_STAT_SHORTEV b 1

/-! ### PWM (R249 to R252) -/

/-- MODE of the command word in force. -/
def Dev.chMode (d : Dev) (m : Nat) : Nat := d.rdi CH_CMD m % 4

/-- TMIN in ticks of 10 MHz (R247). -/
def Dev.chTmin (d : Dev) (m : Nat) : Nat :=
  (if m % 16 < 2 then 200 else 50) * (if d.flagi CH_CFG_SLOW m then 4 else 1)

/-- The high time of a period in ticks (R133, R250). -/
def Dev.chHigh (d : Dev) (m duty period : Nat) : Nat :=
  let h := duty * period / 65536
  if duty = 0 then 0
  else
    let h := if 0 < h ∧ h < d.chTmin m then d.chTmin m else h
    if 0 < h ∧ period - h < d.chTmin m then period else h

/-- The high time of the period in progress. -/
def Dev.chHighNow (d : Dev) (m : Nat) : Nat := d.chHigh m (d.rdi CH_CMD_DUTY m) (d.rdi CH_PWMPER_PERIOD m)

/-- An on time of the output ends in MODE 2: one in which the limiter did not regulate breaks the run of regulation (R258).
The on time of a period ends with the period at the latest (log entry 61). -/
def Dev.onTimeEnd (d : Dev) (m : Nat) : Dev :=
  let x := d.ch m
  d.setCh m { x with dwellRun := x.dwellRun && (x.onReg || !x.output), onReg := d.flagi CH_STAT_LIMITING m }

/-- A period that was running has ended: its on time, and its high time for the sense instant (R258, R277). -/
def Dev.periodPast (d : Dev) (m : Nat) : Dev :=
  if (d.ch m).periodOn then
    let d := d.onTimeEnd m
    d.setCh m { d.ch m with lastHigh := d.chHighNow m }
  else d

/-- The output turns on; the first on edge in the window starts it, and with WIN 0 it ends at once (R253, R257). -/
def Dev.chOnEdge (d : Dev) (m : Nat) : Dev :=
  let d := d.setCh m { d.ch m with output := true, onReg := d.flagi CH_STAT_LIMITING m }
  if d.chState m = chINRUSH ∧ !(d.ch m).winOpen then
    let d := d.setCh m { d.ch m with winOpen := true }
    if d.rdi CH_INRUSH_WIN m = 0 then (d.wri CH_STAT_STATE m chON).setCh m { d.ch m with winOpen := false } else d
  else d

/-- A PWM period starts on a channel: the waiting setting takes effect, and the output is on unless the high time is 0
(R249, R250). -/
def Dev.periodBegin (d : Dev) (m : Nat) : Dev :=
  let d := d.periodPast m
  let d := match (d.ch m).pwmNext with
    | some p => (d.wri CH_CMD_DUTY m p.1).wri CH_PWMPER_PERIOD m p.2
    | none => d
  let d := d.setCh m { d.ch m with pwmNext := none, periodOn := true, periodAtPick := false }
  if d.chHighNow m = 0 then (d.setCh m { d.ch m with output := false }).wri CH_STAT_LIMITING m 0
  else d.chOnEdge m

/-- A PWM setting reaches a channel (R249). A frame repeats the setting in every pick; the setting that is already in
force or waiting is no new one. -/
def Dev.setPwm (d : Dev) (m : Nat) (f : FrameSlot) : Dev :=
  let x := d.ch m
  if f.period = 0 then d
  else if f.phrst then d.setCh m { x with pwmSet := true, restart := some (f.phase, f.duty, f.period) }
  else if (x.restart.map fun r => (r.2.1, r.2.2)) = some (f.duty, f.period) ∧ x.pwmSet then d
  else if x.periodOn then d.setCh m { x with pwmSet := true, pwmNext := some (f.duty, f.period) }
  else ((d.setCh m { x with pwmSet := true, pwmNext := none }).wri CH_CMD_DUTY m f.duty).wri CH_PWMPER_PERIOD m f.period

/-! ### Turning on and off (R253) -/

/-- The pull-up of OLMODE 1 is on while a lead is OFF or WAIT (R268, R270). -/
def Dev.chIdle (d : Dev) (m : Nat) : Dev :=
  let on := d.rdi CH_CFG_OLMODE m == 1 && d.chLead m == m && d.chUsed m &&
    (d.chState m == chOFF || d.chState m == chWAIT)
  d.setCh m { d.ch m with pullUp := on, compare := false }

/-- The period in progress ends without a next one: a setting that waits for a period start takes effect (R249). -/
def Dev.periodDrop (d : Dev) (m : Nat) : Dev :=
  let d := if (d.ch m).periodOn then d.setCh m { d.ch m with lastHigh := d.chHighNow m } else d
  let d := match (d.ch m).pwmNext with
    | some p => (d.wri CH_CMD_DUTY m p.1).wri CH_PWMPER_PERIOD m p.2
    | none => d
  d.setCh m { d.ch m with periodOn := false, periodAtPick := false, pwmNext := none }

/-- A channel's output turns off and its run of regulation and its period end. -/
def Dev.chOff (d : Dev) (m st : Nat) : Dev :=
  let d := d.periodDrop m
  let d := d.setCh m { d.ch m with output := false, dwellRun := false, winOpen := false }
  ((d.wri CH_STAT_LIMITING m 0).wri CH_STAT_STATE m st).chIdle m

/-- A channel turns on: INRUSH, its window starts at the first on edge, and any open-load test is abandoned (R253,
R257, R269, R284). -/
def Dev.chOn (d : Dev) (m : Nat) : Dev :=
  let d := ((d.wri CH_STAT_STATE m chINRUSH).wri CH_STAT_OPEN m 0).wri CH_STAT_STB m 0
  let d := d.setCh m { d.ch m with pullUp := false, compare := false, winOpen := false }
  if d.chMode m = 2 then d.periodBegin m else d.chOnEdge m

/-- A group leaves the waiting set. -/
def Dev.unwait (d : Dev) (l : Nat) : Dev :=
  let d := d.setCh l { d.ch l with waited := 0, waitWhy := 0 }
  d.each (d.chMembers l) fun d m => d.clrBit BANK_WAITING_CHANS (bankOf m) (m % 16)

/-- SPACE holds a start in the present pick back (R312). -/
def Dev.spaced (d : Dev) (b : Nat) : Bool :=
  match (d.bk b).lastStart with
  | some q => d.rdi BANK_INRUSH_SPACE b != 0 && decide ((d.bk b).pickCount - q < d.rdi BANK_INRUSH_SPACE b)
  | none => false

/-- Whether the bank allows a start in the present pick (R300, R312). -/
def Dev.startAllowed (d : Dev) (b : Nat) : Bool :=
  d.rdi BANK_STAT_STATE b == 2 && !d.flagi BANK_STAT_SHORTEV b && !d.spaced b

/-- The causes that hold a start back: 1 spacing or the one release per boundary, 2 short event (R314). -/
def Dev.heldBy (d : Dev) (b : Nat) : Nat :=
  (if d.flagi BANK_STAT_SHORTEV b then 2 else 0) +
    (if d.spaced b || !d.flagi BANK_STAT_SHORTEV b then 1 else 0)

/-- A group starts in the present pick (R311). -/
def Dev.startNow (d : Dev) (l : Nat) : Dev :=
  let b := bankOf l
  let d := d.setBk b { d.bk b with lastStart := some (d.bk b).pickCount }
  (d.unwait l).each (d.chMembers l) Dev.chOn

/-- A start is due: it is made, or it waits (R253, R312). -/
def Dev.startDue (d : Dev) (l : Nat) : Dev :=
  let b := bankOf l
  if d.startAllowed b then d.startNow l
  else
    let d := d.setCh l { d.ch l with waited := 0, waitWhy := 0 }
    d.each (d.chMembers l) fun d m =>
      ((d.wri CH_STAT_STATE m chWAIT).setBit BANK_WAITING_CHANS (bankOf m) (m % 16)).chIdle m

/-- A group whose start waits no longer, or that is on, turns off. -/
def Dev.groupOff (d : Dev) (l st : Nat) : Dev :=
  (d.unwait l).each (d.chMembers l) fun d m => d.chOff m st

/-! ### Command words (R243 to R245, R253 to R255, R306, R321) -/

/-- Whether MODE 0 stands in place of every command word of a group: it is shed, or a member is out of service
(R306, R321). -/
def Dev.replaced (d : Dev) (l : Nat) : Bool :=
  d.bit BANK_SHED_CHANS (bankOf l) (l % 16) || (d.chMembers l).any fun m => (d.ch m).outOfService

/-- A valid command word acts on a group (R253). `restart` tells that the same frame brings a PWM restart (R286). -/
def Dev.obey (d : Dev) (l w : Nat) (restart : Bool) : Dev :=
  let old := d.chMode l
  let mode := w % 4
  let st := d.chState l
  let ms := d.chMembers l
  let d := d.each ms fun d m => d.wri CH_CMD m w
  if mode = 0 then
    let d := if st = chOFF ∨ st = chCOOL then d.each ms fun d m => d.wri CH_STAT_NEEDOFF m 0 else d
    if st = chWAIT ∨ st = chINRUSH ∨ st = chON then d.groupOff l chOFF else d
  else if st = chOFF then (if d.flagi CH_STAT_NEEDOFF l then d else d.startDue l)
  else if (st = chINRUSH ∨ st = chON) ∧ old ≠ mode then
    if mode = 1 then
      d.each ms fun d m => (d.periodDrop m).chOnEdge m
    else d.each ms fun d m => d.setCh m { d.ch m with periodAtPick := !restart }
  else d

/-- A command word that is invalid for a group (R244). -/
def Dev.wordBad (d : Dev) (l w : Nat) : Bool :=
  w % 4 == 3 || w / 32 != 0 || (w % 4 == 2 && !(d.ch l).pwmSet)

/-- A command word reaches a group's lead: replaced while shed, and as MODE 0 when it is invalid (R244, R306). -/
def Dev.command (d : Dev) (l w : Nat) (restart : Bool) : Dev :=
  let w := if d.replaced l then 0 else w
  if d.wordBad l w then
    let d := d.each (d.chMembers l) fun d m => d.wri CH_EVT_CMDERR m 1
    (d.bankRec (bankOf l) 0x041A [l]).obey l 0 restart
  else d.obey l w restart

/-- A fail state acts as a command word: OFF as MODE 0, ON as MODE 1 with LIMSEL 0, HOLD as the command in force (R255,
R327). -/
def Dev.failState (d : Dev) (l : Nat) : Dev :=
  let f := d.rdi CH_FAIL_FSTATE l
  if f = 0 then d.command l 0 false else if f = 1 then d.command l 1 false else d.command l (d.rdi CH_CMD l) false

/-! ### The limit in force (R242, R243, R245, R256) -/

/-- An H channel on three cells is judged under lower values (R242). -/
def Dev.threeCells (d : Dev) (m : Nat) : Bool := decide (m % 16 < 2) && d.rdi CH_STAT_CELLS m == 3

/-- The limit in force in steps of 25 mA: ILIM from the start of the inrush window to its end; else LIMIT at the quarters that
LIMSEL of the command in force leaves of it (R242, R243, R245, R256). -/
def Dev.limitNow (d : Dev) (m : Nat) : Nat :=
  if d.chState m = chINRUSH ∧ (d.ch m).winOpen then
    4 * (if d.threeCells m then min (d.rdi CH_INRUSH_ILIM m) 900 else d.rdi CH_INRUSH_ILIM m)
  else
    (4 - d.rdi CH_CMD m / 4 % 4) * (if d.threeCells m then min (d.rdi CH_LIM_LIMIT m) 300 else d.rdi CH_LIM_LIMIT m)

/-! ### Trips (R253, R260 to R267, R274) -/

/-- The recorder code of a cause (R296). -/
def tripCode (cause : Nat) : Nat := 0x040F + cause

/-- The cause that CAUSE takes of those detected in one clock cycle: the first in the order TJ, DT, LIMIT, WIRE (R267). -/
def firstCause (own : Nat) (same : List Nat) : Nat :=
  ([trTJ, trDT, trLIMIT, trWIRE].find? fun c => (own :: same).contains c).getD own

/-- A trip of member `m` turns its whole group off (R253, R265, R274). `pin` is argument 1 of code 0x0413 (R263). -/
def Dev.chTrip (d : Dev) (m cause pin : Nat) : Dev :=
  let l := d.chLead m
  let b := bankOf m
  let th := d.rdi CH_FAULT_THRESH l
  let latch := d.fwFires (.channel l) th
  let d := d.fwEvent (.channel l) th
  let d := d.each (d.chMembers l) fun d k =>
    let d := d.chOff k (if latch then chLATCHED else chCOOL)
    let d := (d.wri CH_STAT_CAUSE k (if k = m then cause else trGROUP)).wri CH_EVT_TRIP k 1
    let d := d.inci CH_CNT_TRIPS k
    if latch then (d.wri CH_EVT_LATCH k 1).inci CH_CNT_LATCHES k else d
  let d := d.setCh l { d.ch l with retryRun := true }
  let d := d.bankRec b (tripCode cause) (if cause = trWIRE then [m, pin] else [m])
  let d := if latch then d.bankRec b 0x0414 [l] else d
  if cause = trWIRE then d else d.shortEvent b

/-- A TJ trip of a channel whose output is already off: not counted (R253, R261). -/
def Dev.tjIdle (d : Dev) (m : Nat) : Dev :=
  let l := d.chLead m
  let b := bankOf m
  let st := d.chState m
  let d := if st = chWAIT then d.groupOff l chCOOL else d
  let d := d.each (d.chMembers l) fun d k => d.wri CH_STAT_CAUSE k (if k = m then trTJ else trGROUP)
  let d := (d.wri CH_EVT_TRIP m 1).inci CH_CNT_TRIPS m
  let d := if st = chLATCHED then d else d.setCh l { d.ch l with retryRun := true }
  (d.bankRec b 0x0412 [m]).shortEvent b

/-! ### Hand-over (R325 to R329) -/

/-- The hold time of a group ends, or is 0: its fail state is applied (R325). -/
def Dev.holdFail (d : Dev) (l : Nat) : Dev :=
  let b := bankOf l
  let d := d.setCh l { d.ch l with holdRun := false }
  let d := d.each (d.chMembers l) fun d m =>
    (d.clrBit BANK_HOLD_HOLDING b (m % 16)).setBit BANK_HOLD_FAILED b (m % 16)
  ((d.failState l).wri BANK_EVT_FAIL b 1).bankRec b 0x0424 [l]

/-- The channel's hand-over ends: NORMAL (R325). -/
def Dev.holdEnd (d : Dev) (l : Nat) : Dev :=
  let b := bankOf l
  let d := d.setCh l { d.ch l with holdRun := false }
  d.each (d.chMembers l) fun d m => (d.clrBit BANK_HOLD_HOLDING b (m % 16)).clrBit BANK_HOLD_FAILED b (m % 16)

/-- The keeper treats the core die as reset (R21, R325, R326). -/
def Dev.handOver (d : Dev) (b : Nat) : Dev :=
  if d.flagi BANK_STAT_LINK b then d
  else
    let d := (d.wri BANK_STAT_LINK b 1).wri BANK_EVT_HOLD b 1
    let d := (d.setBk b { d.bk b with resumed := false }).bankRec b 0x0423 [b]
    d.each (bankChans b) fun d m =>
      if d.chLead m = m ∧ d.chUsed m ∧ !d.bit BANK_HOLD_HOLDING b (m % 16) ∧ !d.bit BANK_HOLD_FAILED b (m % 16) then
        if d.rdi CH_FAIL_HOLDMS m = 0 then d.holdFail m
        else
          let d := d.setCh m { d.ch m with holdRun := true }
          d.each (d.chMembers m) fun d k => d.setBit BANK_HOLD_HOLDING b (k % 16)
      else d

/-- The hand-over has ended for every used channel (R326). -/
def Dev.handOverEnd (d : Dev) (b : Nat) : Dev :=
  let normal := (bankChans b).all fun m =>
    !d.chUsed m || (!d.bit BANK_HOLD_HOLDING b (m % 16) && !d.bit BANK_HOLD_FAILED b (m % 16))
  if !(d.bk b).resumed ∧ !d.flagi BANK_STAT_LINK b ∧ normal then
    ((d.setBk b { d.bk b with resumed := true }).wri BANK_EVT_RESUME b 1).bankRec b 0x0425 [b]
  else d

/-! ### Sheds (R304 to R308, R329, R330) -/

/-- Entry `j` of SHORDER (R305, R337). -/
def Dev.shOrder (d : Dev) (b j : Nat) : Nat :=
  if j < 8 then bits (d.rdi BANK_SHORDER0_ORDER b) (4 * j + 3) (4 * j)
  else bits (d.rdi BANK_SHORDER1_ORDER b) (4 * (j - 8) + 3) (4 * (j - 8))

/-- The bank's channels in shedding order. -/
def Dev.shList (d : Dev) (b : Nat) : List Nat := (List.range 16).map fun j => b * 16 + d.shOrder b j

/-- The broken promise of a shed is signalled: notice 0x11, counts, source 433 and code 0x0331 (R230, R307). With a
logged time the record carries LOGGED and that time (R329). -/
def Dev.shedBreach (d : Dev) (m : Nat) (logged : Option Nat) : Dev :=
  let o := d.rdi CH_OWNER m
  let cls := d.ctxClass o
  let d := (d.inci CTX_BRCNT_COUNT 1).wr CTX_EVT_BREACH 1
  let d := d.notice o 0x11 cls m
  let d := match logged with
    | some t => d.trigWith 0x0331 [m] 2 t
    | none => d.trig 0x0331 [m]
  if cls = 0 then d.c0Conflict o 1 else d

/-- A trip of a channel that is on, in the cycle of another event of its bank; of any other channel none (R308). -/
def Dev.tripLive (d : Dev) (p : Nat × Nat) : Dev := if d.chLive p.1 then d.chTrip p.1 p.2 0 else d

/-- A channel's group is shed (R306, R307). During a hand-over the shed is logged (R329). -/
def Dev.shed (d : Dev) (m : Nat) : Dev :=
  let l := d.chLead m
  let b := bankOf m
  let d := d.each (d.chMembers l) fun d k => d.setBit BANK_SHED_CHANS b (k % 16)
  let d := ((d.obey l 0 false).wri BANK_EVT_SHED b 1).inci BANK_CNT_SHEDS b
  if d.flagi BANK_STAT_LINK b then d.bankRec b 0x0331 [l] else d.shedBreach l none

/-- The first channel in SHORDER that is on, carries at least 0.5 A and is not shed (R304). `cur` gives the output
currents of the 16 channels in mA. -/
def Dev.shedPick (d : Dev) (b : Nat) (cur : List Nat) : Option Nat :=
  (d.shList b).find? fun m =>
    d.chLive m && decide (500 ≤ cur.getD (m % 16) 0) && !d.bit BANK_SHED_CHANS b (m % 16)

/-- What FLT does when cell `k` of H channel `m` is retired: the spare has taken its place (code 0x0426), or none was left
(R319 to R321, R733). -/
def Dev.cellAct (d : Dev) (write : Dev → Nat → List Nat → Dev) (code m k : Nat) : Dev :=
  if code = 0x0426 then write ((d.lastingBy write 4 1 m).wr FLT_EVT_SUBST 1) 0x0702 [k, 4]
  else
    let d := write ((d.lastingBy write 4 4 m).wr FLT_EVT_EXHAUST 1) 0x0703 [m]
    write (d.wr FLT_EVT_LATCHOFF 1) 0x0704 [m]

/-- A retirement is reported: at once, or through the keeper log during a hand-over, when the core die does not run (R329). -/
def Dev.cellRec (d : Dev) (code m k : Nat) : Dev :=
  if d.flagi BANK_STAT_LINK (bankOf m) then d.bankRec (bankOf m) code [m, k]
  else (d.cellAct Dev.trig code m k).trig code [m]

/-- A code by which a keeper reports a retirement (R338). -/
def cellCode (code : Nat) : Bool := code == 0x0426 || code == 0x0427 || code == 0x0428

/-- An event of the keeper log becomes a record with LOGGED and the time of the event (R329). -/
def Dev.readEvent (d : Dev) (e : LogEvent) : Dev :=
  let write := fun (d : Dev) (code : Nat) (args : List Nat) => d.trigWith code args 2 e.time
  if e.code = 0x0331 then d.shedBreach (e.args.getD 0 0) (some e.time)
  else if cellCode e.code then
    write (d.cellAct write e.code (e.args.getD 0 0) (e.args.getD 1 0)) e.code (e.args.take 1)
  else write d e.code e.args

/-- The core die reads the keeper log into the recorder (R329, R330). -/
def Dev.readLog (d : Dev) (b : Nat) : Dev :=
  let l := (d.bk b).log
  let d := d.setBk b { d.bk b with log := [] }
  d.each l Dev.readEvent

/-! ### Manual drive (R279 to R281) -/

/-- The slot of a channel in its bank's command frame (R19, R324). -/
def Dev.slot (d : Dev) (m : Nat) : FrameSlot := d.trd.frame.get m {}

def Dev.setSlot (d : Dev) (m : Nat) (f : FrameSlot) : Dev :=
  { d with trd := { d.trd with frame := d.trd.frame.set m f } }

/-- MODE 0 stands in the slot of a group, in the frame under construction and in the one last sent, so that the channel
follows the next DRIVE or PWMSET that runs for it and no earlier one (R281). -/
def Dev.slotOff (d : Dev) (l : Nat) : Dev :=
  let b := bankOf l
  let d := d.setSlot l { d.slot l with cmd := 0 }
  d.setBk b { d.bk b with lastFrame :=
    (d.bk b).lastFrame.mapIdx fun i f => if i = l % 16 then { f with cmd := 0 } else f }

/-- Manual drive of a group ends: MODE 0, MANEND and code 0x0419 (R281). -/
def Dev.manEnd (d : Dev) (l : Nat) : Dev :=
  if (d.ch l).manual then
    let d := d.each (d.chMembers l) fun d m =>
      let d := d.setCh m { d.ch m with manual := false }
      ((d.wri CH_STAT_MAN m 0).wri CH_MAN_EN m 0).wri CH_EVT_MANEND m 1
    (d.slotOff l).bankRec (bankOf l) 0x0419 [l] |>.command l 0 false
  else d

/-- Manual drive of a group starts or is renewed; the PWM setting in force at the start stays in force (R280, R324). -/
def Dev.manOn (d : Dev) (l cmd : Nat) : Dev :=
  let d := if (d.ch l).manual then d
    else
      let d := d.each (d.chMembers l) fun d m =>
        (d.setCh m { d.ch m with manual := true, pwmNext := none, restart := none }).wri CH_STAT_MAN m 1
      (d.setSlot l { d.slot l with assert := true }).bankRec (bankOf l) 0x0418 [l]
  d.command l cmd false

/-- Every manual drive ends: SERVICE is left (R281, R605). -/
def Dev.manEndAll (d : Dev) : Dev := d.each (List.range 64) Dev.manEnd

/-- CHm_MAN as the host or a tagged access writes it: the register, then the start, renewal or end (R280, R281). -/
def Dev.manWrite (d : Dev) (m en cmd : Nat) : Dev :=
  let d := (d.wri CH_MAN_EN m en).wri CH_MAN_CMD m cmd
  let l := d.chLead m
  if en = 1 then d.manOn l cmd else d.manEnd l

/-! ### The bank's lock, its deck card and the keeper's reset (R299, R301, R305) -/

/-- The bank locks its channels (R253, R299). -/
def Dev.bankLock (d : Dev) (b why : Nat) (recorded : Bool) : Dev :=
  let d := (d.wri BANK_STAT_STATE b 3).wri BANK_STAT_LOCKWHY b why
  let d := d.each (bankChans b) fun d m => (d.unwait m).chOff m chLOCKED
  let d := d.wri BANK_EVT_LOCK b 1
  if recorded then d.bankRec b 0x0420 [why] else d

/-- Locked channels are unlocked: OFF, and an OFF command is awaited (R253). -/
def Dev.bankUnlock (d : Dev) (b : Nat) : Dev :=
  let any := (bankChans b).any fun m => d.chState m == chLOCKED
  let d := d.each (bankChans b) fun d m =>
    if d.chState m = chLOCKED then ((d.wri CH_STAT_STATE m chOFF).wri CH_STAT_NEEDOFF m 1).chIdle m else d
  if any then d.wri BANK_EVT_UNLOCK b 1 else d

/-- The class check starts (R298, R299). -/
def Dev.checkStart (d : Dev) (b : Nat) : Dev :=
  let d := (d.wri BANK_STAT_STATE b 1).wri BANK_STAT_LOCKWHY b 0
  d.setBk b { d.bk b with checked := d.rdi BANK_CFG_VCLASS b }

/-- The shedding order of R305: by class from C3 down, later declared first, followers after their lead, unused
channels last in descending index. -/
def Dev.calcOrder (d : Dev) (b : Nat) : List Nat :=
  let leads := ((d.rdeck.bankRecs b).map fun r => b * 16 + r.index).filter fun m => d.chUsed m && d.chLead m == m
  let byClass := [3, 2, 1, 0].flatMap fun c => leads.reverse.filter fun m => d.ctxClass (d.rdi CH_OWNER m) == c
  let used := byClass.flatMap fun l => l :: (d.chMembers l).filter fun m => m != l
  used ++ (bankChans b).reverse.filter fun m => !used.contains m

/-- SHORDER and C0MASK are written (R305, R337). -/
def Dev.writeOrder (d : Dev) (b : Nat) : Dev :=
  let o := d.calcOrder b
  let word := fun (k : Nat) => (List.range 8).foldl (fun t j => t + (o.getD (k + j) 0 % 16) * 16 ^ j) 0
  let d := (d.wri BANK_SHORDER0_ORDER b (word 0)).wri BANK_SHORDER1_ORDER b (word 8)
  d.wri BANK_C0MASK_CHANS b ((bankChans b).foldl (fun t m =>
    t + (if d.chUsed m ∧ d.ctxClass (d.rdi CH_OWNER m) = 0 then 2 ^ (m % 16) else 0)) 0)

/-- The register image of one channel record, in the order of R58. -/
def Dev.imageChan (d : Dev) (b : Nat) (r : BankRec) : Dev :=
  let a := CH_CFG_LEAD.addr (b * 16 + r.index)
  (List.range 8).foldl (fun d k => d.image (a + 4 * k) (r.words.getD k 0)) d

/-- The RWL fields of the bank's registers take their reset values before a card is written. -/
def Dev.clearImages (d : Dev) (b : Nat) : Dev :=
  let d := d.resetRange (BANK_CFG_VCLASS.addr b) (BANK_CFG_VCLASS.addr b + 12)
  d.each (bankChans b) fun d m => d.resetRange (CH_CFG_LEAD.addr m) (CH_CFG_LEAD.addr m + 32)

/-- A channel that a new card leaves unused stays OFF: it waits, holds and recovers no more. A latched or locked one, whose
output is off, stays what it is (R248, R254). -/
def Dev.dropUnused (d : Dev) (m : Nat) : Dev :=
  if d.chUsed m then d.chIdle m
  else
    let b := bankOf m
    let d := (d.unwait m).setCh m { d.ch m with retryRun := false, holdRun := false, waited := 0, waitWhy := 0 }
    let d := (d.clrBit BANK_HOLD_HOLDING b (m % 16)).clrBit BANK_HOLD_FAILED b (m % 16)
    if d.chState m = chWAIT ∨ d.chLive m ∨ d.chState m = chCOOL then d.chOff m chOFF else d.chIdle m

/-- The running deck's bank card is written into a bank's registers, and the bank takes the row of R299 for a deck
commit. A bank whose keeper does not run is written when the keeper starts (R301). -/
def Dev.commitBank (d : Dev) (b : Nat) : Dev :=
  if !d.bankFitted b ∨ !(d.bk b).keeperOn then d
  else
    let d := d.clearImages b
    let st := d.rdi BANK_STAT_STATE b
    match d.rdeck.body 7 b with
    | some (.bank cfg budget inrush recs) =>
      let d := d.image (BANK_CFG_VCLASS.addr b) cfg
      let d := (d.image (BANK_CFG_VCLASS.addr b + 4) budget).image (BANK_CFG_VCLASS.addr b + 8) inrush
      let d := d.each recs fun d r => d.imageChan b r
      let d := (d.each (bankChans b) Dev.dropUnused).writeOrder b
      let differs := d.rdi BANK_CFG_VCLASS b != (d.bk b).checked
      if st = 0 then d.checkStart b
      else if st = 2 ∧ differs then
        (d.each (bankChans b) fun d m => (d.unwait m).chOff m chLOCKED).checkStart b
      else if st = 3 ∧ (d.rdi BANK_STAT_LOCKWHY b = 1 ∨ d.rdi BANK_STAT_LOCKWHY b = 2) then d.checkStart b
      else if st = 1 ∧ differs then d.checkStart b
      else d
    | _ =>
      let d := (d.each (bankChans b) Dev.dropUnused).writeOrder b
      if st = 3 then d.wri BANK_STAT_LOCKWHY b 1 else d.bankLock b 1 false

/-- Cells of an H channel in service for a map of retired cells: five cells, four active (R240, R320, R321). -/
def cellsLeft (ret : Nat) : Nat := min 4 (5 - ((List.range 5).filter fun k => ret.testBit k).length)

/-- The map of retired cells of an H channel (R337). -/
def Dev.cellMap (d : Dev) (m : Nat) : Nat := if m % 16 = 0 then d.rdi BANK_CELLMAP_RET0 (m / 16) else d.rdi BANK_CELLMAP_RET1 (m / 16)

/-- The map of an H channel changes; CELLS follows, and the core die keeps a copy (R292, R322). -/
def Dev.setCellMap (d : Dev) (m ret : Nat) : Dev :=
  let b := bankOf m
  let d := if m % 16 = 0 then d.wri BANK_CELLMAP_RET0 b ret else d.wri BANK_CELLMAP_RET1 b ret
  let d := d.wri CH_STAT_CELLS m (cellsLeft ret)
  let d := d.setCh m { d.ch m with outOfService := decide (cellsLeft ret ≤ 2) }
  d.setBk b { d.bk b with savedCells := d.rdi BANK_CELLMAP_RET0 b + d.rdi BANK_CELLMAP_RET1 b * 32, savedCellsValid := true }

/-- PWR restores the map of retired cells; without valid retained state no cell is retired (R322). -/
def Dev.restoreCells (d : Dev) (b : Nat) : Dev :=
  let k := d.bk b
  if k.savedCellsValid then
    (d.setCellMap (b * 16) (k.savedCells % 32)).setCellMap (b * 16 + 1) (k.savedCells / 32 % 32)
  else d

/-- A keeper reset: every bank and channel register takes its Reset value and every channel is OFF (R301). -/
def Dev.keeperReset (d : Dev) (b : Nat) : Dev :=
  let k := d.bk b
  let base := 0x40300000 + b * 0x10000
  let d := d.resetRange base (base + 0x10000)
  let d := d.each (bankChans b) fun d m => { d with chan := d.chan.erase m }
  let d := d.each [b * 16, b * 16 + 1] fun d m => d.each (List.range 5) fun d c => d.fwClear (.cell m c)
  d.setBk b { latchedOff := k.latchedOff, savedCells := k.savedCells, savedCellsValid := k.savedCellsValid,
              lastFrame := k.lastFrame, again := true }

/-- PWR reports a keeper that has started again: source 412 + b and code 0x042A (R301). -/
def Dev.keeperReport (d : Dev) (b : Nat) : Dev :=
  (((d.setBk b { d.bk b with rewriteDue := false })).setBit PWR_EVT_KRST 0 b).trig 0x042A [b]

/-- The keeper runs and the core die runs: PWR writes the bank's registers, and reports a keeper that had reset (R301). -/
def Dev.keeperRewrite (d : Dev) (b : Nat) : Dev :=
  let d := (if d.deck.running.isSome then d.commitBank b else d).restoreCells b
  if (d.bk b).again then d.keeperReport b else d

end Sys2Proof.Machine
end

