-- ==== Sys2Proof/Machine/Channels.lean ====
section
/-! DEFINITION. The commands of the load channels: command frames, hand-over, PWM, limiter, trips, wire and pin models,
recovery, open-load test and manual drive (R240 to R296, R312 to R332). -/

namespace Sys2Proof.Machine

/-- OLREQ of the word that a frame brings a group: with OLMODE 2 its change from 0 to 1 while the channel is OFF starts a test
(R243, R268). An invalid or replaced word is MODE 0 and requests none. -/
def Dev.olTest (d : Dev) (l : Nat) (req : Bool) : Dev :=
  let was := (d.ch l).olReq
  let d := d.setCh l { d.ch l with olReq := req }
  if d.rdi CH_CFG_OLMODE l = 2 ∧ req ∧ !was ∧ d.chState l = chOFF then
    d.setCh l { d.ch l with pullUp := true, compare := false }
  else d

/-- The slot of a lead acts on its group (R244, R249, R306, R324, R325). In manual drive CHm_MAN.CMD takes the place of its
command word, and its PWM setting does not count (R280). -/
def Dev.takeSlot (d : Dev) (m : Nat) (f : FrameSlot) : Dev :=
  if d.chLead m ≠ m ∨ !d.chUsed m ∨ !f.assert then d
  else
    let b := bankOf m
    let man := (d.ch m).manual
    let w := if man then d.rdi CH_MAN_CMD m else f.cmd
    let d := if d.bit BANK_HOLD_HOLDING b (m % 16) ∨ d.bit BANK_HOLD_FAILED b (m % 16) then d.holdEnd m else d
    let d := if w % 4 = 0 then d.each (d.chMembers m) fun d k => d.clrBit BANK_SHED_CHANS b (k % 16) else d
    let d := if man then d else d.each (d.chMembers m) fun d k => d.setPwm k f
    let req := w.testBit 4 && !d.replaced m && !d.wordBad m w
    (d.command m w (f.phrst && !man)).olTest m req

/-- The slots of a frame, the latest of SHORDER first, so that of several starts in one frame the latest is allowed
(R312). -/
def Dev.takeFrame (d : Dev) (b : Nat) (slots : List FrameSlot) : Dev :=
  d.each (d.shList b).reverse fun d m => d.takeSlot m (slots.getD (m % 16) {})

/-- A discarded frame counts in the bank link's counter; at THRESH the link retrains, and the third retrain within
60 s latches it off (R20, R731, R733, R738). The ACTION of a retrain is not among those of R745: a free value. -/
def Dev.frameLost (d : Dev) (b : Nat) : Dev :=
  let d := d.inci BANK_LINKERR_CRCERR b
  let fires := d.fwFires (.bankLink b) 64
  let d := d.fwEvent (.bankLink b) 64
  if !fires then d
  else if d.fwFires (.retrain b) 3 then
    let d := (d.fwEvent (.retrain b) 3).lasting 7 3 b
    let d := (d.fwClear (.bankLink b)).wri FLT_BANKCNT_REACHED b 1
    let d := d.setBk b { d.bk b with latchedOff := true }
    ((d.trig 0x0706 [b]).wr FLT_EVT_LATCHOFF 1).trig 0x0704 [b]
  else
    let act := d.freeVal 3
    let d := ((d.fresh.fwEvent (.retrain b) 3).lasting 7 act b).trig 0x0706 [b]
    d.fwClear (.bankLink b)

/-- COMMAND_FRAME_RECEIVED (R246): the keeper of bank `b` receives the frame that the core die sent last, `good` when
its CRC-16 holds (R20). LINK clears at the first good frame, the keeper log is read, and each channel acts on its
slot (R326, R329). -/
def execCommandFrameReceived (b : Nat) (good : Bool) (s : State) : Host.Outcome State Fault Refusal :=
  onDev (fun d =>
    if !d.bankFitted b ∨ !(d.bk b).keeperOn then d
    else if good then
      let d := if d.flagi BANK_STAT_LINK b then (d.wri BANK_STAT_LINK b 0).readLog b else d
      (d.takeFrame b (d.bk b).lastFrame).handOverEnd b
    else d.frameLost b) s

/-- LINK_HEARTBEAT (R21): a heartbeat keeps the keeper's silence timer from expiring. The silence itself is the command
LINK_SILENCE, so nothing else changes. -/
def execLinkHeartbeat (_b : Nat) (s : State) : Host.Outcome State Fault Refusal := onDev (fun d => d) s

/-- LINK_SILENCE (R21, R326): 8 µs without frame or heartbeat. -/
def execLinkSilence (b : Nat) (s : State) : Host.Outcome State Fault Refusal :=
  onDev (fun d => if d.bankFitted b ∧ (d.bk b).keeperOn then d.handOver b else d) s

/-- HOLD_EXPIRY (R325): the hold timer of a channel expires. -/
def execHoldExpiry (m : Nat) (s : State) : Host.Outcome State Fault Refusal :=
  onDev (fun d => if (d.ch m).holdRun then d.holdFail m else d) s

/-- A lead put into a list of waiting leads behind those that have waited at least as long. -/
def Dev.insertWait (d : Dev) (m : Nat) : List Nat → List Nat
  | [] => [m]
  | x :: rest => if (d.ch x).waited < (d.ch m).waited then m :: x :: rest else x :: d.insertWait m rest

/-- The waiting leads of a bank, the longest wait first and between equal waits the latest in SHORDER first (R313). -/
def Dev.waitOrder (d : Dev) (b : Nat) : List Nat :=
  let ws := (d.shList b).reverse.filter fun m => d.chLead m == m && d.chState m == chWAIT
  ws.foldl (fun l m => d.insertWait m l) []

/-- A start beyond the deferral limit (R314). -/
def Dev.deferStart (d : Dev) (m : Nat) : Dev :=
  let b := bankOf m
  let why := (d.ch m).waitWhy
  let why := if why = 0 then d.heldBy b else why
  let d := ((d.wri BANK_EVT_DEFLIM b 1).inci BANK_CNT_DEFLIM b).bankRec b 0x0422 [m, why]
  d.startNow m

/-- One pick passes at the keeper (R300, R313, R314, R316): waits count, starts at DEFMAX are made, one further start
is released, and PWM periods due at the boundary begin (R252). -/
def Dev.keeperPick (d : Dev) (b : Nat) : Dev :=
  let d := d.setBk b { d.bk b with pickCount := (d.bk b).pickCount + 1 }
  let d :=
    if d.rdi BANK_STAT_STATE b = 2 then
      let d := d.each (d.waitOrder b) fun d m => d.setCh m { d.ch m with waited := (d.ch m).waited + 1 }
      let due := (d.waitOrder b).filter fun m => decide (d.rdi BANK_INRUSH_DEFMAX b ≤ (d.ch m).waited)
      let d := d.each due Dev.deferStart
      let d := match d.waitOrder b with
        | [] => d
        | m :: _ => if d.startAllowed b then d.startNow m else d
      d.each (d.waitOrder b) fun d m => d.setCh m { d.ch m with waitWhy := (d.ch m).waitWhy ||| d.heldBy b }
    else d
  d.each (bankChans b) fun d m =>
    if (d.ch m).periodAtPick ∧ (d.ch m).restart.isNone ∧ d.chMode m = 2 ∧ d.chLive m then d.periodBegin m else d

/-- LSB of the current sense in mA (R240). -/
def senseLsb (m : Nat) : Nat := if m % 16 < 2 then 40 else if m % 16 < 8 then 20 else 8

/-- The latest conversions become what SAMPLE entries read (R277, R302). -/
def Dev.returnSense (d : Dev) (b : Nat) : Dev :=
  let d := d.each (bankChans b) fun d m =>
    d.setCh m { d.ch m with retI := d.rdi CH_ISENSE_CODE m, retV := d.rdi CH_VSENSE_CODE m, retT := d.rdi CH_TEMP_TJ m }
  let k := d.bk b
  d.setBk b { k with retCase := k.caseTemp, retVsup := d.rdi BANK_VSUP_VOLT b, retIsum := d.rdi BANK_ISUM_CUR b }

/-- The sense instant of a channel is the middle of the high time of its last PWM period: SENSE 1 in MODE 2, when that period
had one (R277). -/
def Dev.senseMid (d : Dev) (m : Nat) : Bool :=
  d.rdi CH_CFG_SENSE m == 1 && d.chMode m == 2 && decide (0 < (d.ch m).lastHigh)

/-- The keeper converts the sensors of its bank (R276, R277, R302): each channel's at its own sense instant, the case and the
supply at the pick boundary. -/
def Dev.takeSense (d : Dev) (b : Nat) (atMark atMid : List Sense) (case vsup : Nat) : Dev :=
  let d := d.each (bankChans b) fun d m =>
    let x := (if d.senseMid m then atMid else atMark).getD (m % 16) {}
    ((d.wri CH_ISENSE_CODE m x.i).wri CH_VSENSE_CODE m x.v).wri CH_TEMP_TJ m x.tj |>.wri CH_TEMP_DT m x.dt
  let sum := (bankChans b).foldl (fun t m => t + d.rdi CH_ISENSE_CODE m * senseLsb m) 0
  let cur := d.quot sum 100
  let d := (d.fresh.wri BANK_VSUP_VOLT b vsup).wri BANK_ISUM_CUR b (min cur 4095)
  d.setBk b { d.bk b with caseTemp := case % 65536, convAgo := some 0, converted := true }

/-- A pick boundary `ns` after the last: what was converted at the last conversion is returned, and the sensors convert unless
the last conversion is less than 10 µs ago. At the first boundary, which no conversion precedes, the values converted there
are themselves returned (R106, R277, R278). -/
def Dev.convert (d : Dev) (b ns : Nat) (atMark atMid : List Sense) (case vsup : Nat) : Dev :=
  let first := !(d.bk b).converted
  let d := d.returnSense b
  let ago := (d.bk b).convAgo.map fun t => t + ns
  if ago.all fun t => decide (10000 ≤ t) then
    let d := d.takeSense b atMark atMid case vsup
    if first then d.returnSense b else d
  else d.setBk b { d.bk b with convAgo := ago }

/-- PICK_MARK (R277, R278, R302, R313): a pick boundary at the keeper, `ns` after the last, with what the sensors of its
channels show there and at the middle of the high time of the last PWM period, the case temperature and the supply. -/
def execPickMark (b ns : Nat) (atMark atMid : List Sense) (case vsup : Nat) (s : State) :
    Host.Outcome State Fault Refusal :=
  onDev (fun d =>
    if d.bankFitted b ∧ (d.bk b).keeperOn then (d.convert b ns atMark atMid case vsup).keeperPick b else d) s

/-- OWN_OSCILLATOR_PICK (R316): during a hand-over the keeper counts a pick on its own oscillator. -/
def execOwnOscillatorPick (b : Nat) (s : State) : Host.Outcome State Fault Refusal :=
  onDev (fun d => if d.flagi BANK_STAT_LINK b then d.keeperPick b else d) s

/-- The PWM of a group runs: its lead has a period in progress in MODE 2 and is on (R252). -/
def Dev.pwmRuns (d : Dev) (m : Nat) : Bool :=
  d.chLead m == m && (d.ch m).periodOn && d.chMode m == 2 && d.chLive m

/-- PWM_PERIOD_START (R250): the next period of a lead's running PWM starts, in the same cycle for every member of its group
(R272). A follower has no period of its own. -/
def execPwmPeriodStart (m : Nat) (s : State) : Host.Outcome State Fault Refusal :=
  onDev (fun d => if d.pwmRuns m then d.each (d.chMembers m) Dev.periodBegin else d) s

/-- The output of a channel turns off at the end of its high time (R250). The run of regulation goes on over the off time,
unless the limiter has not regulated in the on time that ends here (R258). -/
def Dev.highEnd (d : Dev) (m : Nat) : Dev :=
  let d := d.onTimeEnd m
  (d.setCh m { d.ch m with output := false, onReg := false }).wri CH_STAT_LIMITING m 0

/-- PWM_HIGH_TIME_END (R250): the outputs of a lead's group turn off for the rest of the period. -/
def execPwmHighTimeEnd (m : Nat) (s : State) : Host.Outcome State Fault Refusal :=
  onDev (fun d =>
    if d.pwmRuns m ∧ (d.ch m).output ∧ d.chHighNow m < d.rdi CH_PWMPER_PERIOD m then d.each (d.chMembers m) Dev.highEnd
    else d) s

/-- A member's restart is due: its period ends and the new setting takes effect (R249, R251). -/
def Dev.restartPwm (d : Dev) (m : Nat) : Dev :=
  match (d.ch m).restart with
  | none => d
  | some r =>
    let d := (d.periodPast m).setCh m { (d.periodPast m).ch m with restart := none, pwmNext := none, periodOn := false }
    let d := (d.wri CH_CMD_DUTY m r.2.1).wri CH_PWMPER_PERIOD m r.2.2
    if d.chMode m = 2 ∧ d.chLive m then d.periodBegin m else d

/-- PWM_RESTART (R249, R251, R272): the period of a lead's group ends and the new setting takes effect. -/
def execPwmRestart (m : Nat) (s : State) : Host.Outcome State Fault Refusal :=
  onDev (fun d => if d.chLead m = m then d.each (d.chMembers m) Dev.restartPwm else d) s

/-- INRUSH_WINDOW_END (R253, R257, R258): the normal limit is in force; regulation in progress counts from here. -/
def execInrushWindowEnd (m : Nat) (s : State) : Host.Outcome State Fault Refusal :=
  onDev (fun d =>
    if d.chState m = chINRUSH ∧ (d.ch m).winOpen then
      let d := (d.wri CH_STAT_STATE m chON).setCh m { d.ch m with winOpen := false }
      if d.flagi CH_STAT_LIMITING m then
        (d.setCh m { d.ch m with dwellRun := true }).shortEvent (bankOf m)
      else d
    else d) s

/-- LIMITER_REGULATE (R256, R258, R315): the output current, `cur` in mA as the limiter finds it, passes the limit in force.
Outside the window regulation starts DWELL and a short event. -/
def execLimiterRegulate (m cur : Nat) (s : State) : Host.Outcome State Fault Refusal :=
  onDev (fun d =>
    if d.chLive m ∧ (d.ch m).output ∧ d.limitNow m * 25 < cur then
      let d := (d.wri CH_STAT_LIMITING m 1).setCh m { d.ch m with onReg := true }
      if d.chState m = chON then (d.setCh m { d.ch m with dwellRun := true }).shortEvent (bankOf m) else d
    else d) s

/-- REGULATION_END (R256, R258): the output current, `cur` in mA, falls below the limit in force and the limiter regulates no
longer. That breaks the run of regulation, but in MODE 2, where only a whole on time without regulation breaks it. -/
def execRegulationEnd (m cur : Nat) (s : State) : Host.Outcome State Fault Refusal :=
  onDev (fun d =>
    if cur < d.limitNow m * 25 then
      (d.setCh m { d.ch m with dwellRun := (d.ch m).dwellRun && d.chMode m == 2 }).wri CH_STAT_LIMITING m 0
    else d) s

/-- DWELL_TRIP (R258, R267): the limiter has regulated for `run` × 10 µs outside the window; `same` holds the causes detected
in the same clock cycle. -/
def execDwellTrip (m run : Nat) (same : List Nat) (s : State) : Host.Outcome State Fault Refusal :=
  onDev (fun d =>
    if d.chState m = chON ∧ (d.ch m).dwellRun ∧ d.rdi CH_LIM_DWELL m ≤ run then d.chTrip m (firstCause trLIMIT same) 0
    else d) s

/-- A condition judged in samples trips at the second of two in a row in which it holds, after one in which it did not (R260,
R261). -/
def secondOfTwo (p : Int → Bool) (x0 x1 x2 : Int) : Bool := !p x0 && p x1 && p x2

/-- DT_TRIP (R260, R267): three samples of ΔT in a row, in 0.125 K. -/
def execDtTrip (m : Nat) (d0 d1 d2 : Int) (same : List Nat) (s : State) : Host.Outcome State Fault Refusal :=
  onDev (fun d =>
    if d.chLive m ∧ secondOfTwo (fun x => decide (((d.rdi CH_THERM_DTMAX m * 8 : Nat) : Int) < x)) d0 d1 d2 then
      d.chTrip m (firstCause trDT same) 0
    else d) s

/-- TJ_TRIP (R261, R267): three samples of the junction temperature in a row, in 0.125 °C, in every state but OFF and
LOCKED. -/
def execTjTrip (m : Nat) (t0 t1 t2 : Int) (same : List Nat) (s : State) : Host.Outcome State Fault Refusal :=
  onDev (fun d =>
    if !secondOfTwo (fun x => decide (1400 ≤ x)) t0 t1 t2 then d
    else if d.chLive m then d.chTrip m (firstCause trTJ same) 0
    else if d.chState m = chWAIT ∨ d.chState m = chCOOL ∨ d.chState m = chLATCHED then d.tjIdle m
    else d) s

/-- Pin capacity in A (R240, R263). -/
def pinCap (m : Nat) : Nat := if m % 16 < 2 then 48 else if m % 16 < 8 then 16 else 8

/-- IRATED as the keeper judges it, in 0.05 A: no more than 30 A on three cells (R242). -/
def Dev.irated (d : Dev) (m : Nat) : Nat :=
  if m % 16 < 2 ∧ d.rdi CH_STAT_CELLS m = 3 then min (d.rdi CH_WIRE_IRATED m) 600 else d.rdi CH_WIRE_IRATED m

/-- One step of a thermal model in units of 2^-20 A²: w + (q - w) / n, with the rounding left open (R262, log entry
5), held to 40 bits. -/
def Dev.modelStep (d : Dev) (w q n : Nat) : Nat := min (2 ^ 40 - 1) (d.quot (w * (n - 1) + q) n)

/-- LEVEL for w in 2^-20 A² and a rated current in 0.05 A (R262). -/
def wireLevel (w ir : Nat) : Nat := min 65535 (w * 25 / (2 * ir * ir))

/-- PINLEVEL for w in 2^-20 A² and a capacity in A (R263). -/
def pinLevel (w cap : Nat) : Nat := min 65535 (w / (32 * cap * cap))

/-- The mean square of 100 samples in mA, in 2^-20 A² (R262). -/
def Dev.meanSquare (d : Dev) (cur : List Nat) : Nat := d.quot ((cur.map fun i => i * i).sum * 2 ^ 20) (100 * 10 ^ 6)

/-- The 100 samples of the total current of channels of one bank, from those of its 16 channels (R262, R273). -/
def groupSamples (cur : List (List Nat)) (ms : List Nat) : List Nat :=
  (List.range 100).map fun t => (ms.map fun k => (cur.getD (k % 16) []).getD t 0).sum

/-- WIRE_MODEL_UPDATE (R262, R263, R267, R273): 1 ms passes for channel `m`; `cur` gives the 100 current samples in mA of each
of the 16 channels of its bank, `same` the causes of trips detected in the same clock cycle. -/
def execWireModelUpdate (m : Nat) (cur : List (List Nat)) (same : List Nat) (s : State) : Host.Outcome State Fault Refusal :=
  onDev (fun d =>
    let lead := d.chLead m == m
    let tau := d.rdi CH_WIRE_TAU m
    let ir := d.irated m
    let x := d.ch m
    let q := d.meanSquare (groupSamples cur [m])
    let d := d.fresh
    let qg := d.meanSquare (groupSamples cur (d.chMembers m))
    let d := d.fresh
    let pw := d.modelStep x.pinW q 10000
    let d := d.fresh
    let w := if lead ∧ tau ≠ 0 ∧ ir ≠ 0 then d.modelStep x.w qg (100 * tau) else x.w
    let d := d.fresh.setCh m { x with w := w, pinW := pw }
    let level := if lead ∧ ir ≠ 0 then wireLevel w ir else d.rdi CH_WIREST_LEVEL m
    let pin := pinLevel pw (pinCap m)
    let d := (d.wri CH_WIREST_LEVEL m level).wri CH_WIREST_PINLEVEL m pin
    let d := if 26214 ≤ level ∧ !d.flagi CH_STAT_WARN m then (d.wri CH_STAT_WARN m 1).wri CH_EVT_WARN m 1
      else if level < 24576 then d.wri CH_STAT_WARN m 0 else d
    if d.chLive m ∧ (32768 ≤ level ∨ 32768 ≤ pin) then d.chTrip m (firstCause trWIRE same) (b2n (level < 32768)) else d) s

/-- The recovery condition of a member's latest cause (R264): ΔT and junction temperature in 0.125 K. -/
def Dev.recovered (d : Dev) (m : Nat) (tj dt : Int) : Bool :=
  let c := d.rdi CH_STAT_CAUSE m
  if c = trDT then decide (dt < (d.rdi CH_THERM_DTMAX m - d.rdi CH_THERM_HYST m : Int) * 8)
  else if c = trTJ then decide (tj ≤ 1200)
  else if c = trWIRE then decide (d.rdi CH_WIREST_LEVEL m ≤ 8192) && decide (d.rdi CH_WIREST_PINLEVEL m ≤ 8192)
  else true

/-- COOL_RECOVERY (R253, R264): `ms` after the latest trip, with the junction temperatures and ΔT of the bank's 16 channels in
0.125 K: the recovery condition of every member holds and RETRY has passed. -/
def execCoolRecovery (m ms : Nat) (tj dt : List Int) (s : State) : Host.Outcome State Fault Refusal :=
  onDev (fun d =>
    let l := d.chLead m
    if d.chState l = chCOOL ∧ d.rdi CH_FAULT_RETRY l ≤ ms ∧
        (d.chMembers l).all (fun k => d.recovered k (tj.getD (k % 16) 0) (dt.getD (k % 16) 0)) then
      let d := d.setCh l { d.ch l with retryRun := false }
      if d.chMode l ≠ 0 ∧ !d.flagi CH_STAT_NEEDOFF l then d.startDue l
      else d.each (d.chMembers l) fun d k => (d.wri CH_STAT_STATE k chOFF).chIdle k
    else d) s

/-- LATCH_CLEAR (R253, R294): a write of CHm_CLR, refused unless tagged with the owner; in an unfitted bank ignored (R2). -/
def execLatchClear (init m value : Nat) (s : State) : Host.Outcome State Fault Refusal :=
  onBlockBy init 0x40300000 (fun d =>
    let c := d.tag init
    if !d.bankFitted (bankOf m) then d.answered 0
    else if c ≠ d.rdi CH_OWNER m ∨ c = 0xFFFF ∨ d.ctxBarred c then (d.refuse c BANK_ACCERR_ACC_ERR (bankOf m)).answered 0
    else
      let l := d.chLead m
      if value % 2 = 1 ∧ d.chState l = chLATCHED then
        let d := d.fwClear (.channel l)
        let d := d.each (d.chMembers l) fun d k => (d.wri CH_STAT_NEEDOFF k 1).wri CH_STAT_STATE k chCOOL
        (d.bankRec (bankOf m) 0x0415 [l]).answered 0
      else d.answered 0) s

/-- The open-load threshold in mV: 3.0 V in the 12 V class, 12.0 V in the 48 V class (R269). -/
def Dev.olThreshold (d : Dev) (m : Nat) : Nat := if d.rdi BANK_CFG_VCLASS (bankOf m) = 1 then 12000 else 3000

/-- OPEN_LOAD_FILTER_END (R269): OLFILT ms with the pull-up on end; `mv` is the lowest output voltage in them, in mV. Above the
threshold the pull-up turns off for the comparison; else the test found it below, and OPEN and STB clear. -/
def execOpenLoadFilterEnd (m mv : Nat) (s : State) : Host.Outcome State Fault Refusal :=
  onDev (fun d =>
    if (d.ch m).pullUp then
      if d.olThreshold m < mv then d.setCh m { d.ch m with pullUp := false, compare := true }
      else
        let d := (d.wri CH_STAT_OPEN m 0).wri CH_STAT_STB m 0
        d.setCh m { d.ch m with pullUp := d.rdi CH_CFG_OLMODE m == 1 }
    else d) s

/-- OPEN_LOAD_COMPARE (R269): 2 ms without the pull-up, with the output at `mv` mV. With OLMODE 1 the pull-up returns. -/
def execOpenLoadCompare (m mv : Nat) (s : State) : Host.Outcome State Fault Refusal :=
  onDev (fun d =>
    if (d.ch m).compare then
      let d := d.setCh m { d.ch m with compare := false, pullUp := d.rdi CH_CFG_OLMODE m == 1 }
      if mv < d.olThreshold m then ((d.wri CH_STAT_OPEN m 1).wri CH_EVT_OPEN m 1).bankRec (bankOf m) 0x0416 [m]
      else ((d.wri CH_STAT_STB m 1).wri CH_EVT_STB m 1).bankRec (bankOf m) 0x0417 [m]
    else d) s

/-- Whether a write of CHm_MAN is allowed: in SERVICE, tagged with the channel's owner (R215, R279). -/
def Dev.manAllowed (d : Dev) (c m : Nat) : Bool :=
  d.rd KEY_LC_STATE == lcSERVICE && c != 0xFFFF && d.rdi CH_OWNER m == c && !d.ctxBarred c

/-- MANUAL_DRIVE (R279, R280): a write of CHm_MAN with EN 1; in an unfitted bank ignored (R2). -/
def execManualDrive (init m cmd : Nat) (s : State) : Host.Outcome State Fault Refusal :=
  onBlockBy init 0x40300000 (fun d =>
    let c := d.tag init
    if !d.bankFitted (bankOf m) then d.answered 0
    else if d.manAllowed c m then (d.manWrite m 1 cmd).answered 0
    else (d.refuse c BANK_ACCERR_ACC_ERR (bankOf m)).answered 0) s

/-- MANUAL_DRIVE_END (R281): a write of CHm_MAN with EN 0; in an unfitted bank ignored (R2). -/
def execManualDriveEnd (init m cmd : Nat) (s : State) : Host.Outcome State Fault Refusal :=
  onBlockBy init 0x40300000 (fun d =>
    let c := d.tag init
    if !d.bankFitted (bankOf m) then d.answered 0
    else if d.manAllowed c m then (d.manWrite m 0 cmd).answered 0
    else (d.refuse c BANK_ACCERR_ACC_ERR (bankOf m)).answered 0) s

/-- MANUAL_LEASE_EXPIRY (R281, R287): 1,000 ms after the last write to CHm_MAN; `tie` tells that a write with EN = 1 falls in the
same clock cycle, and then the write wins. -/
def execManualLeaseExpiry (m : Nat) (tie : Bool) (s : State) : Host.Outcome State Fault Refusal :=
  onDev (fun d => if tie then d else d.manEnd (d.chLead m)) s

end Sys2Proof.Machine
end

