-- ==== Sys2Proof/Machine/Banks.lean ====
section
/-! DEFINITION. The commands of the power banks: class check, supply locks, the keeper's reset and start, budget,
dissipation, case limit, short events and the cell test (R297 to R323). -/

namespace Sys2Proof.Machine

/-- The bank is of the 48 V class (R297, R333). -/
def Dev.class48 (d : Dev) (b : Nat) : Bool := d.rdi BANK_CFG_VCLASS b == 1

/-- All samples of a class check lie in its MATCH window, given the lowest and the highest in mV (R297, R298). -/
def Dev.classMatch (d : Dev) (b lo hi : Nat) : Bool :=
  if d.class48 b then decide (30000 ≤ lo) && decide (hi ≤ 58000) else decide (6000 ≤ lo) && decide (hi ≤ 20000)

/-- All samples of a class check lie in its MISMATCH window (R297, R298). -/
def Dev.classMismatch (d : Dev) (b lo hi : Nat) : Bool :=
  if d.class48 b then decide (4000 ≤ lo) && decide (hi ≤ 24000) else decide (24000 < lo)

/-- CLASS_CHECK_END (R59, R298, R299): 1,000 samples end, of which `lo` is the lowest and `hi` the highest in mV: the check against
VCLASS passes, fails or starts again. -/
def execClassCheckEnd (b lo hi : Nat) (s : State) : Host.Outcome State Fault Refusal :=
  onDev (fun d =>
    if d.rdi BANK_STAT_STATE b ≠ 1 then d
    else if d.classMatch b lo hi then ((d.bankUnlock b).wri BANK_STAT_STATE b 2).wri BANK_STAT_LOCKWHY b 0
    else if d.classMismatch b lo hi then d.bankLock b 2 true
    else d) s

/-- The overvoltage condition: above 36.0 V for 1 ms, in the 48 V class above 58.5 V for 100 µs (R297). -/
def Dev.overVolt (d : Dev) (b lo us : Nat) : Bool :=
  if d.class48 b then decide (58500 < lo) && decide (100 ≤ us) else decide (36000 < lo) && decide (1000 ≤ us)

/-- OVERVOLTAGE_LOCK (R297, R299): for `us` µs the bank supply has not been below `lo` mV. -/
def execOvervoltageLock (b lo us : Nat) (s : State) : Host.Outcome State Fault Refusal :=
  onDev (fun d => if d.rdi BANK_STAT_STATE b = 2 ∧ d.overVolt b lo us then d.bankLock b 3 true else d) s

/-- UNDERVOLTAGE_LOCK (R297, R299): for `us` µs the bank supply has not been above `hi` mV; below 24.0 V for 1 ms in the 48 V
class alone. -/
def execUndervoltageLock (b hi us : Nat) (s : State) : Host.Outcome State Fault Refusal :=
  onDev (fun d =>
    if d.rdi BANK_STAT_STATE b = 2 ∧ d.class48 b ∧ hi < 24000 ∧ 1000 ≤ us then d.bankLock b 4 true else d) s

/-- The unlock condition of a lock, over 10 ms: below 34.0 V or 56.0 V after overvoltage, above 30.0 V after undervoltage
(R297). -/
def Dev.unlockVolt (d : Dev) (b lo hi us : Nat) : Bool :=
  decide (10000 ≤ us) &&
    (if d.rdi BANK_STAT_LOCKWHY b = 3 then decide (hi < if d.class48 b then 56000 else 34000)
      else d.rdi BANK_STAT_LOCKWHY b == 4 && decide (30000 < lo))

/-- SUPPLY_UNLOCK (R297, R299): for `us` µs the supply has stayed from `lo` to `hi` mV: a bank locked for it returns to
ACTIVE. -/
def execSupplyUnlock (b lo hi us : Nat) (s : State) : Host.Outcome State Fault Refusal :=
  onDev (fun d =>
    if d.rdi BANK_STAT_STATE b = 3 ∧ d.unlockVolt b lo hi us then
      (((d.bankUnlock b).wri BANK_STAT_STATE b 2).wri BANK_STAT_LOCKWHY b 0).bankRec b 0x0421 [b]
    else d) s

/-- KEEPER_RESET (R297, R301): for `us` µs the bank supply has not been above `hi` mV: below 4.0 V for 100 µs. -/
def execKeeperReset (b hi us : Nat) (s : State) : Host.Outcome State Fault Refusal :=
  onDev (fun d => if d.bankFitted b ∧ hi < 4000 ∧ 100 ≤ us then d.keeperReset b else d) s

/-- The core die runs: RUN, DOZE or on its way to STANDBY. -/
def Dev.coreRuns (d : Dev) : Bool :=
  d.pwr.state == .run || d.pwr.state == .doze || d.pwr.state == .standbyEntry

/-- KEEPER_START (R297, R301, R322): for `us` µs the bank supply has not been below `lo` mV, and above 4.5 V for 100 µs the
keeper starts. While the core die runs, PWR writes the bank card and the map of retired cells, and after a keeper reset raises
source 412 + b and writes code 0x042A; while it is in reset, this waits until it runs again. -/
def execKeeperStart (b lo us : Nat) (s : State) : Host.Outcome State Fault Refusal :=
  onDev (fun d =>
    if d.bankFitted b ∧ !(d.bk b).keeperOn ∧ 4500 < lo ∧ 100 ≤ us then
      let d := d.setBk b { d.bk b with keeperOn := true }
      if d.coreRuns then d.keeperRewrite b else d.setBk b { d.bk b with rewriteDue := (d.bk b).again }
    else d) s

/-- A channel that a limit of the bank picked is shed in the cycle in which other channels, or this one, trip: the trips and
the shed both take effect (R308). -/
def Dev.shedAmong (d : Dev) (pick : Option Nat) (trips : List (Nat × Nat)) : Dev :=
  let d := d.each trips Dev.tripLive
  match pick with
  | some m => d.shed m
  | none => d

/-- BUDGET_SAMPLE (R304, R306 to R308): one 10 µs sample; `cur` gives the output currents of the 16 channels in mA, `trips` the
channels that trip in the same clock cycle, each with its cause. -/
def execBudgetSample (b : Nat) (cur : List Nat) (trips : List (Nat × Nat)) (s : State) : Host.Outcome State Fault Refusal :=
  onDev (fun d =>
    let ib := (List.range 16).foldl (fun t i => t + cur.getD i 0) 0
    let n := d.rdi BANK_STAT_BUDCNT b
    let d := d.wri BANK_STAT_BUDCNT b (if d.rdi BANK_BUDGET_CONT b * 100 < ib then min (n + 1) 16383 else n - 1)
    let k := d.bk b
    let peak := if d.rdi BANK_BUDGET_PEAK b * 100 < ib then k.peakRun + 1 else 0
    let since := min 5 (k.sinceShed + 1)
    let d := d.setBk b { k with peakRun := peak, sinceShed := since }
    let broken := decide (d.rdi BANK_BUDGET_OVERMS b * 100 ≤ d.rdi BANK_STAT_BUDCNT b) || decide (3 ≤ peak)
    let d := d.wri BANK_STAT_OVERBUD b (b2n broken)
    let pick := if broken ∧ 5 ≤ since then d.shedPick b cur else none
    let d := d.shedAmong pick trips
    if pick.isSome then d.setBk b { d.bk b with sinceShed := 0 } else d) s

/-- On-resistance in µΩ at a junction temperature in 0.125 °C, on the line through the values of R240 at 25 °C and
150 °C, for the cells in service (R309): numerator over 1000. -/
def Dev.onResistance (d : Dev) (m : Nat) (tj : Int) : Int :=
  let three := m % 16 < 2 ∧ d.rdi CH_STAT_CELLS m = 3
  let r25 : Int := if three then 1330 else if m % 16 < 2 then 1000 else if m % 16 < 8 then 4000 else 14000
  let r150 : Int := if three then 2400 else if m % 16 < 2 then 1800 else if m % 16 < 8 then 7200 else 25000
  r25 * 1000 + (r150 - r25) * (tj - 200)

/-- While a limit is broken the thermal manager sheds one channel, when none was shed in the last 100 ms (R310). -/
def Dev.thermalShed (d : Dev) (b : Nat) (broken : Bool) (cur : List Nat) (trips : List (Nat × Nat)) : Dev :=
  let pick := if broken ∧ !(d.bk b).thermWait then d.shedPick b cur else none
  let d := d.shedAmong pick trips
  if pick.isSome then d.setBk b { d.bk b with thermWait := true } else d

/-- THERMLIM follows the two limits (R310). -/
def Dev.thermShow (d : Dev) (b : Nat) : Dev :=
  d.wri BANK_STAT_THERMLIM b (b2n ((d.bk b).pdBroken || (d.bk b).caseBroken))

/-- DISSIPATION_ESTIMATE (R308 to R310): one millisecond; `cur` gives the 100 current samples in mA of each of the 16 channels
and `tj` their junction temperatures in 0.125 °C, `trips` the channels that trip in the same clock cycle. Estimates missing
since the keeper's start count 0.30 W. -/
def execDissipationEstimate (b : Nat) (cur : List (List Nat)) (tj : List Int) (trips : List (Nat × Nat)) (s : State) :
    Host.Outcome State Fault Refusal :=
  onDev (fun d =>
    let femto := (List.range 16).foldl (fun (t : Int) i =>
      t + (((cur.getD i []).take 100).map fun x => x * x).sum * d.onResistance (b * 16 + i) (tj.getD i 200)) 0
    let micro := 300000 + d.quot femto.toNat (10 ^ 11)
    let k := d.fresh.bk b
    let ring := (micro :: k.pRing).take 1000
    let total := ring.foldl (· + ·) 0 + (1000 - ring.length) * 300000
    let d := d.fresh.setBk b { k with pRing := ring }
    let pms := d.quot micro 10000
    let d := d.fresh
    let mean := d.quot total 10000000
    let d := (d.fresh.wri BANK_PDISS_PMS b (min pms 65535)).wri BANK_PDISS_PMEAN b (min mean 65535)
    let broken := decide (d.rdi BANK_CFG_PDMAX b * 100000 * 1000 < total)
    let first := broken && !(d.bk b).pdBroken
    let d := (d.setBk b { d.bk b with pdBroken := broken }).thermShow b
    let d := if broken then d.wri BANK_EVT_PDLIM b 1 else d
    (if first then d.bankRec b 0x0429 [b] else d).thermalShed b broken (cur.map fun l => l.getD 99 0) trips) s

/-- CASE_LIMIT (R308, R310): two consecutive case samples in 0.125 °C; both above CASEMAX break the limit. -/
def execCaseLimit (b : Nat) (t1 t2 : Int) (cur : List Nat) (trips : List (Nat × Nat)) (s : State) : Host.Outcome State Fault Refusal :=
  onDev (fun d =>
    let lim : Int := (d.rdi BANK_CFG_CASEMAX b * 8 : Nat)
    let broken := decide (lim < t1) && decide (lim < t2)
    let first := broken && !(d.bk b).caseBroken
    let d := (d.setBk b { d.bk b with caseBroken := broken }).thermShow b
    let d := if broken then d.wri BANK_EVT_CASELIM b 1 else d
    (if first then d.bankRec b 0x0429 [b] else d).thermalShed b broken cur trips) s

/-- THERMAL_SHED (R308, R310): 100 ms have passed since the last thermal shed. -/
def execThermalShed (b : Nat) (cur : List Nat) (trips : List (Nat × Nat)) (s : State) : Host.Outcome State Fault Refusal :=
  onDev (fun d =>
    let d := d.setBk b { d.bk b with thermWait := false }
    d.thermalShed b (d.flagi BANK_STAT_THERMLIM b) cur trips) s

/-- SHORT_EVENT_END (R315): SHQUIET ms after the last regulation outside a window or trip. -/
def execShortEventEnd (b : Nat) (s : State) : Host.Outcome State Fault Refusal :=
  onDev (fun d =>
    if (bankChans b).any fun m => d.chState m == chON && d.flagi CH_STAT_LIMITING m then d
    else d.wri BANK_STAT_SHORTEV b 0) s

/-- Cells of an H channel that carry current: the four active ones, or all that are not retired once one is (R320). -/
def cellsOn (ret : Nat) : List Nat :=
  if ret = 0 then [0, 1, 2, 3] else (List.range 5).filter fun k => !ret.testBit k

/-- A cell is retired (R319 to R321, R733): the spare takes its share when it is unused and carries it, else the cell is
latched off and the channel goes on with three cells, or with two is out of service. -/
def Dev.retire (d : Dev) (m k : Nat) (spareOk : Bool) : Dev :=
  let b := bankOf m
  let ret := d.cellMap m
  let next := ret ||| 2 ^ k
  if ret = 0 ∧ spareOk then
    ((d.setCellMap m next).wri BANK_EVT_CELL b 1).cellRec 0x0426 m k
  else
    let next := if ret = 0 then next ||| 16 else next
    let d := d.setCellMap m next
    if cellsLeft next ≤ 2 then
      ((d.wri BANK_EVT_CELLOUT b 1).cellRec 0x0428 m k).obey (d.chLead m) 0 false
    else (d.wri BANK_EVT_DERATE b 1).cellRec 0x0427 m k

/-- A cell of `n` carries its share of a total: from 0.6 / n to 1.4 / n of it (R319). -/
def shareOk (i total n : Nat) : Bool := decide (6 * total ≤ 10 * i * n) && decide (10 * i * n ≤ 14 * total)

/-- CELL_TEST (R318 to R320, R323): the currents of the cells 0 to 4 of H channel `m` in mA, measured in one 100 µs in which the
output stays on; `spare` is what the spare carries when its gate is driven on, should it be needed. -/
def execCellTest (m : Nat) (cells : List Nat) (spare : Nat) (s : State) : Host.Outcome State Fault Refusal :=
  onDev (fun d =>
    let on := cellsOn (d.cellMap m)
    let total := on.foldl (fun t k => t + cells.getD k 0) 0
    let n := on.length
    let spareOk := shareOk spare total 4
    if m % 16 < 2 ∧ d.chState m = chON ∧ (d.ch m).output ∧ !d.flagi CH_STAT_LIMITING m ∧ 8000 ≤ total ∧ 3 ≤ n then
      d.each on fun d k =>
        if shareOk (cells.getD k 0) total n then d
        else
          let th := d.rdi BANK_CFG_CELLTH (bankOf m)
          let fires := d.fwFires (.cell m k) th
          let d := d.fwEvent (.cell m k) th
          if fires then d.retire m k spareOk else d
    else d) s

end Sys2Proof.Machine
end

