-- ==== Sys2Proof/Machine/Contexts.lean ====
section
/-! DEFINITION. The commands of function contexts: the routed event registers, the hart register, the context's own
orders, the completion of a reset, bobbins, timers, doorbells and notices (R203 to R239, R784, R785). -/

namespace Sys2Proof.Machine

/-! ### Routed event registers (R784, R785) -/

/-- The initiator's context is the one to which an event source is routed (R57). -/
def Dev.routedTo (d : Dev) (init src : Nat) : Bool :=
  decide (init < 10) && d.tag init == d.route src && d.ctxRuns (d.tag init)

/-- One bit of a routed event register: a 1 clears it for the routed context only. -/
def Dev.routedClear (d : Dev) (init value n src : Nat) (f : Field) : Dev :=
  if value.testBit n ∧ d.routedTo init src then d.wr f 0 else d

/-- A write that names a bit of another context's is refused besides. -/
def Dev.routedRefuse (d : Dev) (init value : Nat) (srcs : List (Nat × Nat)) (f : Field) : Dev :=
  if srcs.any fun p => value.testBit p.1 && !d.routedTo init p.2 then d.refuse (d.tag init) f 0 else d

/-- SYSCTL_EVT_CLEAR (R784). The refusal of the bits that are routed elsewhere comes before the clearing of the writer's own: a
16th refusal, which resets the context, leaves them set (log entry 60). -/
def execSysctlEvtClear (init value : Nat) (s : State) : Host.Outcome State Fault Refusal :=
  onBlockBy init 0x40000000 (fun d =>
    let e := d.routedRefuse init value [(0, 376), (1, 377), (2, 376)] SYSCTL_ACCERR_ACC_ERR
    let e := (e.routedClear init value 0 376 SYSCTL_EVT_SWAPDONE).routedClear init value 1 377 SYSCTL_EVT_PRESENCE
    e.routedClear init value 2 376 SYSCTL_EVT_SWAPABN) s

/-- CTX_EVT_CLEAR (R785). -/
def execCtxEvtClear (init value : Nat) (s : State) : Host.Outcome State Fault Refusal :=
  onBlockBy init 0x40200000 (fun d =>
    let e := d.routedRefuse init value [(0, 432), (1, 433), (2, 434)] CTX_ACCERR_ACC_ERR
    let e := (e.routedClear init value 0 432 CTX_EVT_STATECHG).routedClear init value 1 433 CTX_EVT_BREACH
    e.routedClear init value 2 434 CTX_EVT_NQLOST) s

/-! ### The context behind an access (R206, R207) -/

/-- A refused access to the context manager. -/
def Dev.ctxRefuse (d : Dev) (init : Nat) : Dev := d.refuse (d.tag init) CTX_ACCERR_ACC_ERR 0

/-- CTX_HART_WRITE: only hart h, and with VALID = 1 only a context bound to BIND; BIND is fixed on a real-time pair.
The hart may always name another context, whatever the state of the one it names now (log entry 23). -/
def execCtxHartWrite (init h valid bind ctx : Nat) (s : State) : Host.Outcome State Fault Refusal :=
  onBlockBy init 0x40200000 (fun d =>
    if init ≠ h then d.ctxRefuse init
    else
      let b := if h < 5 then some (bind % 128) else d.hartBind h
      let bound := match d.ctxRec (ctx % 2048), b with
        | some r, some n => r.bind == n
        | _, _ => false
      if valid = 1 ∧ !bound then (d.ctxRefuse init).faulted
      else
        let d := (d.wri CTX_HART_VALID h valid).wri CTX_HART_CTX h ctx
        (d.wri CTX_HART_BIND h (b.getD 0)).answered 0) s

/-! ### Orders of a context to itself, and the end of its reset (R212, R216, R234) -/

/-- An order in CTX_CMD is refused unless CTX is the writer's own (R234, R215). -/
def Dev.ownOrder (d : Dev) (init ctx : Nat) (f : Dev → Dev) : Dev :=
  if init < 10 ∧ d.tag init = ctx ∧ d.ctxRuns ctx then f d else d.ctxRefuse init

/-- RESET_SELF: a reset with cause SELF. -/
def execResetSelf (init ctx : Nat) (s : State) : Host.Outcome State Fault Refusal :=
  onBlockBy init 0x40200000 (fun d => d.ownOrder init ctx fun d => d.ctxReset ctx 1) s

/-- RUN_SELF: from RESTART to ACTIVE; the channels accept entries from the next pick. -/
def execRunSelf (init ctx : Nat) (s : State) : Host.Outcome State Fault Refusal :=
  onBlockBy init 0x40200000 (fun d => d.ownOrder init ctx fun d =>
    if d.ctxState ctx = 3 then
      let d := d.wri CTXN_STAT_STATE ctx 1
      { d with ctx := { d.ctx with runPending := d.ctx.runPending ++ [ctx] } }
    else d) s

/-- A context has changed state: source 432 and the host's notice 0x0780 (R216, R543). The specification names the notice
and its payload; that it is sent where source 432 is raised is read from its name (log entry 28). -/
def Dev.stateChanged (d : Dev) (c : Nat) : Dev :=
  (d.wr CTX_EVT_STATECHG 1).hostNotice 0x0780 [(2, c), (1, d.rdi CTXN_STAT_STATE c), (1, d.rdi CTXN_STAT_CAUSE c)]

/-- CONTEXT_RESET_COMPLETE: the reset's actions are complete (R216, R217). -/
def execContextResetComplete (c : Nat) (s : State) : Host.Outcome State Fault Refusal :=
  onDev (fun d =>
    match d.ctxRec c with
    | none => d
    | some r =>
      if d.ctxState c ≠ 2 then d
      else if d.ctx.stopPending.contains c ∨ d.ctx.atThree.contains c then
        let d := { d with
          trd := { d.trd with failNext := d.trd.failNext ++ (if r.resetCh = 1 then d.ownedChannels c else []) },
          ctx := { d.ctx with stopPending := d.ctx.stopPending.filter (· ≠ c), atThree := d.ctx.atThree.filter (· ≠ c) } }
        let d := (d.fwClear (.resets c)).wri CTXN_STAT_STATE c 4
        ((d.notice c 0x02 0xFF (d.rdi CTXN_STAT_CAUSE c)).stateChanged c).trig 0x0336 [c]
      else
        let d := d.wri CTXN_STAT_STATE c 3
        ((d.notice c 0x01 0xFF (d.rdi CTXN_STAT_CAUSE c)).stateChanged c).trig 0x0335 [c]) s

/-! ### Bobbins (R208 to R211) -/

/-- BOBBIN_WRITE: a producer's record arrives at hardware queue `q`. -/
def execBobbinWrite (q kind : Nat) (payload : List Byte) (s : State) : Host.Outcome State Fault Refusal :=
  onDev (fun d => match d.queueOwner q with
    | some _ => d.bobPut q kind payload
    | none => d) s

/-- The hardware queue of bobbin CTX_HSELh.BOB of the context that hart h runs (R210). -/
def Dev.hartQueue (d : Dev) (h : Nat) : Option Nat :=
  match d.ctxRec (d.tag h) with
  | some r =>
    if d.rdi CTX_HSEL_BOB h < r.bobbins then some (d.rdi CTXN_QBASE r.ctx + d.rdi CTX_HSEL_BOB h) else none
  | none => none

/-- Byte `n` of window CTX_HEADh: the head record of the selected bobbin (R208, R210). -/
def Dev.headByte (d : Dev) (h n : Nat) : Byte :=
  match (d.hartQueue h).bind fun q => (d.bob q).recs.head? with
  | some r =>
    (leOf 2 r.payload.length ++ leOf 1 r.kind ++ leOf 1 r.lost ++ leOf 4 r.stamp ++ r.payload).getD n 0
  | none => 0

/-- BOBBIN_POP: a write to CTX_HPOPh. -/
def execBobbinPop (init h : Nat) (s : State) : Host.Outcome State Fault Refusal :=
  onBlockBy init 0x40200000 (fun d =>
    if d.ctxBarred (d.tag init) then d.ctxRefuse init
    else match d.hartQueue h with
      | some q => d.bobPop q
      | none => d) s

/-! ### Timers (R225, R226) -/

/-- A load of timer k: it counts when its PERIOD is not 0. -/
def Dev.timerLoad (d : Dev) (k : Nat) : Dev :=
  let p := d.rdi CTX_TMRPER_PERIOD k
  let d := d.wri CTX_TMRCNT_CNT k p
  { d with ctx := { d.ctx with timerRunning :=
      if p = 0 then d.ctx.timerRunning.erase k else d.ctx.timerRunning.set k (d.rdi CTX_TMRCFG_UNIT k) } }

/-- Timer k reaches zero: EXP, and in periodic mode the reload. -/
def Dev.timerExpire (d : Dev) (k : Nat) : Dev :=
  let d := (d.wri CTX_TMRCNT_CNT k 0).wri CTX_TMRCFG_EXP k 1
  let d := { d with ctx := { d.ctx with timerRunning := d.ctx.timerRunning.erase k } }
  if d.rdi CTX_TMRCFG_MODE k = 2 then d.timerLoad k else d

/-- `n` picks elapse for the timers that count picks (R225). -/
def Dev.timerPicks (d : Dev) (n : Nat) : Dev :=
  d.each (d.ctx.timerRunning.items.filter fun e => e.2 == 1) fun d e =>
    if d.rdi CTX_TMRCNT_CNT e.1 ≤ n then d.timerExpire e.1 else d.wri CTX_TMRCNT_CNT e.1 (d.rdi CTX_TMRCNT_CNT e.1 - n)

/-- TIMER_CONFIG: a write to CTX_TMRCFGk by the routed context; a 1 in EXP clears it. -/
def execTimerConfig (init k exp unit mode : Nat) (s : State) : Host.Outcome State Fault Refusal :=
  onBlockBy init 0x40200000 (fun d =>
    if d.routedTo init (436 + k) then
      let d := if exp = 1 then d.wri CTX_TMRCFG_EXP k 0 else d
      let d := (d.wri CTX_TMRCFG_UNIT k unit).wri CTX_TMRCFG_MODE k mode
      if mode = 1 ∨ mode = 2 then d.timerLoad k
      else { d with ctx := { d.ctx with timerRunning := d.ctx.timerRunning.erase k } }
    else d.ctxRefuse init) s

/-- TIMER_EXPIRY: a timer that counts microseconds reaches zero. Those that count picks do so at a pick boundary. -/
def execTimerExpiry (k : Nat) (s : State) : Host.Outcome State Fault Refusal :=
  onDev (fun d => if d.ctx.timerRunning.find k = some 0 then d.timerExpire k else d) s

/-! ### Doorbells and notices (R227, R223, R234) -/

/-- DOORBELL_RING: any context rings doorbell `b`. -/
def execDoorbellRing (init b data : Nat) (s : State) : Host.Outcome State Fault Refusal :=
  onBlockBy init 0x40200000 (fun d =>
    if init < 10 ∧ d.ctxRuns (d.tag init) then
      let d := if d.flagi CTX_DBSTAT_PEND b then d.wri CTX_DBSTAT_OVR b 1 else d
      ((d.wri CTX_DBSTAT_FROM b (d.tag init)).wri CTX_DBSTAT_DATA b data).wri CTX_DBSTAT_PEND b 1
    else d.ctxRefuse init) s

/-- NOTICE_POP: a read of CTX_NQHIb by a hart of binding b returns the head notice's DETAIL and pops it. -/
def execNoticePop (init b : Nat) (s : State) : Host.Outcome State Fault Refusal :=
  onBlockBy init 0x40200000 (fun d =>
    if d.hartBind init = some b ∧ !d.undeclared (d.tag init) then
      let d := d.answered (d.rdi CTX_NQHI_BYTES b)
      ({ d with ctx := { d.ctx with notices := d.ctx.notices.set b ((d.ctx.notices.get b []).drop 1) } }).noticeShow b
    else d.ctxRefuse init) s

end Sys2Proof.Machine
end

