-- ==== Sys2Proof/Machine/DeckBytes.lean ====
section
/-! DEFINITION. The bytes of a deck and of a deck slot: the big-endian header, directory and cards that a deck spells
(R40, R43, R45 to R47, R51 to R61, R126), what its signature and tag cover (R41), and the slot record and stored form in MRAM
(R65, R66). -/

namespace Sys2Proof.Machine

/-! ### Reading big-endian fields (R9) -/

/-- `n` bytes from an offset; bytes past the end are zero. -/
def cut (l : List Byte) (off n : Nat) : List Byte :=
  let x := (l.drop off).take n
  x ++ List.replicate (n - x.length) 0

/-- The big-endian number in `n` bytes at an offset. -/
def num (l : List Byte) (off n : Nat) : Nat := beVal (cut l off n)

/-- The bytes from `lo` to below `hi` are zero. -/
def zeroIn (l : List Byte) (lo hi : Nat) : Bool := (cut l lo (hi - lo)).all fun b => b == 0

/-- Bytes written over a list from an offset; a gap before them is zero. -/
def patch (l : List Byte) (off : Nat) (x : List Byte) : List Byte := cut l 0 off ++ x ++ l.drop (off + x.length)

/-! ### The header (R43) -/

/-- The deck header that 128 bytes spell. -/
def DeckHeader.parse (l : List Byte) : DeckHeader :=
  { magic := num l 0 4, fmt := num l 4 2, hdrLen := num l 6 2, deckId := num l 8 4, deckVer := num l 12 4,
    totalLen := num l 16 4, partMask := num l 20 1, minStep := num l 21 1, flags := num l 22 1, zero17 := num l 23 1,
    cardCount := num l 24 2, zero1A := num l 26 2, dirOff := num l 28 4, iv := num l 32 12, decSlot := num l 44 2,
    verSlot := num l 46 2, baseId := num l 48 4, baseVer := num l 52 4, toolVer := num l 56 4, tag := num l 60 16,
    zero4C := num l 76 52 }

/-- The 128 bytes of a header. -/
def DeckHeader.bytes (h : DeckHeader) : List Byte :=
  beOf 4 h.magic ++ beOf 2 h.fmt ++ beOf 2 h.hdrLen ++ beOf 4 h.deckId ++ beOf 4 h.deckVer ++ beOf 4 h.totalLen ++
    beOf 1 h.partMask ++ beOf 1 h.minStep ++ beOf 1 h.flags ++ beOf 1 h.zero17 ++ beOf 2 h.cardCount ++ beOf 2 h.zero1A ++
    beOf 4 h.dirOff ++ beOf 12 h.iv ++ beOf 2 h.decSlot ++ beOf 2 h.verSlot ++ beOf 4 h.baseId ++ beOf 4 h.baseVer ++
    beOf 4 h.toolVer ++ beOf 16 h.tag ++ beOf 52 h.zero4C

/-! ### Cards (R47, R51 to R61) -/

/-- The length of a card type's fixed part and of its records (R51 to R61). -/
def cardSizes (type : Nat) : Nat × Nat :=
  [(0, 0), (32, 0), (0, 4), (32, 8), (16, 16), (4, 20), (1024, 48), (12, 36), (24, 12), (16, 8), (8, 16), (4, 16), (8, 8),
   (4, 16), (8, 8), (0, 16), (0, 12)].getD type (0, 0)

/-- The bytes that a card type's layout calls zero: of its fixed part, and of each record (R51 to R61). -/
def cardZeros (type : Nat) : List (Nat × Nat) × List (Nat × Nat) :=
  match type with
  | 1 => ([(10, 32)], [])
  | 3 => ([(14, 16), (20, 32)], [])
  | 4 => ([(12, 16)], [])
  | 5 => ([(2, 4)], [])
  | 6 => ([], [(6, 8), (40, 48)])
  | 7 => ([], [(1, 4)])
  | 10 => ([], [(2, 4)])
  | 12 => ([], [(3, 4)])
  | 13 => ([], [(3, 4)])
  | 15 => ([], [(15, 16)])
  | 16 => ([], [(1, 2)])
  | _ => ([], [])

/-- A table entry as its 16 bytes spell it, bit 127 in the first byte (R55, R126). -/
def Entry.parse (r : List Byte) : Entry :=
  { pick := num r 0 2, op := num r 2 1 / 4, cls := num r 2 1 % 4, flg := num r 3 1, src := num r 4 2, dst := num r 6 2,
    arg := num r 8 8 }

/-- A record of a register-image card: its kind, index and owner, and up to three words at an offset. -/
def imgRec (r : List Byte) (kind index owner off : Nat) : ImgRec :=
  { kind := kind, index := index, owner := owner, w0 := num r off 4, w1 := num r (off + 4) 4, w2 := num r (off + 8) 4 }

/-- A card's contents: `f` is its fixed part, `rs` its records. -/
def CardBody.parse (type : Nat) (f : List Byte) (rs : List (List Byte)) : CardBody :=
  match type with
  | 1 => .system (num f 0 1) (num f 1 1) (num f 2 1) (num f 3 1) (num f 4 2) (num f 6 2) (num f 8 2)
  | 2 => .lands (rs.map fun r => ⟨num r 0 1, num r 1 1, num r 2 1, num r 3 1⟩)
  | 3 => .beat (num f 0 1) (num f 1 1) (num f 2 2) (num f 4 4) (num f 8 4) (num f 12 2) (num f 16 4)
      (rs.map fun r => ⟨num r 0 1, num r 1 1, num r 2 1, num r 3 1, num r 4 2, num r 6 2⟩)
  | 4 => .table (num f 0 4) (num f 4 4) (num f 8 4) (rs.map Entry.parse)
  | 5 => .signals (num f 0 2) (rs.map fun r =>
      ⟨num r 0 2, num r 2 1, num r 3 1, num r 4 2, num r 6 2, num r 8 2, num r 10 2, BitVec.ofNat 64 (num r 12 8)⟩)
  | 6 => .contexts ((List.range 512).map fun n => num f (2 * n) 2) (rs.map fun r =>
      ⟨num r 0 2, num r 2 1, num r 3 1, num r 4 1, num r 5 1, (List.range 16).map fun k => num r (8 + 2 * k) 2⟩)
  | 7 => .bank (num f 0 4) (num f 4 4) (num f 8 4) (rs.map fun r =>
      ⟨num r 0 1, (List.range 8).map fun k => num r (4 + 4 * k) 4⟩)
  | 8 => .can (num f 0 4) (num f 4 4) (num f 8 4) (num f 12 4) (num f 16 4) (num f 20 4)
      (rs.map fun r => imgRec r (num r 0 1) (num r 1 1) (num r 2 2) 4)
  | 9 => .tt (num f 0 4) (num f 4 4) (num f 8 4) (num f 12 4)
      (rs.map fun r => imgRec r (num r 2 1) (num r 3 1) (num r 0 2) 4)
  | 10 => .switch (num f 0 4) (num f 4 4) (rs.map fun r => imgRec r (num r 0 1) (num r 1 1) 0 4)
  | 11 => .bridge (num f 0 4) (rs.map fun r => imgRec r (num r 0 1) (num r 1 1) (num r 2 2) 4)
  | 12 => .sleep (num f 0 4) (num f 4 4) (rs.map fun r => imgRec r (num r 2 1) (num r 0 2) 0 4)
  | 13 => .recorder (num f 0 4) (rs.map fun r => imgRec r (num r 0 1) (num r 1 2) 0 4)
  | 14 => .security (num f 0 4) (num f 4 4) (rs.map fun r => imgRec r 0 (num r 0 2) (num r 2 2) 4)
  | 15 => .inventory (rs.map fun r =>
      ⟨num r 0 2, num r 2 1, num r 3 1, num r 4 4, num r 8 2, num r 10 2, num r 12 2, num r 14 1⟩)
  | 16 => .idle (rs.map fun r => ⟨num r 0 1, num r 2 2, num r 4 8⟩)
  | _ => .unknown

/-- A length rounded up to the next multiple of 16. -/
def roundUp16 (n : Nat) : Nat := (n + 15) / 16 * 16

/-- The card that a 32-byte directory entry and the deck's plaintext spell (R45 to R47). Records are read at the places that
the card type gives them; a card whose own sizes differ is rejected (log entry 55). -/
def Card.parse (plain entry : List Byte) : Card :=
  let type := num entry 0 1
  let off := num entry 4 4
  let len := num entry 8 4
  let b := (plain.drop off).take len
  let n := num b 4 4
  let s := cardSizes type
  let f := cut b 16 s.1
  let rs := (List.range (min n len)).map fun k => cut b (16 + s.1 + k * s.2) s.2
  let z := cardZeros type
  { type := type, cfmt := num entry 1 1, inst := num entry 2 2, offset := off, length := len, cardVer := num entry 12 4,
    digest := num entry 16 16, hType := num b 0 1, hCfmt := num b 1 1, hInst := num b 2 2, recordCount := n,
    recordSize := num b 8 2, fixedLen := num b 12 4,
    padZero := zeroIn plain (off + len) (roundUp16 (off + len)),
    reservedZero := zeroIn b 10 12 && (z.1.all fun p => zeroIn f p.1 p.2) &&
      rs.all fun r => z.2.all fun p => zeroIn r p.1 p.2,
    contentDigest := beVal ((sha256 b).take 16), body := CardBody.parse type f rs, bytes := b }

/-- The deck that a header of 128 bytes and the decrypted body spell (R40, R45). -/
def Deck.parse (hdr body : List Byte) : Deck :=
  let h := DeckHeader.parse hdr
  let plain := cut hdr 0 128 ++ body
  { hdr := h, cards := (List.range h.cardCount).map fun k => Card.parse plain (cut plain (0x80 + 32 * k) 32) }

/-! ### What the signature and the tag cover (R40, R41) -/

/-- The message that the signature covers: every byte from offset 0 to the start of the signature. -/
def signedPart (item : List Byte) : List Byte := item.take (item.length - 96)

/-- The signature, r followed by s: the last 96 bytes. -/
def signaturePart (item : List Byte) : List Byte := item.drop (item.length - 96)

/-- The additional authenticated data of the body's GCM tag: header bytes 0x00 to 0x3B. -/
def aadPart (item : List Byte) : List Byte := item.take 0x3C

/-- The encrypted body: from offset 0x80 to the start of the signature. -/
def bodyPart (item : List Byte) : List Byte := (signedPart item).drop 0x80

/-- The signature of a received item verifies: it signs exactly the bytes that it covers. -/
def CryptoVerdict.signatureOk (v : CryptoVerdict) (item : List Byte) : Bool := v.signed == some (signedPart item)

/-- The tag of a received item verifies: it authenticates exactly the header bytes of R41 with the body. -/
def CryptoVerdict.tagOk (v : CryptoVerdict) (item : List Byte) : Bool := v.aad == some (aadPart item)

/-! ### Deck slots (R65, R66) -/

/-- The value of MAGIC in a slot record. -/
def slotMagic : Nat := 0x4C53574B

/-- The bytes of a slot record that its CRC covers: little-endian, as R8 requires. -/
def DeckSlot.covered (s : DeckSlot) : List Byte :=
  leOf 4 s.magic ++ leOf 4 s.seq ++ leOf 1 s.state ++ List.replicate 3 0 ++ leOf 4 s.len ++ cut s.hash 0 32

/-- The CRC that a slot record must carry. -/
def DeckSlot.recordCrc (s : DeckSlot) : Nat := crc32 (s.covered.map fun b => b.toNat)

/-- The 64 bytes of a slot record. -/
def DeckSlot.record (s : DeckSlot) : List Byte := s.covered ++ leOf 4 s.crc ++ List.replicate 12 0

/-- A slot record that has just been written. -/
def DeckSlot.seal (s : DeckSlot) : DeckSlot :=
  let s := { s with magic := slotMagic }
  { s with crc := s.recordCrc }

/-- A slot record passes (R67). -/
def DeckSlot.recordOk (s : DeckSlot) : Bool := s.magic == slotMagic && s.crc == s.recordCrc

/-- The byte of a deck slot at an offset: the slot record, then the stored deck (R65). -/
def DeckSlot.byteAt (s : DeckSlot) (off : Nat) : Byte :=
  if off < 64 then s.record.getD off 0 else s.bytes.getD (off - 64) memDefault

/-- The stored form of a deck (R66): its header with STORED set, the body encrypted under the deck storage key, an HMAC
under that key, and 64 zero bytes. The key is the module's secret, so its ciphertext and its HMAC are open values (log entry
56). -/
def Dev.storedForm (d : Dev) (k : Deck) : List Byte :=
  let h := k.hdr
  { h with flags := h.flags ||| 4 }.bytes ++ (List.range (h.totalLen - 224)).map (Config.sealedByte d.free) ++
    (List.range 32).map (fun j => Config.sealedByte d.free (2 ^ 32 + j)) ++ List.replicate 64 0

/-- A slot that holds a checked deck in stored form, with STATE 0x01. -/
def Dev.storedSlot (d : Dev) (s : DeckSlot) (k : Deck) : DeckSlot :=
  let b := d.storedForm k
  let h := k.hdr
  { s with state := 1, len := b.length, hash := sha256 b, bytes := b, deck := some { k with hdr := { h with flags := h.flags ||| 4 } } }.seal

end Sys2Proof.Machine
end

