-- ==== Sys2Proof/Machine/Operands.lean ====
section
/-! DEFINITION. The operand forms of table entries: frame fields (R131), the arguments of SCALE, PWMSET, PACK and
UNPACK (R132 to R134), and the binary32 and binary64 arithmetic of SCALE. -/

namespace Sys2Proof.Machine

/-! ### Frame fields (R131) -/

/-- A frame field as ARG names it. -/
structure FieldArg where
  start : Nat
  width : Nat
  signed : Bool
  order : Bool
deriving DecidableEq, Repr

def fieldArg (arg : Nat) : FieldArg :=
  { start := bits arg 15 0, width := bits arg 22 16, signed := arg.testBit 23, order := arg.testBit 24 }

/-- Payload bit b: bit 7 - (b mod 8) of byte floor(b / 8). -/
def payloadBit (l : List Byte) (b : Nat) : Bool := (l.getD (b / 8) 0).getLsbD (7 - b % 8)

/-- The payload bits of a field, its most significant bit first: in payload order, or bytes least significant first
(ORDER). -/
def fieldBits (f : FieldArg) : List Nat :=
  if f.order then
    (List.range (f.width / 8)).reverse.flatMap fun k => (List.range 8).map fun i => f.start + k * 8 + i
  else (List.range f.width).map fun i => f.start + i

/-- The raw bits of a field as a number. -/
def fieldGet (l : List Byte) (f : FieldArg) : Nat :=
  (fieldBits f).foldl (fun t b => 2 * t + b2n (payloadBit l b)) 0

/-- A payload with one bit set to a value. -/
def setPayloadBit (l : List Byte) (b : Nat) (v : Bool) : List Byte :=
  let old := (l.getD (b / 8) 0).toNat
  let w := 2 ^ (7 - b % 8)
  let cleared := if old.testBit (7 - b % 8) then old - w else old
  l.set (b / 8) (BitVec.ofNat 8 (if v then cleared + w else cleared))

/-- A payload long enough for a field. -/
def growTo (n : Nat) (l : List Byte) : List Byte := l ++ List.replicate (n - l.length) 0

/-- A payload with a field written. -/
def fieldPut (l : List Byte) (f : FieldArg) (v : Nat) : List Byte :=
  let l := growTo ((f.start + f.width + 7) / 8) l
  let bs := fieldBits f
  ((List.range f.width).zip bs).foldl (fun l p => setPayloadBit l p.2 (v.testBit (f.width - 1 - p.1))) l

/-- A number of `w` bits read as two's complement. -/
def toSigned (w v : Nat) : Int := if 2 ^ (w - 1) ≤ v % 2 ^ w ∧ w ≠ 0 then (v % 2 ^ w : Int) - 2 ^ w else (v % 2 ^ w : Int)

/-- Raw bits extended by zeros or the sign (R130, R134). -/
def extendBits (w v : Nat) (signed : Bool) : Value :=
  if signed then BitVec.ofInt 64 (toSigned w v) else BitVec.ofNat 64 (v % 2 ^ w)

/-- The value a SEND writes into a field of `w` bits, and whether it saturates: integers are limited to the range, the
other types are moved as raw bits (R131). -/
def sendValue (t : Nat) (v : Value) (f : FieldArg) : Nat × Bool :=
  if typeInt t then
    let x := valueInt t v
    let lo : Int := if f.signed then -(2 ^ (f.width - 1) : Nat) else 0
    let hi : Int := if f.signed then (2 ^ (f.width - 1) : Nat) - 1 else (2 ^ f.width : Nat) - 1
    let y := if x < lo then lo else if hi < x then hi else x
    ((BitVec.ofInt 64 y).toNat % 2 ^ f.width, y != x)
  else (v.toNat % 2 ^ f.width, false)

/-! ### Binary arithmetic of SCALE (R132) -/

/-- A binary floating-point datum: not a number, an infinity, or a signed dyadic m × 2^e. -/
inductive Flt
  | nan
  | inf (neg : Bool)
  | fin (neg : Bool) (m : Nat) (e : Int)
deriving DecidableEq, Repr

/-- A format by its precision and exponent width: binary32 is (24, 8), binary64 is (53, 11). -/
structure FltFmt where
  p : Nat
  w : Nat
deriving DecidableEq, Repr

def binary32 : FltFmt := ⟨24, 8⟩
def binary64 : FltFmt := ⟨53, 11⟩

/-- The exponent bias of a format. -/
def FltFmt.bias (f : FltFmt) : Nat := 2 ^ (f.w - 1) - 1

/-- The exponent of the least significant bit of the smallest numbers. -/
def FltFmt.emin (f : FltFmt) : Int := 1 - (f.bias : Int) - ((f.p : Int) - 1)

/-- Round to nearest even into a format; too large a magnitude becomes infinite. -/
def Flt.round (f : FltFmt) : Flt → Flt
  | .nan => .nan
  | .inf s => .inf s
  | .fin s m e =>
    if m = 0 then .fin s 0 0
    else
      let q := max (e + ((Nat.log2 m + 1 : Nat) : Int) - (f.p : Int)) f.emin
      let k := (q - e).toNat
      let low := m % 2 ^ k
      let up := decide (2 ^ k < 2 * low) || (decide (2 * low = 2 ^ k) && m / 2 ^ k % 2 == 1)
      let r := if k = 0 then m else m / 2 ^ k + b2n up
      let q := if k = 0 then e else q
      if r = 0 then .fin s 0 0
      else if (f.bias : Int) < q + (Nat.log2 r : Int) then .inf s
      else .fin s r q

/-- The datum that a bit pattern of a format stands for. -/
def Flt.decode (f : FltFmt) (v : Nat) : Flt :=
  let frac := v % 2 ^ (f.p - 1)
  let ex := v / 2 ^ (f.p - 1) % 2 ^ f.w
  let s := v.testBit (f.p - 1 + f.w)
  if ex = 2 ^ f.w - 1 then (if frac = 0 then .inf s else .nan)
  else if ex = 0 then .fin s frac f.emin
  else .fin s (frac + 2 ^ (f.p - 1)) (f.emin + ((ex - 1 : Nat) : Int))

/-- The bit pattern of a datum of the format. -/
def Flt.encode (f : FltFmt) (x : Flt) : Nat :=
  let sign := fun (s : Bool) => if s then 2 ^ (f.p - 1 + f.w) else 0
  match x with
  | .nan => (2 ^ f.w - 1) * 2 ^ (f.p - 1) + 2 ^ (f.p - 2)
  | .inf s => sign s + (2 ^ f.w - 1) * 2 ^ (f.p - 1)
  | .fin s m e =>
    if m = 0 then sign s
    else
      let top := e + (Nat.log2 m : Int)
      if top < 1 - (f.bias : Int) then sign s + m * 2 ^ (e - f.emin).toNat
      else
        let sh : Int := ((f.p : Int) - 1) - (Nat.log2 m : Int)
        let frac := if 0 ≤ sh then m * 2 ^ sh.toNat else m / 2 ^ (-sh).toNat
        sign s + ((top + (f.bias : Int)).toNat) * 2 ^ (f.p - 1) + (frac - 2 ^ (f.p - 1))

/-- An integer as a datum. -/
def Flt.ofInt (x : Int) : Flt := .fin (decide (x < 0)) x.natAbs 0

/-- The exact product. -/
def Flt.mul (a b : Flt) : Flt :=
  match a, b with
  | .nan, _ => .nan
  | _, .nan => .nan
  | .inf s, .inf t => .inf (s != t)
  | .inf s, .fin t m _ => if m = 0 then .nan else .inf (s != t)
  | .fin s m _, .inf t => if m = 0 then .nan else .inf (s != t)
  | .fin s m e, .fin t n g => .fin (s != t) (m * n) (e + g)

/-- The exact sum. -/
def Flt.add (a b : Flt) : Flt :=
  match a, b with
  | .nan, _ => .nan
  | _, .nan => .nan
  | .inf s, .inf t => if s = t then .inf s else .nan
  | .inf s, .fin _ _ _ => .inf s
  | .fin _ _ _, .inf t => .inf t
  | .fin s m e, .fin t n g =>
    let lo := min e g
    let x : Int := (m * 2 ^ (e - lo).toNat : Nat)
    let y : Int := (n * 2 ^ (g - lo).toNat : Nat)
    let r := (if s then -x else x) + (if t then -y else y)
    if r = 0 then .fin (s && t) 0 0 else .fin (decide (r < 0)) r.natAbs lo

/-- The nearest integer, ties away from zero, of a finite datum. -/
def roundAway (s : Bool) (m : Nat) (e : Int) : Int :=
  let a : Nat := if 0 ≤ e then m * 2 ^ e.toNat else (m + 2 ^ ((-e).toNat - 1)) / 2 ^ (-e).toNat
  if s then -(a : Int) else (a : Int)

/-- The least and greatest values of an integer type (R169). -/
def typeMin (t : Nat) : Int := if typeSigned t then -(2 ^ (typeWidth t - 1) : Nat) else 0
def typeMax (t : Nat) : Int :=
  if typeSigned t then (2 ^ (typeWidth t - 1) : Nat) - 1 else (2 ^ typeWidth t : Nat) - 1

/-- An integer result limited to the range of an integer type, and whether it saturates. -/
def limitInt (t : Nat) (r : Int) : Value × Bool :=
  let y := if r < typeMin t then typeMin t else if typeMax t < r then typeMax t else r
  (BitVec.ofInt 64 y, y != r)

/-- The value of a signal as a datum: f32, f64 or an integer type (R132, R169). -/
def fltOf (t : Nat) (v : Value) : Flt :=
  if t = 8 then Flt.decode binary32 (v.toNat % 2 ^ 32)
  else if t = 9 then Flt.decode binary64 v.toNat
  else (Flt.ofInt (valueInt t v)).round binary64

/-- SCALE (R132): the result in the destination type, and whether it saturates. In binary64 each operation rounds, from
left to right (log entry 21). -/
def scale (src dst : Nat) (v : Value) (arg : Nat) : Value × Bool :=
  let offset := toSigned 24 (bits arg 63 40)
  let mul := toSigned 32 (bits arg 39 8)
  let shift := bits arg 7 2
  if typeInt src ∧ typeInt dst then
    let p := valueInt src v * mul
    let p := if arg.testBit 1 ∧ 0 < shift then p + 2 ^ (shift - 1) else p
    limitInt dst (p / 2 ^ shift + offset)
  else
    let r := ((fltOf src v).mul (Flt.ofInt mul)).round binary64
    let r := (r.mul (.fin false 1 (-(shift : Int)))).round binary64
    let r := (r.add (Flt.ofInt offset)).round binary64
    let sat := r == .nan
    let r := if sat then .fin false 0 0 else r
    if dst = 8 then (BitVec.ofNat 64 (Flt.encode binary32 (r.round binary32)), sat)
    else if dst = 9 then (BitVec.ofNat 64 (Flt.encode binary64 r), sat)
    else
      match r with
      | .nan => (0, true)
      | .inf s => (BitVec.ofInt 64 (if s then typeMin dst else typeMax dst), true)
      | .fin s m e =>
        let y := limitInt dst (roundAway s m e)
        (y.1, sat || y.2)

/-! ### PACK and UNPACK (R134) -/

/-- PACK of a list of values: the low WIDTH bits of value i at bit i × WIDTH. -/
def pack (width : Nat) (vs : List Value) : Value :=
  BitVec.ofNat 64 ((vs.foldr (fun v t => v.toNat % 2 ^ width + t * 2 ^ width) 0))

/-- UNPACK: bits START to START + WIDTH - 1, zero- or sign-extended. -/
def unpack (v : Value) (arg : Nat) : Value :=
  let start := bits arg 5 0
  let width := bits arg 12 6
  extendBits width (v.toNat / 2 ^ start) (arg.testBit 13)

end Sys2Proof.Machine
end

