-- ==== Sys2Proof/Machine/TreadleOps.lean ====
section
/-! DEFINITION. The Treadle's own operations: the table in force, the shed check, the order of a pick, the reading and
writing of signals by entries, refusals, and the idle card (R122 to R167). -/

namespace Sys2Proof.Machine

/-- The active half of the table memory (R122). -/
def Dev.half (d : Dev) : TableHalf := if d.flag TRD_STAT_ACT_HALF then d.trd.half1 else d.trd.half0

/-- The shadow half. -/
def Dev.shadow (d : Dev) : TableHalf := if d.flag TRD_STAT_ACT_HALF then d.trd.half0 else d.trd.half1

def Dev.setHalf (d : Dev) (h : TableHalf) : Dev :=
  if d.flag TRD_STAT_ACT_HALF then d.setTrd { d.trd with half1 := h } else d.setTrd { d.trd with half0 := h }

/-- The entry at a table index of the active half. -/
def Dev.entry (d : Dev) (idx : Nat) : Option Entry := d.half.entries[idx]?

/-- A warp-lane operation: OP[4] (R126). -/
def opWarp (op : Nat) : Bool := op.testBit 4

/-! ### Drops (R148 to R150) -/

/-- A dropped entry: it leaves the pick's list, and the drop is counted for class `n`. -/
def Dev.dropEntry (d : Dev) (idx n : Nat) : Dev :=
  let t := d.trd
  let d := d.setTrd { t with todo := t.todo.filter (· ≠ idx), charged := t.charged.filter (· ≠ idx), drops := t.drops + 1,
                             dropMin := min t.dropMin n }
  let d := (d.inci TRD_DROPS n).wr TRD_EVT_DROP 1
  let d := (d.wr TRD_DROPPICK_PICK (d.rd BEAT_PICK)).wr TRD_DROPREP_REPCNT (d.rd BEAT_REPCNT)
  if n = 0 then (d.wr TRD_EVT_DROP_C0 1).idleCause TRD_STAT_IDLE_DROP else d

/-- The entry to drop next: of the largest class, the last in table order. -/
def Dev.dropPick (d : Dev) : Option (Nat × Nat) :=
  let cls := fun (i : Nat) => match d.entry i with | some e => e.cls % 4 | none => 3
  [3, 2, 1, 0].findSome? fun c => (d.trd.todo.reverse.find? fun i => cls i == c).map fun i => (i, c)

/-- Slots left for entries that have not begun: B less the slots used and the charged slots not yet used. -/
def Dev.slotsLeft (d : Dev) : Nat := d.trd.budget - d.trd.used - 4 * d.trd.charged.length

/-- The shed check (R148): at most one drop for each entry of the pick. -/
def Dev.shedCheck (d : Dev) : Dev :=
  (List.range d.trd.todo.length).foldl (fun d _ =>
    if d.slotsLeft < d.trd.todo.length then
      match d.dropPick with
      | some p => d.dropEntry p.1 p.2
      | none => d
    else d) d

/-- The record of a pick's drops (R149, R230): code 0x0310, or 0x0311 with a C0 entry; the promises of kind 0 count,
and the context that source 236 is routed to is told. -/
def Dev.dropRecord (d : Dev) : Dev :=
  let n := d.trd.drops
  if n = 0 then d
  else
    let cls := d.trd.dropMin
    let d := (d.addi CTX_BRCNT_COUNT 0 n).wr CTX_EVT_BREACH 1
    let d := d.notice (d.route 236) 0x10 cls (d.rd BEAT_PICK % 65536 + n * 65536)
    d.trig (if cls = 0 then 0x0311 else 0x0310) []

/-! ### The end of a pick (R142 step 5) -/

/-- The banks' command frames are closed and sent (R19, R213, R324): a channel whose context was reset carries its fail
state. Nothing goes to a bank whose link is latched off (R738). -/
def Dev.sendFrames (d : Dev) : Dev :=
  let fails := d.trd.failNext
  let d := d.each fails fun d m =>
    let l := d.chLead m
    let f := d.rdi CH_FAIL_FSTATE l
    let s := d.slot l
    if f = 0 then d.setSlot l { s with cmd := 0, assert := true }
    else if f = 1 then d.setSlot l { s with cmd := 1, assert := true } else d
  let d := d.setTrd { d.trd with failNext := [], framesSent := true }
  d.each (List.range 4) fun d b =>
    if d.bankFitted b ∧ !(d.bk b).latchedOff then
      let fs := (bankChans b).map d.slot
      let d := (d.setBk b { d.bk b with lastFrame := fs }).send (.bankFrame b fs)
      d.each (bankChans b) fun d m => if (d.slot m).phrst then d.setSlot m { d.slot m with phrst := false } else d
    else d

/-- Ready Ethernet objects are released (R139, R421); while idle those with frame VALUE 1 that the pick holds a SEND to
(R154). -/
def Dev.releaseObjects (d : Dev) : Dev :=
  if d.trdIdle then
    let sends := (d.half.entries.filter fun e => e.pick == d.rd BEAT_PICK && e.op == 0x10 && decide (0x2000 ≤ e.dst)).map
      fun e => e.dst
    d.each (sends.dedup.filter fun o => d.trd.idleFrames.find o == some 1) Dev.swxRelease
  else
    let ready := (d.trd.txObj.items.filter fun e => decide (0x2000 ≤ e.1) && e.2.ready).map fun e => e.1
    d.each ready fun d o => (d.swxRelease o).setTxObj o { d.txObj o with ready := false, stale := false }

/-- The pick's last entry has run or been dropped: step 5, the slots used, and the record of its drops. -/
def Dev.finishPick (d : Dev) : Dev :=
  if d.trd.framesSent then d
  else
    let d := d.each (d.treadleGroups.filter d.groupWritten) Dev.flipGroup
    let used := d.trd.used
    let d := (d.releaseObjects.sendFrames).wr TRD_LASTUSE_USED used
    let d := if d.rd TRD_PEAK < used then (d.wr TRD_PEAK used).wr TRD_PEAKPICK_PICK (d.rd BEAT_PICK) else d
    d.dropRecord

/-- After an entry of the weft lane: when no further weft entry waits, the Treadle-written groups flip (R181). -/
def Dev.weftEnd (d : Dev) : Dev :=
  let more := d.trd.todo.any fun i => match d.entry i with | some e => !opWarp e.op | none => false
  if more then d else d.each (d.treadleGroups.filter d.groupWritten) Dev.flipGroup

/-- The slots an entry takes: its own and the 4 that each corrected read has charged to it (R125). -/
def Dev.takeSlots (d : Dev) (idx : Nat) : Dev :=
  let t := d.trd
  let n := 1 + 4 * (t.charged.filter (· == idx)).length
  d.setTrd { t with used := t.used + n, charged := t.charged.filter (· ≠ idx), todo := t.todo.filter (· ≠ idx) }

/-- An entry's turn begins: it takes its slots, and TRD_STAT shows its lane. -/
def Dev.entryTaken (d : Dev) (idx op : Nat) : Dev := (d.takeSlots idx).wr TRD_STAT_LANE (b2n (opWarp op))

/-- An entry's turn ends: with FLG.MARK an entry that ran latches TRD_FMARK (R127), the weft lane's last entry flips the
Treadle-written groups, and the pick's last entry closes the pick. -/
def Dev.entryDone (d : Dev) (idx op : Nat) (e : Entry) (ran : Bool) : Dev :=
  let d := if ran ∧ e.flg.testBit 2 then
    ((d.wr TRD_FMARK_PICK (d.rd BEAT_PICK)).wr TRD_FMARK_INDEX (idx % 65536)).wr TRD_EVT_MARKF 1 else d
  let d := if opWarp op then d else d.weftEnd
  if d.trd.todo.isEmpty then d.finishPick else d

/-- Entry `e` at index `idx`, an entry of operation `op`, is the next of the pick that the Treadle runs. -/
def Dev.turnOf (d : Dev) (idx op : Nat) (e : Entry) : Bool :=
  d.trd.todo.head? == some idx && d.entry idx == some e && e.op == op && d.trdRuns

/-- One entry in its turn: `f` gives the state after its effect and whether it ran. `idx` must be the next entry of the
pick and hold operation `op`. -/
def Dev.runEntry (d : Dev) (idx op : Nat) (f : Dev → Entry → Dev × Bool) : Dev :=
  match d.entry idx with
  | some e =>
    if d.turnOf idx op e then
      let r := f (d.entryTaken idx op) e
      r.1.entryDone idx op e r.2
    else d
  | none => d

/-! ### Reading and writing signals (R136 to R138, R181) -/

/-- What an entry reads of a signal: the weft lane reads the back copy of a Treadle-written group, the warp lane the
front copy (R181). -/
def Dev.entrySlot (d : Dev) (n : Nat) (warp : Bool) : Slot :=
  match d.sigRec n with
  | some r =>
    if !warp ∧ r.writer = 0xFFFE ∧ r.group < 0x1000 then
      let b := d.back n
      let f := d.front n
      if d.sig.written.contains n then { b with version := (f.version + 1) % 65536 } else f
    else d.front n
  | none => d.front n

/-- The value an entry takes from a source signal, with the STALE or SUBST mark for its destination (R138). The read
judges staleness first (R188). -/
def Dev.readSource (d : Dev) (n : Nat) (e : Entry) : Dev × Value × Nat :=
  let d := d.judge n
  let s := d.entrySlot n (opWarp e.op)
  if s.stale then
    if e.flg.testBit 1 then
      match d.sigRec n with
      | some r => (d.inc TRD_SUBSTCNT_COUNT, extendValue r.type r.subst, stSUBST)
      | none => (d, s.value, stSTALE)
    else (d, s.value, stSTALE)
  else (d, s.value, 0)

/-- The last-version word of an entry (R123, R137). -/
def Dev.lastVer (d : Dev) (idx : Nat) : Option Nat := d.half.lastVer.find idx

def Dev.setLastVer (d : Dev) (idx v : Nat) : Dev := d.setHalf { d.half with lastVer := d.half.lastVer.set idx v }

/-- The freshness skip (R137): whether the entry is skipped, and the state with its version stored or the skip counted. -/
def Dev.fresh? (d : Dev) (idx v : Nat) (e : Entry) : Dev × Bool :=
  if e.flg.testBit 0 then
    if d.lastVer idx = some v then (d.inc TRD_SKIPCNT_COUNT, true) else (d.setLastVer idx v, false)
  else (d, false)

/-- The TYPE of a signal. -/
def Dev.typeOf (d : Dev) (n : Nat) : Nat := match d.sigRec n with | some r => r.type | none => 0

/-- An entry writes a signal (R136). -/
def Dev.entryWrite (d : Dev) (n : Nat) (v : Value) (marks : Nat) : Dev :=
  match d.sigRec n with
  | some r => d.sigWrite r v marks
  | none => d

/-- A saturation (R127, R131, R132). -/
def Dev.saturate (d : Dev) (sat : Bool) (e : Entry) : Dev :=
  if sat then
    let d := d.inc TRD_SATCNT_COUNT
    if e.flg.testBit 3 then d.wr TRD_EVT_SAT 1 else d
  else d

/-- A refused entry retires without effect (R141). -/
def Dev.refuseEntry (d : Dev) : Dev := (d.inc TRD_REFCNT_COUNT).wr TRD_EVT_REFUSE 1

/-- The channel refuses DRIVE and PWMSET: bank locked or its link latched off, manual drive, or an owner that is not
ACTIVE (R141, R214, R216, R738). -/
def Dev.chanRefuses (d : Dev) (m : Nat) : Bool :=
  d.rdi BANK_STAT_STATE (bankOf m) == 3 || (d.bk (bankOf m)).latchedOff || (d.ch m).manual ||
    d.ctxState (d.rdi CH_OWNER m) != 1 || d.ctx.runPending.contains (d.rdi CH_OWNER m)

/-- The replication stream that declares an Ethernet transmit object (R421). -/
def Dev.ethStream (d : Dev) (o : Nat) : Option Nat :=
  (List.range 255).find? fun r => d.rdi SWX_RS_OUT_OBJ r + 0x2000 == o

/-- The target of a SEND refuses it (R141, R398). -/
def Dev.sendRefused (d : Dev) (o : Nat) : Bool :=
  if o < 0x1000 then d.canRefuses (o / 32)
  else if o < 0x2000 then
    let st := d.rdi TT_STAT_STATE ((o - 0x1000) / 256)
    st == 0 || st == 5
  else match d.ethStream o with
    | some r => d.swx.portReset.contains (d.rdi SWX_RS_OUT_PORTA r)
    | none => false

/-- A KICK of CAN buffer `b` of controller `c` (R361, R372, R373): of REFBUF while BACKUP it sends nothing, and the
third in a row without a lower reference message makes the controller CURRENT again. -/
def Dev.canKick (d : Dev) (c b : Nat) : Dev :=
  if d.flagi CAN_MODE_TM c ∧ d.rdi CAN_MODE_REFBUF c = b ∧ d.rdi CAN_STAT_ROLE c = 2 then
    let n := (d.canCtl c).tmKicks + 1
    if 3 ≤ n then
      let d := d.setCanCtl c { d.canCtl c with tmKicks := 0 }
      (((d.wri CAN_STAT_ROLE c 1).wri CAN_EVT_TMROLE c 1).trig 0x0445 [c])
    else d.setCanCtl c { d.canCtl c with tmKicks := n }
  else d.canStart c b

/-- A KICK of a transmit object: the state after it and whether it ran (R139, R141, R394, R398). -/
def Dev.kick (d : Dev) (o : Nat) : Dev × Bool :=
  if o < 0x1000 then
    if d.canRefuses (o / 32) then (d.refuseEntry, false)
    else if (d.txObj o).held then (d.canKick (o / 32) (o % 32), true)
    else (d.inc TRD_REFCNT_COUNT, false)
  else
    let t := (o - 0x1000) / 256
    let k := (o - 0x1000) % 256
    if d.rdi TT_STAT_STATE t ≠ 3 then (d.refuseEntry, false)
    else if (d.txObj o).held then
      let x := d.ttCtl t
      (if x.pending.contains k then d else d.setTtCtl t { x with pending := x.pending ++ [k] }, true)
    else (d.inc TRD_REFCNT_COUNT, false)

/-! ### The idle card (R151 to R157, R324) -/

/-- One record of the idle card takes effect on entry (R153, R154, R324). -/
def Dev.idleRecord (d : Dev) (r : IdleRec) : Dev :=
  if r.kind = 1 then d.setSlot r.target { d.slot r.target with cmd := r.value % 65536, assert := true }
  else if r.kind = 2 then
    d.setSlot r.target { d.slot r.target with duty := r.value % 65536, period := bits r.value 47 16, phrst := false,
                                              assert := true }
  else if r.kind = 3 then
    if d.rdi SWXP_CFG1_GSRC r.target = 2 then d.wri SWXP_STAT_GATES r.target (r.value % 256) else d
  else
    let d := d.setTrd { d.trd with idleFrames := d.trd.idleFrames.set r.target r.value }
    if r.target < 0x1000 ∧ r.value = 0 ∧ (d.canBuf (r.target / 32) (r.target % 32)).st = .pending then
      d.canAbandon (r.target / 32) (r.target % 32)
    else d

/-- The Treadle enters the idle card (R152, R156). -/
def Dev.idleEnter (d : Dev) : Dev :=
  let d := (d.wr TRD_STAT_STATE 2).wr TRD_EVT_IDLE_IN 1
  let d := d.setTrd { d.trd with idlePending := false }
  let d := if d.trd.otherCause then d.trig 0x0312 [d.wordAt 0x40020000 0] else d
  d.each d.half.idle Dev.idleRecord

/-- The transmit objects of the time-triggered buses (R129). -/
def ttTarget (o : Nat) : Bool := decide (0x1000 ≤ o) && decide (o < 0x2000)

/-- The Treadle leaves the idle card at a repeat boundary with no cause set (R155, R156): no entry counts as having run
(R137, log entry 45). A slot's buffer keeps its idle value until its first SEND runs. -/
def Dev.idleLeave (d : Dev) : Dev :=
  let d := (d.wr TRD_STAT_STATE 1).wr TRD_EVT_IDLE_OUT 1
  let d := if d.trd.otherCause then d.trig 0x0313 [] else d
  let d := d.setHalf { d.half with lastVer := ⟨[]⟩ }
  d.setTrd { d.trd with otherCause := false, idlePending := false, idleFrames := d.trd.idleFrames.keep ttTarget }

/-! ### The start of a pick (R142, R147) -/

/-- The entries of a pick, in table order. -/
def Dev.pickEntries (d : Dev) (p : Nat) : List Nat :=
  (List.range d.half.entries.length).filter fun i => match d.entry i with | some e => e.pick == p | none => false

/-- TRD_BUDGET shows the budget. Its field has 17 bits; what it shows of a larger budget is not stated: a free value. -/
def Dev.showBudget (d : Dev) (b : Nat) : Dev :=
  if b < 2 ^ 17 then d.wr TRD_BUDGET_SLOTS b else d.fresh.wr TRD_BUDGET_SLOTS (d.freeVal 17)

/-- The Treadle starts a pick to which the beat unit gives the length `len`: budget, entries and the first shed check (R147,
R148). A pick with nothing left to run closes at once. -/
def Dev.startPick (d : Dev) (len gptp localNs : Nat) : Dev :=
  if d.trdRuns then
    let g := if d.rd BEAT_CFG_SOURCE = 3 ∧ d.rd BEAT_STAT_STATE = 1 then d.rd BEAT_MINPICK_MIN_NS else len
    let d := (d.showBudget (g - 64)).wr TRD_STAT_LANE 0
    let d := d.setTrd { d.trd with todo := d.pickEntries (d.rd BEAT_PICK), budget := g - 64, used := 0, charged := [], drops := 0, dropMin := 3,
                                   framesSent := false, gptpNs := gptp, localNs := localNs }
    let d := d.shedCheck
    if d.trd.todo.isEmpty then d.finishPick else d
  else d.setTrd { d.trd with gptpNs := gptp, localNs := localNs }

end Sys2Proof.Machine
end

