-- ==== Sys2Proof/Machine/DeckOps.lean ====
section
/-! DEFINITION. Deck commit and card swap: how each card's contents come into force in its block, at start-up (R67, R715
step 7) and at the repeat boundary of a live swap (R69 to R77, R158, R159). -/

namespace Sys2Proof.Machine

/-- The deck-written fields of an address range take their reset values, before a card is written into them (R49, R58,
R121, R414). -/
def Dev.clearImage (d : Dev) (lo hi : Nat) : Dev :=
  let fs := (fieldsAt lo).filter fun f => f.acc == .rwl
  { d with regs := d.regs.keep fun k =>
      let a := k / 32
      !(decide (lo ≤ a) && decide (a < hi) && fs.any fun f => f.lsb == k % 32 && (f.instAt a 0).isSome) }

def Dev.setDeck (d : Dev) (x : DeckState) : Dev := { d with deck := x }

/-! ### Cards that only a full deck brings -/

/-- The beat card (R54, R88, R116, R117, R121). -/
def Dev.commitBeat (d : Dev) : Dev :=
  match d.rdeck.body 3 0 with
  | some (.beat source srcUnit perCycle repeatLen pickNs holdMs stepB recs) =>
    let d := d.clearImage 0x40010000 0x40010200
    let d := ((d.wr BEAT_CFG_SOURCE source).wr BEAT_CFG_SRC_UNIT srcUnit).wr BEAT_CFG_PER_CYCLE perCycle
    let d := ((d.wr BEAT_REPLEN_REPEAT_LEN repeatLen).wr BEAT_PICKNS_PICK_NS pickNs).wr BEAT_HOLDMS_HOLDOVER_MS holdMs
    let d := (d.wr BEAT_STEPB_STEP_BOUND_NS stepB).wr BEAT_MINPICK_MIN_NS (max 5000 (pickNs - pickNs / 1024))
    d.each recs fun d r =>
      if r.kind = 0 then
        ((d.wri BEAT_SWCFG_THRESH r.index r.thresh).wri BEAT_SWCFG_DEBOUNCE r.index r.debounce).wri BEAT_SWCFG_MODE r.index r.mode
      else if r.kind = 1 then
        ((d.wri BEAT_AINCFG_THRESH r.index r.thresh).wri BEAT_AINCFG_DEBOUNCE r.index r.debounce).wri BEAT_AINCFG_MODE
          r.index r.mode
      else
        ((d.wri BEAT_WKCFG_THRESH r.index r.thresh).wri BEAT_WKCFG_DEBOUNCE r.index r.debounce).wri BEAT_WKCFG_MODE r.index r.mode
  | _ => d

/-- The security policy card (R58, R582, R572): the policies, owners and attributes, and the destruction of a slot whose
stored USE, ALG, SOURCE or PARENT differs. KEEP copies TAMPEN. -/
def Dev.commitSecurity (d : Dev) : Dev :=
  match d.rdeck.body 14 0 with
  | some (.security keyPolicy dbgPolicy recs) =>
    let d := (d.clearImage 0x40800000 0x40810000).image KEY_POLICY_TAMPEN.base keyPolicy
    let d := d.image DBG_POLICY_HOLDLC.base dbgPolicy
    let d := d.each recs fun d r => (d.wri KEY_OWN_OWNER r.index r.owner).image (KEY_ATTR_USE.addr r.index) r.w0
    let d := d.moduleAttrs
    let d := { d with key := { d.key with keepTampen := d.rd KEY_POLICY_TAMPEN } }
    d.each d.key.slots.keys fun d k =>
      let d := if d.rdi KEY_SLOTSTAT_PEND k ≠ 0 ∧ (d.keySlot k).pendAttr ≠ d.keyAttr k then d.keyDropPending k else d
      if d.rdi KEY_SLOTSTAT_STATE k = 1 ∧ (d.keySlot k).attr ≠ d.keyAttr k then d.keyDestroy k else d
  | _ => d

/-! ### Table and idle card (R122, R123, R153, R158) -/

/-- The half that a deck's table and idle cards make up; every entry is never-run. -/
def Deck.half (k : Deck) : TableHalf :=
  match k.body 4 0 with
  | some (.table _ _ maxPick entries) => { entries := entries, maxPick := maxPick, idle := k.idle }
  | _ => { idle := k.idle }

/-- The registers that describe the active half (R166). -/
def Dev.showHalf (d : Dev) : Dev := (d.wr TRD_ENTRIES_COUNT d.half.entries.length).wr TRD_MAXPICK_MAX d.half.maxPick

/-! ### Signals (R190, R159) -/

/-- A declared signal starts from SUBST, with a stamp (R190). -/
def Dev.startSignal (d : Dev) (stamp : Nat) (r : SigRec) : Dev := d.setFront r.signal (initSlot r stamp)

/-! ### Contexts, bobbins and the pool (R57, R204, R209, R216, R231) -/

/-- What a context's queues show: per bobbin the store, USED, RECS, OVF, SHRUNK and DEPTH. -/
structure QueueSave where
  ctx : Nat
  bob : Nat
  store : Bobbin
  used : Nat
  recs : Nat
  ovf : Nat
  shrunk : Nat
  depth : Nat
deriving DecidableEq, Repr

/-- The queues of a context as they stand. -/
def Dev.saveQueues (d : Dev) (r : CtxRec) : List QueueSave :=
  (List.range r.bobbins).map fun k =>
    let q := d.rdi CTXN_QBASE r.ctx + k
    { ctx := r.ctx, bob := k, store := d.bob q, used := d.rdi CTX_Q_USED q, recs := d.rdi CTX_Q_RECS q,
      ovf := d.rdi CTX_Q_OVF q, shrunk := d.rdi CTX_Q_SHRUNK q, depth := d.rdi CTX_QD_DEPTH q }

/-- A saved queue of an unchanged context goes to its queue number under the new deck. -/
def Dev.loadQueue (d : Dev) (s : QueueSave) : Dev :=
  let q := d.rdi CTXN_QBASE s.ctx + s.bob
  let d := ((d.setBob q s.store).wri CTX_Q_USED q s.used).wri CTX_Q_RECS q s.recs
  ((d.wri CTX_Q_OVF q s.ovf).wri CTX_Q_SHRUNK q s.shrunk).wri CTX_QD_DEPTH q s.depth

/-- The queues are given out in record order, each with its DEPTH (R209, R236). -/
def Dev.layQueues (d : Dev) : Dev :=
  let go := d.rdeck.contexts.foldl (fun (p : Dev × Nat) r =>
    let d := (p.1.wri CTXN_QBASE r.ctx p.2).each (List.range r.bobbins) fun d k =>
      d.wri CTX_QD_DEPTH (p.2 + k) (r.depth.getD k 0)
    (d, p.2 + r.bobbins)) (d, 0)
  go.1.wr CTX_GSTAT_DECL d.rdeck.contexts.length

/-- The fields of a context's record show in CTXn_STAT (R236). -/
def Dev.showCtx (d : Dev) (r : CtxRec) : Dev :=
  ((d.wri CTXN_STAT_CLASS r.ctx r.cls).wri CTXN_STAT_BIND r.ctx r.bind).wri CTXN_STAT_BOBBINS r.ctx r.bobbins

/-- Reserved units: the sum of the depths in force (R209). -/
def Dev.sumDepths (d : Dev) : Nat :=
  d.rdeck.contexts.foldl (fun t r =>
    (List.range r.bobbins).foldl (fun t k => t + d.rdi CTX_QD_DEPTH (d.rdi CTXN_QBASE r.ctx + k)) t) 0

/-- The contexts card at a deck commit: every declared context starts in RESTART, and each pair is bound to its
partition (R207, R216). -/
def Dev.commitContexts (d : Dev) : Dev :=
  let d := d.layQueues
  let d := d.each d.rdeck.contexts fun d r => (d.showCtx r).wri CTXN_STAT_STATE r.ctx 3
  d.showBinds.wr CTX_POOLRES_UNITS d.sumDepths

/-- A context that a new contexts card no longer declares is in state NONE (R203). -/
def Dev.dropCtx (d : Dev) (c : Nat) : Dev :=
  let d := ((d.wri CTXN_STAT_STATE c 0).wri CTXN_STAT_CLASS c 0).wri CTXN_STAT_BIND c 0
  let d := (((d.wri CTXN_STAT_BOBBINS c 0).wri CTXN_STAT_CAUSE c 0).wri CTXN_QBASE c 0).fwClear (.resets c)
  { d with ctx := { d.ctx with stopPending := d.ctx.stopPending.filter (· ≠ c), atThree := d.ctx.atThree.filter (· ≠ c) } }

/-- The contexts card at a swap: changed contexts are reset with cause SWAP under their old record, unchanged ones keep
their queues, and new ones start in RESTART (R71, R212, R216). `new` is the merged deck, not yet in force. -/
def Dev.swapContexts (d : Dev) (new : Deck) : Dev :=
  let old := d.rdeck.contexts
  let same := old.filter fun r => new.contexts.contains r
  let d := d.each (old.filter fun r => !same.contains r) fun d r => d.ctxReset r.ctx 5
  let saves := same.flatMap d.saveQueues
  let gone := (old.map fun r => r.ctx).filter fun c => !(new.contexts.any fun r => r.ctx == c)
  let d := d.each (List.range (old.foldl (fun t r => t + r.bobbins) 0)) fun d q =>
    (((d.wri CTX_Q_USED q 0).wri CTX_Q_RECS q 0).wri CTX_Q_OVF q 0).wri CTX_Q_SHRUNK q 0 |>.wri CTX_QD_DEPTH q 0
  let d := { d with ctx := { d.ctx with bobbin := ⟨[]⟩ } }
  let d := d.setDeck { d.deck with running := some new }
  let d := (d.each gone Dev.dropCtx).layQueues
  let d := d.each new.contexts Dev.showCtx
  let d := d.each (new.contexts.filter fun r => !(old.any fun o => o.ctx == r.ctx)) fun d r => d.wri CTXN_STAT_STATE r.ctx 3
  let d := d.each saves Dev.loadQueue
  d.wr CTX_POOLRES_UNITS d.sumDepths

/-! ### CAN (R58, R359, R376) -/

/-- The bytes that a buffer's SENDs cover (R359). -/
def Deck.sendBytes (k : Deck) (o : Nat) : Nat :=
  (k.entries.filter fun e => e.op == 0x10 && e.dst == o).foldl (fun t e =>
    let a := fieldArg e.arg
    max t ((a.start + a.width + 7) / 8)) 0

/-- The frame length of a Treadle-fed buffer: the shortest that its format allows (R359). -/
def treadleLen (form bytes : Nat) : Nat :=
  if form = 0 then min bytes 8 else if form = 1 then fdLength bytes else max bytes 5

/-- The frame length of a buffer that the table feeds (R359). -/
def Dev.imageLen (d : Dev) (c b : Nat) : Dev :=
  let i := c * 32 + b
  if d.rdeck.feeds (canObj c b) then
    d.wri CAN_TXLEN_LEN i (treadleLen (canForm (d.rdi CAN_TXCFG_FORM i)) (d.rdeck.sendBytes (canObj c b)))
  else d

/-- A controller's card is written into its registers (R58, R376). -/
def Dev.imageCan (d : Dev) (c : Nat) : Dev :=
  let b := 0x40400000 + c * 0x1000
  let d := d.clearImage b (b + 0x1000)
  match d.rdeck.body 8 c with
  | some (.can mode nbt dbt tdc q1own nopart recs) =>
    let d := ((d.image b mode).image (b + 4) nbt).image (b + 8) dbt
    let d := ((d.image (b + 12) tdc).image (b + 16) q1own).image (b + 20) nopart
    d.each recs fun d r =>
      if r.kind = 1 then (d.image (CAN_FMATCH_EN.addr (c * 128 + r.index)) r.w0).image (CAN_FMASK_MASK.addr (c * 128 + r.index)) r.w1
      else
        let i := c * 32 + r.index
        (d.image (CAN_TXCFG_ID.addr i) r.w0).imageLen c r.index
  | _ => d

/-- The frame lengths of a controller's Treadle-fed buffers follow the table in force (R359). -/
def Dev.imageLens (d : Dev) (c : Nat) : Dev :=
  d.each ((d.rdeck.canRecs c).filter fun r => r.kind != 1) fun d r => d.imageLen c r.index

/-- A controller's card at a deck commit: the controller integrates (R71, R376). -/
def Dev.commitCan (d : Dev) (c : Nat) : Dev :=
  let d := d.imageCan c
  if d.rdeck.has 8 c then d.canRestart c else d

/-! ### Time-triggered (R58, R387, R397) -/

def Dev.imageTt (d : Dev) (t : Nat) : Dev :=
  let b := 0x40500000 + t * 0x8000
  let d := d.clearImage b (b + 0x8000)
  match d.rdeck.body 9 t with
  | some (.tt cycle slotcfg cold guard recs) =>
    let d := ((d.image b cycle).image (b + 4) slotcfg).image (b + 8) cold |>.image (b + 12) guard
    d.each recs fun d r =>
      let i := t * 256 + r.index
      ((d.image (TT_BUFCFG_KIND.addr i) r.w0).wri TT_BUFSLOT_CHMASK i r.kind).wri TT_BUFSLOT_SLOT i r.owner
  | _ => d

def Dev.commitTt (d : Dev) (t : Nat) : Dev :=
  let d := d.imageTt t
  if d.rdeck.has 9 t then d.ttReady t else d

/-! ### Switch (R414, R428, R438) -/

/-- The address of a switch record's first word (R414, R449, R452, R453). -/
def switchAddr (kind index : Nat) : Nat :=
  if kind = 1 then 0x40610000 + 0x100 * index
  else if kind = 2 then 0x40620000 + 0x20 * index
  else 0x40600000 + 0x10000 * kind + 0x10 * index

/-- The registers of the switch card. -/
def Dev.imageSwitch (d : Dev) : Dev :=
  let d := d.clearImage 0x40600000 0x406A0000
  match d.rdeck.body 10 0 with
  | some (.switch gcfg pool recs) =>
    let d := (d.image 0x40600000 gcfg).image 0x40600004 pool
    d.each recs fun d r =>
      let a := switchAddr r.kind r.index
      let d := (d.image a r.w0).image (a + 4) r.w1
      if r.kind = 2 ∨ r.kind = 6 then d else d.image (a + 8) r.w2
  | _ => d

/-- The minimums and the limit in force start from the card, fitted to the usable cells (R428). -/
def Dev.startPool (d : Dev) (queues : List Nat) : Dev :=
  let d := d.each queues fun d k => d.wri SWXQ_STAT_MINNOW k (d.rdi SWXQ_CFG0_MIN k)
  let d := { d with swx := { d.swx with limit := d.rd SWX_POOL_LIMIT } }
  d.swxFit

def Dev.commitSwitch (d : Dev) : Dev := (d.imageSwitch.startPool (List.range 216)).secShow

/-- The records of a port: its own, its queues' and its gate-list entries (R438). -/
def portRecs (k : Deck) (p : Nat) : List ImgRec :=
  k.switchRecs.filter fun r =>
    (r.kind == 1 && r.index == p) || (r.kind == 2 && r.index / 8 == p) || (r.kind == 6 && r.w0 % 32 == p)

/-! ### Bridge (R455, R480) -/

/-- The registers of the bridge card. -/
def Dev.imageBridge (d : Dev) : Dev :=
  let d := d.clearImage 0x40700000 0x40710000
  match d.rdeck.body 11 0 with
  | some (.bridge cfg recs) =>
    (d.image 0x40700000 cfg).each recs fun d r =>
      let a := 0x40701000 + 0x40 * (if r.kind = 1 then r.index else 64 + r.index)
      ((d.image a r.w0).image (a + 4) r.w1).image (a + 8) r.w2
  | _ => d

/-- The outbound windows that a deck declares. -/
def Deck.windows (k : Deck) : List Nat := (k.bridgeRecs.filter fun r => r.kind == 1).map fun r => r.index

def Dev.commitBridge (d : Dev) : Dev := d.imageBridge.each d.rdeck.windows Dev.winStart

/-- The records of an outbound window: a window changes when they do. A changed BRG_CFG word changes no window (log entry
57). -/
def winRecs (k : Deck) (w : Nat) : List ImgRec := k.bridgeRecs.filter fun r => r.kind == 1 && r.index == w

/-- The windows that a new deck changes, adds or removes. -/
def changedWindows (old new : Deck) : List Nat :=
  ((old.windows ++ new.windows).dedup).filter fun w => winRecs old w != winRecs new w

/-! ### Sleep (R495, R507) -/

def Dev.imageSleep (d : Dev) : Dev :=
  let d := d.clearImage 0x40710000 0x40720000
  match d.rdeck.body 12 0 with
  | some (.sleep cfg times recs) =>
    ((d.image 0x40710000 cfg).image 0x40710004 times).each recs fun d r => d.image (NMW_CL_KABLK.addr (r.index / 256 % 16)) r.w0
  | _ => d

/-- The clusters that a deck declares. -/
def Deck.clusters (k : Deck) : List Nat := (List.range 16).filter fun c => k.sleepRecs.any fun r => r.index / 256 % 16 == c

def Dev.commitSleep (d : Dev) : Dev := d.imageSleep.each d.rdeck.clusters Dev.sleepStart

def clusterRecs (k : Deck) (c : Nat) : List ImgRec := k.sleepRecs.filter fun r => r.index / 256 % 16 == c

/-! ### Recorder (R647, R652) -/

/-- The registers of the recorder card, and full buckets. -/
def Dev.commitRecorder (d : Dev) : Dev :=
  let d := d.clearImage 0x40900000 0x40910000
  match d.rdeck.body 13 0 with
  | some (.recorder cfg recs) =>
    let d := (d.image REC_CFG_DDEPTH.base cfg).each recs fun d r =>
      if r.kind = 1 then
        (d.image (REC_RNG_CODES_HI.addr r.index) r.w0).image (REC_RNG_CTL_SET.addr r.index) r.w1
      else if r.kind = 2 then
        let i := r.index / 256 % 64 * 24 + r.index % 32
        ((d.wri REC_SET_ENTRY i r.w0).wri REC_SET_ENTRY (i + 1) r.w1).wri REC_SET_ENTRY (i + 2) r.w2
      else
        let d := (d.image (REC_BKT_CODE.addr r.index) r.w0).image (REC_BKT_FILL.addr r.index) r.w1
        (d.wri REC_BKT_STATE_TOKENS r.index (d.rdi REC_BKT_FILL_DEPTH r.index)).wri REC_BKT_STATE_SUPPCNT r.index 0
    (d.wr REC_DBKT_TOKENS (d.rd REC_CFG_DDEPTH)).wr REC_DBKT_SUPPCNT 0
  | _ => (d.wr REC_DBKT_TOKENS (d.rd REC_CFG_DDEPTH)).wr REC_DBKT_SUPPCNT 0

/-! ### Deck commit (R67) -/

/-- A loaded deck of slot `n` is committed: the register images are written into their blocks (R67, R715 step 7). -/
def Dev.deckCommit (d : Dev) (k : Deck) (n : Nat) : Dev :=
  let d := d.setDeck { d.deck with running := some k, armed := none, changed := [], picksSinceArm := 0, bridgeWaits := 0,
                                   waitedAt := none, presence := ⟨[]⟩ }
  let d := ((d.wr SYSCTL_DECKSTAT_STATE 2).wr SYSCTL_DECKSTAT_ACT_SLOT n).wr SYSCTL_DECKSTAT_SWAP_ARMED 0
  let d := (d.wr SYSCTL_DECKID_DECK_ID k.hdr.deckId).wr SYSCTL_DECKVER_DECK_VER k.hdr.deckVer
  let d := d.commitBeat.setTrd { d.trd with half0 := k.half, half1 := {} }
  let d := (d.wr TRD_STAT_ACT_HALF 0).showHalf
  let d := d.each k.signals fun d r => d.startSignal d.stampNow r
  let d := d.commitContexts
  let d := (d.each (List.range 4) Dev.commitBank).each (List.range 26) Dev.commitCan
  let d := (d.each (List.range 2) Dev.commitTt).commitSwitch.poolFit.commitBridge
  let d := d.commitRecorder.commitSecurity.commitSleep.wr FLT_STAT_CANSP d.canSpares.length
  if k.sys.clkMode = 1 then { d with pwr := { d.pwr with xtalAmp := false } } else d

/-! ### Arming and taking effect of a card set (R69 to R75, R158, R159) -/

/-- The other deck slot. -/
def Dev.inactiveSlot (d : Dev) : Nat := 1 - d.rd SYSCTL_DECKSTAT_ACT_SLOT

def Dev.deckSlot (d : Dev) (n : Nat) : DeckSlot := if n = 0 then d.deck.slot0 else d.deck.slot1

def Dev.setDeckSlot (d : Dev) (n : Nat) (s : DeckSlot) : Dev :=
  if n = 0 then d.setDeck { d.deck with slot0 := s } else d.setDeck { d.deck with slot1 := s }

/-- A slot record is rewritten with STATE 0x02 and SEQ one above the other slot's, which becomes 0x03 (R66). -/
def Dev.slotCommit (d : Dev) (n : Nat) : Dev :=
  let o := d.deckSlot (1 - n)
  let d := d.setDeckSlot n { d.deckSlot n with state := 2, seq := (o.seq + 1) % 2 ^ 32 }.seal
  d.setDeckSlot (1 - n) { o with state := 3 }.seal

/-- A checked deck is stored in the inactive slot in stored form, with STATE 0x01 (R66). -/
def Dev.slotStage (d : Dev) (k : Deck) : Dev :=
  let n := d.inactiveSlot
  (d.setDeckSlot n (d.storedSlot (d.deckSlot n) k)).fresh

/-- The staged slot returns to STATE 0x00 (R72, R76). -/
def Dev.slotDrop (d : Dev) : Dev :=
  let n := d.inactiveSlot
  d.setDeckSlot n { d.deckSlot n with state := 0 }.seal

/-- The swap is armed: the merged deck is staged and its table waits in the shadow half (R70 step 5). The IV and TAG of the
merged deck's own encryption are open values (log entry 57). -/
def Dev.swapArm (d : Dev) (m : Deck) (changed : List (Nat × Nat)) : Dev :=
  let merged := { m with hdr := { m.hdr with iv := d.freeVal 96, tag := d.fresh.freeVal 128 } }
  let d := d.fresh.fresh
  let d := d.slotStage merged
  let d := d.setDeck { d.deck with armed := some merged, changed := changed, picksSinceArm := 0, bridgeWaits := 0,
                                   waitedAt := none }
  let h := merged.half
  let d := if d.flag TRD_STAT_ACT_HALF then d.setTrd { d.trd with half0 := h } else d.setTrd { d.trd with half1 := h }
  d.wr SYSCTL_DECKSTAT_SWAP_ARMED 1

/-- The CAN, time-triggered, switch, bridge, sleep and recorder cards of a swap (R71). `old` is the deck until now. -/
def Dev.swapBlocks (d : Dev) (old : Deck) (changed : List (Nat × Nat)) : Dev :=
  let new := d.rdeck
  let d := d.each ((changed.filter fun c => c.1 == 7).map fun c => c.2) Dev.commitBank
  let d := d.each ((changed.filter fun c => c.1 == 8).map fun c => c.2) fun d c => (d.imageCan c).canLeave c
  let d := if changed.contains (4, 0) then d.each (List.range 26) Dev.imageLens else d
  let d := d.each ((changed.filter fun c => c.1 == 9).map fun c => c.2) fun d t =>
    (d.imageTt t).ttSwap t
  let d := if changed.contains (10, 0) then
      let ps := (List.range 27).filter fun p => portRecs old p != portRecs new p
      let d := d.each ps Dev.swxFlush
      let d := (d.imageSwitch.startPool (ps.flatMap fun p => (List.range 8).map fun q => p * 8 + q)).secShow
      { d with swx := { d.swx with portReset := ps } }
    else d
  let d := if changed.contains (11, 0) then
      let ws := changedWindows old new
      let d := d.imageBridge
      d.each ws fun d w =>
        if new.windows.contains w then d.winStart w else ((d.setWin w {}).wri BRG_WSTATE_STATE w 0).showWrites w
    else d
  let d := if changed.contains (12, 0) then
      let cs := (List.range 16).filter fun c => clusterRecs old c != clusterRecs new c
      let d := d.imageSleep
      d.each cs fun d c =>
        if new.clusters.contains c then d.sleepStart c
        else ((d.clrBit NMW_STAT_DECL 0 c).wri NMW_CLSTAT_STATE c 0).sleepShow
    else d
  if changed.contains (13, 0) then d.commitRecorder else d

/-- The partners whose inventory record a swap changes return to UNKNOWN, and their windows are probed (R71, R486); evidence
that stands makes a partner PRESENT again at once (R79, R80). -/
def Dev.swapInventory (d : Dev) (old : Deck) : Dev :=
  let new := d.rdeck
  let moved := ((old.inventory ++ new.inventory).filter fun r =>
    !(old.inventory.contains r && new.inventory.contains r))
  d.each moved fun d r =>
    let d := d.setDeck { d.deck with presence := d.deck.presence.erase r.partner }
    let d := if r.kind = 4 ∧ d.winUp r.unit then d.setWin r.unit { d.win r.unit with probeDue := true } else d
    if new.inventory.contains r ∧ d.standing r then d.evidence r else d

/-- All staged cards take effect in one clock cycle, and the slot record is rewritten (R69, R70 steps 6 and 7, R71,
R158, R159, R190, R543). `stamp` is that of the first pick after the boundary. -/
def Dev.swapEffect (d : Dev) (new : Deck) (stamp : Nat) : Dev :=
  let old := d.rdeck
  let changed := d.deck.changed
  let d := if changed.contains (6, 0) then d.swapContexts new else d.setDeck { d.deck with running := some new }
  let d := (d.wr TRD_STAT_ACT_HALF (1 - d.rd TRD_STAT_ACT_HALF)).showHalf
  let d := d.each (new.signals.filter fun r => !(old.signals.any fun o => o.signal == r.signal)) fun d r => d.startSignal stamp r
  let d := d.swapBlocks old changed
  let d := d.when (changed.contains (6, 0)) fun d => d.each (List.range 4) fun d b =>
    if d.bankFitted b ∧ (d.bk b).keeperOn then d.writeOrder b else d
  let d := (d.when (changed.contains (6, 0)) Dev.poolFit).swapInventory old
  let d := (d.wr SYSCTL_DECKSTAT_SWAP_ARMED 0).wr TRD_EVT_SWAPPED 1
  let n := d.inactiveSlot
  let d := (d.slotCommit n).wr SYSCTL_DECKSTAT_ACT_SLOT n
  let d := (d.wr SYSCTL_DECKID_DECK_ID new.hdr.deckId).wr SYSCTL_DECKVER_DECK_VER new.hdr.deckVer
  let d := d.setDeck { d.deck with armed := none, changed := [], picksSinceArm := 0, bridgeWaits := 0, waitedAt := none }
  ((d.wr SYSCTL_EVT_SWAPDONE 1).trig 0x0201 []).hostNotice 0x0280 [(1, 1), (1, 0), (2, 0), (4, new.hdr.deckId), (4, new.hdr.deckVer)]

/-- Whether the armed swap must wait for a bridge window (R72). -/
def Dev.swapHeld (d : Dev) (new : Deck) : Bool :=
  d.deck.changed.contains (11, 0) && (changedWindows d.rdeck new).any fun w => !d.winQuiet w

/-- An armed swap is due at this repeat boundary: at least one full pick after arming, and not yet given up after 16
boundaries (R69, R72, R73). -/
def Dev.swapDue (d : Dev) : Bool :=
  d.deck.armed.isSome && decide (1 ≤ d.deck.picksSinceArm) && decide (d.deck.bridgeWaits < 16)

/-- The armed swap is made at a repeat boundary at which it is due; a bridge swap that must wait counts the boundary, once
(R69, R72). -/
def Dev.swapIfDue (d : Dev) (stamp : Nat) : Dev :=
  match d.deck.armed with
  | some new =>
    if !d.swapDue ∨ d.deck.waitedAt = some d.beat.picksBegun then d
    else if d.swapHeld new then
      d.setDeck { d.deck with bridgeWaits := d.deck.bridgeWaits + 1, waitedAt := some d.beat.picksBegun }
    else d.swapEffect new stamp
  | none => d

end Sys2Proof.Machine
end

