-- ==== Sys2Proof/Machine/Beat.lean ====
section
/-! DEFINITION. The commands of the beat unit: pick boundaries, card swaps, qualification and loss of the pick source,
phase steps, and the position and line-cycle stages, with the input lines that every boundary latches (R85 to R121). -/

namespace Sys2Proof.Machine

/-! ### Input lines (R106 to R115) -/

/-- Input lines of a kind that the beat card records: 0 SW, 1 AIN, 2 WAKE (R54, R121). -/
def Dev.inputLines (d : Dev) (kind : Nat) : List Nat := (d.rdeck.lines.filter fun r => r.kind == kind).map fun r => r.index

/-- The value that line `k` shows at this boundary: the sample of the boundary before, or this one's own at the first
boundary. The new sample is kept for the next one (R106). -/
def Dev.latchLine (d : Dev) (k sample : Nat) : Dev × Nat :=
  (d.setBeat { d.beat with lastSample := d.beat.lastSample.set k sample }, d.beat.lastSample.get k sample)

/-- Consecutive latches that differ from the debounced state, or lie outside the window. -/
def Dev.lineRun (d : Dev) (k : Nat) : Nat := d.beat.run.get k 0

def Dev.setRun (d : Dev) (k n : Nat) : Dev := d.setBeat { d.beat with run := d.beat.run.set k n }

/-- A bit of a field takes a level. -/
def Dev.putBit (d : Dev) (f : Field) (n : Nat) (v : Bool) : Dev := if v then d.setBit f 0 n else d.clrBit f 0 n

/-- The debounced state changes after DEBOUNCE + 1 equal latches (R112). The result tells whether it changes now. -/
def Dev.debounce (d : Dev) (k deb : Nat) (level now : Bool) : Dev × Bool :=
  if level = now then (d.setRun k 0, false)
  else if deb < d.lineRun k + 1 then (d.setRun k 0, true)
  else (d.setRun k (d.lineRun k + 1), false)

/-- The code of a voltage in µV at `num` / `den` µV a code: code k covers the inputs from k − 0.5 to k + 0.5 codes, and
4,095 all above (R113). -/
def convCode (uv num den : Nat) : Nat := min 4095 ((2 * uv * den + num) / (2 * num))

/-- The full range of an analogue input in µV (R113). -/
def ainRange (mode : Nat) : Nat := [5000000, 16000000, 32000000].getD (mode % 4) 5000000

/-- Switch input n: 10 mV a code (R107, R109, R111 to R113). -/
def Dev.latchSw (d : Dev) (x : PickIn) (n : Nat) : Dev :=
  let p := d.latchLine n (convCode (x.sw.getD n 0) 10000 1)
  let d := p.1.wri BEAT_SWV_VOLT n p.2
  let th := d.rdi BEAT_SWCFG_THRESH n
  let raw := if bits th 15 8 * 20 < p.2 then true else if p.2 < bits th 7 0 * 20 then false else d.bit BEAT_SWRAW_SW 0 n
  let d := d.putBit BEAT_SWRAW_SW n raw
  let closed := if d.rdi BEAT_SWCFG_MODE n % 4 = 1 then !raw else raw
  let q := d.debounce n (d.rdi BEAT_SWCFG_DEBOUNCE n) closed (d.bit BEAT_SWSTATE_SW 0 n)
  if q.2 then (q.1.putBit BEAT_SWSTATE_SW n closed).setBit BEAT_SWEVT_SW 0 n else q.1

/-- Analogue input n: a code is its range divided by 4,096 (R113, R114). -/
def Dev.latchAin (d : Dev) (x : PickIn) (n : Nat) : Dev :=
  let p := d.latchLine (32 + n) (convCode (x.ain.getD n 0) (ainRange (d.rdi BEAT_AINCFG_MODE n)) 4096)
  let d := p.1.wri BEAT_AIN_CODE n p.2
  let th := d.rdi BEAT_AINCFG_THRESH n
  let c := p.2 / 16
  if th = 0 then d
  else if bits th 15 8 < c ∨ c < bits th 7 0 then
    let r := d.lineRun (32 + n)
    let d := d.setRun (32 + n) (min (r + 1) 257)
    if r = d.rdi BEAT_AINCFG_DEBOUNCE n then d.setBit BEAT_AINEVT_AIN 0 n else d
  else d.setRun (32 + n) 0

/-- Wake input n (R115, R506). -/
def Dev.latchWake (d : Dev) (x : PickIn) (n : Nat) : Dev :=
  let edge := d.rdi BEAT_WKCFG_MODE n % 4
  if edge = 0 then d
  else
    let p := d.latchLine (48 + n) (b2n (x.wake.testBit n))
    let level := p.2 == 1
    let q := p.1.debounce (48 + n) (d.rdi BEAT_WKCFG_DEBOUNCE n) level (d.bit BEAT_WKSTATE_WK 0 n)
    if q.2 then
      let d := q.1.putBit BEAT_WKSTATE_WK n level
      if (level ∧ edge ≠ 2) ∨ (!level ∧ edge ≠ 1) then d.wakeEdge n else d
    else q.1

/-- All enabled input lines are latched (R106). -/
def Dev.latchInputs (d : Dev) (x : PickIn) : Dev :=
  let d := d.each (d.inputLines 0) fun d n => d.latchSw x n
  let d := d.each (d.inputLines 1) fun d n => d.latchAin x n
  d.each (d.inputLines 2) fun d n => d.latchWake x n

/-! ### The start of a pick (R142) -/

/-- The group flips that are due come before a swap (R185). -/
def Dev.flipPending (d : Dev) : Dev := d.each d.pendingGroups Dev.flipGroup

/-- Entry into the idle card, exit from it, and a swap due at this boundary (R152, R155, R162, R163). -/
def Dev.boundaryTurn (d : Dev) (pick rep : Nat) (repeatEnd : Bool) : Dev :=
  if d.rd TRD_STAT_STATE = 1 ∧ d.trd.idlePending then d.idleEnter
  else
    let d := if d.trdIdle ∧ repeatEnd ∧ !d.anyCause then d.idleLeave else d
    if d.rd TRD_STAT_STATE = 1 ∧ repeatEnd ∧ d.swapDue then d.flipPending.swapIfDue (rep % 65536 * 65536 + pick) else d

/-- The nominal length of the pick that begins, in ns: PICK_NS, or the measured period of a line cycle's picks; in ACQUIRE and
HOLDOVER the retained or last measured period (R87, R95, R99). -/
def Dev.pickNominal (d : Dev) : Nat :=
  let st := d.rd BEAT_STAT_STATE
  let p := d.rd BEAT_PERIOD
  if p ≠ 0 ∧ (st = 0 ∨ st = 2 ∨ st = 1 ∧ d.rd BEAT_CFG_SOURCE = 4) then p / 16 else d.rd BEAT_PICKNS_PICK_NS

/-- The share of the phase error that the pick that begins slews out: at most floor(PICK_NS / 1,024) ns either way while LOCKED,
and no pick shorter than 5,000 ns (R88). A lag shortens picks. An accepted index and edges, not slewing, end the picks of a
position source. -/
def Dev.slewOf (d : Dev) : Int :=
  let e := toSigned 32 (d.rd BEAT_PHERR)
  let lim : Int := (d.rd BEAT_PICKNS_PICK_NS / 1024 : Nat)
  let src := d.rd BEAT_CFG_SOURCE
  if d.rd BEAT_STAT_STATE = 1 ∧ src ≠ 3 ∧ src ≠ 5 then
    min (max (-lim) (min lim e)) ((d.pickNominal : Int) - 5000)
  else 0

/-- The length that the beat unit gives the pick that begins, slew included (R88, R147). -/
def Dev.pickLength (d : Dev) : Nat := ((d.pickNominal : Int) - d.slewOf).toNat

/-- The beat unit gives the pick its length: the phase error falls by what it slews, and while LOCKED on a source that
boundaries follow one by one BEAT_PERIOD takes the period measured (R88, R117). -/
def Dev.slewPick (d : Dev) (x : PickIn) : Dev :=
  let d := if d.slewOf = 0 then d else d.wr BEAT_PHERR (sword (toSigned 32 (d.rd BEAT_PHERR) - d.slewOf))
  if d.rd BEAT_STAT_STATE = 1 ∧ d.rd BEAT_CFG_SOURCE ≠ 4 ∧ x.period ≠ 0 then d.wr BEAT_PERIOD x.period else d

/-- A pick begins: its number and repeat count, the inputs, idle card and swap, budget and first shed check (R142), the
net edge count (R90), and the timers that count picks, of which `passed` more have gone by (R225). -/
def Dev.beginPick (d : Dev) (pick rep passed : Nat) (repeatEnd : Bool) (x : PickIn) : Dev :=
  let d := d.finishPick
  let d := (d.wr BEAT_PICK pick).wr BEAT_REPCNT rep
  let d := d.latchInputs x
  let d := { d with swx := { d.swx with portReset := [] }, ctx := { d.ctx with runPending := [] } }
  let d := d.boundaryTurn pick rep repeatEnd
  let d := if d.deck.armed.isSome then d.setDeck { d.deck with picksSinceArm := d.deck.picksSinceArm + 1 } else d
  let len := d.pickLength
  let d := (d.slewPick x).setBeat { d.beat with
    picksBegun := d.beat.picksBegun + 1, netEdges := 0, indexPending := false,
    indexSeen := if repeatEnd then false else d.beat.indexSeen,
    quadErrs := if repeatEnd then 0 else d.beat.quadErrs }
  (d.timerPicks (1 + passed)).startPick len x.gptp x.localNs

/-- The beat unit is LOCKED on a source. -/
def Dev.lockedOn (d : Dev) (src : Nat) : Bool := d.rd BEAT_STAT_STATE == 1 && d.rd BEAT_CFG_SOURCE == src

/-- The repeat count of the repeat that begins: the formula of R85 on network time, else one more (R85, R100). -/
def Dev.nextRep (d : Dev) (x : PickIn) : Nat :=
  if d.lockedOn 0 then x.gptp / (d.rd BEAT_PICKNS_PICK_NS * d.rd BEAT_REPLEN_REPEAT_LEN) % 2 ^ 32 else d.rd BEAT_REPCNT + 1

/-- The picks that a phase step or an alignment to pick `pick` passes over: those left of the repeat that ends, and those of
the new one before it (R187, R225). -/
def Dev.passedBy (d : Dev) (pick : Nat) : Nat := d.rd BEAT_REPLEN_REPEAT_LEN - 1 - d.rd BEAT_PICK + pick

/-- A phase step is counted and recorded (R100). -/
def Dev.stepMark (d : Dev) : Dev := ((d.inc BEAT_CNT0_STEP_CNT).wr BEAT_EVT_STEP 1).trig 0x0302 [d.rd BEAT_PHERR]

/-- The pick in progress ends at an accepted index (R92, R93): the repeat ends, normally in its last pick and else as a phase
step, and pick 0 begins. Its edges count from the index on. In a repeat of one pick, whose pick 0 is also its last, the index
ends the repeat (log entry 58). -/
def Dev.indexEnd (d : Dev) (x : PickIn) : Dev :=
  let net := d.beat.netEdges
  let last := d.rd BEAT_PICK + 1 = d.rd BEAT_REPLEN_REPEAT_LEN
  let d := if last then d else d.stepMark
  let d := d.beginPick 0 (d.nextRep x) (if last then 0 else d.passedBy 0) true x
  d.setBeat { d.beat with netEdges := net }

/-- The boundary after the pick in progress: the next pick, or pick 0 of a new repeat after REPEAT_LEN picks; the very
first pick is pick 0 (R85, R94, R156). -/
def Dev.nextPick (d : Dev) (x : PickIn) : Dev :=
  if d.beat.picksBegun = 0 then d.beginPick 0 (d.rd BEAT_REPCNT) 0 false x
  else if d.rd BEAT_PICK + 1 < d.rd BEAT_REPLEN_REPEAT_LEN then
    d.beginPick (d.rd BEAT_PICK + 1) (d.rd BEAT_REPCNT) 0 false x
  else
    let d := if d.lockedOn 3 ∧ !d.beat.indexSeen then
        ((d.wr BEAT_EVT_IDX_MISS 1).inc BEAT_CNT1_IDX_CNT).trig 0x0305 [] else d
    d.beginPick 0 (d.nextRep x) 0 true x

/-- PICK_BOUNDARY (R142). While an alignment or a phase step is due, the pick in progress only ends (R100, R101); after an
accepted index the boundary is that of R92. -/
def execPickBoundary (x : PickIn) (s : State) : Host.Outcome State Fault Refusal :=
  onDev (fun d =>
    if !d.trdRuns then d
    else if d.beat.alignPending ∨ d.beat.stepPending then d.finishPick
    else if d.beat.indexPending then d.indexEnd x
    else d.nextPick x) s

/-! ### Card swap (R69, R72, R158) -/

/-- CARD_SWAP: the repeat boundary of an armed swap, with the Treadle in RUN and no idle card due. PICK_BOUNDARY, which begins
pick 0 of the new repeat at the same boundary, follows: signals that the swap adds carry the stamp of that pick (R190). Where
an alignment, a phase step or an index ends the repeat, that command makes the swap. -/
def execCardSwap (s : State) : Host.Outcome State Fault Refusal :=
  onDev (fun d =>
    if d.rd TRD_STAT_STATE = 1 ∧ !d.trd.idlePending ∧ d.swapDue ∧ d.trd.todo.isEmpty ∧
        d.rd BEAT_REPLEN_REPEAT_LEN ≤ d.rd BEAT_PICK + 1 ∧ !d.beat.alignPending ∧ !d.beat.stepPending then
      d.flipPending.swapIfDue ((d.rd BEAT_REPCNT + 1) % 65536 * 65536)
    else d) s

/-- SWAP_ABANDON: the changed windows were busy at 16 boundaries (R72, R543). -/
def execSwapAbandon (s : State) : Host.Outcome State Fault Refusal :=
  onDev (fun d =>
    if d.deck.armed.isSome ∧ 16 ≤ d.deck.bridgeWaits then
      let d := d.slotDrop
      let d := d.setDeck { d.deck with armed := none, changed := [], picksSinceArm := 0, bridgeWaits := 0, waitedAt := none }
      let d := (d.wr SYSCTL_DECKSTAT_SWAP_ARMED 0).wr SYSCTL_DECKSTAT_REJ_CODE 0x0506
      let d := d.wr SYSCTL_EVT_SWAPABN 1
      d.hostNotice 0x0280 [(1, 2), (1, 0), (2, 0x0506), (4, d.rd SYSCTL_DECKID_DECK_ID), (4, d.rd SYSCTL_DECKVER_DECK_VER)]
    else d) s

/-! ### Qualification and loss (R98 to R105, R783) -/

/-- SOURCE_QUALIFY (R98, R99, R783): the source meets its condition; `phErr` is the phase error in ns that stands then. A
line cycle's error is the one measured at its last crossing (R96). -/
def execSourceQualify (phErr : Int) (s : State) : Host.Outcome State Fault Refusal :=
  onDev (fun d =>
    let st := d.rd BEAT_STAT_STATE
    if !d.trdRuns ∨ st = 1 ∨ !d.sourceReady then d
    else
      let src := d.rd BEAT_CFG_SOURCE
      let e := if src = 4 then toSigned 32 (d.rd BEAT_PHERR) else phErr
      if src = 5 then d.lock.trig 0x0301 []
      else if st = 2 then
        let d := d.wr BEAT_PHERR (sword e)
        if e.natAbs ≤ d.rd BEAT_STEPB_STEP_BOUND_NS then d.lock.trig 0x0301 []
        else d.setBeat { d.beat with stepPending := true }
      else d.setBeat { d.beat with alignPending := true }) s

/-- The repeat count that an alignment or a phase step begins with: the formula of R85 for source 0, else one more
(R100). -/
def Dev.stepRep (d : Dev) (x : PickIn) : Nat :=
  if d.rd BEAT_CFG_SOURCE = 0 then x.gptp / (d.rd BEAT_PICKNS_PICK_NS * d.rd BEAT_REPLEN_REPEAT_LEN) % 2 ^ 32
  else d.rd BEAT_REPCNT + 1

/-- ALIGNMENT: the source's next pick boundary, at which a pending alignment or phase step is made; `pick` is the
number that the source gives (R100, R101, R783). -/
def execAlignment (pick : Nat) (x : PickIn) (s : State) : Host.Outcome State Fault Refusal :=
  onDev (fun d =>
    if !d.trdRuns ∨ !(d.beat.alignPending || d.beat.stepPending) then d
    else
      let d := d.finishPick
      let st := d.rd BEAT_STAT_STATE
      let d := if d.beat.stepPending then d.stepMark else d
      let d := if st = 1 then d.setBeat { d.beat with stepPending := false }
        else if st = 3 then (d.lock.wr BEAT_EVT_IDLE_OUT 1).trig 0x0304 []
        else d.lock.trig 0x0301 []
      d.beginPick pick (d.stepRep x) (d.passedBy pick) true x) s

/-- The condition under which the beat card's source is lost holds (R98): the synchronised domain and the active controller by
their blocks, the errors of a position source by its stage; no reference message within 3 periods and no crossing within 1.5
periods are times, which this command itself brings. -/
def Dev.lossHolds (d : Dev) : Bool :=
  let src := d.rd BEAT_CFG_SOURCE
  if src = 0 then d.rd SWX_GPTP_STATE != 1
  else if src = 1 then d.rdi TT_STAT_STATE (d.rd BEAT_CFG_SRC_UNIT) != 3
  else if src = 3 then decide (16 ≤ d.beat.quadErrs)
  else src == 2 || src == 4

/-- SOURCE_LOSS (R98, R99). -/
def execSourceLoss (s : State) : Host.Outcome State Fault Refusal :=
  onDev (fun d => if d.lossHolds then d.sourceLoss else d) s

/-- HOLDOVER_EXPIRY (R99, R104, R783): without effect on the idle card while an alignment or step is due, unless the source is
lost before it. `tie`: the source qualifies in the same clock cycle, and the qualification wins. -/
def execHoldoverExpiry (tie : Bool) (s : State) : Host.Outcome State Fault Refusal :=
  onDev (fun d =>
    let st := d.rd BEAT_STAT_STATE
    if !d.trdRuns ∨ !d.beat.holdRunning ∨ !(st == 0 || st == 2) then d
    else if tie ∧ d.sourceReady ∨ d.beat.alignPending ∨ d.beat.stepPending then
      (d.wr BEAT_HOLDLEFT_LEFT_MS 0).setBeat { d.beat with holdRunning := false, holdExpired := true }
    else d.beatIdle) s

/-- PHASE_STEP: the phase error measured while LOCKED on a source whose boundaries do not bring it themselves: within
STEP_BOUND_NS it is slewed, beyond it a step is due (R88, R99, R100). -/
def execPhaseStep (phErr : Int) (s : State) : Host.Outcome State Fault Refusal :=
  onDev (fun d =>
    if d.trdRuns ∧ d.rd BEAT_STAT_STATE = 1 ∧ d.rd BEAT_CFG_SOURCE ≤ 2 then
      let d := d.wr BEAT_PHERR (sword phErr)
      if d.rd BEAT_STEPB_STEP_BOUND_NS < phErr.natAbs then d.setBeat { d.beat with stepPending := true } else d
    else d) s

/-! ### The position stage (R90 to R94) -/

/-- A timing land has a record in the lands card: 2 PI_A, PI_B and PI_Z, 3 LC_ZX. A unit without one is disabled (R53). -/
def Dev.timingLand (d : Dev) (unit : Nat) : Bool := d.rdeck.lands.any fun r => r.kind == 6 && r.unit == unit

/-- A quadrature error (R91, R98): the edges before it no longer count as legal, and the 16th of a repeat loses the source. -/
def Dev.quadError (d : Dev) : Dev :=
  let d := ((d.inc BEAT_CNT1_QUAD_CNT).wr BEAT_EVT_QUAD_ERR 1).qualBreak 3
  let d := d.setBeat { d.beat with quadErrs := d.beat.quadErrs + 1 }
  if d.rd BEAT_CFG_SOURCE = 3 ∧ d.beat.quadErrs = 16 then d.sourceLoss else d

/-- The direction of a change of one level: forward is A leading B (R90). -/
def quadDir (a b a' b' : Bool) : Int :=
  if a' ≠ a then (if a' ≠ b then 1 else -1) else (if b' = a then 1 else -1)

/-- The PER_CYCLE-th net forward edge ends the pick (R85, R90). One `ns` after the pick's start, less than PICK_NS, is out of
range: the source is lost (R87, R97, R98). -/
def Dev.edgeEnd (d : Dev) (ns : Nat) (x : PickIn) : Dev :=
  let d := d.nextPick x
  if ns < d.rd BEAT_PICKNS_PICK_NS then (d.wr BEAT_EVT_RANGE 1).sourceLoss else d

/-- POSITION_EDGE: A and B take the accepted levels `a` and `b`, `gap` ns after the edge before and `ns` after the start of the
pick in progress; `index` tells that an index is accepted in the same clock cycle. Two edges less than 400 ns apart are a rate
violation. The PER_CYCLE-th net forward edge ends the pick while LOCKED (R85, R90, R91); with an index in the same cycle the
repeat ends at the index (R105). -/
def execPositionEdge (a b : Bool) (gap ns : Nat) (index : Bool) (x : PickIn) (s : State) : Host.Outcome State Fault Refusal :=
  onDev (fun d =>
    if !d.timingLand 2 ∨ (a = d.beat.posA ∧ b = d.beat.posB) then d
    else
      let was := d.beat
      let d := d.setBeat { d.beat with posA := a, posB := b }
      let d := if gap < 400 then d.quadError else d
      if a ≠ was.posA ∧ b ≠ was.posB then d.quadError
      else
        let n := quadDir was.posA was.posB a b
        let d := d.wr BEAT_POSCNT ((d.rd BEAT_POSCNT + (if n = 1 then 1 else 2 ^ 32 - 1)) % 2 ^ 32)
        let d := if gap < 400 then d else d.qualRef 3
        let d := d.setBeat { d.beat with netEdges := d.beat.netEdges + n }
        if d.trdRuns ∧ d.lockedOn 3 ∧ !d.beat.indexPending ∧ (d.rd BEAT_CFG_PER_CYCLE : Int) ≤ d.beat.netEdges then
          if index ∧ a ∧ b then (d.setBeat { d.beat with netEdges := 0, stepPending := false, indexOk := true }).indexEnd x
          else d.edgeEnd ns x
        else d) s

/-- INDEX_ACCEPTED: a rising edge of PI_Z, `ns` after the start of the pick in progress; it is accepted while A and B are both
1. The edge count starts again at the index edge. In pick 0 that is all; in another pick the pick ends, at once or when
BEAT_MINPICK has passed (R92, R93, R105). -/
def execIndexAccepted (ns : Nat) (x : PickIn) (s : State) : Host.Outcome State Fault Refusal :=
  onDev (fun d =>
    if d.rd BEAT_CFG_SOURCE = 3 ∧ d.timingLand 2 ∧ d.beat.posA ∧ d.beat.posB then
      let d := d.setBeat { d.beat with indexOk := true }
      if d.trdRuns ∧ d.rd BEAT_STAT_STATE = 1 then
        let d := d.setBeat { d.beat with netEdges := 0, stepPending := false }
        if d.rd BEAT_PICK = 0 ∧ d.rd BEAT_REPLEN_REPEAT_LEN ≠ 1 then d.setBeat { d.beat with indexSeen := true }
        else if ns < d.rd BEAT_MINPICK_MIN_NS then d.setBeat { d.beat with indexPending := true }
        else d.indexEnd x
      else d
    else d) s

/-! ### The line-cycle stage (R95 to R97) -/

/-- A line period is out of range (R97). -/
def Dev.lineOutOfRange (d : Dev) (t : Nat) : Bool :=
  decide (70 * t < 1000000000) || decide (1000000000 < 40 * t) ||
    decide (t < d.rd BEAT_CFG_PER_CYCLE * d.rd BEAT_PICKNS_PICK_NS)

/-- The phase error at a crossing `x` ns after the start of the line cycle in progress, whose predicted length is `l`:
against the nearer predicted start, exactly half a period counting as a lag (R96). -/
def lineError (l x : Nat) : Int := if l ≤ 2 * x then (l : Int) - x else -(x : Int)

/-- A line period lies within 2 % of the one before (R98). -/
def lineSteady (l t : Nat) : Bool := decide (98 * l ≤ 100 * t) && decide (100 * t ≤ 102 * l)

/-- ZERO_CROSSING: a crossing `t` ns after the one before, `x` ns after the predicted start of the line cycle in progress. The
period sets the next cycle's picks and counts towards qualification; the phase error is slewed, or while LOCKED beyond
STEP_BOUND_NS a step is due; a period out of range loses the source (R95 to R98). -/
def execZeroCrossing (t x : Nat) (s : State) : Host.Outcome State Fault Refusal :=
  onDev (fun d =>
    if !d.timingLand 3 then d
    else
      let l := d.rd BEAT_LINEPER_LINE_NS
      let d := d.wr BEAT_LINEPER_LINE_NS t
      if d.rd BEAT_CFG_SOURCE ≠ 4 then d
      else if d.lineOutOfRange t then (d.wr BEAT_EVT_RANGE 1).sourceLoss
      else
        let q := d.quot (t * 16) (d.rd BEAT_CFG_PER_CYCLE)
        let exact := t * 16 % d.rd BEAT_CFG_PER_CYCLE = 0
        let d := (if exact then d else d.fresh).wr BEAT_PERIOD q
        let d := (if d.beat.refs = 0 ∨ lineSteady l t then d else d.qualBreak 4).qualRef 4
        let e := lineError l x
        let d := d.wr BEAT_PHERR (sword e)
        if d.trdRuns ∧ d.rd BEAT_STAT_STATE = 1 ∧ d.rd BEAT_STEPB_STEP_BOUND_NS < e.natAbs then
          d.setBeat { d.beat with stepPending := true }
        else d) s

end Sys2Proof.Machine
end

