-- ==== Sys2Proof/Machine/CheckOps.lean ====
section
/-! DEFINITION. The load checks of a deck, first part: field ranges and reserved bits of register images, the lookups that
the checks share, and the checks of the header, system, lands, beat, signals and contexts cards (R43 to R58, R64). -/

namespace Sys2Proof.Machine

/-- A check that fails gives its code. -/
def chk (bad : Bool) (code : Nat) : List Nat := if bad then [code] else []

/-- A value lies from `lo` to `hi`. -/
def within (v lo hi : Nat) : Bool := decide (lo ≤ v) && decide (v ≤ hi)

/-- The value of a field in a register word. -/
def Field.of (f : Field) (w : Nat) : Nat := w / 2 ^ f.lsb % 2 ^ f.width

/-- The bits of a register word that a field takes. -/
def Field.mask (f : Field) : Nat := (2 ^ f.width - 1) * 2 ^ f.lsb

/-- A register image has no bit outside the deck-written fields of its register: the others are reserved (R14, R64). -/
def imageClear (addr w : Nat) : Bool :=
  let m := (regFields addr 0).foldl (fun m p => if p.1.acc = .rwl then m ||| p.1.mask else m) 0
  (w &&& m) == w

/-- Fields of a word within their ranges. -/
def inRanges (w : Nat) (l : List (Field × Nat × Nat)) : Bool := l.all fun r => within (r.1.of w) r.2.1 r.2.2

/-- No two elements of a list are equal. -/
def distinct {α : Type} [DecidableEq α] (l : List α) : Bool := decide l.Nodup

/-- The number of set bits of a mask of `n` bits. -/
def popcount (n v : Nat) : Nat := ((List.range n).filter fun k => v.testBit k).length

/-- The largest element of a list of numbers, 0 for the empty list. -/
def maxOf (l : List Nat) : Nat := l.foldl max 0

/-- A window of WIN units of WUNIT in ms (R290, R378, R405). -/
def windowMs (unit win : Nat) : Nat := win * (if unit = 0 then 1 else if unit = 1 then 100 else 10000)

/-- A window from 1 ms to 24 h with a used unit (R266, R378, R405). -/
def windowOk (unit win : Nat) : Bool := decide (unit ≤ 2) && within (windowMs unit win) 1 86400000

/-! ### What a deck declares -/

def Deck.sig? (k : Deck) (n : Nat) : Option SigRec := k.signals.find? fun r => r.signal == n

def Deck.ctx? (k : Deck) (c : Nat) : Option CtxRec := k.contexts.find? fun r => r.ctx == c

/-- A declared context. -/
def Deck.hasCtx (k : Deck) (c : Nat) : Bool := (k.ctx? c).isSome

/-- An owner field: 0xFFFF or a declared context. -/
def Deck.ownerOk (k : Deck) (c : Nat) : Bool := c == 0xFFFF || k.hasCtx c

/-- A record of the lands card. -/
def Deck.land (k : Deck) (kind unit : Nat) : Bool := k.lands.any fun r => r.kind == kind && r.unit == unit

/-- A CAN controller that runs (R340). -/
def Deck.canRuns (k : Deck) (c : Nat) : Bool := k.has 8 c && k.canJoined c

/-- The channels of a time-triggered controller that the lands card connects: bit 0 A, bit 1 B. -/
def Deck.ttChannels (k : Deck) (t : Nat) : Nat := b2n (k.land 2 (2 * t)) + 2 * b2n (k.land 2 (2 * t + 1))

/-- A port among E0 to E21 that the lands card connects. -/
def Deck.portLands (k : Deck) (p : Nat) : Bool :=
  if p < 6 then k.land 5 p else if p < 14 then k.land 4 (p - 6) else decide (p < 22) && k.land 3 (p - 14)

/-- The words of a channel's record; none without one. -/
def Deck.chanRec (k : Deck) (m : Nat) : Option BankRec := (k.bankRecs (m / 16)).find? fun r => r.index == m % 16

def BankRec.word (r : BankRec) (n : Nat) : Nat := r.words.getD n 0

/-- The owner that a channel's record names; 0xFFFF without a record. -/
def Deck.chanOwner (k : Deck) (m : Nat) : Nat :=
  match k.chanRec m with
  | some r => CH_OWNER.of (r.word 7)
  | none => 0xFFFF

/-- A used channel (R248). -/
def Deck.chanUsed (k : Deck) (m : Nat) : Bool := k.chanOwner m != 0xFFFF

/-- A record of the switch card. -/
def Deck.swxRec (k : Deck) (kind index : Nat) : Option ImgRec := k.switchRecs.find? fun r => r.kind == kind && r.index == index

/-- The records of a kind in the switch card. -/
def Deck.swxKind (k : Deck) (kind : Nat) : List ImgRec := k.switchRecs.filter fun r => r.kind == kind

/-- A port whose gate list is under Treadle control (R430). -/
def Deck.gatePort (k : Deck) (p : Nat) : Bool :=
  match k.swxRec 1 p with
  | some r => SWXP_CFG1_GSRC.of r.w1 == 2 && decide (p < 22)
  | none => false

/-- A record of a CAN card. -/
def Deck.canRec (k : Deck) (c kind index : Nat) : Option ImgRec :=
  (k.canRecs c).find? fun r => r.kind == kind && r.index == index

/-- A buffer's record of a time-triggered card. -/
def Deck.ttRec (k : Deck) (o : Nat) : Option ImgRec :=
  (k.ttRecs ((o - 0x1000) / 256)).find? fun r => r.index == (o - 0x1000) % 256

/-- An outbound window's record. -/
def Deck.winRec (k : Deck) (w : Nat) : Option ImgRec := k.bridgeRecs.find? fun r => r.kind == 1 && r.index == w

/-! ### Cards' framing and general fields -/

/-- The type of card that a body is (R48). -/
def CardBody.type : CardBody → Nat
  | .system .. => 1
  | .lands .. => 2
  | .beat .. => 3
  | .table .. => 4
  | .signals .. => 5
  | .contexts .. => 6
  | .bank .. => 7
  | .can .. => 8
  | .tt .. => 9
  | .switch .. => 10
  | .bridge .. => 11
  | .sleep .. => 12
  | .recorder .. => 13
  | .security .. => 14
  | .inventory .. => 15
  | .idle .. => 16
  | .unknown => 0

/-- The records of a body. -/
def CardBody.count : CardBody → Nat
  | .system .. => 0
  | .lands r => r.length
  | .beat _ _ _ _ _ _ _ r => r.length
  | .table _ _ _ r => r.length
  | .signals _ r => r.length
  | .contexts _ r => r.length
  | .bank _ _ _ r => r.length
  | .can _ _ _ _ _ _ r => r.length
  | .tt _ _ _ _ r => r.length
  | .switch _ _ r => r.length
  | .bridge _ r => r.length
  | .sleep _ _ r => r.length
  | .recorder _ r => r.length
  | .security _ _ r => r.length
  | .inventory r => r.length
  | .idle r => r.length
  | .unknown => 0

/-- The largest INST of a card type (R45). -/
def maxInst (type : Nat) : Nat := if type = 7 then 3 else if type = 8 then 25 else if type = 9 then 1 else 0

/-- A card's header agrees with its directory entry and its body (R47). -/
def Card.framed (c : Card) : Bool :=
  c.hType == c.type && c.hCfmt == c.cfmt && c.hInst == c.inst &&
    c.length == 16 + c.fixedLen + c.recordCount * c.recordSize && c.recordCount == c.body.count &&
    (c.body.type == c.type || decide (16 < c.type) || c.type == 0)

/-- Header fields out of range or not zero (R43): those of the deck or card set as it was received. A received item with
STORED set passes: no rule gives a code for it (log entry 55). -/
def DeckHeader.checkRanges (h : DeckHeader) : List Nat :=
  chk (!within h.cardCount 1 512 || decide (8 ≤ h.partMask) || decide (8 ≤ h.flags) || h.deckId == 0 ||
    h.zero17 != 0 || h.zero1A != 0 || h.zero4C != 0 ||
    (!h.flags.testBit 0 && (h.baseId != 0 || h.baseVer != 0))) 0x0401

/-- Each card's instance, sizes and zero bytes (R45, R51 to R61). A FIXED_LEN or RECORD_SIZE that is not that of the card's
type counts as a field out of its range, as the rules name no code of its own for it (log entry 55). -/
def Deck.checkGeneral (k : Deck) : List Nat :=
  k.cards.flatMap fun c =>
    chk (decide (maxInst c.type < c.inst) || !c.reservedZero || c.fixedLen != (cardSizes c.type).1 ||
      (c.recordCount != 0 && c.recordSize != (cardSizes c.type).2)) 0x0401

/-! ### System card (R51, R52) -/

/-- One mask of active harts: four of five bits, with bit 0 for the pairs. Once a substitution stands in the repair record
the masks are checked for nothing more; the check is the same (R52). -/
def Deck.checkSystem (k : Deck) : List Nat :=
  let s := k.sys
  chk (decide (1 < s.clkMode) || decide (32 ≤ s.appMask) || popcount 5 s.appMask != 4 || decide (32 ≤ s.rtMask) ||
    popcount 5 s.rtMask != 4 || !s.rtMask.testBit 0 || decide (16 ≤ s.bankMask) || !within s.mgmtVlan 1 4094 ||
    decide (0x10000 ≤ s.nodeNum) || !within s.confirmS 30 600) 0x0401

/-! ### Lands card (R53) -/

/-- A lands record within the table of R53. -/
def LandRec.ok (r : LandRec) : Bool :=
  if r.kind = 1 then decide (r.unit ≤ 23) && decide (r.func ≤ 25) && decide (r.opt ≤ 1)
  else if r.kind = 2 then decide (r.unit ≤ 3) && r.func == 0 && r.opt == 0
  else if r.kind = 3 then decide (r.unit ≤ 7) && decide (r.func ≤ 255) && decide (r.opt ≤ 1)
  else if r.kind = 4 then decide (r.unit ≤ 7) && r.func == 0 && decide (r.opt ≤ 1)
  else if r.kind = 5 then
    r.opt == 0 && (if r.unit ≤ 1 then r.func == 1 else decide (r.unit ≤ 5) && (r.func == 2 || r.func == 3))
  else r.kind == 6 && decide (r.unit ≤ 3) && r.func == 0 && r.opt == 0

/-- A unit used twice, or two transceivers on one controller (R64). -/
def Deck.checkLands (k : Deck) : List Nat :=
  chk (k.lands.any fun r => !r.ok) 0x0401 ++
  chk (!distinct (k.lands.map fun r => (r.kind, r.unit)) ||
    !distinct ((k.lands.filter fun r => r.kind == 1).map fun r => r.func)) 0x0402

/-! ### Beat card (R54, R86 to R89, R108 to R115) -/

/-- The wetting current of WET_I in mA (R109). -/
def wetMa (i : Nat) : Nat := [1, 2, 5, 10, 15, 20].getD i 0

/-- An input line's own fields (R54, R109, R111, R113, R115). -/
def BeatRec.ok (r : BeatRec) : Bool :=
  let hi := r.thresh / 256
  let lo := r.thresh % 256
  decide (r.debounce ≤ 255) && decide (r.thresh < 65536) && decide (r.mode < 256) &&
    (if r.kind = 0 then
      decide (r.index ≤ 31) && bits r.mode 1 0 != 3 && decide (bits r.mode 4 2 ≤ 5) && bits r.mode 7 6 == 0 &&
        decide (2 ≤ lo) && decide (hi ≤ 180) && decide (lo + 2 ≤ hi)
    else if r.kind = 1 then decide (r.index ≤ 15) && bits r.mode 1 0 != 3 && bits r.mode 7 3 == 0
    else r.kind == 2 && decide (r.index ≤ 7) && bits r.mode 7 2 == 0 && r.thresh == 0)

/-- The event source of an input line (R108, R517). -/
def BeatRec.source (r : BeatRec) : Nat := (if r.kind = 0 then 308 else if r.kind = 1 then 340 else 356) + r.index

/-- The length of a time-triggered cycle in ns (R386). -/
def ttCycleNs (cycle : Nat) : Nat := TT_CYCLE_MACROS.of cycle * TT_CYCLE_UPM.of cycle * 25

/-- The rules of one pick source (R54, R86, R89, R354). -/
def Deck.checkSource (k : Deck) (source unit perCycle repeatLen pickNs : Nat) : List Nat :=
  chk (decide (5 < source) || (source != 1 && source != 2 && unit != 0) || (source == 1 && decide (1 < unit)) ||
    (source == 2 && decide (25 < unit)) || (source != 3 && source != 4 && perCycle != 0) ||
    (source == 3 && !within perCycle 1 65535) ||
    (source == 4 && (!within perCycle 1 4096 || repeatLen % perCycle != 0 || !within (repeatLen / perCycle) 1 64))) 0x0401 ++
  (if source = 1 then
    match k.body 9 unit with
    | some (.tt cycle _ _ _ _) =>
      let n := ttCycleNs cycle
      chk (n == 0 || repeatLen * pickNs % n != 0 || !([1, 2, 4, 8, 16, 32, 64].contains (repeatLen * pickNs / n))) 0x0401
    | _ => [0x0403]
  else if source = 2 then
    chk (!k.canRuns unit) 0x0403 ++
    (match k.canRec unit 1 0 with
    | some r => chk (CAN_FMATCH_EN.of r.w0 == 0 || CAN_FMATCH_Q.of r.w0 != 0) 0x0406
    | none => [0x0406])
  else if source = 3 then chk (!k.land 6 2) 0x0403
  else if source = 4 then chk (!k.land 6 3) 0x0403
  else [])

def Deck.checkBeat (k : Deck) : List Nat :=
  match k.body 3 0 with
  | some (.beat source unit perCycle repeatLen pickNs holdMs stepB recs) =>
    chk (!within repeatLen 1 65536 || decide (pickNs < 5000) || decide (2 ^ 32 ≤ pickNs) || decide (10000 < holdMs) ||
      !within stepB 100 10000000) 0x0401 ++
    k.checkSource source unit perCycle repeatLen pickNs ++
    chk (recs.any (fun r => !r.ok) || !distinct (recs.map fun r => (r.kind, r.index))) 0x0401 ++
    chk (decide (160 < (recs.filter fun r => r.kind == 0 && bits r.mode 1 0 != 0 && !r.mode.testBit 5).foldl
      (fun t r => t + wetMa (bits r.mode 4 2)) 0)) 0x0401 ++
    recs.flatMap fun r => chk (!k.ownerOk r.owner || k.routes.getD r.source 0xFFFF != r.owner) 0x0409
  | _ => []

/-! ### Signals card (R56, R169, R180) -/

def SigRec.ok (r : SigRec) : Bool :=
  decide (r.signal ≤ 0xFFFF) && decide (r.type ≤ 0x0A) && decide (r.sflags ≤ 3) &&
    (decide (r.group ≤ 4095) || r.group == 0xFFFF) && (decide (r.writer ≤ 0x07FF) || r.writer == 0xFFFE) &&
    decide (r.ageLimit ≤ 65535) && (within r.watch 244 307 || r.watch == 0xFFFF)

def Deck.checkSignals (k : Deck) : List Nat :=
  let rs := k.signals
  let grouped := rs.filter fun r => r.group != 0xFFFF
  chk (decide (4096 < k.groups) || !distinct (rs.map fun r => r.signal) || (rs.any fun r => !r.ok) ||
    decide (16384 < grouped.length)) 0x0401 ++
  chk (rs.any fun r => r.writer != 0xFFFE && decide (r.writer ≤ 0x07FF) && !k.hasCtx r.writer) 0x0409 ++
  chk (grouped.any fun r => (grouped.find? fun q => q.group == r.group).any fun q => q.writer != r.writer) 0x0408

/-! ### Contexts card (R57, R205, R64) -/

def CtxRec.ok (r : CtxRec) : Bool :=
  decide (r.ctx ≤ 2047) && decide (r.cls ≤ 3) && decide (r.bind ≤ 0x43) && decide (r.bobbins ≤ 16) &&
    decide (r.resetCh ≤ 1) && decide (r.depth.length ≤ 16) && r.depth.all (fun n => decide (n ≤ 0xFFFF)) &&
    (r.depth.drop r.bobbins).all fun n => n == 0

/-- The units of 64 bytes in 768 KB. -/
def depthUnits : Nat := 12288

def Deck.checkContexts (k : Deck) : List Nat :=
  let rs := k.contexts
  chk ((rs.any fun r => !r.ok) || !distinct (rs.map fun r => r.ctx)) 0x0401 ++
  chk (decide (depthUnits < rs.foldl (fun t r => t + r.depth.foldl (· + ·) 0) 0)) 0x040A ++
  chk (k.routes.any fun c => !k.ownerOk c) 0x0409 ++
  chk ((List.range 64).any fun m =>
    let r := k.routes.getD m 0xFFFF
    r != 0xFFFF && r != k.chanOwner m) 0x0409 ++
  chk ((List.range 64).any fun w =>
    let r := k.routes.getD (164 + w) 0xFFFF
    r != 0xFFFF && (match k.winRec w with | some x => r != x.owner | none => true)) 0x0409 ++
  chk (k.inventory.any fun p =>
    let r := k.routes.getD 377 0xFFFF
    p.owner != 0xFFFF && r != 0xFFFF && r != p.owner) 0x0409

end Sys2Proof.Machine
end

