-- ==== Sys2Proof/Machine/CheckTable.lean ====
section
/-! DEFINITION. The load checks of a deck, second part: the table card with its entries, the idle card, the inventory card
and the bank cards (R55, R58, R60, R62, R124 to R135, R146, R178, R271, R289 to R291, R303, R333, R781). -/

namespace Sys2Proof.Machine

/-! ### Objects that entries name (R129, R351, R392, R418, R421) -/

/-- The payload length in bytes of a receive object, if the deck declares it. -/
def Deck.rxCap (k : Deck) (o : Nat) : Option Nat :=
  if o < 0x1000 then
    match k.canRec (o / 128) 1 (o % 128) with
    | some r =>
      if CAN_FMATCH_EN.of r.w0 = 1 ∧ CAN_FMATCH_Q.of r.w0 = 0 then
        some (if ((8 ≤ o / 128 ∧ o / 128 ≤ 15) ∨ 24 ≤ o / 128) ∧ o % 128 < 4 then 2052 else 64)
      else none
    | none => none
  else if o < 0x2000 then
    match k.ttRec o with
    | some r =>
      if TT_BUFCFG_KIND.of r.w0 = 2 ∨ TT_BUFCFG_KIND.of r.w0 = 4 then some (2 * TT_BUFCFG_PLEN.of r.w0) else none
    | none => none
  else if (k.swxKind 4).any fun r => SWX_SF_ACTION_TOOBJ.of r.w2 == 1 && r.w2 % 1024 == o - 0x2000 then some 1500 else none

/-- The payload length in bytes of a transmit object, if the deck declares it (R359, R421). -/
def Deck.txCap (k : Deck) (o : Nat) : Option Nat :=
  if o < 0x1000 then
    match k.canRec (o / 32) 2 (o % 32) with
    | some r =>
      let f := canForm (CAN_TXCFG_FORM.of r.w0)
      some (if f = 0 then 8 else if f = 1 then 64 else 4 + (if o % 32 < 4 then 2048 else 64))
    | none => none
  else if o < 0x2000 then
    match k.ttRec o with
    | some r =>
      if TT_BUFCFG_KIND.of r.w0 = 1 ∨ TT_BUFCFG_KIND.of r.w0 = 3 then some (2 * TT_BUFCFG_PLEN.of r.w0) else none
    | none => none
  else
    match (k.swxKind 8).find? fun r => SWX_RS_OUT_OBJ.of r.w2 != 0x3FF && SWX_RS_OUT_OBJ.of r.w2 == o - 0x2000 with
    | some r => some (SWX_RS_OUT_LEN.of r.w2)
    | none => none

/-- Index spaces of R129. -/
def rxSpace (o : Nat) : Bool := decide (o ≤ 0x0CFF) || within o 0x1000 0x11FF || within o 0x2000 0x23FF
def txSpace (o : Nat) : Bool := decide (o ≤ 0x033F) || within o 0x1000 0x11FF || within o 0x2000 0x23FF
def sampleSpace (s : Nat) : Bool := decide (s ≤ 0x00CB) || within s 0x0100 0x0137 || within s 0x0140 0x0142

/-- The TYPE of a sample source's value (R107, R276, R302). -/
def sampleType (s : Nat) : Nat :=
  if s < 0x80 then 2 else if s < 0xC4 then 3 else if s < 0x130 then 2 else if s < 0x138 then 0
  else if s = 0x141 then 4 else 5

/-- The deck declares a sample source: a channel of a declared bank, a declared bank, a declared input line, or a beat
quantity. -/
def Deck.sampleOk (k : Deck) (s : Nat) : Bool :=
  if s < 0xC0 then (k.chanRec (s % 64)).isSome
  else if s < 0xCC then k.has 7 (s % 4)
  else if s < 0x120 then k.lines.any fun r => r.kind == 0 && r.index == s - 0x100
  else if s < 0x130 then k.lines.any fun r => r.kind == 1 && r.index == s - 0x120
  else if s < 0x138 then k.lines.any fun r => r.kind == 2 && r.index == s - 0x130
  else true

/-! ### One entry (R126 to R135) -/

/-- The operations of R130 that read a signal, and those that write one. -/
def opReads (op : Nat) : Bool := [0x08, 0x09, 0x0A, 0x0B, 0x10, 0x11, 0x12].contains op
def opWrites (op : Nat) : Bool := [0x01, 0x02, 0x03, 0x08, 0x09, 0x0A, 0x0B].contains op

/-- The operations that R130 lists, and where it allows FRESH and SUBST. -/
def opKnown (op : Nat) : Bool := [0x00, 0x01, 0x02, 0x03, 0x08, 0x09, 0x0A, 0x0B, 0x10, 0x11, 0x12, 0x13, 0x14, 0x18].contains op
def opFresh (op : Nat) : Bool := [0x01, 0x08, 0x09, 0x0B, 0x10, 0x11, 0x12].contains op
def opSubst (op : Nat) : Bool := [0x08, 0x09, 0x0A, 0x0B, 0x10, 0x11, 0x12].contains op

/-- A frame field fits the object's payload and the signal's type (R131). -/
def fieldFits (arg cap type : Nat) : Bool :=
  let f := fieldArg arg
  arg / 2 ^ 25 == 0 && within f.width 1 64 && (!f.order || (f.start % 8 == 0 && f.width % 8 == 0)) &&
    decide (f.width ≤ typeWidth type) && (type != 8 || f.width == 32) && (type != 9 || f.width == 64) &&
    (typeInt type || !f.signed) && decide (f.start + f.width ≤ 8 * cap)

/-- A source signal of an entry: declared, and allowing substitution where the entry does (R128). -/
def Deck.checkSrc (k : Deck) (n : Nat) (subst : Bool) : List Nat :=
  match k.sig? n with
  | some r => chk (subst && !r.sflags.testBit 0) 0x0401
  | none => [0x0406]

/-- A destination signal: declared and written by the Treadle (R178). -/
def Deck.checkDst (k : Deck) (n : Nat) : List Nat :=
  match k.sig? n with
  | some r => chk (r.writer != 0xFFFE) 0x0408
  | none => [0x0406]

/-- A test on the type of a declared signal. -/
def Deck.typeIs (k : Deck) (n : Nat) (p : Nat → Bool) : Bool :=
  match k.sig? n with
  | some r => p r.type
  | none => true

/-- The channel of a DRIVE or PWMSET: used, and a lead (R248, R272). -/
def Deck.checkChannel (k : Deck) (m : Nat) : List Nat :=
  if 63 < m then [0x0401]
  else match k.chanRec m with
    | some r => chk (CH_OWNER.of (r.word 7) == 0xFFFF || CH_CFG_LEAD.of (r.word 0) != m % 16) 0x0406
    | none => [0x0406]

/-- The shortest and longest PERIOD of a channel (R133). -/
def periodOk (m p : Nat) : Bool := within p (if m % 16 < 2 then 5000 else 400) 10000000

/-- The checks of one operation's fields (R129 to R135). -/
def Deck.checkOp (k : Deck) (pickNs : Nat) (e : Entry) : List Nat :=
  let sub := e.flg.testBit 1
  match e.op with
  | 0x00 => chk (e.dst != 0xFFFF || e.arg != 0) 0x0401
  | 0x01 =>
    k.checkDst e.dst ++
    (if !rxSpace e.src then [0x0401]
    else match k.rxCap e.src with
      | some c => chk (!k.typeIs e.dst (fieldFits e.arg c)) 0x0401
      | none => [0x0406])
  | 0x02 =>
    k.checkDst e.dst ++ chk (e.arg != 0) 0x0401 ++
    (if !sampleSpace e.src then [0x0401]
    else chk (!k.sampleOk e.src) 0x0406 ++ chk (!k.typeIs e.dst (fun t => t == sampleType e.src)) 0x0401)
  | 0x03 =>
    k.checkDst e.dst ++ chk (decide (2 < e.arg) || !k.typeIs e.dst (fun t => t == if e.arg = 0 then 4 else 6)) 0x0401
  | 0x08 =>
    k.checkSrc e.src sub ++ k.checkDst e.dst ++
    chk (e.arg != 0 || !k.typeIs e.src (fun t => k.typeIs e.dst fun u => t == u)) 0x0401
  | 0x09 =>
    k.checkSrc e.src sub ++ k.checkDst e.dst ++
    chk (e.arg.testBit 0 || !k.typeIs e.src (fun t => t != 10) || !k.typeIs e.dst (fun t => t != 10)) 0x0401
  | 0x0A =>
    let w := bits e.arg 6 0
    let n := bits e.arg 13 7
    if e.arg / 2 ^ 14 ≠ 0 ∨ !within w 1 32 ∨ !within n 2 64 ∨ 64 < n * w ∨ 0xFFFF < e.src + n - 1 then [0x0401]
    else
      k.checkDst e.dst ++ chk (!k.typeIs e.dst (fun t => decide (n * w ≤ typeWidth t))) 0x0401 ++
      (List.range n).flatMap fun i => k.checkSrc (e.src + i) sub
  | 0x0B =>
    k.checkSrc e.src sub ++ k.checkDst e.dst ++
    chk (e.arg / 2 ^ 14 != 0 || bits e.arg 12 6 == 0 || decide (64 < bits e.arg 5 0 + bits e.arg 12 6)) 0x0401
  | 0x10 =>
    k.checkSrc e.src sub ++
    (if !txSpace e.dst then [0x0401]
    else match k.txCap e.dst with
      | some c => chk (!k.typeIs e.src (fieldFits e.arg c)) 0x0401
      | none => [0x0406])
  | 0x11 =>
    k.checkSrc e.src sub ++ chk (!k.typeIs e.src typeInt || e.arg != 0) 0x0401 ++ k.checkChannel e.dst
  | 0x12 =>
    k.checkSrc e.src sub ++ k.checkChannel e.dst ++
    chk (!k.typeIs e.src typeInt || e.arg / 2 ^ 57 != 0 || !periodOk e.dst (bits e.arg 31 0) ||
      (if e.arg.testBit 32 then decide (pickNs ≤ 100 * bits e.arg 56 33) else bits e.arg 56 33 != 0)) 0x0401
  | 0x13 =>
    if 26 < e.dst ∨ 255 < e.arg then [0x0401] else chk (!k.gatePort e.dst) 0x0406
  | 0x14 =>
    if 0x1FFF < e.dst ∨ !txSpace e.dst ∨ e.arg ≠ 0 then [0x0401]
    else
      chk ((k.txCap e.dst).isNone || (decide (0x1000 ≤ e.dst) &&
        (match k.ttRec e.dst with | some r => TT_BUFCFG_KIND.of r.w0 != 3 | none => true))) 0x0406
  | 0x18 => chk (decide (7 < e.dst) || decide (2 ^ 32 ≤ e.arg)) 0x0401
  | _ => [0x0405]

/-- One entry (R127, R128). -/
def Deck.checkEntry (k : Deck) (pickNs : Nat) (e : Entry) : List Nat :=
  chk (decide (16 ≤ e.flg) || decide (3 < e.cls)) 0x0401 ++
  chk (opKnown e.op && ((e.flg.testBit 0 && !opFresh e.op) || (e.flg.testBit 1 && !opSubst e.op))) 0x0401 ++
  chk ([0x00, 0x03, 0x13, 0x14, 0x18].contains e.op && e.src != 0xFFFF) 0x0401 ++ k.checkOp pickNs e

/-! ### Table card (R55, R124, R146, R178, R781) -/

/-- Entries sorted by PICK, each below the repeat length, and within a pick the weft lane first (R55, R124). -/
def entriesOrdered (repeatLen : Nat) : Nat → Bool → List Entry → Bool
  | _, _, [] => true
  | p, warp, e :: rest =>
    decide (e.pick < repeatLen) && decide (p ≤ e.pick) && (e.op.testBit 4 || !(warp && e.pick == p)) &&
      entriesOrdered repeatLen e.pick (e.op.testBit 4 || (warp && e.pick == p)) rest

/-- How many entries of a sorted list each pick holds. -/
def pickCounts : List Entry → List Nat
  | [] => []
  | e :: rest =>
    match rest, pickCounts rest with
    | f :: _, n :: ns => if f.pick = e.pick then (n + 1) :: ns else 1 :: n :: ns
    | _, ns => 1 :: ns

/-- The entries that write a Treadle-written signal are one writer (R178). -/
def Deck.writerOk (k : Deck) (r : SigRec) : Bool :=
  match k.entries.filter fun e => opWrites e.op && e.dst == r.signal with
  | [] => false
  | e :: es => (es.all fun f => f.op == e.op && f.src == e.src && f.arg == e.arg) && distinct ((e :: es).map fun f => f.pick)

/-- BEAT_MINPICK as the beat card sets it (R88). -/
def minPick (pickNs : Nat) : Nat := max 5000 (pickNs - pickNs / 1024)

def Deck.checkTable (k : Deck) : List Nat :=
  match k.body 4 0, k.body 3 0 with
  | some (.table repeatLen count maxPick es), some (.beat _ _ _ beatLen pickNs _ _ _) =>
    let ns := pickCounts es
    chk (repeatLen != beatLen || !entriesOrdered repeatLen 0 false es || count != es.length) 0x0404 ++
    chk (decide (65536 < es.length) || maxPick != maxOf ns) 0x0401 ++
    chk (ns.any fun n => decide (pickNs < n + 64)) 0x0407 ++
    chk ((pickCounts (es.filter fun e => e.cls == 0)).any fun n => decide (minPick pickNs < n + 64)) 0x040B ++
    es.flatMap (k.checkEntry pickNs) ++
    chk ((k.signals.filter fun r => r.writer == 0xFFFE).any fun r => !k.writerOk r) 0x0408
  | _, _ => []

/-! ### Idle card (R62, R123, R153) -/

/-- A record's value within R153, for a target inside its space. -/
def IdleRec.ok (r : IdleRec) : Bool :=
  if r.kind = 1 then decide (r.target ≤ 63) && decide (r.value < 2 ^ 16)
  else if r.kind = 2 then decide (r.target ≤ 63) && decide (r.value < 2 ^ 48) && periodOk r.target (bits r.value 47 16)
  else if r.kind = 3 then decide (r.target ≤ 26) && decide (r.value < 256)
  else r.kind == 4 && txSpace r.target && decide (r.value ≤ 1)

/-- The deck declares the target (R62). -/
def Deck.idleTarget (k : Deck) (r : IdleRec) : Bool :=
  if r.kind = 1 ∨ r.kind = 2 then k.chanUsed r.target
  else if r.kind = 3 then k.gatePort r.target
  else (k.txCap r.target).isSome

/-- The idle record kind of a warp operation (R61, R62). -/
def idleKind (op : Nat) : Nat :=
  if op = 0x11 then 1 else if op = 0x12 then 2 else if op = 0x13 then 3 else if op = 0x10 ∨ op = 0x14 then 4 else 0

def Deck.checkIdle (k : Deck) : List Nat :=
  let rs := k.idle
  let ts := rs.map fun r => (r.kind, r.target)
  chk (decide (8192 < rs.length) || rs.any fun r => !r.ok) 0x0401 ++
  chk (rs.any fun r => r.ok && !k.idleTarget r) 0x0406 ++
  chk (!distinct ts || k.entries.any fun e => idleKind e.op != 0 && !ts.contains (idleKind e.op, e.dst)) 0x040C

/-! ### Inventory card (R60) -/

def InvRec.ok (r : InvRec) : Bool :=
  decide (r.partner ≤ 4095) && within r.kind 1 5 && within r.discoverMs 10 60000 && within r.lossMs 10 60000 &&
    decide (r.cls ≤ 3)

/-- The unit that a partner's record names runs (R60). -/
def Deck.invUnit (k : Deck) (r : InvRec) : Bool :=
  if r.kind = 1 then k.canRuns r.unit
  else if r.kind = 2 then k.has 9 r.unit
  else if r.kind = 3 then k.portLands r.unit
  else if r.kind = 4 then (k.winRec r.unit).isSome
  else k.land 5 r.unit

def Deck.checkInventory (k : Deck) : List Nat :=
  let rs := k.inventory
  chk ((rs.any fun r => !r.ok) || !distinct (rs.map fun r => r.partner)) 0x0401 ++
  chk (rs.any fun r => r.ok && !k.invUnit r) 0x0406 ++
  chk (rs.any fun r => !k.ownerOk r.owner) 0x0409

/-! ### Bank cards (R50, R58, R271, R289 to R291, R303, R333, R781) -/

/-- The class of a channel by its bank index (R240). -/
def classOf (i : Nat) : Nat := if i < 2 then 0 else if i < 8 then 1 else 2

/-- The ranges of a channel's register words; the limits depend on its class (R289 to R291). -/
def BankRec.ok (r : BankRec) : Bool :=
  let c := classOf r.index
  let lim := CH_LIM_LIMIT.of (r.word 1)
  let base := CH_CFG_LEAD.base
  (List.range 8).all (fun n => n = 0 || imageClear (base + 4 * n) (r.word n)) && decide (r.index ≤ 15) && r.words.length == 8 &&
    imageClear base (r.word 0 / 4 * 4) && (r.word 0 % 4 == 0 || r.word 0 % 4 == c) &&
    inRanges (r.word 0) [(CH_CFG_SENSE, 0, 1), (CH_CFG_OLMODE, 0, 2), (CH_CFG_OLFILT, 1, 255)] &&
    inRanges (r.word 1) [(CH_LIM_DWELL, 1, 1000),
      (CH_LIM_LIMIT, [200, 60, 20].getD c 0, [600, 250, 90].getD c 0)] &&
    inRanges (r.word 2) [(CH_INRUSH_WIN, 0, [2000, 1000, 500].getD c 0), (CH_INRUSH_ILIM, lim, [1200, 600, 240].getD c 0)] &&
    inRanges (r.word 3) [(CH_WIRE_TAU, 5, 10000)] &&
    inRanges (r.word 4) [(CH_THERM_HYST, 5, 30), (CH_THERM_DTMAX, 20, 80)] &&
    inRanges (r.word 5) [(CH_FAULT_THRESH, 1, 255)] && windowOk (CH_FAULT_WUNIT.of (r.word 5)) (CH_FAULT_WIN.of (r.word 5)) &&
    inRanges (r.word 6) [(CH_FAIL_FSTATE, 0, 2), (CH_FAIL_HOLDMS, 0, 2000)] &&
    (decide (r.word 7 ≤ 2047) || r.word 7 == 0xFFFF)

/-- The pin capacity of a class in 0.05 A (R240). -/
def pinCapacity (c : Nat) : Nat := [960, 320, 160].getD c 0

/-- The members of a lead's group. -/
def groupOf (recs : List BankRec) (lead : Nat) : List BankRec := recs.filter fun r => CH_CFG_LEAD.of (r.word 0) == lead

/-- A lead's group: consecutive indices of one class from the lead on, at most 4, of class H at most 2, and IRATED
within the group's pin capacity (R271, R290). -/
def groupOk (recs : List BankRec) (lead : BankRec) : Bool :=
  let ms := groupOf recs lead.index
  let n := ms.length
  decide (n ≤ 4) && (classOf lead.index != 0 || decide (n ≤ 2)) &&
    ms.all (fun r => decide (lead.index ≤ r.index) && decide (r.index < lead.index + n) &&
      classOf r.index == classOf lead.index && r.word 3 == lead.word 3 && r.word 6 == lead.word 6) &&
    within (CH_WIRE_IRATED.of (lead.word 3)) 10 (pinCapacity (classOf lead.index) * n)

def Deck.checkBank (k : Deck) (b cfg budget inrush : Nat) (recs : List BankRec) : List Nat :=
  let leads := recs.filter fun r => CH_CFG_LEAD.of (r.word 0) == r.index
  let c0 := fun (r : BankRec) => match k.ctx? (r.word 7) with | some x => x.cls == 0 | none => false
  chk (!k.sys.bankMask.testBit b) 0x0403 ++
  chk (!imageClear BANK_CFG_VCLASS.base cfg || !imageClear BANK_BUDGET_CONT.base budget ||
    !imageClear BANK_INRUSH_SPACE.base inrush ||
    !inRanges cfg [(BANK_CFG_CASEMAX, 80, 135), (BANK_CFG_PDMAX, 30, 75), (BANK_CFG_CELLPER, 0, 4), (BANK_CFG_CELLTH, 1, 15),
      (BANK_CFG_VCLASS, 0, 1)] ||
    !inRanges budget [(BANK_BUDGET_CONT, 0, 800), (BANK_BUDGET_PEAK, 0, 2000), (BANK_BUDGET_OVERMS, 1, 100)]) 0x0401 ++
  chk ((recs.any fun r => !r.ok) || !distinct (recs.map fun r => r.index) ||
    (recs.any fun r => !(leads.any fun l => l.index == CH_CFG_LEAD.of (r.word 0))) ||
    leads.any fun l => !groupOk recs l) 0x0401 ++
  chk (recs.any fun r => !k.ownerOk (r.word 7)) 0x0409 ++
  chk (leads.any fun l => (groupOf recs l.index).any fun r => r.word 7 != l.word 7) 0x0409 ++
  chk (recs.any fun r => CH_FAIL_FSTATE.of (r.word 6) == 2 && (CH_FAIL_HMARK.of (r.word 6) == 0 || !c0 r)) 0x040D ++
  chk (decide (BANK_BUDGET_CONT.of budget < (recs.filter c0).foldl (fun t r => t + CH_LIM_LIMIT.of (r.word 1)) 0)) 0x040B

end Sys2Proof.Machine
end

