-- ==== Sys2Proof/Machine/CheckBuses.lean ====
section
/-! DEFINITION. The load checks of a deck, third part: the CAN, time-triggered, switch, bridge and sleep cards (R340, R345
to R359, R371 to R383, R387, R395, R405, R406, R414, R421, R424, R430, R440, R443, R447 to R453, R457 to R459, R487, R490,
R495 to R500, R517, R518). -/

namespace Sys2Proof.Machine

/-! ### CAN cards -/

/-- The controllers with CAN XL (R339). -/
def xlCapable (c : Nat) : Bool := within c 8 15 || within c 24 25

/-- A bit time in mtq (R344). -/
def nomBit (nbt : Nat) : Nat := (CAN_NBT_BRP.of nbt + 1) * (3 + CAN_NBT_TSEG1.of nbt + CAN_NBT_TSEG2.of nbt)
def dataBit (dbt : Nat) : Nat := (CAN_DBT_BRP.of dbt + 1) * (3 + CAN_DBT_TSEG1.of dbt + CAN_DBT_TSEG2.of dbt)

/-- The nominal phase (R345, R377): 1 Mbit/s is 160 mtq. -/
def nominalOk (nbt : Nat) : Bool :=
  decide (1 ≤ CAN_NBT_TSEG1.of nbt) && decide (CAN_NBT_SJW.of nbt ≤ CAN_NBT_TSEG1.of nbt) &&
    decide (CAN_NBT_SJW.of nbt ≤ CAN_NBT_TSEG2.of nbt) && decide (8 ≤ 3 + CAN_NBT_TSEG1.of nbt + CAN_NBT_TSEG2.of nbt) &&
    decide (160 ≤ nomBit nbt)

/-- The data phase (R345 to R347): 8 Mbit/s is 20 mtq, 20 Mbit/s 8 mtq. -/
def dataOk (mode nbt dbt tdc : Nat) : Bool :=
  let fast := CAN_MODE_XLFAST.of mode == 1
  let n := dataBit dbt
  decide (CAN_DBT_SJW.of dbt ≤ CAN_DBT_TSEG1.of dbt) && decide (CAN_DBT_SJW.of dbt ≤ CAN_DBT_TSEG2.of dbt) &&
    decide (5 ≤ 3 + CAN_DBT_TSEG1.of dbt + CAN_DBT_TSEG2.of dbt) && decide ((if fast then 8 else 20) ≤ n) &&
    (CAN_MODE_BRSE.of mode == 0 || decide (n ≤ nomBit nbt)) && (decide (160 ≤ n) || CAN_TDC_TDCE.of tdc == 1) &&
    (!fast || (decide (1 ≤ CAN_TDC_PWMS.of tdc) && decide (1 ≤ CAN_TDC_PWML.of tdc) &&
      CAN_TDC_PWMS.of tdc + CAN_TDC_PWML.of tdc == n))

/-- CANn_MODE with the bit timing (R345 to R347, R371, R376, R377). -/
def canModeOk (c mode nbt dbt tdc : Nat) : Bool :=
  let fast := CAN_MODE_XLFAST.of mode == 1
  let xl := CAN_MODE_XLOE.of mode == 1
  (!xl || xlCapable c) && (!fast || xl) && (CAN_MODE_LOM.of mode == 0 || CAN_MODE_TM.of mode == 0) &&
    (fast || (CAN_TDC_PWMO.of tdc == 0 && CAN_TDC_PWML.of tdc == 0 && CAN_TDC_PWMS.of tdc == 0)) && nominalOk nbt &&
    ((CAN_MODE_FDOE.of mode == 0 && !xl) || dataOk mode nbt dbt tdc)

/-- A transmit buffer's TXCFG under the controller's mode (R345, R382). -/
def txcfgOk (mode w : Nat) : Bool :=
  let f := CAN_TXCFG_FORM.of w
  let i := CAN_TXCFG_ID.of w
  f != 7 && (!within f 2 5 || CAN_MODE_FDOE.of mode == 1) && (!within f 4 5 || CAN_MODE_BRSE.of mode == 1) &&
    (f != 6 || CAN_MODE_XLOE.of mode == 1) && (!(f == 0 || f == 2 || f == 4) || decide (i < 2 ^ 11)) &&
    (f != 6 || decide (i < 2 ^ 28))

/-- The reference message of a level-1 time master (R372): a Treadle-fed classical or FD buffer of at least 1 byte whose
byte 0 no SEND covers; its length comes from its SENDs (R359), so at least one must lie beyond byte 0. -/
def Deck.refOk (k : Deck) (c b : Nat) : Bool :=
  match k.canRec c 2 b with
  | some r =>
    decide (CAN_TXCFG_FORM.of r.w0 ≤ 5) && k.feeds (canObj c b) &&
      decide (1 ≤ (k.entries.filter fun e => e.op == 0x10 && e.dst == canObj c b).length) &&
      k.entries.all fun e => !(e.op == 0x10 && e.dst == canObj c b) || decide (8 ≤ (fieldArg e.arg).start)
  | none => false

/-- A controller's bobbin for Q1 (R355). -/
def Deck.q1Ok (k : Deck) (w : Nat) : Bool :=
  match k.ctx? (CAN_Q1OWN_CTX.of w) with
  | some r => decide (CAN_Q1OWN_BOB.of w < r.bobbins)
  | none => false

def Deck.checkCan (k : Deck) (c : Nat) : List Nat :=
  match k.body 8 c with
  | some (.can mode nbt dbt tdc q1own nopart recs) =>
    let b := CAN_MODE_LOM.base
    let q1 := CAN_Q1OWN_EN.of q1own == 1
    chk (!k.canJoined c) 0x0403 ++
    chk (!imageClear b mode || !imageClear (b + 4) nbt || !imageClear (b + 8) dbt || !imageClear (b + 12) tdc ||
      !imageClear (b + 16) q1own || !imageClear (b + 20) nopart || !canModeOk c mode nbt dbt tdc ||
      !windowOk (CAN_NOPART_WUNIT.of nopart) (CAN_NOPART_WIN.of nopart) ||
      CAN_NOPART_WUNIT.of nopart == 3) 0x0401 ++
    chk (recs.any (fun r => !(within r.kind 1 2 && decide (r.index < if r.kind = 1 then 128 else 32) &&
        (if r.kind = 1 then decide (r.w0 < 2 ^ 32) && decide (r.w1 < 2 ^ 32)
         else decide (r.w0 < 2 ^ 32) && txcfgOk mode r.w0 && r.w1 == 0))) ||
      !distinct (recs.map fun r => (r.kind, r.index)) ||
      (CAN_MODE_TM.of mode == 1 && !k.refOk c (CAN_MODE_REFBUF.of mode))) 0x0401 ++
    chk (q1 && !k.q1Ok q1own) 0x0409 ++
    recs.flatMap fun r =>
      if r.kind = 1 then
        if CAN_FMATCH_Q.of r.w0 = 1 then chk (!q1) 0x0406 ++ chk (r.owner != CAN_Q1OWN_CTX.of q1own) 0x0409
        else chk (!k.ownerOk r.owner) 0x0409
      else chk (!k.hasCtx r.owner) 0x0409
  | _ => []

/-! ### Time-triggered cards (R387, R395, R405, R406) -/

/-- The timing of the four configuration words (R387, R405). -/
def ttTimingOk (cycle slotcfg cold guard : Nat) : Bool :=
  let mt := TT_CYCLE_UPM.of cycle * 25
  let macros := TT_CYCLE_MACROS.of cycle
  let sapo := TT_SLOTCFG_SAPO.of slotcfg
  let len := TT_SLOTCFG_SLOTLEN.of slotcfg
  let f := ttFrameNs (TT_CYCLE_TSS.of cycle) (TT_SLOTCFG_PAYLOAD.of slotcfg)
  let used := TT_SLOTCFG_NSTATIC.of slotcfg * len + TT_COLD_NMINI.of cold * TT_COLD_MINILEN.of cold
  let selv := TT_GUARD_SELV.of guard * 25
  inRanges cycle [(TT_CYCLE_MACROS, 10, 16000), (TT_CYCLE_UPM, 40, 240), (TT_CYCLE_CCMAX, 7, 63), (TT_CYCLE_TSS, 3, 15)] &&
    TT_CYCLE_CCMAX.of cycle % 2 == 1 &&
    inRanges slotcfg [(TT_SLOTCFG_NSTATIC, 2, 1023), (TT_SLOTCFG_SLOTLEN, 4, 661), (TT_SLOTCFG_PAYLOAD, 0, 127),
      (TT_SLOTCFG_SAPO, 1, 31)] &&
    inRanges cold [(TT_COLD_ATTEMPTS, 2, 31), (TT_COLD_NMINI, 0, 7986), (TT_COLD_MINILEN, 2, 63), (TT_COLD_MAPO, 1, 31)] &&
    inRanges guard [(TT_GUARD_SELV, 10, 160), (TT_GUARD_THRESH, 1, 255)] &&
    windowOk (TT_GUARD_WUNIT.of guard) (TT_GUARD_WIN.of guard) && decide (macros * mt ≤ 16000000) &&
    decide (used + 2 ≤ macros) && decide (sapo * mt + f + 1100 ≤ len * mt) && decide (selv < sapo * mt) &&
    decide (sapo * mt + f + selv ≤ len * mt) && decide (TT_COLD_MAPO.of cold < TT_COLD_MINILEN.of cold) &&
    (TT_COLD_CSEN.of cold == 0 || TT_COLD_SYNCN.of cold == 1)

/-- Two admitted buffers meet in some cycle (R388): the bases agree modulo the smaller repetition. -/
def cyclesMeet (a b : Nat) : Bool :=
  let m := 2 ^ min (TT_BUFCFG_REP.of a) (TT_BUFCFG_REP.of b)
  TT_BUFCFG_BASE.of a % m == TT_BUFCFG_BASE.of b % m

/-- A transmit buffer. -/
def ttTransmits (r : ImgRec) : Bool := TT_BUFCFG_KIND.of r.w0 == 1 || TT_BUFCFG_KIND.of r.w0 == 3

/-- Two transmit buffers share a slot and a channel in some cycle (R387). -/
def ttClash : List ImgRec → Bool
  | [] => false
  | r :: rest =>
    (ttTransmits r && rest.any fun q => ttTransmits q && q.owner == r.owner && (q.kind &&& r.kind) != 0 && cyclesMeet q.w0 r.w0) ||
      ttClash rest

/-- A buffer's record: ranges, slot, and payload (R387, R406). A dynamic slot may exceed 10 bits of a static number. -/
def ttRecOk (slotcfg cold : Nat) (r : ImgRec) : Bool :=
  let kind := TT_BUFCFG_KIND.of r.w0
  let ns := TT_SLOTCFG_NSTATIC.of slotcfg
  let static := decide (kind ≤ 2)
  imageClear (TT_BUFCFG_KIND.addr r.index) r.w0 && decide (r.index ≤ 255) && decide (r.kind ≤ 3) && decide (kind ≤ 5) &&
    decide (TT_BUFCFG_REP.of r.w0 ≤ 6) && decide (TT_BUFCFG_BASE.of r.w0 < 2 ^ TT_BUFCFG_REP.of r.w0) &&
    (kind == 0 || (if static then within r.owner 1 ns else within r.owner (ns + 1) (ns + TT_COLD_NMINI.of cold))) &&
    (!(kind == 1 || kind == 2) || TT_BUFCFG_PLEN.of r.w0 == TT_SLOTCFG_PAYLOAD.of slotcfg)

def Deck.checkTt (k : Deck) (t : Nat) : List Nat :=
  match k.body 9 t with
  | some (.tt cycle slotcfg cold guard recs) =>
    let b := TT_CYCLE_TSS.base
    let keyBufs := recs.filter fun r => TT_BUFCFG_STARTUP.of r.w0 == 1
    let route := k.routes.getD (125 + 4 * t) 0xFFFF
    chk (k.ttChannels t == 0) 0x0403 ++
    chk (!imageClear b cycle || !imageClear (b + 4) slotcfg || !imageClear (b + 8) cold || !imageClear (b + 12) guard ||
      !ttTimingOk cycle slotcfg cold guard || (recs.any fun r => !ttRecOk slotcfg cold r) || ttClash recs ||
      !distinct (recs.map fun r => r.index) ||
      (TT_COLD_SYNCN.of cold == 1 && !(keyBufs.length == 1 &&
        keyBufs.all fun r => TT_BUFCFG_KIND.of r.w0 == 1 && (r.kind &&& k.ttChannels t) == k.ttChannels t))) 0x0401 ++
    chk (recs.any fun r => (r.kind &&& k.ttChannels t) != r.kind) 0x0406 ++
    chk (recs.any fun r => TT_BUFCFG_KIND.of r.w0 == 5 && (match k.ctx? route with
      | some x => decide (x.bobbins ≤ TT_BUFCFG_BOB.of r.w0)
      | none => true)) 0x0406
  | _ => []

/-! ### Switch card -/

/-- The largest INDEX of a record kind (R414). -/
def swxMax (kind : Nat) : Nat := [0, 26, 215, 255, 255, 126, 255, 15, 254].getD kind 0

/-- A ring of 64 descriptors of 16 bytes on a 1 KB boundary of system SRAM (R423). -/
def ringBaseOk (a : Nat) : Bool := a % 1024 == 0 && within a 0x20000000 0x209FFC00

/-- A port's words (R423, R430, R443, R449). -/
def portOk (r : ImgRec) : Bool :=
  let ext := decide (r.index ≤ 21)
  within (SWXP_CFG0_PVID.of r.w0) 1 4094 && decide (SWXP_CFG0_ACCEPT.of r.w0 ≤ 2) && decide (r.w0 < 2 ^ 27) &&
    (SWXP_CFG0_MACSEC.of r.w0 == 0 || decide (r.index ≤ 5)) &&
    (if r.index = 22 ∨ r.index = 23 then ringBaseOk r.w1 && ringBaseOk r.w2
     else if ext then
      decide (r.w1 < 2 ^ 32) && decide (r.w2 < 2 ^ 32) && decide (SWXP_CFG1_GSRC.of r.w1 ≤ 2) &&
        (SWXP_CFG1_GSRC.of r.w1 != 1 || (decide (1 ≤ SWXP_CFG1_GLEN.of r.w1) &&
          decide (SWXP_CFG2_GOFF.of r.w2 < SWXP_CFG1_CYCLE.of r.w1)))
     else r.w1 == 0 && r.w2 == 0)

/-- The words of a record of another kind (R452, R453). -/
def swxWordsOk (r : ImgRec) : Bool :=
  if r.kind = 1 then portOk r
  else if r.kind = 2 then
    imageClear (SWXQ_CFG0_MIN.addr r.index) r.w0 && imageClear (SWXQ_CFG1_PROFILE.addr r.index) r.w1 && r.w2 == 0 &&
      decide (SWXQ_CFG0_CAP.of r.w0 ≤ 16384) && decide (SWXQ_CFG0_MIN.of r.w0 ≤ 16384)
  else if r.kind = 3 then
    decide (r.w0 < 2 ^ 13) && within (SWX_VLAN_ID_VID.of r.w0) 1 4094 && decide (r.w1 < 2 ^ 27) && decide (r.w2 < 2 ^ 27)
  else if r.kind = 4 then
    decide (r.w0 < 2 ^ 32) && decide (r.w1 < 2 ^ 32) && within (SWX_SF_MATCH_VID.of r.w1) 1 4094 &&
      (decide (SWX_SF_MATCH_INPORT.of r.w1 ≤ 26) || SWX_SF_MATCH_INPORT.of r.w1 == 31) &&
      imageClear (SWX_SF_ACTION_TOOBJ.addr r.index) r.w2 &&
      (SWX_SF_ACTION_TOOBJ.of r.w2 == 0 || decide (SWX_SF_ACTION_EGRESS.of r.w2 ≤ 1023))
  else if r.kind = 5 then decide (r.w0 < 2 ^ 32) && decide (r.w1 < 2 ^ 32) && decide (r.w2 ≤ 7)
  else if r.kind = 6 then
    decide (r.w0 < 2 ^ 19) && decide (SWX_GL_CTL_POS.of r.w0 ≤ 62) && decide (SWX_GL_CTL_PORT.of r.w0 ≤ 21) &&
      within r.w1 100 (2 ^ 32 - 1) && r.w2 == 0
  else if r.kind = 7 then
    [r.w0, r.w1, r.w2].all fun w => decide (w < 2 ^ 32) && decide (SWX_DP_GREEN_MIN.of w ≤ SWX_DP_GREEN_MAX.of w)
  else
    let pa := SWX_RS_OUT_PORTA.of r.w2
    let pb := SWX_RS_OUT_PORTB.of r.w2
    decide (r.w0 < 2 ^ 32) && decide (r.w1 < 2 ^ 32) && decide (r.w2 < 2 ^ 32) && within (SWX_RS_CTL_VID.of r.w1) 1 4094 &&
      (decide (pa ≤ 21) || (pa == 31 && SWX_RS_OUT_OBJ.of r.w2 == 0x3FF)) && (decide (pb ≤ 21) || pb == 31) &&
      (SWX_RS_OUT_REPL.of r.w2 == 0 || (decide (pa ≤ 21) && decide (pb ≤ 21) && pa != pb)) &&
      decide (SWX_RS_OUT_LEN.of r.w2 ≤ 1500)

/-- A gPTP-timed list: each position once, and the intervals total CYCLE (R430). -/
def Deck.gateListOk (k : Deck) (p : ImgRec) : Bool :=
  SWXP_CFG1_GSRC.of p.w1 != 1 || decide (21 < p.index) ||
    let es := (k.swxKind 6).filter fun r => SWX_GL_CTL_PORT.of r.w0 == p.index
    let n := SWXP_CFG1_GLEN.of p.w1
    es.length == n && (List.range n).all (fun q => es.any fun r => SWX_GL_CTL_POS.of r.w0 == q) &&
      (es.foldl (fun t r => t + r.w1) 0) == SWXP_CFG1_CYCLE.of p.w1

/-- The attribute word of a slot in the security policy card; 0 without a record (R581). -/
def Deck.slotAttr (k : Deck) (s : Nat) : Nat :=
  match k.securityRecs.find? fun r => r.index == s with
  | some r => r.w0
  | none => 0

/-- The MACsec slots of a port: even AES-256 encrypt-only, and the next AES-256 decrypt-only (R443). -/
def Deck.macsecOk (k : Deck) (p : ImgRec) : Bool :=
  let s := SWXP_CFG2_TXSLOT.of p.w2
  let a := k.slotAttr s
  let b := k.slotAttr (s + 1)
  SWXP_CFG0_MACSEC.of p.w0 == 0 || (s % 2 == 0 && KEY_ATTR_ALG.of a == 2 && KEY_ATTR_USE.of a == 0 &&
    KEY_ATTR_ALG.of b == 2 && KEY_ATTR_USE.of b == 1)

def Deck.checkSwitch (k : Deck) : List Nat :=
  match k.body 10 0 with
  | some (.switch gcfg pool recs) =>
    let mins := (k.swxKind 2).foldl (fun t r => t + SWXQ_CFG0_MIN.of r.w0) 0
    let rx := (k.swxKind 4).filter fun r => SWX_SF_ACTION_TOOBJ.of r.w2 == 1
    let tx := (k.swxKind 8).filter fun r => SWX_RS_OUT_OBJ.of r.w2 != 0x3FF
    chk (!inRanges gcfg [(SWX_GCFG_FRTO, 1, 255), (SWX_GCFG_ETYPE, 0x0600, 0xFFFF)] || decide (2 ^ 32 ≤ gcfg) ||
      decide (2 ^ 15 ≤ pool) || decide (16384 < mins) || decide (16384 < SWX_POOL_LIMIT.of pool + mins) ||
      (recs.any fun r => !(within r.kind 1 8 && decide (r.index ≤ swxMax r.kind) && swxWordsOk r)) ||
      !distinct (recs.map fun r => (r.kind, r.index)) || (k.swxKind 1).any (fun p => !k.gateListOk p) ||
      !distinct (rx.map fun r => r.w2 % 1024) || !distinct (tx.map fun r => SWX_RS_OUT_OBJ.of r.w2)) 0x0401 ++
    chk ((k.swxKind 1).any fun p => !k.macsecOk p) 0x0406
  | _ => []

/-! ### Bridge card (R457 to R459, R487, R490) -/

/-- A CAN buffer fit for a window's requests or acknowledgements, named by no entry (R457, R459). -/
def Deck.pduBuf (k : Deck) (c b ident : Nat) : Bool :=
  match k.canRec c 2 b with
  | some r =>
    (CAN_TXCFG_FORM.of r.w0 == 0 || CAN_TXCFG_FORM.of r.w0 == 2 || CAN_TXCFG_FORM.of r.w0 == 4) &&
      CAN_TXCFG_ID.of r.w0 == ident && !k.feeds (canObj c b)
  | none => false

/-- An enabled Q0 filter with IDE 0, an identifier and a mask, whose receive object no TAKE names (R457, R500). -/
def Deck.plainFilter (k : Deck) (c f ident mask : Nat) : Bool :=
  match k.canRec c 1 f with
  | some r =>
    CAN_FMATCH_EN.of r.w0 == 1 && CAN_FMATCH_Q.of r.w0 == 0 && CAN_FMATCH_IDE.of r.w0 == 0 && CAN_FMATCH_ID.of r.w0 == ident &&
      CAN_FMASK_MASK.of r.w1 == mask && !(k.entries.any fun e => e.op == 0x01 && e.src == c * 128 + f)
  | none => false

/-- A 10BASE-T1S window's stream filters: one to the satellite, one to the module on port I4 (R457). The module's own
address comes from the identity record. -/
def Deck.pduPaths (k : Deck) (mac vid net node unit : Nat) : Bool :=
  (k.swxKind 4).any (fun r =>
    (SWX_SF_MATCH_INPORT.of r.w1 == 26 || SWX_SF_MATCH_INPORT.of r.w1 == 31) && SWX_SF_MATCH_VID.of r.w1 == vid &&
      r.w0 == net * 256 + node && SWX_SF_ACTION_TOOBJ.of r.w2 == 0 && (SWX_SF_ACTION_EGRESS.of r.w2).testBit unit) &&
  (k.swxKind 4).any (fun r =>
    (SWX_SF_MATCH_INPORT.of r.w1 == unit || SWX_SF_MATCH_INPORT.of r.w1 == 31) && SWX_SF_MATCH_VID.of r.w1 == vid &&
      r.w0 == mac % 2 ^ 32 && SWX_SF_ACTION_TOOBJ.of r.w2 == 0 && (SWX_SF_ACTION_EGRESS.of r.w2).testBit 26)

/-- An outbound window (R457, R490). -/
def Deck.checkWindow (k : Deck) (mac cfg : Nat) (r : ImgRec) : List Nat :=
  let unit := BRG_WCFG_UNIT.of r.w0
  let node := BRG_WCFG_NODE.of r.w0
  let tx := BRG_WCFG_TXBUF.of r.w0
  let fl := BRG_WCFG_FILTER.of r.w0
  chk (decide (2 ^ 32 ≤ r.w0) || decide (2 ^ 32 ≤ r.w1) || decide (2 ^ 18 ≤ r.w2) || BRG_WCFG_PWMAX.of r.w0 == 0 ||
    !within (BRG_WPOLL_RSPTO.of r.w1) 1 1000 || decide (9 < BRG_WPOLL_CTMR.of r.w1) ||
    decide (10000 < BRG_WPOLL_POLLMS.of r.w1) || BRG_WSTAT_SSIZE.of r.w2 == 3) 0x0401 ++
  chk (!k.hasCtx r.owner) 0x0409 ++
  chk ((k.inventory.filter fun p => p.kind == 4 && p.unit == r.index).length != 1) 0x0406 ++
  (if BRG_WCFG_BUS.of r.w0 = 0 then
    chk (!k.canRuns unit || decide (127 < node)) 0x0406 ++
    chk (!k.pduBuf unit tx (BRG_CFG_REQBASE.of cfg * 128 + node) ||
      !k.plainFilter unit fl (BRG_CFG_RSPBASE.of cfg * 128 + node) 0x7FF) 0x0406 ++
    chk ((match k.canRec unit 2 tx with | some x => x.owner != r.owner | none => false) ||
      (match k.canRec unit 1 fl with | some x => x.owner != r.owner | none => false)) 0x0409
  else
    chk (!within unit 14 21 || !k.portLands unit ||
      !k.pduPaths mac (BRG_CFG_VID.of cfg) (BRG_CFG_NET.of cfg) node unit) 0x0406)

/-- An inbound window (R459, R491): its word holds BUS, UNIT and NODE of an outbound window, IACKBUF, and the signals. -/
def Deck.checkInbound (k : Deck) (cfg : Nat) (r : ImgRec) : List Nat :=
  let unit := BRG_WCFG_UNIT.of r.w0
  let node := BRG_WCFG_NODE.of r.w0
  let iack := BRG_WCFG_TXBUF.of r.w0
  let base := r.w1 / 65536
  let n := r.w1 % 256
  chk (decide (2 ^ 32 ≤ r.w0) || r.w0 % 2 ^ 13 != 0 || decide (2 ^ 32 ≤ r.w1) || bits r.w1 15 8 != 0 || n == 0 ||
    decide (2 ^ 16 ≤ r.w2)) 0x0401 ++
  (match k.bridgeRecs.find? fun w => w.kind == 1 && w.w0 / 2 ^ 18 == r.w0 / 2 ^ 18 with
    | some w => chk (BRG_WCFG_BUS.of r.w0 == 0 && (!k.pduBuf unit iack (BRG_CFG_REQBASE.of cfg * 128 + node) ||
        iack == BRG_WCFG_TXBUF.of w.w0)) 0x0406
    | none => [0x0406]) ++
  chk (!k.hasCtx r.owner) 0x0409 ++
  (List.range n).flatMap fun i =>
    match k.sig? (base + i) with
    | some x => chk (x.group != 0xFFFF) 0x0401 ++ chk (x.writer != r.owner) 0x0408
    | none => [0x0406]

/-- Two outbound windows clash: one bus unit and NODE, or one NODE on two 10BASE-T1S ports (R457). -/
def windowClash : List ImgRec → Bool
  | [] => false
  | r :: rest =>
    (rest.any fun q => BRG_WCFG_NODE.of q.w0 == BRG_WCFG_NODE.of r.w0 && BRG_WCFG_BUS.of q.w0 == BRG_WCFG_BUS.of r.w0 &&
      (BRG_WCFG_BUS.of r.w0 == 1 || BRG_WCFG_UNIT.of q.w0 == BRG_WCFG_UNIT.of r.w0)) || windowClash rest

def Deck.checkBridge (k : Deck) (mac : Nat) : List Nat :=
  match k.body 11 0 with
  | some (.bridge cfg recs) =>
    let outs := recs.filter fun r => r.kind == 1
    chk (!imageClear BRG_CFG_VID.base cfg || BRG_CFG_VID.of cfg == k.sys.mgmtVlan || !within (BRG_CFG_VID.of cfg) 1 4094 ||
      BRG_CFG_REQBASE.of cfg == BRG_CFG_RSPBASE.of cfg ||
      (recs.any fun r => !(within r.kind 1 2 && decide (r.index < if r.kind = 1 then 64 else 16))) ||
      !distinct (recs.map fun r => (r.kind, r.index)) || windowClash outs) 0x0401 ++
    outs.flatMap (k.checkWindow mac cfg) ++ (recs.filter fun r => r.kind == 2).flatMap (k.checkInbound cfg)
  | _ => []

/-! ### Sleep card (R495 to R500, R517, R518) -/

/-- The member that a record names: kind, cluster and index. -/
def memberKind (r : ImgRec) : Nat := r.index / 4096
def memberCluster (r : ImgRec) : Nat := r.index / 256 % 16
def memberIndex (r : ImgRec) : Nat := r.index % 256

/-- The OPT bit 0 of the transceiver joined to a controller (R496). -/
def Deck.canSelective (k : Deck) (c : Nat) : Bool := k.lands.any fun r => r.kind == 1 && r.func == c && r.opt.testBit 0

/-- A record's own fields (R495, R496, R518). -/
def Deck.sleepRecOk (k : Deck) (swait : Nat) (r : ImgRec) : Bool :=
  let n := memberIndex r
  let t := memberKind r
  (if t = 1 then decide (n ≤ 25) else if t = 2 then decide (n ≤ 1) else t == 3 && within n 6 21) &&
    imageClear (NMW_CL_KABLK.addr (memberCluster r)) r.w0 && decide (1 ≤ NMW_CL_KAPER.of r.w0) &&
    decide (NMW_CL_KAPER.of r.w0 * 200 ≤ swait) && decide (r.kind ≤ 2) &&
    (if t = 1 then (r.kind == 1) == k.canSelective n else r.kind != 1)

/-- The keep-awake filter and buffer of a CAN member (R499, R500). -/
def Deck.keepAwakeOk (k : Deck) (r : ImgRec) : Bool :=
  let c := memberIndex r
  let blk := NMW_CL_KABLK.of r.w0 * 64
  k.canRuns c && k.plainFilter c 127 blk 0x7C0 &&
    (match k.canRec c 2 31 with
    | some b => CAN_TXCFG_FORM.of b.w0 == 0 && CAN_TXCFG_ID.of b.w0 == blk + k.sys.nodeNum % 64 && !k.feeds (canObj c 31)
    | none => false)

def Deck.checkSleep (k : Deck) : List Nat :=
  match k.body 12 0 with
  | some (.sleep cfg times recs) =>
    let swait := NMW_TIMES_SWAIT.of times
    let eth := recs.filter fun r => memberKind r == 3
    chk (!imageClear NMW_CFG_VID.base cfg || (NMW_CFG_ETHEN.of cfg == 1 && !within (NMW_CFG_VID.of cfg) 1 4094) ||
      decide (2 ^ 32 ≤ times) || !within swait 100 60000 || !within (NMW_TIMES_PREP.of times) 50 60000 ||
      (recs.any fun r => !k.sleepRecOk swait r) ||
      !distinct (recs.map fun r => (memberKind r, memberIndex r)) ||
      recs.any fun r => recs.any fun q => memberCluster q == memberCluster r && q.w0 != r.w0) 0x0401 ++
    chk ((recs.any fun r => memberKind r == 1 && !k.keepAwakeOk r) || eth.any fun r => !k.portLands (memberIndex r)) 0x0406 ++
    chk (NMW_CFG_ETHEN.of cfg == 1 && !((k.swxKind 3).any fun v =>
      SWX_VLAN_ID_VID.of v.w0 == NMW_CFG_VID.of cfg && SWX_VLAN_ID_FLOOD.of v.w0 == 1 && v.w1.testBit 25 &&
        eth.all fun r => v.w1.testBit (memberIndex r))) 0x0406
  | _ => []

end Sys2Proof.Machine
end

