-- ==== Sys2Proof/Machine/DeckCheck.lean ====
section
/-! DEFINITION. The load check of a deck or card set: the recorder and security cards, the merge of a card set (R68, R70), and
the order in which the codes of R64 decide. -/

namespace Sys2Proof.Machine

/-! ### Recorder card (R647 to R649, R663, R665) -/

/-- A snapshot-set entry (R648). -/
def setEntryOk (w : Nat) : Bool :=
  w == 0 || within w 0xFFFFFF00 0xFFFFFF07 || (w % 4 == 0 && decide (w ≤ 0x40C0FFFC) && inBlock w)

/-- A record's words (R647, R665). -/
def recorderWordsOk (r : ImgRec) : Bool :=
  if r.kind = 1 then
    decide (r.index ≤ 255) && decide (r.w0 < 2 ^ 32) && imageClear (REC_RNG_CTL_SET.addr r.index) r.w1 && r.w2 == 0
  else if r.kind = 2 then
    decide (r.index % 32 ≤ 21) && r.index % 32 % 3 == 0 && bits r.index 7 5 == 0 && decide (r.index < 2 ^ 14) &&
      setEntryOk r.w0 && setEntryOk r.w1 && setEntryOk r.w2
  else
    r.kind == 3 && decide (r.index ≤ 511) && imageClear (REC_BKT_CODE.addr r.index) r.w0 &&
      imageClear (REC_BKT_FILL.addr r.index) r.w1 && r.w2 == 0 &&
      (REC_BKT_CODE_EN.of r.w0 == 0 || decide (1 ≤ REC_BKT_FILL_DEPTH.of r.w1))

/-- Two ranges overlap. -/
def rangeClash : List (Nat × Nat) → Bool
  | [] => false
  | r :: rest => (rest.any fun q => decide (q.1 ≤ r.2) && decide (r.1 ≤ q.2)) || rangeClash rest

/-- A code range in use: its codes within one half of the code space, its set, and its owner (R649). -/
def Deck.checkRange (k : Deck) (recs : List ImgRec) (r : ImgRec) : List Nat :=
  let lo := REC_RNG_CODES_LO.of r.w0
  let hi := REC_RNG_CODES_HI.of r.w0
  let set := REC_RNG_CTL_SET.of r.w1
  let own := REC_RNG_CTL_OWNER.of r.w1
  chk (decide (hi < lo) || (decide (lo ≤ 0x0FFF) && decide (0x1000 ≤ hi)) || (decide (64 ≤ set) && set != 0x7F) ||
    (decide (set < 64) && !(recs.any fun q => q.kind == 2 && q.index / 256 == set && (q.w0 != 0 || q.w1 != 0 || q.w2 != 0))) ||
    (decide (hi ≤ 0x0FFF) && own != 0xFFFF)) 0x0401 ++
  chk (decide (0x1000 ≤ lo) && !k.hasCtx own) 0x0409

def Deck.checkRecorder (k : Deck) : List Nat :=
  match k.body 13 0 with
  | some (.recorder cfg recs) =>
    let ranges := recs.filter fun r => r.kind == 1 && REC_RNG_CTL_EN.of r.w1 == 1
    let bkts := recs.filter fun r => r.kind == 3 && REC_BKT_CODE_EN.of r.w0 == 1
    chk (!imageClear REC_CFG_DDEPTH.base cfg || REC_CFG_DDEPTH.of cfg == 0 || (recs.any fun r => !recorderWordsOk r) ||
      !distinct (recs.map fun r => (r.kind, r.index)) ||
      rangeClash (ranges.map fun r => (REC_RNG_CODES_LO.of r.w0, REC_RNG_CODES_HI.of r.w0)) ||
      !distinct (bkts.map fun r => REC_BKT_CODE.of r.w0)) 0x0401 ++
    ranges.flatMap (k.checkRange recs)
  | _ => []

/-! ### Security policy card (R528, R579 to R582) -/

/-- A USE that R580 gives a meaning for the ALG. -/
def useOk (alg use : Nat) : Bool :=
  if alg = 1 then use == 0 || use == 1
  else if alg = 2 ∨ alg = 3 ∨ alg = 4 then alg == 2 || use != 2
  else if alg = 5 ∨ alg = 7 then use == 0 || use == 3
  else if alg = 6 ∨ alg = 8 then use == 1
  else alg == 0

/-- A child's ALG can be derived from a parent's ALG (R592, R593). -/
def derivable (parent child : Nat) : Bool :=
  if parent = 2 ∨ parent = 3 ∨ parent = 4 then within child 1 4
  else if parent = 5 then child == 3
  else parent == 7 && child == 4

/-- A slot's record (R528, R579, R581). -/
def Deck.slotOk (k : Deck) (r : ImgRec) : Bool :=
  let use := KEY_ATTR_USE.of r.w0
  let alg := KEY_ATTR_ALG.of r.w0
  let p := KEY_ATTR_PARENT.of r.w0
  let a := k.slotAttr p
  decide (r.index ≤ 511) && !within r.index 480 495 && imageClear (KEY_ATTR_USE.addr r.index) r.w0 && decide (alg ≤ 8) &&
    useOk alg use && decide (KEY_ATTR_SOURCE.of r.w0 ≤ 1) &&
    (decide (r.index < 496) || (alg == 3 && use == 3 && decide (r.owner < 32))) &&
    (KEY_ATTR_OUTCHAL.of r.w0 == 0 || (alg == 3 && use == 3 && decide (r.index < 496))) &&
    (KEY_ATTR_SOURCE.of r.w0 == 0 || (decide (p ≤ 479) && KEY_ATTR_USE.of a == 3 && derivable (KEY_ATTR_ALG.of a) alg))

/-- The owner in a slot's record. -/
def Deck.slotOwner (k : Deck) (s : Nat) : Nat :=
  match k.securityRecs.find? fun r => r.index == s with
  | some r => r.owner
  | none => 0xFFFF

def Deck.checkSecurity (k : Deck) : List Nat :=
  match k.body 14 0 with
  | some (.security keyPolicy dbgPolicy recs) =>
    chk (!imageClear KEY_POLICY_TAMPEN.base keyPolicy || !imageClear DBG_POLICY_HOLDLC.base dbgPolicy ||
      (recs.any fun r => !k.slotOk r) || !distinct (recs.map fun r => r.index)) 0x0401 ++
    chk (recs.any fun r => decide (r.index < 496) && (!k.hasCtx r.owner ||
      (KEY_ATTR_SOURCE.of r.w0 == 1 && k.slotOwner (KEY_ATTR_PARENT.of r.w0) != r.owner))) 0x0409
  | _ => []

/-! ### Layout and framing (R45 to R50) -/

/-- The chain of cards from an offset ends at the start of the signature (R46). -/
def chainOk (fin : Nat) : Nat → List Card → Bool
  | pos, [] => pos == fin
  | pos, c :: rest => c.offset == pos && decide (c.offset + c.length ≤ fin) && c.padZero && chainOk fin (roundUp16 (c.offset + c.length)) rest

/-- Check 0x0301 (R46). -/
def Deck.layoutOk (k : Deck) : Bool :=
  k.hdr.cardCount == k.cards.length && chainOk (k.hdr.totalLen - 96) (0x80 + 32 * k.hdr.cardCount) k.cards

/-- Checks 0x0302 to 0x0304. -/
def Deck.checkFraming (k : Deck) : List Nat :=
  chk (k.cards.any fun c => !c.framed) 0x0302 ++ chk (k.cards.any fun c => c.digest != c.contentDigest) 0x0303 ++
  chk ((k.cards.any fun c => !within c.type 1 16) || !distinct (k.cards.map fun c => (c.type, c.inst))) 0x0304

/-- Check 0x0305 (R48, R50). -/
def Deck.checkMandatory (k : Deck) : List Nat :=
  chk ([1, 2, 3, 4, 5, 6, 10, 14, 15, 16].any fun t => !k.has t 0) 0x0305 ++
  chk ((List.range 4).any fun b => k.sys.bankMask.testBit b && !k.has 7 b) 0x0305

/-- All checks of a full deck's cards. `mac` is the module's own address. -/
def Deck.checkCards (k : Deck) (mac : Nat) : List Nat :=
  k.checkMandatory ++ k.checkGeneral ++ k.checkSystem ++ k.checkLands ++ k.checkBeat ++ k.checkSignals ++ k.checkContexts ++
    k.checkTable ++ k.checkIdle ++ k.checkInventory ++
    ((List.range 4).flatMap fun b => match k.body 7 b with
      | some (.bank cfg budget inrush recs) => k.checkBank b cfg budget inrush recs
      | _ => []) ++
    (List.range 26).flatMap k.checkCan ++ (List.range 2).flatMap k.checkTt ++ k.checkSwitch ++ k.checkBridge mac ++
    k.checkSleep ++ k.checkRecorder ++ k.checkSecurity

/-! ### Merging a card set (R68, R70, R74) -/

/-- A card of the running deck, or the set's card of its type and instance. -/
def Deck.cardFor (cs : Deck) (c : Card) : Card :=
  match cs.cards.find? fun n => n.type == c.type && n.inst == c.inst with
  | some n => n
  | none => c

/-- Cards laid out in a chain from an offset (R46). -/
def relay : Nat → List Card → List Card
  | _, [] => []
  | pos, c :: rest => { c with offset := pos, padZero := true } :: relay (roundUp16 (pos + c.length)) rest

/-- The length that a chain of cards reaches. -/
def chainEnd : Nat → List Card → Nat
  | pos, [] => pos
  | pos, c :: rest => chainEnd (roundUp16 (pos + c.length)) rest

/-- The merged deck of a card set (R70): the running deck with the set's cards in place of its own, further cards at the
end. Its header keeps the running deck's DECK_ID and FLAGS, but CARD_SET, and carries the set's DECK_VER: no rule says which
of the two it takes (log entry 57). -/
def Deck.merge (old cs : Deck) : Deck :=
  let kept := old.cards.map cs.cardFor
  let more := cs.cards.filter fun n => !(old.cards.any fun c => c.type == n.type && c.inst == n.inst)
  let n := (kept ++ more).length
  let cards := relay (0x80 + 32 * n) (kept ++ more)
  { hdr := { old.hdr with deckVer := cs.hdr.deckVer, cardCount := n, totalLen := chainEnd (0x80 + 32 * n) (kept ++ more) + 96,
                          flags := (if old.hdr.flags.testBit 0 then old.hdr.flags - 1 else old.hdr.flags), baseId := 0, baseVer := 0 },
    cards := cards }

/-- The cards that a set changes, by type and instance. -/
def Deck.changes (cs : Deck) : List (Nat × Nat) := cs.cards.map fun c => (c.type, c.inst)

/-- A card set changes a frozen attribute or leaves a signal out (R68). -/
def frozenChange (old cs : Deck) : Bool :=
  (cs.has 5 0 && old.signals.any fun r =>
    match cs.sig? r.signal with
    | some n => n.type != r.type || n.group != r.group || n.writer != r.writer || n.sflags / 2 != r.sflags / 2
    | none => true) ||
  (List.range 4).any fun b =>
    match old.body 7 b, cs.body 7 b with
    | some (.bank o _ _ _), some (.bank n _ _ _) => BANK_CFG_VCLASS.of o != BANK_CFG_VCLASS.of n
    | _, _ => false

/-! ### The order of the codes (R64) -/

/-- A key slot holds a key of an ALG and USE: neither empty nor orphaned (check 0x0201, R43). -/
def Dev.slotHolds (d : Dev) (k alg use : Nat) : Bool :=
  decide (k ≤ 511) && d.rdi KEY_SLOTSTAT_STATE k == 1 && (d.keySlot k).attr / 2048 == use * 16 + alg

/-- The checks of the plaintext header and of the whole deck's cryptography, in the order of their codes (R64 step 1).
`len` is the received length, `signed` and `tag` whether the signature and the GCM tag verify; the deck keys must be AES-256 decrypt-only and P-384 public verify. -/
def Dev.checkHeader (d : Dev) (k : Deck) (len : Nat) (signed tag : Bool) : List Nat :=
  let h := k.hdr
  chk (h.magic != 0x4B57444B || h.hdrLen != 0x80 || h.dirOff != 0x80) 0x0101 ++
  chk (h.fmt != 2) 0x0102 ++
  chk (h.totalLen != len || decide (1048512 < h.totalLen)) 0x0103 ++
  chk (!h.partMask.testBit (if d.rd SYSCTL_PARTID_PART = 0x8820 then 0 else if d.rd SYSCTL_PARTID_PART = 0x8830 then 1 else 2)) 0x0104 ++
  chk (decide (d.rd SYSCTL_PARTID_STEP_LTR * 16 + d.rd SYSCTL_PARTID_STEP_NUM < h.minStep)) 0x0105 ++
  chk (!d.slotHolds h.decSlot 2 1 || !d.slotHolds h.verSlot 8 1) 0x0201 ++
  chk (!signed) 0x0202 ++ chk (!tag) 0x0203 ++ chk (decide (h.deckVer < d.rd SYSCTL_DECKFLOOR_FLOOR)) 0x0204

/-- The first code of a list that is in the order of the checks. -/
def firstCode (l : List Nat) : Nat := l.headD 0

/-- The lowest code of a list; 0 for none. -/
def leastCode (l : List Nat) : Nat :=
  match l with
  | [] => 0
  | c :: cs => cs.foldl min c

/-- The module's own MAC address (R578). -/
def Dev.macAddr (d : Dev) : Nat := d.rd SWX_MACHI_MAC * 2 ^ 32 + d.rd SWX_MACLO_MAC

/-- Banks and cards that the variant does not fit (R3, check 0x0104). BANK_MASK bits 7:4 declare banks that no variant
fits; they meet this check, which comes before 0x0401 (log entry 55). -/
def Dev.checkFitted (d : Dev) (k : Deck) : List Nat :=
  let n := d.rd SYSCTL_PARTID_BANKS
  chk (decide (2 ^ n ≤ k.sys.bankMask) || k.cards.any fun c => c.type == 7 && decide (n ≤ c.inst)) 0x0104

/-- The checks that only a card set meets, that of an armed swap, and that of the life cycle (R64: 0x0501 to 0x0505). Code
0x0504 names card sets no more than 0x0505 does, and the armed set holds the slot that a full deck would take: it meets both
(log entry 55). -/
def Dev.checkSet (d : Dev) (k : Deck) : List Nat :=
  (if k.hdr.flags.testBit 0 then
    (match d.deck.running with
    | some r =>
      chk (k.hdr.baseId != r.hdr.deckId || k.hdr.baseVer != r.hdr.deckVer) 0x0501 ++
      chk (frozenChange r k) 0x0503
    | none => [0x0501]) ++
    chk (k.cards.any fun c => [1, 2, 3, 14].contains c.type) 0x0502
  else []) ++
  chk (d.flag SYSCTL_DECKSTAT_SWAP_ARMED) 0x0504 ++
  chk (d.rd KEY_LC_STATE == 5 || d.rd KEY_LC_STATE == 0) 0x0505

/-- The deck whose cards are judged: a card set merged with the running deck, or the full deck itself (R64). -/
def Dev.judged (d : Dev) (k : Deck) : Deck :=
  if k.hdr.flags.testBit 0 then
    match d.deck.running with
    | some r => r.merge k
    | none => k
  else k

/-- The checks that read the directory and the cards, in the order of the codes (R64 step 3). -/
def Dev.checkBody (d : Dev) (k : Deck) : Nat :=
  let set := k.hdr.flags.testBit 0
  let m := d.judged k
  let early := chk (k.cards.any fun c => c.cfmt != 1) 0x0102 ++ chk (set && decide (1048512 < m.hdr.totalLen)) 0x0103 ++
    d.checkFitted m
  let frame := k.checkFraming
  if !early.isEmpty then leastCode early
  else if !frame.isEmpty then leastCode frame
  else leastCode (k.hdr.checkRanges ++ (if set ∧ d.deck.running.isNone then [] else m.checkCards d.macAddr) ++ d.checkSet k)

/-- The load check of a deck or card set: 0 when it passes, else the code that rejects it (R64). -/
def Dev.deckCheck (d : Dev) (k : Deck) (len : Nat) (signed tag : Bool) : Nat :=
  let h := d.checkHeader k len signed tag
  if !h.isEmpty then firstCode h
  else if !k.layoutOk then 0x0301
  else d.checkBody k

/-- A rejection: REJ_CODE takes the code and device code 0x0200 is written (R63). -/
def Dev.deckReject (d : Dev) (code : Nat) : Dev := (d.wr SYSCTL_DECKSTAT_REJ_CODE code).trig 0x0200 [code]

end Sys2Proof.Machine
end

