-- ==== Sys2Proof/Machine/LifeOps.lean ====
section
/-! DEFINITION. What the life cycle, the debug level and the update notices share: forced values, the lowering of the debug
level, the steps of a life-cycle transition that a power loss cannot stop (R192 to R194, R603 to R609, R622 to R632,
R690). -/

namespace Sys2Proof.Machine

/-! ### Life-cycle states (R611) -/

def lsBLANK : Nat := 0
def lsPROVISIONED : Nat := 1
def lsFIELD : Nat := 2
def lsSERVICE : Nat := 3
def lsRETURNED : Nat := 4
def lsSCRAPPED : Nat := 5

/-- The life-cycle state (KEY_LC.STATE). -/
def Dev.lifeState (d : Dev) : Nat := d.rd KEY_LC_STATE

/-- The module is Keyless (R576). -/
def Dev.keyless (d : Dev) : Bool := d.flag KEY_STAT_KEYLESS

/-! ### Forced values (R192 to R194) -/

/-- A force of a declared signal: VALUE, VERSION + 1, STAMP, VALID and FORCED; a member's write that waits for a flip is
dropped with it (R192, R193, R194). -/
def Dev.sigForce (d : Dev) (r : SigRec) (v : Value) : Dev :=
  let old := d.front r.signal
  let s : Slot := { value := extendValue r.type v, version := (old.version + 1) % 65536, stamp := d.stampNow,
                    status := stVALID + stFORCED }
  let d := d.setFront r.signal s
  let d := if r.group < 0x1000 then d.setBack r.signal s else d
  let d := { d with sig := { d.sig with written := d.sig.written.filter (· ≠ r.signal),
                                        claimed := d.sig.claimed.filter (· ≠ r.signal) } }
  if s.value = old.value then d else d.watchChange r

/-- A force is released: FORCED clears, the value stays, and the age counts from now (R193). -/
def Dev.sigRelease (d : Dev) (n : Nat) : Dev :=
  let s := d.front n
  if s.forced then
    let s : Slot := { s with status := s.status - stFORCED, stamp := d.stampNow }
    let d := d.setFront n s
    if (d.sig.back.find n).isSome then d.setBack n s else d
  else d

/-- Every force ends (R193, R605). -/
def Dev.forcesEnd (d : Dev) : Dev := d.each d.sig.front.keys Dev.sigRelease

/-! ### Debug level (R623, R624, R628) -/

/-- The NONCE lapses (R623). -/
def Dev.nonceEnd (d : Dev) : Dev := ({ d with dbg := { d.dbg with nonce := none } }).wr DBG_STAT_CHRDY 0

/-- The debugger holds a power-state request: a hart is halted, or HOLDRUN is honoured (R631). -/
def Dev.debugHold (d : Dev) : Bool :=
  d.rd DBG_STAT_HALTED != 0 ||
    (d.flag DBG_CTL_HOLDRUN && decide (1 ≤ d.rd DBG_STAT_LEVEL) && within d.lifeState lsPROVISIONED lsSERVICE &&
      d.bit DBG_POLICY_HOLDLC 0 (d.lifeState - 1))

/-- PWRHELD follows the hold; the first hold of each request is reported (R631). -/
def Dev.holdShow (d : Dev) : Dev :=
  let held := d.flag PWR_STAT_PEND && d.debugHold
  let d := d.wr DBG_STAT_PWRHELD (b2n held)
  if held && !d.pwr.heldOnce then
    let d := { d with pwr := { d.pwr with heldOnce := true } }
    (d.wr DBG_EVT_HELD 1).trig 0x0514 []
  else d

/-- Triggers of the level being left are cleared, and a TAP instruction that the level does not allow gives way to BYPASS
(R616, R624). -/
def Dev.tapLevel (d : Dev) (level : Nat) : Dev :=
  let ir := if d.dbg.ir = 0x03 ∨ level = 0 ∧ (d.dbg.ir = 0x10 ∨ d.dbg.ir = 0x11) then 0x1F else d.dbg.ir
  { d with dbg := { d.dbg with ir := ir, extest := false, triggers := ⟨[]⟩ } }

/-- The debug level falls to `level`: halted harts run on, the NONCE lapses, and code 0x0513 is written with the cause,
which the specification does not number (R623, R624, log entry 5). -/
def Dev.dbgLower (d : Dev) (level cause : Nat) : Dev :=
  if level < d.rd DBG_STAT_LEVEL then
    let d := ((d.wr DBG_STAT_LEVEL level).wr DBG_STAT_HALTED 0).nonceEnd
    let d := d.tapLevel level
    ((d.wr DBG_EVT_LEVEL 1).trig 0x0513 [(Config.openCode (4 + cause)).toNat]).holdShow
  else d

/-- Causes of a lowered debug level: 0 CLOSE, 1 a lower DBGCHAL request, 2 NTRST, 3 entry into a power state, 4 tamper,
5 life-cycle transition. -/
def dcCLOSE : Nat := 0
def dcREQUEST : Nat := 1
def dcNTRST : Nat := 2
def dcPOWER : Nat := 3
def dcTAMPER : Nat := 4
def dcLIFE : Nat := 5

/-! ### Update notices (R690) -/

/-- Whether a session subscribes to notices (R542). -/
def Dev.subscribed (d : Dev) : Bool :=
  (List.range 4).any fun s => d.rdi SHT_SESS_STATE s == 2 && d.rdi SHT_SESS_SUB s == 1

/-- An update notice: to the subscribing sessions, or held, at most 8, the oldest dropped first (R543, R690). -/
def Dev.updNotice (d : Dev) (ev detail : Nat) : Dev :=
  if d.subscribed then d.hostNotice 0x0281 [(1, ev), (3, 0), (4, detail)]
  else
    let l := d.upd.notices ++ [(ev, detail)]
    { d with upd := { d.upd with notices := l.drop (l.length - 8) } }

/-- The held notices go to the first session that subscribes (R690). -/
def Dev.updRelease (d : Dev) : Dev :=
  let l := d.upd.notices
  let d := { d with upd := { d.upd with notices := [] } }
  d.each l fun d n => d.hostNotice 0x0281 [(1, n.1), (3, 0), (4, n.2)]

/-! ### Life-cycle transitions (R605 to R609, R714, R741) -/

/-- A transition that destroys the anchor: to RETURNED or SCRAPPED, and to PROVISIONED from any state but BLANK
(R605). -/
def lcDestroys (src dst : Nat) : Bool := dst == lsRETURNED || dst == lsSCRAPPED || (dst == lsPROVISIONED && src != lsBLANK)

/-- Everything that goes with the anchor: the device secret and every slot, deck slots, settings banks, user data, the
rollback floors, the retained state and the repair record; units marked failed stay failed (R605, R714, R741). -/
def Dev.lcWipe (d : Dev) : Dev :=
  let d := { d.keysLost with key := { d.keysLost.key with keepMarker := false } }
  let d := d.each (List.range 512) fun d k =>
    if d.rdi KEY_SLOTSTAT_STATE k = 0 ∧ d.rdi KEY_SLOTSTAT_PEND k = 0 then d else d.keyDestroy k
  let d := { d with deck := { d.deck with slot0 := {}, slot1 := {}, floor := 0 } }
  let d := ((d.wr SYSCTL_DECKFLOOR_FLOOR 0).memForget 0x08000000 0x08200000).memForget 0x08400000 0x08480000
  let d := (d.memForget 0x08500000 0x08700000).memForget 0x17000000 0x18000000
  let d := { d with upd := { d.upd with fwFloor := 0, manifests := d.upd.manifests.erase 5,
                                        plain := d.upd.plain.keep fun k => k / 65536 != 5 } }
  let d := d.wr UPD_FWFLOOR_FW_FLOOR 0
  let d := { d with pwr := { d.pwr with retSeqA := 0, retSeqB := 0, retValidA := false, retValidB := false, retRegs := ⟨[]⟩,
                                        retSigs := ⟨[]⟩, retSigSeq := 0, retPresence := ⟨[]⟩, retSource := 0, retDeck := none } }
  let d := d.each (List.range 4) fun d b => d.setBk b { d.bk b with savedCellsValid := false }
  { d with flt := { d.flt with rows := [], sectors := [], poolSegs := [], swxSegs := [] } }

/-- The slots that the running deck's header names for its own keys (R43, R605). -/
def Dev.deckKeySlot (d : Dev) (k : Nat) : Bool :=
  match d.deck.running with
  | some x => x.hdr.decSlot == k || x.hdr.verSlot == k
  | none => false

/-- Every slot that holds a key and whose LCMASK lacks the state is destroyed, but the running deck's own (R605). -/
def Dev.lcMaskDestroy (d : Dev) (state : Nat) : Dev :=
  d.each (List.range 512) fun d k =>
    if d.rdi KEY_SLOTSTAT_STATE k ≠ 0 ∧ !d.bit KEY_ATTR_LCMASK k state ∧ !d.deckKeySlot k then d.keyDestroy k else d

/-- Steps 3 to 5 of a transition: fuse, destruction, generation, and the record committed with the new state (R605,
R607, R608). -/
def Dev.lcCarry (d : Dev) (dst : Nat) : Dev :=
  let src := d.lifeState
  let d := if src = lsBLANK then d.setBit KEY_LC_FUSES 0 0 else d
  let d := if dst = lsRETURNED then d.setBit KEY_LC_FUSES 0 1 else d
  let d := if dst = lsSCRAPPED then d.setBit KEY_LC_FUSES 0 2 else d
  let d := if lcDestroys src dst then d.lcWipe else d
  let d := if src = lsPROVISIONED ∧ dst = lsFIELD then d.keyDestroy 495 else d
  let d := if src = lsFIELD ∧ dst = lsSERVICE then d.lcMaskDestroy lsSERVICE else d
  let d := if src = lsSERVICE ∧ dst = lsFIELD then d.lcMaskDestroy lsFIELD else d
  let d := if src = lsSERVICE then d.forcesEnd.manEndAll else d
  let d := if dst = lsPROVISIONED then
      ({ d.fresh with key := { d.key with anchor := true, anchorKey := (d.freeVal 256), keepMarker := true,
                                          dsNeeded := true } }).wr KEY_TAMPER_CAUSE 0
    else d
  let d := (d.wr KEY_LC_STATE dst).wr KEY_LC_TARGET 0
  let d := { d with key := { d.key with lcTarget := none } }
  ((d.wr KEY_STAT_LCBUSY 0).wr KEY_EVT_LCCHG 1).trig 0x0509 []

end Sys2Proof.Machine
end

