-- ==== Sys2Proof/Machine/Recorder.lean ====
section
/-! DEFINITION. The event recorder's ring, reading window, buckets and operating time (R640 to R665). The trigger itself is
in Trigger. -/

namespace Sys2Proof.Machine

def Dev.setRec (d : Dev) (r : RecState) : Dev := { d with recd := r }

/-- Slots of the ring. -/
def ringSlots : Nat := 16384

/-! ### Triggers of contexts (R650) -/

/-- The context whose access it is may trigger a code: a context code in a range that it owns (R650). -/
def Dev.mayTrigger (d : Dev) (c code : Nat) : Bool :=
  decide (0x1000 ≤ code) && decide (c < 2048) && d.ctxRuns c &&
    match d.rangeOf code with
    | some r => d.rdi REC_RNG_CTL_OWNER r == c
    | none => false

/-- REC_TRIG: a write of a code to REC_TRIG, with the writing hart's arguments. -/
def execRecTrig (init code : Nat) (s : State) : Host.Outcome State Fault Refusal :=
  onBlockBy init 0x40900000 (fun d =>
    if init < 10 ∧ d.mayTrigger (d.tag init) code then
      d.trigWith code ((List.range 8).map fun k => d.rdi REC_ARG (init * 8 + k)) 1 d.optime
    else d.refuse (d.tag init) REC_ACCERR_ACC_ERR 0) s

/-- BUCKET_TOKEN: bucket `b` gains a token, 512 being the default bucket; a bucket with FILL 0 has none to gain (R652). -/
def execBucketToken (b : Nat) (s : State) : Host.Outcome State Fault Refusal :=
  onDev (fun d =>
    if d.deck.running.isNone then d
    else if b < 512 then
      if d.flagi REC_BKT_CODE_EN b ∧ d.rdi REC_BKT_FILL b ≠ 0 then
        d.wri REC_BKT_STATE_TOKENS b (min (d.rdi REC_BKT_STATE_TOKENS b + 1) (d.rdi REC_BKT_FILL_DEPTH b))
      else d
    else if b = 512 ∧ d.rd REC_CFG_DFILL ≠ 0 then d.wr REC_DBKT_TOKENS (min (d.rd REC_DBKT_TOKENS + 1) (d.rd REC_CFG_DDEPTH))
    else d) s

/-! ### Operating time (R643) -/

/-- The count is saved to MRAM with its clean marker. -/
def Dev.optimeSave (d : Dev) (clean : Bool) : Dev := d.setRec { d.recd with savedOptime := d.optime, cleanMark := clean }

/-- SYS is on and the block is in RUN or DOZE. -/
def Dev.awake (d : Dev) : Bool := d.pwr.state == .run || d.pwr.state == .doze

/-- OPTIME_TICK: the count advances in RUN and DOZE. -/
def execOptimeTick (s : State) : Host.Outcome State Fault Refusal :=
  onDev (fun d =>
    if d.awake then
      let n := d.optime + 1
      (d.wr REC_OPTIMEL_OPTIME (n % 2 ^ 32)).wr REC_OPTIMEH_OPTIME (n / 2 ^ 32)
    else d) s

/-- OPTIME_SAVE: the periodic save. -/
def execOptimeSave (s : State) : Host.Outcome State Fault Refusal :=
  onDev (fun d => if d.awake then d.optimeSave false else d) s

/-! ### The ring (R654 to R657) -/

/-- Slot `n` steps before slot `s`. -/
def slotBack (s n : Nat) : Nat := (s + ringSlots - n % ringSlots) % ringSlots

/-- The slot in which a SEQ stands (R657). -/
def Dev.slotOf (d : Dev) (seq : Nat) : Nat := slotBack (d.rd REC_STAT_HEADSLOT) (seqDist (d.rd REC_HEAD_SEQ) seq)

/-- The flags of the record that is written next: TGAP and LOSTBEFORE as they are due (R640). -/
def Dev.ringFlags (d : Dev) (flags : Nat) : Nat :=
  flags + (if d.recd.tgapPending then 8 else 0) + (if d.recd.lostPending then 16 else 0)

/-- One record is written into the ring (R654): the successor of REC_HEAD, into the slot after HEADSLOT; WRAP at slot
16,383; CTXREC for a context's code; and the operating time is saved. -/
def Dev.ringWrite (d : Dev) (r : Staged) : Dev :=
  let seq := seqNext (d.rd REC_HEAD_SEQ)
  let slot := (d.rd REC_STAT_HEADSLOT + 1) % ringSlots
  let flags := d.ringFlags r.flags
  let x : RingRec := { seq := seq, code := r.code, optime := r.optime, pwrcyc := r.pwrcyc, supp := r.supp, flags := flags,
                       snap := r.snap, crc := 0 }
  let empty := d.recd.ring.items.isEmpty
  let tail := d.rd REC_TAIL_SEQ
  let d := d.setRec { d.recd with ring := d.recd.ring.set slot { x with crc := x.calcCrc }, tgapPending := false,
                                  lostPending := false }
  let d := (d.wr REC_HEAD_SEQ seq).wr REC_STAT_HEADSLOT slot
  let d := d.wr REC_TAIL_SEQ (if empty then seq else if ringSlots ≤ seqDist seq tail then seqNext tail else tail)
  let d := if slot = 16383 then d.wr REC_EVT_WRAP 1 else d
  (if 0x1000 ≤ r.code then d.wr REC_EVT_CTXREC 1 else d).optimeSave false

/-- REC_RING_WRITE: the next staged record is written. -/
def execRecRingWrite (s : State) : Host.Outcome State Fault Refusal :=
  onDev (fun d =>
    if d.flag REC_STAT_READY ∧ !d.flag REC_STAT_CLEARING then
      match d.recd.staged with
      | r :: rest => ((d.setRec { d.recd with staged := rest }).wr REC_STAT_STAGED rest.length).ringWrite r
      | [] => d
    else d) s

/-- The end of a clear: every slot is zero and record 0x0030 is written with the next SEQ (R661). -/
def Dev.ringErased (d : Dev) : Dev :=
  let head := d.rd REC_HEAD_SEQ
  let d := (d.setRec { d.recd with ring := ⟨[]⟩ }).wr REC_TAIL_SEQ (seqNext head)
  let args := args8 [d.recd.clearHost, head]
  (d.wr REC_STAT_CLEARING 0).ringWrite { code := 0x0030, optime := d.optime, pwrcyc := d.rd REC_PWRCYC, supp := 0, flags := 0,
                                         snap := args }

/-! ### Finding the head at start (R656) -/

/-- A slot that holds a SEQ whose next slot does not hold the successor. -/
def Dev.headSlots (d : Dev) : List (Nat × Nat) :=
  (d.recd.ring.items.map fun e => (e.1, e.2.seq)).filter fun p =>
    match d.recd.ring.find ((p.1 + 1) % ringSlots) with
    | some n => n.seq != seqNext p.2
    | none => true

/-- Record a is newer than b (R657). -/
def seqNewer (a b : Nat) : Bool := decide (1 ≤ seqDist a b) && decide (seqDist a b < 2 ^ 31)

/-- Going back from the head for at most `n` slots: the SEQ of the oldest slot of the chain, and the number of slots in
it. -/
def Dev.chain (d : Dev) : Nat → Nat → Nat → Nat → Nat × Nat
  | 0, _, seq, len => (seq, len)
  | n + 1, slot, seq, len =>
    match d.recd.ring.find (slotBack slot 1) with
    | some r => if seqNext r.seq = seq then d.chain n (slotBack slot 1) r.seq (len + 1) else (seq, len)
    | none => (seq, len)

/-- The ring is scanned at start: the head and tail are found, slots outside the chain are cleared and reported in one
record 0x0031, and READY is set. -/
def Dev.ringScan (d : Dev) : Dev :=
  match d.headSlots with
  | [] => (((d.wr REC_HEAD_SEQ 0).wr REC_TAIL_SEQ 0).wr REC_STAT_HEADSLOT 16383).wr REC_STAT_READY 1
  | c :: cs =>
    let h := cs.foldl (fun a b => if seqNewer b.2 a.2 then b else a) c
    let q := d.chain (ringSlots - 1) h.1 h.2 1
    let inChain := fun (k : Nat) => decide ((h.1 + ringSlots - k) % ringSlots < q.2)
    let bad := (d.recd.ring.items.filter fun e => !inChain e.1).map fun e => (e.1, e.2.seq)
    let d := d.setRec { d.recd with ring := d.recd.ring.keep inChain }
    let d := ((d.wr REC_HEAD_SEQ h.2).wr REC_STAT_HEADSLOT h.1).wr REC_TAIL_SEQ q.1
    let first := bad.foldl (fun (a : Option (Nat × Nat)) b =>
      match a with
      | some x => if (h.1 + ringSlots - b.1) % ringSlots < (h.1 + ringSlots - x.1) % ringSlots then some b else a
      | none => some b) none
    let d := match first with
      | some x => d.trig 0x0031 [x.1, x.2, bad.length]
      | none => d
    d.wr REC_STAT_READY 1

/-! ### Reading (R658, R662) -/

/-- The copy of the cursor that an initiator has: its hart's, or the debug port's. -/
def recPort (init : Nat) : Nat := if init < 10 then init else 10

/-- Word `n` of the window of an initiator: live from the slot at its cursor, 0 during a clear. -/
def Dev.recWindow (d : Dev) (init n : Nat) : Nat :=
  if d.flag REC_STAT_CLEARING then 0
  else match d.recd.ring.find (d.slotOf (d.rdi REC_CUR_SEQ (recPort init))) with
    | some r => r.word n
    | none => 0

/-- The record that holds a SEQ, if the ring does. -/
def Dev.ringRec (d : Dev) (seq : Nat) : Option RingRec :=
  match d.recd.ring.find (d.slotOf seq) with
  | some r => if r.seq = seq ∧ !d.flag REC_STAT_CLEARING then some r else none
  | none => none

/-- REC_CURSOR: a write of a SEQ to REC_CUR selects a slot and checks its CRC. An empty slot has no CRC to fail
(log entry 24). -/
def execRecCursor (init seq : Nat) (s : State) : Host.Outcome State Fault Refusal :=
  onBlockBy init 0x40900000 (fun d =>
    if d.ctxBarred (d.tag init) then d.refuse (d.tag init) REC_ACCERR_ACC_ERR 0
    else
      let p := recPort init
      let d := ((d.wri REC_CUR_SEQ p seq).wri REC_CURSTAT_PRESENT p 0).wri REC_CURSTAT_CRCERR p 0
      if d.flag REC_STAT_CLEARING then d
      else match d.recd.ring.find (d.slotOf seq) with
        | some r =>
          let d := d.wri REC_CURSTAT_PRESENT p (b2n (r.seq == seq))
          if r.crc = r.calcCrc then d else (d.wri REC_CURSTAT_CRCERR p 1).wr REC_EVT_CRCERR 1
        | none => d) s

end Sys2Proof.Machine
end

