-- ==== Sys2Proof/Machine/ResetOps.lean ====
section
/-! DEFINITION. Core-die resets and start-up: what a reset leaves, the captures of retained state, and the start-up sequence
from the boot images to the Treadle's start (R16, R17, R67, R77, R317, R575, R576, R600, R604, R608, R643, R682 to R691,
R710 to R718, R741). -/

namespace Sys2Proof.Machine

/-! ### What a core-die reset leaves (R16, R17) -/

/-- The field that a register key belongs to. -/
def fieldOf (k : Nat) : Option Field :=
  let a := k / 32 % 2 ^ 32
  (fieldsAt a).find? fun f => f.lsb == k % 32 && (f.instAt a 0).isSome

/-- Fields that show what other storage keeps: the key store and the identity (R594, R578). -/
def shownFields : List Field :=
  [KEY_SLOTSTAT_STATE, KEY_KVER, SHT_MODID_BYTES, SWX_MACLO_MAC, SWX_MACHI_MAC]

/-- The registers of AON that a power-on reset clears: PWR, the debug level and NMW_WAKESRC (R628, R717, R723). -/
def aonReset (k : Nat) : Bool :=
  let a := k / 32
  (decide (0x40B00000 ≤ a) && decide (a < 0x40C00000)) || (decide (0x40810000 ≤ a) && decide (a < 0x40820000)) ||
    a == NMW_WAKESRC_CAUSE.base

/-- A register field that a core-die reset leaves as it is. BEAT_PERIOD comes back from retained state alone (R99). -/
def leftAlone (k : Nat) (powerOn : Bool) : Bool :=
  match fieldOf k with
  | some f => (f.kept && f != BEAT_PERIOD || shownFields.contains f) && !(powerOn && aonReset k)
  | none => false

def Dev.setPwr (d : Dev) (p : PwrState) : Dev := { d with pwr := p }

def Dev.setUpd (d : Dev) (u : UpdState) : Dev := { d with upd := u }

/-- A staged full deck is discarded with the item (R76, R677, R679). -/
def Dev.itemDrop (d : Dev) : Dev :=
  match d.upd.item with
  | some i => if i.deck.isSome ∧ 2 ≤ d.rd UPD_STAT_STATE ∧ d.rd UPD_STAT_STATE ≤ 3 then d.slotDrop else d
  | none => d

/-- What the blocks hold beside their registers is lost with the core die, but what keepers, MRAM and KEEP hold. `warm`
tells that VSUP_LOG stayed, so that SRAM, the staged records and the guardians keep what they hold (R17, R655, R717,
R732, R738). -/
def Dev.coreClear (d : Dev) (warm : Bool) : Dev :=
  { d with
    access := {}
    fw := d.fw.keep fun k => k / 2 ^ 32 == 4 || (warm && k / 2 ^ 32 == 10)
    recd := { d.recd with
      staged := if warm then d.recd.staged else []
      lostPending := warm && d.recd.lostPending
      tgapPending := warm && d.recd.tgapPending
      clearHost := 0 }
    deck := { slot0 := d.deck.slot0, slot1 := d.deck.slot1, floor := d.deck.floor }
    beat := {}
    trd := {}
    sig := {}
    ctx := {}
    bank := ⟨d.bank.items.map fun e => (e.1, { e.2 with latchedOff := false, lastFrame := [] })⟩
    can := { subst := d.can.subst }
    tt := ⟨[]⟩
    swx := {}
    brg := {}
    nmw := {}
    sht := {}
    cpu := if warm then d.cpu else {}
    key := { d.key with chans := ⟨[]⟩ }
    dbg := { ir := d.dbg.ir, extest := d.dbg.extest }
    upd := { d.upd with item := none, lock := none, closing := none, armed := none }
    pwr := { d.pwr with leases := [], warned := [], ordered := false, heldOnce := false, resetting := [] }
    flt := { d.flt with suspects := [], busHeld := false, joining := [] } }

/-- An access that is still open at its domain's switch-off ends in an access fault at its initiator (R36). -/
def Dev.openFault (d : Dev) (init : Nat) : Dev := if init < 10 then (d.faulted).send (.accessFault init) else d

/-- The writes of the signal store window that wait for a flip end (R36, R182). -/
def Dev.openSignals (d : Dev) : Dev :=
  let d := d.each (d.sig.stalled.map fun w => w.1) Dev.openFault
  { d with sig := { d.sig with stalled := [] } }

/-- The window writes and reads that stall their harts at the bridge end (R36, R469, R471). -/
def Dev.openBridge (d : Dev) : Dev :=
  let reads := d.brg.win.items.flatMap fun e => (e.2.work.filter fun k => k.kind == .read && k.stalled).map fun k => k.hart
  d.each ((d.brg.writeStall.map fun e => e.1) ++ reads) Dev.openFault

/-- The core die stops: open accesses end, sessions end, manual drive ends, the keepers hand over, and its registers take their reset
values (R17, R281, R325, R534, R677). -/
def Dev.coreStop (d : Dev) (warm powerOn : Bool) : Dev :=
  let d := d.openSignals.openBridge
  let d := (d.each (List.range 4) fun d s => d.sessionEnd s 5).manEndAll
  let d := d.each (List.range 4) fun d b => if (d.bk b).keeperOn then d.handOver b else d
  let d := d.itemDrop
  let d := { d with regs := d.regs.keep fun k => leftAlone k powerOn }
  let d := d.coreClear warm
  let d := if warm then d.wr REC_STAT_STAGED d.recd.staged.length else d.memForget 0x20000000 0x21800000
  d.wr PWR_STAT_DOMON (if warm ∨ powerOn then 0x8007 else 0x0003)

/-! ### Captures (R710 to R712) -/

/-- The register fields of the core record: the Kept fields of the core die and the channels' commands. -/
def recordFields : List (Field × Nat) :=
  [(BEAT_PERIOD, 0), (SYSCTL_CPUMAP_FAILRT, 0), (SYSCTL_CPUMAP_FAILAPP, 0), (SYSCTL_CPUMAP_RTMAP, 0),
   (SYSCTL_CPUMAP_APPMAP, 0), (SYSCTL_CPUMAP_SPARES, 0), (DBG_CTL_HALTRST, 0)] ++
  (List.range 64).flatMap fun m => [(CH_CMD_DUTY, m), (CH_CMD, m), (CH_PWMPER_PERIOD, m)]

/-- A new SEQ for a capture: above every SEQ used. -/
def Dev.newSeq (d : Dev) : Nat := max (max d.pwr.retSeqA d.pwr.retSeqB) d.pwr.retSigSeq + 1

/-- The core record is written into the older copy (R710, R712). -/
def Dev.captureRecord (d : Dev) (seq : Nat) : Dev :=
  let regs := recordFields.foldl (fun (m : Map Nat) p => m.set (p.1.key p.2) (d.rdi p.1 p.2)) ⟨[]⟩
  let p := { d.pwr with retRegs := regs, retPresence := d.deck.presence, retSource := d.rd BEAT_CFG_SOURCE,
                        retDeck := d.deck.running }
  let d := if d.pwr.retValidA ∧ (!d.pwr.retValidB ∨ d.pwr.retSeqB ≤ d.pwr.retSeqA) then
      d.setPwr { p with retSeqB := seq, retValidB := true }
    else d.setPwr { p with retSeqA := seq, retValidA := true }
  d.wr PWR_RETSEQ_SEQ seq

/-- The signals of the image: the first 32,000 declared ones in slot order (R710). -/
def Dev.imageSignals (d : Dev) : List Nat :=
  ((d.rdeck.signals.map fun r => r.signal).foldl (fun (m : Map Unit) n => m.set n ()) ⟨[]⟩).keys.take 32000

/-- The signal image is written from the front copies (R710, R712). -/
def Dev.captureImage (d : Dev) (seq : Nat) : Dev :=
  d.setPwr { d.pwr with retSigs := ⟨d.imageSignals.map fun n => (n, d.front n)⟩, retSigSeq := seq }

/-- A full capture (R712). -/
def Dev.captureFull (d : Dev) : Dev := (d.captureImage d.newSeq).captureRecord d.newSeq

/-- A short capture (R712). -/
def Dev.captureShort (d : Dev) : Dev := d.captureRecord d.newSeq

/-! ### The repair record and the recorder at start (R643, R644, R656, R741) -/

/-- FLT_STAT and the memory sizes as the repair record gives them (R741, R743). -/
def Dev.repairShow (d : Dev) : Dev :=
  let r := d.flt
  let mram := (r.rows.filter fun a => decide (a < 0x10000000)).length
  let d := (d.wr FLT_STAT_SROWS (128 - (r.rows.length - mram))).wr FLT_STAT_MROWS (32 - mram)
  let d := (d.wr FLT_STAT_NORSP (64 - r.sectors.length)).wr FLT_STAT_CANSP
    d.canSpares.length
  let d := d.each d.can.subst.items fun d e => d.wri CAN_STAT_SERVES e.1 e.2
  let d := d.wr CTX_POOLSIZE_UNITS (CTX_POOLSIZE_UNITS.resetVal 0 - 16 * r.poolSegs.length)
  d.wr SWX_BUF_USABLE (SWX_BUF_USABLE.resetVal 0 - 64 * r.swxSegs.length)

/-- The operating time of a start whose SYS domain was off: from the save, with TGAP when its marker is clear (R643). -/
def Dev.optimeLoad (d : Dev) : Dev :=
  let t := d.recd.savedOptime
  let d := (d.wr REC_OPTIMEL_OPTIME (t % 2 ^ 32)).wr REC_OPTIMEH_OPTIME (t / 2 ^ 32)
  d.setRec { d.recd with tgapPending := !d.recd.cleanMark }

/-- The power cycle is counted (R644). -/
def Dev.powerCycle (d : Dev) : Dev :=
  let n := min (d.recd.savedPwrcyc + 1) 0xFFFFFF
  (d.setRec { d.recd with savedPwrcyc := n }).wr REC_PWRCYC n

/-! ### Keys at start (R571, R573, R575 to R578, R600, R604) -/

/-- A life-cycle record that disagrees with the fuses is overruled by them (R604). -/
def Dev.fusesRule (d : Dev) : Dev :=
  let f := d.rd KEY_LC_FUSES
  let s := d.lifeState
  if f.testBit 2 then d.wr KEY_LC_STATE lsSCRAPPED
  else if f = 0 then d.wr KEY_LC_STATE lsBLANK
  else if f.testBit 1 ∧ (s = lsBLANK ∨ s = lsSCRAPPED) then d.wr KEY_LC_STATE lsRETURNED
  else d

/-- The device secret is drawn when it is needed (R575). -/
def Dev.deviceSecret (d : Dev) (random : Bool) : Dev :=
  if d.key.dsNeeded ∧ d.key.anchor then
    if random then
      ({ d.fresh with key := { d.key with devSecret := true, deviceKey := d.freeVal 256, dsNeeded := false } }).trig 0x0502 []
    else (d.wr KEY_STAT_TRNGERR 1).trig 0x050A []
  else d

/-- The module is Keyless: the flag, source 384, the code, and the factory identity (R576, R578). -/
def Dev.keylessFound (d : Dev) : Dev :=
  (((d.wr KEY_STAT_KEYLESS 1).wr KEY_EVT_KEYLESS 1).trig 0x0500 []).factoryIdentity

/-- The state needs an anchor (R571). -/
def Dev.needsAnchor (d : Dev) : Bool := within d.lifeState lsPROVISIONED lsSERVICE

/-- The state holds no anchor, and none is missed (R572, R576). -/
def Dev.noAnchor (d : Dev) : Bool := d.lifeState == lsBLANK || d.lifeState == lsSCRAPPED

/-- An anchor whose marker is gone is a tamper of VKEEP (R571). -/
def Dev.markerCheck (d : Dev) : Dev :=
  if d.needsAnchor && !d.key.keepMarker then
    ({ d.keysLost with key := { d.keysLost.key with tamperNew := true } }).setBit KEY_TAMPER_CAUSE 0 3
  else d

/-- A tamper since the last start is reported (R573). -/
def Dev.tamperReport (d : Dev) : Dev :=
  let d := if d.key.tamperNew && d.rd KEY_TAMPER_CAUSE != 0 then
      (d.wr KEY_EVT_TAMPER 1).trig 0x0501 [d.rd KEY_TAMPER_CAUSE]
    else d
  { d with key := { d.key with tamperNew := false } }

/-- The transport key of PROVISIONED is derived (R577). -/
def Dev.transportKey (d : Dev) : Dev :=
  if d.lifeState == lsPROVISIONED && !d.keyless && d.rdi KEY_SLOTSTAT_STATE 495 == 0 then
    (d.wri KEY_SLOTSTAT_STATE 495 1).setKeySlot 495
      { attr := d.keyAttr 495, key := kdf 3 factoryKey [0x4B, 0x54, 0x52, 0x4E] [] 32 }
  else d

/-- The key store at start: orphaned and invalidated slots cleared, the anchor's marker, the device secret, Keyless and a
tamper reported, and slot 495 derived in PROVISIONED (R571, R573, R575 to R577, R600). -/
def Dev.keyBoot (d : Dev) (random : Bool) : Dev :=
  let d := ((d.moduleAttrs).each (List.range 512) Dev.keyClearIdle).markerCheck
  let d := if d.noAnchor then d else d.deviceSecret random
  let ready := d.key.anchor && d.key.devSecret
  let d := d.wr KEY_STAT_DSREADY (b2n ready)
  let d := if ready || d.noAnchor then d else d.keylessFound
  d.tamperReport.transportKey

/-! ### Boot images, probation and fallback (R682 to R691) -/

/-- The item on probation falls back (R688): the boot record clears TRY and TRIES, a deck's slots change places, and a
restart is ordered. -/
def Dev.fallback (d : Dev) (reason : Nat) : Dev :=
  let b := d.upd.boot
  let d := if b.probDeck then
      let n := if (d.deckSlot 0).state = 2 then 0 else 1
      let seq := (d.deckSlot n).seq
      let d := d.setDeckSlot n { d.deckSlot n with state := 3 }.seal
      d.setDeckSlot (1 - n) { d.deckSlot (1 - n) with state := 2, seq := (seq + 1) % 2 ^ 32 }.seal
    else d
  let d := d.setUpd { d.upd with boot := { b with try_ := false, tries := 0 } }
  let d := ((d.wr UPD_STAT_TRY 0).wr UPD_STAT_STATE 0).wr UPD_CFMLEFT_LEFT 0
  let d := ((d.wr UPD_TRYVER_IMG_VER 0).inc UPD_CNT_FALLBACKS).wr UPD_EVT_FALLBACK 1
  let d := (d.trig 0x0528 [reason]).updNotice 5 reason
  d.setPwr { d.pwr with ordered := true }

/-- The active settings bank: on probation of a firmware image the bank on trial (R28, R684). -/
def Dev.settingsBank (d : Dev) : Nat := if d.upd.boot.try_ then d.upd.boot.trySet else d.upd.boot.actSet

/-- The address of a settings bank (R28). -/
def settingsAddr (b : Nat) : Nat := 0x08500000 + 0x100000 * b

/-- The version of the firmware image that is active, or of the one on trial (R694). -/
def Dev.versionOf (d : Dev) (region : Nat) : Nat := ((d.upd.manifests.find region).map fun m => m.imgVer).getD 0

/-- The UPD registers are rebuilt from the boot record and FW_FLOOR (R692, R694). -/
def Dev.bootShow (d : Dev) : Dev :=
  let b := d.upd.boot
  let d := ((d.wr UPD_STAT_STATE (if b.try_ then 4 else 0)).wr UPD_STAT_TRY (b2n b.try_)).wr UPD_STAT_ACTBOOT b.actBoot
  let d := ((d.wr UPD_STAT_ACTFW b.actFw).wr UPD_STAT_ACTSET b.actSet).wr UPD_FWFLOOR_FW_FLOOR d.upd.fwFloor
  let d := d.wr UPD_IMGVER_IMG_VER (d.versionOf b.actFw)
  let trial := if !b.try_ ∨ b.probDeck then 0
    else if b.tryFw ≠ b.actFw then d.versionOf b.tryFw else d.versionOf (2 + b.tryBoot)
  let d := d.wr UPD_TRYVER_IMG_VER trial
  d.wr UPD_SETVER_SET_VER (leVal (d.peek (settingsAddr d.settingsBank + 4) 2))

/-- How the choice of images ends: an image runs, no image passes, or the start ends in a fallback. -/
inductive Booted
  | runs | none | fell
deriving DecidableEq, Repr

/-- The boot ROM's and the boot image's choice of images (R576, R686, R688, R691). -/
def Dev.bootPick (d : Dev) (x : BootIn) : Dev × Booted :=
  let b := d.upd.boot
  let bootOk := fun (n : Nat) => if n = 0 then x.boot0 else x.boot1
  let fwOk := fun (n : Nat) => if n = 0 then x.fwA else x.fwB
  if d.keyless then (d, if x.recovery then .runs else .none)
  else
    let slot := if b.try_ then b.tryBoot else b.actBoot
    let d := if bootOk slot then d else d.trig 0x052A []
    if !bootOk slot ∧ !bootOk (1 - slot) then (d, .none)
    else if b.try_ ∧ b.tries ≥ 2 then (d.fallback 2, .fell)
    else if b.try_ ∧ !bootOk slot ∧ b.tryBoot ≠ b.actBoot then (d.fallback 3, .fell)
    else
      let d := if b.try_ then d.setUpd { d.upd with boot := { b with tries := b.tries + 1 } } else d
      let fw := if b.try_ then b.tryFw else b.actFw
      if fwOk fw then (d, .runs)
      else if b.try_ ∧ b.tryFw ≠ b.actFw then (d.fallback 3, .fell)
      else (d, if x.recovery then .runs else .none)

/-! ### The deck at start (R65, R67) -/

/-- The committed slots whose record passes, the higher SEQ first. -/
def Dev.deckOrder (d : Dev) : List Nat :=
  let ok := fun (n : Nat) => let s := d.deckSlot n; decide (s.state = 2) && s.recordOk && s.deck.isSome
  let first := if (d.deckSlot 0).seq < (d.deckSlot 1).seq then [1, 0] else [0, 1]
  first.filter ok

/-- The first of the slots whose deck passes every check is committed; the failing code of the other is recorded (R67). -/
def Dev.loadFrom (d : Dev) (x : BootIn) (failing : Option Nat) : List Nat → Dev
  | [] => d.wr SYSCTL_DECKSTAT_STATE 0
  | n :: rest =>
    match (d.deckSlot n).deck with
    | none => d.loadFrom x failing rest
    | some k =>
      let v := if n = 0 then x.deck0 else x.deck1
      let code := d.deckCheck k (d.deckSlot n).len v.hmac v.tag
      if code = 0 then
        let d := match failing with | some c => d.trig 0x0202 [c] | none => d
        d.deckCommit k n
      else (d.deckReject code).loadFrom x (some code) rest

/-- The rollback floor is read from MRAM, and the deck is loaded, or the module starts deckless; stored decks are unreadable while Keyless (R67, R576). -/
def Dev.deckLoad (d : Dev) (x : BootIn) : Dev :=
  let d := (d.wr SYSCTL_DECKSTAT_STATE 1).wr SYSCTL_DECKFLOOR_FLOOR d.deck.floor
  if d.keyless then d.wr SYSCTL_DECKSTAT_STATE 0 else d.loadFrom x none d.deckOrder

/-! ### Retained state at start (R77, R190, R713) -/

/-- The digest of a card of a deck. -/
def Deck.digestOf (k : Deck) (type inst : Nat) : Option Nat :=
  (k.cards.find? fun c => c.type == type && c.inst == inst).map fun c => c.digest

/-- A card of the running deck has the digest that the core record holds (R77). -/
def Dev.sameCard (d : Dev) (type inst : Nat) : Bool :=
  match d.pwr.retDeck with
  | some k => (k.digestOf type inst).isSome && k.digestOf type inst == d.rdeck.digestOf type inst
  | none => false

/-- The value of a field in the core record. -/
def Dev.retained (d : Dev) (f : Field) (i : Nat) : Nat := d.pwr.retRegs.get (f.key i) (f.resetVal i)

/-- The slots of a bank's command frame start from the retained commands, or from the idle card's safe values with ASSERT
set when R77 finds the bank's retained state unusable (R77, R324). -/
def Dev.bankRestore (d : Dev) (b : Nat) (valid : Bool) : Dev :=
  if !d.rdeck.has 7 b then d
  else if valid ∧ d.sameCard 7 b then
    d.each (bankChans b) fun d m =>
      d.setSlot m { cmd := d.retained CH_CMD m, duty := d.retained CH_CMD_DUTY m, period := d.retained CH_PWMPER_PERIOD m }
  else d.each (d.half.idle.filter fun r => decide (r.kind ≤ 2) && r.target / 16 == b) Dev.idleRecord

/-- A part of the retained state is not used: 1 no valid copy, 2 SEQ mismatch, 3 digest mismatch (R713). The specification
does not number the parts (log entry 5). -/
def Dev.notUsed (d : Dev) (part reason : Nat) : Dev := d.trig 0x0608 [(Config.openCode part).toNat, reason]

/-- One signal is restored: HELD, and not FORCED; a signal that was FORCED starts from SUBST (R190). -/
def Dev.signalRestore (d : Dev) (n : Nat) : Dev :=
  match d.pwr.retSigs.find n with
  | some s =>
    if s.forced then d
    else d.setFront n { s with status := s.status ||| stHELD, stamp := d.stampNow }
  | none => d

/-- The partners whose inventory record is unchanged start in their retained state (R713). -/
def Dev.restorePresence (d : Dev) : Dev :=
  match d.pwr.retDeck with
  | some k => d.each (d.rdeck.inventory.filter fun r => k.inventory.contains r) fun d r =>
      { d with deck := { d.deck with presence := d.deck.presence.set r.partner (d.pwr.retPresence.get r.partner .unknown) } }
  | none => d

/-- Retained state is used where it is valid (R17, R322, R713). In a deckless start no card of a deck configures a block: what
follows no card is restored all the same. -/
def Dev.restore (d : Dev) : Dev :=
  let p := d.pwr
  let valid := p.retValidA || p.retValidB
  let seq := max (if p.retValidA then p.retSeqA else 0) (if p.retValidB then p.retSeqB else 0)
  let d := (d.wr PWR_STAT_RETA (b2n valid)).wr PWR_RETSEQ_SEQ (if valid then seq else 0)
  let d := if valid then
      let d := if d.sameCard 3 0 then d.wr BEAT_PERIOD (d.retained BEAT_PERIOD 0) else d
      (d.wr DBG_CTL_HALTRST (d.retained DBG_CTL_HALTRST 0)).restorePresence
    else d.notUsed 0 1
  let d := d.each (List.range 4) fun d b => (if (d.bk b).keeperOn then d.restoreCells b else d).bankRestore b valid
  let why := if p.retSigSeq = 0 then 1 else if !valid ∨ p.retSigSeq ≠ seq then 2 else if !d.sameCard 5 0 then 3 else 0
  if why = 0 then (d.wr PWR_STAT_RETB 1).each d.imageSignals Dev.signalRestore
  else (d.wr PWR_STAT_RETB 0).notUsed 1 why

/-! ### The Treadle's start (R98, R99, R156) -/

/-- The table starts again from the running deck in half 0, with an armed table in the other half, and no entry has run (R156,
R719). Causes other than IDLE_BEAT stay set until they are released (log entry 30). -/
def Dev.trdReload (d : Dev) : Dev :=
  let armed := match d.deck.armed with | some k => k.half | none => {}
  let d := ((d.wr TRD_STAT_ACT_HALF 0).wr TRD_STAT_IDLE_BEAT 0).setTrd { d.trd with
    half0 := d.rdeck.half, half1 := armed, todo := [], used := 0, charged := [], drops := 0, dropMin := 3,
    framesSent := true, idlePending := false, otherCause := false, idleFrames := ⟨[]⟩, failNext := [] }
  (d.setTrd { d.trd with idlePending := d.anyCause, otherCause := d.anyCause }).showHalf

/-- The beat unit as the Treadle starts: ACQUIRE on the local oscillator with the holdover timer running, pick 0 to come, and no
sample of an input line yet. What the source has shown so far counts (R85, R98, R99, R106). -/
def Dev.beatStart (d : Dev) : Dev :=
  let d := ((d.wr BEAT_STAT_STATE 0).wr BEAT_STAT_RUN_SRC 5).wr BEAT_HOLDLEFT_LEFT_MS (d.rd BEAT_HOLDMS_HOLDOVER_MS)
  let d := if d.rd BEAT_CFG_SOURCE = 5 then d.wr BEAT_REPCNT 0 else d
  d.setBeat { posA := d.beat.posA, posB := d.beat.posB, refs := d.beat.refs, indexOk := d.beat.indexOk, holdRunning := true }

/-- The Treadle starts on half 0 at ACQUIRE timing (R99, R156). With the local oscillator as source the beat unit is LOCKED at
once. -/
def Dev.treadleStart (d : Dev) : Dev :=
  if d.deck.running.isSome ∧ !d.dbg.extest then
    let d := (d.trdReload.wr TRD_STAT_STATE 1).beatStart
    let d := d.each (List.range 4) fun d b => d.setBk b { d.bk b with converted := false }
    if d.rd BEAT_CFG_SOURCE = 5 then d.lock.trig 0x0301 [] else d
  else d

/-- The debug level falls while the core die runs on: leaving EXTEST starts the Treadle again (R618, R624). -/
def Dev.dbgFall (d : Dev) (level cause : Nat) : Dev :=
  let e := d.dbg.extest
  let d := d.dbgLower level cause
  if e ∧ !d.dbg.extest ∧ d.coreRuns then d.treadleStart else d

/-- The domains that are on while the running deck runs: four cores and pairs, but those whose hart has failed with no
spare left, CANX and ETHX as the deck uses them (R561, R698); deckless, ETHX and real-time pair 0, which runs the boot
ROM (R67, R715). -/
def Dev.domainsOn (d : Dev) : Nat :=
  let base := 0x9807
  match d.deck.running with
  | none => base + 2 ^ 7 + 2 ^ 14
  | some k =>
    let on := fun (mask fail map low : Nat) =>
      (((List.range 4).filter fun i => (activeSet mask fail)[map / 4 ^ i % 4]?.isSome).map fun i => 2 ^ (low + i)).sum
    let app := on k.sys.appMask (d.rd SYSCTL_CPUMAP_FAILAPP) (d.rd SYSCTL_CPUMAP_APPMAP) 3
    let rt := on k.sys.rtMask (d.rd SYSCTL_CPUMAP_FAILRT) (d.rd SYSCTL_CPUMAP_RTMAP) 7
    base + app + rt + (if k.cards.any fun c => c.type == 8 then 2 ^ 13 else 0) +
      (if (List.range 22).any k.portLands then 2 ^ 14 else 0)

/-! ### The start-up sequence (R715) -/

/-- Harts that a debug level reaches (R619): the application cores at APP, all at FULL. -/
def hartsOf (level : Nat) : Nat := if level = 2 then 0x3FF else if level = 1 then 0x1F else 0

/-- Steps 7 to 9: deck, retained state, confirm window, domains, Treadle, and the keepers that started again meanwhile (R301,
R686, R698, R713, R715). -/
def Dev.startFinish (d : Dev) (x : BootIn) : Dev :=
  let d := (d.deckLoad x).restore
  let d := if d.upd.boot.try_ then
      match d.deck.running with
      | some k => d.wr UPD_CFMLEFT_LEFT k.sys.confirmS
      | none => (d.wr UPD_CFMLEFT_LEFT (d.freeVal 10)).fresh
    else d
  let d := if d.flag DBG_CTL_HALTRST then d.wr DBG_STAT_HALTED (hartsOf (d.rd DBG_STAT_LEVEL)) else d
  let d := (d.wr PWR_STAT_DOMON d.domainsOn).treadleStart
  let d := d.setPwr { d.pwr with state := .run, retries := 0 }
  let d := d.each (List.range 4) fun d b => if (d.bk b).rewriteDue then d.keeperReport b else d
  let d := d.wr PWR_STAT_STATE 0
  let d := d.trig 0x0602 [d.rd PWR_STAT_LASTRST]
  let d := if d.pwr.timedOut then (d.setPwr { d.pwr with timedOut := false }).trig 0x060C [] else d
  let last := d.rd PWR_STAT_LASTRST
  if last = 6 ∨ last = 7 then
    let d := d.wr PWR_EVT_WAKE 1
    if d.rd NMW_WAKESRC_CAUSE = 0 ∧ d.rd NMW_WAKESRC_UNIT = 0xFF then d.trig 0x0515 [] else d
  else d

/-- Steps 4 to 9 of the start-up sequence. `cold` tells that SYS was off (R715). A start whose image does not take over
waits for the start-up timer; with no image the core die stays in the boot ROM (R691, R716). -/
def Dev.startUp (d : Dev) (x : BootIn) (cold : Bool) : Dev :=
  let d := d.setPwr { d.pwr with state := .start, sysOn := true, heldReset := false, inRom := false, xtalAmp := true }
  let d := (d.wr PWR_STAT_DOMON 0x8087).repairShow
  let d := (if cold then d.optimeLoad else d).ringScan
  let d := match d.key.lcTarget with
    | some t => d.lcCarry t.1
    | none => d
  let d := (d.fusesRule.keyBoot x.random).bootShow
  let p := d.bootPick x
  match p.2 with
  | .fell => p.1
  | .none =>
    let d := p.1.setUpd { p.1.upd with noImage := true }
    d.setPwr { d.pwr with inRom := true }
  | .runs =>
    if x.handover then
      let d := p.1
      let d := if d.upd.noImage then (d.setUpd { d.upd with noImage := false }).trig 0x052B [] else d
      d.startFinish x
    else p.1

/-! ### Reset kinds (R717, R718) -/

/-- A warm core-die reset runs: the core die was started and SYS is on. While the start-up sequence waits for VSUP_LOG a
warm trigger is absorbed (R718, log entry 26). -/
def Dev.warmOk (d : Dev) : Bool :=
  d.coreRuns || (d.pwr.state == .start && d.pwr.sysOn && !d.pwr.heldReset)

/-- A warm core-die reset of a kind: the capture where the core die runs, the stop, LASTRST, and the start (R715,
R717). -/
def Dev.warmReset (d : Dev) (kind : Nat) (capture : Bool) (x : BootIn) : Dev :=
  let d := if capture ∧ d.coreRuns then d.captureFull else d
  ((d.coreStop true false).wr PWR_STAT_LASTRST kind).startUp x false

end Sys2Proof.Machine
end

