-- ==== Sys2Proof/Machine/PowerOps.lean ====
section
/-! DEFINITION. Resets of one part: a power domain (R719), the bus die (R720, R737), and the domain of a hart (R551, R556,
R722). -/

namespace Sys2Proof.Machine

/-! ### Harts and their domains (R551, R556) -/

/-- The logical index of a physical application core: the place of APPMAP that names it (R551, R567). -/
def Dev.coreIndex (d : Dev) (j : Nat) : Option Nat :=
  let act := activeSet d.rdeck.sys.appMask (d.rd SYSCTL_CPUMAP_FAILAPP)
  (List.range 4).find? fun n => act[d.rd SYSCTL_CPUMAP_APPMAP / 4 ^ n % 4]? == some j

/-- The power domain of a hart in service: APPn or RTn of its logical index (R696). -/
def Dev.hartDomain (d : Dev) (h : Nat) : Option Nat :=
  if h < 5 then (d.coreIndex h).map fun n => 3 + n else (d.pairPart (h - 5)).map fun n => 7 + n

/-- The bindings that go with a domain: the virtual machines of a core, or the partition of a pair (R221, R551). -/
def domainBinds (k b : Nat) : Bool :=
  if k < 7 then decide (b < 64) && b / 16 == k - 3 else b == 0x40 + (k - 7)

/-! ### Outputs that follow the power state -/

/-- The AREF output, 5.000 V, is on in RUN and DOZE only (R764). -/
def Dev.arefOn (d : Dev) : Bool := d.pwr.state == .run || d.pwr.state == .doze

/-! ### Domain reset (R719) -/

/-- The effects of a domain's reset when it begins. -/
def Dev.domainStop (d : Dev) (k : Nat) : Dev :=
  if k ≤ 10 then d.resetBound (domainBinds k)
  else if k = 11 then
    let d := d.openSignals.wr TRD_STAT_STATE 0
    d.each (List.range 4) fun d b => if (d.bk b).keeperOn then d.handOver b else d
  else if k = 12 then ((d.each (List.range 27) Dev.swxFlush).wr SWX_GPTP_STATE 0).lossOf 0 0
  else if k = 14 then d.each (List.range 22) fun d p => d.swxLinkLost p d.trd.localNs
  else d

/-- A domain reset begins: a domain that is on is ordered off, and restarts within 1 ms (R36, R719). -/
def Dev.domainReset (d : Dev) (k : Nat) : Dev :=
  if d.domainOn k ∧ !d.pwr.resetting.contains k then
    let d := (d.setPwr { d.pwr with resetting := d.pwr.resetting ++ [k] }).domainStop k
    d.clrBit PWR_STAT_DOMON 0 k
  else d

/-- The effects of a domain's reset when it has restarted. -/
def Dev.domainStart (d : Dev) (k : Nat) : Dev :=
  if k = 11 then d.treadleStart
  else if k = 12 then d.commitSwitch
  else if k = 13 then d.each (List.range 26) fun d c => if d.rdeck.has 8 c then d.canRestart c else d
  else d

/-- A domain has restarted: DRDONE, source 409 and code 0x0603 (R719). -/
def Dev.domainDone (d : Dev) (k : Nat) : Dev :=
  if d.pwr.resetting.contains k then
    let d := d.setPwr { d.pwr with resetting := d.pwr.resetting.filter (· ≠ k) }
    let d := (d.setBit PWR_STAT_DOMON 0 k).domainStart k
    (d.wr PWR_EVT_DRDONE 1).trig 0x0603 [k]
  else d

/-! ### Bus-die reset (R720, R737) -/

/-- CAN controllers reintegrate, time-triggered controllers go to READY, the links of the integrated PHYs fall, the input lines
have no sample, and the sources that the bus die brings are lost (R106, R720). -/
def Dev.busDieParts (d : Dev) : Dev :=
  let d := d.each (List.range 26) fun d c => if d.rdi CAN_STAT_STATE c = 0 then d else d.canRestart c
  let d := (d.each (List.range 2) Dev.ttRestart).each (List.range 16) fun d p => d.swxLinkLost (6 + p) d.trd.localNs
  let d := d.setBeat { d.beat with lastSample := ⟨[]⟩, run := ⟨[]⟩ }
  if d.rd BEAT_CFG_SOURCE = 3 ∨ d.rd BEAT_CFG_SOURCE = 4 then d.sourceLoss else d

/-- A reset of the bus die; the third within 600 s holds it in reset until the next core-die reset (R720, R737). -/
def Dev.busDieReset (d : Dev) : Dev :=
  if d.flt.busHeld then d
  else
    let third := d.fwFires .busReset 3
    let d := (d.fwEvent .busReset 3).fwClear .busLink
    let d := { d with flt := { d.flt with busHeld := third } }
    let d := ((d.busDieParts).wr PWR_EVT_BUSRST 1).trig 0x0609 []
    if third then ((d.wr FLT_STAT_BUSHELD 1).wr FLT_EVT_LATCHOFF 1).trig 0x0704 [] else d

/-! ### Refused writes to PWR (R723) -/

/-- The access may be made by a context of class C0 that runs (R215, R723). -/
def Dev.c0Tag (d : Dev) (init : Nat) : Bool :=
  d.ctxRuns (d.tag init) && (match d.ctxRec (d.tag init) with | some r => r.cls == 0 | none => false)

/-- A write to PWR is refused. -/
def Dev.pwrRefuse (d : Dev) (init : Nat) : Dev := (d.refuse (d.tag init) PWR_ACCERR_ACC_ERR 0).answered 0

end Sys2Proof.Machine
end

