-- ==== Sys2Proof/Machine/Power.lean ====
section
/-! DEFINITION. The commands of power, clocks, resets and watchdogs (R696 to R726). -/

namespace Sys2Proof.Machine

/-! ### Resets of the core die (R715 to R718) -/

/-- ORDERED_RESTART (R535, R607, R681, R688, R717): an ordered restart is due. -/
def execOrderedRestart (x : BootIn) (s : State) : Host.Outcome State Fault Refusal :=
  onDev (fun d => if d.pwr.ordered ∧ d.warmOk then d.warmReset 4 true x else d) s

/-- POWER_ON_RESET (R706, R717): everything but KEEP, MRAM and NOR starts anew, and the start-up sequence waits for
VSUP_LOG. -/
def execPowerOnReset (s : State) : Host.Outcome State Fault Refusal :=
  onDev (fun d =>
    let d := { d.coreStop false true with dbg := {} }
    let d := d.setPwr { d.pwr with state := .start, sysOn := false, heldReset := false, timedOut := false, retries := 0,
                                   inRom := false, supEn := true, wakeLatched := none }
    d.powerCycle) s

/-- STARTUP_TIMEOUT (R716): the start-up timer expires; up to three retries in a row, then the core die stays in reset. -/
def execStartupTimeout (x : BootIn) (s : State) : Host.Outcome State Fault Refusal :=
  onDev (fun d =>
    if d.pwr.state = .start ∧ d.pwr.sysOn ∧ !d.pwr.heldReset ∧ !d.pwr.inRom ∧ !d.pwr.ordered then
      let n := d.pwr.retries
      let d := (d.coreStop true false).wr PWR_STAT_LASTRST 8
      if n < 3 then (d.setPwr { d.pwr with timedOut := true, retries := n + 1 }).startUp x false
      else d.setPwr { d.pwr with timedOut := true, heldReset := true }
    else d) s

/-- SYS is on: the core die runs or its start-up sequence has powered it. -/
def Dev.sysPowered (d : Dev) : Bool := d.coreRuns || (d.pwr.state == .start && d.pwr.sysOn)

/-- BROWN_OUT (R717): VSUP_LOG below 4.3 V; the start-up sequence waits for it to return. -/
def execBrownOut (s : State) : Host.Outcome State Fault Refusal :=
  onDev (fun d =>
    if d.sysPowered then
      let held := d.pwr.heldReset
      let d := ((d.coreStop false false).wr PWR_STAT_LASTRST 1).inc PWR_CNT_BROWNOUTS
      d.setPwr { d.pwr with state := .start, sysOn := false, heldReset := held, inRom := false, wakeLatched := none }
    else d) s

/-- NRST (R717, R763): three samples low. It also ends the stay in reset after failed start-ups (R716). -/
def execNrst (x : BootIn) (s : State) : Host.Outcome State Fault Refusal :=
  onDev (fun d =>
    if d.warmOk then (d.setPwr { d.pwr with retries := 0, wakeLatched := none }).warmReset 2 true x
    else if d.pwr.state = .start ∧ d.pwr.heldReset then
      let d := d.setPwr { d.pwr with heldReset := false, retries := 0 }
      if d.pwr.sysOn then d.warmReset 2 false x else d.wr PWR_STAT_LASTRST 2
    else d) s

/-- POWER_OFF (R706): KL30 below 4.0 V removes AON; the module is OFF. -/
def execPowerOff (s : State) : Host.Outcome State Fault Refusal :=
  onDev (fun d =>
    let d := { d.coreStop false true with dbg := {} }
    d.setPwr { d.pwr with state := .off, sysOn := false, heldReset := false, timedOut := false, retries := 0, inRom := false,
                          supEn := false, wakeLatched := none }) s

/-- VSUP_LOG_GOOD (R715): VSUP_LOG above 4.75 V ends step 3, and steps 4 to 9 follow. -/
def execVsupLogGood (x : BootIn) (s : State) : Host.Outcome State Fault Refusal :=
  onDev (fun d => if d.pwr.state = .start ∧ !d.pwr.sysOn ∧ !d.pwr.heldReset then d.startUp x true else d) s

/-! ### Supply and temperature warnings (R709, R721, R723, R771) -/

/-- VSUP_LOW (R721): the flag, the record, the operating time and a short capture. -/
def execVsupLow (s : State) : Host.Outcome State Fault Refusal :=
  onDev (fun d =>
    if d.sysPowered then
      let d := ((d.wr PWR_EVT_VLOW 1).trig 0x0605 []).optimeSave true
      if d.coreRuns then d.captureShort else d
    else d) s

/-- VSUP_HIGH (R721). -/
def execVsupHigh (s : State) : Host.Outcome State Fault Refusal :=
  onDev (fun d => if d.sysPowered then (d.wr PWR_EVT_VHIGH 1).trig 0x0606 [] else d) s

/-- VKEEP_LOW (R723). -/
def execVkeepLow (s : State) : Host.Outcome State Fault Refusal :=
  onDev (fun d => if d.sysPowered then (d.wr PWR_EVT_VKLOW 1).trig 0x060B [] else d) s

/-- CORE_TEMP_HIGH (R771). -/
def execCoreTempHigh (s : State) : Host.Outcome State Fault Refusal :=
  onDev (fun d => if d.sysPowered then (d.wr PWR_EVT_TEMP 1).trig 0x060A [] else d) s

/-- CLOCK_CHECK (R709): the measured deviation of the reference in ppm; beyond ±0.3 % it is reported. -/
def execClockCheck (ppm : Int) (s : State) : Host.Outcome State Fault Refusal :=
  onDev (fun d => if d.sysPowered ∧ 3000 < ppm.natAbs then (d.wr PWR_EVT_CLK 1).trig 0x0607 [sword ppm] else d) s

/-! ### DOZE (R700) -/

/-- DOZE_ENTER: a class C0 context writes PWR_REQ with 1. -/
def execDozeEnter (init : Nat) (s : State) : Host.Outcome State Fault Refusal :=
  onDevBy init (fun d =>
    if !d.c0Tag init then d.pwrRefuse init
    else if d.pwr.state = .run then ((d.setPwr { d.pwr with state := .doze }).wr PWR_STAT_STATE 1).answered 0
    else d.answered 0) s

/-- DOZE_EXIT: a class C0 context writes PWR_REQ with 0. -/
def execDozeExit (init : Nat) (s : State) : Host.Outcome State Fault Refusal :=
  onDevBy init (fun d =>
    if !d.c0Tag init then d.pwrRefuse init
    else if d.pwr.state = .doze then ((d.setPwr { d.pwr with state := .run }).wr PWR_STAT_STATE 0).answered 0
    else d.answered 0) s

/-! ### STANDBY and HIBERNATE (R701 to R705) -/

/-- STANDBY_REQUEST (R701, R631): ALLSLEEP has risen; a debugger that holds the request is reported. -/
def execStandbyRequest (s : State) : Host.Outcome State Fault Refusal :=
  onDev (fun d =>
    if d.flag NMW_STAT_ALLSLEEP ∧ d.awake ∧ !d.flag PWR_STAT_PEND then
      let d := ((d.wr PWR_STAT_PEND 1).wr PWR_EVT_REQ 1).setPwr { d.pwr with heldOnce := false }
      d.holdShow
    else d) s

/-- Something holds the commit point (R702). -/
def Dev.commitHeld (d : Dev) : Bool :=
  !d.pwr.leases.isEmpty || d.debugHold || d.flag KEY_STAT_LCBUSY || d.rd UPD_STAT_STATE == 3

/-- The wake detection that the running deck arms: the wake inputs that a cluster's mask holds and whose EDGE is not 0, and the
members that may wake their cluster (R115, R496, R514). -/
def Dev.wakeSources (d : Dev) : List WakeSrc :=
  ((List.range 16).flatMap fun k =>
    ((List.range 8).filter fun n => d.bit NMW_CL_WAKEIN k n && d.rdi BEAT_WKCFG_MODE n % 4 != 0).map fun n =>
      ⟨0, d.rdi BEAT_WKCFG_MODE n % 4, k, n⟩) ++
  (d.rdeck.sleepRecs.filter fun r => r.kind < 2).map fun r => ⟨r.index / 4096, r.kind, r.index / 256 % 16, r.index % 256⟩

/-- STANDBY_COMMIT (R701, R702, R634): the delay has ended. With nothing holding, the commit point: the operating time is
saved, code 0x0600 written, the signal image captured, sessions end and the debug level falls to CLOSED. -/
def execStandbyCommit (s : State) : Host.Outcome State Fault Refusal :=
  onDev (fun d =>
    if d.flag PWR_STAT_PEND ∧ d.awake then
      if d.commitHeld then d.holdShow
      else
        let d := (d.optimeSave true).trig 0x0600 []
        let d := (d.captureImage d.newSeq).each (List.range 4) fun d s => d.sessionEnd s 5
        let d := d.setPwr { d.pwr with wakeSrcs := d.wakeSources }
        (d.dbgLower 0 dcPOWER).setPwr { (d.dbgLower 0 dcPOWER).pwr with state := .standbyEntry }
    else d) s

/-- A wake begins: NMW_WAKESRC, SUP_EN high, and the start-up sequence from step 1 (R704). -/
def Dev.wakeBegin (d : Dev) (kind cause cluster unit : Nat) : Dev :=
  let d := ((d.wr NMW_WAKESRC_CAUSE cause).wr NMW_WAKESRC_CLUSTER cluster).wr NMW_WAKESRC_UNIT unit
  (d.wr PWR_STAT_LASTRST kind).setPwr { d.pwr with state := .start, sysOn := false, heldReset := false, retries := 0,
                                                   inRom := false, supEn := true, wakeLatched := none }

/-- STANDBY_CAPTURE_DONE (R701, R705): the core record completes the capture, the domains are turned off and SUP_EN falls.
A wake that has been latched begins. -/
def execStandbyCaptureDone (s : State) : Host.Outcome State Fault Refusal :=
  onDev (fun d =>
    if d.pwr.state = .standbyEntry then
      let d := (d.captureRecord d.pwr.retSigSeq).coreStop false false
      let d := d.setPwr { d.pwr with state := .standby, sysOn := false, supEn := false }
      match d.pwr.wakeLatched with
      | some w => d.wakeBegin 6 w.1 w.2.1 w.2.2
      | none => d
    else d) s

/-- HIBERNATE_ENTRY (R703): HIBAFTER minutes have passed without a wake; 0 keeps STANDBY. -/
def execHibernateEntry (s : State) : Host.Outcome State Fault Refusal :=
  onDev (fun d =>
    if d.pwr.state = .standby ∧ d.rd PWR_CFG_HIBAFTER ≠ 0 then d.setPwr { d.pwr with state := .hibernate } else d) s

/-- A wake reaches the module: latched during the entry, begun in STANDBY and HIBERNATE, and also when the core die stays
in reset after failed start-ups (R704, R705, R716, log entry 26). -/
def Dev.moduleWake (d : Dev) (cause cluster unit : Nat) : Dev :=
  match d.pwr.state with
  | .standbyEntry =>
    if d.pwr.wakeLatched.isSome then d else d.setPwr { d.pwr with wakeLatched := some (cause, cluster, unit) }
  | .standby => d.wakeBegin 6 cause cluster unit
  | .hibernate => d.wakeBegin 7 cause cluster unit
  | .start => if d.pwr.heldReset then d.wakeBegin 8 cause cluster unit else d
  | _ => d

/-- A wake event at a unit reaches a source of wake detection (R115, R506, R514): the selected edge of a wake input; activity at
a mode 0 member, in HIBERNATE not on Ethernet; a wake frame or a frame-error overflow at a mode 1 CAN member, which in
HIBERNATE wakes by the wake-up pattern alone, as a mode 0 member; a wakeup pattern at a time-triggered member. -/
def WakeSrc.wakes (w : WakeSrc) (hib : Bool) (cause cluster unit : Nat) (rising : Bool) : Bool :=
  w.cluster == cluster && w.unit == unit &&
    (if cause = 3 then w.kind == 0 && w.mode.testBit (if rising then 0 else 1)
    else if cause = 5 then w.kind == 1 && (w.mode == 0 || hib) || w.kind == 3 && w.mode == 0 && !hib
    else if cause = 6 ∨ cause = 8 then w.kind == 1 && w.mode == 1 && !hib
    else if cause = 7 then w.kind == 2 && w.mode == 0
    else false)

/-- Whether a wake is detected in the present power state; while the core die is held in reset after failed start-ups, any
wake (R514, R716, log entry 26). -/
def Dev.wakeSeen (d : Dev) (cause cluster unit : Nat) (rising : Bool) : Bool :=
  match d.pwr.state with
  | .standbyEntry | .standby => d.pwr.wakeSrcs.any fun w => w.wakes false cause cluster unit rising
  | .hibernate => d.pwr.wakeSrcs.any fun w => w.wakes true cause cluster unit rising
  | .start => d.pwr.heldReset
  | _ => false

/-- WAKE_FROM_STANDBY (R704, R705, R514): a wake of R514 with the code of its CAUSE, its cluster and its unit; of a wake input
whether the edge rises. -/
def execWakeFromStandby (cause cluster unit : Nat) (rising : Bool) (s : State) : Host.Outcome State Fault Refusal :=
  onDev (fun d => if d.wakeSeen cause cluster unit rising then d.moduleWake cause cluster unit else d) s

/-! ### Leases (R702) -/

/-- HOLDERS shows the leases held. -/
def Dev.setLeases (d : Dev) (l : List Nat) : Dev := (d.setPwr { d.pwr with leases := l }).wr PWR_HOLD_HOLDERS l.length

/-- PWR_HOLD_TAKE: a context takes or renews its lease. -/
def execPwrHoldTake (init : Nat) (s : State) : Host.Outcome State Fault Refusal :=
  onDevBy init (fun d =>
    let c := d.tag init
    if d.ctxRuns c then
      (if d.awake ∧ !d.pwr.leases.contains c then d.setLeases (d.pwr.leases ++ [c]) else d).answered 0
    else d.pwrRefuse init) s

/-- PWR_HOLD_RELEASE. -/
def execPwrHoldRelease (init : Nat) (s : State) : Host.Outcome State Fault Refusal :=
  onDevBy init (fun d =>
    let c := d.tag init
    if d.ctxRuns c then (d.setLeases (d.pwr.leases.filter (· ≠ c))).answered 0 else d.pwrRefuse init) s

/-- PWR_LEASE_LAPSE: 10 s after the last write of a context's lease. -/
def execPwrLeaseLapse (c : Nat) (s : State) : Host.Outcome State Fault Refusal :=
  onDev (fun d => d.setLeases (d.pwr.leases.filter (· ≠ c))) s

/-! ### Domain and bus-die resets (R719, R720) -/

/-- DOMAIN_RESET: a write to PWR_DRST; 0, 1 and 2 are refused, as is a write of a context that is barred (R215). -/
def execDomainReset (init k : Nat) (s : State) : Host.Outcome State Fault Refusal :=
  onDevBy init (fun d => if k < 3 ∨ 15 < k ∨ d.ctxBarred (d.tag init) then d.pwrRefuse init else (d.domainReset k).answered 0) s

/-- DOMAIN_RESET_DONE. -/
def execDomainResetDone (k : Nat) (s : State) : Host.Outcome State Fault Refusal := onDev (fun d => d.domainDone k) s

/-- BUS_DIE_RESET (R720): its VSUP_LOG parts browned out. -/
def execBusDieReset (s : State) : Host.Outcome State Fault Refusal :=
  onDev (fun d => if d.sysPowered then d.busDieReset else d) s

/-! ### Watchdogs (R722) -/

/-- The watchdog of a hart counts: EN, and not halted by the debugger (R629, R722). -/
def Dev.dogRuns (d : Dev) (h : Nat) : Bool := d.flagi PWR_WDCFG_EN h && !d.bit DBG_STAT_HALTED 0 h

/-- WATCHDOG_KICK: a write to PWR_WDKICKh. Only hart h may write it, and only the key restarts the count. -/
def execWatchdogKick (init h key : Nat) (s : State) : Host.Outcome State Fault Refusal :=
  onDevBy init (fun d =>
    if init ≠ h ∨ d.ctxBarred (d.tag init) then d.pwrRefuse init
    else if key = 0x4B49434B then (d.setPwr { d.pwr with warned := d.pwr.warned.filter (· ≠ h) }).answered 0
    else d.answered 0) s

/-- WATCHDOG_WARNING: the count passes 75 % of PERIOD. -/
def execWatchdogWarning (h : Nat) (s : State) : Host.Outcome State Fault Refusal :=
  onDev (fun d =>
    if d.dogRuns h ∧ !d.pwr.warned.contains h then
      (d.wr PWR_EVT_WDWARN 1).setPwr { d.pwr with warned := d.pwr.warned ++ [h] }
    else d) s

/-- WATCHDOG_EXPIRY: code 0x0604, then the reset of the hart's domain or of the core die by ACTION. -/
def execWatchdogExpiry (h : Nat) (x : BootIn) (s : State) : Host.Outcome State Fault Refusal :=
  onDev (fun d =>
    if d.dogRuns h then
      let d := (d.trig 0x0604 [h]).inc PWR_CNT_WDRESETS
      let d := d.setPwr { d.pwr with warned := d.pwr.warned.filter (· ≠ h) }
      if d.flagi PWR_WDCFG_ACTION h then d.warmReset 3 true x
      else match d.hartDomain h with
        | some k => d.domainReset k
        | none => d
    else d) s

end Sys2Proof.Machine
end

