-- ==== Sys2Proof/Machine/SessionKeys.lean ====
section
/-! DEFINITION. The keys of a Shuttle session: what CHALLENGE and PROOF carry, and the keys and salts of both directions (R525, R529);
and the shared secrets by which a host shows itself (R528, R577, R606, R621). -/

namespace Sys2Proof.Machine

/-- The module's ephemeral public key of a handshake (R529). -/
def HalfOpen.epubM (x : HalfOpen) : List Byte := beOf 64 (Config.ecPublic false x.priv)

/-- The slot of a host holds a committed key (R528, R577). -/
def Dev.hostKey (d : Dev) (h : Nat) : Bool := d.rdi KEY_SLOTSTAT_STATE (496 + h) == 1

/-- The secret of a host: the key in slot 496 + HOST_ID, for which the factory secret stands in for host 15 in BLANK and RETURNED,
while the module is Keyless, and in PROVISIONED until the slot holds a committed key (R528, R577). -/
def Dev.hostSecret (d : Dev) (h : Nat) : List Byte :=
  let lc := d.lifeState
  if h = 15 ∧ (lc = lsBLANK ∨ lc = lsRETURNED ∨ d.keyless ∨ (lc = lsPROVISIONED ∧ !d.hostKey 15)) then factoryKey
  else (d.keySlot (496 + h)).key

/-- An AUTH verifies: it is the HMAC under the factory secret in BLANK and RETURNED and for a Keyless module's way back or out, else
under the key of slot 486, over TARGET, the current state, NONCE_M and MODULE_ID (R605, R606). -/
def Dev.authOk (d : Dev) (dst nonceM : Nat) (auth : List Byte) : Bool :=
  let lc := d.lifeState
  let factory := lc == lsBLANK || lc == lsRETURNED || (d.keyless && (dst == lsPROVISIONED || dst == lsSCRAPPED))
  let key := if factory then factoryKey else (d.keySlot 486).key
  (factory || d.rdi KEY_SLOTSTAT_STATE 486 == 1) &&
    auth == hmac key (beBytes [(1, dst), (1, lc), (16, nonceM)] ++ d.moduleId)

/-- A response at the test port verifies: it is the HMAC under the factory secret in BLANK and RETURNED, else under the key of slot 485,
over LEVEL, LC, NONCE and MODULE_ID (R621, R622). -/
def Dev.unlockOk (d : Dev) (level nonce : Nat) (resp : List Byte) : Bool :=
  let lc := d.lifeState
  let key := if lc = lsBLANK ∨ lc = lsRETURNED then factoryKey else (d.keySlot 485).key
  resp == hmac key (beBytes [(1, level), (1, lc), (16, nonce)] ++ d.moduleId)

/-- RESP_M: the module's proof in CHALLENGE (R529). -/
def Dev.respM (d : Dev) (x : HalfOpen) : List Byte :=
  hmac (d.hostSecret x.host) (beOf 16 x.nonceH ++ d.moduleId ++ x.epubM ++ beOf 64 x.epubH)

/-- RESP_H: what a PROOF must carry to verify (R529). -/
def Dev.respH (d : Dev) (x : HalfOpen) : List Byte :=
  hmac (d.hostSecret x.host) (beOf 16 x.nonceM ++ beOf 2 x.host ++ beOf 64 x.epubH ++ x.epubM)

/-- The 72 bytes of key material of a session (R529). -/
def HalfOpen.material (x : HalfOpen) : List Byte :=
  hkdf false (beOf 32 (Config.ecShared false x.priv x.epubH)) (beOf 16 x.nonceH ++ beOf 16 x.nonceM)
    ([0x53, 0x48, 0x54, 0x4C] ++ beBytes [(4, x.number), (2, x.host)]) 72

/-- K_HM, K_MH, SALT_HM and SALT_MH (R529). -/
def HalfOpen.keys (x : HalfOpen) : SessionKeys :=
  let m := x.material
  { hm := m.take 32, mh := (m.drop 32).take 32, saltHm := (m.drop 64).take 4, saltMh := (m.drop 68).take 4 }

/-- The initialisation vectors of a session's two directions (R525). -/
def SessionKeys.ivHm (k : SessionKeys) (seq : Nat) : List Byte := shtIv k.saltHm seq

def SessionKeys.ivMh (k : SessionKeys) (seq : Nat) : List Byte := shtIv k.saltMh seq

end Sys2Proof.Machine
end

