-- ==== Sys2Proof/Machine/Debug.lean ====
section
/-! DEFINITION. The test access port, the debug levels and their unlock (R616 to R638). -/

namespace Sys2Proof.Machine

/-! ### The test access port (R616, R626, R636) -/

/-- The module is in RUN or DOZE. -/
def Dev.tapRun (d : Dev) : Bool := d.pwr.state == .run || d.pwr.state == .doze

/-- The instruction is allowed by the debug level and the power state in force (R616, R626). -/
def Dev.tapAllows (d : Dev) (ir : Nat) : Bool :=
  let level := d.rd DBG_STAT_LEVEL
  if ir = 0x01 ∨ ir = 0x02 ∨ ir = 0x16 ∨ ir = 0x1F then true
  else if ir = 0x03 then decide (level = 2) && d.tapRun
  else if ir = 0x10 ∨ ir = 0x11 then decide (1 ≤ level) && d.tapRun
  else if ir = 0x14 ∨ ir = 0x15 then d.tapRun
  else if ir = 0x17 then d.pwr.state == .standby || d.pwr.state == .hibernate
  else false

/-- TCK toggles (R636). -/
def Dev.tck (d : Dev) : Dev := ({ d with dbg := { d.dbg with tck := d.now } }).wr DBG_STAT_ATTACHED 1

/-- Another instruction ends EXTEST, and the Treadle starts again (R618). -/
def Dev.extestEnd (d : Dev) : Dev :=
  if d.dbg.extest then
    let d := { d with dbg := { d.dbg with extest := false } }
    if d.coreRuns then d.treadleStart else d
  else d

/-- An instruction is scanned in, and `f` is what its data register does; one that is not allowed selects BYPASS (R616).
The module that is OFF has no TAP (R626). -/
def Dev.tapScan (d : Dev) (ir : Nat) (f : Dev → Dev) : Dev :=
  if d.pwr.state = .off then d
  else
    let d := d.tck
    let d := if ir = 0x03 ∧ d.tapAllows 0x03 then d else d.extestEnd
    if d.tapAllows ir then f { d with dbg := { d.dbg with ir := ir } }
    else ({ d with dbg := { d.dbg with ir := 0x1F } }).send (.tap 0x1F [])

/-- The identity that IDCODE shifts out (R617). -/
def Dev.idcode (d : Dev) : Nat := 0x10000000 + d.rd SYSCTL_PARTID_PART * 4096 + 0xCB7

/-- IDCODE (R617). -/
def execIdcode (s : State) : Host.Outcome State Fault Refusal :=
  onDev (fun d => d.tapScan 0x01 fun d => d.send (.tap 0x01 [d.idcode])) s

/-- SAMPLE/PRELOAD (R616): the boundary scan shifts out the levels of the lands, which the command brings. -/
def execSamplePreload (lands : List Nat) (s : State) : Host.Outcome State Fault Refusal :=
  onDev (fun d => d.tapScan 0x02 fun d => d.send (.tap 0x02 lands)) s

/-- EXTEST (R618): at FULL the boundary scan drives the lands, the Treadle stops, and the keepers take over. -/
def execExtest (lands : List Nat) (s : State) : Host.Outcome State Fault Refusal :=
  onDev (fun d => d.tapScan 0x03 fun d =>
    let d := if d.dbg.extest then d
      else
        let d := ({ d with dbg := { d.dbg with extest := true } }).wr TRD_STAT_STATE 0
        d.each (List.range 4) fun d b => if (d.bk b).keeperOn then d.handOver b else d
    d.send (.tap 0x03 lands)) s

/-- DTMCS (R616): the register's contents are those of the RISC-V debug transport module. -/
def execDtmcs (s : State) : Host.Outcome State Fault Refusal :=
  onDev (fun d => d.tapScan 0x10 fun d => d.send (.tap 0x10 [])) s

/-- DBGSTAT (R616): the image of DBG_STAT. -/
def execDbgstat (s : State) : Host.Outcome State Fault Refusal :=
  onDev (fun d => d.tapScan 0x16 fun d => d.send (.tap 0x16 [d.wordAt DBG_STAT_LEVEL.base 0])) s

/-- BYPASS (R616). -/
def execBypass (s : State) : Host.Outcome State Fault Refusal :=
  onDev (fun d => d.tapScan 0x1F fun d => d.send (.tap 0x1F [])) s

/-- WAKEREQ (R630): 1 scanned in wakes the module from STANDBY or HIBERNATE, but in SCRAPPED. -/
def execWakereq (bit : Bool) (s : State) : Host.Outcome State Fault Refusal :=
  onDev (fun d => d.tapScan 0x17 fun d =>
    let d := d.send (.tap 0x17 [])
    if bit ∧ d.lifeState ≠ lsSCRAPPED then d.moduleWake 0 0 0xFF else d) s

/-- NTRST (R616): the TAP is reset, so IDCODE is selected, and the level is CLOSED. -/
def execNtrst (s : State) : Host.Outcome State Fault Refusal :=
  onDev (fun d =>
    if d.pwr.state = .off then d
    else
      let d := d.extestEnd.dbgFall 0 dcNTRST
      { d with dbg := { d.dbg with ir := 0x01 } }) s

/-! ### The debug module (R619, R620, R629, R631, R632) -/

/-- The debug level reaches a hart (R619). -/
def Dev.reaches (d : Dev) (h : Nat) : Bool := (hartsOf (d.rd DBG_STAT_LEVEL)).testBit h

/-- A halt request: refused and counted from step 2 of a life-cycle transition on (R632). -/
def Dev.haltHart (d : Dev) (h : Nat) : Dev :=
  if d.reaches h then (d.setBit DBG_STAT_HALTED 0 h).holdShow else d

/-- An operation of the debug module. -/
def Dev.dmi (d : Dev) (o : DmiOp) : Dev :=
  match o with
  | .select => d
  | .halt h => d.haltHart h
  | .resume h => if d.reaches h then (d.clrBit DBG_STAT_HALTED 0 h).holdShow else d
  | .trigger h n v =>
    if d.reaches h ∧ n < 4 then { d with dbg := { d.dbg with triggers := d.dbg.triggers.set (h * 4 + n) v } } else d
  | .program n v => if n < 8 then { d with dbg := { d.dbg with progbuf := d.dbg.progbuf.set n v } } else d
  | .holdRun on => (d.wr DBG_CTL_HOLDRUN (b2n on)).holdShow
  | .haltReset on => d.wr DBG_CTL_HALTRST (b2n on)

/-- DMI (R619): an operation of the debug module interface, at APP and FULL. While a life-cycle transition is in progress
a halt request is refused and counted, although the level is CLOSED by then (R632). -/
def execDmi (o : DmiOp) (s : State) : Host.Outcome State Fault Refusal :=
  onDev (fun d =>
    let d := match o with
      | .halt _ => if d.flag KEY_STAT_LCBUSY ∧ d.pwr.state ≠ PowerState.off then d.inc DBG_CNT_REFUSED else d
      | _ => d
    d.tapScan 0x11 fun d => (if d.flag KEY_STAT_LCBUSY then d else d.dmi o).send (.tap 0x11 [])) s

/-! ### Unlock (R621 to R625) -/

/-- A level is allowed in the life-cycle state in force (R621). -/
def Dev.levelAllowed (d : Dev) (level : Nat) : Bool :=
  let lc := d.lifeState
  if lc = lsBLANK ∨ lc = lsRETURNED then level == 1 || level == 2
  else if within lc lsPROVISIONED lsSERVICE then
    level == 1 && !d.keyless && d.bit DBG_POLICY_APPLC 0 (lc - 1) && d.rdi KEY_SLOTSTAT_STATE 485 == 1
  else false

/-- The 264 bits that DBGCHAL reads with a live NONCE: LC, NONCE and MODULE_ID (R622). -/
def Dev.challenge (d : Dev) (nonce : Nat) : List Nat :=
  [d.lifeState, nonce] ++ (List.range 4).map fun n => d.rdi SHT_MODID_BYTES n

/-- DBGCHAL (R622 to R624): a lower level is taken at once; any other request draws a NONCE, or zeros while locked out. -/
def execDbgchal (level nonce : Nat) (s : State) : Host.Outcome State Fault Refusal :=
  onDev (fun d => d.tapScan 0x14 fun d =>
    let d := d.nonceEnd
    if level < d.rd DBG_STAT_LEVEL then (d.dbgFall level dcREQUEST).send (.tap 0x14 [])
    else if d.dbg.locked then d.send (.tap 0x14 [0, 0, 0, 0, 0, 0])
    else
      let d := ({ d with dbg := { d.dbg with nonce := some (level, nonce) } }).wr DBG_STAT_CHRDY 1
      d.send (.tap 0x14 (d.challenge nonce))) s

/-- A failed unlock; the third within its window locks DBGCHAL for 300 s (R622, R623). -/
def Dev.unlockFail (d : Dev) : Dev :=
  let third := d.fwFires .unlock 3
  let d := (((d.wr DBG_EVT_FAIL 1).inc DBG_CNT_FAILS).trig 0x0511 []).fwEvent .unlock 3
  if third then
    (({ d with dbg := { d.dbg with locked := true } }).wr DBG_STAT_LOCKLEFT 300).wr DBG_EVT_LOCKOUT 1 |>.trig 0x0512 []
  else d

/-- DBGRESP (R622, R623). -/
def execDbgresp (resp : List Byte) (s : State) : Host.Outcome State Fault Refusal :=
  onDev (fun d => d.tapScan 0x15 fun d =>
    let asked := d.dbg.nonce
    let d := d.nonceEnd.send (.tap 0x15 [])
    match asked with
    | some (level, nonce) =>
      if d.levelAllowed level ∧ d.unlockOk level nonce resp then
        ((d.wr DBG_STAT_LEVEL level).wr DBG_EVT_LEVEL 1).trig 0x0510 [level, d.lifeState]
      else d.unlockFail
    | none => d.unlockFail) s

/-- NONCE_EXPIRY (R623): 60 s after it was drawn. -/
def execNonceExpiry (s : State) : Host.Outcome State Fault Refusal := onDev (fun d => d.nonceEnd) s

/-- DBG_LOCKOUT_END (R623). -/
def execDbgLockoutEnd (s : State) : Host.Outcome State Fault Refusal :=
  onDev (fun d =>
    if d.dbg.locked then
      (({ d with dbg := { d.dbg with locked := false } }).wr DBG_STAT_LOCKLEFT 0).fwClear .unlock
    else d) s

/-- DBG_CLOSE (R624): a write of DBG_CTL.CLOSE, refused to a context whose writes are (R215). -/
def execDbgClose (init : Nat) (s : State) : Host.Outcome State Fault Refusal :=
  onBlockBy init 0x40810000 (fun d =>
    if d.pwr.state = .off then d
    else if d.ctxBarred (d.tag init) then d.refuse (d.tag init) DBG_ACCERR_ACC_ERR 0
    else d.dbgFall 0 dcCLOSE) s

end Sys2Proof.Machine
end

