-- ==== Sys2Proof/Machine/Faults.lean ====
section
/-! DEFINITION. Faults of the module's own hardware: memory rows, cores and pairs, CAN controllers, NOR sectors and the bus
link, with their counters and lasting-fault actions (R555, R560 to R563, R727 to R741). -/

namespace Sys2Proof.Machine

/-! ### Shared parts of the actions (R733, R745) -/

def acRESTART : Nat := 0
def acSUBST : Nat := 1
def acREPAIR : Nat := 2
def acLATCH : Nat := 3
def acEXHAUST : Nat := 4
def acWITHDRAW : Nat := 5

/-- The action below THRESH shows in FLT_LAST alone (R733, R745, log entry 34). -/
def Dev.restartLast (d : Dev) (kind unit : Nat) : Dev :=
  ((d.wr FLT_LAST_KIND kind).wr FLT_LAST_ACTION acRESTART).wr FLT_LAST_UNIT unit

/-- A spare was due and none remains (R733). -/
def Dev.exhausted (d : Dev) (unit : Nat) : Dev := (d.wr FLT_EVT_EXHAUST 1).trig 0x0703 [unit]

/-- A unit is taken out of use with no replacement (R733). -/
def Dev.latchOff (d : Dev) (unit : Nat) : Dev := (d.wr FLT_EVT_LATCHOFF 1).trig 0x0704 [unit]

/-! ### Window close (R727, R728) -/

/-- The threshold of a counter (R212, R265, R319, R368, R402, R531, R623, R731, R737, R738). -/
def Dev.threshOf (d : Dev) : CounterId → Nat
  | .row _ => 3
  | .core _ => 3
  | .pair _ => 3
  | .can _ => 3
  | .cell m _ => d.rdi BANK_CFG_CELLTH (m / 16)
  | .nor _ => 2
  | .busLink => 16
  | .bankLink _ => 64
  | .channel m => d.rdi CH_FAULT_THRESH m
  | .noPartner c => d.rdi CAN_NOPART_THRESH c
  | .truncation t _ => d.rdi TT_GUARD_THRESH t
  | .handshake => 8
  | .unlock => 3
  | .access _ => 16
  | .resets _ => 3
  | .retrain _ => 3
  | .busReset => 3

/-- FAULT_WINDOW_CLOSE (R727): a window closes with the count below THRESH, and the count returns to 0. A row whose window
closes is no longer followed (R734). -/
def execFaultWindowClose (c : CounterId) (s : State) : Host.Outcome State Fault Refusal :=
  onDev (fun d =>
    if d.fwCount c = 0 ∨ d.threshOf c ≤ d.fwCount c then d
    else
      let d := d.fwClear c
      match c with
      | .row a => { d with flt := { d.flt with suspects := d.flt.suspects.filter (· ≠ a) } }
      | _ => d) s

/-! ### Memory rows (R563, R734, R735) -/

/-- The row that holds an address. -/
def rowOf (a : Nat) : Nat := a / 1024 * 1024

/-- A row of SRAM or MRAM. -/
def memoryRow (r : Nat) : Bool :=
  (decide (0x20000000 ≤ r) && decide (r < 0x21800000)) || (decide (0x08000000 ≤ r) && decide (r < 0x08800000))

/-- A row of the bobbin pool (R28, R735, log entry 5). -/
def poolRow (r : Nat) : Bool :=
  decide (0x20C80000 + Config.poolStart.val * 1024 ≤ r) && decide (r < 0x20C80000 + (Config.poolStart.val + 768) * 1024)

/-- A row of the switch packet buffer. -/
def packetRow (r : Nat) : Bool := decide (0x21380000 ≤ r) && decide (r < 0x21780000)

/-- The row is followed; with 32 rows followed the one whose window opened first gives up its place (R734). -/
def Dev.follow (d : Dev) (r : Nat) : Dev :=
  if d.flt.suspects.contains r then d
  else if d.flt.suspects.length < 32 then { d with flt := { d.flt with suspects := d.flt.suspects ++ [r] } }
  else match d.flt.suspects with
    | old :: rest => { (d.fwClear (.row old)) with flt := { d.flt with suspects := rest ++ [r] } }
    | [] => d

/-- A redundancy row of the row's kind is left: 128 of SRAM, 32 of MRAM (R734). -/
def Dev.rowLeft (d : Dev) (r : Nat) : Bool :=
  if r < 0x10000000 then decide (0 < d.rd FLT_STAT_MROWS) else decide (0 < d.rd FLT_STAT_SROWS)

/-- A redundancy row takes the failed row's place, and the row's counter starts anew with it (R733, R734). The UNIT of a row
is not stated: a free value. -/
def Dev.rowRepair (d : Dev) (r : Nat) : Dev :=
  let unit := d.freeVal 16
  let d := d.fresh.lasting 0 acREPAIR unit
  let d := d.fwClear (.row r)
  let d := { d with flt := { d.flt with rows := d.flt.rows ++ [r], suspects := d.flt.suspects.filter (· ≠ r) } }
  ((d.repairShow.inc FLT_REPCNT_ROWREP).wr FLT_EVT_REPAIRED 1).trig 0x0701 [r]

/-- A row fails with no redundancy row left (R735). -/
def Dev.rowExhausted (d : Dev) (r : Nat) : Dev :=
  let unit := d.freeVal 16
  let out := poolRow r || packetRow r
  let d := (d.fresh.lasting 0 (if out then acWITHDRAW else acEXHAUST) unit).exhausted unit
  if poolRow r then
    let d := { d with flt := { d.flt with poolSegs := d.flt.poolSegs ++ [r] } }
    d.repairShow.poolFit.trig 0x0707 [r]
  else if packetRow r then
    let seg := r / 16384 * 16384
    let d := { d with flt := { d.flt with swxSegs := d.flt.swxSegs ++ [seg] } }
    d.repairShow.swxFit.trig 0x0707 [seg]
  else d

/-- `n` events of a row: 1 for a corrected read, 3 for an uncorrectable one; the third of its window is a lasting fault
(R731, R734). -/
def Dev.rowEvent (d : Dev) (a n : Nat) : Dev :=
  let r := rowOf a
  if !memoryRow r then d
  else
    let d := (d.wr FLT_ROWLAST_ADDR r).follow r
    let was := d.fwCount (.row r)
    let d := d.each (List.range n) fun d _ => d.fwEvent (.row r) 3
    if was < 3 ∧ d.fwCount (.row r) = 3 then
      if d.rowLeft r then d.rowRepair r else d.rowExhausted r
    else d

/-- MEMORY_ROW_FAIL (R731, R734, R735): a row error found outside an SRAM read of R563. -/
def execMemoryRowFail (addr : Nat) (unc : Bool) (s : State) : Host.Outcome State Fault Refusal :=
  onDev (fun d => if d.coreRuns then d.rowEvent addr (if unc then 3 else 1) else d) s

/-! ### Partition restart and substitution of cores and pairs (R555, R560, R561, R733) -/

/-- The map of logical harts to places once the set in service is `act`: each logical hart's physical one, `subst` for the
one replaced; a hart with none takes place 3 (R567). -/
def hartMap (act : List Nat) (phys : Nat → Option Nat) : Nat :=
  ((List.range 4).map fun n =>
    (match phys n with
      | some p => min 3 (act.idxOf p)
      | none => 3) * 4 ^ n).sum

/-- Contexts bound to a hart without a spare stay STOPPED (R561). -/
def Dev.stopBound (d : Dev) (p : Nat → Bool) : Dev :=
  let cs := ((d.rdeck.contexts.filter fun r => p r.bind).map fun r => r.ctx).filter fun c =>
    d.ctxState c == 2 && !d.ctx.stopPending.contains c
  { d with ctx := { d.ctx with stopPending := d.ctx.stopPending ++ cs } }

/-- Fields and sets of a kind of hart: the application cores or the real-time pairs. -/
structure HartKind where
  kind : Nat
  mask : Nat
  fail : Field
  map : Field
  spareBit : Nat
  low : Nat

def Dev.appKind (d : Dev) : HartKind :=
  ⟨1, d.rdeck.sys.appMask, SYSCTL_CPUMAP_FAILAPP, SYSCTL_CPUMAP_APPMAP, 1, 3⟩

def Dev.rtKind (d : Dev) : HartKind :=
  ⟨2, d.rdeck.sys.rtMask, SYSCTL_CPUMAP_FAILRT, SYSCTL_CPUMAP_RTMAP, 0, 7⟩

/-- The idle spare of a kind: the physical hart that neither the deck's mask nor the failed set names (R551, R556). -/
def Dev.idleSpare (d : Dev) (k : HartKind) : Option Nat :=
  if d.bit SYSCTL_CPUMAP_SPARES 0 k.spareBit then
    (List.range 5).find? fun p => !k.mask.testBit p && !(d.rd k.fail).testBit p
  else none

/-- A hart has failed and no spare takes its place: it stays halted and its contexts stay STOPPED (R561). -/
def Dev.hartGone (d : Dev) (k : HartKind) (n j : Nat) : Dev := ((d.stopBound (domainBinds (k.low + n))).exhausted j).latchOff j

/-- The lasting fault of physical hart `j`, logical `n` of its kind: the spare takes its place, or it stays halted (R560 steps 1 and 2,
R561). The spare's interrupt files or delivery control, and for a pair its tightly coupled memory, are cleared, and a spare pair
takes the partition's BIND (R207). -/
def Dev.hartLasting (d : Dev) (k : HartKind) (j n : Nat) : Dev :=
  let was := activeSet k.mask (d.rd k.fail)
  let old := fun (i : Nat) => was[d.rd k.map / 4 ^ i % 4]?
  let spare := d.idleSpare k
  let d := (d.lasting k.kind (if spare.isSome then acSUBST else acEXHAUST) j).resetBound (domainBinds (k.low + n))
  let d := d.setBit k.fail 0 j
  let act := activeSet k.mask (d.rd k.fail)
  let d := d.wr k.map (hartMap act fun i => if i = n then spare else old i)
  match spare with
  | some p =>
    let d := d.clrBit SYSCTL_CPUMAP_SPARES 0 k.spareBit
    let d := if k.kind = 2 then
        ((d.resetRange (0x40004000 + 0x20 * n) (0x40004020 + 0x20 * n)).memForget (0x20A00000 + 0x80000 * n)
          (0x20A80000 + 0x80000 * n)).showBinds
      else d
    let d := (d.setPwr { d.pwr with resetting := d.pwr.resetting.filter (· ≠ k.low + n) }).setBit PWR_STAT_DOMON 0 (k.low + n)
    { d with flt := { d.flt with joining := d.flt.joining ++ [(k.kind, n, j, p)] } }
  | none => d.hartGone k n j

/-- The last steps of a substitution (R560, R562): the spare starts, the APLIC sends a core the messages of the sources that stay
asserted, and the spare has taken over. -/
def Dev.hartJoined (d : Dev) (e : Nat × Nat × Nat × Nat) : Dev :=
  let d := d.send (.hartStart (e.1 == 2) e.2.2.2 0x100 e.2.1)
  let d := if e.1 = 1 then d.announceCore e.2.1 else d
  (d.wr FLT_EVT_SUBST 1).trig 0x0702 [e.2.2.1, e.2.2.2]

/-- The substitutions under way end (R560, log entry 67). -/
def Dev.hartsJoin (d : Dev) : Dev :=
  ({ d with flt := { d.flt with joining := [] } } : Dev).each d.flt.joining Dev.hartJoined

/-- An event on a spare whose substitution is under way ends it: the spare is marked failed, and the unit that it was to replace is
handled as one without a spare (R740). -/
def Dev.spareFails (d : Dev) (k : HartKind) (e : Nat × Nat × Nat × Nat) : Dev :=
  let n := e.2.1
  let was := activeSet k.mask (d.rd k.fail)
  let old := fun (i : Nat) => was[d.rd k.map / 4 ^ i % 4]?
  let d := { d with flt := { d.flt with joining := d.flt.joining.filter (· != e) } }
  let d := (d.lasting k.kind acEXHAUST e.2.2.1).setBit k.fail 0 e.2.2.2
  let act := activeSet k.mask (d.rd k.fail)
  (d.wr k.map (hartMap act fun i => if i = n then none else old i)).hartGone k n e.2.2.1

/-- The substitution under way in which a physical hart is the spare. -/
def Dev.joiningOf (d : Dev) (kind p : Nat) : Option (Nat × Nat × Nat × Nat) :=
  d.flt.joining.find? fun e => e.1 == kind && e.2.2.2 == p

/-- CORE_ERROR (R731): an error of physical core `j`: a restart of its domain, or the lasting fault's action. -/
def execCoreError (j : Nat) (s : State) : Host.Outcome State Fault Refusal :=
  onDev (fun d =>
    if d.coreRuns ∧ j < 5 then
      match d.coreIndex j with
      | some n =>
        match d.joiningOf 1 j with
        | some e => d.spareFails d.appKind e
        | none =>
          let fires := d.fwFires (.core j) 3
          let d := d.fwEvent (.core j) 3
          if fires then d.hartLasting d.appKind j n else (d.domainReset (3 + n)).restartLast 1 j
      | none => d
    else d) s

/-- A pair's event: its partition restarts on the same pair, or the lasting fault's action is taken (R555, R731). -/
def Dev.pairEvent (d : Dev) (j n : Nat) : Dev :=
  match d.joiningOf 2 j with
  | some e => d.spareFails d.rtKind e
  | none =>
    let fires := d.fwFires (.pair j) 3
    let d := d.fwEvent (.pair j) 3
    if fires then d.hartLasting d.rtKind j n else (d.resetBound (domainBinds (7 + n))).restartLast 2 j

/-- LOCKSTEP_MISMATCH (R555): the cores of physical pair `j` disagree; the differing access is discarded. -/
def execLockstepMismatch (j : Nat) (s : State) : Host.Outcome State Fault Refusal :=
  onDev (fun d =>
    if d.coreRuns ∧ j < 5 then
      match d.pairPart j with
      | some n => d.pairEvent j n
      | none => d
    else d) s

/-! ### SRAM errors (R563, R731) -/

/-- The physical pair whose tightly coupled memory holds an address (R28, R556). -/
def Dev.tcmPair (d : Dev) (a : Nat) : Option (Nat × Nat) :=
  if 0x20A00000 ≤ a ∧ a < 0x20C00000 then
    let n := (a - 0x20A00000) / 0x80000
    ((List.range 5).find? fun j => d.pairPart j == some n).map fun j => (j, n)
  else none

/-- A corrected read of a word: counted, and an event of its row (R563). -/
def Dev.sramCorrected (d : Dev) (a : Nat) : Dev := (d.inc SYSCTL_ECCCNT_COR).rowEvent a 1

/-- An uncorrectable word is found: marked, counted with its address, and events of its row, and of the pair whose tightly
coupled memory it is (R563, R731, R734). -/
def Dev.sramUncorrectable (d : Dev) (a : Nat) : Dev :=
  let w := a / 8 * 8
  let d := if d.cpu.marked.contains w then d else { d with cpu := { d.cpu with marked := d.cpu.marked ++ [w] } }
  let d := ((d.inc SYSCTL_ECCCNT_UNC).wr SYSCTL_ECCADDR_ADDR a).rowEvent a 3
  match d.tcmPair a with
  | some p => d.pairEvent p.1 p.2
  | none => d

/-- An address of SRAM. -/
def inSram (a : Nat) : Bool := decide (0x20000000 ≤ a) && decide (a < 0x21800000)

/-- SRAM_ECC_READ (R563): a read of `n` bytes that meets an error; an uncorrectable one ends in an access fault. -/
def execSramEccRead (addr n : Nat) (unc : Bool) (s : State) : Host.Outcome State Fault Refusal :=
  onDev (fun d =>
    if inSram addr ∧ d.coreRuns then
      if unc then (d.sramUncorrectable addr).faulted else (d.sramCorrected addr).answered (leVal (d.peek addr n))
    else d) s

/-- SRAM_SCRUB (R563): one pass over system SRAM, with the addresses of the words it finds correctable and
uncorrectable. -/
def execSramScrub (cor unc : List Nat) (s : State) : Host.Outcome State Fault Refusal :=
  onDev (fun d =>
    if d.coreRuns then
      let own := fun (a : Nat) => decide (0x20000000 ≤ a) && decide (a < 0x20A00000)
      (d.each (cor.filter own) Dev.sramCorrected).each (unc.filter own) Dev.sramUncorrectable
    else d) s

/-! ### CAN controllers (R375, R731, R739, R740) -/

/-- The block index that a physical controller serves: a spare's, its own while no spare serves it, else none. -/
def Dev.servedBy (d : Dev) (u : Nat) : Option Nat :=
  if d.flt.failedUnits.contains u then none
  else if 24 ≤ u ∧ !d.rdeck.canJoined u then d.can.subst.find u
  else if d.canUnit u = u then some u else none

/-- The spare that is taken next: CANS0 first (R739). -/
def Dev.canSpare (d : Dev) : Option Nat :=
  [24, 25].find? fun p => d.canSpares.contains p

/-- A controller is marked failed; a spare that fails serves no longer (R740, R741). -/
def Dev.canFailed (d : Dev) (u : Nat) : Dev :=
  { d with flt := { d.flt with failedUnits := d.flt.failedUnits ++ [u] },
           can := { d.can with subst := d.can.subst.erase u } }.wri CAN_STAT_SERVES u (CAN_STAT_SERVES.resetVal u)

/-- No spare remains for block `c`, whose controller `u` has failed (R733); of a spare whose substitution is under way, for the unit
that it was to replace (R740). -/
def Dev.canExhausted (d : Dev) (c u : Nat) : Dev :=
  let unit := (d.can.joining.find c).getD u
  let d := (((d.lasting 3 acEXHAUST unit).canFailed u).exhausted unit).latchOff unit
  let d := { d with can := { d.can with joining := d.can.joining.erase c } }
  (d.canRestart c).repairShow

/-- The lasting fault of controller `u`, which serves block `c`: the spare starts integration with empty buffers and queues
(R375). -/
def Dev.canLasting (d : Dev) (c u : Nat) : Dev :=
  match d.canSpare with
  | some p =>
    let d := (d.lasting 3 acSUBST u).canFailed u
    let d := { d with can := { d.can with subst := d.can.subst.set p c, joining := d.can.joining.set c u } }
    (d.canRestart c).repairShow
  | none => d.canExhausted c u

/-- CAN_CONTROLLER_ERROR (R731): an error of physical controller `u`: a restart, or the lasting fault's action. An error of a
spare whose substitution is under way ends it (R740). -/
def execCanControllerError (u : Nat) (s : State) : Host.Outcome State Fault Refusal :=
  onDev (fun d =>
    if !d.coreRuns ∨ 26 ≤ u then d
    else match d.servedBy u with
      | none => d
      | some c =>
        if 24 ≤ u ∧ (d.can.joining.find c).isSome then d.canExhausted c u
        else
          let fires := d.fwFires (.can u) 3
          let d := d.fwEvent (.can u) 3
          if fires then d.canLasting c u else ((d.imageCan c).canLeave c).restartLast 3 u) s

/-! ### NOR sectors (R731, R736) -/

/-- The address of a NOR sector of 64 KB. -/
def sectorAddr (n : Nat) : Nat := 0x10000000 + n * 65536

/-- NOR_VERIFY_FAIL (R731, R736): an erase or program of sector `n` fails its verify; at THRESH a spare sector takes its
place. -/
def execNorVerifyFail (n : Nat) (s : State) : Host.Outcome State Fault Refusal :=
  onDev (fun d =>
    if !d.coreRuns ∨ 2048 ≤ n then d
    else
      let fires := d.fwFires (.nor n) 2
      let d := d.fwEvent (.nor n) 2
      if !fires then d
      else if 0 < d.rd FLT_STAT_NORSP then
        let d := (d.lasting 5 acREPAIR n).fwClear (.nor n)
        let d := { d with flt := { d.flt with sectors := d.flt.sectors ++ [n] } }
        ((d.repairShow.inc FLT_REPCNT_NORREP).wr FLT_EVT_REPAIRED 1).trig 0x0701 [sectorAddr n]
      else ((d.lasting 5 acEXHAUST n).exhausted n).latchOff n) s

/-! ### Bus link (R731, R737) -/

/-- BUS_LINK_CRC_ERROR (R731, R737): the frame is repeated; at THRESH the bus die is reset. The ACTION of that reset is not
among those of R745: a free value, but for the third, which latches the bus die off. -/
def execBusLinkCrcError (s : State) : Host.Outcome State Fault Refusal :=
  onDev (fun d =>
    if !d.coreRuns ∨ d.flt.busHeld then d
    else
      let fires := d.fwFires .busLink 16
      let d := d.fwEvent .busLink 16
      if !fires then d
      else if d.fwFires .busReset 3 then (d.lasting 6 acLATCH 0).busDieReset
      else
        let act := d.freeVal 3
        (d.fresh.lasting 6 act 0).busDieReset) s

end Sys2Proof.Machine
end

