-- ==== Sys2Proof/Machine/Keys.lean ====
section
/-! DEFINITION. The key engine's commands: the operations of a key channel, their completion, abort and release
(R583 to R602). -/

namespace Sys2Proof.Machine

/-- A channel's descriptor in system SRAM (R583). -/
structure KeyDesc where
  inp : Nat
  inLen : Nat
  out : Nat
  outCap : Nat
  aad : Nat
  aadLen : Nat
  aux : Nat
  target : Nat
deriving DecidableEq, Repr

/-- The little-endian word of the block's memory at an address. -/
def Dev.peekWord (d : Dev) (a : Nat) : Nat := leVal (d.peek a 4)

/-- The descriptor that KEY_OPn_DESC names (R583). -/
def Dev.keyDesc (d : Dev) (n : Nat) : KeyDesc :=
  let a := d.rdi KEY_OP_DESC_ADDR n * 32
  { inp := d.peekWord a, inLen := d.peekWord (a + 4), out := d.peekWord (a + 8), outCap := d.peekWord (a + 12),
    aad := d.peekWord (a + 16), aadLen := d.peekWord (a + 20), aux := d.peekWord (a + 24),
    target := leVal (d.peek (a + 28) 2) }

/-- A range lies in system SRAM (R28, R583). -/
def inSysSram (a n : Nat) : Bool := decide (0x20000000 ≤ a) && decide (a + n ≤ 0x20A00000)

/-- Length of the key material by ALG (R589). -/
def keyMaterial (alg : Nat) : Nat :=
  [0, 16, 32, 32, 48, 32, 64, 48, 96, 24].getD alg 0

def algAes (a : Nat) : Bool := a == 1 || a == 2
def algHmac (a : Nat) : Bool := a == 3 || a == 4
def algPriv (a : Nat) : Bool := a == 5 || a == 7
def algPub (a : Nat) : Bool := a == 6 || a == 8

/-- Bytes that an operation writes to OUT (R584). -/
def keyOutLen (op alg inLen : Nat) : Nat :=
  if op = 0x01 then inLen + 16
  else if op = 0x02 then inLen - 16
  else if op = 0x03 then 16
  else if op = 0x05 then (if alg = 3 then 32 else 48)
  else if op = 0x07 then (if alg = 5 then 64 else 96)
  else if op = 0x0C then 32
  else if op = 0x10 then 3
  else if op = 0x18 then 32
  else if op = 0x19 then 48
  else 0

/-- Length of the auxiliary input where the operation fixes it (R584). -/
def keyAuxLen (op alg : Nat) : Nat :=
  if op = 0x01 ∨ op = 0x02 then 12
  else if op = 0x04 then 16
  else if op = 0x06 then (if alg = 3 then 32 else 48)
  else if op = 0x08 ∨ op = 0x09 then (if alg = 5 ∨ alg = 6 then 64 else 96)
  else 0

/-- The USE that an operation needs of its slot (R580, R584). -/
def keyUseNeeded (op : Nat) : Nat :=
  if op = 0x01 ∨ op = 0x03 ∨ op = 0x05 ∨ op = 0x07 then 0
  else if op = 0x02 ∨ op = 0x04 ∨ op = 0x06 ∨ op = 0x08 then 1
  else if op = 0x10 then 2
  else 3

/-- The ALG of the slot fits the operation (R580, R584). -/
def keyAlgFits (op alg : Nat) : Bool :=
  if op ≤ 0x04 then algAes alg
  else if op = 0x05 ∨ op = 0x06 then algHmac alg
  else if op = 0x07 ∨ op = 0x09 then algPriv alg
  else if op = 0x08 then algPub alg
  else if op = 0x0A then alg == 2 || algHmac alg
  else if op = 0x0B then algHmac alg
  else if op = 0x0C then alg == 3
  else alg == 2

/-- The ALG of a derived child fits its parent's (R592, R593). -/
def keyChildFits (op parentAlg childAlg : Nat) : Bool :=
  if op = 0x09 then (parentAlg == 5 && childAlg == 3) || (parentAlg == 7 && childAlg == 4)
  else algAes childAlg || algHmac childAlg

/-- A length is wrong for the operation, or OUTCAP is too small (R583, R584, R589). -/
def keyLengthBad (op alg targetAlg : Nat) (k : KeyDesc) : Bool :=
  let digest := if alg = 5 ∨ alg = 6 then 32 else 48
  decide (k.inLen > 2 ^ 24) ||
  ((op == 0x01 || op == 0x02) && decide (k.aadLen > 65536)) ||
  (op == 0x02 && decide (k.inLen < 16)) ||
  ((op == 0x07 || op == 0x08) && k.inLen != digest) ||
  ((op == 0x0A || op == 0x0B) && decide (k.inLen > 256)) ||
  (op == 0x0C && k.inLen != 16) ||
  (op == 0x10 && k.inLen != 12 + 4 + keyMaterial targetAlg + 16) ||
  decide (k.outCap < keyOutLen op alg k.inLen)

/-- The descriptor or a buffer lies outside system SRAM (R583, R585). -/
def Dev.keyOutside (d : Dev) (n op alg : Nat) (k : KeyDesc) : Bool :=
  !(inSysSram (d.rdi KEY_OP_DESC_ADDR n * 32) 32 &&
    (op == 0x11 || op == 0x12 ||
      ((op == 0x09 || inSysSram k.inp k.inLen) &&
        (keyOutLen op alg k.inLen == 0 || inSysSram k.out k.outCap) &&
        (!(op == 0x01 || op == 0x02) || k.aadLen == 0 || inSysSram k.aad k.aadLen) &&
        (!(keyAuxLen op alg != 0 || op == 0x0A || op == 0x0B) || inSysSram k.aux (keyAuxLen op alg)))))

/-- A slot that a context owns: one of 0 to 479 with a record and that owner (R584, R585). -/
def Dev.keyOwned (d : Dev) (c k : Nat) : Bool :=
  decide (k ≤ 479) && d.rdi KEY_ATTR_ALG k != 0 && d.rdi KEY_OWN_OWNER k == c

/-- A slot is orphaned or awaits clearing. -/
def Dev.keyDying (d : Dev) (k : Nat) : Bool := d.rdi KEY_SLOTSTAT_STATE k == 2 || d.rdi KEY_SLOTSTAT_STATE k == 3

/-- The present life-cycle state is in the slot's LCMASK. -/
def Dev.keyLcOk (d : Dev) (k : Nat) : Bool := d.bit KEY_ATTR_LCMASK k (d.rd KEY_LC_STATE)

/-- The checks of R585 that need no owner, from code 0x01 on; 0 when all pass. -/
def Dev.keySlotChecks (d : Dev) (op slot target : Nat) (lengthBad : Bool) : Nat :=
  let u := keyUsesSlot op
  let t := keyTargets op
  let alg := d.rdi KEY_ATTR_ALG slot
  if (u && d.rdi KEY_SLOTSTAT_STATE slot == 0) || (op == 0x12 && d.rdi KEY_SLOTSTAT_STATE target == 0) then 0x01
  else if (u && d.keyDying slot) || (t && d.keyDying target) then 0x02
  else if (u && !d.keyLcOk slot) || (!u && t && !d.keyLcOk target) then 0x06
  else if u && d.rdi KEY_ATTR_USE slot != keyUseNeeded op then 0x03
  else if u && op == 0x0C && !d.flagi KEY_ATTR_OUTCHAL slot then 0x03
  else if u && !keyAlgFits op alg then 0x04
  else if keyDerives op && !(d.rdi KEY_ATTR_SOURCE target == 1 && d.rdi KEY_ATTR_PARENT target == slot &&
      keyChildFits op alg (d.rdi KEY_ATTR_ALG target)) then 0x04
  else if op == 0x10 && d.rdi KEY_ATTR_SOURCE target == 1 then 0x04
  else if lengthBad then 0x08
  else if op == 0x11 && d.rdi KEY_SLOTSTAT_PEND target != 2 then 0x0A
  else if keyDerives op && decide (d.rdi KEY_KVER slot ≤ d.rdi KEY_KVER target) then 0x0B
  else if op == 0x11 && decide ((d.keySlot target).pendVer ≤ d.rdi KEY_KVER target) then 0x0B
  else 0

/-- The checks at START in the order of R585, after the channel's own; while a transition is in progress every
operation is refused with 0x06 (R607). -/
def Dev.keyCheck (d : Dev) (c n op slot : Nat) (k : KeyDesc) : Nat :=
  let alg := d.rdi KEY_ATTR_ALG slot
  if d.flag KEY_STAT_LCBUSY then 0x06
  else if d.flag KEY_STAT_KEYLESS then 0x0C
  else if d.keyOutside n op alg k then 0x09
  else if (keyUsesSlot op && !d.keyOwned c slot) || (keyTargets op && !d.keyOwned c k.target) then 0x05
  else d.keySlotChecks op slot k.target (keyLengthBad op alg (d.rdi KEY_ATTR_ALG k.target) k)

/-- An operation that passed its checks runs: the channel and the slot are in use, and the target's pending copy is
being replaced (R588). -/
def Dev.keyBegin (d : Dev) (n op slot : Nat) (k : KeyDesc) : Dev :=
  let d := (d.wri KEY_OP_STAT_STATE n 1).setBit KEY_STAT_BUSY 0 n
  let alg := d.rdi KEY_ATTR_ALG slot
  let d := d.setKeyChan n { d.keyChan n with
    target := k.target, out := k.out, outLen := keyOutLen op alg k.inLen, key := (d.keySlot slot).key, alg := alg,
    inp := k.inp, inLen := k.inLen, aad := k.aad, aadLen := k.aadLen, aux := k.aux }
  let d := if keyUsesSlot op then d.wri KEY_SLOTSTAT_INUSE slot (d.rdi KEY_SLOTSTAT_INUSE slot + 1) else d
  if keyFills op then
    (d.wri KEY_SLOTSTAT_PEND k.target 1).setKeySlot k.target
      { d.keySlot k.target with pendAttr := d.keyAttr k.target, pendVer := d.rdi KEY_KVER slot, pendKey := [] }
  else d

/-- A write of KEY_OPn_CTL with START by a hart: the operation is checked and begins, or ends at its first failure
(R584, R585). A channel held by another context refuses the write (R613). -/
def Dev.keyStart (d : Dev) (init n slot op : Nat) (irq : Bool) : Dev :=
  let c := d.tag init
  let st := d.rdi KEY_OP_STAT_STATE n
  if (d.ctxRec c).isNone ∨ d.ctxBarred c ∨ (st ≠ 0 ∧ d.rdi KEY_OP_STAT_CTX n ≠ c) then
    (d.refuse c KEY_ACCERR_ACC_ERR 0).answered 0
  else if st = 1 then
    let d := (d.wri KEY_OP_STAT_CODE n 0x10).keyCount 0x10
    (if irq then d.wr KEY_EVT_OPERR 1 else d).answered 0
  else
    let d := ((d.wri KEY_OP_CTL_OP n op).wri KEY_OP_CTL_SLOT n slot).wri KEY_OP_CTL_IRQ n (b2n irq)
    let d := d.setKeyChan n { op := op, slot := slot, irq := irq }
    let d := ((d.wri KEY_OP_STAT_CTX n c).wri KEY_OP_STAT_DONE n 0).wri KEY_OP_OUTLEN_B n 0
    let k := d.keyDesc n
    let code := d.keyCheck c n op slot k
    (if code = 0 then d.keyBegin n op slot k else d.keyDone n code).answered 0

/-! ### What the engine computes (R584, R589 to R593) -/

/-- The plaintext that the engine has opened. -/
def KeyFinding.plain : KeyFinding → List Byte
  | .opened l => l
  | _ => []

/-- The KVER and the key of an opened blob (R589). -/
def KeyFinding.kver (f : KeyFinding) : Nat := beVal (f.plain.take 4)

def KeyFinding.material (f : KeyFinding) (alg : Nat) : List Byte := padTo (keyMaterial alg) (f.plain.drop 4)

/-- The input of a channel's operation as it stands in memory, and its auxiliary input (R583, log entry 63). -/
def Dev.keyInput (d : Dev) (ch : KeyChan) : List Byte := d.peek ch.inp ch.inLen

def Dev.keyAux (d : Dev) (ch : KeyChan) : List Byte :=
  d.peek ch.aux (if ch.op = 0x0A ∨ ch.op = 0x0B then Config.auxLength.val else keyAuxLen ch.op ch.alg)

/-- The bytes that an operation writes to OUT (R584, R591, R602); `k` is the nonce of a signature. -/
def Dev.keyOutput (d : Dev) (ch : KeyChan) (f : KeyFinding) (k : Nat) : List Byte :=
  let msg := d.keyInput ch
  if ch.op = 0x01 then (List.range (ch.inLen + 16)).map (Config.aesGcm ch.key (d.keyAux ch) (d.peek ch.aad ch.aadLen) msg)
  else if ch.op = 0x02 then f.plain
  else if ch.op = 0x03 then beOf 16 (Config.aesCmac ch.key msg).toNat
  else if ch.op = 0x05 then hmacWith (ch.alg == 4) ch.key msg
  else if ch.op = 0x07 then beOf (if ch.alg = 5 then 64 else 96) (Config.ecSign (ch.alg == 7) (beVal ch.key) (beVal msg) k)
  else if ch.op = 0x0C then hmac ch.key (msg ++ d.moduleId)
  else if ch.op = 0x10 then
    let alg := d.rdi KEY_ATTR_ALG ch.target
    kcvOf alg (f.material alg)
  else if ch.op = 0x18 then sha256 msg
  else if ch.op = 0x19 then sha384 msg
  else []

/-- The key that an operation puts into its target's pending copy (R589, R592, R593). -/
def Dev.keyChild (d : Dev) (ch : KeyChan) (f : KeyFinding) : List Byte :=
  let alg := d.rdi KEY_ATTR_ALG ch.target
  if ch.op = 0x09 then beOf (keyMaterial alg) (Config.ecShared (ch.alg == 7) (beVal ch.key) (beVal (d.keyAux ch)))
  else if ch.op = 0x0A then kdf ch.alg ch.key (d.keyAux ch) (d.keyInput ch) (keyMaterial alg)
  else if ch.op = 0x0B then hkdf (ch.alg == 4) ch.key (d.keyAux ch) (d.keyInput ch) (keyMaterial alg)
  else f.material alg

/-- The code with which an operation ends late: a MAC that does not verify, a finding that the operation can meet, or 0 (R585, R591,
R593). -/
def Dev.keyLate (d : Dev) (ch : KeyChan) (f : KeyFinding) : Nat :=
  let alg := d.rdi KEY_ATTR_ALG ch.target
  if ch.op = 0x04 then (if d.keyAux ch = beOf 16 (Config.aesCmac ch.key (d.keyInput ch)).toNat then 0 else 0x07)
  else if ch.op = 0x06 then (if d.keyAux ch = hmacWith (ch.alg == 4) ch.key (d.keyInput ch) then 0 else 0x07)
  else match f with
    | .unverified => if ch.op = 0x02 ∨ ch.op = 0x08 ∨ ch.op = 0x10 then 0x07 else 0
    | .offCurve => if ch.op = 0x08 ∨ ch.op = 0x09 ∨ (ch.op = 0x10 ∧ algPub alg) then 0x0D else 0
    | .randomFailed => if ch.op = 0x07 ∨ (ch.op = 0x10 ∧ algPriv alg) then 0x0F else 0
    | .done | .opened _ => 0

/-- The effect of an operation that succeeds (R586, R588, R592, R593, R595, R598). A signature draws its nonce (R584). -/
def Dev.keySucceed (d : Dev) (n : Nat) (f : KeyFinding) : Dev :=
  let ch := d.keyChan n
  let op := ch.op
  let slot := ch.slot
  let result := d.keyOutput ch f (d.freeVal 384)
  let d := if op = 0x07 then d.fresh else d
  let d := if keyFills op then
      (if d.rdi KEY_SLOTSTAT_PEND ch.target = 1 then
        let s := d.keySlot ch.target
        (d.wri KEY_SLOTSTAT_PEND ch.target 2).setKeySlot ch.target
          { s with pendVer := if op = 0x10 then f.kver else s.pendVer, pendKey := d.keyChild ch f }
      else d)
    else if op = 0x11 then d.keyCommit ch.target
    else if op = 0x12 then d.keyInvalidate ch.target
    else d
  let bytes := (List.range ch.outLen).map fun i => result.getD i 0
  let d := if ch.outLen = 0 then d else (d.poke ch.out bytes).wri KEY_OP_OUTLEN_B n ch.outLen
  let d := d.keyDone n 0
  if keyUsesSlot op then d.keyCountOut slot else d

/-- A busy channel's operation completes (R586): a late failure ends it with its code, a blob that does not unwrap
writes 0x0507, and a blob whose KVER does not exceed the committed one ends with 0x0B (R589, R590). -/
def Dev.keyComplete (d : Dev) (n : Nat) (f : KeyFinding) : Dev :=
  if d.rdi KEY_OP_STAT_STATE n = 1 then
    let op := (d.keyChan n).op
    let t := (d.keyChan n).target
    let code := d.keyLate (d.keyChan n) f
    if code ≠ 0 then
      (if op = 0x10 ∧ code = 0x07 then d.trig 0x0507 [t] else d).keyFail n code
    else if op = 0x10 ∧ f.kver ≤ d.rdi KEY_KVER t then d.keyFail n 0x0B
    else d.keySucceed n f
  else d

/-- GCM_ENC (R584): encryption under an AES encrypt-only slot. -/
def execGcmEnc (init n slot : Nat) (irq : Bool) (s : State) : Host.Outcome State Fault Refusal :=
  onBlockBy init 0x40800000 (fun d => d.keyStart init n slot 0x01 irq) s

/-- GCM_DEC (R584): decryption under an AES decrypt-only slot. -/
def execGcmDec (init n slot : Nat) (irq : Bool) (s : State) : Host.Outcome State Fault Refusal :=
  onBlockBy init 0x40800000 (fun d => d.keyStart init n slot 0x02 irq) s

/-- CMAC (R584). -/
def execCmac (init n slot : Nat) (irq : Bool) (s : State) : Host.Outcome State Fault Refusal :=
  onBlockBy init 0x40800000 (fun d => d.keyStart init n slot 0x03 irq) s

/-- CMAC_VER (R584). -/
def execCmacVer (init n slot : Nat) (irq : Bool) (s : State) : Host.Outcome State Fault Refusal :=
  onBlockBy init 0x40800000 (fun d => d.keyStart init n slot 0x04 irq) s

/-- HMAC (R584). -/
def execHmac (init n slot : Nat) (irq : Bool) (s : State) : Host.Outcome State Fault Refusal :=
  onBlockBy init 0x40800000 (fun d => d.keyStart init n slot 0x05 irq) s

/-- HMAC_VER (R584). -/
def execHmacVer (init n slot : Nat) (irq : Bool) (s : State) : Host.Outcome State Fault Refusal :=
  onBlockBy init 0x40800000 (fun d => d.keyStart init n slot 0x06 irq) s

/-- SIGN (R584): an ECDSA signature. -/
def execSign (init n slot : Nat) (irq : Bool) (s : State) : Host.Outcome State Fault Refusal :=
  onBlockBy init 0x40800000 (fun d => d.keyStart init n slot 0x07 irq) s

/-- VERIFY (R584): ECDSA verification. -/
def execVerify (init n slot : Nat) (irq : Bool) (s : State) : Host.Outcome State Fault Refusal :=
  onBlockBy init 0x40800000 (fun d => d.keyStart init n slot 0x08 irq) s

/-- ECDH (R593): derives an HMAC child. -/
def execEcdh (init n slot : Nat) (irq : Bool) (s : State) : Host.Outcome State Fault Refusal :=
  onBlockBy init 0x40800000 (fun d => d.keyStart init n slot 0x09 irq) s

/-- KDF (R592): derives a child under SP 800-108. -/
def execKdf (init n slot : Nat) (irq : Bool) (s : State) : Host.Outcome State Fault Refusal :=
  onBlockBy init 0x40800000 (fun d => d.keyStart init n slot 0x0A irq) s

/-- HKDF (R593): derives a child under HKDF. -/
def execHkdf (init n slot : Nat) (irq : Bool) (s : State) : Host.Outcome State Fault Refusal :=
  onBlockBy init 0x40800000 (fun d => d.keyStart init n slot 0x0B irq) s

/-- CHAL (R602): the outsider challenge response. -/
def execChal (init n slot : Nat) (irq : Bool) (s : State) : Host.Outcome State Fault Refusal :=
  onBlockBy init 0x40800000 (fun d => d.keyStart init n slot 0x0C irq) s

/-- LOAD (R588): unwraps a blob into a pending copy. -/
def execLoad (init n slot : Nat) (irq : Bool) (s : State) : Host.Outcome State Fault Refusal :=
  onBlockBy init 0x40800000 (fun d => d.keyStart init n slot 0x10 irq) s

/-- COMMIT (R595): commits a verified pending copy. -/
def execCommit (init n : Nat) (irq : Bool) (s : State) : Host.Outcome State Fault Refusal :=
  onBlockBy init 0x40800000 (fun d => d.keyStart init n 0 0x11 irq) s

/-- INVAL (R598): invalidates a slot. -/
def execInval (init n : Nat) (irq : Bool) (s : State) : Host.Outcome State Fault Refusal :=
  onBlockBy init 0x40800000 (fun d => d.keyStart init n 0 0x12 irq) s

/-- SHA256 (R584). -/
def execSha256 (init n : Nat) (irq : Bool) (s : State) : Host.Outcome State Fault Refusal :=
  onBlockBy init 0x40800000 (fun d => d.keyStart init n 0 0x18 irq) s

/-- SHA384 (R584). -/
def execSha384 (init n : Nat) (irq : Bool) (s : State) : Host.Outcome State Fault Refusal :=
  onBlockBy init 0x40800000 (fun d => d.keyStart init n 0 0x19 irq) s

/-- A write to a key channel by the context that owns it (R613). -/
def Dev.keyHeld (d : Dev) (init n : Nat) : Bool :=
  d.rdi KEY_OP_STAT_STATE n != 0 && d.rdi KEY_OP_STAT_CTX n == d.tag init && !d.ctxBarred (d.tag init)

/-- An access to a key channel is refused (R613). -/
def Dev.keyRefuse (d : Dev) (init : Nat) : Dev := (d.refuse (d.tag init) KEY_ACCERR_ACC_ERR 0).answered 0

/-- A write of ABORT by the channel's context stops the operation at its safe point (R587). -/
def Dev.keyAbort (d : Dev) (init n : Nat) : Dev :=
  if d.keyHeld init n then (d.keyFail n 0x0E).answered 0 else d.keyRefuse init

/-- The owner clears DONE, which frees the channel (R613). -/
def Dev.keyRelease (d : Dev) (init n : Nat) : Dev :=
  if d.keyHeld init n then
    (if d.rdi KEY_OP_STAT_STATE n = 2 then
      ((d.wri KEY_OP_STAT_STATE n 0).wri KEY_OP_STAT_DONE n 0).wri KEY_OP_STAT_CTX n 0
    else d).answered 0
  else d.keyRefuse init

/-- KEY_OP_ABORT (R587): a write of ABORT; any other context's write is refused (R613). -/
def execKeyOpAbort (init n : Nat) (s : State) : Host.Outcome State Fault Refusal :=
  onBlockBy init 0x40800000 (fun d => d.keyAbort init n) s

/-- KEY_OP_COMPLETE (R586): a channel's operation completes with the engine's finding. -/
def execKeyOpComplete (n : Nat) (found : KeyFinding) (s : State) : Host.Outcome State Fault Refusal :=
  onDev (fun d => d.keyComplete n found) s

/-- KEY_OP_RELEASE (R613): a write of 1 to DONE. -/
def execKeyOpRelease (init n : Nat) (s : State) : Host.Outcome State Fault Refusal :=
  onBlockBy init 0x40800000 (fun d => d.keyRelease init n) s

end Sys2Proof.Machine
end

