-- ==== Sys2Proof/Machine/Signals.lean ====
section
/-! DEFINITION. The signal store as software and the receiving controllers use it: commits and flips of groups, writes and
reads through the window, the staleness sweep, and the moves of waiting frames into receive objects (R172 to R188, R198,
R351, R392, R422). -/

namespace Sys2Proof.Machine

/-- The Treadle runs neither lane: before the pick's first entry has used a slot, or after its last one (R142). -/
def Dev.laneFree (d : Dev) : Bool := !d.trdRuns || d.trd.todo.isEmpty || d.trd.used == 0

/-! ### One writer (R178, R179) -/

/-- A refused write to signal `n`, or a refused commit of group `n` (R179). -/
def Dev.refuseSignal (d : Dev) (init n : Nat) (commit : Bool) : Dev :=
  let c := d.tag init
  let d := (d.inc TRD_SIGWERR_COUNT).wr TRD_SIGWLAST_SIGNAL n
  let d := (d.wr TRD_SIGWLAST_CTX c).wr TRD_SIGWKIND_GCOMMIT (b2n commit)
  ((d.trig 0x0320 [n, c, b2n commit]).countRefused c).faulted

/-- The context of an access may write what `writer` names: it is that context, and its writes are not refused (R178,
R179, R215). -/
def Dev.mayWrite (d : Dev) (init writer : Nat) : Bool :=
  decide (init < 10) && d.tag init == writer && decide (writer < 2048) && !d.ctxBarred writer

/-! ### Groups (R181 to R186) -/

/-- GROUP_COMMIT: a write to TRD_GCOMMIT. A commit that finds one pending is merged with it; in a stopped Treadle the flip
comes at once. -/
def execGroupCommit (init g : Nat) (s : State) : Host.Outcome State Fault Refusal :=
  onBlockBy init 0x40100000 (fun d =>
    match d.groupMembers g with
    | [] => d.refuseSignal init g true
    | r :: _ =>
      if g < 0x1000 ∧ d.mayWrite init r.writer then
        let d := d.answered 0
        if d.flagi TRD_GVER_PEND g then d
        else
          let mine := ((d.groupMembers g).map fun m => m.signal).filter fun n => d.sig.written.contains n
          let d := { d with sig := { d.sig with claimed := d.sig.claimed ++ mine } }
          let d := d.wri TRD_GVER_PEND g 1
          if d.trdRuns then d else d.flipGroup g
      else d.refuseSignal init g true) s

/-- GROUP_FLIP: a pending group flips at a clock cycle in which neither lane runs (R182, R183). -/
def execGroupFlip (g : Nat) (s : State) : Host.Outcome State Fault Refusal :=
  onDev (fun d => if d.flagi TRD_GVER_PEND g ∧ d.laneFree then d.flipGroup g else d) s

/-! ### The window (R168, R172 to R176) -/

/-- A hart's held low half of a 64-bit write, when it belongs to signal `n` (R175). -/
def Dev.heldHalf (d : Dev) (init n : Nat) : Option Nat :=
  match d.sig.wlatch.find init with
  | some p => if p.2 = n then some p.1 else none
  | none => none

def Dev.setHeld (d : Dev) (init n v : Nat) : Dev := { d with sig := { d.sig with wlatch := d.sig.wlatch.set init (v, n) } }

def Dev.dropHeld (d : Dev) (init : Nat) : Dev := { d with sig := { d.sig with wlatch := d.sig.wlatch.erase init } }

/-- SIGNAL_WRITE: a write of `width` bits at byte `off` of slot `n` (R175, R176, R179, R182). -/
def execSignalWrite (init n off width value : Nat) (s : State) : Host.Outcome State Fault Refusal :=
  onBlockBy init 0x40100000 (fun d =>
    match d.sigRec n with
    | none => d.refuseSignal init n false
    | some r =>
      if !d.mayWrite init r.writer then d.refuseSignal init n false
      else
        let tw := typeWidth r.type
        if off = 0 ∧ tw ≤ width then (d.dropHeld init).sigPut init r (BitVec.ofNat 64 value)
        else if tw = 64 ∧ width = 32 ∧ off = 0 then (d.setHeld init n (value % 2 ^ 32)).answered 0
        else if tw = 64 ∧ width = 32 ∧ off = 4 then
          match d.heldHalf init n with
          | some low => (d.dropHeld init).sigPut init r (BitVec.ofNat 64 (low + value % 2 ^ 32 * 2 ^ 32))
          | none => d.refuseSignal init n false
        else d.refuseSignal init n false) s

/-- The 16 bytes of a slot as a number (R168, R172). -/
def Dev.slotWord (d : Dev) (n : Nat) : Nat :=
  match d.sigRec n with
  | some r =>
    let s := d.front n
    s.value.toNat + s.version % 2 ^ 16 * 2 ^ 64 + s.stamp % 2 ^ 32 * 2 ^ 80 + s.status % 2 ^ 8 * 2 ^ 112 + r.type % 2 ^ 8 * 2 ^ 120
  | none => 0xFF * 2 ^ 120

/-- `width` bits at byte `off` of a slot's 16 bytes. -/
def slotPart (w off width : Nat) : Nat := w / 2 ^ (8 * off) % 2 ^ width

/-- SIGNAL_READ: a read of `width` bits at byte `off` of slot `n`. A hart's read at 0 latches the slot; its reads at 4, 8
and 12 of that slot return the copy (R174, R188). A read that carries the number of no declared context is refused (R203). -/
def execSignalRead (init n off width : Nat) (s : State) : Host.Outcome State Fault Refusal :=
  onBlockBy init 0x40100000 (fun d =>
    if d.undeclared (d.tag init) then d.ctxTurnedAway (d.tag init)
    else
    let d := d.judge n
    let live := d.slotWord n
    if init < 10 ∧ off = 0 then
      ({ d with sig := { d.sig with latch := d.sig.latch.set init (n, live) } }).answered (slotPart live 0 width)
    else
      let w := match d.sig.latch.find init with
        | some p => if p.1 = n ∧ (off = 4 ∨ off = 8 ∨ off = 12) then p.2 else live
        | none => live
      d.answered (slotPart w off width)) s

/-- STALE_SWEEP: the sweep visits signal `n` (R188). -/
def execStaleSweep (n : Nat) (s : State) : Host.Outcome State Fault Refusal := onDev (fun d => d.judge n) s

/-! ### Receive objects (R137, R351, R353, R392, R422) -/

/-- A frame's payload goes into a receive object, whose count rises. -/
def Dev.objectMove (d : Dev) (o : Nat) (payload : List Byte) : Dev :=
  let c := (d.trd.rxObj.get o {}).count
  d.setTrd { d.trd with rxObj := d.trd.rxObj.set o { payload := payload, count := (c + 1) % 65536, held := true } }

/-- Q0_MOVE: waiting Q0 frames of every controller, in arrival order (R351). -/
def execQ0Move (s : State) : Host.Outcome State Fault Refusal :=
  onDev (fun d =>
    if d.laneFree then
      d.each d.can.ctl.keys fun d c =>
        let q := (d.canCtl c).q0
        let d := d.setCanCtl c { d.canCtl c with q0 := [] }
        d.each q fun d w => d.objectMove w.obj (w.payload.take (canCapacity (w.obj / 128) (w.obj % 128)))
    else d) s

/-- TT_RX_MOVE: waiting frames of the time-triggered controllers (R392). -/
def execTtRxMove (s : State) : Host.Outcome State Fault Refusal :=
  onDev (fun d =>
    if d.laneFree then
      d.each d.tt.keys fun d t =>
        let q := (d.ttCtl t).waiting
        let d := d.setTtCtl t { d.ttCtl t with waiting := [] }
        d.each q fun d w => d.objectMove w.obj w.payload
    else d) s

/-- A declared endpoint with a source address on an ingress port (R60, R198). -/
def Dev.endpoint (d : Dev) (port smac : Nat) : Bool :=
  d.rdeck.inventory.any fun r => r.kind == 3 && r.unit == port && r.key == smac % 2 ^ 32

/-- I2_OBJECT_MOVE: frames waiting at I2, each after the check of its source (R198, R422). -/
def execI2ObjectMove (s : State) : Host.Outcome State Fault Refusal :=
  onDev (fun d =>
    if d.laneFree then
      let q := d.swx.i2
      let d := { d with swx := { d.swx with i2 := [] } }
      d.each q fun d w =>
        if d.endpoint w.2.2.1 w.2.1 then d.objectMove w.1 (w.2.2.2.take 1500)
        else (d.inc TRD_SIGUNDECL_COUNT).trig 0x0322 [w.2.2.1]
    else d) s

end Sys2Proof.Machine
end

