-- ==== Sys2Proof/Machine/UpdateOps.lean ====
section
/-! DEFINITION. The update controller: the staging lock, transfers, the close of an item, activation and confirmation
(R666 to R690). -/

namespace Sys2Proof.Machine

/-! ### The item and the lock (R666, R674, R677) -/

/-- States of UPD_STAT.STATE (R692). -/
def upIDLE : Nat := 0
def upRECEIVING : Nat := 1
def upSTAGED : Nat := 2
def upARMED : Nat := 3
def upPROBATION : Nat := 4

def Dev.updState (d : Dev) : Nat := d.rd UPD_STAT_STATE

def Dev.setItem (d : Dev) (i : UpdItem) : Dev := d.setUpd { d.upd with item := some i }

/-- The number of 4 KB blocks of a transfer. -/
def UpdItem.streamBlocks (i : UpdItem) : Nat := (i.totalLen + 4095) / 4096

/-- Table blocks of a manifest: T (R670). -/
def Manifest.tableBlocks (m : Manifest) : Nat := (m.blocks + 127) / 128

/-- The most body blocks that a target takes (R666). -/
def bodyLimit (target : Nat) : Nat := [12192, 1016, 2032, 4064].getD target 0

/-- The region that an image is written into: FW_A and FW_B 0 and 1, the boot images 2 and 3, the recovery image 4, user
data 5 (R666). -/
def Dev.updRegion (d : Dev) (target : Nat) : Nat :=
  if target = 0 then 1 - d.upd.boot.actFw
  else if target = 1 then 2 + (1 - d.upd.boot.actBoot)
  else if target = 2 then 4 else 5

/-- The item's IMG_VER; a deck has none. -/
def UpdItem.imgVer (i : UpdItem) : Nat := (i.man.map fun m => m.imgVer).getD 0

/-- The item and the lock as UPD_STAT, UPD_RECEIVED and UPD_TRYVER show them (R692, R694). -/
def Dev.updShow (d : Dev) : Dev :=
  let d := match d.upd.lock with
    | some l => (d.wr UPD_STAT_LOCKED 1).wr UPD_STAT_HOLDER l.1
    | none => (d.wr UPD_STAT_LOCKED 0).wr UPD_STAT_HOLDER 0
  match d.upd.item with
  | some i =>
    let d := (d.wr UPD_STAT_IKIND i.ikind).wr UPD_STAT_TARGET ((i.man.map fun m => m.target).getD 0)
    (d.wr UPD_RECEIVED_BLOCKS i.blocks.length).wr UPD_TRYVER_IMG_VER (if d.updState = upRECEIVING then 0 else i.imgVer)
  | none => (((d.wr UPD_STAT_IKIND 0).wr UPD_STAT_TARGET 0).wr UPD_RECEIVED_BLOCKS 0).wr UPD_TRYVER_IMG_VER 0

/-- The lock is freed (R674, R693). -/
def Dev.updFree (d : Dev) : Dev := (d.setUpd { d.upd with lock := none }).wr UPD_EVT_LOCKCHG 1

/-- The item is discarded, its lock freed, and the controller IDLE (R677). A staged full deck's slot returns to STATE 0x00
(R76). -/
def Dev.updDiscard (d : Dev) : Dev :=
  let d := d.itemDrop
  let d := d.setUpd { d.upd with item := none, closing := none, armed := none }
  (d.updFree.wr UPD_STAT_STATE upIDLE).updShow

/-- A stream block fails verification (R690, R693, R695). -/
def Dev.updVerify (d : Dev) (block : Nat) : Dev := ((d.wr UPD_EVT_VERIFY 1).trig 0x0524 [block]).updNotice 7 block

/-- A failure under R671 ends the transfer. -/
def Dev.updFail (d : Dev) : Dev := d.updDiscard.trig 0x0529 []

/-! ### Transfer (R670 to R674) -/

/-- A reply: STATUS and payload. -/
abbrev Reply := Nat × List Byte

/-- The payload of UPD_CLOSE's reply (R535, R536). -/
def closeReply (code dstate deckId deckVer : Nat) : List Byte :=
  beBytes [(2, code), (1, dstate), (1, 0), (4, deckId), (4, deckVer)]

/-- The holder's open transfer of a number: the item, for a request of host `h` (R674). -/
def Dev.updItemOf (d : Dev) (h xfer : Nat) : Option UpdItem :=
  match d.upd.lock, d.upd.item with
  | some l, some i => if l.1 = h ∧ i.xfer = xfer then some i else none
  | _, _ => none

/-- UPD_OPEN (R674). No timer is read: a held lock shows its whole 60 s (log entry 3). -/
def Dev.updOpen (d : Dev) (h number ikind total xfer : Nat) : Dev × Reply :=
  if ikind < 1 ∨ 3 < ikind then (d, 0x0013, [])
  else if d.updState = upPROBATION then (d, 0x0050, [])
  else match d.upd.lock with
    | some l =>
      if l.1 = h then (d, 0x0050, []) else (d.trig 0x0521 [l.1, h], 0x0030, beBytes [(2, l.1), (4, l.2), (2, 60)])
    | none =>
      let d := d.setUpd { d.upd with lock := some (h, number) }
      let d := d.setItem { xfer := xfer, ikind := ikind, totalLen := total }
      let d := ((d.wr UPD_STAT_STATE upRECEIVING).wr UPD_EVT_LOCKCHG 1).updShow
      (d.trig 0x0520 [h, ikind], 0, beBytes [(2, xfer), (2, 0)])

/-- A block is kept. -/
def Dev.updKeep (d : Dev) (i : UpdItem) (n : Nat) : Dev × Reply :=
  ((d.setItem { i with blocks := i.blocks ++ [n] }).updShow, 0, [])

/-- The manifest that the first 236 bytes of block 0 spell (R668). -/
def Manifest.parse (l : List Byte) : Manifest :=
  { magic := num l 0 4, fmt := num l 4 2, manLen := num l 6 2, target := num l 8 1, partMask := num l 9 1,
    minStep := num l 10 1, flags := num l 11 1, imgVer := num l 12 4, blocks := num l 16 4, setVer := num l 20 2,
    migFrom := num l 22 2, entry := num l 24 4, warm := num l 28 4, keyIv := num l 32 12, keyCt := num l 44 32,
    keyTag := num l 76 16, tableHash := num l 92 48, sig := num l 140 96 }

/-- The checks of R671 that the manifest itself decides. -/
def Dev.manifestOk (d : Dev) (ikind : Nat) (m : Manifest) : Bool :=
  let fits := if ikind = 1 then decide (m.target ≤ 2) else m.target == 3
  let part := if d.rd SYSCTL_PARTID_PART = 0x8820 then 0 else if d.rd SYSCTL_PARTID_PART = 0x8830 then 1 else 2
  m.magic == 0x4B57494D && m.fmt == 1 && m.manLen == 0xEC && fits && m.partMask.testBit part &&
    decide (m.minStep ≤ d.rd SYSCTL_PARTID_STEP_LTR * 16 + d.rd SYSCTL_PARTID_STEP_NUM) && decide (1 ≤ m.blocks) &&
    decide (m.blocks ≤ bodyLimit m.target)

/-- Block 0 of an image: the manifest followed by zeros, and what the checks of R671 say of it. -/
def Dev.updManifest (d : Dev) (i : UpdItem) (data : List Byte) (verified : Bool) : Dev × Reply :=
  let m := Manifest.parse data
  if !(verified && d.manifestOk i.ikind m) then ((d.updVerify 0).updFail, 0x0035, [])
  else if m.target ≤ 2 ∧ m.imgVer < d.upd.fwFloor then (d.updFail, 0x0037, [])
  else if i.totalLen ≠ 4096 * (1 + m.tableBlocks + m.blocks) ∨ !zeroIn data 236 4096 then (d, 0x0032, [])
  else d.updKeep { i with man := some m } 0

/-- The table blocks and the body blocks that have arrived. -/
def UpdItem.tableCount (i : UpdItem) (m : Manifest) : Nat :=
  (i.blocks.filter fun b => decide (1 ≤ b) && decide (b ≤ m.tableBlocks)).length

def UpdItem.bodyCount (i : UpdItem) (m : Manifest) : Nat := (i.blocks.filter fun b => decide (m.tableBlocks < b)).length

/-- The last table block is padded with zeros behind the N records (R670). -/
def tablePadOk (m : Manifest) (n : Nat) (data : List Byte) : Bool :=
  n != m.tableBlocks || zeroIn data (32 * (m.blocks - 128 * (n - 1))) 4096

/-- A body block that passes is written into its region: what the region held is gone from the first write on (R566, R672). -/
def Dev.updBody (d : Dev) (i : UpdItem) (m : Manifest) (n : Nat) (plain : List Byte) : Dev × Reply :=
  let d := if i.bodyCount m = 0 then
      d.setUpd { d.upd with plain := d.upd.plain.keep fun k => k / 65536 != d.updRegion m.target }
    else d
  d.updKeep { i with plain := i.plain.set (n - 1 - m.tableBlocks) plain } n

/-- A later stream block of an image: table records, then body blocks (R670 to R672). -/
def Dev.updStream (d : Dev) (i : UpdItem) (m : Manifest) (n : Nat) (data : List Byte) (x : BlockFind) : Dev × Reply :=
  let t := m.tableBlocks
  if n ≤ t then
    if !tablePadOk m n data then (d, 0x0032, [])
    else if i.tableCount m + 1 = t ∧ !x.verified then ((d.updVerify n).updFail, 0x0035, []) else d.updKeep i n
  else if i.tableCount m < t then (d, 0x0050, [])
  else if x.verified then d.updBody i m n x.plain
  else ((d.updVerify n).inc UPD_CNT_BLKFAIL, 0x0035, [])

/-- A block of a deck is written as received into the inactive slot with STATE 0x00; the slot of an armed swap keeps its deck
(R673, log entry 35). -/
def Dev.updDeckBlock (d : Dev) (i : UpdItem) (n : Nat) (data : List Byte) : Dev × Reply :=
  let s := d.inactiveSlot
  let o := d.deckSlot s
  let d := if d.flag SYSCTL_DECKSTAT_SWAP_ARMED then d
    else d.setDeckSlot s { o with state := 0, bytes := patch o.bytes (4096 * n) data, deck := none }.seal
  d.updKeep { i with stream := patch i.stream (4096 * n) data } n

/-- UPD_BLOCK (R536, R670 to R674). `x` is what the engines find about a block of an image. -/
def Dev.updBlock (d : Dev) (h xfer offset : Nat) (data : List Byte) (x : BlockFind) : Dev × Reply :=
  match d.updItemOf h xfer with
  | none => (d, 0x0031, [])
  | some i =>
    let n := offset / 4096
    if d.updState ≠ upRECEIVING ∨ d.upd.closing.isSome then (d, 0x0050, [])
    else if offset % 4096 ≠ 0 ∨ i.totalLen ≤ offset ∨ data.length ≠ min 4096 (i.totalLen - offset) then (d, 0x0032, [])
    else if i.blocks.contains n then (d, 0, [])
    else if i.ikind = 2 then d.updDeckBlock i n data
    else match i.man with
      | none => if n = 0 then d.updManifest i data x.verified else (d, 0x0050, [])
      | some m => d.updStream i m n data x

/-! ### Close (R536, R678) -/

/-- UPD_CLOSE, up to its acknowledgement: whether the checks begin, else the reply (R678 step 1). -/
def Dev.updClose (d : Dev) (h number seq xfer : Nat) : Dev × Option Reply :=
  match d.updItemOf h xfer with
  | none => (d, some (0x0031, []))
  | some i =>
    if d.updState ≠ upRECEIVING ∨ d.upd.closing.isSome then (d, some (0x0050, []))
    else if i.blocks.length < i.streamBlocks then (d, some (0x0033, []))
    else (d.setUpd { d.upd with closing := some (number, seq) }, none)

/-- The image key of a region is committed into a slot (R678 step 3). Its KVER is not stated: a free value, and so is the key, which
AES-GCM opens (log entry 63). -/
def Dev.imageKey (d : Dev) (k : Nat) : Dev :=
  let d := d.setKeySlot k { d.keySlot k with pendAttr := d.keyAttr k, pendVer := d.freeVal 32,
                                             pendKey := beOf 32 (d.fresh.freeVal 256) }
  d.fresh.fresh.keyCommit k

/-- An image whose stored blocks all pass (R677, R678 steps 3 and 4). -/
def Dev.closeImage (d : Dev) (i : UpdItem) (m : Manifest) : Dev × Reply :=
  let d := if m.target = 0 then d.imageKey (480 + (1 - d.upd.boot.actFw)) else if m.target = 3 then d.imageKey 482 else d
  let r := d.updRegion m.target
  let plain := i.plain.items.foldl (fun (p : Map (List Byte)) b => p.set (r * 65536 + b.1) b.2) d.upd.plain
  let d := d.setUpd { d.upd with manifests := d.upd.manifests.set r m, plain := plain, closing := none }
  let d := if m.target ≤ 1 then ((d.wr UPD_STAT_STATE upSTAGED).wr UPD_EVT_STAGED 1).updShow
    else ((d.setUpd { d.upd with item := none }).updFree.wr UPD_STAT_STATE upIDLE).updShow
  ((d.trig 0x0523 [i.imgVer]).updNotice 1 i.imgVer, 0, closeReply 0 0 0 0)

/-- A deck or card set that passes: armed, or stored and staged (R70, R76, R536, R677). -/
def Dev.closeDeck (d : Dev) (i : UpdItem) (k : Deck) : Dev × Reply :=
  if k.hdr.flags.testBit 0 then
    let m := d.judged k
    let d := (d.swapArm m k.changes).setUpd { d.upd with item := none, closing := none }
    ((d.updFree.wr UPD_STAT_STATE upIDLE).updShow, 0, closeReply 0 2 k.hdr.deckId k.hdr.deckVer)
  else
    let d := (d.slotStage k).setUpd { d.upd with item := some { i with deck := some k }, closing := none }
    (((d.wr UPD_STAT_STATE upSTAGED).wr UPD_EVT_STAGED 1).updShow, 0, closeReply 0 1 k.hdr.deckId k.hdr.deckVer)

/-- A deck or card set is rejected: its slot returns to STATE 0x00, but that of an armed swap (R63, R536, R677). -/
def Dev.closeReject (d : Dev) (k : Deck) (code : Nat) : Dev × Reply :=
  let d := d.deckReject code
  let d := if d.flag SYSCTL_DECKSTAT_SWAP_ARMED then d else d.slotDrop
  (d.updFail, 0x0034, closeReply code 0 k.hdr.deckId k.hdr.deckVer)

/-- The checks of a close end with a finding, when it is one of the item's kind (R678). -/
def Dev.closeEnd (d : Dev) (i : UpdItem) (x : CloseIn) : Option (Dev × Reply) :=
  match x, i.man with
  | .image (some n), some m =>
    let i := { i with blocks := i.blocks.filter (· ≠ n), plain := i.plain.erase (n - 1 - m.tableBlocks) }
    let d := d.setUpd { d.upd with item := some i, closing := none }
    some (d.updShow.updVerify n, 0x0035, beBytes [(4, n)])
  | .image none, some m => some (d.closeImage i m)
  | .image _, none => none
  | .deck body v, _ =>
    if i.ikind ≠ 2 then none
    else
      let k := Deck.parse i.stream body
      let code := d.deckCheck k i.totalLen (v.signatureOk i.stream) (v.tagOk i.stream)
      some (if code = 0 then d.closeDeck i k else d.closeReject k code)

/-! ### Activation (R679 to R681, R689) -/

/-- UPD_ACTIVATE, up to its acknowledgement (R679). `now` is the gPTP time. -/
def Dev.updActivate (d : Dev) (h number seq xfer when_ at_ now : Nat) : Dev × Option Reply :=
  match d.updItemOf h xfer with
  | none => (d, some (0x0031, []))
  | some i =>
    let fits := i.deck.isSome || (match i.man with | some m => decide (m.target ≤ 1) | none => false)
    if d.updState ≠ upSTAGED ∨ !fits then (d, some (0x0050, []))
    else if 2 < when_ ∨ when_ = 2 ∧ 2 ^ 32 ≤ at_ then (d, some (0x0013, []))
    else if when_ = 1 ∧ at_ < now ∨ when_ = 2 ∧ at_ ≤ d.rd BEAT_REPCNT then (d, some (0x0036, []))
    else
      let d := d.setUpd { d.upd with item := some { i with when_ := when_, at_ := at_ }, armed := some (number, seq) }
      (d.wr UPD_STAT_STATE upARMED, none)

/-- The reason for which the module is not ready at an activation time; 0 for none (R680). -/
def Dev.notReady (d : Dev) (i : UpdItem) (supplyOk : Bool) : Nat :=
  if i.when_ = 1 ∧ d.rd SWX_GPTP_STATE ≠ 1 ∨ i.when_ = 2 ∧ d.rd BEAT_STAT_STATE ≠ 1 then 1
  else if !supplyOk then 2
  else if d.flag KEY_STAT_LCBUSY then 3
  else if d.rd DBG_STAT_HALTED ≠ 0 then 4
  else 0

/-- The boot record of an image on trial; for TARGET 0 the settings bank on trial loses its header (R681 step 2). -/
def Dev.tryImage (d : Dev) (m : Manifest) : Dev :=
  let b := d.upd.boot
  let d := d.setUpd { d.upd with boot := { b with
    tries := 0, probDeck := false, try_ := true,
    tryBoot := if m.target = 1 then 1 - b.actBoot else b.actBoot,
    tryFw := if m.target = 0 then 1 - b.actFw else b.actFw,
    trySet := if m.target = 0 then 1 - b.actSet else b.actSet } }
  if m.target = 0 then
    d.memForget (settingsAddr (1 - b.actSet)) (settingsAddr (1 - b.actSet) + 32) else d

/-- The boot record and the slot records of a full deck on trial (R66, R681 step 2). -/
def Dev.tryDeck (d : Dev) : Dev :=
  let b := d.upd.boot
  (d.slotCommit d.inactiveSlot).setUpd { d.upd with boot := { b with
    tries := 0, probDeck := true, try_ := true, tryBoot := b.actBoot, tryFw := b.actFw, trySet := b.actSet } }

/-- The commit point of an activation: PROBATION, the lock freed, and a restart ordered (R675, R681). -/
def Dev.activate (d : Dev) (i : UpdItem) : Dev :=
  let d := match i.deck, i.man with
    | some _, _ => d.tryDeck
    | none, some m => d.tryImage m
    | none, none => d
  let d := (d.setUpd { d.upd with item := none, armed := none }).updFree
  let d := ((d.wr UPD_STAT_STATE upPROBATION).wr UPD_STAT_TRY 1).wr UPD_EVT_ACTIVATED 1
  let d := (d.wr UPD_STAT_LOCKED 0).wr UPD_STAT_HOLDER 0
  let d := d.trig 0x0525 []
  d.setPwr { d.pwr with ordered := true }

/-! ### Confirmation (R685, R687) -/

/-- The image on trial. -/
def Dev.trialImage (d : Dev) : Option Manifest :=
  let b := d.upd.boot
  if !b.try_ ∨ b.probDeck then none
  else if b.tryFw ≠ b.actFw then d.upd.manifests.find b.tryFw
  else d.upd.manifests.find (2 + b.tryBoot)

/-- The header of the settings bank on trial passes: CRC, STATE, SET_VER and GEN (R683, R685). -/
def Dev.headerOk (d : Dev) (setVer : Nat) : Bool :=
  let a := settingsAddr d.upd.boot.trySet
  let src := settingsAddr d.upd.boot.actSet
  leVal (d.peek (a + 16) 4) == crc32 ((d.peek a 16).map fun b => b.toNat) && leVal (d.peek (a + 6) 2) == 1 &&
    leVal (d.peek (a + 4) 2) == setVer && leVal (d.peek (a + 8) 4) == (leVal (d.peek (src + 8) 4) + 1) % 2 ^ 32

/-- The item on probation may be confirmed: for TARGET 0, the header of the bank on trial passes (R685). -/
def Dev.mayConfirm (d : Dev) : Bool :=
  let b := d.upd.boot
  b.try_ && (b.probDeck || b.tryFw == b.actFw || (match d.trialImage with | some m => d.headerOk m.setVer | none => false))

/-- The rollback floor that a confirmed deck raises (R44). -/
def Dev.deckFloor (d : Dev) : Dev :=
  match d.deck.running with
  | some k =>
    if k.hdr.flags.testBit 1 then
      let f := max d.deck.floor k.hdr.deckVer
      (d.setDeck { d.deck with floor := f }).wr SYSCTL_DECKFLOOR_FLOOR f
    else d
  | none => d

/-- FW_FLOOR rises to the IMG_VER of an image with RAISE_FLOOR (R687). -/
def Dev.imageFloor (d : Dev) (m : Manifest) : Dev :=
  if m.flags.testBit 0 then
    let f := max d.upd.fwFloor m.imgVer
    (d.setUpd { d.upd with fwFloor := f }).wr UPD_FWFLOOR_FW_FLOOR f
  else d

/-- Confirmation (R687). The DETAIL of a deck's notice is not stated: a free value. -/
def Dev.confirm (d : Dev) : Dev :=
  let b := d.upd.boot
  let man := d.trialImage
  let d := d.setUpd { d.upd with boot := { b with
    try_ := false, tries := 0, probDeck := false, actBoot := b.tryBoot, actFw := b.tryFw, actSet := b.trySet } }
  let d := if b.probDeck then d.deckFloor else match man with | some m => d.imageFloor m | none => d
  let d := (d.wr UPD_CFMLEFT_LEFT 0).bootShow
  let d := (d.wr UPD_EVT_CONFIRMED 1).trig 0x0527 []
  match man with
  | some m => d.updNotice 4 m.imgVer
  | none => d.fresh.updNotice 4 (d.freeVal 32)

end Sys2Proof.Machine
end

