-- ==== Sys2Proof/Machine/ShuttleReq.lean ====
section
/-! DEFINITION. What each Shuttle request does and answers, once its session has let it through (R535, R536, R585, R602 to
R610, R659, R661). -/

namespace Sys2Proof.Machine

/-! ### Keys (R585, R588, R595, R598, R602) -/

/-- The STATUS of an operation code for the host (R585). -/
def keyStatus (code : Nat) : Nat :=
  if code = 0 then 0
  else if code = 0x06 then 0x0025
  else if code = 0x07 ∨ code = 0x0D then 0x0035
  else if code = 0x0B then 0x0037
  else if code = 0x08 then 0x0013
  else if code = 0x0E then 0x0041
  else 0x0050

/-- A slot that the key store or the running deck declares (R536, R581). -/
def Dev.slotDeclared (d : Dev) (k : Nat) : Bool := decide (k < 512) && d.rdi KEY_ATTR_ALG k != 0

/-- A slot that the host loads: not those of the update controller and the module, and 494 in PROVISIONED only (R579). -/
def Dev.hostLoads (d : Dev) (k : Nat) : Nat :=
  if k = 480 ∨ k = 481 ∨ k = 482 ∨ k = 495 then 0x05
  else if k = 494 ∧ d.lifeState ≠ lsPROVISIONED then 0x06
  else 0

/-- The checks of R585 for the host, with the role check in place of the owner check. -/
def Dev.hostKeyCheck (d : Dev) (op slot target : Nat) (lengthBad : Bool) : Nat :=
  if d.flag KEY_STAT_LCBUSY then 0x06
  else if d.keyless then 0x0C
  else if op = 0x10 ∧ d.hostLoads target ≠ 0 then d.hostLoads target
  else d.keySlotChecks op slot target lengthBad

/-- A key operation of the host ends with a code. -/
def Dev.hostKeyEnd (d : Dev) (code : Nat) : Dev × Reply := (d.keyCount code, keyStatus code, [])

/-- KEY_LOAD (R588 to R591): the blob is unwrapped into the slot's pending copy, which is VERIFIED, and its key check value is the
reply. -/
def Dev.keyLoadReq (d : Dev) (slot wrap len : Nat) (f : KeyFinding) : Dev × Reply :=
  if !d.slotDeclared slot ∨ !d.slotDeclared wrap then (d, 0x0042, [])
  else
    let code := d.hostKeyCheck 0x10 wrap slot (len != 12 + 4 + keyMaterial (d.rdi KEY_ATTR_ALG slot) + 16)
    if code ≠ 0 then d.hostKeyEnd code
    else
      let late := d.keyLate { op := 0x10, target := slot } f
      if late = 0x07 then (d.trig 0x0507 [slot]).hostKeyEnd 0x07
      else if late ≠ 0 then d.hostKeyEnd late
      else if f.kver ≤ d.rdi KEY_KVER slot then d.hostKeyEnd 0x0B
      else
        let alg := d.rdi KEY_ATTR_ALG slot
        let key := f.material alg
        let d := (d.wri KEY_SLOTSTAT_PEND slot 2).setKeySlot slot
          { d.keySlot slot with pendAttr := d.keyAttr slot, pendVer := f.kver, pendKey := key }
        (d, 0, kcvOf alg key ++ [0])

/-- KEY_COMMIT (R595). -/
def Dev.keyCommitReq (d : Dev) (slot : Nat) : Dev × Reply :=
  if !d.slotDeclared slot then (d, 0x0042, [])
  else
    let code := d.hostKeyCheck 0x11 0 slot false
    if code ≠ 0 then d.hostKeyEnd code else (d.keyCommit slot, 0, [])

/-- KEY_INVAL (R598). -/
def Dev.keyInvalReq (d : Dev) (slot : Nat) : Dev × Reply :=
  if !d.slotDeclared slot then (d, 0x0042, [])
  else
    let code := d.hostKeyCheck 0x12 0 slot false
    if code ≠ 0 then d.hostKeyEnd code else (d.keyInvalidate slot, 0, [])

/-- OUT_CHAL (R602): the response is the HMAC under the slot's key over NONCE and MODULE_ID. -/
def Dev.outChalReq (d : Dev) (slot nonce : Nat) : Dev × Reply :=
  if !d.slotDeclared slot then (d, 0x0042, [])
  else
    let code := d.hostKeyCheck 0x0C slot 0 false
    if code ≠ 0 then d.hostKeyEnd code else (d, 0, hmac (d.keySlot slot).key (beOf 16 nonce ++ d.moduleId))

/-! ### Life cycle (R605 to R607, R632) -/

/-- A transition of R605. -/
def Dev.lcAllowed (d : Dev) (dst : Nat) : Bool :=
  let s := d.lifeState
  (s == lsBLANK && dst == lsPROVISIONED) || (s == lsPROVISIONED && dst == lsFIELD) || (s == lsFIELD && dst == lsSERVICE) ||
  (s == lsSERVICE && dst == lsFIELD) || (within s lsPROVISIONED lsSERVICE && dst == lsRETURNED) ||
  ((s == lsRETURNED || (within s lsPROVISIONED lsSERVICE && d.keyless)) && dst == lsPROVISIONED) ||
  (s != lsSCRAPPED && dst == lsSCRAPPED)

/-- NONCE_M of the session with a number, open or replaced (R606). -/
def Dev.nonceOf (d : Dev) (number : Nat) : Nat :=
  match d.sessionOf number with
  | some s => (d.session s).nonceM
  | none => ((d.sht.old.find? fun o => o.number == number).map fun o => o.nonceM).getD 0

/-- LC_CHANGE, steps 1 and 2 (R606, R607, R628, R632): the order is checked, LCBUSY is set, the intent is written and the
debug level falls. -/
def Dev.lcChange (d : Dev) (number seq dst : Nat) (auth : List Byte) : Dev × Option Reply :=
  if d.flag KEY_STAT_LCBUSY then (d, some (0x0050, []))
  else if !d.lcAllowed dst then (d, some (0x0025, []))
  else if !d.authOk dst (d.nonceOf number) auth then (d.trig 0x0507 [], some (0x0035, []))
  else if d.rd DBG_STAT_HALTED ≠ 0 then (d, some (0x0050, []))
  else
    let d := (d.wr KEY_STAT_LCBUSY 1).wr KEY_LC_TARGET dst
    let d := { d with key := { d.key with lcTarget := some (dst, number, seq) } }
    ((d.trig 0x0508 [dst]).dbgFall 0 dcLIFE, none)

/-! ### Reads (R535, R536, R659) -/

/-- INV_GET. -/
def Dev.inventoryReq (d : Dev) : Reply :=
  (0, beBytes ([(4, d.wordAt SYSCTL_PARTID_PART.base 0)] ++ ((List.range 4).map fun n => (4, d.rdi SHT_MODID_BYTES n)) ++
    [(4, d.rd SYSCTL_DECKID_DECK_ID), (4, d.rd SYSCTL_DECKVER_DECK_VER), (4, d.rd SYSCTL_DECKFLOOR_FLOOR),
      (4, d.rd UPD_IMGVER_IMG_VER), (1, d.lifeState), (3, 0)]))

/-- PRES_GET: the declared partners numbered FIRST to FIRST + COUNT - 1 (log entry 36). -/
def Dev.presenceReq (d : Dev) (first count : Nat) : Reply :=
  if count < 1 ∨ 256 < count then (0x0013, [])
  else
    let ps := (List.range count).filterMap fun i => d.rdeck.inventory.find? fun r => r.partner == first + i
    (0, beBytes ([(2, ps.length), (2, 0)] ++ ps.flatMap fun r =>
      [(2, r.partner), (1, r.kind), (1, (d.deck.presence.get r.partner .unknown).code)]))

/-- The records from `s` on whose CRC holds, up to `n`, with the SEQ after the last one looked at; `fuel` bounds the
walk. -/
def Dev.readFrom (d : Dev) : Nat → Nat → Nat → List RingRec × Nat
  | 0, _, s => ([], s)
  | _, 0, s => ([], s)
  | fuel + 1, n + 1, s =>
    let next := if s = d.rd REC_HEAD_SEQ then fun (_ : Nat) => (([] : List RingRec), seqNext s) else fun m => d.readFrom fuel m (seqNext s)
    match d.ringRec s with
    | some r => if r.crc = r.calcCrc then let p := next n; (r :: p.1, p.2) else next (n + 1)
    | none => next (n + 1)

/-- REC_READ (R659): up to COUNT checked records from FROM_SEQ, or from REC_TAIL when that is newer, each with its fields
most significant byte first (R642). -/
def Dev.recordReq (d : Dev) (fromSeq count : Nat) : Reply :=
  if count < 1 ∨ 8 < count then (0x0013, [])
  else if d.rd REC_HEAD_SEQ = 0 ∨ d.flag REC_STAT_CLEARING ∨ seqNewer fromSeq (d.rd REC_HEAD_SEQ) then (0, beBytes [(1, 0), (3, 0), (4, fromSeq)])
  else
    let s := if seqNewer (d.rd REC_TAIL_SEQ) fromSeq then d.rd REC_TAIL_SEQ else fromSeq
    let p := d.readFrom ringSlots count s
    (0, beBytes [(1, p.1.length), (3, 0), (4, p.2)] ++
      p.1.flatMap RingRec.wire)

/-- SIG_READ: slots in order, each as its 16 bytes read together (R8, R168, R174, R187). -/
def Dev.signalsReq (d : Dev) (first count : Nat) : Dev × Reply :=
  if count < 1 ∨ 64 < count ∨ 65536 < first + count then (d, 0x0013, [])
  else
    let ns := (List.range count).map fun i => first + i
    let d := d.each ns Dev.judge
    (d, 0, ns.flatMap fun n => (List.range 4).flatMap fun k => leOf 4 (slotPart (d.slotWord n) (4 * k) 32))

/-! ### Orders (R192, R193, R279, R536) -/

/-- SIG_FORCE. -/
def Dev.forceReq (d : Dev) (n : Nat) (v : Value) : Dev × Reply :=
  match d.sigRec n with
  | some r => (d.sigForce r v, 0, [])
  | none => (d, 0x0042, [])

/-- SIG_RELEASE. -/
def Dev.releaseReq (d : Dev) (n : Nat) : Dev × Reply :=
  match d.sigRec n with
  | some _ => (d.sigRelease n, 0, [])
  | none => (d, 0x0042, [])

/-- CH_MAN (R279). -/
def Dev.manReq (d : Dev) (m en cmd : Nat) : Dev × Reply :=
  if 63 < m ∨ 1 < en then (d, 0x0013, [])
  else if !d.bankFitted (bankOf m) ∨ !d.chUsed m then (d, 0x0042, [])
  else
    let d := d.manWrite m en cmd
    (d, 0, beBytes [(4, d.wordAt (CH_STAT_STATE.addr m) 0)])

/-- SLEEP_REQ (R503, R506). -/
def Dev.sleepReq (d : Dev) (k on : Nat) : Dev × Reply :=
  if 15 < k ∨ 1 < on then (d, 0x0013, [])
  else if !d.bit NMW_STAT_DECL 0 k then (d, 0x0042, [])
  else
    let had := d.clRequested k
    ((d.setCl k { d.cl k with hostReq := on == 1 }).requestChange k 2 0 had, 0, [])

/-- CTX_RESET and CTX_STOP, with the cause of R212. -/
def Dev.ctxOrderReq (d : Dev) (c cause : Nat) : Dev × Reply :=
  if (d.ctxRec c).isNone then (d, 0x0042, [])
  else if d.ctxState c = 4 then (d, 0x0050, [])
  else (d.ctxReset c cause, 0, [])

/-- CTX_RESTART (R216): a stopped context goes to RESTART. -/
def Dev.ctxRestartReq (d : Dev) (c : Nat) : Dev × Reply :=
  if (d.ctxRec c).isNone then (d, 0x0042, [])
  else if d.ctxState c ≠ 4 then (d, 0x0050, [])
  else
    let d := (d.fwClear (.resets c)).wri CTXN_STAT_STATE c 3
    ((d.notice c 0x01 0xFF (d.rdi CTXN_STAT_CAUSE c)).stateChanged c, 0, [])

/-- CTX_STAT. -/
def Dev.ctxStatReq (d : Dev) (c : Nat) : Reply :=
  if (d.ctxRec c).isNone then (0x0042, []) else (0, beBytes [(4, d.wordAt (CTXN_STAT_STATE.addr c) 0)])

/-- TRD_IDLE (R151, R152): the idle card from the next pick boundary. -/
def Dev.trdIdleOrder (d : Dev) : Dev := d.idleCause TRD_STAT_IDLE_HOST

/-- TRD_RELEASE (R151): the release order. -/
def Dev.trdRelease (d : Dev) : Dev × Reply :=
  let d := ((d.wr TRD_STAT_IDLE_DROP 0).wr TRD_STAT_IDLE_CONF 0).wr TRD_STAT_IDLE_HOST 0
  (d, 0, beBytes [(4, d.wordAt TRD_STAT_STATE.base 0)])

/-- UPD_STATUS. No timer is read: a held lock shows its whole 60 s (log entry 3). -/
def Dev.updStatusReq (d : Dev) : Reply :=
  (0, beBytes [(4, d.wordAt UPD_STAT_STATE.base 0), (2, d.rd UPD_STAT_HOLDER), (2, if d.upd.lock.isSome then 60 else 0),
    (4, d.rd UPD_RECEIVED_BLOCKS)])

/-- UPD_CANCEL (R677, R689), but for the final reply of an armed activation. -/
def Dev.updCancelReq (d : Dev) (h xfer : Nat) : Dev × Reply :=
  if d.updState = upPROBATION then (d, 0x0040, [])
  else match d.updItemOf h xfer with
    | none => (d, 0x0031, [])
    | some _ => (d.updDiscard.trig 0x0529 [], 0, [])

/-! ### Command codes and request payloads (R9, R535) -/

/-- The CMD of a request (R535). -/
def Request.code : Request → Nat
  | .ping => 0x0010
  | .bye => 0x0011
  | .subscribe _ => 0x0012
  | .abort _ _ => 0x0013
  | .restart => 0x0020
  | .updOpen _ _ _ => 0x0201
  | .updBlock _ _ _ _ => 0x0202
  | .updClose _ => 0x0203
  | .updActivate _ _ _ _ => 0x0204
  | .updCancel _ => 0x0205
  | .updStatus => 0x0206
  | .invGet => 0x0301
  | .presGet _ _ => 0x0302
  | .recRead _ _ => 0x0401
  | .recClear => 0x0402
  | .keyLoad _ _ _ _ => 0x0501
  | .keyCommit _ => 0x0502
  | .keyInval _ => 0x0503
  | .outChal _ _ => 0x0504
  | .lcChange _ _ => 0x0505
  | .sigRead _ _ => 0x0601
  | .sigForce _ _ => 0x0602
  | .sigRelease _ => 0x0603
  | .chMan _ _ _ => 0x0604
  | .sleepReq _ _ => 0x0605
  | .ctxReset _ => 0x0701
  | .ctxStop _ => 0x0702
  | .ctxRestart _ => 0x0703
  | .ctxStat _ => 0x0704
  | .trdIdle => 0x0705
  | .trdRelease => 0x0706
  | .unread _ => 0

/-- The payload of a request as its bytes spell it, but for the BLOB of KEY_LOAD, which follows its
fields (R9, R535). -/
def Request.payload : Request → List Byte
  | .subscribe on => beBytes [(1, on), (3, 0)]
  | .abort target _ => beBytes [(4, target)]
  | .updOpen k total _ => beBytes [(1, k), (3, 0), (4, total)]
  | .updBlock xfer off data _ => beBytes [(2, xfer), (2, 0), (4, off)] ++ data
  | .updClose xfer | .updCancel xfer => beBytes [(2, xfer), (2, 0)]
  | .updActivate xfer w a _ => beBytes [(2, xfer), (1, w), (1, 0), (8, a)]
  | .presGet first n | .sigRead first n => beBytes [(2, first), (2, n)]
  | .recRead from' n => beBytes [(4, from'), (1, n), (3, 0)]
  | .keyLoad slot wrap len _ => beBytes [(2, slot), (2, wrap), (2, len), (2, 0)]
  | .outChal n nonce => beBytes [(2, n), (2, 0), (16, nonce)]
  | .lcChange target auth => beBytes [(1, target), (3, 0)] ++ auth
  | .keyCommit n | .keyInval n | .sigRelease n | .ctxReset n | .ctxStop n | .ctxRestart n | .ctxStat n =>
    beBytes [(2, n), (2, 0)]
  | .sigForce n v => beBytes [(2, n), (6, 0), (8, v.toNat)]
  | .chMan m en cmd => beBytes [(1, m), (1, en), (2, cmd)]
  | .sleepReq k on => beBytes [(1, k), (1, on), (2, 0)]
  | .restart | .recClear | .trdIdle | .trdRelease => beBytes [(4, 0)]
  | .ping | .bye | .updStatus | .invGet | .unread _ => []

/-- The header of a request in its session: what GCM authenticates (R524, R525). -/
def Msg.head (m : Msg) (r : Request) : ShtHead := { kind := 1, cmd := r.code, session := m.session, seq := m.seq }

/-! ### Roles and life-cycle states (R528, R535, R610) -/

/-- The role that a command needs; none for those that any session may give (R535). -/
def Request.role : Request → Option Nat
  | .ping => none
  | .bye => none
  | .abort _ _ => none
  | .unread _ => none
  | .subscribe _ => some 0
  | .updStatus => some 0
  | .invGet => some 0
  | .presGet _ _ => some 0
  | .recRead _ _ => some 0
  | .sigRead _ _ => some 0
  | .ctxStat _ => some 0
  | .restart => some 1
  | .sleepReq _ _ => some 1
  | .ctxReset _ => some 1
  | .ctxStop _ => some 1
  | .ctxRestart _ => some 1
  | .trdIdle => some 1
  | .trdRelease => some 1
  | .updOpen _ _ _ => some 2
  | .updBlock _ _ _ _ => some 2
  | .updClose _ => some 2
  | .updActivate _ _ _ _ => some 2
  | .updCancel _ => some 2
  | .keyLoad _ _ _ _ => some 3
  | .keyCommit _ => some 3
  | .keyInval _ => some 3
  | .outChal _ _ => some 3
  | .lcChange _ _ => some 3
  | .recClear => some 4
  | .sigForce _ _ => some 4
  | .sigRelease _ => some 4
  | .chMan _ _ _ => some 4

/-- A column of R610: the life-cycle states as bits 0 to 4, bit 5 for Keyless in PROVISIONED, FIELD and SERVICE, and bit 6
for SCRAPPED. -/
def Dev.lcColumn (d : Dev) : Nat :=
  if d.lifeState = lsSCRAPPED then 6
  else if within d.lifeState lsPROVISIONED lsSERVICE && d.keyless then 5 else d.lifeState

/-- The IKIND that an update command is about: that of UPD_OPEN, or of the item. -/
def Dev.ikindOf (d : Dev) : Request → Nat
  | .updOpen k _ _ => k
  | _ => (d.upd.item.map fun i => i.ikind).getD 1

/-- The columns of R610 in which a command is allowed, as a mask. -/
def Dev.lcMask (d : Dev) (r : Request) : Nat :=
  match r with
  | .ping | .bye | .subscribe _ | .abort _ _ | .invGet | .recRead _ _ | .lcChange _ _ | .unread _ => 0x3F
  | .updStatus => 0x1E
  | .updOpen _ _ _ | .updBlock _ _ _ _ | .updClose _ | .updActivate _ _ _ _ | .updCancel _ =>
    if d.ikindOf r = 1 then 0x1E else 0x0E
  | .sigForce _ _ | .sigRelease _ | .chMan _ _ _ => 0x08
  | .recClear => 0x18
  | _ => 0x0E

/-- Long commands (R535). -/
def Request.long : Request → Bool
  | .updClose _ | .updActivate _ _ _ _ | .recClear | .keyLoad _ _ _ _ | .keyCommit _ | .keyInval _ | .outChal _ _
  | .lcChange _ _ => true
  | _ => false

/-- Requests that are handled on arrival (R538). -/
def Request.atOnce : Request → Bool
  | .ping | .bye | .subscribe _ | .abort _ _ => true
  | _ => false

/-! ### Running a request -/

/-- How a request ends for now: its reply; an acknowledgement while it executes; or an acknowledgement while the activation
that it ordered waits for its time, which holds no later request up (R538, R689, log entry 37). -/
inductive Ran
  | reply (status : Nat) (payload : List Byte)
  | executing
  | armed
deriving DecidableEq, Repr

/-- A state and a reply as the result of a request. -/
def ranOf (p : Dev × Reply) : Dev × Ran := (p.1, .reply p.2.1 p.2.2)

/-- A long command whose reply is there at once, or which goes on in the way given. -/
def ranLong (p : Dev × Option Reply) (on : Ran) : Dev × Ran :=
  match p.2 with
  | some r => (p.1, .reply r.1 r.2)
  | none => (p.1, on)

/-- A request of host `h`, in session `number` with sequence number `seq`, that its role and state allow. -/
def Dev.carry (d : Dev) (h number seq : Nat) (r : Request) : Dev × Ran :=
  match r with
  | .ping => (d, .reply 0 [])
  | .bye => (d, .reply 0 [])
  | .subscribe _ => (d, .reply 0 [])
  | .abort _ _ => (d, .reply 0 [])
  | .unread st => (d, .reply st [])
  | .restart => (d.setPwr { d.pwr with ordered := true }, .reply 0 [])
  | .updOpen k total xfer => ranOf (d.updOpen h number k total xfer)
  | .updBlock xfer off data x => ranOf (d.updBlock h xfer off data x)
  | .updClose xfer => ranLong (d.updClose h number seq xfer) .executing
  | .updActivate xfer w at' now => ranLong (d.updActivate h number seq xfer w at' now) .armed
  | .updCancel xfer => ranOf (d.updCancelReq h xfer)
  | .updStatus => ranOf (d, d.updStatusReq)
  | .invGet => ranOf (d, d.inventoryReq)
  | .presGet first n => ranOf (d, d.presenceReq first n)
  | .recRead from' n => ranOf (d, d.recordReq from' n)
  | .recClear => ((d.wr REC_STAT_CLEARING 1).setRec { d.recd with clearHost := h }, .executing)
  | .keyLoad slot wrap len f => ranOf (d.keyLoadReq slot wrap len f)
  | .keyCommit slot => ranOf (d.keyCommitReq slot)
  | .keyInval slot => ranOf (d.keyInvalReq slot)
  | .outChal slot nonce => ranOf (d.outChalReq slot nonce)
  | .lcChange dst auth => ranLong (d.lcChange number seq dst auth) .executing
  | .sigRead first n => ranOf (d.signalsReq first n)
  | .sigForce n v => ranOf (d.forceReq n v)
  | .sigRelease n => ranOf (d.releaseReq n)
  | .chMan m en cmd => ranOf (d.manReq m en cmd)
  | .sleepReq k on => ranOf (d.sleepReq k on)
  | .ctxReset c => ranOf (d.ctxOrderReq c 2)
  | .ctxStop c => ranOf (d.ctxOrderReq c 6)
  | .ctxRestart c => ranOf (d.ctxRestartReq c)
  | .ctxStat c => ranOf (d, d.ctxStatReq c)
  | .trdIdle => (d.trdIdleOrder, .reply 0 [])
  | .trdRelease => ranOf d.trdRelease

/-- A session's role mask holds the command's role (R528). -/
def Request.roleIn (r : Request) (roles : Nat) : Bool :=
  match r.role with
  | some b => roles.testBit b
  | none => true

/-- A request as its session runs it: role, then life-cycle state, then the command (R535, R544, R610). -/
def Dev.runRequest (d : Dev) (h number roles seq : Nat) (r : Request) : Dev × Ran :=
  if !r.roleIn roles then (d, .reply 0x0024 [])
  else if !(d.lcMask r).testBit d.lcColumn then (d, .reply 0x0025 [])
  else d.carry h number seq r

end Sys2Proof.Machine
end

