-- ==== Sys2Proof/Machine/Shuttle.lean ====
section
/-! DEFINITION. Shuttle: the handshake, sessions, requests with their replies, notices and the internet protocols of I3
(R521 to R549), and the final replies of long commands (R541, R607, R661, R678). -/

namespace Sys2Proof.Machine

/-! ### Messages that do not reach a session (R527) -/

/-- A malformed message is counted and gets no reply. -/
def Dev.malformed (d : Dev) : Dev := d.inc SHT_CNT2_MALFORM

/-- A tag that does not verify. -/
def Dev.tagError (d : Dev) : Dev := (d.inc SHT_CNT0_TAGERR).wr SHT_EVT_TAGERR 1

/-- A clear error reply: it carries its STATUS and nothing else (R527, log entry 63). -/
def Dev.clearError (d : Dev) (session status : Nat) : Dev :=
  d.send (.clear { kind := 2, cmd := 0, session := session, status := status } [])

/-- A message whose SESSION names no open session. -/
def Dev.noSession (d : Dev) (session : Nat) : Dev := (d.inc SHT_CNT1_NOSESS).clearError session 0x0021

/-! ### Handshake (R528 to R533) -/

/-- The roles of a host; none where it can open no session (R528, R576, R577). The factory secret stands in for slot 511
of host 15. -/
def Dev.hostRoles (d : Dev) (h : Nat) : Option Nat :=
  let lc := d.lifeState
  if 15 < h ∨ lc = lsSCRAPPED then none
  else if lc = lsBLANK ∨ lc = lsRETURNED ∨ d.keyless then (if h = 15 then some 0x09 else none)
  else if lc = lsPROVISIONED ∧ h = 15 ∧ !d.hostKey 15 then
    some (if d.deck.running.isNone then 0x0D else d.rdi KEY_OWN_OWNER 511 % 32 ||| 0x09)
  else if !d.hostKey h ∨ !d.bit KEY_ATTR_LCMASK (496 + h) lc then none
  else if d.deck.running.isNone then some 0x05
  else some (d.rdi KEY_OWN_OWNER (496 + h) % 32)

/-- Numbers in use by half-open and open sessions. -/
def Dev.numbersUsed (d : Dev) : List Nat :=
  (d.sht.half.map fun x => x.number) ++ (d.sht.old.map fun x => x.number) ++
    ((List.range 4).filter fun s => d.rdi SHT_SESS_STATE s == 2).map fun s => d.rdi SHT_SID_SESSION s

/-- The new session's number: the one that the command brings, when it is free, else the least free one. -/
def Dev.sessionNumber (d : Dev) (n : Nat) : Nat :=
  let used := d.numbersUsed
  if n ≠ 0 ∧ n < 2 ^ 32 ∧ !used.contains n then n
  else (((List.range (used.length + 1)).map fun i => i + 1).find? fun i => !used.contains i).getD 1

/-- A register slot that shows no session. -/
def Dev.freeSlot (d : Dev) : Option Nat := (List.range 4).find? fun s => d.rdi SHT_SESS_STATE s == 0

/-- HALFOPEN follows the half-open sessions. -/
def Dev.setHalfOpen (d : Dev) (l : List HalfOpen) : Dev :=
  ({ d with sht := { d.sht with half := l } }).wr SHT_STAT_HALFOPEN l.length

/-- A half-open session goes, and the register slot that shows it. -/
def Dev.halfDrop (d : Dev) (x : HalfOpen) : Dev :=
  let d := d.setHalfOpen (d.sht.half.filter fun y => y.number != x.number)
  match x.slot with
  | some s => ((d.wri SHT_SESS_STATE s 0).wri SHT_SESS_HOST s 0).wri SHT_SID_SESSION s 0
  | none => d

/-- The module takes Shuttle messages: its core die runs. -/
def Dev.shtUp (d : Dev) : Bool := d.coreRuns

/-- HELLO (R529 to R531, R607): a half-open session and a CHALLENGE, or a clear error reply. `number` is the session number
that the module gives, `nonce` and `epub` what the host sends. NONCE_M and the module's ephemeral key come from the TRNG. -/
def execHello (check : MsgCheck) (host number nonce epub : Nat) (s : State) : Host.Outcome State Fault Refusal :=
  onDev (fun d =>
    if !d.shtUp then d
    else if check = .badVersion then d.clearError 0 0x0010
    else if check ≠ .good then d.malformed
    else if d.sht.locked then d.clearError 0 0x0023
    else if 4 ≤ d.rd SHT_STAT_OPEN ∨ 4 ≤ d.sht.half.length then d.clearError 0 0x0022
    else if d.flag KEY_STAT_LCBUSY ∨ (d.hostRoles host).isNone then d.clearError 0 0x0020
    else
      let n := d.sessionNumber number
      let slot := d.freeSlot
      let x : HalfOpen := { number := n, host := host, slot := slot, nonceH := nonce, nonceM := d.freeVal 128, epubH := epub,
                            priv := d.fresh.freeVal 256 }
      let d := d.fresh.fresh.setHalfOpen (d.sht.half ++ [x])
      let d := match slot with
        | some k => ((d.wri SHT_SESS_STATE k 1).wri SHT_SESS_HOST k host).wri SHT_SID_SESSION k n
        | none => d
      d.send (.clear { kind := 0, cmd := 2, session := n } (d.moduleId ++ beOf 16 x.nonceM ++ x.epubM ++ d.respM x))) s

/-- A PROOF does not verify; the eighth within its window locks HELLO out for 60 s (R531). -/
def Dev.proofFail (d : Dev) (x : HalfOpen) : Dev :=
  let third := d.fwFires .handshake 8
  let d := ((d.halfDrop x).clearError x.number 0x0020).inc SHT_CNT0_AUTHFAIL
  let d := ((d.wr SHT_EVT_AUTHFAIL 1).trig 0x0492 [x.host]).fwEvent .handshake 8
  if third then
    ((({ d with sht := { d.sht with locked := true } }).wr SHT_STAT_LOCKOUT 60).wr SHT_EVT_LOCKOUT 1).trig 0x0493 []
  else d

/-- The open session of a host. -/
def Dev.sessionOfHost (d : Dev) (h : Nat) : Option Nat :=
  (List.range 4).find? fun s => d.rdi SHT_SESS_STATE s == 2 && d.rdi SHT_SESS_HOST s == h

/-- A session is replaced: its commands run to completion without a session to answer in (R532). -/
def Dev.sessionReplace (d : Dev) (s : Nat) : Dev :=
  let x := d.session s
  let d := match x.executing with
    | some e => { d with sht := { d.sht with old := d.sht.old ++
        [OldSession.mk (d.rdi SHT_SID_SESSION s) (d.rdi SHT_SESS_HOST s) (d.rdi SHT_SESS_ROLES s) e x.waiting x.nonceM] } }
    | none => d
  d.sessionEnd s 3

/-- The staging lock passes to the host's new session (R532). -/
def Dev.lockPass (d : Dev) (h number : Nat) : Dev :=
  match d.upd.lock with
  | some l => if l.1 = h then d.setUpd { d.upd with lock := some (h, number) } else d
  | none => d

/-- A verified PROOF opens the session (R529, R532, R534). -/
def Dev.establish (d : Dev) (x : HalfOpen) : Dev :=
  let d := d.halfDrop x
  let d := match d.sessionOfHost x.host with
    | some s => d.sessionReplace s
    | none => d
  match (match x.slot with | some s => some s | none => d.freeSlot) with
  | none => d.clearError x.number 0x0022
  | some s =>
    let roles := (d.hostRoles x.host).getD 0
    let d := ((d.wri SHT_SESS_STATE s 2).wri SHT_SESS_HOST s x.host).wri SHT_SESS_ROLES s roles
    let d := ((d.wri SHT_SESS_SUB s 0).wri SHT_SID_SESSION s x.number).countOpen
    let d := (d.setSession s { keys := x.keys, nonceM := x.nonceM }).lockPass x.host x.number
    let d := (d.wr SHT_EVT_OPEN 1).trig 0x0490 [x.host]
    d.sendTo s 2 4 0 0 (beBytes [(2, roles), (1, d.lifeState), (1, 0), (1, d.rd SHT_STAT_OPEN), (3, 0), (2, 30), (2, 0)])

/-- PROOF (R531 to R533): it verifies when it carries RESP_H (R529). -/
def execProof (m : Msg) (resp : List Byte) (s : State) : Host.Outcome State Fault Refusal :=
  onDev (fun d =>
    if !d.shtUp then d
    else match d.sht.half.find? fun x => x.number == m.session with
      | none => d.noSession m.session
      | some x =>
        if m.check ≠ .good then d.malformed
        else if resp = d.respH x then d.establish x else d.proofFail x) s

/-- LOCKOUT_END (R531): the lockout ends, and the failures count anew. -/
def execLockoutEnd (s : State) : Host.Outcome State Fault Refusal :=
  onDev (fun d =>
    if d.sht.locked then
      (({ d with sht := { d.sht with locked := false } }).wr SHT_STAT_LOCKOUT 0).fwClear .handshake
    else d) s

/-- HALF_OPEN_TIMEOUT (R530): no PROOF within 2 s. -/
def execHalfOpenTimeout (number : Nat) (s : State) : Host.Outcome State Fault Refusal :=
  onDev (fun d =>
    match d.sht.half.find? fun x => x.number == number with
    | some x => d.halfDrop x
    | none => d) s

/-- SESSION_IDLE_TIMEOUT (R534): no verified message for 30 s. -/
def execSessionIdleTimeout (number : Nat) (s : State) : Host.Outcome State Fault Refusal :=
  onDev (fun d =>
    match d.sessionOf number with
    | some k => d.sessionEnd k 2
    | none => d) s

/-! ### Requests and replies (R537 to R541) -/

/-- A request's result in its open session: a reply kept for a repeat; or an acknowledgement, with the command as the
one that executes (R537, R539). -/
def Dev.sessionRan (d : Dev) (s seq : Nat) (r : Request) (acked : Bool) : Ran → Dev
  | .reply st p => d.replyTo s r.code seq st p
  | .executing =>
    let d := d.setSession s { d.session s with executing := some (seq, r) }
    if acked then d else d.ackTo s r.code seq
  | .armed => if acked then d else d.ackTo s r.code seq

/-- A request of a session executes. -/
def Dev.execute (d : Dev) (s seq : Nat) (r : Request) (acked : Bool) : Dev :=
  let p := d.runRequest (d.rdi SHT_SESS_HOST s) (d.rdi SHT_SID_SESSION s) (d.rdi SHT_SESS_ROLES s) seq r
  p.1.sessionRan s seq r acked p.2

/-- The requests that wait execute in order of SEQ until one goes on executing (R538). A long command was acknowledged as it
came. -/
def Dev.drain : Nat → Dev → Nat → Dev
  | 0, d, _ => d
  | n + 1, d, s =>
    let x := d.session s
    match x.executing, x.waiting with
    | none, (seq, r) :: rest => Dev.drain n ((d.setSession s { x with waiting := rest }).execute s seq r r.long) s
    | _, _ => d

/-- The same for a session that was replaced; its replies are discarded (R532). -/
def Dev.drainOld (d : Dev) (o : OldSession) : Nat → List (Nat × Request) → Dev
  | 0, _ => d
  | _, [] => { d with sht := { d.sht with old := d.sht.old.filter fun y => y.number != o.number } }
  | n + 1, (seq, r) :: rest =>
    let p := d.runRequest o.host o.number o.roles seq r
    if p.2 = .executing then
      { p.1 with sht := { p.1.sht with old := (p.1.sht.old.filter fun y => y.number != o.number) ++
        [{ o with executing := (seq, r), waiting := rest }] } }
    else p.1.drainOld o n rest

/-- The final reply of a command that executes in a session, and then the requests that wait (R538, R539). -/
def Dev.finish (d : Dev) (number seq status : Nat) (payload : List Byte) : Dev :=
  match d.sessionOf number with
  | some s =>
    match (d.session s).executing with
    | some e =>
      if e.1 = seq then
        Dev.drain 9 ((d.setSession s { d.session s with executing := none }).replyTo s e.2.code seq status payload) s
      else d
    | none => d
  | none =>
    match d.sht.old.find? fun o => o.number == number && o.executing.1 == seq with
    | some o => d.drainOld o 9 o.waiting
    | none => d

/-- The final reply of an activation, in the session that ordered it (R681, R689). -/
def Dev.finishArmed (d : Dev) (a : Option (Nat × Nat)) (status : Nat) : Dev :=
  match a with
  | some (number, seq) =>
    match d.sessionOf number with
    | some s => d.replyTo s 0x0204 seq status []
    | none => d
  | none => d

/-- A waiting request put in its place by SEQ. -/
def insertWaiting (e : Nat × Request) : List (Nat × Request) → List (Nat × Request)
  | [] => [e]
  | x :: rest => if e.1 < x.1 then e :: x :: rest else x :: insertWaiting e rest

/-- A SEQ is taken as seen (R537). -/
def Session.see (x : Session) (seq : Nat) : Session :=
  let high := max x.high seq
  { x with high := high, seen := (seq :: x.seen).filter fun n => decide (high ≤ n + 64) }

/-- A SEQ that may be accepted: above the highest seen, or within the 64 below it and not yet seen (R537). -/
def Session.accepts (x : Session) (seq : Nat) : Bool :=
  decide (x.high < seq) || (decide (x.high ≤ seq + 64) && decide (seq < x.high) && !x.seen.contains seq && decide (0 < seq))

/-! ### ABORT, BYE and SUBSCRIBE (R535, R541, R542) -/

/-- An armed activation is aborted (R689). -/
def Dev.abortArmed (d : Dev) : Dev :=
  let a := d.upd.armed
  let d := (d.setUpd { d.upd with armed := none }).wr UPD_STAT_STATE upSTAGED
  d.finishArmed a 0x0041

/-- A long command that executes stops at its safe point (R541, R661, R678). -/
def Dev.stopLong (d : Dev) : Request → Dev
  | .updClose _ => d.setUpd { d.upd with closing := none }
  | .recClear => d.wr REC_STAT_CLEARING 0
  | _ => d

/-- A transition past step 1 cannot be stopped (R608). -/
def Request.stops : Request → Bool
  | .lcChange _ _ => false
  | _ => true

/-- ABORT (R541): the target waits, executes, or has completed; `late` tells that it is past its safe point. A target that
is no long command of the session is a field out of range (log entry 38). -/
def Dev.abortReq (d : Dev) (s seq target : Nat) (late : Bool) : Dev :=
  let x := d.session s
  match x.waiting.find? fun e => e.1 == target && e.2.long with
  | some e =>
    ((d.setSession s { x with waiting := x.waiting.filter fun e => e.1 != target }).replyTo s e.2.code target 0x0041 []).replyTo
      s 0x0013 seq 0 []
  | none =>
    if d.upd.armed = some (d.rdi SHT_SID_SESSION s, target) then
      (if late then d.replyTo s 0x0013 seq 0x0040 [] else d.abortArmed.replyTo s 0x0013 seq 0 [])
    else match x.executing with
      | some e =>
        if e.1 = target then
          if late ∨ !e.2.stops then d.replyTo s 0x0013 seq 0x0040 []
          else ((d.stopLong e.2).finish (d.rdi SHT_SID_SESSION s) target 0x0041 []).replyTo s 0x0013 seq 0 []
        else if x.replies.any fun r => r.answers == target then d.replyTo s 0x0013 seq 0x0040 [] else d.replyTo s 0x0013 seq 0x0013 []
      | none =>
        if x.replies.any fun r => r.answers == target then d.replyTo s 0x0013 seq 0x0040 [] else d.replyTo s 0x0013 seq 0x0013 []

/-- The requests that are handled on arrival (R535, R538, R541, R542). -/
def Dev.atOnce (d : Dev) (s seq : Nat) (r : Request) : Dev :=
  if !r.roleIn (d.rdi SHT_SESS_ROLES s) then d.replyTo s r.code seq 0x0024 []
  else if !(d.lcMask r).testBit d.lcColumn then d.replyTo s r.code seq 0x0025 []
  else match r with
    | .bye => (d.replyTo s r.code seq 0 []).sessionEnd s 1
    | .subscribe on =>
      if 1 < on then d.replyTo s r.code seq 0x0013 []
      else
        let d := (d.wri SHT_SESS_SUB s on).replyTo s r.code seq 0 []
        if on = 1 then d.updRelease else d
    | .abort target late => d.abortReq s seq target late
    | _ => d.replyTo s r.code seq 0 []

/-! ### Arrival (R527, R537, R538) -/

/-- A request that its session accepts: handled on arrival, executed, or put to wait; a ninth that waits is refused and not
seen (R538). -/
def Dev.take (d : Dev) (s seq : Nat) (r : Request) : Dev :=
  let x := d.session s
  if r.atOnce then (d.setSession s (x.see seq)).atOnce s seq r
  else match x.executing with
    | none => Dev.drain 9 ((d.setSession s (x.see seq)).execute s seq r false) s
    | some _ =>
      if 8 ≤ x.waiting.length then d.sendTo s 2 r.code seq 0x0026 []
      else
        let d := d.setSession s { x.see seq with waiting := insertWaiting (seq, r) x.waiting }
        if r.long then d.ackTo s r.code seq else d

/-- A request that has been seen before: the kept reply again with its own SEQ, a fresh acknowledgement while it executes,
or a discard (R526, R537, R539). -/
def Dev.takeAgain (d : Dev) (s seq : Nat) (r : Request) : Dev :=
  let x := d.session s
  let number := d.rdi SHT_SID_SESSION s
  match x.replies.find? fun k => k.answers == seq with
  | some k => d.sendSeq s 2 k.cmd k.seq seq k.status k.payload
  | none =>
    let busy : Bool := match x.executing with | some e => e.1 == seq | none => false
    if busy ∨ d.upd.armed = some (number, seq) then d.ackTo s r.code seq
    else (d.inc SHT_CNT1_REPLAY).wr SHT_EVT_REPLAY 1

/-- What a session makes of a request: one whose CMD no command has, or whose LEN or fields no command takes, gets STATUS 0x0012 or
0x0013 in its turn (R544). -/
def Msg.reads (m : Msg) (r : Request) : Request :=
  match m.check with
  | .unknownCmd => .unread 0x0012
  | .badField => .unread 0x0013
  | _ => r

/-- A request arrives (R527, R537). -/
def Dev.request (d : Dev) (m : Msg) (r : Request) : Dev :=
  if !d.shtUp then d
  else match d.sessionOf m.session with
    | none => d.noSession m.session
    | some s =>
      if m.check = .badTag then d.tagError
      else if m.check = .badVersion ∨ m.check = .malformed then d.malformed
      else
        let r := m.reads r
        if (d.session s).accepts m.seq then d.take s m.seq r else d.takeAgain s m.seq r

/-- PING (R535). -/
def execPing (m : Msg) (s : State) : Host.Outcome State Fault Refusal := onDev (fun d => d.request m .ping) s

/-- BYE (R535). -/
def execBye (m : Msg) (s : State) : Host.Outcome State Fault Refusal := onDev (fun d => d.request m .bye) s

/-- SUBSCRIBE (R542). -/
def execSubscribe (m : Msg) (on : Nat) (s : State) : Host.Outcome State Fault Refusal :=
  onDev (fun d => d.request m (.subscribe on)) s

/-- ABORT (R541). -/
def execAbort (m : Msg) (target : Nat) (late : Bool) (s : State) : Host.Outcome State Fault Refusal :=
  onDev (fun d => d.request m (.abort target late)) s

/-- RESTART (R535). -/
def execRestart (m : Msg) (s : State) : Host.Outcome State Fault Refusal := onDev (fun d => d.request m .restart) s

/-- UPD_OPEN (R674). `xfer` is the number that the module gives. -/
def execUpdOpen (m : Msg) (ikind total xfer : Nat) (s : State) : Host.Outcome State Fault Refusal :=
  onDev (fun d => d.request m (.updOpen ikind total xfer)) s

/-- UPD_BLOCK (R672). -/
def execUpdBlock (m : Msg) (xfer offset : Nat) (data : List Byte) (found : BlockFind) (s : State) :
    Host.Outcome State Fault Refusal :=
  onDev (fun d => d.request m (.updBlock xfer offset data found)) s

/-- UPD_CLOSE (R678). -/
def execUpdClose (m : Msg) (xfer : Nat) (s : State) : Host.Outcome State Fault Refusal :=
  onDev (fun d => d.request m (.updClose xfer)) s

/-- UPD_ACTIVATE (R679). `now` is the gPTP time at its arrival. -/
def execUpdActivate (m : Msg) (xfer when_ at_ now : Nat) (s : State) : Host.Outcome State Fault Refusal :=
  onDev (fun d => d.request m (.updActivate xfer when_ at_ now)) s

/-- UPD_CANCEL (R677, R689): an armed activation has its final reply besides. -/
def execUpdCancel (m : Msg) (xfer : Nat) (s : State) : Host.Outcome State Fault Refusal :=
  onDev (fun d =>
    let a := d.upd.armed
    let d := d.request m (.updCancel xfer)
    if a.isSome ∧ d.upd.armed.isNone then d.finishArmed a 0x0041 else d) s

/-- UPD_STATUS (R535). -/
def execUpdStatus (m : Msg) (s : State) : Host.Outcome State Fault Refusal := onDev (fun d => d.request m .updStatus) s

/-- INV_GET (R535). -/
def execInvGet (m : Msg) (s : State) : Host.Outcome State Fault Refusal := onDev (fun d => d.request m .invGet) s

/-- PRES_GET (R535). -/
def execPresGet (m : Msg) (first count : Nat) (s : State) : Host.Outcome State Fault Refusal :=
  onDev (fun d => d.request m (.presGet first count)) s

/-- REC_READ (R659): a record whose CRC fails is reported as on a cursor write (R658). -/
def execRecRead (m : Msg) (fromSeq count : Nat) (s : State) : Host.Outcome State Fault Refusal :=
  onDev (fun d => d.request m (.recRead fromSeq count)) s

/-- REC_CLEAR (R661), step 1. -/
def execRecClear (m : Msg) (s : State) : Host.Outcome State Fault Refusal := onDev (fun d => d.request m .recClear) s

/-- KEY_LOAD (R588): `found` is what the engine finds in the blob of `len` bytes. -/
def execKeyLoad (m : Msg) (slot wrap len : Nat) (found : KeyFinding) (s : State) : Host.Outcome State Fault Refusal :=
  onDev (fun d => d.request m (.keyLoad slot wrap len found)) s

/-- KEY_COMMIT (R595). -/
def execKeyCommit (m : Msg) (slot : Nat) (s : State) : Host.Outcome State Fault Refusal :=
  onDev (fun d => d.request m (.keyCommit slot)) s

/-- KEY_INVAL (R598). -/
def execKeyInval (m : Msg) (slot : Nat) (s : State) : Host.Outcome State Fault Refusal :=
  onDev (fun d => d.request m (.keyInval slot)) s

/-- OUT_CHAL (R602). -/
def execOutChal (m : Msg) (slot nonce : Nat) (s : State) : Host.Outcome State Fault Refusal :=
  onDev (fun d => d.request m (.outChal slot nonce)) s

/-- LC_CHANGE (R607). -/
def execLcChange (m : Msg) (target : Nat) (auth : List Byte) (s : State) : Host.Outcome State Fault Refusal :=
  onDev (fun d => d.request m (.lcChange target auth)) s

/-- SIG_READ (R535). -/
def execSigRead (m : Msg) (first count : Nat) (s : State) : Host.Outcome State Fault Refusal :=
  onDev (fun d => d.request m (.sigRead first count)) s

/-- SIG_FORCE (R192). -/
def execSigForce (m : Msg) (signal : Nat) (value : Value) (s : State) : Host.Outcome State Fault Refusal :=
  onDev (fun d => d.request m (.sigForce signal value)) s

/-- SIG_RELEASE (R193). -/
def execSigRelease (m : Msg) (signal : Nat) (s : State) : Host.Outcome State Fault Refusal :=
  onDev (fun d => d.request m (.sigRelease signal)) s

/-- CH_MAN (R279). -/
def execChMan (m : Msg) (channel en cmd : Nat) (s : State) : Host.Outcome State Fault Refusal :=
  onDev (fun d => d.request m (.chMan channel en cmd)) s

/-- SLEEP_REQ (R536). -/
def execSleepReq (m : Msg) (cluster on : Nat) (s : State) : Host.Outcome State Fault Refusal :=
  onDev (fun d => d.request m (.sleepReq cluster on)) s

/-- CTX_RESET (R212, R536). -/
def execCtxReset (m : Msg) (c : Nat) (s : State) : Host.Outcome State Fault Refusal :=
  onDev (fun d => d.request m (.ctxReset c)) s

/-- CTX_STOP (R212, R536). -/
def execCtxStop (m : Msg) (c : Nat) (s : State) : Host.Outcome State Fault Refusal :=
  onDev (fun d => d.request m (.ctxStop c)) s

/-- CTX_RESTART (R216). -/
def execCtxRestart (m : Msg) (c : Nat) (s : State) : Host.Outcome State Fault Refusal :=
  onDev (fun d => d.request m (.ctxRestart c)) s

/-- CTX_STAT (R535). -/
def execCtxStat (m : Msg) (c : Nat) (s : State) : Host.Outcome State Fault Refusal :=
  onDev (fun d => d.request m (.ctxStat c)) s

/-- TRD_IDLE (R536). -/
def execTrdIdle (m : Msg) (s : State) : Host.Outcome State Fault Refusal := onDev (fun d => d.request m .trdIdle) s

/-- TRD_RELEASE (R536). -/
def execTrdRelease (m : Msg) (s : State) : Host.Outcome State Fault Refusal := onDev (fun d => d.request m .trdRelease) s

/-! ### Notices (R542) -/

/-- NOTICE_ACK: a host's acknowledgement stops the resends of the notice with the SEQ that it answers. -/
def execNoticeAck (m : Msg) (notice : Nat) (s : State) : Host.Outcome State Fault Refusal :=
  onDev (fun d =>
    if !d.shtUp then d
    else match d.sessionOf m.session with
      | none => d.noSession m.session
      | some k =>
        if m.check = .badTag then d.tagError
        else if m.check ≠ .good then d.malformed
        else
          let x := d.session k
          d.setSession k { x with unacked := x.unacked.filter fun n => n.seq != notice }) s

/-- NOTICE_RESEND: 500 ms without an acknowledgement: sent again with the same SEQ, or dropped after 8 resends. -/
def execNoticeResend (number notice : Nat) (s : State) : Host.Outcome State Fault Refusal :=
  onDev (fun d =>
    match d.sessionOf number with
    | none => d
    | some k =>
      let x := d.session k
      match x.unacked.find? fun n => n.seq == notice with
      | none => d
      | some n =>
        if n.resends < 8 then
          (d.setSession k { x with unacked := x.unacked.map fun e => if e.seq = notice then { e with resends := e.resends + 1 } else e }).sendSeq
            k 3 n.code n.seq 0 0 n.payload
        else
          (d.setSession k { x with unacked := x.unacked.filter fun e => e.seq != notice }).noteLost (d.rdi SHT_SESS_HOST k)) s

/-! ### Internet protocols of I3 (R522) -/

/-- NEIGHBOR_SOLICITATION: the module advertises its own address to the station that asks, and answers for no other. -/
def execNeighborSolicitation (own : Bool) (src : Nat) (s : State) : Host.Outcome State Fault Refusal :=
  onDev (fun d => if d.shtUp ∧ own then d.send (.ip 136 [src]) else d) s

/-- ICMPV6_ECHO: an echo request to the module's address is answered with its identifier, sequence number and data. -/
def execIcmpv6Echo (own : Bool) (src ident seq : Nat) (data : List Nat) (s : State) : Host.Outcome State Fault Refusal :=
  onDev (fun d => if d.shtUp ∧ own then d.send (.ip 129 ([src, ident, seq] ++ data)) else d) s

/-- REASSEMBLY_TIMEOUT: the fragments of a datagram that is not complete within 2 s are discarded. -/
def execReassemblyTimeout (src ident : Nat) (s : State) : Host.Outcome State Fault Refusal :=
  onDev (fun d => { d with swx := { d.swx with i3 := d.swx.i3.filter fun f => !f.fragmentOf src ident } }) s

/-! ### Final replies (R607, R661, R678) -/

/-- UPD_CLOSE_COMPLETE (R536, R678): the checks of a closed item finish. -/
def execUpdCloseComplete (x : CloseIn) (s : State) : Host.Outcome State Fault Refusal :=
  onDev (fun d =>
    match d.upd.closing, d.upd.item with
    | some c, some i =>
      match d.closeEnd i x with
      | some p => p.1.finish c.1 c.2 p.2.1 p.2.2
      | none => d
    | _, _ => d) s

/-- LC_TRANSITION_COMPLETE (R607): steps 3 to 6: the new state is committed, the final reply sent, and a restart ordered. -/
def execLcTransitionComplete (s : State) : Host.Outcome State Fault Refusal :=
  onDev (fun d =>
    match d.key.lcTarget with
    | some t =>
      let d := d.lcCarry t.1
      let d := d.finish t.2.1 t.2.2 0 (beBytes [(1, d.lifeState), (3, 0)])
      d.setPwr { d.pwr with ordered := true }
    | none => d) s

/-- The REC_CLEAR that executes: its session's number and its SEQ. -/
def clearingIn (number : Nat) : Nat × Request → Option (Nat × Nat)
  | (seq, .recClear) => some (number, seq)
  | _ => none

/-- The session and SEQ whose REC_CLEAR executes. -/
def Dev.clearing (d : Dev) : Option (Nat × Nat) :=
  match (List.range 4).findSome? fun s =>
      match (d.session s).executing with
      | some e => clearingIn (d.rdi SHT_SID_SESSION s) e
      | none => none with
  | some c => some c
  | none => d.sht.old.findSome? fun o => clearingIn o.number o.executing

/-- RING_ERASE_COMPLETE (R661): the ring is zero, record 0x0030 is written and the final reply sent. -/
def execRingEraseComplete (s : State) : Host.Outcome State Fault Refusal :=
  onDev (fun d =>
    if d.flag REC_STAT_CLEARING then
      let c := d.clearing
      let d := d.ringErased
      match c with
      | some p => d.finish p.1 p.2 0 []
      | none => d
    else d) s

end Sys2Proof.Machine
end

