-- ==== Sys2Proof/Machine/Update.lean ====
section
/-! DEFINITION. The commands of the update controller that no session orders: the lapse of the staging lock, the
activation time, confirmation and the end of the confirm window (R675, R680, R681, R685 to R688). -/

namespace Sys2Proof.Machine

/-- STAGING_LOCK_LAPSE (R675): 60 s without an accepted command of the holder. The lock does not lapse in ARMED, nor
while the checks of a close run. -/
def execStagingLockLapse (s : State) : Host.Outcome State Fault Refusal :=
  onDev (fun d =>
    match d.upd.lock with
    | some l =>
      if (d.updState = upRECEIVING ∨ d.updState = upSTAGED) ∧ d.upd.closing.isNone then
        ((d.updDiscard.trig 0x0522 [l.1]).updNotice 6 l.1)
      else d
    | none => d) s

/-- The module is not ready at the activation time: the item stays staged (R677, R680). -/
def Dev.activateNot (d : Dev) (reason : Nat) : Dev :=
  let a := d.upd.armed
  let d := ((d.setUpd { d.upd with armed := none }).wr UPD_STAT_STATE upSTAGED).wr UPD_EVT_NOTREADY 1
  ((d.trig 0x0526 [reason]).finishArmed a 0x0036).updNotice 3 reason

/-- The number that the notice of an activation or a confirmation carries: IMG_VER, or DECK_VER of a deck. -/
def UpdItem.version (i : UpdItem) : Nat :=
  match i.deck with
  | some k => k.hdr.deckVer
  | none => i.imgVer

/-- ACTIVATION_TIME (R679 to R681): the activation time arrives. `supplyOk`: VSUP_LOG is in its operating range. -/
def execActivationTime (supplyOk : Bool) (s : State) : Host.Outcome State Fault Refusal :=
  onDev (fun d =>
    match d.upd.item with
    | some i =>
      if d.updState ≠ upARMED ∨ i.when_ = 2 ∧ d.rd BEAT_REPCNT < i.at_ then d
      else if d.notReady i supplyOk ≠ 0 then d.activateNot (d.notReady i supplyOk)
      else
        let a := d.upd.armed
        ((d.activate i).finishArmed a 0).updNotice 2 i.version
    | none => d) s

/-- UPD_CONFIRM (R685): a write of the key by a running class C0 context confirms the item on probation. -/
def execUpdConfirm (init key : Nat) (s : State) : Host.Outcome State Fault Refusal :=
  onBlockBy init 0x40A00000 (fun d =>
    if key ≠ 0x434F4E46 then d.answered 0
    else if !d.c0Tag init then (d.refuse (d.tag init) UPD_ACCERR_ACC_ERR 0).answered 0
    else if d.updState ≠ upPROBATION ∨ !d.mayConfirm then (d.inc UPD_ACCERR_ACC_ERR).answered 0
    else d.confirm.answered 0) s

/-- CONFIRM_EXPIRY (R686, R688): the confirm window ends on probation. -/
def execConfirmExpiry (s : State) : Host.Outcome State Fault Refusal :=
  onDev (fun d => if d.coreRuns ∧ d.updState = upPROBATION ∧ d.upd.boot.try_ then d.fallback 1 else d) s

end Sys2Proof.Machine
end

