-- ==== Sys2Proof/Machine/Access.lean ====
section
/-! DEFINITION. Reads and writes of the address space by a hart or the debug port: the regions of R26 to R28, the access
codes of R10, the locks of R13, narrow writes (R780), and the registers that refuse some of their accesses. -/

namespace Sys2Proof.Machine

/-! ### Regions (R26 to R29) -/

/-- What lies at an address. -/
inductive Region
  /-- outside every region, or in the peripheral region outside every block -/
  | outside
  /-- a range that software may not access -/
  | hidden
  | rom
  | deckSlot
  /-- settings bank 0 or 1 -/
  | settings (b : Nat)
  /-- FW_A and FW_B, 0 and 1, and user data, 5 -/
  | nor (r : Nat)
  | sram
  | tcm
  | block
  | farWindow
deriving DecidableEq, Repr

/-- The region of an address (R26, R28, R29). -/
def regionOf (a : Nat) : Region :=
  if a < 0x10000 then .rom
  else if a < 0x08000000 then .outside
  else if a < 0x08200000 then .deckSlot
  else if a < 0x08500000 then .hidden
  else if a < 0x08600000 then .settings 0
  else if a < 0x08700000 then .settings 1
  else if a < 0x08800000 then .hidden
  else if a < 0x10000000 then .outside
  else if a < 0x13000000 then .nor 0
  else if a < 0x16000000 then .nor 1
  else if a < 0x17000000 then .hidden
  else if a < 0x18000000 then .nor 5
  else if a < 0x20000000 then .outside
  else if a < 0x20A00000 then .sram
  else if a < 0x20C80000 then .tcm
  else if a < 0x21800000 then .hidden
  else if inBlock a then .block
  else if a < 0x50000000 then .outside
  else if a < 0x50400000 then .farWindow
  else .outside

/-- The access-error counter of the block that holds an address (R13). -/
def accErr (a : Nat) : Field × Nat :=
  if a < 0x40010000 then (SYSCTL_ACCERR_ACC_ERR, 0)
  else if a < 0x40020000 then (BEAT_ACCERR_ACC_ERR, 0)
  else if a < 0x40200000 then (TRD_ACCERR_ACC_ERR, 0)
  else if a < 0x40300000 then (CTX_ACCERR_ACC_ERR, 0)
  else if a < 0x40400000 then (BANK_ACCERR_ACC_ERR, (a - 0x40300000) / 0x10000)
  else if a < 0x40500000 then (CAN_ACCERR_ACC_ERR, (a - 0x40400000) / 0x1000)
  else if a < 0x40600000 then (TT_ACCERR_ACC_ERR, (a - 0x40500000) / 0x8000)
  else if a < 0x40700000 then (SWX_ACCERR_ACC_ERR, 0)
  else if a < 0x40710000 then (BRG_ACCERR_ACC_ERR, 0)
  else if a < 0x40720000 then (NMW_ACCERR_ACC_ERR, 0)
  else if a < 0x40800000 then (SHT_ACCERR_ACC_ERR, 0)
  else if a < 0x40810000 then (KEY_ACCERR_ACC_ERR, 0)
  else if a < 0x40900000 then (DBG_ACCERR_ACC_ERR, 0)
  else if a < 0x40A00000 then (REC_ACCERR_ACC_ERR, 0)
  else if a < 0x40B00000 then (UPD_ACCERR_ACC_ERR, 0)
  else if a < 0x40C00000 then (PWR_ACCERR_ACC_ERR, 0)
  else (FLT_ACCERR_ACC_ERR, 0)

/-- An access outside every region or block (R27). -/
def Dev.outside (d : Dev) : Dev := (d.trig 0x0010 []).faulted

/-- An initiator that can make an access: a hart, or the debug port at FULL (R619). -/
def Dev.canAccess (d : Dev) (init : Nat) : Bool :=
  d.coreRuns && d.portOpen init

/-- The register block of a bank that is not fitted (R2). -/
def Dev.unfitted (d : Dev) (a : Nat) : Bool :=
  decide (0x40300000 ≤ a) && decide (a < 0x40340000) && !d.bankFitted ((a - 0x40300000) / 0x10000)

/-! ### Memory (R28, R563, R566, R684) -/

/-- The settings banks that software reads, and those that it writes: the active bank; with an image of TARGET 0 on trial
the bank on trial, and its source to read only (R28, R684). -/
def Dev.bankReadable (d : Dev) (b : Nat) : Bool :=
  let r := d.upd.boot
  if r.try_ ∧ r.trySet ≠ r.actSet then b == r.trySet || b == r.actSet else b == r.actSet

def Dev.bankWritable (d : Dev) (b : Nat) : Bool :=
  let r := d.upd.boot
  if r.try_ ∧ r.trySet ≠ r.actSet then b == r.trySet else b == r.actSet

/-- An initiator owns the tightly coupled memory at an address: it is the pair whose memory it is (R28, R556). -/
def Dev.ownsTcm (d : Dev) (init a : Nat) : Bool :=
  match d.tcmPair a with
  | some p => init == 5 + p.1
  | none => false

/-- A word of memory that an access touches is marked uncorrectable (R734). -/
def Dev.markedWord (d : Dev) (a n : Nat) : Bool :=
  d.cpu.marked.any fun w => decide (w < a + n) && decide (a < w + 8)

/-- A load of bytes that the model holds; an uncorrectable word faults (R563). -/
def Dev.memLoad (d : Dev) (a n : Nat) : Dev :=
  if d.markedWord a n then (d.sramUncorrectable a).faulted else d.answered (leVal (d.peek a n))

/-- A load from a store whose bytes the specification does not give: a free value (log entry 42). -/
def Dev.freeLoad (d : Dev) (n : Nat) : Dev := d.fresh.answered (d.freeVal (8 * n))

/-- A load from the deck slots: the slot records and the stored decks (R28, R65, R66). -/
def Dev.slotLoad (d : Dev) (a n : Nat) : Dev :=
  d.answered (leVal ((List.range n).map fun k =>
    let o := a + k - 0x08000000
    (d.deckSlot (o / 0x100000)).byteAt (o % 0x100000)))

/-- The byte that the cache reads at an offset of a region: of a body block written through UPD, while the region's key is
held (R565, R672). -/
def Dev.norByte (d : Dev) (r off : Nat) : Option Byte :=
  if d.rdi KEY_SLOTSTAT_STATE (if r = 5 then 482 else 480 + r) = 1 then
    (d.upd.plain.find (r * 65536 + off / 4096)).map fun l => l.getD (off % 4096) 0
  else none

/-- A load from a NOR range: bytes that UPD wrote, and free values where it wrote none (log entry 42). -/
def Dev.norLoad (d : Dev) (r off n : Nat) : Dev :=
  let free := d.freeVal (8 * n)
  d.fresh.answered (leVal ((List.range n).map fun k => (d.norByte r (off + k)).getD (BitVec.ofNat 8 (free / 256 ^ k))))

/-- A store: the bytes are written, and the marks of the words that they touch are cleared (R734). -/
def Dev.memStore (d : Dev) (a : Nat) (l : List Byte) : Dev :=
  let d := d.poke a l
  { d with cpu := { d.cpu with marked := d.cpu.marked.filter fun w => !(decide (w < a + l.length) && decide (a < w + 8)) } }
    |>.answered 0

/-- A NOR range that UPD writes reads 0 from its first write to its last (R566). -/
def Dev.norBusy (d : Dev) (r : Nat) : Bool :=
  match d.upd.item with
  | some i => d.updState == upRECEIVING && (match i.man with
    | some m => d.updRegion m.target == r && decide (1 ≤ i.bodyCount m) && decide (i.bodyCount m < m.blocks)
    | none => false)
  | none => false

/-- The first address of a NOR range (R28). -/
def norBase (r : Nat) : Nat := if r = 0 then 0x10000000 else if r = 1 then 0x13000000 else 0x17000000

/-! ### The APLIC's direct delivery (R221, R559) -/

/-- The register of the delivery control of partition `p` at an address: `p` and the offset in its 32 bytes. -/
def aplicAt (a : Nat) : Option (Nat × Nat) :=
  if 0x40004000 ≤ a ∧ a < 0x40004080 then some ((a - 0x40004000) / 0x20, (a - 0x40004000) % 0x20) else none

/-- The initiator is the pair that runs partition `p`. -/
def Dev.runsPart (d : Dev) (init p : Nat) : Bool :=
  decide (5 ≤ init) && decide (init < 10) && d.pairPart (init - 5) == some p

/-- The priority that the module programs for its interrupt sources is not stated: an open value (log entry 5). -/
def aplicPriority : Nat := (Config.openCode 3).toNat % 256

/-- topi: the first of the asserted sources that are delivered to partition `p`, with its priority; 0 where the threshold
keeps it back or there is none. -/
def Dev.topi (d : Dev) (p : Nat) : Nat :=
  let t := d.rdi APLIC_ITHRESHOLD_VALUE p
  if t ≠ 0 ∧ t ≤ aplicPriority then 0
  else match (List.range 580).find? fun s => d.sourceBind s == some (64 + p) && d.asserted s with
    | some s => (s + 1) * 65536 + aplicPriority
    | none => 0

/-- claimi: the value of topi; a claim of nothing takes back a forced interrupt. -/
def Dev.claim (d : Dev) (p : Nat) : Dev × Nat :=
  let v := d.topi p
  (if v = 0 then d.wri APLIC_IFORCE_VALUE p 0 else d, v)

/-- A refused access to a delivery control (R559). -/
def Dev.aplicRefuse (d : Dev) : Dev := (d.inc SYSCTL_ACCERR_ACC_ERR).faulted

/-! ### Writes (R10, R13, R780) -/

/-- The bits of `old` that `mask` does not cover, and those of `new` that it covers. -/
def mix (old new mask : Nat) : Nat := (old ^^^ (old &&& mask)) ||| (new &&& mask)

/-- A register write: the bits written, and the mask of the bytes that the write covers, both at their places in the
32-bit register (R780). -/
structure RegWrite where
  word : Nat
  mask : Nat
deriving DecidableEq, Repr

/-- The write of `width` bits of `v` at an address, within its 32-bit register. -/
def regWriteOf (a width v : Nat) : RegWrite :=
  ⟨(v % 2 ^ width) * 2 ^ (8 * (a % 4)), (2 ^ width - 1) * 2 ^ (8 * (a % 4))⟩

/-- The part of a write that falls on a field. -/
def RegWrite.at (x : RegWrite) (f : Field) : Nat × Nat :=
  (bits x.word (f.lsb + f.width - 1) f.lsb, bits x.mask (f.lsb + f.width - 1) f.lsb)

/-- A field after a write, by its access code (R10). -/
def Dev.putField (d : Dev) (x : RegWrite) (f : Field) (i : Nat) : Dev :=
  let w := x.at f
  match f.acc with
  | .rw => d.wri f i (mix (d.rdi f i) w.1 w.2)
  | .rwl => d.wri f i (mix (d.rdi f i) w.1 w.2)
  | .w1c => d.wri f i (mix (d.rdi f i) 0 (w.1 &&& w.2))
  | .w1s => d.wri f i (d.rdi f i ||| (w.1 &&& w.2))
  | .ro => d
  | .wo => d
  | .rc => d

/-- The deck commit has locked the RWL registers (R13, R67). -/
def Dev.locked (d : Dev) : Bool := d.deck.running.isSome

/-- A write to a register that refuses nobody: each field by its access code; a locked register counts an access error
(R13); a W1C write brings the messages of the sources that stay asserted (R558). -/
def Dev.plainWrite (d : Dev) (base hart : Nat) (x : RegWrite) : Dev :=
  let fs := regFields base hart
  if d.locked ∧ fs.any fun p => p.1.acc == .rwl then
    let e := accErr base
    d.inci e.1 e.2
  else
    let d := fs.foldl (fun d p => d.putField x p.1 p.2) d
    if fs.any fun p => p.1.acc == .w1c then d.announceAgain base else d

/-- A field as it will hold after a write. -/
def Dev.after (d : Dev) (x : RegWrite) (f : Field) (i : Nat) : Nat := mix (d.rdi f i) (x.at f).1 (x.at f).2

/-- The first fields of the registers whose writes are commands of their own. -/
def rowFields : List Field :=
  [SYSCTL_EVT_SWAPDONE, CTX_EVT_STATECHG, CTX_HART_VALID, CTX_TMRCFG_MODE, CH_MAN_EN, REC_CUR_SEQ]

/-- A register whose writes are commands of their own (log entry 41). -/
def ownRow (fs : List (Field × Nat)) : Bool := fs.any fun p => p.1.acc == .wo || rowFields.contains p.1

/-- A write to KEY_OPn_CTL, KEY_OPn_DESC or KEY_OPn_STAT (R584, R587, R613). -/
def Dev.keyWrite (d : Dev) (init base : Nat) (x : RegWrite) : Dev :=
  let n := (base - 0x40800100) / 0x20
  let off := (base - 0x40800100) % 0x20
  let c := d.tag init
  let st := d.rdi KEY_OP_STAT_STATE n
  if off = 0 ∧ x.word.testBit 31 then
    d.keyStart init n (d.after x KEY_OP_CTL_SLOT n) (d.after x KEY_OP_CTL_OP n) (d.after x KEY_OP_CTL_IRQ n == 1)
  else if off = 0 ∧ x.word.testBit 30 then d.keyAbort init n
  else if off = 8 ∧ x.word.testBit 29 then d.keyRelease init n
  else if (d.ctxRec c).isNone ∨ d.ctxBarred c ∨ (st ≠ 0 ∧ d.rdi KEY_OP_STAT_CTX n ≠ c) then d.keyRefuse init
  else d.plainWrite base init x

/-- A write to PWR_WDCFGh: by hart h alone; fixed once EN is 1; PERIOD 0 with EN is refused (R722, R725). -/
def Dev.dogWrite (d : Dev) (init h base : Nat) (x : RegWrite) : Dev :=
  if init ≠ h then d.pwrRefuse init
  else if d.flagi PWR_WDCFG_EN h then d
  else if d.after x PWR_WDCFG_EN h = 1 ∧ d.after x PWR_WDCFG_PERIOD h = 0 then d.pwrRefuse init
  else d.plainWrite base init x

/-- A write to the register at `base` of a block whose domain is on. -/
def Dev.blockWrite (d : Dev) (init base : Nat) (x : RegWrite) : Dev :=
  let c := d.tag init
  if d.unfitted base then d
  else if d.ctxBarred c then
    let e := accErr base
    d.refuse c e.1 e.2
  else match aplicAt base with
    | some (p, off) =>
      if !d.runsPart init p then d.aplicRefuse
      else if off < 8 then d.plainWrite base init ⟨x.word &&& 1, x.mask &&& 1⟩
      else d.plainWrite base init x
    | none =>
      if 0x40230000 ≤ base ∧ base < 0x40230200 ∧ (base - 0x40230000) % 0x10 = 0 then
        (if d.routedTo init (436 + (base - 0x40230000) / 0x10) then d.plainWrite base init x else d.ctxRefuse init)
      else if 0x40400000 ≤ base ∧ base < 0x4041A000 ∧ 0x180 ≤ base % 0x1000 ∧ base % 0x1000 < 0x200 then
        let u := (base - 0x40400000) / 0x1000
        (if d.canSoftware c u ((base % 0x1000 - 0x180) / 4) then d.plainWrite base init x
        else d.refuse c CAN_ACCERR_ACC_ERR u)
      else if 0x40800100 ≤ base ∧ base < 0x40800300 then d.keyWrite init base x
      else if 0x40B00040 ≤ base ∧ base < 0x40B00090 ∧ (base - 0x40B00040) % 8 = 0 then
        d.dogWrite init ((base - 0x40B00040) / 8) base x
      else if base = 0x40B0000C then (if d.c0Tag init then d.plainWrite base init x else d.pwrRefuse init)
      else if ownRow (regFields base (recPort init)) then d
      else d.plainWrite base (recPort init) x

/-- A register write of up to 32 bits. -/
def Dev.regWrite (d : Dev) (init a width v : Nat) : Dev :=
  if !d.domainOn (domainOf a) then d.faulted
  else d.blockWrite init (a / 4 * 4) (regWriteOf a width v)

/-- A write of memory by a context that may write (R203, R215). -/
def Dev.storeBy (d : Dev) (init a : Nat) (l : List Byte) : Dev :=
  if d.ctxBarred (d.tag init) then d.ctxTurnedAway (d.tag init) else d.memStore a l

/-- A write of the address space. -/
def Dev.writeAt (d : Dev) (init a width v : Nat) : Dev :=
  let d := d.answered 0
  let l := leOf (width / 8) v
  match regionOf a with
  | .outside => d.outside
  | .hidden => d.faulted
  | .rom => d.faulted
  | .deckSlot => d.faulted
  | .nor _ => d.faulted
  | .settings b => if d.bankWritable b then d.storeBy init a l else d.faulted
  | .sram => d.storeBy init a l
  | .tcm => if d.ownsTcm init a then d.storeBy init a l else d.faulted
  | .farWindow => d
  | .block =>
    if width ≤ 32 then d.regWrite init a width v
    else (d.regWrite init a 32 (v % 2 ^ 32)).regWrite init (a + 4) 32 (v / 2 ^ 32)

/-- REGISTER_WRITE (R10, R13, R27, R28, R35, R780): a write of `width` bits by a hart, or by the debug port (14). Registers
whose writes are commands of their own are left to those (log entry 41). -/
def execRegisterWrite (init addr width value : Nat) (s : State) : Host.Outcome State Fault Refusal :=
  onDev (fun d => if d.canAccess init then d.writeAt init addr width value else d) s

/-! ### Reads (R10, R12) -/

/-- The head-record window, the record window, and the other registers whose value depends on who reads it (R210, R489,
R493, R517, R658), and the payload windows of the CAN buffers (R381); any other register as it stands. -/
def Dev.regValue (d : Dev) (init base : Nat) : Nat :=
  if 0x40220000 ≤ base ∧ base < 0x4022A000 then
    leVal ((List.range 4).map fun k => d.headByte ((base - 0x40220000) / 0x1000) (base % 0x1000 + k))
  else if 0x40900080 ≤ base ∧ base < 0x40900100 then d.recWindow init ((base - 0x40900080) / 4)
  else if base = 0x40710014 then
    (List.range 16).foldl (fun t k => t + b2n (((d.cl k).reqs.find (d.tag init)).isSome) * 2 ^ k) 0
  else if 0x40700020 ≤ base ∧ base < 0x40700048 ∧ init ≠ (base - 0x40700020) / 4 then 0
  else if 0x40708000 ≤ base ∧ base < 0x40709000 then
    (match d.brg.slots.find ((base - 0x40708000) / 0x10) with
    | some x => if x.owner = d.tag init ∧ base % 0x10 = 0 then d.wordAt base 0 else 0
    | none => 0)
  else if 0x40400000 ≤ base ∧ base < 0x4041A000 ∧ 0x800 ≤ base % 0x1000 then
    leVal ((List.range 4).map fun k =>
      (d.txObj (canObj ((base - 0x40400000) / 0x1000) ((base % 0x1000 - 0x800) / 0x40))).payload.getD (base % 0x40 + k) 0)
  else d.wordAt base (recPort init)

/-- The binding that alone reads the notice queue register at an address (R234): NQLO, NQHI, NQSTAT and NQLOST. -/
def noticeBind (base : Nat) : Option Nat :=
  if 0x40232000 ≤ base ∧ base < 0x40232220 then some ((base - 0x40232000) / 8)
  else if 0x40232400 ≤ base ∧ base < 0x40232510 then some ((base - 0x40232400) / 4)
  else if 0x40232600 ≤ base ∧ base < 0x40232710 then some ((base - 0x40232600) / 4)
  else none

/-- A read that the register refuses, counted as it says (R234, R613). -/
def Dev.readRefused (d : Dev) (init base : Nat) : Option Dev :=
  match noticeBind base with
  | some b => if d.hartBind init = some b then none else some (d.ctxRefuse init)
  | none =>
    if 0x40800100 ≤ base ∧ base < 0x40800300 ∧ (base % 0x20 = 8 ∨ base % 0x20 = 12) ∧
        !(d.rdi KEY_OP_STAT_STATE ((base - 0x40800100) / 0x20) != 0 &&
          d.rdi KEY_OP_STAT_CTX ((base - 0x40800100) / 0x20) == d.tag init)
    then some (d.keyRefuse init) else none

/-- The RC fields that a read covers are cleared (R10, log entry 40). -/
def Dev.clearRead (d : Dev) (base hart : Nat) (x : RegWrite) : Dev :=
  (regFields base hart).foldl (fun d p =>
    if p.1.acc = .rc ∧ (x.at p.1).2 ≠ 0 then d.wri p.1 p.2 0 else d) d

/-- The bytes that a read takes from the word of its register. -/
def readPart (a width w : Nat) : Nat := w / 2 ^ (8 * (a % 4)) % 2 ^ width

/-- A read of a register of a block whose domain is on: the state after it, and the value. -/
def Dev.blockRead (d : Dev) (init a width : Nat) : Dev :=
  let base := a / 4 * 4
  if d.unfitted base then d
  else match aplicAt base with
    | some (p, off) =>
      if !d.runsPart init p then d.aplicRefuse
      else if off = 0x18 then d.answered (readPart a width (d.topi p))
      else if off = 0x1C then (d.claim p).1.answered (readPart a width (d.claim p).2)
      else d.answered (readPart a width (d.wordAt base 0))
    | none =>
      match d.readRefused init base, d.measured base with
      | some r, _ => r
      | none, some v => d.fresh.answered (readPart a width v)
      | none, none =>
        if (noticeBind base).isSome ∧ base < 0x40232400 ∧ base % 8 = 4 then d
        else
          let v := readPart a width (d.regValue init base)
          let d := if 0x40708000 ≤ base ∧ base < 0x40709000 then d else d.clearRead base (recPort init) (regWriteOf a width 0)
          d.answered v

/-- A register read of up to 32 bits. -/
def Dev.regRead (d : Dev) (init a width : Nat) : Dev :=
  if !d.domainOn (domainOf a) then d.faulted else d.blockRead init a width

/-- A read of the address space. -/
def Dev.readAt (d : Dev) (init a width : Nat) : Dev :=
  let d := d.answered 0
  let n := width / 8
  match regionOf a with
  | .outside => d.outside
  | .hidden => d.faulted
  | .rom => d.freeLoad n
  | .deckSlot => d.slotLoad a n
  | .nor r => if d.norBusy r then d else d.norLoad r (a - norBase r) n
  | .settings b => if d.bankReadable b then d.memLoad a n else d.faulted
  | .sram => d.memLoad a n
  | .tcm => if d.ownsTcm init a then d.memLoad a n else d.faulted
  | .farWindow => d
  | .block =>
    if width ≤ 32 then d.regRead init a width
    else
      let d := d.regRead init a 32
      let lo := d.access.value
      let bad := d.access.fault
      let d := d.regRead init (a + 4) 32
      { d with access := { value := lo + d.access.value * 2 ^ 32, fault := bad || d.access.fault } }

/-- RC_FIELD_READ (R10, R12, R15, R27, R28, R35): a read of `width` bits by a hart or the debug port; an RC field returns its
value and is then cleared. Any register and memory that software may read is read so, but those whose reads are commands
of their own (log entry 41). An access that carries the number of no declared context is refused (R203). -/
def execRcFieldRead (init addr width : Nat) (s : State) : Host.Outcome State Fault Refusal :=
  onDev (fun d =>
    if !d.canAccess init then d
    else if d.undeclared (d.tag init) then d.ctxTurnedAway (d.tag init)
    else d.readAt init addr width) s

end Sys2Proof.Machine
end

