-- ==== Sys2Proof/Machine/Tamper.lean ====
section
/-! DEFINITION. Tamper and the loss of VKEEP (R570 to R574, R609). -/

namespace Sys2Proof.Machine

/-- A tamper source is armed (R572): every one but in BLANK and SCRAPPED, and a lid input as KEEP's copy of TAMPEN says. -/
def Dev.tamperArmed (d : Dev) (cause : Nat) : Bool :=
  !d.noAnchor && decide (cause ≤ 6) && (decide (2 ≤ cause) || d.key.keepTampen.testBit cause)

/-- A tamper (R573): the anchor, the device secret and what the security SRAM holds are cleared, the cause is set, the debug
level falls, and the core die is reset. The Keyless condition is found at the next start. -/
def Dev.tamper (d : Dev) (cause : Nat) (x : BootIn) : Dev :=
  let d := { d.keysLost with key := { d.keysLost.key with tamperNew := true } }
  let d := (d.setBit KEY_TAMPER_CAUSE 0 cause).dbgLower 0 dcTAMPER
  if d.warmOk then d.warmReset 5 false x else d

/-- What a source's detector needs to trip (R572), of a value that has stood for `ns`: a lid input above 2.0 V for 100 µs; any
difference of the mesh's pattern; a period of the 25 MHz reference, in ps, outside 40 ns ± 25 %, or the KEEP oscillator stopped (0)
for 100 µs; the logic rail outside 0.65 V to 0.95 V for more than 20 ns; a temperature below −50 °C or above +130 °C for 10 ms.
Voltages are in mV. -/
def Dev.tamperTrips (d : Dev) (cause : Nat) (value : Int) (ns : Nat) : Bool :=
  if cause ≤ 1 then decide (2000 < value) && decide (100000 ≤ ns)
  else if cause = 2 then value != 0
  else if cause = 4 then
    (value == 0 && decide (100000 ≤ ns)) || (d.pwr.sysOn && value != 0 && (decide (value < 30000) || decide (50000 < value)))
  else if cause = 5 then d.pwr.sysOn && (decide (value < 650) || decide (950 < value)) && decide (20 < ns)
  else if cause = 6 then (decide (value < -50) || decide (130 < value)) && decide (10000000 ≤ ns)
  else false

/-- TAMPER (R572, R573): a source trips: 0 and 1 TAMP0 and TAMP1, 2 mesh, 4 clock, 5 voltage, 6 temperature. -/
def execTamper (cause : Nat) (value : Int) (ns : Nat) (x : BootIn) (s : State) : Host.Outcome State Fault Refusal :=
  onDev (fun d => if d.tamperArmed cause ∧ d.tamperTrips cause value ns then d.tamper cause x else d) s

/-- VKEEP_LOSS (R571): VKEEP has stood below 1.8 V for 10 µs; KEEP clears the anchor and its marker; where a source is armed it is a
tamper (R572). -/
def execVkeepLoss (mv ns : Nat) (x : BootIn) (s : State) : Host.Outcome State Fault Refusal :=
  onDev (fun d =>
    if 1800 ≤ mv ∨ ns < 10000 then d else
    let d := { d.keysLost with key := { d.keysLost.key with keepMarker := false } }
    if d.tamperArmed 3 then d.tamper 3 x else d) s

end Sys2Proof.Machine
end

