-- ==== Sys2Proof/Machine/Treadle.lean ====
section
/-! DEFINITION. The table entries, one command each (R126 to R141), and the table's error reads (R125, R150). Each
command names the table index of the entry whose turn has come. -/

namespace Sys2Proof.Machine

/-- NOP (R130): takes its slot and does nothing else. -/
def execNop (idx : Nat) (s : State) : Host.Outcome State Fault Refusal :=
  onDev (fun d => d.runEntry idx 0x00 fun d _ => (d, true)) s

/-- The effect of a TAKE (R130, R131, R137, R140, R197). -/
def Dev.takeEffect (d : Dev) (idx : Nat) (e : Entry) : Dev × Bool :=
  let o := d.trd.rxObj.get e.src {}
  if !o.held then (d, false)
  else
    let f := d.fresh? idx (o.count % 65536) e
    if f.2 then (f.1, false)
    else
      let a := fieldArg e.arg
      if o.payload.length * 8 < a.start + a.width then ((f.1.inc TRD_SIGSHORT_COUNT).trig 0x0323 [e.dst], true)
      else (f.1.entryWrite e.dst (extendBits a.width (fieldGet o.payload a) a.signed) 0, true)

/-- TAKE: a field of a receive object's latest frame goes into a signal. -/
def execTake (idx : Nat) (s : State) : Host.Outcome State Fault Refusal :=
  onDev (fun d => d.runEntry idx 0x01 fun d e => d.takeEffect idx e) s

/-- The value of a sample source (R107, R129, R276, R302). -/
def Dev.sample (d : Dev) (n : Nat) : Nat :=
  if n < 0x40 then (d.ch n).retI
  else if n < 0x80 then (d.ch (n - 0x40)).retV
  else if n < 0xC0 then (d.ch (n - 0x80)).retT
  else if n < 0xC4 then (d.bk (n - 0xC0)).retCase
  else if n < 0xC8 then (d.bk (n - 0xC4)).retVsup
  else if n < 0xCC then (d.bk (n - 0xC8)).retIsum
  else if n < 0x120 then
    let k := n - 0x100
    d.rdi BEAT_SWV_VOLT k * 16 + b2n (d.bit BEAT_SWRAW_SW 0 k) * 2 + b2n (d.bit BEAT_SWSTATE_SW 0 k)
  else if n < 0x130 then d.rdi BEAT_AIN_CODE (n - 0x120)
  else if n < 0x138 then b2n (d.bit BEAT_WKSTATE_WK 0 (n - 0x130))
  else if n = 0x140 then d.rd BEAT_POSCNT
  else if n = 0x141 then d.rd BEAT_LINEPER_LINE_NS
  else d.rd BEAT_PHERR

/-- SAMPLE: a sample source's latched value goes into a signal in the source's type. -/
def execSample (idx : Nat) (s : State) : Host.Outcome State Fault Refusal :=
  onDev (fun d => d.runEntry idx 0x02 fun d e => (d.entryWrite e.dst (BitVec.ofNat 64 (d.sample e.src)) 0, true)) s

/-- The value of a STAMP (R135). -/
def Dev.stampValue (d : Dev) (kind : Nat) : Nat :=
  if kind = 0 then d.rd BEAT_REPCNT % 65536 * 65536 + d.rd BEAT_PICK
  else if kind = 1 then d.trd.gptpNs else d.trd.localNs

/-- STAMP: the repeat and pick, the gPTP time or the local time of this pick's boundary. -/
def execStamp (idx : Nat) (s : State) : Host.Outcome State Fault Refusal :=
  onDev (fun d => d.runEntry idx 0x03 fun d e =>
    (d.entryWrite e.dst (BitVec.ofNat 64 (d.stampValue (bits e.arg 1 0))) 0, true)) s

/-- An entry with one source signal: freshness, then the source's value with its mark, then `f` (R137, R138). -/
def Dev.oneSource (d : Dev) (idx : Nat) (e : Entry) (f : Dev → Value → Nat → Dev) : Dev × Bool :=
  let q := d.fresh? idx (d.entrySlot e.src (opWarp e.op)).version e
  if q.2 then (q.1, false)
  else
    let r := q.1.readSource e.src e
    (f r.1 r.2.1 r.2.2, true)

/-- MOVE: VALUE into another signal of the same type. -/
def execMove (idx : Nat) (s : State) : Host.Outcome State Fault Refusal :=
  onDev (fun d => d.runEntry idx 0x08 fun d e => d.oneSource idx e fun d v k => d.entryWrite e.dst v k) s

/-- SCALE (R132). -/
def execScale (idx : Nat) (s : State) : Host.Outcome State Fault Refusal :=
  onDev (fun d => d.runEntry idx 0x09 fun d e => d.oneSource idx e fun d v k =>
    let r := scale (d.typeOf e.src) (d.typeOf e.dst) v e.arg
    (d.entryWrite e.dst r.1 k).saturate r.2 e) s

/-- The sources of a PACK, each on its own (R134, R138). -/
def Dev.packSources (d : Dev) (e : Entry) : List Nat → Dev × List Value × Nat
  | [] => (d, [], 0)
  | i :: rest =>
    let r := d.readSource (e.src + i) e
    let q := r.1.packSources e rest
    (q.1, r.2.1 :: q.2.1, r.2.2 ||| q.2.2)

/-- PACK: COUNT consecutive signals' low WIDTH bits. -/
def execPack (idx : Nat) (s : State) : Host.Outcome State Fault Refusal :=
  onDev (fun d => d.runEntry idx 0x0A fun d e =>
    let r := d.packSources e (List.range (bits e.arg 13 7))
    (r.1.entryWrite e.dst (pack (bits e.arg 6 0) r.2.1) r.2.2, true)) s

/-- UNPACK: a bit field of a signal. -/
def execUnpack (idx : Nat) (s : State) : Host.Outcome State Fault Refusal :=
  onDev (fun d => d.runEntry idx 0x0B fun d e => d.oneSource idx e fun d v k => d.entryWrite e.dst (unpack v e.arg) k) s

/-- A SEND's effect on its object: the field written, ready, and stale when the source is and no substitute stands in
(R131, R138, R139). The object's idle value is in force no longer (R155). -/
def Dev.sendEffect (d : Dev) (e : Entry) (v : Value) (marks : Nat) : Dev :=
  let a := fieldArg e.arg
  let x := sendValue (d.typeOf e.src) v a
  let o := d.txObj e.dst
  let d := d.setTxObj e.dst { payload := fieldPut o.payload a x.1, ready := true, held := true,
                              stale := o.stale || marks.testBit 1 }
  (d.setTrd { d.trd with idleFrames := d.trd.idleFrames.erase e.dst }).saturate x.2 e

/-- SEND: a field of a transmit object; refused under R141, and in the idle card only its slot is taken (R154). -/
def execSend (idx : Nat) (s : State) : Host.Outcome State Fault Refusal :=
  onDev (fun d => d.runEntry idx 0x10 fun d e =>
    if d.trdIdle then (d, false)
    else if d.sendRefused e.dst then (d.refuseEntry, false)
    else d.oneSource idx e fun d v k => d.sendEffect e v k) s

/-- DRIVE: the channel's command word in this pick's frame, with ASSERT (R130, R324). -/
def execDrive (idx : Nat) (s : State) : Host.Outcome State Fault Refusal :=
  onDev (fun d => d.runEntry idx 0x11 fun d e =>
    if d.trdIdle then (d, false)
    else if d.chanRefuses e.dst then (d.refuseEntry, false)
    else d.oneSource idx e fun d v _ =>
      d.setSlot e.dst { d.slot e.dst with cmd := v.toNat % 65536, assert := true }) s

/-- PWMSET: duty code, period, restart and phase in this pick's frame, with ASSERT (R133, R324). -/
def execPwmset (idx : Nat) (s : State) : Host.Outcome State Fault Refusal :=
  onDev (fun d => d.runEntry idx 0x12 fun d e =>
    if d.trdIdle then (d, false)
    else if d.chanRefuses e.dst then (d.refuseEntry, false)
    else d.oneSource idx e fun d v _ =>
      d.setSlot e.dst { d.slot e.dst with duty := v.toNat % 65536, period := bits e.arg 31 0, phrst := e.arg.testBit 32,
                                          phase := bits e.arg 56 33, assert := true }) s

/-- GATE: the port's gate state; refused while the port is in reset (R130, R141, R430). -/
def execGate (idx : Nat) (s : State) : Host.Outcome State Fault Refusal :=
  onDev (fun d => d.runEntry idx 0x13 fun d e =>
    if d.trdIdle then (d, false)
    else if d.swx.portReset.contains e.dst then (d.refuseEntry, false)
    else (d.wri SWXP_STAT_GATES e.dst (e.arg % 256), true)) s

/-- KICK: starts a transmission with the object's current payload; in the idle card only with frame VALUE 1 (R139,
R154). -/
def execKick (idx : Nat) (s : State) : Host.Outcome State Fault Refusal :=
  onDev (fun d => d.runEntry idx 0x14 fun d e =>
    if d.trdIdle ∧ d.trd.idleFrames.find e.dst ≠ some 1 then (d, false) else d.kick e.dst) s

/-- MARK: TRD_MARKn takes ARG[31:0] and its flag is set. -/
def execMark (idx : Nat) (s : State) : Host.Outcome State Fault Refusal :=
  onDev (fun d => d.runEntry idx 0x18 fun d e =>
    ((d.wri TRD_MARK_VAL e.dst (bits e.arg 31 0)).setBit TRD_MARKEVT_FLAGS 0 e.dst, true)) s

/-- TABLE_READ_CORRECTED (R125, R148): the read of entry `idx`, which has not begun, corrected a single-bit error. -/
def execTableReadCorrected (idx : Nat) (s : State) : Host.Outcome State Fault Refusal :=
  onDev (fun d =>
    if d.trd.todo.contains idx then
      let d := ((d.inc TRD_ECCCNT_COR).wr TRD_EVT_ECC_COR 1).trig 0x0315 []
      let d := (d.setTrd { d.trd with charged := d.trd.charged ++ [idx] }).shedCheck.weftEnd
      if d.trd.todo.isEmpty then d.finishPick else d
    else d) s

/-- UNCORRECTABLE_TABLE_READ (R150): the entry is dropped as a C0 entry, whatever its CLS. -/
def execUncorrectableTableRead (idx : Nat) (s : State) : Host.Outcome State Fault Refusal :=
  onDev (fun d =>
    if d.trd.todo.contains idx then
      let d := ((d.inc TRD_ECCCNT_UNC).wr TRD_EVT_ECC_UNC 1).trig 0x0314 []
      let weft := match d.entry idx with | some e => !opWarp e.op | none => false
      let d := d.dropEntry idx 0
      let d := if weft then d.weftEnd else d
      if d.trd.todo.isEmpty then d.finishPick else d
    else d) s

end Sys2Proof.Machine
end

