-- ==== Sys2Proof/Machine/Dispatch.lean ====
section
/-! DEFINITION. The dispatcher: one arm per command, each a direct call of its meaning. -/

namespace Sys2Proof.Machine

def exec (i : Instr) (s : State) : Host.Outcome State Fault Refusal :=
  match i with
  | .pickBoundary x => Sys2Proof.Machine.execPickBoundary x s
  | .cardSwap => Sys2Proof.Machine.execCardSwap s
  | .swapAbandon => Sys2Proof.Machine.execSwapAbandon s
  | .sourceQualify phErr => Sys2Proof.Machine.execSourceQualify phErr s
  | .alignment pick x => Sys2Proof.Machine.execAlignment pick x s
  | .sourceLoss => Sys2Proof.Machine.execSourceLoss s
  | .holdoverExpiry tie => Sys2Proof.Machine.execHoldoverExpiry tie s
  | .phaseStep phErr => Sys2Proof.Machine.execPhaseStep phErr s
  | .positionEdge a b gap ns index x => Sys2Proof.Machine.execPositionEdge a b gap ns index x s
  | .indexAccepted ns x => Sys2Proof.Machine.execIndexAccepted ns x s
  | .zeroCrossing t x => Sys2Proof.Machine.execZeroCrossing t x s
  | .tableReadCorrected idx => Sys2Proof.Machine.execTableReadCorrected idx s
  | .nop idx => Sys2Proof.Machine.execNop idx s
  | .take idx => Sys2Proof.Machine.execTake idx s
  | .sample idx => Sys2Proof.Machine.execSample idx s
  | .stamp idx => Sys2Proof.Machine.execStamp idx s
  | .move idx => Sys2Proof.Machine.execMove idx s
  | .scale idx => Sys2Proof.Machine.execScale idx s
  | .pack idx => Sys2Proof.Machine.execPack idx s
  | .unpack idx => Sys2Proof.Machine.execUnpack idx s
  | .send idx => Sys2Proof.Machine.execSend idx s
  | .drive idx => Sys2Proof.Machine.execDrive idx s
  | .pwmset idx => Sys2Proof.Machine.execPwmset idx s
  | .gate idx => Sys2Proof.Machine.execGate idx s
  | .kick idx => Sys2Proof.Machine.execKick idx s
  | .mark idx => Sys2Proof.Machine.execMark idx s
  | .groupCommit init g => Sys2Proof.Machine.execGroupCommit init g s
  | .groupFlip g => Sys2Proof.Machine.execGroupFlip g s
  | .signalWrite init n off width value => Sys2Proof.Machine.execSignalWrite init n off width value s
  | .signalRead init n off width => Sys2Proof.Machine.execSignalRead init n off width s
  | .staleSweep n => Sys2Proof.Machine.execStaleSweep n s
  | .q0Move => Sys2Proof.Machine.execQ0Move s
  | .ttRxMove => Sys2Proof.Machine.execTtRxMove s
  | .i2ObjectMove => Sys2Proof.Machine.execI2ObjectMove s
  | .presenceEvidence partner => Sys2Proof.Machine.execPresenceEvidence partner s
  | .discoverExpiry partner tie => Sys2Proof.Machine.execDiscoverExpiry partner tie s
  | .lossExpiry partner tie => Sys2Proof.Machine.execLossExpiry partner tie s
  | .sysctlEvtClear init value => Sys2Proof.Machine.execSysctlEvtClear init value s
  | .ctxEvtClear init value => Sys2Proof.Machine.execCtxEvtClear init value s
  | .ctxHartWrite init h valid bind ctx => Sys2Proof.Machine.execCtxHartWrite init h valid bind ctx s
  | .resetSelf init ctx => Sys2Proof.Machine.execResetSelf init ctx s
  | .runSelf init ctx => Sys2Proof.Machine.execRunSelf init ctx s
  | .contextResetComplete c => Sys2Proof.Machine.execContextResetComplete c s
  | .bobbinWrite q kind payload => Sys2Proof.Machine.execBobbinWrite q kind payload s
  | .bobbinPop init h => Sys2Proof.Machine.execBobbinPop init h s
  | .timerConfig init k exp unit mode => Sys2Proof.Machine.execTimerConfig init k exp unit mode s
  | .timerExpiry k => Sys2Proof.Machine.execTimerExpiry k s
  | .doorbellRing init b data => Sys2Proof.Machine.execDoorbellRing init b data s
  | .noticePop init b => Sys2Proof.Machine.execNoticePop init b s
  | .commandFrameReceived b good => Sys2Proof.Machine.execCommandFrameReceived b good s
  | .linkHeartbeat b => Sys2Proof.Machine.execLinkHeartbeat b s
  | .linkSilence b => Sys2Proof.Machine.execLinkSilence b s
  | .holdExpiry m => Sys2Proof.Machine.execHoldExpiry m s
  | .pickMark b ns atMark atMid case vsup => Sys2Proof.Machine.execPickMark b ns atMark atMid case vsup s
  | .pwmPeriodStart m => Sys2Proof.Machine.execPwmPeriodStart m s
  | .pwmHighTimeEnd m => Sys2Proof.Machine.execPwmHighTimeEnd m s
  | .pwmRestart m => Sys2Proof.Machine.execPwmRestart m s
  | .inrushWindowEnd m => Sys2Proof.Machine.execInrushWindowEnd m s
  | .limiterRegulate m cur => Sys2Proof.Machine.execLimiterRegulate m cur s
  | .dwellTrip m run same => Sys2Proof.Machine.execDwellTrip m run same s
  | .dtTrip m d0 d1 d2 same => Sys2Proof.Machine.execDtTrip m d0 d1 d2 same s
  | .tjTrip m t0 t1 t2 same => Sys2Proof.Machine.execTjTrip m t0 t1 t2 same s
  | .wireModelUpdate m cur same => Sys2Proof.Machine.execWireModelUpdate m cur same s
  | .coolRecovery m ms tj dt => Sys2Proof.Machine.execCoolRecovery m ms tj dt s
  | .latchClear init m value => Sys2Proof.Machine.execLatchClear init m value s
  | .openLoadFilterEnd m mv => Sys2Proof.Machine.execOpenLoadFilterEnd m mv s
  | .openLoadCompare m mv => Sys2Proof.Machine.execOpenLoadCompare m mv s
  | .manualDrive init m cmd => Sys2Proof.Machine.execManualDrive init m cmd s
  | .manualDriveEnd init m cmd => Sys2Proof.Machine.execManualDriveEnd init m cmd s
  | .manualLeaseExpiry m tie => Sys2Proof.Machine.execManualLeaseExpiry m tie s
  | .classCheckEnd b lo hi => Sys2Proof.Machine.execClassCheckEnd b lo hi s
  | .overvoltageLock b lo us => Sys2Proof.Machine.execOvervoltageLock b lo us s
  | .undervoltageLock b hi us => Sys2Proof.Machine.execUndervoltageLock b hi us s
  | .supplyUnlock b lo hi us => Sys2Proof.Machine.execSupplyUnlock b lo hi us s
  | .keeperReset b hi us => Sys2Proof.Machine.execKeeperReset b hi us s
  | .keeperStart b lo us => Sys2Proof.Machine.execKeeperStart b lo us s
  | .budgetSample b cur trips => Sys2Proof.Machine.execBudgetSample b cur trips s
  | .dissipationEstimate b cur tj trips => Sys2Proof.Machine.execDissipationEstimate b cur tj trips s
  | .caseLimit b t1 t2 cur trips => Sys2Proof.Machine.execCaseLimit b t1 t2 cur trips s
  | .thermalShed b cur trips => Sys2Proof.Machine.execThermalShed b cur trips s
  | .shortEventEnd b => Sys2Proof.Machine.execShortEventEnd b s
  | .cellTest m cells spare => Sys2Proof.Machine.execCellTest m cells spare s
  | .canFrameReceived c f => Sys2Proof.Machine.execCanFrameReceived c f s
  | .canTxstart init c mask => Sys2Proof.Machine.execCanTxstart init c mask s
  | .canTxcan init c mask => Sys2Proof.Machine.execCanTxcan init c mask s
  | .canBufferWrite init c k off data => Sys2Proof.Machine.execCanBufferWrite init c k off data s
  | .canArbitrationWon c b delay => Sys2Proof.Machine.execCanArbitrationWon c b delay s
  | .canTxError c b lost ref => Sys2Proof.Machine.execCanTxError c b lost ref s
  | .canFrameAcked c b => Sys2Proof.Machine.execCanFrameAcked c b s
  | .canAckError c b dominant => Sys2Proof.Machine.execCanAckError c b dominant s
  | .busOffDelayEnd c => Sys2Proof.Machine.execBusOffDelayEnd c s
  | .busOffRecovered c => Sys2Proof.Machine.execBusOffRecovered c s
  | .ttSlotStart t slot start til => Sys2Proof.Machine.execTtSlotStart t slot start til s
  | .ttFrameReceived t f => Sys2Proof.Machine.execTtFrameReceived t f s
  | .ttDynamicSend t k mini => Sys2Proof.Machine.execTtDynamicSend t k mini s
  | .ttClusterAwake t => Sys2Proof.Machine.execTtClusterAwake t s
  | .ttListenTimeout t silent => Sys2Proof.Machine.execTtListenTimeout t silent s
  | .ttStartupComplete t => Sys2Proof.Machine.execTtStartupComplete t s
  | .ttColdstartAbandon t => Sys2Proof.Machine.execTtColdstartAbandon t s
  | .ttColdstartExhausted t => Sys2Proof.Machine.execTtColdstartExhausted t s
  | .ttClockCorrectionMissing t => Sys2Proof.Machine.execTtClockCorrectionMissing t s
  | .ttClockCorrectionRegained t rates offsets => Sys2Proof.Machine.execTtClockCorrectionRegained t rates offsets s
  | .ttHaltExpiry t => Sys2Proof.Machine.execTtHaltExpiry t s
  | .guardianCycleMark t cycle len => Sys2Proof.Machine.execGuardianCycleMark t cycle len s
  | .guardianMarkTimeout t => Sys2Proof.Machine.execGuardianMarkTimeout t s
  | .ttTruncation t ch start til => Sys2Proof.Machine.execTtTruncation t ch start til s
  | .ttWakeFrames t => Sys2Proof.Machine.execTtWakeFrames t s
  | .swxFrameIngress p f x t => Sys2Proof.Machine.execSwxFrameIngress p f x t s
  | .swxFrameEgress p t => Sys2Proof.Machine.execSwxFrameEgress p t s
  | .swxRingTransmit p t => Sys2Proof.Machine.execSwxRingTransmit p t s
  | .swxLinkLost p t => Sys2Proof.Machine.execSwxLinkLost p t s
  | .swxLinkReturn p rate => Sys2Proof.Machine.execSwxLinkReturn p rate s
  | .swxLinkHoldExpiry p => Sys2Proof.Machine.execSwxLinkHoldExpiry p s
  | .swxGateEntry p pos => Sys2Proof.Machine.execSwxGateEntry p pos s
  | .gptpSync p => Sys2Proof.Machine.execGptpSync p s
  | .gptpSyncTimeout => Sys2Proof.Machine.execGptpSyncTimeout s
  | .gptpClockStep => Sys2Proof.Machine.execGptpClockStep s
  | .ppsInEdge ns => Sys2Proof.Machine.execPpsInEdge ns s
  | .ppsOutPulse => Sys2Proof.Machine.execPpsOutPulse s
  | .frerReset r => Sys2Proof.Machine.execFrerReset r s
  | .macsecOldKeyExpiry p => Sys2Proof.Machine.execMacsecOldKeyExpiry p s
  | .brgWindowWrite init w off size data => Sys2Proof.Machine.execBrgWindowWrite init w off size data s
  | .brgWindowRead init w off size => Sys2Proof.Machine.execBrgWindowRead init w off size s
  | .brgReadStallEnd h => Sys2Proof.Machine.execBrgReadStallEnd h s
  | .brgRequestSend w => Sys2Proof.Machine.execBrgRequestSend w s
  | .brgAnswer w type seq addr data => Sys2Proof.Machine.execBrgAnswer w type seq addr data s
  | .brgResponseTimeout w => Sys2Proof.Machine.execBrgResponseTimeout w s
  | .brgCollectRead init q => Sys2Proof.Machine.execBrgCollectRead init q s
  | .brgCollectExpiry q => Sys2Proof.Machine.execBrgCollectExpiry q s
  | .brgCabort init q => Sys2Proof.Machine.execBrgCabort init q s
  | .brgWackResume init w => Sys2Proof.Machine.execBrgWackResume init w s
  | .brgWackDiscard init w => Sys2Proof.Machine.execBrgWackDiscard init w s
  | .brgIwrite bus unit node seq size addr data => Sys2Proof.Machine.execBrgIwrite bus unit node seq size addr data s
  | .brgPollDue w => Sys2Proof.Machine.execBrgPollDue w s
  | .brgProbeDue w => Sys2Proof.Machine.execBrgProbeDue w s
  | .nmwReqSet init k reason => Sys2Proof.Machine.execNmwReqSet init k reason s
  | .nmwReqRelease init k => Sys2Proof.Machine.execNmwReqRelease init k s
  | .keepAwakeSend k => Sys2Proof.Machine.execKeepAwakeSend k s
  | .keepAwakeReceived m => Sys2Proof.Machine.execKeepAwakeReceived m s
  | .sleepWaitExpiry k => Sys2Proof.Machine.execSleepWaitExpiry k s
  | .prepareExpiry k => Sys2Proof.Machine.execPrepareExpiry k s
  | .sleepCommitComplete k => Sys2Proof.Machine.execSleepCommitComplete k s
  | .wakeEvent k cause unit node => Sys2Proof.Machine.execWakeEvent k cause unit node s
  | .selectiveWakeOverflow c => Sys2Proof.Machine.execSelectiveWakeOverflow c s
  | .awakeLimitReached k => Sys2Proof.Machine.execAwakeLimitReached k s
  | .awakeStretchEnd k dur => Sys2Proof.Machine.execAwakeStretchEnd k dur s
  | .hello check host number nonce epub => Sys2Proof.Machine.execHello check host number nonce epub s
  | .proof m resp => Sys2Proof.Machine.execProof m resp s
  | .lockoutEnd => Sys2Proof.Machine.execLockoutEnd s
  | .halfOpenTimeout number => Sys2Proof.Machine.execHalfOpenTimeout number s
  | .sessionIdleTimeout number => Sys2Proof.Machine.execSessionIdleTimeout number s
  | .ping m => Sys2Proof.Machine.execPing m s
  | .bye m => Sys2Proof.Machine.execBye m s
  | .subscribe m on => Sys2Proof.Machine.execSubscribe m on s
  | .abort m target late => Sys2Proof.Machine.execAbort m target late s
  | .restart m => Sys2Proof.Machine.execRestart m s
  | .updOpen m ikind total xfer => Sys2Proof.Machine.execUpdOpen m ikind total xfer s
  | .updBlock m xfer offset data found => Sys2Proof.Machine.execUpdBlock m xfer offset data found s
  | .updClose m xfer => Sys2Proof.Machine.execUpdClose m xfer s
  | .updActivate m xfer when_ at_ now => Sys2Proof.Machine.execUpdActivate m xfer when_ at_ now s
  | .updCancel m xfer => Sys2Proof.Machine.execUpdCancel m xfer s
  | .updStatus m => Sys2Proof.Machine.execUpdStatus m s
  | .invGet m => Sys2Proof.Machine.execInvGet m s
  | .presGet m first count => Sys2Proof.Machine.execPresGet m first count s
  | .recRead m fromSeq count => Sys2Proof.Machine.execRecRead m fromSeq count s
  | .recClear m => Sys2Proof.Machine.execRecClear m s
  | .keyLoad m slot wrap len found => Sys2Proof.Machine.execKeyLoad m slot wrap len found s
  | .keyCommit m slot => Sys2Proof.Machine.execKeyCommit m slot s
  | .keyInval m slot => Sys2Proof.Machine.execKeyInval m slot s
  | .outChal m slot nonce => Sys2Proof.Machine.execOutChal m slot nonce s
  | .lcChange m target auth => Sys2Proof.Machine.execLcChange m target auth s
  | .sigRead m first count => Sys2Proof.Machine.execSigRead m first count s
  | .sigForce m signal value => Sys2Proof.Machine.execSigForce m signal value s
  | .sigRelease m signal => Sys2Proof.Machine.execSigRelease m signal s
  | .chMan m channel en cmd => Sys2Proof.Machine.execChMan m channel en cmd s
  | .sleepReq m cluster on => Sys2Proof.Machine.execSleepReq m cluster on s
  | .ctxReset m c => Sys2Proof.Machine.execCtxReset m c s
  | .ctxStop m c => Sys2Proof.Machine.execCtxStop m c s
  | .ctxRestart m c => Sys2Proof.Machine.execCtxRestart m c s
  | .ctxStat m c => Sys2Proof.Machine.execCtxStat m c s
  | .trdIdle m => Sys2Proof.Machine.execTrdIdle m s
  | .trdRelease m => Sys2Proof.Machine.execTrdRelease m s
  | .noticeAck m notice => Sys2Proof.Machine.execNoticeAck m notice s
  | .noticeResend number notice => Sys2Proof.Machine.execNoticeResend number notice s
  | .neighborSolicitation own src => Sys2Proof.Machine.execNeighborSolicitation own src s
  | .icmpv6Echo own src ident seq data => Sys2Proof.Machine.execIcmpv6Echo own src ident seq data s
  | .reassemblyTimeout src ident => Sys2Proof.Machine.execReassemblyTimeout src ident s
  | .lockstepMismatch j => Sys2Proof.Machine.execLockstepMismatch j s
  | .sramEccRead addr n unc => Sys2Proof.Machine.execSramEccRead addr n unc s
  | .sramScrub cor unc => Sys2Proof.Machine.execSramScrub cor unc s
  | .gcmEnc init n slot irq => Sys2Proof.Machine.execGcmEnc init n slot irq s
  | .gcmDec init n slot irq => Sys2Proof.Machine.execGcmDec init n slot irq s
  | .cmac init n slot irq => Sys2Proof.Machine.execCmac init n slot irq s
  | .cmacVer init n slot irq => Sys2Proof.Machine.execCmacVer init n slot irq s
  | .hmac init n slot irq => Sys2Proof.Machine.execHmac init n slot irq s
  | .hmacVer init n slot irq => Sys2Proof.Machine.execHmacVer init n slot irq s
  | .sign init n slot irq => Sys2Proof.Machine.execSign init n slot irq s
  | .verify init n slot irq => Sys2Proof.Machine.execVerify init n slot irq s
  | .ecdh init n slot irq => Sys2Proof.Machine.execEcdh init n slot irq s
  | .kdf init n slot irq => Sys2Proof.Machine.execKdf init n slot irq s
  | .hkdf init n slot irq => Sys2Proof.Machine.execHkdf init n slot irq s
  | .chal init n slot irq => Sys2Proof.Machine.execChal init n slot irq s
  | .load init n slot irq => Sys2Proof.Machine.execLoad init n slot irq s
  | .commit init n irq => Sys2Proof.Machine.execCommit init n irq s
  | .inval init n irq => Sys2Proof.Machine.execInval init n irq s
  | .sha256 init n irq => Sys2Proof.Machine.execSha256 init n irq s
  | .sha384 init n irq => Sys2Proof.Machine.execSha384 init n irq s
  | .keyOpAbort init n => Sys2Proof.Machine.execKeyOpAbort init n s
  | .keyOpComplete n found => Sys2Proof.Machine.execKeyOpComplete n found s
  | .keyOpRelease init n => Sys2Proof.Machine.execKeyOpRelease init n s
  | .tamper cause value ns x => Sys2Proof.Machine.execTamper cause value ns x s
  | .vkeepLoss mv ns x => Sys2Proof.Machine.execVkeepLoss mv ns x s
  | .idcode => Sys2Proof.Machine.execIdcode s
  | .samplePreload lands => Sys2Proof.Machine.execSamplePreload lands s
  | .extest lands => Sys2Proof.Machine.execExtest lands s
  | .dtmcs => Sys2Proof.Machine.execDtmcs s
  | .dmi o => Sys2Proof.Machine.execDmi o s
  | .dbgchal level nonce => Sys2Proof.Machine.execDbgchal level nonce s
  | .dbgresp resp => Sys2Proof.Machine.execDbgresp resp s
  | .dbgstat => Sys2Proof.Machine.execDbgstat s
  | .wakereq bit => Sys2Proof.Machine.execWakereq bit s
  | .bypass => Sys2Proof.Machine.execBypass s
  | .ntrst => Sys2Proof.Machine.execNtrst s
  | .nonceExpiry => Sys2Proof.Machine.execNonceExpiry s
  | .dbgLockoutEnd => Sys2Proof.Machine.execDbgLockoutEnd s
  | .dbgClose init => Sys2Proof.Machine.execDbgClose init s
  | .recTrig init code => Sys2Proof.Machine.execRecTrig init code s
  | .bucketToken b => Sys2Proof.Machine.execBucketToken b s
  | .recRingWrite => Sys2Proof.Machine.execRecRingWrite s
  | .recCursor init seq => Sys2Proof.Machine.execRecCursor init seq s
  | .optimeTick => Sys2Proof.Machine.execOptimeTick s
  | .optimeSave => Sys2Proof.Machine.execOptimeSave s
  | .stagingLockLapse => Sys2Proof.Machine.execStagingLockLapse s
  | .activationTime supplyOk => Sys2Proof.Machine.execActivationTime supplyOk s
  | .updConfirm init key => Sys2Proof.Machine.execUpdConfirm init key s
  | .confirmExpiry => Sys2Proof.Machine.execConfirmExpiry s
  | .orderedRestart x => Sys2Proof.Machine.execOrderedRestart x s
  | .powerOnReset => Sys2Proof.Machine.execPowerOnReset s
  | .startupTimeout x => Sys2Proof.Machine.execStartupTimeout x s
  | .brownOut => Sys2Proof.Machine.execBrownOut s
  | .nrst x => Sys2Proof.Machine.execNrst x s
  | .powerOff => Sys2Proof.Machine.execPowerOff s
  | .vsupLow => Sys2Proof.Machine.execVsupLow s
  | .vsupHigh => Sys2Proof.Machine.execVsupHigh s
  | .vkeepLow => Sys2Proof.Machine.execVkeepLow s
  | .coreTempHigh => Sys2Proof.Machine.execCoreTempHigh s
  | .clockCheck ppm => Sys2Proof.Machine.execClockCheck ppm s
  | .dozeEnter init => Sys2Proof.Machine.execDozeEnter init s
  | .dozeExit init => Sys2Proof.Machine.execDozeExit init s
  | .standbyRequest => Sys2Proof.Machine.execStandbyRequest s
  | .standbyCommit => Sys2Proof.Machine.execStandbyCommit s
  | .standbyCaptureDone => Sys2Proof.Machine.execStandbyCaptureDone s
  | .hibernateEntry => Sys2Proof.Machine.execHibernateEntry s
  | .wakeFromStandby cause cluster unit rising => Sys2Proof.Machine.execWakeFromStandby cause cluster unit rising s
  | .pwrHoldTake init => Sys2Proof.Machine.execPwrHoldTake init s
  | .pwrHoldRelease init => Sys2Proof.Machine.execPwrHoldRelease init s
  | .pwrLeaseLapse c => Sys2Proof.Machine.execPwrLeaseLapse c s
  | .domainReset init k => Sys2Proof.Machine.execDomainReset init k s
  | .busDieReset => Sys2Proof.Machine.execBusDieReset s
  | .watchdogKick init h key => Sys2Proof.Machine.execWatchdogKick init h key s
  | .watchdogWarning h => Sys2Proof.Machine.execWatchdogWarning h s
  | .watchdogExpiry h x => Sys2Proof.Machine.execWatchdogExpiry h x s
  | .faultWindowClose c => Sys2Proof.Machine.execFaultWindowClose c s
  | .memoryRowFail addr unc => Sys2Proof.Machine.execMemoryRowFail addr unc s
  | .coreError j => Sys2Proof.Machine.execCoreError j s
  | .canControllerError u => Sys2Proof.Machine.execCanControllerError u s
  | .norVerifyFail n => Sys2Proof.Machine.execNorVerifyFail n s
  | .busLinkCrcError => Sys2Proof.Machine.execBusLinkCrcError s
  | .registerWrite init addr width value => Sys2Proof.Machine.execRegisterWrite init addr width value s
  | .rcFieldRead init addr width => Sys2Proof.Machine.execRcFieldRead init addr width s
  | .regulationEnd m cur => Sys2Proof.Machine.execRegulationEnd m cur s
  | .ownOscillatorPick b => Sys2Proof.Machine.execOwnOscillatorPick b s
  | .busIntegrationComplete c => Sys2Proof.Machine.execBusIntegrationComplete c s
  | .holderExpiry k node => Sys2Proof.Machine.execHolderExpiry k node s
  | .sleepCommitStepEnd k => Sys2Proof.Machine.execSleepCommitStepEnd k s
  | .brgWriteStallEnd h => Sys2Proof.Machine.execBrgWriteStallEnd h s
  | .vsupLogGood x => Sys2Proof.Machine.execVsupLogGood x s
  | .updCloseComplete x => Sys2Proof.Machine.execUpdCloseComplete x s
  | .lcTransitionComplete => Sys2Proof.Machine.execLcTransitionComplete s
  | .ringEraseComplete => Sys2Proof.Machine.execRingEraseComplete s
  | .domainResetDone k => Sys2Proof.Machine.execDomainResetDone k s
  | .uncorrectableTableRead idx => Sys2Proof.Machine.execUncorrectableTableRead idx s

end Sys2Proof.Machine
end

