-- ==== Sys2Proof/Machine/Tick.lean ====
section
/-! DEFINITION. The clock tick of an idle block: what happens on an empty queue. -/

namespace Sys2Proof.Machine

/-- Ticks of 2 ns in the 1 s for which DBG_STAT.ATTACHED outlasts the last edge of TCK (R636). -/
def attachedTicks : Nat := 500000000

/-- One clock cycle passes (log entry 3). The time-driven events of the specification are commands of their own; what is
left is the count of cycles, the frames that wait in a CAN controller's Q1, which are written into their bobbins (R355), those that
have reached I4 and I3 for the bridge and for NMW (R463, R501), the last steps of a hart's substitution (R560), and ATTACHED, which
lapses 1 s after TCK last toggled (R636). -/
def Dev.tick (d : Dev) : Dev :=
  let d := ({ d with now := d.now + 1 } : Dev).canQ1Drain.farDrain.kaDrain.hartsJoin
  if d.flag DBG_STAT_ATTACHED ∧ d.dbg.tck + attachedTicks ≤ d.now then d.wr DBG_STAT_ATTACHED 0 else d

/-- The machine after an idle cycle. -/
def State.tick (s : State) : State := { s with dev := s.dev.tick.announce s.dev }

end Sys2Proof.Machine
end

