-- ==== Sys2Proof/Safety.lean ====
section
/-! DEFINITION. The terms in which claims about the block are stated: the outcome of a command, what it leaves alone, the
canonical form that every step keeps, and a served queue. -/

namespace Sys2Proof.Machine

/-- Command `c` completes from `s` with block `d`: it answers a next state, whose queue is that of `s` and whose block is `d`
with the interrupt messages that are due (R558). -/
def Gives (c : Instr) (s : State) (d : Dev) : Prop := exec c s = .next { s with dev := d.announce s.dev }

/-- Command `c` completes from `s` with a block, before the interrupt messages that are due, of which `P` holds. -/
def Ends (c : Instr) (s : State) (P : Dev → Prop) : Prop := ∃ d, Gives c s d ∧ P d

/-- Every register outside `l` reads in `d'` as in `d`. -/
def Dev.regsBut (d d' : Dev) (l : List (Field × Nat)) : Prop :=
  ∀ f i, (∀ p ∈ l, f.key i ≠ p.1.key p.2) → d'.rdi f i = d.rdi f i

/-- `d'` differs from `d` at most in the registers of `l`: every other register reads as before, and everything that is no
register is as before. -/
def Dev.onlyRegs (d d' : Dev) (l : List (Field × Nat)) : Prop := { d' with regs := d.regs } = d ∧ d.regsBut d' l

/-- The register file and the memory are in their canonical form, so that equal contents are equal data. -/
def Dev.canonical (d : Dev) : Prop := d.regs.wf = true ∧ memWf d.mem = true

/-- From `d` to `d'` nothing that has been sent is taken back, and no free value is used twice. -/
def Dev.grows (d d' : Dev) : Prop := d.out <+: d'.out ∧ d.free ≤ d'.free

/-- The freshness skip of the entry at `idx`, once its turn has begun (R137): the block after it, and whether the entry is
skipped. -/
def Dev.entryFresh (d : Dev) (idx op : Nat) (e : Entry) : Dev × Bool :=
  (d.entryTaken idx op).fresh? idx ((d.entryTaken idx op).entrySlot e.src (opWarp op)).version e

/-- What an entry that is not skipped reads from its source: the block after the read, the value, and the marks for what it
writes (R138). -/
def Dev.entrySource (d : Dev) (idx op : Nat) (e : Entry) : Dev × Value × Nat :=
  (d.entryFresh idx op e).1.readSource e.src e

/-- One bit into the CRC register, most significant bit first: shift, and take the polynomial away where a 1 leaves (R641). -/
def crcDivideBit (r : BitVec 32) (b : Bool) : BitVec 32 := if r.msb != b then (r <<< 1) ^^^ 0x04C11DB7#32 else r <<< 1

/-- The CRC of bytes as R641 gives it: each byte enters its lowest bit first, and the result is read in reverse. -/
def crcByDivision (l : List Nat) : BitVec 32 :=
  ((l.flatMap fun b => (List.range 8).map fun i => b.testBit i).foldl crcDivideBit 0xFFFFFFFF#32).reverse ^^^ 0xFFFFFFFF#32

/-- The state after serving the waiting commands `l` in order, from block `d`, with nothing left waiting; each command's
outcome must be a next state. -/
def served : List Instr → Dev → Option Dev
  | [], d => some d
  | c :: rest, d =>
    match exec c ⟨d, []⟩ with
    | .next t => served rest t.dev
    | _ => none

end Sys2Proof.Machine
end

