-- ==== Sys2Proof/WellFormed.lean ====
section
/-! DEFINITION. Well-formed commands: every operand within the range that the specification gives it. A term outside these
ranges names no unit, register or message of the module, and stands for no command (log entry 39). -/

namespace Sys2Proof

open Machine

/-- Below a bound. -/
def below (n b : Nat) : Bool := decide (n < b)

/-- Within two bounds, both included. -/
def between (n lo hi : Nat) : Bool := decide (lo ≤ n) && decide (n ≤ hi)

/-- The initiator of an access: hart 0 to 9 (R206), or 14 for the debug port (R619). -/
def initiator (i : Nat) : Bool := decide (i < 10) || i == 14

/-- A hart (R206). -/
def hart (h : Nat) : Bool := decide (h < 10)

/-- A bank: A to D (R29). -/
def bank (b : Nat) : Bool := decide (b < 4)

/-- A global channel index (R240). -/
def channel (m : Nat) : Bool := decide (m < 64)

/-- A CAN controller: CAN0 to CAN23, CANS0, CANS1 (R29). -/
def controller (c : Nat) : Bool := decide (c < 26)

/-- A time-triggered controller. -/
def ttUnit (t : Nat) : Bool := decide (t < 2)

/-- A switch port: E0 to E21 and I0 to I4 (R414). -/
def port (p : Nat) : Bool := decide (p < 27)

/-- A sleep cluster (R518). -/
def cluster (k : Nat) : Bool := decide (k < 16)

/-- The widths of an access in bits. -/
def accessWidth (w : Nat) : Bool := w == 8 || w == 16 || w == 32 || w == 64

/-- A naturally aligned access. -/
def aligned (a w : Nat) : Bool := a % (w / 8) == 0

/-- A value of a width in bits. -/
def fits (v w : Nat) : Bool := decide (v < 2 ^ w)

/-- An address of SRAM (R26). -/
def sramAddr (a : Nat) : Bool := decide (0x20000000 ≤ a) && decide (a < 0x21800000)

/-- What a pick boundary brings: the voltages of the lines (R107, R113), levels of the eight wake inputs (R115). -/
def Machine.PickIn.wf (x : PickIn) : Bool :=
  decide (x.sw.length ≤ 32) && decide (x.ain.length ≤ 16) && below x.wake 256

/-- What a channel's sensors show: codes as wide as their register fields (R276). -/
def Machine.Sense.wf (x : Sense) : Bool := below x.i 4096 && below x.v 4096 && below x.tj 65536 && below x.dt 65536

/-- A cause of a trip: DT, TJ, LIMIT or WIRE (R267). -/
def tripCause (c : Nat) : Bool := between c 1 4

/-- Trips detected in one clock cycle, each with its channel and its cause (R308). -/
def tripList (l : List (Nat × Nat)) : Bool := l.all fun t => channel t.1 && tripCause t.2

/-- The 100 samples of 1 ms of each of the 16 channels of a bank (R262, R309). -/
def samples16 (cur : List (List Nat)) : Bool := decide (cur.length = 16) && cur.all fun l => decide (l.length = 100)

/-- A CAN frame: an identifier of 11 or 29 bits, a form, and at most the data its form carries (R342 to R345). -/
def Machine.CanFrame.wf (f : CanFrame) : Bool :=
  below f.ident (if f.ide then 2 ^ 29 else 2 ^ 11) && below f.form 3 &&
    decide (f.data.length ≤ if f.form = 0 then 8 else if f.form = 1 then 64 else 2048)

/-- What was heard on a channel: at most 254 bytes (R385). -/
def Machine.TtHeard.wf (x : TtHeard) : Bool := decide (x.data.length ≤ 254)

/-- A time-triggered frame: slot 1 to 2047 (R385). -/
def Machine.TtFrame.wf (f : TtFrame) : Bool :=
  between f.slot 1 2047 && (match f.a with | some x => x.wf | none => true) && (match f.b with | some x => x.wf | none => true)

/-- An Ethernet frame: addresses of 48 bits, a VLAN identifier of 12 bits. -/
def Machine.EthFrame.wf (f : EthFrame) : Bool :=
  below f.dmac (2 ^ 48) && below f.smac (2 ^ 48) && below f.vid 4096

/-- A Shuttle message: a session number and a SEQ of 32 bits (R523). -/
def Machine.Msg.wf (m : Msg) : Bool := below m.session (2 ^ 32) && below m.seq (2 ^ 32)

/-- A keep-awake message: a frame of a CAN controller, or one of an Ethernet port (R498, R499, R501). -/
def Machine.KaMsg.wf : KaMsg → Bool
  | .can u ident _ => controller u && below ident (2 ^ 29)
  | .eth p f => below p 22 && f.wf

/-- An operation of the debug module: harts, the four triggers of a hart, the eight words of the program buffer (R619). -/
def Machine.DmiOp.wf : DmiOp → Bool
  | .select => true
  | .halt h => hart h
  | .resume h => hart h
  | .trigger h n _ => hart h && below n 4
  | .program n w => below n 8 && below w (2 ^ 32)
  | .holdRun _ => true
  | .haltReset _ => true

/-- A fault window counter of a unit that exists (R731). -/
def Machine.CounterId.wf : CounterId → Bool
  | .row a => below a (2 ^ 32)
  | .core n => below n 5
  | .pair n => below n 5
  | .can c => controller c
  | .cell m k => Sys2Proof.channel m && below k 5
  | .nor n => below n 65536
  | .busLink => true
  | .bankLink b => bank b
  | .channel m => Sys2Proof.channel m
  | .noPartner c => controller c
  | .truncation t c => ttUnit t && below c 2
  | .handshake => true
  | .unlock => true
  | .access c => below c 2048
  | .resets c => below c 2048
  | .retrain b => bank b
  | .busReset => true

/-- A command whose operands are all within their ranges. -/
def Instr.wellFormed : Instr → Bool
  | .pickBoundary x => x.wf
  | .cardSwap => true
  | .swapAbandon => true
  | .sourceQualify _ => true
  | .alignment pick x => below pick 65536 && x.wf
  | .sourceLoss => true
  | .holdoverExpiry _ => true
  | .phaseStep _ => true
  | .positionEdge _ _ _ _ _ x => x.wf
  | .indexAccepted _ x => x.wf
  | .zeroCrossing _ _ => true
  | .tableReadCorrected idx => below idx 131072
  | .nop idx => below idx 131072
  | .take idx => below idx 131072
  | .sample idx => below idx 131072
  | .stamp idx => below idx 131072
  | .move idx => below idx 131072
  | .scale idx => below idx 131072
  | .pack idx => below idx 131072
  | .unpack idx => below idx 131072
  | .send idx => below idx 131072
  | .drive idx => below idx 131072
  | .pwmset idx => below idx 131072
  | .gate idx => below idx 131072
  | .kick idx => below idx 131072
  | .mark idx => below idx 131072
  | .groupCommit init g => initiator init && below g 4096
  | .groupFlip g => below g 4096
  | .signalWrite init n off width value => initiator init && below n 65536 && below off 16 && accessWidth width && aligned off width && fits value width
  | .signalRead init n off width => initiator init && below n 65536 && below off 16 && accessWidth width && aligned off width
  | .staleSweep n => below n 65536
  | .q0Move => true
  | .ttRxMove => true
  | .i2ObjectMove => true
  | .presenceEvidence partner => below partner 4096
  | .discoverExpiry partner _ => below partner 4096
  | .lossExpiry partner _ => below partner 4096
  | .sysctlEvtClear init value => initiator init && below value (2 ^ 32)
  | .ctxEvtClear init value => initiator init && below value (2 ^ 32)
  | .ctxHartWrite init h valid bind ctx => initiator init && hart h && below valid 2 && below bind 128 && below ctx 2048
  | .resetSelf init ctx => initiator init && below ctx 2048
  | .runSelf init ctx => initiator init && below ctx 2048
  | .contextResetComplete c => below c 2048
  | .bobbinWrite q kind payload => below q 8192 && between kind 1 3 && decide (payload.length ≤ 2048)
  | .bobbinPop init h => initiator init && hart h
  | .timerConfig init k exp unit mode => initiator init && below k 32 && below exp 2 && below unit 2 && below mode 4
  | .timerExpiry k => below k 32
  | .doorbellRing init b data => initiator init && below b 44 && below data 65536
  | .noticePop init b => initiator init && below b 68
  | .commandFrameReceived b _ => bank b
  | .linkHeartbeat b => bank b
  | .linkSilence b => bank b
  | .holdExpiry m => channel m
  | .pickMark b _ atMark atMid case vsup => bank b && decide (atMark.length = 16) && decide (atMid.length = 16) && atMark.all Sense.wf && atMid.all Sense.wf && below case 65536 && below vsup 4096
  | .pwmPeriodStart m => channel m
  | .pwmHighTimeEnd m => channel m
  | .pwmRestart m => channel m
  | .inrushWindowEnd m => channel m
  | .limiterRegulate m _ => channel m
  | .dwellTrip m _ same => channel m && same.all tripCause
  | .dtTrip m _ _ _ same => channel m && same.all tripCause
  | .tjTrip m _ _ _ same => channel m && same.all tripCause
  | .wireModelUpdate m cur same => channel m && samples16 cur && same.all tripCause
  | .coolRecovery m _ tj dt => channel m && decide (tj.length = 16) && decide (dt.length = 16)
  | .latchClear init m value => initiator init && channel m && below value (2 ^ 32)
  | .openLoadFilterEnd m _ => channel m
  | .openLoadCompare m _ => channel m
  | .manualDrive init m cmd => initiator init && channel m && below cmd 65536
  | .manualDriveEnd init m cmd => initiator init && channel m && below cmd 65536
  | .manualLeaseExpiry m _ => channel m
  | .classCheckEnd b lo hi => bank b && decide (lo ≤ hi)
  | .overvoltageLock b _ _ => bank b
  | .undervoltageLock b _ _ => bank b
  | .supplyUnlock b lo hi _ => bank b && decide (lo ≤ hi)
  | .keeperReset b _ _ => bank b
  | .keeperStart b _ _ => bank b
  | .budgetSample b cur trips => bank b && decide (cur.length = 16) && tripList trips
  | .dissipationEstimate b cur tj trips => bank b && samples16 cur && decide (tj.length = 16) && tripList trips
  | .caseLimit b _ _ cur trips => bank b && decide (cur.length = 16) && tripList trips
  | .thermalShed b cur trips => bank b && decide (cur.length = 16) && tripList trips
  | .shortEventEnd b => bank b
  | .cellTest m cells _ => channel m && below (m % 16) 2 && decide (cells.length = 5)
  | .canFrameReceived c f => controller c && f.wf
  | .canTxstart init c mask => initiator init && controller c && below mask (2 ^ 32)
  | .canTxcan init c mask => initiator init && controller c && below mask (2 ^ 32)
  | .canBufferWrite init c k off data => initiator init && controller c && below k 32 && decide (off + data.length ≤ 64)
  | .canArbitrationWon c b _ => controller c && below b 32
  | .canTxError c b _ _ => controller c && below b 32
  | .canFrameAcked c b => controller c && below b 32
  | .canAckError c b _ => controller c && below b 32
  | .busOffDelayEnd c => controller c
  | .busOffRecovered c => controller c
  | .ttSlotStart t slot start til => ttUnit t && between slot 1 2047 && decide (start ≤ til)
  | .ttFrameReceived t f => ttUnit t && f.wf
  | .ttDynamicSend t k _ => ttUnit t && below k 256
  | .ttClusterAwake t => ttUnit t
  | .ttListenTimeout t _ => ttUnit t
  | .ttStartupComplete t => ttUnit t
  | .ttColdstartAbandon t => ttUnit t
  | .ttColdstartExhausted t => ttUnit t
  | .ttClockCorrectionMissing t => ttUnit t
  | .ttClockCorrectionRegained t _ _ => ttUnit t
  | .ttHaltExpiry t => ttUnit t
  | .guardianCycleMark t cycle _ => ttUnit t && below cycle 64
  | .guardianMarkTimeout t => ttUnit t
  | .ttTruncation t ch start til => ttUnit t && below ch 2 && decide (start ≤ til)
  | .ttWakeFrames t => ttUnit t
  | .swxFrameIngress p f _ _ => port p && f.wf
  | .swxFrameEgress p _ => port p
  | .swxRingTransmit p _ => between p 22 23
  | .swxLinkLost p _ => below p 22
  | .swxLinkReturn p _ => below p 22
  | .swxLinkHoldExpiry p => below p 22
  | .swxGateEntry p pos => port p && below pos 256
  | .gptpSync p => below p 22
  | .gptpSyncTimeout => true
  | .gptpClockStep => true
  | .ppsInEdge ns => below ns 1000000000
  | .ppsOutPulse => true
  | .frerReset r => below r 255
  | .macsecOldKeyExpiry p => below p 22
  | .brgWindowWrite init w off size data => initiator init && below w 64 && below off 65536 && below size 3 && fits data (8 * 2 ^ size)
  | .brgWindowRead init w off size => initiator init && below w 64 && below off 65536 && below size 3
  | .brgReadStallEnd h => hart h
  | .brgRequestSend w => below w 64
  | .brgAnswer w type seq addr data => below w 64 && below type 256 && below seq 256 && below addr (2 ^ 32) && below data (2 ^ 32)
  | .brgResponseTimeout w => below w 64
  | .brgCollectRead init q => initiator init && below q 256
  | .brgCollectExpiry q => below q 256
  | .brgCabort init q => initiator init && below q 256
  | .brgWackResume init w => initiator init && below w 64
  | .brgWackDiscard init w => initiator init && below w 64
  | .brgIwrite bus unit node seq size addr _ => below bus 8 && below unit 32 && below node 65536 && below seq 256 && below size 4 && below addr (2 ^ 32)
  | .brgPollDue w => below w 64
  | .brgProbeDue w => below w 64
  | .nmwReqSet init k reason => initiator init && cluster k && below reason 256
  | .nmwReqRelease init k => initiator init && cluster k
  | .keepAwakeSend k => cluster k
  | .keepAwakeReceived m => m.wf
  | .sleepWaitExpiry k => cluster k
  | .prepareExpiry k => cluster k
  | .sleepCommitComplete k => cluster k
  | .wakeEvent k cause unit node => cluster k && below cause 16 && below unit 256 && below node 256
  | .selectiveWakeOverflow c => controller c
  | .awakeLimitReached k => cluster k
  | .awakeStretchEnd k _ => cluster k
  | .hello _ host number nonce epub => below host 65536 && below number (2 ^ 32) && below nonce (2 ^ 128) && below epub (2 ^ 512)
  | .proof m resp => m.wf && decide (resp.length = 32)
  | .lockoutEnd => true
  | .halfOpenTimeout _ => true
  | .sessionIdleTimeout _ => true
  | .ping m => m.wf
  | .bye m => m.wf
  | .subscribe m on => m.wf && below on 256
  | .abort m target _ => m.wf && below target (2 ^ 32)
  | .restart m => m.wf
  | .updOpen m ikind total xfer => m.wf && below ikind 256 && below total (2 ^ 32) && below xfer 65536
  | .updBlock m xfer offset data _ => m.wf && below xfer 65536 && below offset (2 ^ 32) && between data.length 1 4096
  | .updClose m xfer => m.wf && below xfer 65536
  | .updActivate m xfer when_ at_ _ => m.wf && below xfer 65536 && below when_ 256 && below at_ (2 ^ 64)
  | .updCancel m xfer => m.wf && below xfer 65536
  | .updStatus m => m.wf
  | .invGet m => m.wf
  | .presGet m first count => m.wf && below first 65536 && below count 65536
  | .recRead m fromSeq count => m.wf && below fromSeq (2 ^ 32) && below count 256
  | .recClear m => m.wf
  | .keyLoad m slot wrap len _ => m.wf && below slot 65536 && below wrap 65536 && below len 65536
  | .keyCommit m slot => m.wf && below slot 65536
  | .keyInval m slot => m.wf && below slot 65536
  | .outChal m slot nonce => m.wf && below slot 65536 && below nonce (2 ^ 128)
  | .lcChange m target auth => m.wf && below target 256 && decide (auth.length = 32)
  | .sigRead m first count => m.wf && below first 65536 && below count 65536
  | .sigForce m signal _ => m.wf && below signal 65536
  | .sigRelease m signal => m.wf && below signal 65536
  | .chMan m channel en cmd => m.wf && below channel 256 && below en 256 && below cmd 65536
  | .sleepReq m cluster on => m.wf && below cluster 256 && below on 256
  | .ctxReset m c => m.wf && below c 65536
  | .ctxStop m c => m.wf && below c 65536
  | .ctxRestart m c => m.wf && below c 65536
  | .ctxStat m c => m.wf && below c 65536
  | .trdIdle m => m.wf
  | .trdRelease m => m.wf
  | .noticeAck m notice => m.wf && below notice (2 ^ 32)
  | .noticeResend _ notice => below notice (2 ^ 32)
  | .neighborSolicitation _ src => below src (2 ^ 128)
  | .icmpv6Echo _ src ident seq _ => below src (2 ^ 128) && below ident 65536 && below seq 65536
  | .reassemblyTimeout src ident => below src (2 ^ 128) && below ident (2 ^ 32)
  | .lockstepMismatch j => below j 5
  | .sramEccRead addr n _ => sramAddr addr && between n 1 8
  | .sramScrub cor unc => cor.all sramAddr && unc.all sramAddr
  | .gcmEnc init n slot _ => initiator init && below n 16 && below slot 512
  | .gcmDec init n slot _ => initiator init && below n 16 && below slot 512
  | .cmac init n slot _ => initiator init && below n 16 && below slot 512
  | .cmacVer init n slot _ => initiator init && below n 16 && below slot 512
  | .hmac init n slot _ => initiator init && below n 16 && below slot 512
  | .hmacVer init n slot _ => initiator init && below n 16 && below slot 512
  | .sign init n slot _ => initiator init && below n 16 && below slot 512
  | .verify init n slot _ => initiator init && below n 16 && below slot 512
  | .ecdh init n slot _ => initiator init && below n 16 && below slot 512
  | .kdf init n slot _ => initiator init && below n 16 && below slot 512
  | .hkdf init n slot _ => initiator init && below n 16 && below slot 512
  | .chal init n slot _ => initiator init && below n 16 && below slot 512
  | .load init n slot _ => initiator init && below n 16 && below slot 512
  | .commit init n _ => initiator init && below n 16
  | .inval init n _ => initiator init && below n 16
  | .sha256 init n _ => initiator init && below n 16
  | .sha384 init n _ => initiator init && below n 16
  | .keyOpAbort init n => initiator init && below n 16
  | .keyOpComplete n _ => below n 16
  | .keyOpRelease init n => initiator init && below n 16
  | .tamper cause _ _ _ => below cause 7
  | .vkeepLoss _ _ _ => true
  | .idcode => true
  | .samplePreload _ => true
  | .extest _ => true
  | .dtmcs => true
  | .dmi o => o.wf
  | .dbgchal level nonce => below level 4 && below nonce (2 ^ 128)
  | .dbgresp resp => decide (resp.length = 32)
  | .dbgstat => true
  | .wakereq _ => true
  | .bypass => true
  | .ntrst => true
  | .nonceExpiry => true
  | .dbgLockoutEnd => true
  | .dbgClose init => initiator init
  | .recTrig init code => initiator init && below code 65536
  | .bucketToken b => below b 513
  | .recRingWrite => true
  | .recCursor init seq => initiator init && below seq (2 ^ 32)
  | .optimeTick => true
  | .optimeSave => true
  | .stagingLockLapse => true
  | .activationTime _ => true
  | .updConfirm init key => initiator init && below key (2 ^ 32)
  | .confirmExpiry => true
  | .orderedRestart _ => true
  | .powerOnReset => true
  | .startupTimeout _ => true
  | .brownOut => true
  | .nrst _ => true
  | .powerOff => true
  | .vsupLow => true
  | .vsupHigh => true
  | .vkeepLow => true
  | .coreTempHigh => true
  | .clockCheck _ => true
  | .dozeEnter init => initiator init
  | .dozeExit init => initiator init
  | .standbyRequest => true
  | .standbyCommit => true
  | .standbyCaptureDone => true
  | .hibernateEntry => true
  | .wakeFromStandby cause cluster unit _ => below cause 16 && below cluster 256 && below unit 256
  | .pwrHoldTake init => initiator init
  | .pwrHoldRelease init => initiator init
  | .pwrLeaseLapse c => below c 2048
  | .domainReset init k => initiator init && below k 16
  | .busDieReset => true
  | .watchdogKick init h key => initiator init && hart h && below key (2 ^ 32)
  | .watchdogWarning h => hart h
  | .watchdogExpiry h _ => hart h
  | .faultWindowClose c => c.wf
  | .memoryRowFail addr _ => below addr (2 ^ 32)
  | .coreError j => below j 5
  | .canControllerError u => controller u
  | .norVerifyFail n => below n 65536
  | .busLinkCrcError => true
  | .registerWrite init addr width value => initiator init && below addr (2 ^ 32) && accessWidth width && aligned addr width && fits value width
  | .rcFieldRead init addr width => initiator init && below addr (2 ^ 32) && accessWidth width && aligned addr width
  | .regulationEnd m _ => channel m
  | .ownOscillatorPick b => bank b
  | .busIntegrationComplete c => controller c
  | .holderExpiry k node => cluster k && below node 256
  | .sleepCommitStepEnd k => cluster k
  | .brgWriteStallEnd h => hart h
  | .vsupLogGood _ => true
  | .updCloseComplete _ => true
  | .lcTransitionComplete => true
  | .ringEraseComplete => true
  | .domainResetDone k => below k 16
  | .uncorrectableTableRead idx => below idx 131072

/-- The initiator that makes a command, where software or the debug port makes it (R206, R619). -/
def Instr.madeBy : Instr → Option Nat
  | .pickBoundary _ => none
  | .cardSwap => none
  | .swapAbandon => none
  | .sourceQualify _ => none
  | .alignment _ _ => none
  | .sourceLoss => none
  | .holdoverExpiry _ => none
  | .phaseStep _ => none
  | .positionEdge _ _ _ _ _ _ => none
  | .indexAccepted _ _ => none
  | .zeroCrossing _ _ => none
  | .tableReadCorrected _ => none
  | .nop _ => none
  | .take _ => none
  | .sample _ => none
  | .stamp _ => none
  | .move _ => none
  | .scale _ => none
  | .pack _ => none
  | .unpack _ => none
  | .send _ => none
  | .drive _ => none
  | .pwmset _ => none
  | .gate _ => none
  | .kick _ => none
  | .mark _ => none
  | .groupCommit init _ => some init
  | .groupFlip _ => none
  | .signalWrite init _ _ _ _ => some init
  | .signalRead init _ _ _ => some init
  | .staleSweep _ => none
  | .q0Move => none
  | .ttRxMove => none
  | .i2ObjectMove => none
  | .presenceEvidence _ => none
  | .discoverExpiry _ _ => none
  | .lossExpiry _ _ => none
  | .sysctlEvtClear init _ => some init
  | .ctxEvtClear init _ => some init
  | .ctxHartWrite init _ _ _ _ => some init
  | .resetSelf init _ => some init
  | .runSelf init _ => some init
  | .contextResetComplete _ => none
  | .bobbinWrite _ _ _ => none
  | .bobbinPop init _ => some init
  | .timerConfig init _ _ _ _ => some init
  | .timerExpiry _ => none
  | .doorbellRing init _ _ => some init
  | .noticePop init _ => some init
  | .commandFrameReceived _ _ => none
  | .linkHeartbeat _ => none
  | .linkSilence _ => none
  | .holdExpiry _ => none
  | .pickMark _ _ _ _ _ _ => none
  | .pwmPeriodStart _ => none
  | .pwmHighTimeEnd _ => none
  | .pwmRestart _ => none
  | .inrushWindowEnd _ => none
  | .limiterRegulate _ _ => none
  | .dwellTrip _ _ _ => none
  | .dtTrip _ _ _ _ _ => none
  | .tjTrip _ _ _ _ _ => none
  | .wireModelUpdate _ _ _ => none
  | .coolRecovery _ _ _ _ => none
  | .latchClear init _ _ => some init
  | .openLoadFilterEnd _ _ => none
  | .openLoadCompare _ _ => none
  | .manualDrive init _ _ => some init
  | .manualDriveEnd init _ _ => some init
  | .manualLeaseExpiry _ _ => none
  | .classCheckEnd _ _ _ => none
  | .overvoltageLock _ _ _ => none
  | .undervoltageLock _ _ _ => none
  | .supplyUnlock _ _ _ _ => none
  | .keeperReset _ _ _ => none
  | .keeperStart _ _ _ => none
  | .budgetSample _ _ _ => none
  | .dissipationEstimate _ _ _ _ => none
  | .caseLimit _ _ _ _ _ => none
  | .thermalShed _ _ _ => none
  | .shortEventEnd _ => none
  | .cellTest _ _ _ => none
  | .canFrameReceived _ _ => none
  | .canTxstart init _ _ => some init
  | .canTxcan init _ _ => some init
  | .canBufferWrite init _ _ _ _ => some init
  | .canArbitrationWon _ _ _ => none
  | .canTxError _ _ _ _ => none
  | .canFrameAcked _ _ => none
  | .canAckError _ _ _ => none
  | .busOffDelayEnd _ => none
  | .busOffRecovered _ => none
  | .ttSlotStart _ _ _ _ => none
  | .ttFrameReceived _ _ => none
  | .ttDynamicSend _ _ _ => none
  | .ttClusterAwake _ => none
  | .ttListenTimeout _ _ => none
  | .ttStartupComplete _ => none
  | .ttColdstartAbandon _ => none
  | .ttColdstartExhausted _ => none
  | .ttClockCorrectionMissing _ => none
  | .ttClockCorrectionRegained _ _ _ => none
  | .ttHaltExpiry _ => none
  | .guardianCycleMark _ _ _ => none
  | .guardianMarkTimeout _ => none
  | .ttTruncation _ _ _ _ => none
  | .ttWakeFrames _ => none
  | .swxFrameIngress _ _ _ _ => none
  | .swxFrameEgress _ _ => none
  | .swxRingTransmit _ _ => none
  | .swxLinkLost _ _ => none
  | .swxLinkReturn _ _ => none
  | .swxLinkHoldExpiry _ => none
  | .swxGateEntry _ _ => none
  | .gptpSync _ => none
  | .gptpSyncTimeout => none
  | .gptpClockStep => none
  | .ppsInEdge _ => none
  | .ppsOutPulse => none
  | .frerReset _ => none
  | .macsecOldKeyExpiry _ => none
  | .brgWindowWrite init _ _ _ _ => some init
  | .brgWindowRead init _ _ _ => some init
  | .brgReadStallEnd _ => none
  | .brgRequestSend _ => none
  | .brgAnswer _ _ _ _ _ => none
  | .brgResponseTimeout _ => none
  | .brgCollectRead init _ => some init
  | .brgCollectExpiry _ => none
  | .brgCabort init _ => some init
  | .brgWackResume init _ => some init
  | .brgWackDiscard init _ => some init
  | .brgIwrite _ _ _ _ _ _ _ => none
  | .brgPollDue _ => none
  | .brgProbeDue _ => none
  | .nmwReqSet init _ _ => some init
  | .nmwReqRelease init _ => some init
  | .keepAwakeSend _ => none
  | .keepAwakeReceived _ => none
  | .sleepWaitExpiry _ => none
  | .prepareExpiry _ => none
  | .sleepCommitComplete _ => none
  | .wakeEvent _ _ _ _ => none
  | .selectiveWakeOverflow _ => none
  | .awakeLimitReached _ => none
  | .awakeStretchEnd _ _ => none
  | .hello _ _ _ _ _ => none
  | .proof _ _ => none
  | .lockoutEnd => none
  | .halfOpenTimeout _ => none
  | .sessionIdleTimeout _ => none
  | .ping _ => none
  | .bye _ => none
  | .subscribe _ _ => none
  | .abort _ _ _ => none
  | .restart _ => none
  | .updOpen _ _ _ _ => none
  | .updBlock _ _ _ _ _ => none
  | .updClose _ _ => none
  | .updActivate _ _ _ _ _ => none
  | .updCancel _ _ => none
  | .updStatus _ => none
  | .invGet _ => none
  | .presGet _ _ _ => none
  | .recRead _ _ _ => none
  | .recClear _ => none
  | .keyLoad _ _ _ _ _ => none
  | .keyCommit _ _ => none
  | .keyInval _ _ => none
  | .outChal _ _ _ => none
  | .lcChange _ _ _ => none
  | .sigRead _ _ _ => none
  | .sigForce _ _ _ => none
  | .sigRelease _ _ => none
  | .chMan _ _ _ _ => none
  | .sleepReq _ _ _ => none
  | .ctxReset _ _ => none
  | .ctxStop _ _ => none
  | .ctxRestart _ _ => none
  | .ctxStat _ _ => none
  | .trdIdle _ => none
  | .trdRelease _ => none
  | .noticeAck _ _ => none
  | .noticeResend _ _ => none
  | .neighborSolicitation _ _ => none
  | .icmpv6Echo _ _ _ _ _ => none
  | .reassemblyTimeout _ _ => none
  | .lockstepMismatch _ => none
  | .sramEccRead _ _ _ => none
  | .sramScrub _ _ => none
  | .gcmEnc init _ _ _ => some init
  | .gcmDec init _ _ _ => some init
  | .cmac init _ _ _ => some init
  | .cmacVer init _ _ _ => some init
  | .hmac init _ _ _ => some init
  | .hmacVer init _ _ _ => some init
  | .sign init _ _ _ => some init
  | .verify init _ _ _ => some init
  | .ecdh init _ _ _ => some init
  | .kdf init _ _ _ => some init
  | .hkdf init _ _ _ => some init
  | .chal init _ _ _ => some init
  | .load init _ _ _ => some init
  | .commit init _ _ => some init
  | .inval init _ _ => some init
  | .sha256 init _ _ => some init
  | .sha384 init _ _ => some init
  | .keyOpAbort init _ => some init
  | .keyOpComplete _ _ => none
  | .keyOpRelease init _ => some init
  | .tamper _ _ _ _ => none
  | .vkeepLoss _ _ _ => none
  | .idcode => none
  | .samplePreload _ => none
  | .extest _ => none
  | .dtmcs => none
  | .dmi _ => none
  | .dbgchal _ _ => none
  | .dbgresp _ => none
  | .dbgstat => none
  | .wakereq _ => none
  | .bypass => none
  | .ntrst => none
  | .nonceExpiry => none
  | .dbgLockoutEnd => none
  | .dbgClose init => some init
  | .recTrig init _ => some init
  | .bucketToken _ => none
  | .recRingWrite => none
  | .recCursor init _ => some init
  | .optimeTick => none
  | .optimeSave => none
  | .stagingLockLapse => none
  | .activationTime _ => none
  | .updConfirm init _ => some init
  | .confirmExpiry => none
  | .orderedRestart _ => none
  | .powerOnReset => none
  | .startupTimeout _ => none
  | .brownOut => none
  | .nrst _ => none
  | .powerOff => none
  | .vsupLow => none
  | .vsupHigh => none
  | .vkeepLow => none
  | .coreTempHigh => none
  | .clockCheck _ => none
  | .dozeEnter init => some init
  | .dozeExit init => some init
  | .standbyRequest => none
  | .standbyCommit => none
  | .standbyCaptureDone => none
  | .hibernateEntry => none
  | .wakeFromStandby _ _ _ _ => none
  | .pwrHoldTake init => some init
  | .pwrHoldRelease init => some init
  | .pwrLeaseLapse _ => none
  | .domainReset init _ => some init
  | .busDieReset => none
  | .watchdogKick init _ _ => some init
  | .watchdogWarning _ => none
  | .watchdogExpiry _ _ => none
  | .faultWindowClose _ => none
  | .memoryRowFail _ _ => none
  | .coreError _ => none
  | .canControllerError _ => none
  | .norVerifyFail _ => none
  | .busLinkCrcError => none
  | .registerWrite init _ _ _ => some init
  | .rcFieldRead init _ _ => some init
  | .regulationEnd _ _ => none
  | .ownOscillatorPick _ => none
  | .busIntegrationComplete _ => none
  | .holderExpiry _ _ => none
  | .sleepCommitStepEnd _ => none
  | .brgWriteStallEnd _ => none
  | .vsupLogGood _ => none
  | .updCloseComplete _ => none
  | .lcTransitionComplete => none
  | .ringEraseComplete => none
  | .domainResetDone _ => none
  | .uncorrectableTableRead _ => none

end Sys2Proof
end

