-- ==== Sys2Proof/Certificates/Slice0/Obligations.lean ====
section
/-! DEFINITION. The statements for the provers. -/

open Sys2Proof Sys2Proof.Machine

/-- A step takes the command at the front of the queue and runs it with the queue's rest. -/
def Obligations.StepRunsFront : Prop :=
  ∀ (s : State) (c : Instr) (rest : List Instr), step { s with pending := c :: rest } = exec c { s with pending := rest }

/-- An idle block counts its clock. With no frame waiting in a Q1, at I4 or at I3 and no substitution of a hart under way nothing
else happens, but that ATTACHED lapses 1 s after TCK last toggled (R636). The tick on an empty queue is the model's choice (log
entry 3). -/
def Obligations.IdleTick : Prop :=
  (∀ s : State, s.pending = [] → ∃ t, step s = .next t ∧ t.pending = [] ∧ t.dev.now = s.dev.now + 1) ∧
  (∀ s : State, s.pending = [] → s.dev.can.q1 = [] → s.dev.brg.arrived = [] → s.dev.nmw.heard = [] → s.dev.flt.joining = [] →
    (s.dev.flag DBG_STAT_ATTACHED = false ∨ s.dev.now + 1 < s.dev.dbg.tck + 500000000) →
    step s = .next { s with dev := { s.dev with now := s.dev.now + 1 } }) ∧
  (∀ s : State, s.pending = [] → s.dev.can.q1 = [] → s.dev.brg.arrived = [] → s.dev.nmw.heard = [] → s.dev.flt.joining = [] →
    s.dev.flag DBG_STAT_ATTACHED = true → s.dev.dbg.tck + 500000000 ≤ s.dev.now + 1 →
    ∃ t, step s = .next t ∧ t.pending = [] ∧ t.dev.rd DBG_STAT_ATTACHED = 0 ∧ t.dev.now = s.dev.now + 1 ∧
      { t.dev with regs := s.dev.regs, now := s.dev.now } = s.dev ∧ s.dev.regsBut t.dev [(DBG_STAT_ATTACHED, 0)])

/-- Every command in every state answers a next state, with the queue as it was and the clock count as it was: no command is refused
or faults the machine. -/
def Obligations.EveryCommandAnswers : Prop :=
  ∀ (c : Instr) (s : State), ∃ d : Dev, exec c s = .next { s with dev := d } ∧ d.now = s.dev.now

/-- The canonical form of the register file and the memory is kept by every step. -/
def Obligations.CanonicalKept : Prop :=
  ∀ s t : State, s.dev.canonical → step s = .next t → t.dev.canonical

/-- The state after reset is in canonical form, with nothing waiting, sent or stored. -/
def Obligations.ResetCanonical : Prop :=
  State.reset.dev.canonical ∧ State.reset.pending = [] ∧ State.reset.dev.out = [] ∧ State.reset.dev.mem = []

/-- Along every step what has been sent stays sent, in its order, and the free values used are never used again. -/
def Obligations.HistoryGrows : Prop :=
  ∀ s t : State, step s = .next t → s.dev.grows t.dev

/-- The queue is served first in, first out, and completely: from any state, as many steps as commands wait leave the queue empty,
and the block as serving them in their order leaves it. -/
def Obligations.QueueServed : Prop :=
  ∀ s : State, ∃ d : Dev, served s.pending s.dev = some d ∧
    (List.range s.pending.length).foldl (fun (o : Option State) _ => o.bind fun t => match step t with | .next u => some u | _ => none)
      (some s) = some ⟨d, []⟩

/-- Memory: a byte that is written reads back, every other byte reads as before, and equal contents are equal data. -/
def Obligations.MemoryReadsBack : Prop :=
  (∀ (d : Dev) (a : Nat) (l : List Byte) (b : Nat), memWf d.mem = true → memRead (d.poke a l).mem b =
    if a ≤ b ∧ b < a + l.length then l.getD (b - a) 0 else memRead d.mem b) ∧
  (∀ (d : Dev) (a n v : Nat), v < 256 ^ n → memWf d.mem = true → leVal ((d.poke a (leOf n v)).peek a n) = v) ∧
  (∀ (d : Dev) (a n v : Nat), v < 256 ^ n → memWf d.mem = true → beVal ((d.poke a (beOf n v)).peek a n) = v) ∧
  (∀ m n : List Host.Cell, memWf m = true → memWf n = true → (∀ a, memRead m a = memRead n a) → m = n)

/-- The register file: a field that is written reads back cut to its width, no other field of the register's layout changes, and
forgetting a range gives exactly its fields their reset values. -/
def Obligations.RegistersReadBack : Prop :=
  (∀ (d : Dev) (f g : Field) (i j v : Nat), (d.wri f i v).rdi g j =
    if g.key j = f.key i then v % 2 ^ f.width else d.rdi g j) ∧
  (∀ (d : Dev) (f : Field) (i lo hi : Nat), d.regs.wf = true →
    (d.resetRange lo hi).rdi f i =
      if lo * 32 ≤ f.key i % 2 ^ 37 ∧ f.key i % 2 ^ 37 < hi * 32 then f.resetVal i else d.rdi f i) ∧
  (∀ m n : Map Nat, m.wf = true → n.wf = true → (∀ k, m.find k = n.find k) → m = n)

/-- R641: the CRC of a record is the CRC-32 of IEEE 802.3, as a division by its polynomial most significant bit first, on reflected
bytes and with a reflected result; the check value is that of the nine digits. -/
def Obligations.RecordCrc : Prop :=
  (∀ l : List Nat, (∀ b ∈ l, b < 256) → crc32 l = (crcByDivision l).toNat) ∧
  crc32 [0x31, 0x32, 0x33, 0x34, 0x35, 0x36, 0x37, 0x38, 0x39] = 0xCBF43926

/-- R10, R15, R28, R203, R780: an access to the address space: system SRAM, a range that software may not access, a plain register, an
unassigned address, a read that carries the number of no declared context, an initiator that can make no access, and a measured
register, whose value is free (log entry 11). -/
def Obligations.AddressSpaceAccesses : Prop :=
  (∀ (s : State) (init a w v : Nat), s.dev.canAccess init = true → 0x20000000 ≤ a → a < 0x20A00000 →
    s.dev.ctxBarred (s.dev.tag init) = false → s.dev.cpu.marked = [] →
    Ends (.registerWrite init a w v) s fun d => d.mem = memWriteList (leOf (w / 8) v) a s.dev.mem ∧ d.access = {} ∧
      { d with mem := s.dev.mem, access := s.dev.access } = s.dev) ∧
  (∀ (s : State) (init a w : Nat), s.dev.canAccess init = true → s.dev.undeclared (s.dev.tag init) = false → 0x20000000 ≤ a →
    a < 0x20A00000 → s.dev.cpu.marked = [] →
    Gives (.rcFieldRead init a w) s (s.dev.answered (leVal (s.dev.peek a (w / 8))))) ∧
  (∀ (s : State) (init a w v : Nat), s.dev.canAccess init = true → s.dev.undeclared (s.dev.tag init) = false → regionOf a = .hidden →
    Gives (.registerWrite init a w v) s (s.dev.answered 0).faulted ∧ Gives (.rcFieldRead init a w) s (s.dev.answered 0).faulted) ∧
  (∀ (s : State) (init a w v : Nat), s.dev.canAccess init = true → init < 10 → regionOf a = .block → 0x40A00000 ≤ a → a < 0x40B00000 →
    w ≤ 32 → s.dev.domainOn 2 = true → s.dev.ctxBarred (s.dev.tag init) = false → ownRow (regFields (a / 4 * 4) init) = false →
    Gives (.registerWrite init a w v) s ((s.dev.answered 0).plainWrite (a / 4 * 4) init (regWriteOf a w v))) ∧
  (∀ (s : State) (init a w : Nat), s.dev.canAccess init = true → init < 10 → regionOf a = .block → 0x40A00000 ≤ a → a < 0x40B00000 →
    w ≤ 32 → s.dev.domainOn 2 = true → s.dev.undeclared (s.dev.tag init) = false →
    Gives (.rcFieldRead init a w) s (((s.dev.answered 0).clearRead (a / 4 * 4) init (regWriteOf a w 0)).answered
      (readPart a w (s.dev.wordAt (a / 4 * 4) init)))) ∧
  (∀ (s : State) (init a v : Nat), s.dev.canAccess init = true → init < 10 → 0x40A00000 ≤ a → a < 0x40A10000 → a % 4 = 0 →
    regFields a init = [] → s.dev.domainOn 2 = true → s.dev.ctxBarred (s.dev.tag init) = false →
    s.dev.undeclared (s.dev.tag init) = false →
    Gives (.rcFieldRead init a 32) s (s.dev.answered 0) ∧ Gives (.registerWrite init a 32 v) s (s.dev.answered 0)) ∧
  (∀ (s : State) (init a w : Nat), s.dev.canAccess init = true → s.dev.undeclared (s.dev.tag init) = true →
    Gives (.rcFieldRead init a w) s ((s.dev.countRefused (s.dev.tag init)).answered 0)) ∧
  (∀ (s : State) (init a w v : Nat), s.dev.canAccess init = false →
    Gives (.registerWrite init a w v) s s.dev ∧ Gives (.rcFieldRead init a w) s s.dev) ∧
  (∀ (s : State) (init w : Nat), s.dev.canAccess init = true → s.dev.undeclared (s.dev.tag init) = false → w ≤ 32 →
    s.dev.domainOn 0 = true →
    Gives (.rcFieldRead init PWR_VSUP_VSUP_LOG.base w) s ((s.dev.answered 0).fresh.answered
      (readPart PWR_VSUP_VSUP_LOG.base w (s.dev.freeVal 12))))

/-- R10, R13, R780: what a write does to a field by its access code, bit by bit: a bit that the write does not cover keeps its value in
RW and RWL fields and counts as 0 in W1C and W1S fields; RO, WO and RC fields keep their values. -/
def Obligations.AccessCodeEffects : Prop :=
  ∀ (d : Dev) (x : RegWrite) (f : Field) (i b : Nat), b < f.width →
    ((f.acc = .rw ∨ f.acc = .rwl) → ((d.putField x f i).rdi f i).testBit b =
      (if x.mask.testBit (f.lsb + b) then x.word.testBit (f.lsb + b) else (d.rdi f i).testBit b)) ∧
    (f.acc = .w1c → ((d.putField x f i).rdi f i).testBit b =
      ((d.rdi f i).testBit b && !(x.mask.testBit (f.lsb + b) && x.word.testBit (f.lsb + b)))) ∧
    (f.acc = .w1s → ((d.putField x f i).rdi f i).testBit b =
      ((d.rdi f i).testBit b || (x.mask.testBit (f.lsb + b) && x.word.testBit (f.lsb + b)))) ∧
    ((f.acc = .ro ∨ f.acc = .wo ∨ f.acc = .rc) → d.putField x f i = d) ∧
    d.onlyRegs (d.putField x f i) [(f, i)]

/-- R13: a write to a register with an RWL field after the deck commit changes nothing but the access-error counter of its block,
which it increments up to its largest value. -/
def Obligations.LockedRegisters : Prop :=
  ∀ (s : State) (init a w v : Nat), s.dev.canAccess init = true → init < 10 → regionOf a = .block → w ≤ 32 →
    s.dev.domainOn (domainOf a) = true → s.dev.unfitted (a / 4 * 4) = false → s.dev.ctxBarred (s.dev.tag init) = false →
    s.dev.deck.running.isSome = true → ((regFields (a / 4 * 4) init).any fun p => p.1.acc == .rwl) = true →
    Ends (.registerWrite init a w v) s fun d =>
      d.rdi (accErr (a / 4 * 4)).1 (accErr (a / 4 * 4)).2 =
        min (s.dev.rdi (accErr (a / 4 * 4)).1 (accErr (a / 4 * 4)).2 + 1) (2 ^ (accErr (a / 4 * 4)).1.width - 1) ∧
      d.access = {} ∧ s.dev.onlyRegs { d with access := s.dev.access } [accErr (a / 4 * 4)]

/-- R27: an access outside every region of R26 and every block of R29 ends in an access fault and raises code 0x0010. -/
def Obligations.AccessOutside : Prop :=
  ∀ (s : State) (init a w v : Nat), s.dev.canAccess init = true → s.dev.undeclared (s.dev.tag init) = false →
    (∀ p ∈ ([(0, 0xFFFF), (0x08000000, 0x087FFFFF), (0x10000000, 0x17FFFFFF), (0x20000000, 0x217FFFFF), (0x40000000, 0x4000FFFF),
      (0x40010000, 0x4001FFFF), (0x40020000, 0x4002FFFF), (0x40100000, 0x401FFFFF), (0x40200000, 0x402FFFFF), (0x40300000, 0x4033FFFF),
      (0x40400000, 0x40419FFF), (0x40500000, 0x4050FFFF), (0x40600000, 0x406FFFFF), (0x40700000, 0x4070FFFF), (0x40710000, 0x4071FFFF),
      (0x40720000, 0x4072FFFF), (0x40800000, 0x4080FFFF), (0x40810000, 0x4081FFFF), (0x40900000, 0x4090FFFF), (0x40A00000, 0x40A0FFFF),
      (0x40B00000, 0x40B0FFFF), (0x40C00000, 0x40C0FFFF), (0x50000000, 0x503FFFFF)] : List (Nat × Nat)), a < p.1 ∨ p.2 < a) →
    Gives (.registerWrite init a w v) s (((s.dev.answered 0).trig 0x0010 []).faulted) ∧
    Gives (.rcFieldRead init a w) s (((s.dev.answered 0).trig 0x0010 []).faulted) ∧
    (((s.dev.answered 0).trig 0x0010 []).faulted).access.fault = true

/-- R35: an access to a block whose power domain is off ends in an access fault; nothing else changes, so the domain stays off. -/
def Obligations.UnpoweredAccess : Prop :=
  (∀ (s : State) (init a w v : Nat), s.dev.canAccess init = true → s.dev.undeclared (s.dev.tag init) = false → regionOf a = .block →
    (w ≤ 32 ∨ domainOf (a + 4) = domainOf a) → s.dev.domainOn (domainOf a) = false →
    Gives (.registerWrite init a w v) s s.dev.faulted ∧ Gives (.rcFieldRead init a w) s s.dev.faulted) ∧
  (∀ (s : State) (init n slot : Nat) (irq : Bool), s.dev.portOpen init = true → s.dev.domainOn 2 = false →
    ∀ c ∈ ([.gcmEnc init n slot irq, .gcmDec init n slot irq, .cmac init n slot irq, .cmacVer init n slot irq, .hmac init n slot irq,
      .hmacVer init n slot irq, .sign init n slot irq, .verify init n slot irq, .ecdh init n slot irq, .kdf init n slot irq,
      .hkdf init n slot irq, .chal init n slot irq, .load init n slot irq, .commit init n irq, .inval init n irq, .sha256 init n irq,
      .sha384 init n irq, .keyOpAbort init n, .keyOpRelease init n] : List Instr), Gives c s s.dev.faulted) ∧
  (∀ (s : State) (init h k x y z : Nat), s.dev.portOpen init = true → s.dev.domainOn 2 = false →
    ∀ c ∈ ([.ctxEvtClear init k, .ctxHartWrite init h x y z, .resetSelf init k, .runSelf init k, .bobbinPop init h,
      .timerConfig init k x y z, .doorbellRing init k x, .noticePop init k, .updConfirm init k, .brgCollectRead init k,
      .brgCabort init k, .brgWackResume init k, .brgWackDiscard init k, .latchClear init k x, .manualDrive init k x,
      .manualDriveEnd init k x, .recTrig init k, .recCursor init k] : List Instr), Gives c s s.dev.faulted) ∧
  (∀ (s : State) (init n off w v : Nat), s.dev.portOpen init = true → s.dev.domainOn 11 = false →
    ∀ c ∈ ([.groupCommit init n, .signalWrite init n off w v, .signalRead init n off w] : List Instr), Gives c s s.dev.faulted) ∧
  (∀ (s : State) (init c k off : Nat) (l : List Byte), s.dev.portOpen init = true → s.dev.domainOn 13 = false →
    ∀ i ∈ ([.canTxstart init c k, .canTxcan init c k, .canBufferWrite init c k off l] : List Instr), Gives i s s.dev.faulted) ∧
  (∀ (s : State) (init v : Nat), s.dev.portOpen init = true → s.dev.domainOn 0 = false →
    ∀ c ∈ ([.sysctlEvtClear init v, .dbgClose init] : List Instr), Gives c s s.dev.faulted)

/-- R619: below FULL the debug port makes no access, so no command that it makes changes anything. -/
def Obligations.ClosedDebugPort : Prop :=
  ∀ (s : State) (i : Instr) (init : Nat), i.madeBy = some init → 10 ≤ init → s.dev.rd DBG_STAT_LEVEL ≠ 2 → Gives i s s.dev

/-- R126, R130 to R134, R136 to R138: the weft-lane entries, each in its turn, not skipped. The whole next state is given, so
what is not named is unchanged. -/
def Obligations.WeftEntriesComplete : Prop :=
  (∀ (s : State) (idx : Nat) (e : Entry), s.dev.turnOf idx 0x00 e = true →
    Gives (.nop idx) s ((s.dev.entryTaken idx 0x00).entryDone idx 0x00 e true)) ∧
  (∀ (s : State) (idx : Nat) (e : Entry), s.dev.turnOf idx 0x01 e = true → (s.dev.trd.rxObj.get e.src {}).held = true →
    ((s.dev.entryTaken idx 0x01).fresh? idx ((s.dev.trd.rxObj.get e.src {}).count % 65536) e).2 = false →
    (fieldArg e.arg).start + (fieldArg e.arg).width ≤ (s.dev.trd.rxObj.get e.src {}).payload.length * 8 →
    Gives (.take idx) s
      (((((s.dev.entryTaken idx 0x01).fresh? idx ((s.dev.trd.rxObj.get e.src {}).count % 65536) e).1).entryWrite e.dst
        (extendBits (fieldArg e.arg).width (fieldGet (s.dev.trd.rxObj.get e.src {}).payload (fieldArg e.arg))
          (fieldArg e.arg).signed) 0).entryDone idx 0x01 e true)) ∧
  (∀ (s : State) (idx : Nat) (e : Entry), s.dev.turnOf idx 0x02 e = true →
    Gives (.sample idx) s (((s.dev.entryTaken idx 0x02).entryWrite e.dst (BitVec.ofNat 64 ((s.dev.entryTaken idx 0x02).sample e.src)) 0).entryDone
      idx 0x02 e true)) ∧
  (∀ (s : State) (idx : Nat) (e : Entry), s.dev.turnOf idx 0x03 e = true → bits e.arg 1 0 = 1 →
    Gives (.stamp idx) s (((s.dev.entryTaken idx 0x03).entryWrite e.dst (BitVec.ofNat 64 s.dev.trd.gptpNs) 0).entryDone
      idx 0x03 e true)) ∧
  (∀ (s : State) (idx : Nat) (e : Entry), s.dev.turnOf idx 0x08 e = true → (s.dev.entryFresh idx 0x08 e).2 = false →
    Gives (.move idx) s (((s.dev.entrySource idx 0x08 e).1.entryWrite e.dst (s.dev.entrySource idx 0x08 e).2.1
      (s.dev.entrySource idx 0x08 e).2.2).entryDone idx 0x08 e true)) ∧
  (∀ (s : State) (idx : Nat) (e : Entry), s.dev.turnOf idx 0x09 e = true → (s.dev.entryFresh idx 0x09 e).2 = false →
    Gives (.scale idx) s (((((s.dev.entrySource idx 0x09 e).1.entryWrite e.dst
      (scale ((s.dev.entrySource idx 0x09 e).1.typeOf e.src) ((s.dev.entrySource idx 0x09 e).1.typeOf e.dst)
        (s.dev.entrySource idx 0x09 e).2.1 e.arg).1 (s.dev.entrySource idx 0x09 e).2.2)).saturate
      (scale ((s.dev.entrySource idx 0x09 e).1.typeOf e.src) ((s.dev.entrySource idx 0x09 e).1.typeOf e.dst)
        (s.dev.entrySource idx 0x09 e).2.1 e.arg).2 e).entryDone idx 0x09 e true)) ∧
  (∀ (s : State) (idx : Nat) (e : Entry), s.dev.turnOf idx 0x0A e = true →
    Gives (.pack idx) s
      ((((s.dev.entryTaken idx 0x0A).packSources e (List.range (bits e.arg 13 7))).1.entryWrite e.dst
        (pack (bits e.arg 6 0) ((s.dev.entryTaken idx 0x0A).packSources e (List.range (bits e.arg 13 7))).2.1)
        ((s.dev.entryTaken idx 0x0A).packSources e (List.range (bits e.arg 13 7))).2.2).entryDone idx 0x0A e true)) ∧
  (∀ (s : State) (idx : Nat) (e : Entry), s.dev.turnOf idx 0x0B e = true → (s.dev.entryFresh idx 0x0B e).2 = false →
    Gives (.unpack idx) s (((s.dev.entrySource idx 0x0B e).1.entryWrite e.dst
      (unpack (s.dev.entrySource idx 0x0B e).2.1 e.arg) (s.dev.entrySource idx 0x0B e).2.2).entryDone idx 0x0B e true))

/-- R130, R133, R139, R141, R154, R324: the warp-lane entries, each in its turn, while the Treadle is not in the idle card and
nothing refuses the entry. The whole next state is given. -/
def Obligations.WarpEntriesComplete : Prop :=
  (∀ (s : State) (idx : Nat) (e : Entry), s.dev.turnOf idx 0x10 e = true → (s.dev.entryTaken idx 0x10).trdIdle = false →
    (s.dev.entryTaken idx 0x10).sendRefused e.dst = false → (s.dev.entryFresh idx 0x10 e).2 = false →
    Gives (.send idx) s (((s.dev.entrySource idx 0x10 e).1.sendEffect e (s.dev.entrySource idx 0x10 e).2.1
      (s.dev.entrySource idx 0x10 e).2.2).entryDone idx 0x10 e true)) ∧
  (∀ (s : State) (idx : Nat) (e : Entry), s.dev.turnOf idx 0x11 e = true → (s.dev.entryTaken idx 0x11).trdIdle = false →
    (s.dev.entryTaken idx 0x11).chanRefuses e.dst = false → (s.dev.entryFresh idx 0x11 e).2 = false →
    Gives (.drive idx) s (((s.dev.entrySource idx 0x11 e).1.setSlot e.dst
      { (s.dev.entrySource idx 0x11 e).1.slot e.dst with
        cmd := (s.dev.entrySource idx 0x11 e).2.1.toNat % 65536, assert := true }).entryDone idx 0x11 e true)) ∧
  (∀ (s : State) (idx : Nat) (e : Entry), s.dev.turnOf idx 0x12 e = true → (s.dev.entryTaken idx 0x12).trdIdle = false →
    (s.dev.entryTaken idx 0x12).chanRefuses e.dst = false → (s.dev.entryFresh idx 0x12 e).2 = false →
    Gives (.pwmset idx) s (((s.dev.entrySource idx 0x12 e).1.setSlot e.dst
      { (s.dev.entrySource idx 0x12 e).1.slot e.dst with
        duty := (s.dev.entrySource idx 0x12 e).2.1.toNat % 65536, period := bits e.arg 31 0,
        phrst := e.arg.testBit 32, phase := bits e.arg 56 33, assert := true }).entryDone idx 0x12 e true)) ∧
  (∀ (s : State) (idx : Nat) (e : Entry), s.dev.turnOf idx 0x13 e = true → (s.dev.entryTaken idx 0x13).trdIdle = false →
    s.dev.swx.portReset.contains e.dst = false →
    Gives (.gate idx) s (((s.dev.entryTaken idx 0x13).wri SWXP_STAT_GATES e.dst (e.arg % 256)).entryDone idx 0x13 e true)) ∧
  (∀ (s : State) (idx : Nat) (e : Entry), s.dev.turnOf idx 0x14 e = true → (s.dev.entryTaken idx 0x14).trdIdle = false →
    e.dst < 0x1000 → (s.dev.entryTaken idx 0x14).canRefuses (e.dst / 32) = false →
    ((s.dev.entryTaken idx 0x14).txObj e.dst).held = true →
    Gives (.kick idx) s (((s.dev.entryTaken idx 0x14).canKick (e.dst / 32) (e.dst % 32)).entryDone idx 0x14 e true)) ∧
  (∀ (s : State) (idx : Nat) (e : Entry), s.dev.turnOf idx 0x18 e = true →
    Gives (.mark idx) s ((((s.dev.entryTaken idx 0x18).wri TRD_MARK_VAL e.dst (bits e.arg 31 0)).setBit TRD_MARKEVT_FLAGS 0
      e.dst).entryDone idx 0x18 e true))

/-- R125, R150: the two error reads of an entry that waits for its turn. -/
def Obligations.TableReadErrors : Prop :=
  (∀ (s : State) (idx : Nat) (d : Dev), s.dev.trd.todo.contains idx = true →
    d = ((((s.dev.inc TRD_ECCCNT_COR).wr TRD_EVT_ECC_COR 1).trig 0x0315 []).setTrd
      { s.dev.trd with charged := s.dev.trd.charged ++ [idx] }).shedCheck.weftEnd →
    Gives (.tableReadCorrected idx) s (if d.trd.todo.isEmpty then d.finishPick else d)) ∧
  (∀ (s : State) (idx : Nat) (e : Entry) (d : Dev), s.dev.trd.todo.contains idx = true → s.dev.entry idx = some e →
    d = (((s.dev.inc TRD_ECCCNT_UNC).wr TRD_EVT_ECC_UNC 1).trig 0x0314 []).dropEntry idx 0 → opWarp e.op = true →
    Gives (.uncorrectableTableRead idx) s (if d.trd.todo.isEmpty then d.finishPick else d)) ∧
  (∀ (s : State) (idx : Nat) (e : Entry) (d : Dev), s.dev.trd.todo.contains idx = true → s.dev.entry idx = some e →
    d = ((((s.dev.inc TRD_ECCCNT_UNC).wr TRD_EVT_ECC_UNC 1).trig 0x0314 []).dropEntry idx 0).weftEnd → opWarp e.op = false →
    Gives (.uncorrectableTableRead idx) s (if d.trd.todo.isEmpty then d.finishPick else d))

/-- R69, R85, R92, R94, R100, R142, R156: pick boundaries and card swaps while the Treadle runs. The whole next state is given. -/
def Obligations.BoundaryCommandsComplete : Prop :=
  (∀ (s : State) (x : PickIn), s.dev.trdRuns = true → (s.dev.beat.alignPending = true ∨ s.dev.beat.stepPending = true) →
    Gives (.pickBoundary x) s s.dev.finishPick) ∧
  (∀ (s : State) (x : PickIn), s.dev.trdRuns = true → s.dev.beat.alignPending = false → s.dev.beat.stepPending = false →
    s.dev.beat.indexPending = true → Gives (.pickBoundary x) s (s.dev.indexEnd x)) ∧
  (∀ (s : State) (x : PickIn), s.dev.trdRuns = true → s.dev.beat.alignPending = false → s.dev.beat.stepPending = false →
    s.dev.beat.indexPending = false → s.dev.beat.picksBegun = 0 →
    Gives (.pickBoundary x) s (s.dev.beginPick 0 (s.dev.rd BEAT_REPCNT) 0 false x)) ∧
  (∀ (s : State) (x : PickIn), s.dev.trdRuns = true → s.dev.beat.alignPending = false → s.dev.beat.stepPending = false →
    s.dev.beat.indexPending = false → s.dev.beat.picksBegun ≠ 0 → s.dev.rd BEAT_PICK + 1 < s.dev.rd BEAT_REPLEN_REPEAT_LEN →
    Gives (.pickBoundary x) s (s.dev.beginPick (s.dev.rd BEAT_PICK + 1) (s.dev.rd BEAT_REPCNT) 0 false x)) ∧
  (∀ (s : State) (x : PickIn), s.dev.trdRuns = true → s.dev.beat.alignPending = false → s.dev.beat.stepPending = false →
    s.dev.beat.indexPending = false → s.dev.beat.picksBegun ≠ 0 → s.dev.rd BEAT_REPLEN_REPEAT_LEN ≤ s.dev.rd BEAT_PICK + 1 →
    s.dev.lockedOn 3 = false → s.dev.lockedOn 0 = false →
    Gives (.pickBoundary x) s (s.dev.beginPick 0 (s.dev.rd BEAT_REPCNT + 1) 0 true x)) ∧
  (∀ (s : State) (x : PickIn), s.dev.trdRuns = true → s.dev.beat.alignPending = false → s.dev.beat.stepPending = false →
    s.dev.beat.indexPending = false → s.dev.beat.picksBegun ≠ 0 → s.dev.rd BEAT_REPLEN_REPEAT_LEN ≤ s.dev.rd BEAT_PICK + 1 →
    s.dev.lockedOn 0 = true →
    Gives (.pickBoundary x) s
      (s.dev.beginPick 0 (x.gptp / (s.dev.rd BEAT_PICKNS_PICK_NS * s.dev.rd BEAT_REPLEN_REPEAT_LEN) % 2 ^ 32) 0 true x)) ∧
  (∀ (s : State), s.dev.rd TRD_STAT_STATE = 1 → s.dev.trd.idlePending = false → s.dev.swapDue = true → s.dev.trd.todo = [] →
    s.dev.rd BEAT_REPLEN_REPEAT_LEN ≤ s.dev.rd BEAT_PICK + 1 → s.dev.beat.alignPending = false → s.dev.beat.stepPending = false →
    Gives .cardSwap s (s.dev.flipPending.swapIfDue ((s.dev.rd BEAT_REPCNT + 1) % 65536 * 65536))) ∧
  (∀ (s : State), s.dev.deck.armed ≠ none → 16 ≤ s.dev.deck.bridgeWaits →
    Ends .swapAbandon s fun d => d.deck.armed = none ∧ d.deck.running = s.dev.deck.running ∧ d.rd SYSCTL_DECKSTAT_SWAP_ARMED = 0 ∧
      d.rd SYSCTL_DECKSTAT_REJ_CODE = 0x0506 ∧ d.rd SYSCTL_EVT_SWAPABN = 1 ∧ d.mem = s.dev.mem)

/-- R88, R98 to R104, R783: qualification, loss, holdover and phase errors of the pick source. A line cycle's phase error is the one
measured at its last crossing. -/
def Obligations.PickSourceCommands : Prop :=
  (∀ (s : State) (e : Int), s.dev.trdRuns = true → s.dev.rd BEAT_STAT_STATE ≠ 1 → s.dev.rd BEAT_CFG_SOURCE = 5 →
    Ends (.sourceQualify e) s fun d => d.rd BEAT_STAT_STATE = 1 ∧ d.rd BEAT_STAT_RUN_SRC = 5 ∧ d.rd BEAT_EVT_ACQ = 1 ∧
      d.rd BEAT_HOLDLEFT_LEFT_MS = 0 ∧ d.beat = { s.dev.beat with
        alignPending := false, stepPending := false, holdRunning := false, holdExpired := false } ∧ d.mem = s.dev.mem) ∧
  (∀ (s : State) (e : Int), s.dev.trdRuns = true → (s.dev.rd BEAT_STAT_STATE = 0 ∨ s.dev.rd BEAT_STAT_STATE = 3) →
    s.dev.rd BEAT_CFG_SOURCE ≠ 5 → s.dev.sourceReady = true →
    Gives (.sourceQualify e) s (s.dev.setBeat { s.dev.beat with alignPending := true })) ∧
  (∀ (s : State) (e f : Int), f = (if s.dev.rd BEAT_CFG_SOURCE = 4 then toSigned 32 (s.dev.rd BEAT_PHERR) else e) →
    s.dev.trdRuns = true → s.dev.rd BEAT_STAT_STATE = 2 → s.dev.rd BEAT_CFG_SOURCE ≠ 5 → s.dev.sourceReady = true →
    f.natAbs ≤ s.dev.rd BEAT_STEPB_STEP_BOUND_NS →
    Ends (.sourceQualify e) s fun d => d.rd BEAT_STAT_STATE = 1 ∧ d.rd BEAT_STAT_RUN_SRC = s.dev.rd BEAT_CFG_SOURCE % 8 ∧
      d.rd BEAT_EVT_ACQ = 1 ∧ d.rd BEAT_PHERR = sword f ∧ d.beat = { s.dev.beat with
        alignPending := false, stepPending := false, holdRunning := false, holdExpired := false } ∧ d.mem = s.dev.mem) ∧
  (∀ (s : State) (e f : Int), f = (if s.dev.rd BEAT_CFG_SOURCE = 4 then toSigned 32 (s.dev.rd BEAT_PHERR) else e) →
    s.dev.trdRuns = true → s.dev.rd BEAT_STAT_STATE = 2 → s.dev.rd BEAT_CFG_SOURCE ≠ 5 → s.dev.sourceReady = true →
    ¬ f.natAbs ≤ s.dev.rd BEAT_STEPB_STEP_BOUND_NS →
    Ends (.sourceQualify e) s fun d => d.rd BEAT_PHERR = sword f ∧ d.beat = { s.dev.beat with stepPending := true } ∧
      { d with regs := s.dev.regs, beat := s.dev.beat } = s.dev ∧ s.dev.regsBut d [(BEAT_PHERR, 0)]) ∧
  (∀ (s : State) (e : Int), s.dev.trdRuns = true → s.dev.rd BEAT_STAT_STATE = 1 → s.dev.rd BEAT_CFG_SOURCE ≤ 2 →
    Ends (.phaseStep e) s fun d => d.rd BEAT_PHERR = sword e ∧ d.beat = { s.dev.beat with
        stepPending := s.dev.beat.stepPending || decide (s.dev.rd BEAT_STEPB_STEP_BOUND_NS < e.natAbs) } ∧
      { d with regs := s.dev.regs, beat := s.dev.beat } = s.dev ∧ s.dev.regsBut d [(BEAT_PHERR, 0)]) ∧
  (∀ (s : State), s.dev.trdRuns = true → s.dev.rd BEAT_CFG_SOURCE ≠ 5 → s.dev.lossHolds = true → s.dev.rd BEAT_STAT_STATE = 1 →
    s.dev.rd BEAT_HOLDMS_HOLDOVER_MS ≠ 0 →
    Ends .sourceLoss s fun d => d.rd BEAT_STAT_STATE = 2 ∧ d.rd BEAT_STAT_RUN_SRC = 5 ∧ d.rd BEAT_EVT_LOSS = 1 ∧
      d.rd BEAT_HOLDLEFT_LEFT_MS = s.dev.rd BEAT_HOLDMS_HOLDOVER_MS % 2 ^ 14 ∧ d.rd BEAT_STAT_QUAL_CNT = 0 ∧
      d.beat = { s.dev.beat with
        refs := 0, indexOk := false, quadErrs := 0, holdRunning := true, holdExpired := false, alignPending := false,
        stepPending := false } ∧ d.mem = s.dev.mem) ∧
  (∀ (s : State), s.dev.trdRuns = true → s.dev.rd BEAT_CFG_SOURCE ≠ 5 → s.dev.lossHolds = true → s.dev.rd BEAT_STAT_STATE = 1 →
    s.dev.rd BEAT_HOLDMS_HOLDOVER_MS = 0 →
    Ends .sourceLoss s fun d => d.rd BEAT_STAT_STATE = 3 ∧ d.rd BEAT_EVT_LOSS = 1 ∧ d.rd BEAT_EVT_IDLE_IN = 1 ∧
      d.rd TRD_STAT_IDLE_BEAT = 1 ∧ d.trd.idlePending = true ∧ d.mem = s.dev.mem) ∧
  (∀ (s : State), s.dev.lossHolds = false → Gives .sourceLoss s s.dev) ∧
  (∀ (s : State) (tie : Bool), s.dev.trdRuns = true → s.dev.beat.holdRunning = true →
    (s.dev.rd BEAT_STAT_STATE = 0 ∨ s.dev.rd BEAT_STAT_STATE = 2) → (tie = false ∨ s.dev.sourceReady = false) →
    s.dev.beat.alignPending = false → s.dev.beat.stepPending = false →
    Ends (.holdoverExpiry tie) s fun d => d.rd BEAT_STAT_STATE = 3 ∧ d.rd BEAT_EVT_IDLE_IN = 1 ∧ d.rd TRD_STAT_IDLE_BEAT = 1 ∧
      d.beat.holdRunning = false ∧ d.trd.idlePending = true ∧ d.mem = s.dev.mem) ∧
  (∀ (s : State) (tie : Bool), s.dev.trdRuns = true → s.dev.beat.holdRunning = true →
    (s.dev.rd BEAT_STAT_STATE = 0 ∨ s.dev.rd BEAT_STAT_STATE = 2) →
    (tie = true ∧ s.dev.sourceReady = true ∨ s.dev.beat.alignPending = true ∨ s.dev.beat.stepPending = true) →
    Ends (.holdoverExpiry tie) s fun d => d.beat = { s.dev.beat with holdRunning := false, holdExpired := true } ∧
      { d with regs := s.dev.regs, beat := s.dev.beat } = s.dev ∧ s.dev.regsBut d [(BEAT_HOLDLEFT_LEFT_MS, 0)])

/-- R90 to R97, R100, R101: an alignment, and the edges, index marks and crossings that the position and line-cycle stages
accept. -/
def Obligations.PositionAndLineCommands : Prop :=
  (∀ (s : State) (pick : Nat) (x : PickIn) (d : Dev), s.dev.trdRuns = true → s.dev.beat.alignPending = true →
    s.dev.finishPick.beat.stepPending = false → s.dev.finishPick.rd BEAT_STAT_STATE = 0 →
    d = s.dev.finishPick.lock.trig 0x0301 [] →
    Gives (.alignment pick x) s (d.beginPick pick (d.stepRep x) (d.passedBy pick) true x)) ∧
  (∀ (s : State) (a b index : Bool) (gap ns : Nat) (x : PickIn), s.dev.timingLand 2 = true → s.dev.rd BEAT_CFG_SOURCE = 3 →
    a ≠ s.dev.beat.posA → b ≠ s.dev.beat.posB → 400 ≤ gap → s.dev.beat.quadErrs ≠ 15 →
    Ends (.positionEdge a b gap ns index x) s fun d => d.rd BEAT_EVT_QUAD_ERR = 1 ∧ d.rd BEAT_POSCNT = s.dev.rd BEAT_POSCNT ∧
      d.beat = { s.dev.beat with posA := a, posB := b, refs := 0, quadErrs := s.dev.beat.quadErrs + 1 } ∧ d.mem = s.dev.mem) ∧
  (∀ (s : State) (a b index : Bool) (gap ns : Nat) (x : PickIn), s.dev.timingLand 2 = true → s.dev.rd BEAT_CFG_SOURCE = 3 →
    a ≠ s.dev.beat.posA → b = s.dev.beat.posB → 400 ≤ gap → s.dev.rd BEAT_STAT_STATE ≠ 1 →
    Ends (.positionEdge a b gap ns index x) s fun d =>
      d.rd BEAT_POSCNT = (s.dev.rd BEAT_POSCNT + (if a = b then 2 ^ 32 - 1 else 1)) % 2 ^ 32 ∧
      d.beat = { s.dev.beat with
        posA := a, refs := s.dev.beat.refs + 1, netEdges := s.dev.beat.netEdges + (if a = b then -1 else 1) } ∧
      { d with regs := s.dev.regs, beat := s.dev.beat } = s.dev ∧
      s.dev.regsBut d [(BEAT_POSCNT, 0), (BEAT_STAT_QUAL_CNT, 0)]) ∧
  (∀ (s : State) (a b index : Bool) (gap ns : Nat) (x : PickIn),
    (s.dev.timingLand 2 = false ∨ a = s.dev.beat.posA ∧ b = s.dev.beat.posB) → Gives (.positionEdge a b gap ns index x) s s.dev) ∧
  (∀ (s : State) (ns : Nat) (x : PickIn), s.dev.timingLand 2 = true → s.dev.rd BEAT_CFG_SOURCE = 3 → s.dev.beat.posA = true →
    s.dev.beat.posB = true → s.dev.trdRuns = true → s.dev.rd BEAT_STAT_STATE = 1 → s.dev.rd BEAT_PICK = 0 →
    s.dev.rd BEAT_REPLEN_REPEAT_LEN ≠ 1 →
    Gives (.indexAccepted ns x) s
      (s.dev.setBeat { s.dev.beat with indexOk := true, netEdges := 0, stepPending := false, indexSeen := true })) ∧
  (∀ (s : State) (ns : Nat) (x : PickIn), s.dev.timingLand 2 = true → s.dev.rd BEAT_CFG_SOURCE = 3 → s.dev.beat.posA = true →
    s.dev.beat.posB = true → s.dev.trdRuns = true → s.dev.rd BEAT_STAT_STATE = 1 → s.dev.rd BEAT_PICK ≠ 0 →
    Gives (.indexAccepted ns x) s
      (if ns < s.dev.rd BEAT_MINPICK_MIN_NS then
        s.dev.setBeat { s.dev.beat with indexOk := true, netEdges := 0, stepPending := false, indexPending := true }
      else (s.dev.setBeat { s.dev.beat with indexOk := true, netEdges := 0, stepPending := false }).indexEnd x)) ∧
  (∀ (s : State) (t x : Nat), s.dev.timingLand 3 = true → s.dev.rd BEAT_CFG_SOURCE = 4 → s.dev.lineOutOfRange t = true →
    Gives (.zeroCrossing t x) s ((s.dev.wr BEAT_LINEPER_LINE_NS t).wr BEAT_EVT_RANGE 1).sourceLoss) ∧
  (∀ (s : State) (t x : Nat), s.dev.timingLand 3 = true → s.dev.rd BEAT_CFG_SOURCE = 4 → s.dev.lineOutOfRange t = false →
    t * 16 % s.dev.rd BEAT_CFG_PER_CYCLE = 0 →
    Ends (.zeroCrossing t x) s fun d => d.rd BEAT_LINEPER_LINE_NS = t % 2 ^ 32 ∧
      d.rd BEAT_PERIOD = t * 16 / s.dev.rd BEAT_CFG_PER_CYCLE % 2 ^ 32 ∧
      d.rd BEAT_PHERR = sword (lineError (s.dev.rd BEAT_LINEPER_LINE_NS) x) ∧
      d.beat = { s.dev.beat with
        refs := (if s.dev.beat.refs = 0 ∨ lineSteady (s.dev.rd BEAT_LINEPER_LINE_NS) t = true then s.dev.beat.refs else 0) + 1,
        stepPending := s.dev.beat.stepPending || s.dev.trdRuns && s.dev.rd BEAT_STAT_STATE == 1 &&
          decide (s.dev.rd BEAT_STEPB_STEP_BOUND_NS < (lineError (s.dev.rd BEAT_LINEPER_LINE_NS) x).natAbs) } ∧
      { d with regs := s.dev.regs, beat := s.dev.beat } = s.dev ∧
      s.dev.regsBut d [(BEAT_LINEPER_LINE_NS, 0), (BEAT_PERIOD, 0), (BEAT_STAT_QUAL_CNT, 0), (BEAT_PHERR, 0)])

/-- R174 to R176, R203, R181 to R183, R187, R188: commits, flips, writes, reads and the sweep of the signal store, by an initiator
that may make them, with the store's power domain on. -/
def Obligations.SignalStoreCommands : Prop :=
  (∀ (s : State) (init g : Nat) (r : SigRec) (l : List SigRec), s.dev.portOpen init = true → s.dev.domainOn 11 = true → s.dev.groupMembers g = r :: l →
    g < 0x1000 → s.dev.mayWrite init r.writer = true → s.dev.flagi TRD_GVER_PEND g = false → s.dev.trdRuns = true →
    Gives (.groupCommit init g) s (({ s.dev.answered 0 with sig := { s.dev.sig with claimed := s.dev.sig.claimed ++
      (((r :: l).map fun m => m.signal).filter fun n => s.dev.sig.written.contains n) } } : Dev).wri TRD_GVER_PEND g 1)) ∧
  (∀ (s : State) (init g : Nat) (r : SigRec) (l : List SigRec), s.dev.portOpen init = true → s.dev.domainOn 11 = true → s.dev.groupMembers g = r :: l →
    g < 0x1000 → s.dev.mayWrite init r.writer = true → s.dev.flagi TRD_GVER_PEND g = true →
    Gives (.groupCommit init g) s (s.dev.answered 0)) ∧
  (∀ (s : State) (g : Nat), s.dev.flagi TRD_GVER_PEND g = true → s.dev.laneFree = true →
    Gives (.groupFlip g) s (s.dev.flipGroup g)) ∧
  (∀ (s : State) (init n width value : Nat) (r : SigRec), s.dev.portOpen init = true → s.dev.domainOn 11 = true → s.dev.sigRec n = some r →
    s.dev.mayWrite init r.writer = true → typeWidth r.type ≤ width →
    Gives (.signalWrite init n 0 width value) s (((s.dev.answered 0).dropHeld init).sigPut init r (BitVec.ofNat 64 value))) ∧
  (∀ (s : State) (init n value : Nat) (r : SigRec), s.dev.portOpen init = true → s.dev.domainOn 11 = true → s.dev.sigRec n = some r →
    s.dev.mayWrite init r.writer = true → typeWidth r.type = 64 →
    Gives (.signalWrite init n 0 32 value) s (((s.dev.answered 0).setHeld init n (value % 2 ^ 32)).answered 0)) ∧
  (∀ (s : State) (init n value low : Nat) (r : SigRec), s.dev.portOpen init = true → s.dev.domainOn 11 = true → s.dev.sigRec n = some r →
    s.dev.mayWrite init r.writer = true → typeWidth r.type = 64 → s.dev.heldHalf init n = some low →
    Gives (.signalWrite init n 4 32 value) s (((s.dev.answered 0).dropHeld init).sigPut init r
      (BitVec.ofNat 64 (low + value % 2 ^ 32 * 2 ^ 32)))) ∧
  (∀ (s : State) (init n off width : Nat), s.dev.portOpen init = true → s.dev.domainOn 11 = true → s.dev.undeclared (s.dev.tag init) = true →
    Gives (.signalRead init n off width) s ((s.dev.countRefused (s.dev.tag init)).answered 0)) ∧
  (∀ (s : State) (init n width : Nat), s.dev.domainOn 11 = true → s.dev.undeclared (s.dev.tag init) = false → init < 10 →
    Ends (.signalRead init n 0 width) s fun d => d.access = { value := slotPart ((s.dev.answered 0).judge n |>.slotWord n) 0 width } ∧
      d.sig.latch.find init = some (n, (s.dev.answered 0).judge n |>.slotWord n)) ∧
  (∀ (s : State) (init n off width w : Nat), s.dev.portOpen init = true → s.dev.domainOn 11 = true → s.dev.undeclared (s.dev.tag init) = false → (off = 4 ∨ off = 8 ∨ off = 12) →
    ((s.dev.answered 0).judge n).sig.latch.find init = some (n, w) →
    Gives (.signalRead init n off width) s (((s.dev.answered 0).judge n).answered (slotPart w off width))) ∧
  (∀ (s : State) (n : Nat) (r : SigRec), s.dev.sigRec n = some r → r.ageLimit ≠ 0 → (s.dev.front n).stale = false →
    (s.dev.front n).forced = false → ¬ s.dev.ageOf (s.dev.front n) ≤ r.ageLimit → s.dev.c0Writer r = false → r.watch < 244 →
    Ends (.staleSweep n) s fun d => d.front n = { s.dev.front n with status := (s.dev.front n).status + 2 } ∧
      (∀ m, m ≠ n → d.front m = s.dev.front m) ∧
      { d with regs := s.dev.regs, sig := { d.sig with front := s.dev.sig.front } } = s.dev ∧ s.dev.regsBut d [(TRD_SIGSTALE_COUNT, 0)])

/-- R178, R179: a write to a signal that is not declared, or by an initiator that is not its writer, changes no signal: it is
counted, named and ends in an access fault. -/
def Obligations.SignalWriteRefused : Prop :=
  (∀ (s : State) (init n off width value : Nat), s.dev.portOpen init = true → s.dev.domainOn 11 = true → s.dev.sigRec n = none →
    Gives (.signalWrite init n off width value) s ((s.dev.answered 0).refuseSignal init n false)) ∧
  (∀ (s : State) (init n off width value : Nat) (r : SigRec), s.dev.portOpen init = true → s.dev.domainOn 11 = true → s.dev.sigRec n = some r →
    s.dev.mayWrite init r.writer = false →
    Gives (.signalWrite init n off width value) s ((s.dev.answered 0).refuseSignal init n false)) ∧
  (∀ (d : Dev) (init n : Nat) (b : Bool), d.ctxRec (d.tag init) = none →
    (d.refuseSignal init n b).access.fault = true ∧ (d.refuseSignal init n b).sig = d.sig ∧
    (d.refuseSignal init n b).rd TRD_SIGWERR_COUNT = min (d.rd TRD_SIGWERR_COUNT + 1) (2 ^ 32 - 1) ∧
    (d.refuseSignal init n b).rd TRD_SIGWLAST_SIGNAL = n % 2 ^ 16 ∧
    (d.refuseSignal init n b).rd TRD_SIGWLAST_CTX = d.tag init % 2 ^ 16)

/-- R137, R351, R392, R422: the moves of waiting frames into receive objects when no lane runs, and the presence of a
declared partner (R80, R82): evidence in the same cycle wins over either timeout, and a link that stays up is evidence (the model's
choice, log entry 59). -/
def Obligations.MovesAndPresence : Prop :=
  (∀ (s : State), s.dev.laneFree = true →
    Gives .q0Move s (s.dev.each s.dev.can.ctl.keys fun d c =>
      (d.setCanCtl c { d.canCtl c with q0 := [] }).each (d.canCtl c).q0 fun d w =>
        d.objectMove w.obj (w.payload.take (canCapacity (w.obj / 128) (w.obj % 128))))) ∧
  (∀ (s : State), s.dev.laneFree = true →
    Gives .ttRxMove s (s.dev.each s.dev.tt.keys fun d t =>
      (d.setTtCtl t { d.ttCtl t with waiting := [] }).each (d.ttCtl t).waiting fun d w => d.objectMove w.obj w.payload)) ∧
  (∀ (s : State), s.dev.laneFree = true →
    Gives .i2ObjectMove s (({ s.dev with swx := { s.dev.swx with i2 := [] } } : Dev).each s.dev.swx.i2 fun d w =>
      if d.endpoint w.2.2.1 w.2.1 then d.objectMove w.1 (w.2.2.2.take 1500)
      else (d.inc TRD_SIGUNDECL_COUNT).trig 0x0322 [w.2.2.1])) ∧
  (∀ (s : State) (p : Nat) (r : InvRec), s.dev.partner p = some r → s.dev.presenceOf r.partner = .unknown →
    Gives (.presenceEvidence p) s (s.dev.presenceSet r .present)) ∧
  (∀ (s : State) (p : Nat) (r : InvRec), s.dev.partner p = some r → s.dev.presenceOf r.partner = .absent →
    Gives (.presenceEvidence p) s ((s.dev.presenceSet r .present).trig 0x0203 [r.partner])) ∧
  (∀ (s : State) (p : Nat) (r : InvRec), s.dev.partner p = some r → s.dev.presenceOf r.partner = .present →
    Gives (.presenceEvidence p) s s.dev) ∧
  (∀ (s : State) (p : Nat) (r : InvRec), s.dev.partner p = some r → s.dev.standing r = false → s.dev.presenceOf p = .unknown →
    Gives (.discoverExpiry p false) s (s.dev.presenceSet r .absent)) ∧
  (∀ (s : State) (p : Nat) (r : InvRec), s.dev.partner p = some r → s.dev.standing r = false → s.dev.presenceOf p = .present →
    Gives (.lossExpiry p false) s ((s.dev.presenceSet r .absent).trig 0x0203 [p])) ∧
  (∀ (s : State) (p : Nat) (r : InvRec), s.dev.partner p = some r → s.dev.standing r = false →
    Gives (.discoverExpiry p true) s s.dev ∧ Gives (.lossExpiry p true) s s.dev) ∧
  (∀ (s : State) (p : Nat) (r : InvRec) (tie : Bool), s.dev.partner p = some r → s.dev.standing r = true →
    Gives (.discoverExpiry p tie) s (s.dev.evidence r) ∧ Gives (.lossExpiry p tie) s s.dev)

/-- R57, R784, R785: a write to a routed event register clears the bits written 1 whose source is routed to the writer's context,
and nothing else; one that no running context makes clears nothing and is counted. -/
def Obligations.RoutedEventClears : Prop :=
  (∀ (s : State) (init value : Nat), s.dev.portOpen init = true → s.dev.domainOn 0 = true → s.dev.routedTo init 376 = true → s.dev.routedTo init 377 = true →
    Ends (.sysctlEvtClear init value) s fun d =>
      d.rd SYSCTL_EVT_SWAPDONE = (if value.testBit 0 then 0 else s.dev.rd SYSCTL_EVT_SWAPDONE) ∧
      d.rd SYSCTL_EVT_PRESENCE = (if value.testBit 1 then 0 else s.dev.rd SYSCTL_EVT_PRESENCE) ∧
      d.rd SYSCTL_EVT_SWAPABN = (if value.testBit 2 then 0 else s.dev.rd SYSCTL_EVT_SWAPABN) ∧
      { d with regs := s.dev.regs, access := s.dev.access } = s.dev ∧ d.access = {} ∧
      s.dev.regsBut d [(SYSCTL_EVT_SWAPDONE, 0), (SYSCTL_EVT_PRESENCE, 0), (SYSCTL_EVT_SWAPABN, 0)]) ∧
  (∀ (s : State) (init value : Nat), s.dev.portOpen init = true → s.dev.domainOn 2 = true → s.dev.routedTo init 432 = true → s.dev.routedTo init 433 = true →
    s.dev.routedTo init 434 = true →
    Ends (.ctxEvtClear init value) s fun d =>
      d.rd CTX_EVT_STATECHG = (if value.testBit 0 then 0 else s.dev.rd CTX_EVT_STATECHG) ∧
      d.rd CTX_EVT_BREACH = (if value.testBit 1 then 0 else s.dev.rd CTX_EVT_BREACH) ∧
      d.rd CTX_EVT_NQLOST = (if value.testBit 2 then 0 else s.dev.rd CTX_EVT_NQLOST) ∧
      { d with regs := s.dev.regs, access := s.dev.access } = s.dev ∧ d.access = {} ∧
      s.dev.regsBut d [(CTX_EVT_STATECHG, 0), (CTX_EVT_BREACH, 0), (CTX_EVT_NQLOST, 0)]) ∧
  (∀ (d : Dev) (init value n src : Nat) (f : Field), d.routedTo init src = false → d.routedClear init value n src f = d) ∧
  (∀ (s : State) (init value : Nat), s.dev.portOpen init = true → s.dev.domainOn 0 = true → s.dev.tag init = 0xFFFF → s.dev.ctxRec 0xFFFF = none → value % 8 ≠ 0 →
    Ends (.sysctlEvtClear init value) s fun d =>
      d.rd SYSCTL_ACCERR_ACC_ERR = min (s.dev.rd SYSCTL_ACCERR_ACC_ERR + 1) 65535 ∧
      (s.dev.answered 0).onlyRegs d [(SYSCTL_ACCERR_ACC_ERR, 0)]) ∧
  (∀ (s : State) (init value : Nat), s.dev.portOpen init = true → s.dev.domainOn 2 = true → s.dev.tag init = 0xFFFF → s.dev.ctxRec 0xFFFF = none → value % 8 ≠ 0 →
    Ends (.ctxEvtClear init value) s fun d =>
      d.rd CTX_ACCERR_ACC_ERR = min (s.dev.rd CTX_ACCERR_ACC_ERR + 1) 65535 ∧
      (s.dev.answered 0).onlyRegs d [(CTX_ACCERR_ACC_ERR, 0)])

/-- R206, R207, R212, R216, R217: the context behind a hart's accesses, a context's own orders, and the end of its reset. -/
def Obligations.ContextOrders : Prop :=
  (∀ (s : State) (h valid bind ctx : Nat) (r : CtxRec), s.dev.domainOn 2 = true → h < 5 → s.dev.ctxRec (ctx % 2048) = some r →
    r.bind = bind % 128 →
    Ends (.ctxHartWrite h h valid bind ctx) s fun d => d.rdi CTX_HART_VALID h = valid % 2 ∧ d.rdi CTX_HART_CTX h = ctx % 2048 ∧
      d.rdi CTX_HART_BIND h = bind % 128 ∧ d.access = {} ∧ { d with regs := s.dev.regs, access := s.dev.access } = s.dev ∧
      s.dev.regsBut d [(CTX_HART_VALID, h), (CTX_HART_CTX, h), (CTX_HART_BIND, h)]) ∧
  (∀ (s : State) (h bind ctx : Nat), s.dev.domainOn 2 = true → h < 5 → s.dev.ctxRec (ctx % 2048) = none →
    Gives (.ctxHartWrite h h 1 bind ctx) s ((s.dev.answered 0).ctxRefuse h).faulted) ∧
  (∀ (s : State) (init ctx : Nat), s.dev.domainOn 2 = true → init < 10 → s.dev.tag init = ctx → s.dev.ctxRuns ctx = true →
    Gives (.resetSelf init ctx) s ((s.dev.answered 0).ctxReset ctx 1)) ∧
  (∀ (s : State) (init ctx : Nat), s.dev.domainOn 2 = true → init < 10 → s.dev.tag init = ctx → s.dev.ctxState ctx = 3 →
    Ends (.runSelf init ctx) s fun d => d.rdi CTXN_STAT_STATE ctx = 1 ∧ d.access = {} ∧
      { d with regs := s.dev.regs, access := s.dev.access, ctx := { d.ctx with runPending := s.dev.ctx.runPending } } = s.dev ∧
      d.ctx.runPending = s.dev.ctx.runPending ++ [ctx] ∧ s.dev.regsBut d [(CTXN_STAT_STATE, ctx)]) ∧
  (∀ (s : State) (c : Nat) (r : CtxRec), s.dev.ctxRec c = some r → s.dev.ctxState c = 2 → s.dev.ctx.stopPending.contains c = false →
    s.dev.ctx.atThree.contains c = false →
    Gives (.contextResetComplete c) s
      ((((s.dev.wri CTXN_STAT_STATE c 3).notice c 0x01 0xFF ((s.dev.wri CTXN_STAT_STATE c 3).rdi CTXN_STAT_CAUSE c)).stateChanged
        c).trig 0x0335 [c])) ∧
  (∀ (s : State) (init ctx : Nat), s.dev.portOpen init = true → s.dev.domainOn 2 = true → s.dev.tag init ≠ ctx →
    Gives (.resetSelf init ctx) s ((s.dev.answered 0).ctxRefuse init) ∧ Gives (.runSelf init ctx) s ((s.dev.answered 0).ctxRefuse init))

/-- R208 to R211, R223, R225 to R227, R234: bobbins, timers, doorbells and notices. -/
def Obligations.ContextDevices : Prop :=
  (∀ (s : State) (q kind : Nat) (payload : List Byte) (p : CtxRec × Nat), s.dev.queueOwner q = some p → s.dev.ctxBarred p.1.ctx = false →
    s.dev.borrowFor q (unitsFor payload.length) = 0 →
    Ends (.bobbinWrite q kind payload) s fun d =>
      (d.bob q).recs = (s.dev.bob q).recs ++ [⟨kind, payload, (s.dev.bob q).lost, s.dev.stampNow⟩] ∧ (d.bob q).lost = 0 ∧
      (d.bob q).borrowed = (s.dev.bob q).borrowed ∧ (∀ k, k ≠ q → d.bob k = s.dev.bob k) ∧ d.mem = s.dev.mem ∧
      s.dev.regsBut d [(CTX_Q_USED, q), (CTX_Q_RECS, q), (CTX_POOLBOR_UNITS, 0)]) ∧
  (∀ (s : State) (q kind : Nat) (payload : List Byte) (p : CtxRec × Nat), s.dev.queueOwner q = some p → s.dev.ctxBarred p.1.ctx = true →
    Gives (.bobbinWrite q kind payload) s (s.dev.bobLose q)) ∧
  (∀ (s : State) (init h q : Nat), s.dev.portOpen init = true → s.dev.domainOn 2 = true → s.dev.ctxBarred (s.dev.tag init) = false → s.dev.hartQueue h = some q →
    Gives (.bobbinPop init h) s ((s.dev.answered 0).bobPop q)) ∧
  (∀ (s : State) (init k exp unit mode : Nat), s.dev.portOpen init = true → s.dev.domainOn 2 = true → s.dev.routedTo init (436 + k) = true → k < 32 →
    mode ≠ 1 → mode ≠ 2 →
    Ends (.timerConfig init k exp unit mode) s fun d =>
      d.rdi CTX_TMRCFG_EXP k = (if exp = 1 then 0 else s.dev.rdi CTX_TMRCFG_EXP k) ∧ d.rdi CTX_TMRCFG_UNIT k = unit % 2 ∧
      d.rdi CTX_TMRCFG_MODE k = mode % 4 ∧ d.ctx = { s.dev.ctx with timerRunning := s.dev.ctx.timerRunning.erase k } ∧
      { d with regs := s.dev.regs, ctx := s.dev.ctx, access := s.dev.access } = s.dev ∧
      s.dev.regsBut d [(CTX_TMRCFG_EXP, k), (CTX_TMRCFG_UNIT, k), (CTX_TMRCFG_MODE, k)]) ∧
  (∀ (s : State) (init k unit mode : Nat), s.dev.portOpen init = true → s.dev.domainOn 2 = true → s.dev.routedTo init (436 + k) = true → (mode = 1 ∨ mode = 2) →
    Gives (.timerConfig init k 0 unit mode) s
      ((((s.dev.answered 0).wri CTX_TMRCFG_UNIT k unit).wri CTX_TMRCFG_MODE k mode).timerLoad k)) ∧
  (∀ (s : State) (k : Nat), s.dev.ctx.timerRunning.find k = some 0 → k < 32 → s.dev.rdi CTX_TMRCFG_MODE k ≠ 2 →
    Ends (.timerExpiry k) s fun d => d.rdi CTX_TMRCNT_CNT k = 0 ∧ d.rdi CTX_TMRCFG_EXP k = 1 ∧
      d.ctx = { s.dev.ctx with timerRunning := s.dev.ctx.timerRunning.erase k } ∧
      { d with regs := s.dev.regs, ctx := s.dev.ctx } = s.dev ∧ s.dev.regsBut d [(CTX_TMRCNT_CNT, k), (CTX_TMRCFG_EXP, k)]) ∧
  (∀ (s : State) (init b data : Nat), s.dev.domainOn 2 = true → init < 10 → s.dev.ctxRuns (s.dev.tag init) = true → b < 44 →
    Ends (.doorbellRing init b data) s fun d => d.rdi CTX_DBSTAT_PEND b = 1 ∧ d.rdi CTX_DBSTAT_FROM b = s.dev.tag init % 2048 ∧
      d.rdi CTX_DBSTAT_DATA b = data % 2 ^ 16 ∧
      d.rdi CTX_DBSTAT_OVR b = (if s.dev.flagi CTX_DBSTAT_PEND b then 1 else s.dev.rdi CTX_DBSTAT_OVR b) ∧
      { d with regs := s.dev.regs, access := s.dev.access } = s.dev ∧
      s.dev.regsBut d [(CTX_DBSTAT_PEND, b), (CTX_DBSTAT_FROM, b), (CTX_DBSTAT_DATA, b), (CTX_DBSTAT_OVR, b)]) ∧
  (∀ (s : State) (init b : Nat), s.dev.portOpen init = true → s.dev.domainOn 2 = true → s.dev.hartBind init = some b →
    s.dev.undeclared (s.dev.tag init) = false →
    Ends (.noticePop init b) s fun d => d.access = { value := s.dev.rdi CTX_NQHI_BYTES b } ∧
      d.ctx = { s.dev.ctx with notices := s.dev.ctx.notices.set b ((s.dev.ctx.notices.get b []).drop 1) } ∧ d.mem = s.dev.mem ∧
      s.dev.regsBut d [(CTX_NQSTAT_COUNT, b), (CTX_NQLO_BYTES, b), (CTX_NQHI_BYTES, b)])

/-- R297 to R301, R315: the bank state machine: class check, supply locks, the keeper's reset and start. Each ends in the effect of
its transition while the supply meets the condition of the bank's class. -/
def Obligations.BankStateCommands : Prop :=
  (∀ (s : State) (b lo hi : Nat), s.dev.rdi BANK_STAT_STATE b = 1 →
    (s.dev.rdi BANK_CFG_VCLASS b ≠ 1 ∧ 6000 ≤ lo ∧ hi ≤ 20000 ∨ s.dev.rdi BANK_CFG_VCLASS b = 1 ∧ 30000 ≤ lo ∧ hi ≤ 58000) →
    Gives (.classCheckEnd b lo hi) s (((s.dev.bankUnlock b).wri BANK_STAT_STATE b 2).wri BANK_STAT_LOCKWHY b 0)) ∧
  (∀ (s : State) (b lo hi : Nat), s.dev.rdi BANK_STAT_STATE b = 1 → lo ≤ hi →
    (s.dev.rdi BANK_CFG_VCLASS b ≠ 1 ∧ 24000 < lo ∨ s.dev.rdi BANK_CFG_VCLASS b = 1 ∧ 4000 ≤ lo ∧ hi ≤ 24000) →
    Gives (.classCheckEnd b lo hi) s (s.dev.bankLock b 2 true)) ∧
  (∀ (s : State) (b lo us : Nat), s.dev.rdi BANK_STAT_STATE b = 2 →
    (s.dev.rdi BANK_CFG_VCLASS b ≠ 1 ∧ 36000 < lo ∧ 1000 ≤ us ∨ s.dev.rdi BANK_CFG_VCLASS b = 1 ∧ 58500 < lo ∧ 100 ≤ us) →
    Gives (.overvoltageLock b lo us) s (s.dev.bankLock b 3 true)) ∧
  (∀ (s : State) (b hi us : Nat), s.dev.rdi BANK_STAT_STATE b = 2 → s.dev.rdi BANK_CFG_VCLASS b = 1 → hi < 24000 → 1000 ≤ us →
    Gives (.undervoltageLock b hi us) s (s.dev.bankLock b 4 true)) ∧
  (∀ (s : State) (b lo hi us : Nat), s.dev.rdi BANK_STAT_STATE b = 3 → 10000 ≤ us →
    (s.dev.rdi BANK_STAT_LOCKWHY b = 3 ∧ hi < (if s.dev.rdi BANK_CFG_VCLASS b = 1 then 56000 else 34000) ∨
      s.dev.rdi BANK_STAT_LOCKWHY b = 4 ∧ 30000 < lo) →
    Gives (.supplyUnlock b lo hi us) s
      ((((s.dev.bankUnlock b).wri BANK_STAT_STATE b 2).wri BANK_STAT_LOCKWHY b 0).bankRec b 0x0421 [b])) ∧
  (∀ (s : State) (b hi us : Nat), s.dev.bankFitted b = true → hi < 4000 → 100 ≤ us →
    Gives (.keeperReset b hi us) s (s.dev.keeperReset b)) ∧
  (∀ (s : State) (b lo us : Nat), s.dev.bankFitted b = true → (s.dev.bk b).keeperOn = false → 4500 < lo → 100 ≤ us →
    s.dev.coreRuns = true →
    Gives (.keeperStart b lo us) s ((s.dev.setBk b { s.dev.bk b with keeperOn := true }).keeperRewrite b)) ∧
  (∀ (s : State) (b lo us : Nat), s.dev.bankFitted b = true → (s.dev.bk b).keeperOn = false → 4500 < lo → 100 ≤ us →
    s.dev.coreRuns = false →
    Gives (.keeperStart b lo us) s (s.dev.setBk b { s.dev.bk b with keeperOn := true, rewriteDue := (s.dev.bk b).again })) ∧
  (∀ (s : State) (b : Nat), ((bankChans b).any fun m => s.dev.chState m == chON && s.dev.flagi CH_STAT_LIMITING m) = false →
    Ends (.shortEventEnd b) s fun d => d.rdi BANK_STAT_SHORTEV b = 0 ∧ s.dev.onlyRegs d [(BANK_STAT_SHORTEV, b)])

/-- R253, R299: a bank that locks turns each of its channels LOCKED with the output off, shows why, and raises EVT.LOCK; a command
whose condition does not meet the bank's state, or whose supply does not meet its condition, leaves everything as it was. -/
def Obligations.BankLockState : Prop :=
  (∀ (s : State) (b m lo us : Nat), b < 4 → m / 16 = b → s.dev.rdi BANK_STAT_STATE b = 2 → s.dev.overVolt b lo us = true →
    Ends (.overvoltageLock b lo us) s fun d => d.rdi BANK_STAT_STATE b = 3 ∧ d.rdi BANK_STAT_LOCKWHY b = 3 ∧ d.rdi BANK_EVT_LOCK b = 1 ∧
      d.chState m = 6 ∧ (d.ch m).output = false) ∧
  (∀ (s : State) (b v us : Nat), s.dev.rdi BANK_STAT_STATE b ≠ 2 →
    Gives (.overvoltageLock b v us) s s.dev ∧ Gives (.undervoltageLock b v us) s s.dev) ∧
  (∀ (s : State) (b lo us : Nat), lo ≤ 36000 → Gives (.overvoltageLock b lo us) s s.dev) ∧
  (∀ (s : State) (b hi us : Nat), (s.dev.rdi BANK_CFG_VCLASS b ≠ 1 ∨ 24000 ≤ hi ∨ us < 1000) →
    Gives (.undervoltageLock b hi us) s s.dev) ∧
  (∀ (s : State) (b lo hi us : Nat), (us < 10000 ∨ s.dev.rdi BANK_STAT_LOCKWHY b = 1 ∨ s.dev.rdi BANK_STAT_LOCKWHY b = 2) →
    Gives (.supplyUnlock b lo hi us) s s.dev) ∧
  (∀ (s : State) (b lo hi : Nat), s.dev.rdi BANK_STAT_STATE b ≠ 1 → Gives (.classCheckEnd b lo hi) s s.dev) ∧
  (∀ (s : State) (b v us : Nat), (4000 ≤ v ∨ us < 100) → Gives (.keeperReset b v us) s s.dev) ∧
  (∀ (s : State) (b v us : Nat), (v ≤ 4500 ∨ us < 100) → Gives (.keeperStart b v us) s s.dev)

/-- R304 to R310, R318, R319: budget samples, the thermal manager and the cell test; with `trips`, the channels that trip in the same
clock cycle, each with its cause (R308). -/
def Obligations.BankLimitCommands : Prop :=
  (∀ (s : State) (b ib : Nat) (cur : List Nat), ib = (List.range 16).foldl (fun t i => t + cur.getD i 0) 0 → b < 4 →
    ib ≤ s.dev.rdi BANK_BUDGET_CONT b * 100 → ib ≤ s.dev.rdi BANK_BUDGET_PEAK b * 100 →
    s.dev.rdi BANK_STAT_BUDCNT b - 1 < s.dev.rdi BANK_BUDGET_OVERMS b * 100 → s.dev.rdi BANK_STAT_BUDCNT b ≤ 16383 →
    Ends (.budgetSample b cur []) s fun d => d.rdi BANK_STAT_BUDCNT b = s.dev.rdi BANK_STAT_BUDCNT b - 1 ∧
      d.rdi BANK_STAT_OVERBUD b = 0 ∧ (d.bk b).peakRun = 0 ∧ (d.bk b).sinceShed = min 5 ((s.dev.bk b).sinceShed + 1) ∧
      s.dev.regsBut d [(BANK_STAT_BUDCNT, b), (BANK_STAT_OVERBUD, b)]) ∧
  (∀ (s : State) (b : Nat) (t1 t2 : Int) (cur : List Nat) (trips : List (Nat × Nat)),
    t1 ≤ ((s.dev.rdi BANK_CFG_CASEMAX b * 8 : Nat) : Int) →
    Gives (.caseLimit b t1 t2 cur trips) s
      (((s.dev.setBk b { s.dev.bk b with caseBroken := false }).thermShow b).each trips Dev.tripLive)) ∧
  (∀ (s : State) (b : Nat) (t1 t2 : Int) (cur : List Nat) (trips : List (Nat × Nat)),
    ((s.dev.rdi BANK_CFG_CASEMAX b * 8 : Nat) : Int) < t1 →
    ((s.dev.rdi BANK_CFG_CASEMAX b * 8 : Nat) : Int) < t2 → (s.dev.bk b).caseBroken = true →
    Gives (.caseLimit b t1 t2 cur trips) s
      ((((s.dev.setBk b { s.dev.bk b with caseBroken := true }).thermShow b).wri BANK_EVT_CASELIM b 1).thermalShed b true cur trips)) ∧
  (∀ (s : State) (b : Nat) (t1 t2 : Int) (cur : List Nat) (trips : List (Nat × Nat)),
    ((s.dev.rdi BANK_CFG_CASEMAX b * 8 : Nat) : Int) < t1 →
    ((s.dev.rdi BANK_CFG_CASEMAX b * 8 : Nat) : Int) < t2 → (s.dev.bk b).caseBroken = false →
    Gives (.caseLimit b t1 t2 cur trips) s
      (((((s.dev.setBk b { s.dev.bk b with caseBroken := true }).thermShow b).wri BANK_EVT_CASELIM b 1).bankRec b 0x0429
        [b]).thermalShed b true cur trips)) ∧
  (∀ (s : State) (b : Nat) (cur : List Nat) (trips : List (Nat × Nat)), s.dev.flagi BANK_STAT_THERMLIM b = true →
    Gives (.thermalShed b cur trips) s
      ((s.dev.setBk b { s.dev.bk b with thermWait := false }).thermalShed b true cur trips)) ∧
  (∀ (s : State) (b : Nat) (cur : List Nat), s.dev.flagi BANK_STAT_THERMLIM b = false →
    Gives (.thermalShed b cur []) s (s.dev.setBk b { s.dev.bk b with thermWait := false })) ∧
  (∀ (s : State) (b femto : Nat) (cur : List (List Nat)) (tj : List Int), (femto : Int) = (List.range 16).foldl (fun (t : Int) i =>
      t + (((cur.getD i []).take 100).map fun x => x * x).sum * s.dev.onResistance (b * 16 + i) (tj.getD i 200)) 0 →
    femto % 10 ^ 11 = 0 →
    (((300000 + femto / 10 ^ 11) :: (s.dev.bk b).pRing).take 1000).foldl (· + ·) 0 +
      (1000 - (((300000 + femto / 10 ^ 11) :: (s.dev.bk b).pRing).take 1000).length) * 300000 ≤
      s.dev.rdi BANK_CFG_PDMAX b * 100000 * 1000 →
    Ends (.dissipationEstimate b cur tj []) s fun d =>
      (d.bk b).pRing = ((300000 + femto / 10 ^ 11) :: (s.dev.bk b).pRing).take 1000 ∧ (d.bk b).pdBroken = false ∧
      d.rdi BANK_STAT_THERMLIM b = b2n (s.dev.bk b).caseBroken ∧
      s.dev.regsBut d [(BANK_PDISS_PMS, b), (BANK_PDISS_PMEAN, b), (BANK_STAT_THERMLIM, b)]) ∧
  (∀ (s : State) (m k spare : Nat), m % 16 < 2 → s.dev.chState m = chON → (s.dev.ch m).output = true →
    s.dev.flagi CH_STAT_LIMITING m = false → s.dev.cellMap m = 0 → 2000 ≤ k →
    Gives (.cellTest m [k, k, k, k] spare) s s.dev) ∧
  (∀ (s : State) (m k spare : Nat), m % 16 < 2 → s.dev.chState m = chON → (s.dev.ch m).output = true →
    s.dev.flagi CH_STAT_LIMITING m = false → s.dev.cellMap m = 0 → 3000 ≤ k →
    s.dev.fwFires (.cell m 0) (s.dev.rdi BANK_CFG_CELLTH (bankOf m)) = false →
    Gives (.cellTest m [0, k, k, k] spare) s (s.dev.fwEvent (.cell m 0) (s.dev.rdi BANK_CFG_CELLTH (bankOf m))))

/-- R20, R21, R246, R277, R313, R316, R325, R326: what the keeper receives and counts: frames, silence, hold timers, pick marks. -/
def Obligations.KeeperLinkCommands : Prop :=
  (∀ (s : State) (b : Nat), s.dev.bankFitted b = true → (s.dev.bk b).keeperOn = true → s.dev.flagi BANK_STAT_LINK b = false →
    Gives (.commandFrameReceived b true) s ((s.dev.takeFrame b (s.dev.bk b).lastFrame).handOverEnd b)) ∧
  (∀ (s : State) (b : Nat), s.dev.bankFitted b = true → (s.dev.bk b).keeperOn = true → s.dev.flagi BANK_STAT_LINK b = true →
    Gives (.commandFrameReceived b true) s ((((s.dev.wri BANK_STAT_LINK b 0).readLog b).takeFrame b
      (((s.dev.wri BANK_STAT_LINK b 0).readLog b).bk b).lastFrame).handOverEnd b)) ∧
  (∀ (s : State) (b : Nat), s.dev.bankFitted b = true → (s.dev.bk b).keeperOn = true →
    Gives (.commandFrameReceived b false) s (s.dev.frameLost b)) ∧
  (∀ (s : State) (b : Nat), s.dev.bankFitted b = true → (s.dev.bk b).keeperOn = true →
    Ends (.commandFrameReceived b true) s fun d => d.rdi BANK_STAT_LINK b = 0 ∧
      (d.bk b).log = (if s.dev.flagi BANK_STAT_LINK b then [] else (s.dev.bk b).log) ∧ (d.bk b).pickCount = (s.dev.bk b).pickCount) ∧
  (∀ (s : State) (b m w : Nat), s.dev.bankFitted b = true → (s.dev.bk b).keeperOn = true → s.dev.flagi BANK_STAT_LINK b = false →
    m ∈ s.dev.shList b → s.dev.chLead m = m → s.dev.chUsed m = true → (s.dev.ch m).manual = false → s.dev.replaced m = false →
    ((s.dev.bk b).lastFrame.getD (m % 16) {}).assert = true → w = ((s.dev.bk b).lastFrame.getD (m % 16) {}).cmd → w < 32 → w % 4 < 2 →
    Ends (.commandFrameReceived b true) s fun d => ∀ k ∈ s.dev.chMembers m, d.rdi CH_CMD k = w) ∧
  (∀ (s : State) (b : Nat), s.dev.bankFitted b = true → (s.dev.bk b).keeperOn = true →
    Ends (.commandFrameReceived b false) s fun d =>
      d.rdi BANK_LINKERR_CRCERR b = min (s.dev.rdi BANK_LINKERR_CRCERR b + 1) (2 ^ BANK_LINKERR_CRCERR.width - 1) ∧
      d.chan = s.dev.chan ∧ d.trd = s.dev.trd ∧ (d.bk b).pickCount = (s.dev.bk b).pickCount) ∧
  (∀ (s : State) (b : Nat), Sys2Proof.Machine.exec (.linkHeartbeat b) s = .next s) ∧
  (∀ (s : State) (b : Nat), s.dev.bankFitted b = true → (s.dev.bk b).keeperOn = true → Gives (.linkSilence b) s (s.dev.handOver b)) ∧
  (∀ (s : State) (b : Nat), s.dev.bankFitted b = true → (s.dev.bk b).keeperOn = true → s.dev.flagi BANK_STAT_LINK b = false →
    Ends (.linkSilence b) s fun d => d.rdi BANK_STAT_LINK b = 1 ∧ d.rdi BANK_EVT_HOLD b = 1 ∧ (d.bk b).resumed = false ∧
      ∀ m ∈ bankChans b, s.dev.chLead m = m → s.dev.chUsed m = true →
        d.bit BANK_HOLD_HOLDING b (m % 16) = true ∨ d.bit BANK_HOLD_FAILED b (m % 16) = true) ∧
  (∀ (s : State) (b : Nat), s.dev.flagi BANK_STAT_LINK b = true →
    Sys2Proof.Machine.exec (.linkSilence b) s = .next s) ∧
  (∀ (s : State) (m : Nat), (s.dev.ch m).holdRun = true → Gives (.holdExpiry m) s (s.dev.holdFail m)) ∧
  (∀ (s : State) (m : Nat), (s.dev.ch m).holdRun = true →
    Ends (.holdExpiry m) s fun d => (d.ch m).holdRun = false ∧ d.rdi BANK_EVT_FAIL (bankOf m) = 1 ∧
      ∀ k ∈ s.dev.chMembers m, d.bit BANK_HOLD_HOLDING (bankOf m) (k % 16) = false ∧
        d.bit BANK_HOLD_FAILED (bankOf m) (k % 16) = true) ∧
  (∀ (s : State) (m : Nat), (s.dev.ch m).holdRun = false → Sys2Proof.Machine.exec (.holdExpiry m) s = .next s) ∧
  (∀ (s : State) (b ns : Nat) (atMark atMid : List Sense) (case vsup : Nat), s.dev.bankFitted b = true → (s.dev.bk b).keeperOn = true →
    Gives (.pickMark b ns atMark atMid case vsup) s ((s.dev.convert b ns atMark atMid case vsup).keeperPick b)) ∧
  (∀ (s : State) (b ns : Nat) (atMark atMid : List Sense) (case vsup : Nat), s.dev.bankFitted b = true → (s.dev.bk b).keeperOn = true →
    (s.dev.bk b).converted = true → (s.dev.bk b).convAgo.all (fun t => decide (10000 ≤ t + ns)) = true →
    Ends (.pickMark b ns atMark atMid case vsup) s fun d => (d.bk b).pickCount = (s.dev.bk b).pickCount + 1 ∧
      (d.bk b).retVsup = s.dev.rdi BANK_VSUP_VOLT b ∧ d.rdi BANK_VSUP_VOLT b = vsup % 2 ^ BANK_VSUP_VOLT.width ∧
      ∀ m ∈ bankChans b, (d.ch m).retI = s.dev.rdi CH_ISENSE_CODE m ∧ (d.ch m).retV = s.dev.rdi CH_VSENSE_CODE m ∧
        d.rdi CH_ISENSE_CODE m =
          ((if s.dev.senseMid m then atMid else atMark).getD (m % 16) {}).i % 2 ^ CH_ISENSE_CODE.width) ∧
  (∀ (s : State) (b ns : Nat) (atMark atMid : List Sense) (case vsup : Nat), s.dev.bankFitted b = true → (s.dev.bk b).keeperOn = true →
    (s.dev.bk b).convAgo.all (fun t => decide (10000 ≤ t + ns)) = false →
    Ends (.pickMark b ns atMark atMid case vsup) s fun d => (d.bk b).pickCount = (s.dev.bk b).pickCount + 1 ∧
      d.rdi BANK_VSUP_VOLT b = s.dev.rdi BANK_VSUP_VOLT b ∧
      ∀ m ∈ bankChans b, d.rdi CH_ISENSE_CODE m = s.dev.rdi CH_ISENSE_CODE m) ∧
  (∀ (s : State) (b : Nat), s.dev.flagi BANK_STAT_LINK b = true → Gives (.ownOscillatorPick b) s (s.dev.keeperPick b)) ∧
  (∀ (s : State) (b : Nat), s.dev.flagi BANK_STAT_LINK b = true →
    Ends (.ownOscillatorPick b) s fun d => (d.bk b).pickCount = (s.dev.bk b).pickCount + 1 ∧ d.rdi BANK_STAT_LINK b = 1 ∧
      ∀ m ∈ bankChans b, d.rdi CH_ISENSE_CODE m = s.dev.rdi CH_ISENSE_CODE m) ∧
  (∀ (s : State) (b : Nat), s.dev.flagi BANK_STAT_LINK b = false → Sys2Proof.Machine.exec (.ownOscillatorPick b) s = .next s)

/-- R242, R243, R249 to R258, R272: PWM periods, the inrush window and the limiter of a channel. -/
def Obligations.ChannelOutputCommands : Prop :=
  (∀ (s : State) (m : Nat), s.dev.pwmRuns m = true →
    Gives (.pwmPeriodStart m) s (s.dev.each (s.dev.chMembers m) Dev.periodBegin)) ∧
  (∀ (s : State) (m : Nat), s.dev.pwmRuns m = true →
    Ends (.pwmPeriodStart m) s fun d => ∀ k ∈ s.dev.chMembers m, (d.ch k).pwmNext = none ∧ (d.ch k).periodOn = true ∧
      ((d.ch k).output = true ↔ d.chHighNow k ≠ 0) ∧
      d.rdi CH_CMD_DUTY k = (((s.dev.ch k).pwmNext.map fun p => p.1 % 2 ^ 16).getD (s.dev.rdi CH_CMD_DUTY k)) ∧
      d.rdi CH_PWMPER_PERIOD k = (((s.dev.ch k).pwmNext.map fun p => p.2 % 2 ^ 24).getD (s.dev.rdi CH_PWMPER_PERIOD k))) ∧
  (∀ (s : State) (m : Nat), s.dev.pwmRuns m = true → (s.dev.ch m).output = true →
    s.dev.chHigh m (s.dev.rdi CH_CMD_DUTY m) (s.dev.rdi CH_PWMPER_PERIOD m) < s.dev.rdi CH_PWMPER_PERIOD m →
    Ends (.pwmHighTimeEnd m) s fun d =>
      (∀ k ∈ s.dev.chMembers m, d.rdi CH_STAT_LIMITING k = 0 ∧ d.ch k = { s.dev.ch k with
        output := false, onReg := false, dwellRun := (s.dev.ch k).dwellRun && ((s.dev.ch k).onReg || !(s.dev.ch k).output) }) ∧
      (∀ k, k ∉ s.dev.chMembers m → d.ch k = s.dev.ch k) ∧ { d with regs := s.dev.regs, chan := s.dev.chan } = s.dev ∧
      s.dev.regsBut d ((s.dev.chMembers m).map fun k => (CH_STAT_LIMITING, k))) ∧
  (∀ (s : State) (m k phase duty period : Nat), s.dev.chLead m = m → k ∈ s.dev.chMembers m →
    (s.dev.ch k).restart = some (phase, duty, period) → s.dev.chMode k ≠ 2 →
    Ends (.pwmRestart m) s fun d => d.rdi CH_CMD_DUTY k = duty % 2 ^ 16 ∧ d.rdi CH_PWMPER_PERIOD k = period % 2 ^ 24 ∧
      (d.ch k).restart = none ∧ (d.ch k).pwmNext = none ∧ (d.ch k).periodOn = false ∧ (d.ch k).output = (s.dev.ch k).output ∧
      (∀ j, j ∉ s.dev.chMembers m → d.ch j = s.dev.ch j)) ∧
  (∀ (s : State) (m : Nat), s.dev.chState m = 2 → (s.dev.ch m).winOpen = true → s.dev.flagi CH_STAT_LIMITING m = false →
    Ends (.inrushWindowEnd m) s fun d => d.chState m = 3 ∧ d.ch m = { s.dev.ch m with winOpen := false } ∧
      { d with regs := s.dev.regs, chan := s.dev.chan } = s.dev ∧ s.dev.regsBut d [(CH_STAT_STATE, m)]) ∧
  (∀ (s : State) (m : Nat), s.dev.chState m = 2 → (s.dev.ch m).winOpen = true → s.dev.flagi CH_STAT_LIMITING m = true →
    Ends (.inrushWindowEnd m) s fun d => d.chState m = 3 ∧ d.ch m = { s.dev.ch m with winOpen := false, dwellRun := true } ∧
      d.rdi BANK_STAT_SHORTEV (bankOf m) = 1 ∧
      { d with regs := s.dev.regs, chan := s.dev.chan } = s.dev ∧ s.dev.regsBut d [(CH_STAT_STATE, m), (BANK_STAT_SHORTEV, bankOf m)]) ∧
  (∀ (s : State) (m cur : Nat), s.dev.chState m = 3 → (s.dev.ch m).output = true →
    (4 - s.dev.rdi CH_CMD m / 4 % 4) * (if s.dev.threeCells m then min (s.dev.rdi CH_LIM_LIMIT m) 300 else s.dev.rdi CH_LIM_LIMIT m) *
      25 < cur →
    Ends (.limiterRegulate m cur) s fun d => d.rdi CH_STAT_LIMITING m = 1 ∧ d.rdi BANK_STAT_SHORTEV (bankOf m) = 1 ∧
      d.ch m = { s.dev.ch m with onReg := true, dwellRun := true } ∧ { d with regs := s.dev.regs, chan := s.dev.chan } = s.dev ∧
      s.dev.regsBut d [(CH_STAT_LIMITING, m), (BANK_STAT_SHORTEV, bankOf m)]) ∧
  (∀ (s : State) (m cur : Nat), s.dev.chState m = 2 → (s.dev.ch m).output = true → (s.dev.ch m).winOpen = true →
    4 * (if s.dev.threeCells m then min (s.dev.rdi CH_INRUSH_ILIM m) 900 else s.dev.rdi CH_INRUSH_ILIM m) * 25 < cur →
    Ends (.limiterRegulate m cur) s fun d => d.rdi CH_STAT_LIMITING m = 1 ∧ d.ch m = { s.dev.ch m with onReg := true } ∧
      { d with regs := s.dev.regs, chan := s.dev.chan } = s.dev ∧ s.dev.regsBut d [(CH_STAT_LIMITING, m)]) ∧
  (∀ (s : State) (m cur : Nat), cur ≤ s.dev.limitNow m * 25 →
    Sys2Proof.Machine.exec (.limiterRegulate m cur) s = .next s) ∧
  (∀ (s : State) (m cur : Nat), cur < s.dev.limitNow m * 25 →
    Ends (.regulationEnd m cur) s fun d => d.rdi CH_STAT_LIMITING m = 0 ∧
      d.ch m = { s.dev.ch m with dwellRun := (s.dev.ch m).dwellRun && s.dev.chMode m == 2 } ∧
      { d with regs := s.dev.regs, chan := s.dev.chan } = s.dev ∧ s.dev.regsBut d [(CH_STAT_LIMITING, m)])

/-- R253, R258, R260 to R265, R273: trips, the wire and pin models, and recovery. -/
def Obligations.ChannelTripCommands : Prop :=
  (∀ (s : State) (m run : Nat) (same : List Nat), s.dev.chState m = 3 → (s.dev.ch m).dwellRun = true →
    s.dev.rdi CH_LIM_DWELL m ≤ run → Gives (.dwellTrip m run same) s (s.dev.chTrip m (firstCause 1 same) 0)) ∧
  (∀ (s : State) (m run : Nat), s.dev.chState m = 3 → (s.dev.ch m).dwellRun = true → s.dev.rdi CH_LIM_DWELL m ≤ run →
    Ends (.dwellTrip m run []) s fun d => ∀ k ∈ s.dev.chMembers (s.dev.chLead m), (d.ch k).output = false ∧
      d.rdi CH_STAT_CAUSE k = (if k = m then 1 else 5) ∧ d.rdi CH_EVT_TRIP k = 1 ∧
      d.chState k = (if s.dev.fwFires (.channel (s.dev.chLead m)) (s.dev.rdi CH_FAULT_THRESH (s.dev.chLead m)) then 5 else 4)) ∧
  (∀ (s : State) (m run : Nat) (same : List Nat), run < s.dev.rdi CH_LIM_DWELL m →
    Sys2Proof.Machine.exec (.dwellTrip m run same) s = .next s) ∧
  (∀ (s : State) (m : Nat) (d0 d1 d2 : Int) (same : List Nat), s.dev.chLive m = true →
    d0 ≤ (s.dev.rdi CH_THERM_DTMAX m * 8 : Nat) → (s.dev.rdi CH_THERM_DTMAX m * 8 : Nat) < d1 →
    (s.dev.rdi CH_THERM_DTMAX m * 8 : Nat) < d2 →
    Gives (.dtTrip m d0 d1 d2 same) s (s.dev.chTrip m (firstCause 2 same) 0)) ∧
  (∀ (s : State) (m : Nat) (t0 t1 t2 : Int) (same : List Nat), s.dev.chLive m = true → t0 < 1400 → 1400 ≤ t1 → 1400 ≤ t2 →
    Gives (.tjTrip m t0 t1 t2 same) s (s.dev.chTrip m 3 0)) ∧
  (∀ (s : State) (m : Nat) (t0 t1 t2 : Int) (same : List Nat),
    (s.dev.chState m = 1 ∨ s.dev.chState m = 4 ∨ s.dev.chState m = 5) → t0 < 1400 → 1400 ≤ t1 → 1400 ≤ t2 →
    Gives (.tjTrip m t0 t1 t2 same) s (s.dev.tjIdle m)) ∧
  (∀ (s : State) (m : Nat) (t0 t1 t2 d0 d1 d2 : Int) (same : List Nat), (s.dev.chState m = 0 ∨ s.dev.chState m = 6) →
    Gives (.tjTrip m t0 t1 t2 same) s s.dev ∧ Gives (.dtTrip m d0 d1 d2 same) s s.dev) ∧
  (∀ (s : State) (m q : Nat) (cur : List (List Nat)) (same : List Nat), s.dev.chLead m ≠ m → s.dev.rdi CH_WIREST_LEVEL m < 24576 →
    s.dev.chLive m = false → (((groupSamples cur [m]).map fun i => i * i).sum * 2 ^ 20) % 10 ^ 8 = 0 →
    q = (((groupSamples cur [m]).map fun i => i * i).sum * 2 ^ 20) / 10 ^ 8 → ((s.dev.ch m).pinW * 9999 + q) % 10000 = 0 →
    Ends (.wireModelUpdate m cur same) s fun d =>
      (d.ch m).pinW = min (2 ^ 40 - 1) (((s.dev.ch m).pinW * 9999 + q) / 10000) ∧ (d.ch m).w = (s.dev.ch m).w ∧
      d.rdi CH_WIREST_LEVEL m = s.dev.rdi CH_WIREST_LEVEL m ∧ d.rdi CH_WIREST_PINLEVEL m = pinLevel (d.ch m).pinW (pinCap m) ∧
      d.rdi CH_STAT_WARN m = 0 ∧ s.dev.regsBut d [(CH_WIREST_LEVEL, m), (CH_WIREST_PINLEVEL, m), (CH_STAT_WARN, m)]) ∧
  (∀ (s : State) (m q tau : Nat) (cur : List (List Nat)) (same : List Nat), s.dev.chLead m = m → s.dev.chLive m = false →
    tau = s.dev.rdi CH_WIRE_TAU m → tau ≠ 0 → s.dev.irated m ≠ 0 →
    (((groupSamples cur (s.dev.chMembers m)).map fun i => i * i).sum * 2 ^ 20) % 10 ^ 8 = 0 →
    q = (((groupSamples cur (s.dev.chMembers m)).map fun i => i * i).sum * 2 ^ 20) / 10 ^ 8 →
    ((s.dev.ch m).w * (100 * tau - 1) + q) % (100 * tau) = 0 →
    Ends (.wireModelUpdate m cur same) s fun d =>
      (d.ch m).w = min (2 ^ 40 - 1) (((s.dev.ch m).w * (100 * tau - 1) + q) / (100 * tau)) ∧
      d.rdi CH_WIREST_LEVEL m = wireLevel (d.ch m).w (s.dev.irated m) ∧ d.chState m = s.dev.chState m) ∧
  (∀ (s : State) (m l ms : Nat) (tj dt : List Int), l = s.dev.chLead m → s.dev.chState l = 4 → s.dev.rdi CH_FAULT_RETRY l ≤ ms →
    (s.dev.chMembers l).all (fun k => s.dev.recovered k (tj.getD (k % 16) 0) (dt.getD (k % 16) 0)) = true →
    s.dev.chMode l ≠ 0 → s.dev.flagi CH_STAT_NEEDOFF l = false →
    Gives (.coolRecovery m ms tj dt) s ((s.dev.setCh l { s.dev.ch l with retryRun := false }).startDue l)) ∧
  (∀ (s : State) (m l ms : Nat) (tj dt : List Int), l = s.dev.chLead m → s.dev.chState l = 4 → s.dev.rdi CH_FAULT_RETRY l ≤ ms →
    (s.dev.chMembers l).all (fun k => s.dev.recovered k (tj.getD (k % 16) 0) (dt.getD (k % 16) 0)) = true →
    s.dev.chMode l = 0 →
    Gives (.coolRecovery m ms tj dt) s ((s.dev.setCh l { s.dev.ch l with retryRun := false }).each (s.dev.chMembers l) fun d k =>
      (d.wri CH_STAT_STATE k 0).chIdle k)) ∧
  (∀ (s : State) (m ms : Nat) (tj dt : List Int), ms < s.dev.rdi CH_FAULT_RETRY (s.dev.chLead m) →
    Sys2Proof.Machine.exec (.coolRecovery m ms tj dt) s = .next s)

/-- R253, R269, R279 to R281, R294: the owner's latch clear, the open-load test, and manual drive. -/
def Obligations.ChannelOwnerCommands : Prop :=
  (∀ (s : State) (init m value l : Nat), s.dev.portOpen init = true → s.dev.domainOn 2 = true → s.dev.bankFitted (bankOf m) = true → s.dev.tag init = s.dev.rdi CH_OWNER m → s.dev.tag init ≠ 0xFFFF →
    s.dev.ctxBarred (s.dev.tag init) = false → l = s.dev.chLead m → value % 2 = 1 → s.dev.chState l = 5 →
    Gives (.latchClear init m value) s
      ((((((s.dev.answered 0).fwClear (.channel l)).each (((s.dev.answered 0).fwClear (.channel l)).chMembers l) fun d k =>
        (d.wri CH_STAT_NEEDOFF k 1).wri CH_STAT_STATE k 4).bankRec (bankOf m) 0x0415 [l])).answered 0)) ∧
  (∀ (s : State) (init m value : Nat), s.dev.portOpen init = true → s.dev.domainOn 2 = true → s.dev.bankFitted (bankOf m) = true →
    (s.dev.tag init ≠ s.dev.rdi CH_OWNER m ∨ s.dev.tag init = 0xFFFF ∨ s.dev.ctxBarred (s.dev.tag init) = true) →
    Gives (.latchClear init m value) s (((s.dev.answered 0).refuse (s.dev.tag init) BANK_ACCERR_ACC_ERR (bankOf m)).answered 0)) ∧
  (∀ (s : State) (init m value cmd : Nat), s.dev.portOpen init = true → s.dev.domainOn 2 = true → s.dev.bankFitted (bankOf m) = false →
    Gives (.latchClear init m value) s (s.dev.answered 0) ∧ Gives (.manualDrive init m cmd) s (s.dev.answered 0) ∧
    Gives (.manualDriveEnd init m cmd) s (s.dev.answered 0)) ∧
  (∀ (s : State) (m mv : Nat), (s.dev.ch m).pullUp = true → s.dev.olThreshold m < mv →
    Gives (.openLoadFilterEnd m mv) s (s.dev.setCh m { s.dev.ch m with pullUp := false, compare := true })) ∧
  (∀ (s : State) (m mv : Nat), (s.dev.ch m).pullUp = true → mv ≤ s.dev.olThreshold m →
    Ends (.openLoadFilterEnd m mv) s fun d => d.rdi CH_STAT_OPEN m = 0 ∧ d.rdi CH_STAT_STB m = 0 ∧
      d.ch m = { s.dev.ch m with pullUp := s.dev.rdi CH_CFG_OLMODE m == 1 } ∧
      { d with regs := s.dev.regs, chan := s.dev.chan } = s.dev ∧ s.dev.regsBut d [(CH_STAT_OPEN, m), (CH_STAT_STB, m)]) ∧
  (∀ (s : State) (m mv : Nat), (s.dev.ch m).compare = true → mv < s.dev.olThreshold m →
    Gives (.openLoadCompare m mv) s ((((s.dev.setCh m
      { s.dev.ch m with compare := false, pullUp := s.dev.rdi CH_CFG_OLMODE m == 1 }).wri CH_STAT_OPEN m 1).wri CH_EVT_OPEN m 1).bankRec
      (bankOf m) 0x0416 [m])) ∧
  (∀ (s : State) (m mv : Nat), (s.dev.ch m).compare = true → s.dev.olThreshold m ≤ mv →
    Gives (.openLoadCompare m mv) s ((((s.dev.setCh m
      { s.dev.ch m with compare := false, pullUp := s.dev.rdi CH_CFG_OLMODE m == 1 }).wri CH_STAT_STB m 1).wri CH_EVT_STB m 1).bankRec
      (bankOf m) 0x0417 [m])) ∧
  (∀ (s : State) (init m cmd : Nat), s.dev.portOpen init = true → s.dev.domainOn 2 = true → s.dev.bankFitted (bankOf m) = true → s.dev.manAllowed (s.dev.tag init) m = true →
    Gives (.manualDrive init m cmd) s (((s.dev.answered 0).manWrite m 1 cmd).answered 0) ∧
    Gives (.manualDriveEnd init m cmd) s (((s.dev.answered 0).manWrite m 0 cmd).answered 0)) ∧
  (∀ (s : State) (init m cmd : Nat), s.dev.portOpen init = true → s.dev.domainOn 2 = true → s.dev.bankFitted (bankOf m) = true → s.dev.manAllowed (s.dev.tag init) m = false →
    Gives (.manualDrive init m cmd) s (((s.dev.answered 0).refuse (s.dev.tag init) BANK_ACCERR_ACC_ERR (bankOf m)).answered 0) ∧
    Gives (.manualDriveEnd init m cmd) s (((s.dev.answered 0).refuse (s.dev.tag init) BANK_ACCERR_ACC_ERR (bankOf m)).answered 0)) ∧
  (∀ (s : State) (m : Nat), Gives (.manualLeaseExpiry m false) s (s.dev.manEnd (s.dev.chLead m)) ∧
    Sys2Proof.Machine.exec (.manualLeaseExpiry m true) s = .next s)

/-- R341, R343, R349, R358, R361, R370, R381: what a CAN controller receives, and what a context does with its software-fed
buffers. -/
def Obligations.CanBufferCommands : Prop :=
  (∀ (s : State) (c : Nat) (f : CanFrame), (s.dev.rdi CAN_STAT_STATE c = 2 ∨ s.dev.rdi CAN_STAT_STATE c = 3) →
    (s.dev.canCtl c).ignore = false → (s.dev.canCtl c).leaving = false → f.res = false → f.form = 0 → f.err = none →
    Gives (.canFrameReceived c f) s (((s.dev.canRecDown c).canReference c f).canTake c f)) ∧
  (∀ (s : State) (c n : Nat) (f : CanFrame), (s.dev.rdi CAN_STAT_STATE c = 2 ∨ s.dev.rdi CAN_STAT_STATE c = 3) →
    (s.dev.canCtl c).ignore = false → (s.dev.canCtl c).leaving = false → f.res = false → f.form = 0 → f.err = some n →
    s.dev.flagi CAN_MODE_LOM c = false → s.dev.rdi CAN_ERRCNT_REC c + 1 + 8 * n ≤ 127 → s.dev.rdi CAN_ERRCNT_TEC c ≤ 127 →
    s.dev.rdi CAN_STAT_STATE c = 2 →
    Ends (.canFrameReceived c f) s fun d => d.rdi CAN_ERRCNT_REC c = s.dev.rdi CAN_ERRCNT_REC c + 1 + 8 * n ∧
      s.dev.onlyRegs d [(CAN_ERRCNT_REC, c)]) ∧
  (∀ (s : State) (c : Nat) (f : CanFrame), (s.dev.rdi CAN_STAT_STATE c = 2 ∨ s.dev.rdi CAN_STAT_STATE c = 3) →
    (s.dev.canCtl c).ignore = false → (s.dev.canCtl c).leaving = false → f.form = 1 → s.dev.flagi CAN_MODE_FDOE c = false →
    Gives (.canFrameReceived c f) s (s.dev.canException c f)) ∧
  (∀ (s : State) (init c mask : Nat), s.dev.portOpen init = true → s.dev.domainOn 13 = true → s.dev.ctxBarred (s.dev.tag init) = false →
    (∀ b, b ∈ bufsOf mask → s.dev.canSoftware (s.dev.tag init) c b = true) → s.dev.flagi CAN_MODE_LOM c = false →
    Gives (.canTxstart init c mask) s (((s.dev.answered 0).each (bufsOf mask) fun d b => d.canStart c b).answered 0)) ∧
  (∀ (s : State) (init c mask b : Nat), s.dev.portOpen init = true → s.dev.domainOn 13 = true → s.dev.ctxBarred (s.dev.tag init) = false →
    b ∈ bufsOf mask → s.dev.canSoftware (s.dev.tag init) c b = false → s.dev.flagi CAN_MODE_LOM c = false →
    Gives (.canTxstart init c mask) s ((((s.dev.answered 0).each
      ((bufsOf mask).filter fun k => s.dev.canSoftware (s.dev.tag init) c k) fun d k => d.canStart c k).refuse
        (s.dev.tag init) CAN_ACCERR_ACC_ERR c).answered 0)) ∧
  (∀ (s : State) (init c mask : Nat), s.dev.portOpen init = true → s.dev.domainOn 13 = true → s.dev.ctxBarred (s.dev.tag init) = false →
    (∀ b, b ∈ bufsOf mask → s.dev.canSoftware (s.dev.tag init) c b = true) →
    Gives (.canTxcan init c mask) s (((s.dev.answered 0).each (bufsOf mask) fun d b => d.canCancel c b).answered 0)) ∧
  (∀ (s : State) (init c mask b : Nat), s.dev.portOpen init = true → s.dev.domainOn 13 = true → s.dev.ctxBarred (s.dev.tag init) = false →
    b ∈ bufsOf mask → s.dev.canSoftware (s.dev.tag init) c b = false →
    Gives (.canTxcan init c mask) s ((((s.dev.answered 0).each
      ((bufsOf mask).filter fun k => s.dev.canSoftware (s.dev.tag init) c k) fun d k => d.canCancel c k).refuse
        (s.dev.tag init) CAN_ACCERR_ACC_ERR c).answered 0)) ∧
  (∀ (s : State) (init c k off : Nat) (data : List Byte), s.dev.portOpen init = true → s.dev.domainOn 13 = true → s.dev.ctxBarred (s.dev.tag init) = false →
    s.dev.canSoftware (s.dev.tag init) c k = true → (s.dev.canBuf c k).st = .idle →
    Ends (.canBufferWrite init c k off data) s fun d => d.access = {} ∧ { d with trd := s.dev.trd, access := s.dev.access } = s.dev ∧
      (d.txObj (canObj c k)).held = true ∧
      (∀ i, i < 64 → (d.txObj (canObj c k)).payload.getD i 0 =
        if off ≤ i ∧ i < off + data.length then data.getD (i - off) 0 else (padTo 64 (s.dev.txObj (canObj c k)).payload).getD i 0) ∧
      (∀ o, o ≠ canObj c k → d.txObj o = s.dev.txObj o)) ∧
  (∀ (s : State) (init c k off : Nat) (data : List Byte), s.dev.portOpen init = true → s.dev.domainOn 13 = true →
    (s.dev.canSoftware (s.dev.tag init) c k = false ∨ (s.dev.canBuf c k).st ≠ .idle) →
    Gives (.canBufferWrite init c k off data) s
      (((s.dev.answered 0).refuse (s.dev.tag init) CAN_ACCERR_ACC_ERR c).answered 0))

/-- R346, R360, R361, R366 to R369: arbitration, acknowledgement and errors of a frame, and recovery from bus-off. -/
def Obligations.CanFrameCommands : Prop :=
  (∀ (s : State) (c b delay : Nat), s.dev.canRefuses c = false → s.dev.canFirst c = some b → (s.dev.canCtl c).ignore = false →
    ((s.dev.canCtl c).bufs.items.any fun e => e.2.st == .onBus) = false → s.dev.rdi CAN_TDC_TDCE c = 0 →
    Ends (.canArbitrationWon c b delay) s fun d => d.out = s.dev.out ++ [s.dev.canOut c b (s.dev.canFrame c b)] ∧
      d.canBuf c b = { st := .onBus, latched := s.dev.canFrame c b } ∧
      (d.txObj (canObj c b)).ready = false ∧ (d.txObj (canObj c b)).payload = (s.dev.txObj (canObj c b)).payload) ∧
  (∀ (s : State) (c b delay : Nat), s.dev.canRefuses c = false → s.dev.canFirst c = some b → (s.dev.canCtl c).ignore = false →
    ((s.dev.canCtl c).bufs.items.any fun e => e.2.st == .onBus) = false → s.dev.rdi CAN_TDC_TDCE c = 1 →
    s.dev.rdi CAN_TXCFG_FORM (c * 32 + b) = 4 → delay < 256 → max delay (s.dev.rdi CAN_TDC_TDCF c) + s.dev.rdi CAN_TDC_TDCO c ≤ 3 * s.dev.canDataBit c →
    Ends (.canArbitrationWon c b delay) s fun d => d.out = s.dev.out ++ [s.dev.canOut c b (s.dev.canFrame c b)] ∧
      d.canBuf c b = { st := .onBus, latched := s.dev.canFrame c b } ∧
      d.rdi CAN_TDCVAL_DELAY c = max delay (s.dev.rdi CAN_TDC_TDCF c) ∧ d.rdi CAN_ERRCNT_TEC c = s.dev.rdi CAN_ERRCNT_TEC c) ∧
  (∀ (s : State) (c b : Nat), (s.dev.canBuf c b).st = .onBus →
    Gives (.canTxError c b true false) s ((s.dev.setCanBuf c b { st := .pending }).canAfterFrame c)) ∧
  (∀ (s : State) (c b : Nat), (s.dev.canBuf c b).st = .onBus → (s.dev.canCtl c).leaving = false →
    Ends (.canTxError c b true false) s fun d => d.canBuf c b = { st := .pending } ∧
      (∀ k, k ≠ b → d.canBuf c k = s.dev.canBuf c k) ∧ s.dev.regsBut d [(CAN_TXPEND_BUFS, c)]) ∧
  (∀ (s : State) (c b : Nat) (ref : Bool), (s.dev.canBuf c b).st = .onBus →
    Gives (.canTxError c b false ref) s (((s.dev.setCanBuf c b { st := .pending }).canTecUp c).canAfterFrame c)) ∧
  (∀ (s : State) (c b : Nat) (ref : Bool), (s.dev.canBuf c b).st = .onBus → (s.dev.canCtl c).leaving = false →
    s.dev.rdi CAN_ERRCNT_TEC c ≤ 247 →
    Ends (.canTxError c b false ref) s fun d => d.canBuf c b = { st := .pending } ∧
      d.rdi CAN_ERRCNT_TEC c = s.dev.rdi CAN_ERRCNT_TEC c + 8 ∧ d.rdi CAN_ERRCNT_REC c = s.dev.rdi CAN_ERRCNT_REC c) ∧
  (∀ (s : State) (c b : Nat), (s.dev.canBuf c b).st = .onBus → c < 26 → (s.dev.canCtl c).leaving = false →
    Ends (.canFrameAcked c b) s fun d => (d.canBuf c b).st = (if (s.dev.canBuf c b).resend then .pending else .idle) ∧
      d.rdi CAN_EVT_TXDONE c = 1 ∧ d.rdi CAN_ERRCNT_TEC c = s.dev.rdi CAN_ERRCNT_TEC c - 1 ∧ d.rdi CAN_STAT_NOPART c = 0) ∧
  (∀ (s : State) (c b : Nat), (s.dev.canBuf c b).st = .onBus → s.dev.rdi CAN_STAT_STATE c = 3 → s.dev.rdi CAN_NOPART_THRESH c = 0 →
    Gives (.canAckError c b false) s ((s.dev.setCanBuf c b { st := .pending }).canAfterFrame c)) ∧
  (∀ (s : State) (c b : Nat) (dom : Bool), (s.dev.canBuf c b).st = .onBus → b < 32 → c < 26 → s.dev.rdi CAN_STAT_STATE c = 2 →
    s.dev.rdi CAN_ERRCNT_TEC c ≤ 247 → (s.dev.canCtl c).leaving = false → s.dev.rdi CAN_NOPART_THRESH c ≠ 0 →
    s.dev.rdi CAN_STAT_NOPART c = 0 → s.dev.fwFires (.noPartner c) (s.dev.rdi CAN_NOPART_THRESH c) = true →
    (s.dev.canCtl c).ackAt ≠ some s.dev.now →
    Ends (.canAckError c b dom) s fun d => d.rdi CAN_ERRCNT_TEC c = s.dev.rdi CAN_ERRCNT_TEC c + 8 ∧
      d.rdi CAN_STAT_NOPART c = 1 ∧ d.rdi CAN_EVT_NOPART c = 1 ∧ d.rdi CAN_NPBUF_BUF c = b ∧
      (d.canBuf c b).st = (if s.dev.rdi CAN_NOPART_STOP c = 1 then .idle else .pending)) ∧
  (∀ (s : State) (c b : Nat) (dom : Bool), (s.dev.canBuf c b).st = .onBus → c < 26 → s.dev.rdi CAN_STAT_STATE c = 2 →
    s.dev.rdi CAN_ERRCNT_TEC c ≤ 247 → (s.dev.canCtl c).leaving = false → (s.dev.canCtl c).ackAt = some s.dev.now →
    Ends (.canAckError c b dom) s fun d => d.rdi CAN_ERRCNT_TEC c = s.dev.rdi CAN_ERRCNT_TEC c + 8 ∧
      d.rdi CAN_STAT_NOPART c = s.dev.rdi CAN_STAT_NOPART c ∧ (d.canBuf c b).st = .pending) ∧
  (∀ (s : State) (c : Nat), s.dev.rdi CAN_STAT_STATE c = 4 →
    Ends (.busOffDelayEnd c) s fun d => d.rdi CAN_STAT_STATE c = 5 ∧ s.dev.onlyRegs d [(CAN_STAT_STATE, c)]) ∧
  (∀ (s : State) (c : Nat), s.dev.rdi CAN_STAT_STATE c ≠ 4 → Sys2Proof.Machine.exec (.busOffDelayEnd c) s = .next s) ∧
  (∀ (s : State) (c : Nat), s.dev.rdi CAN_STAT_STATE c = 5 → c < 26 →
    Ends (.busOffRecovered c) s fun d => d.rdi CAN_STAT_STATE c = 2 ∧ d.rdi CAN_ERRCNT_TEC c = 0 ∧ d.rdi CAN_ERRCNT_REC c = 0 ∧
      d.rdi CAN_EVT_BOREC c = 1 ∧ d.can = s.dev.can ∧ d.mem = s.dev.mem)

/-- R386, R389, R392, R394, R397, R399, R407: slots, frames and the start-up of a time-triggered controller. -/
def Obligations.TimeTriggeredCommands : Prop :=
  (∀ (s : State) (t slot start til : Nat) (d : Dev), s.dev.rdi TT_STAT_STATE t = 2 → (s.dev.ttCtl t).leaving = false →
    d = s.dev.ttAt t slot →
    Gives (.ttSlotStart t slot start til) s (d.each ((List.range 256).filter fun k =>
      d.flagi TT_BUFCFG_STARTUP (t * 256 + k) && d.rdi TT_BUFCFG_KIND (t * 256 + k) == 1 &&
        d.rdi TT_BUFSLOT_SLOT (t * 256 + k) == slot) fun d k => d.ttSend t slot start til k)) ∧
  (∀ (s : State) (t slot start til : Nat) (d : Dev), s.dev.rdi TT_STAT_STATE t = 3 → (s.dev.ttCtl t).leaving = false →
    d = s.dev.ttAt t slot →
    (∀ k, k < 256 → d.rdi TT_BUFCFG_KIND (t * 256 + k) = 1 → d.rdi TT_BUFSLOT_SLOT (t * 256 + k) = slot →
      d.rdi TT_BUFCFG_STARTUP (t * 256 + k) = 0) →
    Gives (.ttSlotStart t slot start til) s
      (d.each (d.ttBufs t slot (s.dev.rdi TT_STAT_CYCLE t) [1]) fun d k => d.ttSend t slot start til k)) ∧
  (∀ (s : State) (t slot start til : Nat), s.dev.rdi TT_STAT_STATE t = 4 → (s.dev.ttCtl t).leaving = false →
    Ends (.ttSlotStart t slot start til) s fun d =>
      d.rdi TT_STAT_SLOT t = (if slot ≤ s.dev.rdi TT_SLOTCFG_NSTATIC t then slot % 2 ^ TT_STAT_SLOT.width else 0) ∧
      { d with regs := s.dev.regs, tt := s.dev.tt } = s.dev ∧ s.dev.regsBut d [(TT_STAT_SLOT, t)]) ∧
  (∀ (s : State) (t slot start til : Nat),
    (s.dev.rdi TT_STAT_STATE t = 2 ∨ s.dev.rdi TT_STAT_STATE t = 3 ∨ s.dev.rdi TT_STAT_STATE t = 4) →
    (s.dev.ttCtl t).leaving = true → Gives (.ttSlotStart t slot start til) s (s.dev.ttReady t)) ∧
  (∀ (s : State) (t : Nat) (f : TtFrame), (s.dev.rdi TT_STAT_STATE t = 2 ∨ s.dev.rdi TT_STAT_STATE t = 3 ∨ s.dev.rdi TT_STAT_STATE t = 4) →
    (s.dev.ttCtl t).leaving = false → f.a = none → f.b = none →
    Gives (.ttFrameReceived t f) s ((s.dev.ttAt t f.slot).each
      (s.dev.ttBufs t f.slot (s.dev.rdi TT_STAT_CYCLE t) [2, 4, 5]) fun d k => d.ttTake t f k)) ∧
  (∀ (s : State) (t : Nat) (f : TtFrame), (s.dev.rdi TT_STAT_STATE t = 2 ∨ s.dev.rdi TT_STAT_STATE t = 3 ∨ s.dev.rdi TT_STAT_STATE t = 4) →
    (s.dev.ttCtl t).leaving = false → (f.a.isSome = true ∨ f.b.isSome = true) →
    Gives (.ttFrameReceived t f) s ((((s.dev.ttAt t f.slot).ttHear t f).each
      (s.dev.ttBufs t f.slot (s.dev.rdi TT_STAT_CYCLE t) [2, 4, 5]) fun d k => d.ttTake t f k).evidenceOf fun r =>
        r.kind == 2 && r.unit == t && r.key == f.slot)) ∧
  (∀ (s : State) (t k mini : Nat), s.dev.rdi TT_STAT_STATE t = 3 → (s.dev.ttCtl t).leaving = false →
    s.dev.rdi TT_BUFCFG_KIND (t * 256 + k) = 3 → (s.dev.ttCtl t).pending.contains k = true →
    s.dev.ttAdmitted t k (s.dev.rdi TT_STAT_CYCLE t) = true → s.dev.ttLatest t < mini →
    Ends (.ttDynamicSend t k mini) s fun d => d.rdi TT_TXCNT_LATE t = min (s.dev.rdi TT_TXCNT_LATE t + 1) (2 ^ TT_TXCNT_LATE.width - 1) ∧
      (d.ttCtl t).pending = (s.dev.ttCtl t).pending ∧ { d with regs := s.dev.regs, tt := s.dev.tt } = s.dev ∧
      s.dev.regsBut d [(TT_TXCNT_LATE, t), (TT_STAT_SLOT, t)]) ∧
  (∀ (s : State) (t k mini : Nat), s.dev.rdi TT_STAT_STATE t = 3 → (s.dev.ttCtl t).leaving = false →
    s.dev.rdi TT_BUFCFG_KIND (t * 256 + k) = 3 → (s.dev.ttCtl t).pending.contains k = true →
    s.dev.ttAdmitted t k (s.dev.rdi TT_STAT_CYCLE t) = true → mini ≤ s.dev.ttLatest t → s.dev.ttPassive t = 0 →
    (s.dev.rdi TT_BUFSLOT_CHMASK (t * 256 + k) = 1 ∨ s.dev.rdi TT_BUFSLOT_CHMASK (t * 256 + k) = 2) →
    Ends (.ttDynamicSend t k mini) s fun d => d.rdi TT_EVT_DYNDONE t = 1 ∧
      (d.ttCtl t).pending = (s.dev.ttCtl t).pending.filter (· ≠ k) ∧
      d.out = s.dev.out ++ [.ttFrame t (s.dev.rdi TT_BUFSLOT_SLOT (t * 256 + k)) (s.dev.rdi TT_STAT_CYCLE t)
        (s.dev.rdi TT_BUFSLOT_CHMASK (t * 256 + k)) false false true
        (padTo (2 * s.dev.rdi TT_BUFCFG_PLEN (t * 256 + k)) (s.dev.txObj (ttObj t k)).payload)] ∧
      s.dev.regsBut d [(TT_EVT_DYNDONE, t), (TT_STAT_SLOT, t)]) ∧
  (∀ (s : State) (t : Nat), s.dev.rdi TT_STAT_STATE t = 1 → s.dev.unitAsleep 2 t = false →
    Gives (.ttClusterAwake t) s ((s.dev.ttAwake t).each (s.dev.sleepClusters 2 t) Dev.clStarted)) ∧
  (∀ (s : State) (t : Nat), s.dev.rdi TT_STAT_STATE t = 1 → s.dev.sleepClusters 2 t = [] →
    Ends (.ttClusterAwake t) s fun d => d.rdi TT_STAT_STATE t = 2 ∧ d.rdi TT_STAT_PASSA t = 0 ∧ d.rdi TT_STAT_PASSB t = 0 ∧
      d.rdi TT_STAT_ATTLEFT t = s.dev.rdi TT_COLD_ATTEMPTS t % 2 ^ TT_STAT_ATTLEFT.width ∧ (d.ttCtl t).missing = 0 ∧
      (d.ttCtl t).phase = (if s.dev.rdi TT_COLD_CSEN t = 1 ∧ (s.dev.ttCtl t).integrateOnly = false then .listening else .integrating) ∧
      d.fwCount (.truncation t 0) = 0 ∧
      s.dev.regsBut d [(TT_STAT_STATE, t), (TT_STAT_PASSA, t), (TT_STAT_PASSB, t), (TT_STAT_ATTLEFT, t)]) ∧
  (∀ (s : State) (t : Nat), s.dev.unitAsleep 2 t = true → Sys2Proof.Machine.exec (.ttClusterAwake t) s = .next s) ∧
  (∀ (s : State) (t silent : Nat), s.dev.rdi TT_STAT_STATE t = 2 → (s.dev.ttCtl t).phase = .listening →
    0 < s.dev.rdi TT_STAT_ATTLEFT t →
    2 * (s.dev.rdi TT_CYCLE_MACROS t * s.dev.rdi TT_CYCLE_UPM t + (s.dev.rdi TT_CYCLE_MACROS t * s.dev.rdi TT_CYCLE_UPM t * 3 + 999) / 1000) ≤ silent →
    Ends (.ttListenTimeout t silent) s fun d => d.rdi TT_STAT_ATTLEFT t = (s.dev.rdi TT_STAT_ATTLEFT t - 1) % 2 ^ TT_STAT_ATTLEFT.width ∧
      d.ttCtl t = { s.dev.ttCtl t with phase := .symbol } ∧ { d with regs := s.dev.regs, tt := s.dev.tt } = s.dev ∧
      s.dev.regsBut d [(TT_STAT_ATTLEFT, t)]) ∧
  (∀ (s : State) (t : Nat), s.dev.rdi TT_STAT_STATE t = 2 → (s.dev.ttCtl t).joined = true → (s.dev.ttCtl t).leaving = false →
    s.dev.ttPassive t = 0 → t < 2 →
    Ends (.ttStartupComplete t) s fun d => d.rdi TT_STAT_STATE t = 3 ∧ d.rdi TT_EVT_STATE t = 1 ∧
      d.ttCtl t = { s.dev.ttCtl t with phase := .integrating, missing := 0, regained := 0, activeCycle := false } ∧ d.mem = s.dev.mem) ∧
  (∀ (s : State) (t : Nat), ((s.dev.ttCtl t).phase = .symbol ∨ (s.dev.ttCtl t).phase = .resolving) →
    Sys2Proof.Machine.exec (.ttStartupComplete t) s = .next s) ∧
  (∀ (s : State) (t : Nat), s.dev.rdi TT_STAT_STATE t = 2 →
    ((s.dev.ttCtl t).phase = .listening ∨ (s.dev.ttCtl t).phase = .symbol ∨ (s.dev.ttCtl t).phase = .resolving) →
    Gives (.ttColdstartAbandon t) s ((s.dev.setTtCtl t { s.dev.ttCtl t with phase := .listening }).trig 0x0453 [t])) ∧
  (∀ (s : State) (t : Nat), ((s.dev.ttCtl t).phase = .integrating ∨ (s.dev.ttCtl t).phase = .checking) →
    Sys2Proof.Machine.exec (.ttColdstartAbandon t) s = .next s) ∧
  (∀ (s : State) (t : Nat), s.dev.rdi TT_STAT_STATE t = 2 → s.dev.flagi TT_COLD_CSEN t = true → s.dev.rdi TT_STAT_ATTLEFT t = 0 →
    (s.dev.ttCtl t).phase = .listening →
    Gives (.ttColdstartExhausted t) s (((s.dev.setTtCtl t { s.dev.ttCtl t with integrateOnly := true, phase := .integrating }).wri
      TT_EVT_COLDEX t 1).trig 0x0454 [t]))

/-- R385, R386, R397, R400 to R404: clock correction, HALT and guardians of a time-triggered controller. -/
def Obligations.TimeTriggeredGuardians : Prop :=
  (∀ (s : State) (t : Nat), (s.dev.rdi TT_STAT_STATE t = 3 ∨ s.dev.rdi TT_STAT_STATE t = 4) → 3 ≤ (s.dev.ttCtl t).missing → t < 2 →
    Ends (.ttClockCorrectionMissing t) s fun d => d.rdi TT_STAT_STATE t = 5 ∧ d.rdi TT_EVT_STATE t = 1 ∧ d.rdi TT_STAT_SLOT t = 0 ∧
      (d.ttCtl t).missing = (s.dev.ttCtl t).missing + 1 ∧ (d.ttCtl t).slot = 0) ∧
  (∀ (s : State) (t : Nat), s.dev.rdi TT_STAT_STATE t = 3 → (s.dev.ttCtl t).missing = 1 → t < 2 →
    Ends (.ttClockCorrectionMissing t) s fun d => d.rdi TT_STAT_STATE t = 4 ∧ d.rdi TT_EVT_STATE t = 1 ∧
      (d.ttCtl t).missing = 2 ∧ (d.ttCtl t).slot = (s.dev.ttCtl t).slot) ∧
  (∀ (s : State) (t : Nat), (s.dev.rdi TT_STAT_STATE t = 3 ∨ s.dev.rdi TT_STAT_STATE t = 4) → (s.dev.ttCtl t).missing = 0 →
    Gives (.ttClockCorrectionMissing t) s (s.dev.setTtCtl t { s.dev.ttCtl t with missing := 1, regained := 0 })) ∧
  (∀ (s : State) (t : Nat) (rates offsets : List Int), s.dev.rdi TT_STAT_STATE t = 3 → rates ≠ [] → offsets ≠ [] →
    Ends (.ttClockCorrectionRegained t rates offsets) s fun d =>
      d.rdi TT_CLKCOR_RATE t = (BitVec.ofInt 16 (s.dev.ttRate t rates)).toNat ∧
      d.rdi TT_CLKCOR_OFFSET t = (BitVec.ofInt 16 (s.dev.ttOffset t offsets)).toNat ∧
      d.ttCtl t = { s.dev.ttCtl t with missing := 0, regained := (s.dev.ttCtl t).regained + 1 } ∧
      { d with regs := s.dev.regs, tt := s.dev.tt } = s.dev ∧ s.dev.regsBut d [(TT_CLKCOR_RATE, t), (TT_CLKCOR_OFFSET, t)]) ∧
  (∀ (s : State) (t : Nat) (rates offsets : List Int), s.dev.rdi TT_STAT_STATE t = 4 → rates ≠ [] → offsets ≠ [] → t < 2 →
    1 ≤ (s.dev.ttCtl t).regained → s.dev.ttConnected t &&& (3 - s.dev.ttPassive t) ≠ 0 →
    Ends (.ttClockCorrectionRegained t rates offsets) s fun d => d.rdi TT_STAT_STATE t = 3 ∧ d.rdi TT_EVT_STATE t = 1 ∧
      (d.ttCtl t).missing = 0) ∧
  (∀ (d : Dev) (t : Nat) (l : List Int), -(d.rdi TT_CYCLE_UPM t : Int) ≤ d.ttOffset t l ∧ d.ttOffset t l ≤ d.rdi TT_CYCLE_UPM t ∧
    -(d.ttRateOut t : Int) ≤ d.ttRate t l ∧ d.ttRate t l ≤ d.ttRateOut t) ∧
  (∀ (s : State) (t : Nat), s.dev.rdi TT_STAT_STATE t = 5 → s.dev.flt.busHeld = false →
    Ends (.ttHaltExpiry t) s fun d => d.rdi TT_STAT_STATE t = 1 ∧ d.rdi TT_STAT_SLOT t = 0 ∧
      d.ttCtl t = { waiting := (s.dev.ttCtl t).waiting, pending := (s.dev.ttCtl t).pending,
                    integrateOnly := (s.dev.ttCtl t).rejoin } ∧
      d.rdi TT_GCNT_HALTS t = min (s.dev.rdi TT_GCNT_HALTS t + 1) (2 ^ TT_GCNT_HALTS.width - 1) ∧
      { d with regs := s.dev.regs, tt := s.dev.tt } = s.dev ∧
      s.dev.regsBut d [(TT_STAT_STATE, t), (TT_STAT_SLOT, t), (TT_GCNT_HALTS, t)]) ∧
  (∀ (s : State) (t : Nat), s.dev.rdi TT_STAT_STATE t ≠ 5 → Sys2Proof.Machine.exec (.ttHaltExpiry t) s = .next s) ∧
  (∀ (s : State) (t cycle len : Nat), s.dev.rdi TT_STAT_STATE t = 3 → (s.dev.ttCtl t).leaving = false →
    (s.dev.ttCtl t).phase = .integrating → (s.dev.ttCtl t).activeCycle = false → (s.dev.ttCtl t).marked = false →
    Ends (.guardianCycleMark t cycle len) s fun d => d.rdi TT_STAT_CYCLE t =
        (if s.dev.rdi TT_CYCLE_CCMAX t ≤ s.dev.rdi TT_STAT_CYCLE t then 0 else s.dev.rdi TT_STAT_CYCLE t + 1) % 64 ∧
      d.rdi TT_EVT_CYC t = 1 ∧
      d.ttCtl t = { s.dev.ttCtl t with activeCycle := true, marked := true, windowsClosed := false } ∧
      { d with regs := s.dev.regs, tt := s.dev.tt } = s.dev ∧ s.dev.regsBut d [(TT_STAT_CYCLE, t), (TT_EVT_CYC, t)]) ∧
  (∀ (s : State) (t cycle len : Nat), (s.dev.rdi TT_STAT_STATE t = 2 ∨ s.dev.rdi TT_STAT_STATE t = 3 ∨ s.dev.rdi TT_STAT_STATE t = 4) →
    (s.dev.ttCtl t).leaving = false → (s.dev.ttCtl t).marked = true → s.dev.ttMarkOk t len = true →
    Ends (.guardianCycleMark t cycle len) s fun d => (d.ttCtl t).lastLen = len ∧ (d.ttCtl t).windowsClosed = false ∧
      d.rdi TT_EVT_CYC t = 1 ∧ d.rdi TT_GCNT_MARKERR t = s.dev.rdi TT_GCNT_MARKERR t) ∧
  (∀ (s : State) (t : Nat), (s.dev.ttCtl t).marked = true →
    Gives (.guardianMarkTimeout t) s (s.dev.ttMarkError t)) ∧
  (∀ (s : State) (t : Nat), (s.dev.ttCtl t).marked = true → t < 2 →
    Ends (.guardianMarkTimeout t) s fun d => (d.ttCtl t).windowsClosed = true ∧ d.rdi TT_EVT_MARKERR t = 1 ∧
      d.rdi TT_GCNT_MARKERR t = min (s.dev.rdi TT_GCNT_MARKERR t + 1) (2 ^ TT_GCNT_MARKERR.width - 1)) ∧
  (∀ (s : State) (t ch start til : Nat), s.dev.ttCut t ch start til = false →
    Sys2Proof.Machine.exec (.ttTruncation t ch start til) s = .next s) ∧
  (∀ (s : State) (t start til : Nat), s.dev.ttCut t 0 start til = true →
    s.dev.fwFires (.truncation t 0) (s.dev.rdi TT_GUARD_THRESH t) = false →
    Gives (.ttTruncation t 0 start til) s ((((s.dev.inci TT_GCNT_TRUNCA t).wri TT_EVT_TRUNCA t 1).fwEvent (.truncation t 0)
      (s.dev.rdi TT_GUARD_THRESH t)).trig 0x0455 [t])) ∧
  (∀ (s : State) (t start til : Nat), s.dev.ttCut t 1 start til = true →
    s.dev.fwFires (.truncation t 1) (s.dev.rdi TT_GUARD_THRESH t) = true → s.dev.rdi TT_STAT_STATE t ≠ 3 →
    Gives (.ttTruncation t 1 start til) s ((((((s.dev.inci TT_GCNT_TRUNCB t).wri TT_EVT_TRUNCB t 1).fwEvent (.truncation t 1)
      (s.dev.rdi TT_GUARD_THRESH t)).wri TT_STAT_PASSB t 1).wri TT_EVT_PASSB t 1).trig 0x0455 [t] |>.trig 0x0456 [t]))

/-- R411, R414, R415, R417, R427, R429, R444: frames that arrive at a port, leave it, or are taken from a transmit ring. -/
def Obligations.SwitchFrameCommands : Prop :=
  (∀ (s : State) (p t : Nat) (f : EthFrame) (x : SecIn), s.dev.linkUp p = true →
    s.dev.swx.portReset.contains p = false → (2000 < f.len ∨ f.fcsOk = false ∧ s.dev.deck.running = none) →
    Ends (.swxFrameIngress p f x t) s fun d =>
      d.rdi SWXP_RXERR_COUNT p = min (s.dev.rdi SWXP_RXERR_COUNT p + 1) (2 ^ SWXP_RXERR_COUNT.width - 1) ∧
      s.dev.onlyRegs d [(SWXP_RXERR_COUNT, p)]) ∧
  (∀ (s : State) (p t : Nat) (f : EthFrame) (x : SecIn) (d : Dev), s.dev.linkUp p = true →
    s.dev.swx.portReset.contains p = false → f.len ≤ 2000 → f.fcsOk = true → (s.dev.inci SWXP_RXFRAMES_COUNT p).secOn p = false →
    d = (s.dev.inci SWXP_RXFRAMES_COUNT p).evidenceOf (fun r => r.kind == 3 && r.unit == p && r.key == f.smac % 2 ^ 32) →
    f.dmac / 16 = 0x0180C200000 → Gives (.swxFrameIngress p f x t) s d) ∧
  (∀ (s : State) (p t : Nat) (f g : EthFrame) (x : SecIn) (d : Dev), s.dev.linkUp p = true →
    s.dev.swx.portReset.contains p = false → f.len ≤ 2000 → f.fcsOk = true → (s.dev.inci SWXP_RXFRAMES_COUNT p).secOn p = false →
    d = (s.dev.inci SWXP_RXFRAMES_COUNT p).evidenceOf (fun r => r.kind == 3 && r.unit == p && r.key == f.smac % 2 ^ 32) →
    f.dmac / 16 ≠ 0x0180C200000 → d.deck.running.isNone = false → d.swxTag p f = some g →
    Gives (.swxFrameIngress p f x t) s (d.swxForward p g t)) ∧
  (∀ (s : State) (p t q : Nat) (f : QFrame) (rest : List QFrame) (d : Dev), p ≤ 21 → s.dev.rdi SWXP_STAT_LSTATE p = 2 →
    s.dev.swx.portReset.contains p = false → s.dev.sendingAt p t = false →
    d = s.dev.each (List.range 8) (fun d q => d.swxAge (p * 8 + q) t) →
    d.swxPick p t = some q → d.queue (p * 8 + q) = f :: rest →
    Gives (.swxFrameEgress p t) s
      ((((d.cellsOut (p * 8 + q) f.cells).setQueue (p * 8 + q) rest).swxBegin p f t).swxOut p f)) ∧
  (∀ (s : State) (p t : Nat), p ≤ 21 → s.dev.rdi SWXP_STAT_LSTATE p ≠ 2 →
    s.dev.swx.portReset.contains p = false → s.dev.sendingAt p t = false →
    Gives (.swxFrameEgress p t) s (s.dev.each (List.range 8) fun d q => d.swxAge (p * 8 + q) t)) ∧
  (∀ (s : State) (p t : Nat), s.dev.sendingAt p t = true → Sys2Proof.Machine.exec (.swxFrameEgress p t) s = .next s) ∧
  (∀ (s : State) (p t a : Nat), (p = 22 ∨ p = 23) →
    a = s.dev.rdi SWXP_CFG2_TXSLOT p * 2 ^ 23 + s.dev.rdi SWXP_CFG2_GOFF p + s.dev.swx.ringIdx.get ((p - 22) * 2 + 1) 0 * 16 →
    leVal (s.dev.peek (a + 6) 2) % 2 = 1 → ¬ 0x20000000 ≤ leVal (s.dev.peek a 4) →
    Ends (.swxRingTransmit p t) s fun d => d.rdi SWXP_EVT_TXDONE p = 1 ∧ d.mem = memWriteList (leOf 2 2) (a + 6) s.dev.mem ∧
      d.swx = { s.dev.swx with ringIdx := s.dev.swx.ringIdx.set ((p - 22) * 2 + 1) ((s.dev.swx.ringIdx.get ((p - 22) * 2 + 1) 0 + 1) % 64) } ∧
      { d with regs := s.dev.regs, swx := s.dev.swx, mem := s.dev.mem } = s.dev ∧ s.dev.regsBut d [(SWXP_EVT_TXDONE, p)]) ∧
  (∀ (s : State) (p t a : Nat) (r : Map Nat) (d : Dev), (p = 22 ∨ p = 23) →
    a = s.dev.rdi SWXP_CFG2_TXSLOT p * 2 ^ 23 + s.dev.rdi SWXP_CFG2_GOFF p + s.dev.swx.ringIdx.get ((p - 22) * 2 + 1) 0 * 16 →
    leVal (s.dev.peek (a + 6) 2) % 2 = 1 → 0x20000000 ≤ leVal (s.dev.peek a 4) → leVal (s.dev.peek a 4) + 2048 ≤ 0x20A00000 →
    r = s.dev.swx.ringIdx.set ((p - 22) * 2 + 1) ((s.dev.swx.ringIdx.get ((p - 22) * 2 + 1) 0 + 1) % 64) →
    d = { s.dev with swx := { s.dev.swx with ringIdx := r } } →
    Gives (.swxRingTransmit p t) s
      (((d.swxIngress p (frameOfBytes (s.dev.peek (leVal (s.dev.peek a 4)) (leVal (s.dev.peek (a + 4) 2)))) {} t).poke (a + 6)
        (leOf 2 0 ++ leOf 8 (s.dev.gptpAt t))).wri SWXP_EVT_TXDONE p 1))

/-- R430, R432, R435, R436, R439, R441, R444: links, gates, the gPTP clock, the PPS pins, a recovery function's reset and the end
of an old MACsec key. -/
def Obligations.SwitchLinkCommands : Prop :=
  (∀ (s : State) (p t : Nat), p ≤ 21 → s.dev.rdi SWXP_STAT_LSTATE p = 2 → (∀ q, q < 8 → s.dev.queue (p * 8 + q) = []) →
    s.dev.sendingAt p t = false →
    Ends (.swxLinkLost p t) s fun d => d.rdi SWXP_STAT_LSTATE p = 0 ∧ d.rdi SWXP_STAT_LINK p = 0 ∧ d.rdi SWXP_EVT_LINKDN p = 1 ∧
      d.rdi SWXP_TXABORT_COUNT p = s.dev.rdi SWXP_TXABORT_COUNT p ∧ d.mem = s.dev.mem) ∧
  (∀ (s : State) (p t : Nat), p ≤ 21 → s.dev.rdi SWXP_STAT_LSTATE p = 2 → s.dev.queue (p * 8) ≠ [] →
    s.dev.rdi SWXP_CFG0_LINKHOLD p ≠ 0 → s.dev.sendingAt p t = true →
    Ends (.swxLinkLost p t) s fun d => d.rdi SWXP_STAT_LSTATE p = 1 ∧ d.rdi SWXP_STAT_LINK p = 0 ∧ d.rdi SWXP_EVT_TXABORT p = 1 ∧
      d.rdi SWXP_STAT_HOLDLEFT p = s.dev.rdi SWXP_CFG0_LINKHOLD p % 2 ^ SWXP_STAT_HOLDLEFT.width ∧
      d.swx.queues = s.dev.swx.queues ∧ d.sendingAt p t = false ∧ d.mem = s.dev.mem) ∧
  (∀ (s : State) (p rate : Nat), 5 < p → p ≤ 21 → s.dev.portEnabled p = true → s.dev.rdi SWXP_STAT_LSTATE p ≠ 2 →
    Gives (.swxLinkReturn p rate) s (((((((s.dev.wri SWXP_STAT_LSTATE p 2).wri SWXP_STAT_LINK p 1).wri SWXP_STAT_HOLDLEFT p 0).wri
      SWXP_EVT_LINKUP p 1).trig 0x0461 [p]).evidenceOf fun r => r.kind == 5 && r.unit == p))) ∧
  (∀ (s : State) (p rate : Nat), p ≤ 5 → s.dev.portEnabled p = true → s.dev.rdi SWXP_STAT_LSTATE p ≠ 2 →
    Ends (.swxLinkReturn p rate) s fun d => d.rdi SWXP_STAT_LSTATE p = 2 ∧ d.rdi SWXP_STAT_LINK p = 1 ∧
      d.rdi SWXP_EVT_LINKUP p = 1 ∧ d.portRate p = rate) ∧
  (∀ (s : State) (p : Nat), p ≤ 21 → s.dev.rdi SWXP_STAT_LSTATE p = 1 →
    Ends (.swxLinkHoldExpiry p) s fun d => d.rdi SWXP_STAT_LSTATE p = 0 ∧ d.rdi SWXP_STAT_HOLDLEFT p = 0 ∧ d = s.dev.swxHoldEnd p ∧
      ∀ q, q < 8 → d.queue (p * 8 + q) = []) ∧
  (∀ (s : State) (p pos i : Nat), p ≤ 21 → s.dev.rdi SWXP_CFG1_GSRC p = 1 → pos < s.dev.rdi SWXP_CFG1_GLEN p →
    (pos = 0 ∨ (s.dev.swx.gatePos.find p).isSome = true) → i < 256 →
    (∀ j, j < 256 → ((s.dev.rdi SWX_GL_INTV_INTERVAL j ≠ 0 ∧ s.dev.rdi SWX_GL_CTL_PORT j = p ∧ s.dev.rdi SWX_GL_CTL_POS j = pos) ↔ j = i)) →
    Ends (.swxGateEntry p pos) s fun d => d.rdi SWXP_STAT_GATES p = s.dev.rdi SWX_GL_CTL_STATES i % 2 ^ SWXP_STAT_GATES.width ∧
      d.swx = { s.dev.swx with gatePos := s.dev.swx.gatePos.set p pos } ∧
      { d with regs := s.dev.regs, swx := s.dev.swx } = s.dev ∧ s.dev.regsBut d [(SWXP_STAT_GATES, p)]) ∧
  (∀ (s : State) (p : Nat), p ≤ 13 → s.dev.rd BEAT_CFG_SOURCE ≠ 0 → s.dev.rd SWX_GPTP_STATE ≠ 1 →
    Ends (.gptpSync p) s fun d => d.rd SWX_GPTP_STATE = 1 ∧ d.rd SWX_GPTP_SLAVE = p % 2 ^ SWX_GPTP_SLAVE.width ∧ d.rd SWX_GEVT_GPTP = 1 ∧
      d.mem = s.dev.mem) ∧
  (∀ (s : State) (p : Nat), p ≤ 13 → s.dev.rd BEAT_CFG_SOURCE ≠ 0 → s.dev.rd SWX_GPTP_STATE = 1 →
    Ends (.gptpSync p) s fun d => d.rd SWX_GPTP_SLAVE = p % 2 ^ SWX_GPTP_SLAVE.width ∧ s.dev.onlyRegs d [(SWX_GPTP_SLAVE, 0)]) ∧
  (∀ s : State, s.dev.rd SWX_GPTP_STATE = 1 →
    Ends .gptpSyncTimeout s fun d => d.rd SWX_GPTP_STATE = 2 ∧ d.rd SWX_GPTP_SLAVE = 0xFF ∧ d.rd SWX_GEVT_GPTP = 1 ∧
      d.rd SWX_GEVT_GPTPLOST = 1) ∧
  (∀ s : State, s.dev.rd SWX_GPTP_STATE = 1 → s.dev.rd BEAT_CFG_SOURCE ≠ 0 →
    Ends .gptpSyncTimeout s fun d => d.rd SWX_GPTP_STATE = 2 ∧ d.rd SWX_GPTP_SLAVE = 0xFF ∧ d.rd SWX_GEVT_GPTP = 1 ∧
      d.rd SWX_GEVT_GPTPLOST = 1 ∧ d.mem = s.dev.mem) ∧
  (∀ s : State, Ends .gptpClockStep s fun d => d.rd SWX_GEVT_GATESTEP = 1 ∧
    (∀ p, p < 22 → s.dev.rdi SWXP_CFG1_GSRC p = 1 → d.rdi SWXP_STAT_GATES p = 0xFF) ∧
    (∀ p, p < 22 → s.dev.rdi SWXP_CFG1_GSRC p ≠ 1 → d.rdi SWXP_STAT_GATES p = s.dev.rdi SWXP_STAT_GATES p) ∧
    d.swx = { s.dev.swx with gatePos := ((List.range 22).filter fun p => s.dev.rdi SWXP_CFG1_GSRC p == 1).foldl Map.erase s.dev.swx.gatePos } ∧ d.mem = s.dev.mem) ∧
  (∀ (s : State) (ns : Nat), (s.dev.rdeck.lands.any fun r => r.kind == 6 && r.unit == 0) = true →
    Ends (.ppsInEdge ns) s fun d => d.rd SWX_PPSIN_NS = ns % 1000000000 % 2 ^ SWX_PPSIN_NS.width ∧ s.dev.onlyRegs d [(SWX_PPSIN_NS, 0)]) ∧
  (∀ s : State, (s.dev.rdeck.lands.any fun r => r.kind == 6 && r.unit == 1) = true → Gives .ppsOutPulse s (s.dev.send .pps)) ∧
  (∀ (s : State) (r : Nat), (s.dev.swx.frer.get r {}).active = true →
    Ends (.frerReset r) s fun d => d.swx = { s.dev.swx with frer := s.dev.swx.frer.erase r } ∧ d.rd SWX_GEVT_FRERRST = 1 ∧ d.mem = s.dev.mem) ∧
  (∀ (s : State) (p : Nat), Gives (.macsecOldKeyExpiry p) s (s.dev.setMacsec p { s.dev.macsec p with oldHeld := false, oldPn := 0 }))

/-- R469, R471, R472, R478: software's reads and writes of an outbound window and of a collect slot. -/
def Obligations.BridgeAccessCommands : Prop :=
  (∀ (s : State) (init w off size data : Nat), s.dev.portOpen init = true → s.dev.winAccess init w off size true = none → s.dev.winHalted w = false →
    s.dev.winRoom w = true →
    Gives (.brgWindowWrite init w off size data) s ((s.dev.winAccept w off size (data % 256 ^ farBytes size)).answered 0)) ∧
  (∀ (s : State) (init w off size data : Nat), s.dev.portOpen init = true → s.dev.winAccess init w off size true = none → s.dev.winHalted w = false →
    s.dev.winRoom w = false →
    Ends (.brgWindowWrite init w off size data) s fun d => d.access.stalled = true ∧
      d.brg = { s.dev.brg with
        writeStall := (s.dev.brg.writeStall.filter fun e => e.1 != init) ++ [(init, w, off, size, data % 256 ^ farBytes size)] } ∧
      { d with access := s.dev.access, brg := s.dev.brg } = s.dev) ∧
  (∀ (s : State) (init w off size data : Nat), s.dev.portOpen init = true → s.dev.winAccess init w off size true = none → s.dev.winHalted w = true →
    Ends (.brgWindowWrite init w off size data) s fun d => d.access.fault = true ∧
      d.rdi BRG_WCNT2_REFUSED w = min (s.dev.rdi BRG_WCNT2_REFUSED w + 1) (2 ^ BRG_WCNT2_REFUSED.width - 1) ∧
      { d with regs := s.dev.regs, access := s.dev.access } = s.dev ∧ s.dev.regsBut d [(BRG_WCNT2_REFUSED, w)]) ∧
  (∀ (s : State) (init w off size : Nat), s.dev.portOpen init = true → s.dev.winAccess init w off size false = none → s.dev.winHalted w = false →
    Ends (.brgWindowRead init w off size) s fun d => d.access.stalled = true ∧ (d.win w).work = (s.dev.win w).work ++
        [{ kind := .read, addr := off, size := size, hart := init, ctx := s.dev.tag init, stalled := true }] ∧
      (∀ v, v ≠ w → d.win v = s.dev.win v) ∧ { d with brg := s.dev.brg, access := s.dev.access } = s.dev) ∧
  (∀ (s : State) (init w off size : Nat), s.dev.portOpen init = true → s.dev.winAccess init w off size false = none → s.dev.winHalted w = true →
    Ends (.brgWindowRead init w off size) s fun d => d.access.value = 0 ∧ d.rdi BRG_RSTAT_ST init = 2 ∧
      d.rdi BRG_RSTAT_CODE init = 0x13 ∧ d.brg = s.dev.brg ∧
      s.dev.regsBut d [(BRG_RSTAT_ST, init), (BRG_RSTAT_CODE, init), (BRG_RSTAT_SLOT, init)]) ∧
  (∀ (s : State) (h w : Nat) (k : Work), s.dev.stalledRead h = some (w, k) → s.dev.slotPick = none →
    Ends (.brgReadStallEnd h) s fun d => d.access.value = 0 ∧ d.rdi BRG_RSTAT_ST h = 2 ∧ d.rdi BRG_RSTAT_CODE h = 0x11 ∧
      d.rd BRG_CNT_NOSLOT = min (s.dev.rd BRG_CNT_NOSLOT + 1) (2 ^ BRG_CNT_NOSLOT.width - 1) ∧ d.brg.slots = s.dev.brg.slots ∧
      d.win w = (s.dev.win w).unstall h fun k => { k with stalled := false, dropped := true }) ∧
  (∀ (s : State) (h w q : Nat) (k : Work), s.dev.stalledRead h = some (w, k) → s.dev.slotPick = some q →
    Ends (.brgReadStallEnd h) s fun d => d.access.value = 0 ∧ d.rdi BRG_RSTAT_ST h = 1 ∧ d.rdi BRG_RSTAT_SLOT h = q ∧
      d.rdi BRG_CSTAT_BUSY q = 1 ∧ d.rdi BRG_CSTAT_DONE q = 0 ∧ d.rdi BRG_CSTAT_WIN q = w % 2 ^ BRG_CSTAT_WIN.width ∧
      d.brg.slots = s.dev.brg.slots.set q { owner := k.ctx } ∧
      d.win w = (s.dev.win w).unstall h fun k => { k with stalled := false, deferred := true, num := q }) ∧
  (∀ (s : State) (h w : Nat) (x : Nat × Nat × Nat), s.dev.brg.writeStall.find? (·.1 == h) = some (h, w, x) →
    Ends (.brgWriteStallEnd h) s fun d => d.access.fault = true ∧ d.rdi BRG_WEVT_FULL w = 1 ∧
      d.brg = { s.dev.brg with writeStall := s.dev.brg.writeStall.filter fun e => e.1 != h } ∧
      { d with regs := s.dev.regs, brg := s.dev.brg, access := s.dev.access } = s.dev ∧ s.dev.regsBut d [(BRG_WEVT_FULL, w)])

/-- R472, R473, R479, R493: collect slots, and the acknowledgement of a halted window. -/
def Obligations.BridgeCollectCommands : Prop :=
  (∀ (s : State) (init q : Nat) (x : Collect), s.dev.portOpen init = true → s.dev.domainOn 2 = true → s.dev.undeclared (s.dev.tag init) = false →
    s.dev.brg.slots.find q = some x →
    x.owner = s.dev.tag init → s.dev.flagi BRG_CSTAT_DONE q = true →
    Ends (.brgCollectRead init q) s fun d => d.access = { value := s.dev.rdi BRG_CDATA_DATA q } ∧ d.rdi BRG_CDATA_DATA q = 0 ∧
      d.rdi BRG_CSTAT_BUSY q = 0 ∧ d.rdi BRG_CSTAT_DONE q = 0 ∧ d.brg = { s.dev.brg with slots := s.dev.brg.slots.erase q } ∧
      d.mem = s.dev.mem) ∧
  (∀ (s : State) (init q : Nat) (x : Collect), s.dev.portOpen init = true → s.dev.domainOn 2 = true → s.dev.undeclared (s.dev.tag init) = false →
    s.dev.brg.slots.find q = some x →
    (x.owner ≠ s.dev.tag init ∨ s.dev.flagi BRG_CSTAT_DONE q = false) →
    Gives (.brgCollectRead init q) s (s.dev.answered 0)) ∧
  (∀ (s : State) (q : Nat), (s.dev.brg.slots.find q).isSome = true → s.dev.flagi BRG_CSTAT_DONE q = true →
    Gives (.brgCollectExpiry q) s ((((s.dev.slotFree q).wri BRG_CDATA_DATA q 0).inc BRG_CNT_EXPIRED).trig 0x0473 [q])) ∧
  (∀ (s : State) (init q w : Nat) (x : Collect), s.dev.portOpen init = true → s.dev.domainOn 2 = true → s.dev.ctxBarred (s.dev.tag init) = false → s.dev.brg.slots.find q = some x →
    x.owner = s.dev.tag init → s.dev.flagi BRG_CSTAT_DONE q = false → w = s.dev.rdi BRG_CSTAT_WIN q →
    Ends (.brgCabort init q) s fun d => d.access = {} ∧ d.rdi BRG_CSTAT_CODE q = 0x14 ∧ d.rdi BRG_CSTAT_BUSY q = 0 ∧
      d.brg.slots = s.dev.brg.slots.erase q ∧
      (d.win w).work = (s.dev.win w).work.filter (fun k => !(k.kind == .read && k.deferred && k.num == q && !k.dropped)) ∧
      (∀ v, v ≠ w → d.win v = s.dev.win v)) ∧
  (∀ (s : State) (init q : Nat), s.dev.portOpen init = true → s.dev.domainOn 2 = true → s.dev.ctxBarred (s.dev.tag init) = false → s.dev.flagi BRG_CSTAT_DONE q = true →
    Gives (.brgCabort init q) s (s.dev.answered 0)) ∧
  (∀ (s : State) (init q : Nat), s.dev.portOpen init = true → s.dev.domainOn 2 = true → s.dev.ctxBarred (s.dev.tag init) = true →
    Gives (.brgCabort init q) s (((s.dev.answered 0).refuse (s.dev.tag init) BRG_ACCERR_ACC_ERR 0).answered 0)) ∧
  (∀ (s : State) (init q : Nat), s.dev.portOpen init = true → s.dev.domainOn 2 = true → s.dev.undeclared (s.dev.tag init) = true →
    Gives (.brgCollectRead init q) s ((s.dev.answered 0).ctxTurnedAway (s.dev.tag init))) ∧
  (∀ (s : State) (init w : Nat), s.dev.portOpen init = true → s.dev.domainOn 2 = true → s.dev.tag init = s.dev.winOwner w → s.dev.tag init ≠ 0xFFFF →
    s.dev.ctxBarred (s.dev.tag init) = false → s.dev.winHalted w = true →
    Gives (.brgWackResume init w) s
      (((((((s.dev.answered 0).wri BRG_WSTATE_STATE w 1).showWrites w).trig 0x0471 [w]).winUnstall).answered 0))) ∧
  (∀ (s : State) (init w : Nat) (d : Dev), s.dev.portOpen init = true → s.dev.domainOn 2 = true → s.dev.tag init = s.dev.winOwner w → s.dev.tag init ≠ 0xFFFF →
    s.dev.ctxBarred (s.dev.tag init) = false → s.dev.winHalted w = true → d = (s.dev.answered 0).wri BRG_WSTATE_STATE w 1 →
    Gives (.brgWackDiscard init w) s
      ((((((d.setWin w { d.win w with work := (d.win w).work.filter fun k => k.kind != .write }).addi BRG_WCNT2_DISCARDED w
        ((d.win w).work.filter fun k => k.kind == .write).length).showWrites w).trig 0x0471 [w]).winUnstall).answered 0)) ∧
  (∀ (s : State) (init w : Nat), s.dev.portOpen init = true → s.dev.domainOn 2 = true → s.dev.tag init ≠ s.dev.winOwner w →
    Gives (.brgWackResume init w) s (((s.dev.answered 0).refuse (s.dev.tag init) BRG_ACCERR_ACC_ERR 0).answered 0) ∧
    Gives (.brgWackDiscard init w) s (((s.dev.answered 0).refuse (s.dev.tag init) BRG_ACCERR_ACC_ERR 0).answered 0))

/-- R461, R466, R467, R478, R483 to R486: requests, answers, timeouts, inbound writes, polls and probes. -/
def Obligations.BridgeBusCommands : Prop :=
  (∀ (s : State) (w : Nat) (k : Work) (rest : List Work) (o : Outstanding), s.dev.winUp w = true → s.dev.winHalted w = false →
    (s.dev.win w).sent = none → (s.dev.win w).probeDue = false → (s.dev.win w).work = k :: rest →
    o = { work := k, seq := (s.dev.win w).nextSeq } →
    Gives (.brgRequestSend w) s ((s.dev.setWin w { s.dev.win w with
      work := rest, sent := some o, nextSeq := ((s.dev.win w).nextSeq + 1) % 256 }).farRequest w o)) ∧
  (∀ (s : State) (w : Nat) (o : Outstanding), s.dev.winUp w = true → (s.dev.win w).sent = none → (s.dev.win w).probeDue = true →
    o = { work := { kind := .probe, addr := 0xFFFC, size := 2 }, seq := (s.dev.win w).nextSeq } →
    Gives (.brgRequestSend w) s ((s.dev.setWin w { s.dev.win w with
      probeDue := false, sent := some o, nextSeq := ((s.dev.win w).nextSeq + 1) % 256 }).farRequest w o)) ∧
  (∀ (s : State) (w : Nat), s.dev.winUp w = true → (s.dev.win w).sent.isSome = true → Gives (.brgRequestSend w) s s.dev) ∧
  (∀ (s : State) (w : Nat) (k : Work) (rest : List Work), s.dev.winUp w = true → s.dev.winHalted w = false →
    (s.dev.win w).sent = none → (s.dev.win w).probeDue = false → (s.dev.win w).work = k :: rest →
    Ends (.brgRequestSend w) s fun d => (d.win w).sent = some { work := k, seq := (s.dev.win w).nextSeq } ∧ (d.win w).work = rest ∧
      (d.win w).nextSeq = ((s.dev.win w).nextSeq + 1) % 256 ∧ ∀ v, v ≠ w → d.win v = s.dev.win v) ∧
  (∀ (s : State) (w data : Nat) (o : Outstanding), s.dev.winUp w = true → (s.dev.win w).sent = some o → o.work.kind = .write →
    Gives (.brgAnswer w 3 o.seq o.work.addr data) s
      (((s.dev.setWin w { s.dev.win w with sent := none }).showWrites w).winUnstall)) ∧
  (∀ (s : State) (w data : Nat) (o : Outstanding), s.dev.winUp w = true → (s.dev.win w).sent = some o → o.work.kind = .read →
    Gives (.brgAnswer w 4 o.seq o.work.addr data) s
      ((s.dev.setWin w { s.dev.win w with sent := none }).readResult w o.work 0 (data % 256 ^ farBytes o.work.size))) ∧
  (∀ (s : State) (w data : Nat) (o : Outstanding), s.dev.winUp w = true → (s.dev.win w).sent = some o → o.work.kind = .read →
    o.work.stalled = true → o.work.dropped = false →
    Ends (.brgAnswer w 4 o.seq o.work.addr data) s fun d => (d.win w).sent = none ∧
      d.access.value = data % 256 ^ farBytes o.work.size ∧ d.rdi BRG_RSTAT_ST o.work.hart = 0 ∧ ∀ v, v ≠ w → d.win v = s.dev.win v) ∧
  (∀ (s : State) (w : Nat) (o : Outstanding), s.dev.winUp w = true → (s.dev.win w).sent = some o →
    Gives (.brgAnswer w 5 o.seq o.work.addr 0x04) s (s.dev.farAgain w o true)) ∧
  (∀ (s : State) (w seq addr type data : Nat) (o : Outstanding), s.dev.winUp w = true → (s.dev.win w).sent = some o → o.seq ≠ seq →
    (type = 3 ∨ type = 4 ∨ type = 5) →
    Ends (.brgAnswer w type seq addr data) s fun d =>
      d.rdi BRG_WCNT_STRAY w = min (s.dev.rdi BRG_WCNT_STRAY w + 1) (2 ^ BRG_WCNT_STRAY.width - 1) ∧
      s.dev.onlyRegs d [(BRG_WCNT_STRAY, w)]) ∧
  (∀ (s : State) (w : Nat) (o : Outstanding), (s.dev.win w).sent = some o → o.resends < s.dev.rdi BRG_WPOLL_RETRIES w →
    Gives (.brgResponseTimeout w) s (((s.dev.setWin w { s.dev.win w with
      sent := some { o with resends := o.resends + 1 } }).inci BRG_WCNT_RETRIES w).farRequest w { o with resends := o.resends + 1 })) ∧
  (∀ (s : State) (w : Nat) (o : Outstanding), (s.dev.win w).sent = some o → ¬ o.resends < s.dev.rdi BRG_WPOLL_RETRIES w →
    Gives (.brgResponseTimeout w) s (s.dev.farEnds w o (if o.busy then 0x04 else 0x10) 0)) ∧
  (∀ (s : State) (w : Nat) (o : Outstanding), (s.dev.win w).sent = some o → o.resends < s.dev.rdi BRG_WPOLL_RETRIES w →
    Ends (.brgResponseTimeout w) s fun d => (d.win w).sent = some { o with resends := o.resends + 1 } ∧
      d.rdi BRG_WCNT_RETRIES w = min (s.dev.rdi BRG_WCNT_RETRIES w + 1) (2 ^ BRG_WCNT_RETRIES.width - 1) ∧
      (d.win w).work = (s.dev.win w).work ∧ ∀ v, v ≠ w → d.win v = s.dev.win v) ∧
  (∀ (s : State) (w : Nat), (s.dev.win w).sent = none → Sys2Proof.Machine.exec (.brgResponseTimeout w) s = .next s) ∧
  (∀ (s : State) (bus unit node seq size addr : Nat) (data : Value), s.dev.winOf bus unit node = none →
    Gives (.brgIwrite bus unit node seq size addr data) s ((s.dev.inc BRG_INCNT_UNDECL).trig 0x0475 [node])) ∧
  (∀ (s : State) (bus unit node seq size addr : Nat) (data : Value), s.dev.winOf bus unit node = none →
    Ends (.brgIwrite bus unit node seq size addr data) s fun d =>
      d.rd BRG_INCNT_UNDECL = min (s.dev.rd BRG_INCNT_UNDECL + 1) (2 ^ BRG_INCNT_UNDECL.width - 1) ∧ d.brg = s.dev.brg) ∧
  (∀ (s : State) (w bus unit node seq size addr : Nat) (data : Value), s.dev.winOf bus unit node = some w →
    32 ≤ s.dev.iwritesWaiting →
    Ends (.brgIwrite bus unit node seq size addr data) s fun d =>
      d.rd BRG_INCNT_DROPPED = min (s.dev.rd BRG_INCNT_DROPPED + 1) (2 ^ BRG_INCNT_DROPPED.width - 1) ∧
      s.dev.onlyRegs d [(BRG_INCNT_DROPPED, 0)]) ∧
  (∀ (s : State) (w bus unit node seq size addr : Nat) (data : Value) (ins : List Nat), s.dev.winOf bus unit node = some w →
    s.dev.iwritesWaiting < 32 → (s.dev.win w).lastIn = none →
    ins = ((s.dev.rdeck.bridgeRecs.filter fun r => r.kind == 2).map fun r => r.index).filter (fun i =>
      s.dev.rdi BRG_INCFG_BUS i == bus && s.dev.rdi BRG_INCFG_UNIT i == unit && s.dev.rdi BRG_INCFG_NODE i == node) →
    Gives (.brgIwrite bus unit node seq size addr data) s (s.dev.iwriteNew w ins ins.head? seq size addr data)) ∧
  (∀ (s : State) (w code bus unit node seq size addr : Nat) (data : Value), s.dev.winOf bus unit node = some w →
    s.dev.iwritesWaiting < 32 → (s.dev.win w).lastIn = some (seq, code) →
    Ends (.brgIwrite bus unit node seq size addr data) s fun d => (d.win w).lastIn = some (seq, code) ∧ d.sig = s.dev.sig) ∧
  (∀ (s : State) (w : Nat), s.dev.rdi BRG_WSTATE_STATE w = 1 → s.dev.rdi BRG_WPOLL_POLLMS w ≠ 0 →
    Gives (.brgPollDue w) s (s.dev.setWin w { s.dev.win w with work := (s.dev.win w).work ++
      [{ kind := .poll, addr := s.dev.rdi BRG_WSTAT_STATADDR w, size := s.dev.rdi BRG_WSTAT_SSIZE w }] })) ∧
  (∀ (s : State) (w : Nat), s.dev.rdi BRG_WSTATE_STATE w = 1 → s.dev.rdi BRG_WPOLL_POLLMS w ≠ 0 →
    Ends (.brgPollDue w) s fun d => (d.win w).work = (s.dev.win w).work ++
        [{ kind := .poll, addr := s.dev.rdi BRG_WSTAT_STATADDR w, size := s.dev.rdi BRG_WSTAT_SSIZE w }] ∧
      (∀ v, v ≠ w → d.win v = s.dev.win v) ∧ { d with brg := s.dev.brg } = s.dev) ∧
  (∀ (s : State) (w : Nat), s.dev.winHalted w = true → Sys2Proof.Machine.exec (.brgPollDue w) s = .next s) ∧
  (∀ (s : State) (w : Nat), s.dev.winUp w = true →
    Gives (.brgProbeDue w) s (s.dev.setWin w { s.dev.win w with probeDue := true })) ∧
  (∀ (s : State) (w : Nat), s.dev.winUp w = true →
    Ends (.brgProbeDue w) s fun d => (d.win w).probeDue = true ∧ (d.win w).work = (s.dev.win w).work ∧
      (∀ v, v ≠ w → d.win v = s.dev.win v) ∧ { d with brg := s.dev.brg } = s.dev) ∧
  (∀ (s : State) (w : Nat), s.dev.winUp w = false → Sys2Proof.Machine.exec (.brgProbeDue w) s = .next s)

/-- R496, R502 to R507, R511, R516: requests, keep-awake messages, the two timers, wake events and holders of a sleep cluster. -/
def Obligations.SleepClusterCommands : Prop :=
  (∀ (s : State) (init k reason : Nat), s.dev.portOpen init = true → s.dev.tag init ≠ 0xFFFD → s.dev.tag init ≠ 0xFFFF → s.dev.ctxBarred (s.dev.tag init) = false →
    s.dev.bit NMW_STAT_DECL 0 k = true →
    Gives (.nmwReqSet init k reason) s (((s.dev.setCl k { s.dev.cl k with
      reqs := (s.dev.cl k).reqs.set (s.dev.tag init) (reason % 256) }).requestChange k 1 0 (s.dev.clRequested k)).answered 0)) ∧
  (∀ (s : State) (init k : Nat), s.dev.portOpen init = true → s.dev.tag init ≠ 0xFFFD → s.dev.tag init ≠ 0xFFFF → s.dev.ctxBarred (s.dev.tag init) = false →
    s.dev.bit NMW_STAT_DECL 0 k = true →
    Gives (.nmwReqRelease init k) s (((s.dev.setCl k { s.dev.cl k with
      reqs := (s.dev.cl k).reqs.erase (s.dev.tag init) }).requestChange k 1 0 (s.dev.clRequested k)).answered 0)) ∧
  (∀ (s : State) (init k reason : Nat), s.dev.portOpen init = true → (s.dev.tag init = 0xFFFD ∨ s.dev.tag init = 0xFFFF) →
    Gives (.nmwReqSet init k reason) s ((s.dev.refuse (s.dev.tag init) NMW_ACCERR_ACC_ERR 0).answered 0) ∧
    Gives (.nmwReqRelease init k) s ((s.dev.refuse (s.dev.tag init) NMW_ACCERR_ACC_ERR 0).answered 0)) ∧
  (∀ (s : State) (k : Nat), s.dev.clState k = 2 → s.dev.clRequested k = true → Gives (.keepAwakeSend k) s (s.dev.kaSend k true)) ∧
  (∀ (s : State) (k : Nat) (m : KaMsg), s.dev.kaCluster m = some k → s.dev.kaValid m = true →
    m.awake = true → (s.dev.clState k = 1 ∨ s.dev.clState k = 2) →
    Gives (.keepAwakeReceived m) s ((s.dev.holderAdd k m.node).sleepWait k)) ∧
  (∀ (s : State) (k : Nat) (m : KaMsg), s.dev.kaCluster m = some k → s.dev.kaValid m = true →
    m.awake = true → (s.dev.clState k = 1 ∨ s.dev.clState k = 2) →
    Ends (.keepAwakeReceived m) s fun d => (d.cl k).holders.contains m.node = true ∧
      d.rdi NMW_TLEFT_S k = s.dev.rd NMW_TIMES_SWAIT % 2 ^ NMW_TLEFT_S.width ∧ d.clState k = s.dev.clState k) ∧
  (∀ (s : State) (k c ident : Nat) (p : List Byte), s.dev.kaCluster (.can c ident p) = some k →
    ((p.getD 0 0).toNat / 16 ≠ 1 ∨ ident % 64 ≠ beVal ((p.drop 2).take 2) % 64) →
    Ends (.keepAwakeReceived (.can c ident p)) s fun d =>
      d.rd NMW_CNT_BADKA = min (s.dev.rd NMW_CNT_BADKA + 1) (2 ^ NMW_CNT_BADKA.width - 1) ∧
      s.dev.onlyRegs d [(NMW_CNT_BADKA, 0)]) ∧
  (∀ (s : State) (k : Nat), k < 16 → s.dev.clState k = 2 → s.dev.clRequested k = false →
    Ends (.sleepWaitExpiry k) s fun d => d.clState k = 3 ∧ d.rdi NMW_EVT_PREP k = 1 ∧ d.rdi NMW_EVT_STATE k = 1 ∧
      d.rdi NMW_TLEFT_S k = s.dev.rd NMW_TIMES_PREP % 2 ^ NMW_TLEFT_S.width ∧ d.nmw = s.dev.nmw ∧ d.mem = s.dev.mem) ∧
  (∀ (s : State) (k : Nat), s.dev.clRequested k = true → Gives (.sleepWaitExpiry k) s s.dev) ∧
  (∀ (s : State) (k : Nat), k < 16 → s.dev.clState k = 3 → s.dev.clUnits k 1 = [] → s.dev.clUnits k 2 = [] →
    Ends (.prepareExpiry k) s fun d => d.clState k = 4 ∧ d.rdi NMW_EVT_COMMIT k = 1 ∧ d.rdi NMW_TLEFT_S k = 0 ∧
      d.cl k = { s.dev.cl k with step := 2 } ∧ d.mem = s.dev.mem) ∧
  (∀ (s : State) (k : Nat), k < 16 → s.dev.clState k = 4 → (s.dev.cl k).held = none → (s.dev.cl k).step < 4 →
    Ends (.sleepCommitComplete k) s fun d => d.clState k = 5 ∧ d.rdi NMW_EVT_STATE k = 1 ∧ d.cl k = { s.dev.cl k with step := 0 } ∧
      (∀ c, c < 26 → s.dev.clUnits k 1 = [c] → s.dev.wakeMode k 1 c = some 1 → (d.canCtl c).ignore = true ∧ (d.canCtl c).off = false) ∧
      (∀ c, c < 26 → s.dev.clUnits k 1 = [c] → s.dev.wakeMode k 1 c ≠ some 1 → d.rdi CAN_STAT_STATE c = 0 ∧ (d.canCtl c).off = true)) ∧
  (∀ (s : State) (k : Nat) (h : Nat × Nat), s.dev.clState k = 4 → (s.dev.cl k).held = some h → (s.dev.cl k).step ≠ 3 →
    Gives (.sleepCommitStepEnd k) s ((s.dev.setCl k { s.dev.cl k with held := none, step := 0 }).membersStart k)) ∧
  (∀ (s : State) (k : Nat), s.dev.clState k = 4 → (s.dev.cl k).held = none → (s.dev.cl k).step ≠ 3 →
    Ends (.sleepCommitStepEnd k) s fun d => d.cl k = { s.dev.cl k with step := min 4 ((s.dev.cl k).step + 1) } ∧
      { d with nmw := s.dev.nmw } = s.dev ∧ ∀ j, j ≠ k → d.cl j = s.dev.cl j) ∧
  (∀ (s : State) (k : Nat), s.dev.clState k = 4 → (s.dev.cl k).held = none → (s.dev.cl k).step = 3 →
    Gives (.sleepCommitStepEnd k) s ((s.dev.membersStandby k).setCl k { (s.dev.membersStandby k).cl k with step := 4 })) ∧
  (∀ (s : State) (k cause unit node : Nat), s.dev.wakeAllowed k cause unit = true → cause ≠ 3 → cause ≠ 6 →
    Gives (.wakeEvent k cause unit node) s (s.dev.wake k cause unit)) ∧
  (∀ (s : State) (k unit node : Nat), s.dev.bit NMW_CL_WAKEIN k unit = true →
    Gives (.wakeEvent k 3 unit node) s ((s.dev.setBit NMW_WKEVT_WAKE 0 unit).wake k 3 unit)) ∧
  (∀ (s : State) (k unit node : Nat), s.dev.wakeAllowed k 6 unit = true →
    Gives (.wakeEvent k 6 unit node) s (((s.dev.holderAdd k node).wake k 6 unit).sleepWait k)) ∧
  (∀ (s : State) (k cause unit node : Nat), s.dev.clState k = 2 → cause ≠ 3 → Gives (.wakeEvent k cause unit node) s s.dev)

/-- R509, R512, R515, R516: the selective-wake overflow, the awake limit, holders, wake frames and the end of bus integration. -/
def Obligations.SleepLimitCommands : Prop :=
  (∀ (s : State) (c k : Nat), s.dev.sleepClusters 1 c = [k] → s.dev.wakeMode k 1 c = some 1 → s.dev.trxStandby k = true →
    Gives (.selectiveWakeOverflow c) s (((((s.dev.setCanCtl c { s.dev.canCtl c with wakeErr := 0 }).wri NMW_EVT_SWMIS k 1).trig
      0x0486 [c]).wake k 8 c))) ∧
  (∀ (s : State) (c k : Nat), k < 16 → s.dev.sleepClusters 1 c = [k] → s.dev.wakeMode k 1 c = some 1 → s.dev.trxStandby k = true →
    Ends (.selectiveWakeOverflow c) s fun d => d.rdi NMW_EVT_SWMIS k = 1 ∧ d.rdi NMW_EVT_WAKE k = 1 ∧ d.rdi NMW_EVT_WAC k = 1 ∧
      d.rdi NMW_CLSTAT_CAUSE k = 8) ∧
  (∀ (s : State) (k n : Nat), k < 16 → (s.dev.cl k).stretch = some n → s.dev.rdi NMW_CL_AWLIM k ≠ 0 → (s.dev.cl k).limitSeen = false →
    Ends (.awakeLimitReached k) s fun d => d.rdi NMW_AW_NODE k = n % 2 ^ NMW_AW_NODE.width ∧
      d.rdi NMW_AW_DUR k = s.dev.rdi NMW_CL_AWLIM k * 10 % 2 ^ NMW_AW_DUR.width ∧ d.rdi NMW_EVT_AWLIM k = 1 ∧
      d.cl k = { s.dev.cl k with limitSeen := true } ∧ d.mem = s.dev.mem) ∧
  (∀ (s : State) (k : Nat), (s.dev.cl k).stretch = none → Gives (.awakeLimitReached k) s s.dev) ∧
  (∀ (s : State) (k dur : Nat), k < 16 → (s.dev.cl k).limitSeen = true → (s.dev.cl k).stretch = none →
    Ends (.awakeStretchEnd k dur) s fun d => d.rdi NMW_AW_DUR k = min dur 65535 % 2 ^ NMW_AW_DUR.width ∧
      d.cl k = { s.dev.cl k with limitSeen := false } ∧ d.mem = s.dev.mem) ∧
  (∀ (s : State) (k node : Nat), (s.dev.cl k).holders.contains node = true →
    Gives (.holderExpiry k node) s ((s.dev.setCl k { s.dev.cl k with
      holders := (s.dev.cl k).holders.filter (· ≠ node) }).stretch k)) ∧
  (∀ (s : State) (k node : Nat), (s.dev.cl k).holders.contains node = true →
    Ends (.holderExpiry k node) s fun d => (d.cl k).holders = (s.dev.cl k).holders.filter (· ≠ node) ∧
      d.rdi NMW_CLSTAT_HOLDERS k = min (d.holders k).length 255 ∧
      (d.cl k).stretch = (if (d.holders k).length = 1 then (d.holders k).head? else none) ∧
      (d.cl k).reqs = (s.dev.cl k).reqs ∧ s.dev.regsBut d [(NMW_CLSTAT_HOLDERS, k)]) ∧
  (∀ (s : State) (t : Nat), s.dev.rdi TT_STAT_STATE t = 1 → s.dev.ttConnected t = 3 → s.dev.ttPassive t = 0 →
    Ends (.ttWakeFrames t) s fun d => d.out = s.dev.out ++ List.replicate 4 (.ttWake t 0 0 0 (padTo 8 [])) ++
      List.replicate 4 (.ttWake t 1 0 0 (padTo 8 [])) ∧ { d with out := s.dev.out } = s.dev) ∧
  (∀ (s : State) (t : Nat), s.dev.rdi TT_STAT_STATE t ≠ 1 → Gives (.ttWakeFrames t) s s.dev) ∧
  (∀ (s : State) (c : Nat), s.dev.rdi CAN_STAT_STATE c = 1 → s.dev.can.joining.find c = none → s.dev.sleepClusters 1 c = [] →
    Ends (.busIntegrationComplete c) s fun d => d.rdi CAN_STAT_STATE c =
        (if 128 ≤ s.dev.rdi CAN_ERRCNT_TEC c ∨ 128 ≤ s.dev.rdi CAN_ERRCNT_REC c then 3 else 2) ∧
      d.canCtl c = { s.dev.canCtl c with ignore := false, off := false } ∧ { d with regs := s.dev.regs, can := s.dev.can } = s.dev ∧
      s.dev.regsBut d [(CAN_STAT_STATE, c)]) ∧
  (∀ (s : State) (c u : Nat), s.dev.rdi CAN_STAT_STATE c = 1 → s.dev.can.joining.find c = some u → s.dev.sleepClusters 1 c = [] →
    Ends (.busIntegrationComplete c) s fun d => d.rdi CAN_STAT_STATE c =
        (if 128 ≤ s.dev.rdi CAN_ERRCNT_TEC c ∨ 128 ≤ s.dev.rdi CAN_ERRCNT_REC c then 3 else 2) ∧
      d.can.joining.find c = none ∧ d.rd FLT_EVT_SUBST = 1 ∧ (d.canCtl c).ignore = false ∧ (d.canCtl c).off = false) ∧
  (∀ (s : State) (c : Nat), s.dev.rdi CAN_STAT_STATE c ≠ 1 → Sys2Proof.Machine.exec (.busIntegrationComplete c) s = .next s)

/-- R583 to R585, R588, R592, R593, R595, R598, R602, R613: a write of KEY_OPn_CTL with START to a channel that is free, for each
operation: all checks pass and the operation begins, or it ends at once with the code of its first failure. -/
def Obligations.KeyStartCommands : Prop :=
  (∀ (s : State) (init n slot op : Nat) (irq : Bool) (i : Instr) (d : Dev), s.dev.portOpen init = true → (op, i) ∈ [(0x01, Instr.gcmEnc init n slot irq),
      (0x02, .gcmDec init n slot irq), (0x03, .cmac init n slot irq), (0x04, .cmacVer init n slot irq), (0x05, .hmac init n slot irq),
      (0x06, .hmacVer init n slot irq), (0x07, .sign init n slot irq), (0x08, .verify init n slot irq), (0x09, .ecdh init n slot irq),
      (0x0A, .kdf init n slot irq), (0x0B, .hkdf init n slot irq), (0x0C, .chal init n slot irq), (0x10, .load init n slot irq)] →
    s.dev.domainOn 2 = true → (s.dev.ctxRec (s.dev.tag init)).isNone = false → s.dev.ctxBarred (s.dev.tag init) = false →
    s.dev.rdi KEY_OP_STAT_STATE n = 0 →
    d = (((((((s.dev.answered 0).wri KEY_OP_CTL_OP n op).wri KEY_OP_CTL_SLOT n slot).wri KEY_OP_CTL_IRQ n (b2n irq)).setKeyChan n
      { op := op, slot := slot, irq := irq }).wri KEY_OP_STAT_CTX n (s.dev.tag init)).wri KEY_OP_STAT_DONE n 0).wri KEY_OP_OUTLEN_B n 0 →
    (d.keyCheck (s.dev.tag init) n op slot (d.keyDesc n) = 0 → Gives i s ((d.keyBegin n op slot (d.keyDesc n)).answered 0)) ∧
    (∀ code, code ≠ 0 → d.keyCheck (s.dev.tag init) n op slot (d.keyDesc n) = code → Gives i s ((d.keyDone n code).answered 0))) ∧
  (∀ (s : State) (init n op : Nat) (irq : Bool) (i : Instr) (d : Dev), s.dev.portOpen init = true → (op, i) ∈ [(0x11, Instr.commit init n irq),
      (0x12, .inval init n irq), (0x18, .sha256 init n irq), (0x19, .sha384 init n irq)] →
    s.dev.domainOn 2 = true → (s.dev.ctxRec (s.dev.tag init)).isNone = false → s.dev.ctxBarred (s.dev.tag init) = false →
    s.dev.rdi KEY_OP_STAT_STATE n = 0 →
    d = (((((((s.dev.answered 0).wri KEY_OP_CTL_OP n op).wri KEY_OP_CTL_SLOT n 0).wri KEY_OP_CTL_IRQ n (b2n irq)).setKeyChan n
      { op := op, slot := 0, irq := irq }).wri KEY_OP_STAT_CTX n (s.dev.tag init)).wri KEY_OP_STAT_DONE n 0).wri KEY_OP_OUTLEN_B n 0 →
    (d.keyCheck (s.dev.tag init) n op 0 (d.keyDesc n) = 0 → Gives i s ((d.keyBegin n op 0 (d.keyDesc n)).answered 0)) ∧
    (∀ code, code ≠ 0 → d.keyCheck (s.dev.tag init) n op 0 (d.keyDesc n) = code → Gives i s ((d.keyDone n code).answered 0))) ∧
  (∀ (s : State) (init n slot : Nat) (irq : Bool), s.dev.portOpen init = true → s.dev.domainOn 2 = true → (s.dev.ctxRec (s.dev.tag init)).isNone = true →
    Gives (.gcmEnc init n slot irq) s (((s.dev.answered 0).refuse (s.dev.tag init) KEY_ACCERR_ACC_ERR 0).answered 0)) ∧
  (∀ (s : State) (init n slot : Nat), s.dev.portOpen init = true → s.dev.domainOn 2 = true → (s.dev.ctxRec (s.dev.tag init)).isNone = false →
    s.dev.ctxBarred (s.dev.tag init) = false → s.dev.rdi KEY_OP_STAT_STATE n = 1 → s.dev.rdi KEY_OP_STAT_CTX n = s.dev.tag init →
    Ends (.sign init n slot false) s fun d => d.access = {} ∧ d.rdi KEY_OP_STAT_CODE n = 0x10 ∧
      d.rd KEY_CNT_REFUSED = min (s.dev.rd KEY_CNT_REFUSED + 1) (2 ^ KEY_CNT_REFUSED.width - 1) ∧ d.key = s.dev.key ∧ d.mem = s.dev.mem ∧
      s.dev.regsBut d [(KEY_OP_STAT_CODE, n), (KEY_CNT_REFUSED, 0)])

/-- R585 to R590, R613: how an operation that runs ends, is aborted, and frees its channel. -/
def Obligations.KeyEndCommands : Prop :=
  (∀ (s : State) (n : Nat), s.dev.rdi KEY_OP_STAT_STATE n = 1 → (s.dev.keyChan n).op = 0x03 → (s.dev.keyChan n).outLen = 16 →
    (s.dev.keyChan n).irq = false → n < 16 → (s.dev.keyChan n).slot < 480 → 1 < s.dev.rdi KEY_SLOTSTAT_INUSE (s.dev.keyChan n).slot →
    s.dev.rdi KEY_SLOTSTAT_INUSE (s.dev.keyChan n).slot ≤ 2 ^ KEY_SLOTSTAT_INUSE.width →
    Ends (.keyOpComplete n .done) s fun d => d.rdi KEY_OP_STAT_STATE n = 2 ∧ d.rdi KEY_OP_STAT_DONE n = 1 ∧
      d.rdi KEY_OP_STAT_CODE n = 0 ∧ d.rdi KEY_OP_OUTLEN_B n = 16 ∧
      d.mem = memWriteList (beOf 16 (Config.aesCmac (s.dev.keyChan n).key (s.dev.peek (s.dev.keyChan n).inp (s.dev.keyChan n).inLen)).toNat)
        (s.dev.keyChan n).out s.dev.mem ∧
      d.rdi KEY_SLOTSTAT_INUSE (s.dev.keyChan n).slot = s.dev.rdi KEY_SLOTSTAT_INUSE (s.dev.keyChan n).slot - 1 ∧
      d.key = s.dev.key) ∧
  (∀ (s : State) (n : Nat), s.dev.rdi KEY_OP_STAT_STATE n = 1 → ((s.dev.keyChan n).op = 0x02 ∨ (s.dev.keyChan n).op = 0x08) →
    Gives (.keyOpComplete n .unverified) s (s.dev.keyFail n 0x07)) ∧
  (∀ (s : State) (n : Nat), s.dev.rdi KEY_OP_STAT_STATE n = 1 → (s.dev.keyChan n).op = 0x04 →
    s.dev.peek (s.dev.keyChan n).aux 16 ≠
      beOf 16 (Config.aesCmac (s.dev.keyChan n).key (s.dev.peek (s.dev.keyChan n).inp (s.dev.keyChan n).inLen)).toNat →
    Gives (.keyOpComplete n .done) s (s.dev.keyFail n 0x07)) ∧
  (∀ (s : State) (n : Nat), s.dev.rdi KEY_OP_STAT_STATE n = 1 → ((s.dev.keyChan n).op = 0x08 ∨ (s.dev.keyChan n).op = 0x09) →
    Gives (.keyOpComplete n .offCurve) s (s.dev.keyFail n 0x0D)) ∧
  (∀ (s : State) (n : Nat), s.dev.rdi KEY_OP_STAT_STATE n = 1 → (s.dev.keyChan n).op = 0x07 →
    Gives (.keyOpComplete n .randomFailed) s (s.dev.keyFail n 0x0F)) ∧
  (∀ (s : State) (n : Nat), s.dev.rdi KEY_OP_STAT_STATE n = 1 → (s.dev.keyChan n).op = 0x10 →
    Gives (.keyOpComplete n .unverified) s ((s.dev.trig 0x0507 [(s.dev.keyChan n).target]).keyFail n 0x07)) ∧
  (∀ (s : State) (n : Nat) (l : List Byte), s.dev.rdi KEY_OP_STAT_STATE n = 1 → (s.dev.keyChan n).op = 0x10 →
    beVal (l.take 4) ≤ s.dev.rdi KEY_KVER (s.dev.keyChan n).target →
    Gives (.keyOpComplete n (.opened l)) s (s.dev.keyFail n 0x0B)) ∧
  (∀ (s : State) (n : Nat) (l : List Byte), s.dev.rdi KEY_OP_STAT_STATE n = 1 → (s.dev.keyChan n).op = 0x10 →
    s.dev.rdi KEY_KVER (s.dev.keyChan n).target < beVal (l.take 4) →
    Gives (.keyOpComplete n (.opened l)) s (s.dev.keySucceed n (.opened l))) ∧
  (∀ (s : State) (n t : Nat) (l : List Byte), s.dev.rdi KEY_OP_STAT_STATE n = 1 → (s.dev.keyChan n).op = 0x10 → n < 16 →
    t = (s.dev.keyChan n).target → t < 496 → (s.dev.keyChan n).slot < 496 → (s.dev.keyChan n).slot ≠ t →
    s.dev.rdi KEY_SLOTSTAT_PEND t = 1 → s.dev.rdi KEY_KVER t < beVal (l.take 4) →
    Ends (.keyOpComplete n (.opened l)) s fun d => d.rdi KEY_SLOTSTAT_PEND t = 2 ∧ d.rdi KEY_KVER t = s.dev.rdi KEY_KVER t ∧
      d.keySlot t = { s.dev.keySlot t with pendVer := beVal (l.take 4), pendKey := padTo (keyMaterial (s.dev.rdi KEY_ATTR_ALG t)) (l.drop 4) } ∧
      d.rdi KEY_OP_STAT_CODE n = 0) ∧
  (∀ (s : State) (n : Nat) (f : KeyFinding), s.dev.rdi KEY_OP_STAT_STATE n ≠ 1 →
    Sys2Proof.Machine.exec (.keyOpComplete n f) s = .next s) ∧
  (∀ (s : State) (init n : Nat), s.dev.portOpen init = true → s.dev.domainOn 2 = true → s.dev.keyHeld init n = true → s.dev.rdi KEY_OP_STAT_STATE n = 1 →
    Gives (.keyOpAbort init n) s (((s.dev.answered 0).keyFail n 0x0E).answered 0)) ∧
  (∀ (s : State) (init n : Nat), s.dev.portOpen init = true → s.dev.domainOn 2 = true → s.dev.keyHeld init n = true → s.dev.rdi KEY_OP_STAT_STATE n = 2 →
    Ends (.keyOpRelease init n) s fun d => d.access = {} ∧ d.rdi KEY_OP_STAT_STATE n = 0 ∧ d.rdi KEY_OP_STAT_DONE n = 0 ∧
      d.rdi KEY_OP_STAT_CTX n = 0 ∧ { d with regs := s.dev.regs, access := s.dev.access } = s.dev ∧
      s.dev.regsBut d [(KEY_OP_STAT_STATE, n), (KEY_OP_STAT_DONE, n), (KEY_OP_STAT_CTX, n)]) ∧
  (∀ (s : State) (init n : Nat), s.dev.portOpen init = true → s.dev.domainOn 2 = true → s.dev.keyHeld init n = false →
    Gives (.keyOpAbort init n) s ((s.dev.answered 0).keyRefuse init) ∧ Gives (.keyOpRelease init n) s ((s.dev.answered 0).keyRefuse init))

/-- R526, R527, R535, R537, R538, R541, R544: what happens to a request of an open session as it arrives: a command that runs on arrival, a
command that starts because none executes, one that waits behind a command that executes, and one that repeats an old SEQ. -/
def Obligations.ShuttleArrivals : Prop :=
  (∀ (s : State) (m : Msg) (k on target : Nat) (late : Bool) (i : Instr) (r : Request), (i, r) ∈ [(Instr.ping m, Request.ping),
      (.bye m, .bye), (.subscribe m on, .subscribe on), (.abort m target late, .abort target late)] →
    s.dev.shtUp = true → s.dev.sessionOf m.session = some k → m.check = .good → (s.dev.session k).accepts m.seq = true →
    Gives i s ((s.dev.setSession k ((s.dev.session k).see m.seq)).atOnce k m.seq r)) ∧
  (∀ (s : State) (m : Msg) (k a b c e : Nat) (l : List Byte) (x : BlockFind) (v : KeyFinding) (w : Value) (i : Instr) (r : Request)
(d : Dev) (p : Dev × Ran), (i, r) ∈ [(Instr.restart m, Request.restart), (.updOpen m a b c, .updOpen a b c),
      (.updBlock m a b l x, .updBlock a b l x), (.updClose m a, .updClose a), (.updActivate m a b c e, .updActivate a b c e),
      (.updStatus m, .updStatus), (.invGet m, .invGet), (.presGet m a b, .presGet a b), (.recRead m a b, .recRead a b),
      (.recClear m, .recClear), (.keyLoad m a b c v, .keyLoad a b c v), (.keyCommit m a, .keyCommit a),
      (.keyInval m a, .keyInval a), (.outChal m a b, .outChal a b), (.lcChange m a l, .lcChange a l), (.sigRead m a b, .sigRead a b),
      (.sigForce m a w, .sigForce a w), (.sigRelease m a, .sigRelease a), (.chMan m a b c, .chMan a b c),
      (.sleepReq m a b, .sleepReq a b), (.ctxReset m a, .ctxReset a), (.ctxStop m a, .ctxStop a), (.ctxRestart m a, .ctxRestart a),
      (.ctxStat m a, .ctxStat a), (.trdIdle m, .trdIdle), (.trdRelease m, .trdRelease)] →
    s.dev.shtUp = true → s.dev.sessionOf m.session = some k → m.check = .good → (s.dev.session k).accepts m.seq = true →
    (s.dev.session k).executing = none → d = s.dev.setSession k ((s.dev.session k).see m.seq) →
    r.roleIn (s.dev.rdi SHT_SESS_ROLES k) = true → (d.lcMask r).testBit d.lcColumn = true →
    p = d.carry (s.dev.rdi SHT_SESS_HOST k) (s.dev.rdi SHT_SID_SESSION k) m.seq r →
    Gives i s (Dev.drain 9 (p.1.sessionRan k m.seq r false p.2) k)) ∧
  (∀ (s : State) (m : Msg) (k a : Nat) (d t : Dev) (p : Dev × Reply), s.dev.shtUp = true → s.dev.sessionOf m.session = some k →
    m.check = .good → (s.dev.session k).accepts m.seq = true → (s.dev.session k).executing = none →
    Request.roleIn (.updCancel a) (s.dev.rdi SHT_SESS_ROLES k) = true →
    d = s.dev.setSession k ((s.dev.session k).see m.seq) → (d.lcMask (.updCancel a)).testBit d.lcColumn = true →
    p = d.updCancelReq (s.dev.rdi SHT_SESS_HOST k) a → t = Dev.drain 9 (p.1.replyTo k 0x0205 m.seq p.2.1 p.2.2) k →
    Gives (.updCancel m a) s (if s.dev.upd.armed.isSome ∧ t.upd.armed.isNone then t.finishArmed s.dev.upd.armed 0x0041 else t)) ∧
  (∀ (s : State) (m : Msg) (k a : Nat) (e : Nat × Request), s.dev.shtUp = true → s.dev.sessionOf m.session = some k → m.check = .good →
    (s.dev.session k).accepts m.seq = true → (s.dev.session k).executing = some e → (s.dev.session k).waiting.length < 8 →
    Gives (.ctxStat m a) s (s.dev.setSession k { (s.dev.session k).see m.seq with
      waiting := insertWaiting (m.seq, .ctxStat a) (s.dev.session k).waiting }) ∧
    Gives (.keyCommit m a) s ((s.dev.setSession k { (s.dev.session k).see m.seq with
      waiting := insertWaiting (m.seq, .keyCommit a) (s.dev.session k).waiting }).ackTo k 0x0502 m.seq)) ∧
  (∀ (s : State) (m : Msg) (k a : Nat) (e : Nat × Request), s.dev.shtUp = true → s.dev.sessionOf m.session = some k → m.check = .good →
    (s.dev.session k).accepts m.seq = true → (s.dev.session k).executing = some e → 8 ≤ (s.dev.session k).waiting.length →
    Gives (.ctxStat m a) s (s.dev.sendTo k 2 0x0704 m.seq 0x0026 [])) ∧
  (∀ (s : State) (m : Msg) (k : Nat) (r : KeptReply), s.dev.shtUp = true → s.dev.sessionOf m.session = some k →
    m.check = .good → (s.dev.session k).accepts m.seq = false → ((s.dev.session k).replies.find? fun r => r.answers == m.seq) = some r →
    Gives (.ping m) s (s.dev.send (.shuttle ⟨2, r.cmd, s.dev.rdi SHT_SID_SESSION k, r.seq, m.seq, r.status⟩
      (shtIv (s.dev.session k).keys.saltMh r.seq) r.payload))) ∧
  (∀ (s : State) (m : Msg) (k st : Nat), s.dev.shtUp = true → s.dev.sessionOf m.session = some k → (m.check, st) ∈ [(MsgCheck.unknownCmd, 0x0012),
      (.badField, 0x0013)] → (s.dev.session k).accepts m.seq = true → (s.dev.session k).executing = none → (s.dev.session k).waiting = [] →
    s.dev.lcColumn < 6 → Gives (.ping m) s ((s.dev.setSession k ((s.dev.session k).see m.seq)).replyTo k 0 m.seq st [])) ∧
  (∀ (s : State) (m : Msg), s.dev.shtUp = true → s.dev.sessionOf m.session = none →
    Ends (.ping m) s fun d => d.out = s.dev.out ++ [.clear { kind := 2, cmd := 0, session := m.session, status := 0x0021 } []] ∧
      d.rd SHT_CNT1_NOSESS = min (s.dev.rd SHT_CNT1_NOSESS + 1) (2 ^ SHT_CNT1_NOSESS.width - 1) ∧
      { d with regs := s.dev.regs, out := s.dev.out } = s.dev ∧ s.dev.regsBut d [(SHT_CNT1_NOSESS, 0)]) ∧
  (∀ (s : State) (m : Msg) (k : Nat), s.dev.shtUp = true → s.dev.sessionOf m.session = some k → m.check = .badTag →
    Ends (.ping m) s fun d => d.rd SHT_CNT0_TAGERR = min (s.dev.rd SHT_CNT0_TAGERR + 1) (2 ^ SHT_CNT0_TAGERR.width - 1) ∧
      d.rd SHT_EVT_TAGERR = 1 ∧ s.dev.onlyRegs d [(SHT_CNT0_TAGERR, 0), (SHT_EVT_TAGERR, 0)])

/-- R528, R535, R544, R610: a request whose command the session's roles or the life-cycle state do not allow is answered with its
STATUS and changes nothing else; the role is looked at first. -/
def Obligations.ShuttleRoles : Prop :=
  ∀ (s : State) (m : Msg) (k : Nat) (r : Request) (i : Instr) (d : Dev) (a b c : Nat) (w : Value),
    (i, r) ∈ [(Instr.restart m, Request.restart), (.updOpen m a b c, .updOpen a b c), (.keyCommit m a, .keyCommit a),
      (.sigForce m a w, .sigForce a w), (.chMan m a b c, .chMan a b c), (.ctxStop m a, .ctxStop a), (.recClear m, .recClear),
      (.trdIdle m, .trdIdle)] →
    s.dev.shtUp = true → s.dev.sessionOf m.session = some k → m.check = .good → (s.dev.session k).accepts m.seq = true →
    (s.dev.session k).executing = none → (s.dev.session k).waiting = [] → (s.dev.session k).nextSeq < 0xFFFFFFFF →
    d = s.dev.setSession k ((s.dev.session k).see m.seq) →
    (r.roleIn (s.dev.rdi SHT_SESS_ROLES k) = false → Gives i s (d.replyTo k r.code m.seq 0x0024 [])) ∧
    (r.roleIn (s.dev.rdi SHT_SESS_ROLES k) = true → (d.lcMask r).testBit d.lcColumn = false → Gives i s (d.replyTo k r.code m.seq 0x0025 []))

/-- R151, R189, R192, R193, R212, R216, R503, R535, R588, R595, R598, R607, R661, R674, R678, R679: what the orders that the roles and
the life-cycle state allow do to the block, and their replies. -/
def Obligations.ShuttleOrders : Prop :=
  (∀ (d : Dev) (h n q : Nat), d.carry h n q .restart = (d.setPwr { d.pwr with ordered := true }, .reply 0 [])) ∧
  (∀ (d : Dev) (h n q c : Nat), (d.ctxRec c).isNone = false → d.ctxState c ≠ 4 →
    d.carry h n q (.ctxReset c) = (d.ctxReset c 2, .reply 0 []) ∧ d.carry h n q (.ctxStop c) = (d.ctxReset c 6, .reply 0 [])) ∧
  (∀ (d : Dev) (h n q c : Nat), (d.ctxRec c).isNone = false → d.ctxState c = 4 →
    d.carry h n q (.ctxReset c) = (d, .reply 0x0050 []) ∧ d.carry h n q (.ctxStop c) = (d, .reply 0x0050 [])) ∧
  (∀ (d : Dev) (h n q c : Nat), (d.ctxRec c).isNone = true → ∀ r : Request, r ∈ [Request.ctxReset c, .ctxStop c, .ctxRestart c, .ctxStat c] →
    d.carry h n q r = (d, .reply 0x0042 [])) ∧
  (∀ (d : Dev) (h n q x : Nat) (v : Value) (r : SigRec), d.sigRec x = some r →
    d.carry h n q (.sigForce x v) = (d.sigForce r v, .reply 0 []) ∧ d.carry h n q (.sigRelease x) = (d.sigRelease x, .reply 0 [])) ∧
  (∀ (d : Dev) (h n q x : Nat) (v : Value), d.sigRec x = none →
    d.carry h n q (.sigForce x v) = (d, .reply 0x0042 []) ∧ d.carry h n q (.sigRelease x) = (d, .reply 0x0042 [])) ∧
  (∀ (d : Dev) (h n q m en cmd : Nat), m ≤ 63 → en ≤ 1 → d.bankFitted (bankOf m) = true → d.chUsed m = true →
    d.carry h n q (.chMan m en cmd) = (d.manWrite m en cmd, .reply 0 (beBytes [(4, (d.manWrite m en cmd).wordAt (CH_STAT_STATE.addr m) 0)]))) ∧
  (∀ (d : Dev) (h n q k : Nat), k ≤ 15 → d.bit NMW_STAT_DECL 0 k = true →
    d.carry h n q (.sleepReq k 1) = ((d.setCl k { d.cl k with hostReq := true }).requestChange k 2 0 (d.clRequested k), .reply 0 []) ∧
    d.carry h n q (.sleepReq k 0) = ((d.setCl k { d.cl k with hostReq := false }).requestChange k 2 0 (d.clRequested k), .reply 0 [])) ∧
  (∀ (d : Dev) (h n q : Nat), ∃ d', d.carry h n q .trdIdle = (d', .reply 0 []) ∧ d'.rd TRD_STAT_IDLE_HOST = 1 ∧
    d'.trd = { d.trd with idlePending := true, otherCause := true } ∧ { d' with regs := d.regs, trd := d.trd } = d ∧
    d.regsBut d' [(TRD_STAT_IDLE_HOST, 0)]) ∧
  (∀ (d : Dev) (h n q : Nat), ∃ d' p, d.carry h n q .trdRelease = (d', .reply 0 p) ∧ d'.rd TRD_STAT_IDLE_DROP = 0 ∧
    d'.rd TRD_STAT_IDLE_CONF = 0 ∧ d'.rd TRD_STAT_IDLE_HOST = 0 ∧
    d.onlyRegs d' [(TRD_STAT_IDLE_DROP, 0), (TRD_STAT_IDLE_CONF, 0), (TRD_STAT_IDLE_HOST, 0)]) ∧
  (∀ (d : Dev) (h n q slot : Nat), d.slotDeclared slot = true →
    (d.hostKeyCheck 0x11 0 slot false = 0 → d.carry h n q (.keyCommit slot) = (d.keyCommit slot, .reply 0 [])) ∧
    (d.hostKeyCheck 0x12 0 slot false = 0 → d.carry h n q (.keyInval slot) = (d.keyInvalidate slot, .reply 0 []))) ∧
  (∀ (d : Dev) (h n q dst : Nat) (l : List Byte), d.flag KEY_STAT_LCBUSY = false → d.lcAllowed dst = false →
    d.carry h n q (.lcChange dst l) = (d, .reply 0x0025 [])) ∧
  (∀ (d : Dev) (h n q dst : Nat) (l : List Byte), d.flag KEY_STAT_LCBUSY = false → d.lcAllowed dst = true → d.authOk dst (d.nonceOf n) l = false →
    d.carry h n q (.lcChange dst l) = (d.trig 0x0507 [], .reply 0x0035 [])) ∧
  (∀ (d : Dev) (h n q kind total x : Nat), 1 ≤ kind → kind ≤ 3 → d.updState ≠ 4 → d.upd.lock = none →
    ∃ d', d.carry h n q (.updOpen kind total x) = (d', .reply 0 (beBytes [(2, x), (2, 0)])) ∧ d'.upd.lock = some (h, n) ∧
      d'.upd.item = some { xfer := x, ikind := kind, totalLen := total } ∧ d'.updState = 1 ∧ d'.rd UPD_STAT_LOCKED = 1 ∧
      d'.rd UPD_STAT_HOLDER = h % 2 ^ UPD_STAT_HOLDER.width ∧ d'.mem = d.mem) ∧
  (∀ (d : Dev) (h n q kind total x : Nat) (l : Nat × Nat), 1 ≤ kind → kind ≤ 3 → d.updState ≠ 4 → d.upd.lock = some l → l.1 ≠ h →
    d.carry h n q (.updOpen kind total x) = (d.trig 0x0521 [l.1, h], .reply 0x0030 (beBytes [(2, l.1), (4, l.2), (2, 60)]))) ∧
  (∀ (d : Dev) (h n q x : Nat) (i : UpdItem), d.updItemOf h x = some i → d.updState = 1 → d.upd.closing = none →
    i.streamBlocks ≤ i.blocks.length →
    d.carry h n q (.updClose x) = (d.setUpd { d.upd with closing := some (n, q) }, .executing)) ∧
  (∀ (d : Dev) (h n q x : Nat) (i : UpdItem) (k : Deck), d.updItemOf h x = some i → d.updState = 2 → i.deck = some k →
    ∃ d', d.carry h n q (.updActivate x 0 0 0) = (d', .armed) ∧ d'.updState = 3 ∧
      d'.upd = { d.upd with item := some { i with when_ := 0, at_ := 0 }, armed := some (n, q) } ∧
      { d' with regs := d.regs, upd := d.upd } = d ∧ d.regsBut d' [(UPD_STAT_STATE, 0)]) ∧
  (∀ (d : Dev) (h n q : Nat), ∃ d', d.carry h n q .recClear = (d', .executing) ∧ d'.rd REC_STAT_CLEARING = 1 ∧
    d'.recd = { d.recd with clearHost := h } ∧ { d' with regs := d.regs, recd := d.recd } = d ∧
    d.regsBut d' [(REC_STAT_CLEARING, 0)])

/-- R522, R529 to R532, R534, R542, R607, R661, R678: handshakes, timeouts, notices, the internet protocols, and the final replies of
long commands. -/
def Obligations.ShuttleSessions : Prop :=
  (∀ (s : State) (host number nonce epub : Nat) (x : HalfOpen), s.dev.shtUp = true → s.dev.sht.locked = false →
    s.dev.rd SHT_STAT_OPEN < 4 → s.dev.sht.half = [] → s.dev.flag KEY_STAT_LCBUSY = false → (s.dev.hostRoles host).isSome = true →
    s.dev.freeSlot = some 0 → x = ⟨s.dev.sessionNumber number, host, some 0, nonce, s.dev.freeVal 128, epub, s.dev.fresh.freeVal 256⟩ →
    Ends (.hello .good host number nonce epub) s fun d => d.rdi SHT_SESS_STATE 0 = 1 ∧
      d.rdi SHT_SESS_HOST 0 = host % 2 ^ SHT_SESS_HOST.width ∧ d.rdi SHT_SID_SESSION 0 = x.number % 2 ^ SHT_SID_SESSION.width ∧
      d.rd SHT_STAT_HALFOPEN = 1 ∧ d.sht = { s.dev.sht with half := [x] } ∧
      d.out = s.dev.out ++ [.clear { kind := 0, cmd := 2, session := x.number }
        (s.dev.moduleId ++ beOf 16 x.nonceM ++ x.epubM ++ s.dev.respM x)] ∧
      { d with regs := s.dev.regs, sht := s.dev.sht, out := s.dev.out, free := s.dev.free } = s.dev ∧
      s.dev.regsBut d [(SHT_STAT_HALFOPEN, 0), (SHT_SESS_STATE, 0), (SHT_SESS_HOST, 0), (SHT_SID_SESSION, 0)]) ∧
  (∀ (s : State) (host number nonce epub : Nat), s.dev.shtUp = true → s.dev.sht.locked = true →
    Gives (.hello .good host number nonce epub) s
      (s.dev.send (.clear { kind := 2, cmd := 0, session := 0, status := 0x0023 } []))) ∧
  (∀ (s : State) (m : Msg) (x : HalfOpen) (resp : List Byte), s.dev.shtUp = true → (s.dev.sht.half.find? fun x => x.number == m.session) = some x →
    m.check = .good → Gives (.proof m resp) s (if resp = s.dev.respH x then s.dev.establish x else s.dev.proofFail x)) ∧
  (∀ s : State, s.dev.sht.locked = true →
    Ends .lockoutEnd s fun d => d.sht = { s.dev.sht with locked := false } ∧ d.rd SHT_STAT_LOCKOUT = 0 ∧
      d.fwCount .handshake = 0 ∧ { d with regs := s.dev.regs, sht := s.dev.sht, fw := s.dev.fw } = s.dev ∧
      s.dev.regsBut d [(SHT_STAT_LOCKOUT, 0)]) ∧
  (∀ (s : State) (number : Nat) (x : HalfOpen), (s.dev.sht.half.find? fun x => x.number == number) = some x → x.slot = none →
    Ends (.halfOpenTimeout number) s fun d => d.sht = { s.dev.sht with half := s.dev.sht.half.filter fun y => y.number != x.number } ∧
      d.rd SHT_STAT_HALFOPEN = (s.dev.sht.half.filter fun y => y.number != x.number).length % 2 ^ SHT_STAT_HALFOPEN.width ∧
      { d with regs := s.dev.regs, sht := s.dev.sht } = s.dev ∧ s.dev.regsBut d [(SHT_STAT_HALFOPEN, 0)]) ∧
  (∀ (s : State) (number k : Nat), s.dev.sessionOf number = some k →
    Gives (.sessionIdleTimeout number) s (s.dev.sessionEnd k 2)) ∧
  (∀ (s : State) (m : Msg) (notice k : Nat), s.dev.shtUp = true → s.dev.sessionOf m.session = some k → m.check = .good →
    Gives (.noticeAck m notice) s (s.dev.setSession k { s.dev.session k with
      unacked := (s.dev.session k).unacked.filter fun n => n.seq != notice })) ∧
  (∀ (s : State) (number notice k : Nat) (n : Unacked), s.dev.sessionOf number = some k →
    ((s.dev.session k).unacked.find? fun n => n.seq == notice) = some n → n.resends < 8 →
    Ends (.noticeResend number notice) s fun d => d.out = s.dev.out ++ [.shuttle ⟨3, n.code, number, n.seq, 0, 0⟩ (shtIv (s.dev.session k).keys.saltMh n.seq) n.payload] ∧
      d.session k = { s.dev.session k with unacked := (s.dev.session k).unacked.map fun e =>
        if e.seq = notice then { e with resends := e.resends + 1 } else e } ∧ d.regs = s.dev.regs ∧ d.mem = s.dev.mem) ∧
  (∀ (s : State) (number notice k : Nat) (n : Unacked), s.dev.sessionOf number = some k →
    ((s.dev.session k).unacked.find? fun n => n.seq == notice) = some n → 8 ≤ n.resends →
    Gives (.noticeResend number notice) s ((s.dev.setSession k { s.dev.session k with
      unacked := (s.dev.session k).unacked.filter fun e => e.seq != notice }).noteLost (s.dev.rdi SHT_SESS_HOST k))) ∧
  (∀ (s : State) (src : Nat), s.dev.shtUp = true →
    Gives (.neighborSolicitation true src) s (s.dev.send (.ip 136 [src])) ∧ Gives (.neighborSolicitation false src) s s.dev) ∧
  (∀ (s : State) (src ident seq : Nat) (data : List Nat), s.dev.shtUp = true →
    Gives (.icmpv6Echo true src ident seq data) s (s.dev.send (.ip 129 ([src, ident, seq] ++ data)))) ∧
  (∀ (s : State) (src ident : Nat), Gives (.reassemblyTimeout src ident) s { s.dev with swx := { s.dev.swx with
      i3 := s.dev.swx.i3.filter fun f => !f.fragmentOf src ident } }) ∧
  (∀ (s : State) (c : Nat × Nat) (i : UpdItem) (x : CloseIn) (p : Dev × Reply), s.dev.upd.closing = some c →
    s.dev.upd.item = some i → s.dev.closeEnd i x = some p →
    Gives (.updCloseComplete x) s (p.1.finish c.1 c.2 p.2.1 p.2.2)) ∧
  (∀ (s : State) (dst number seq : Nat) (d : Dev), s.dev.key.lcTarget = some (dst, number, seq) →
    d = (s.dev.lcCarry dst).finish number seq 0 (beBytes [(1, (s.dev.lcCarry dst).lifeState), (3, 0)]) →
    Gives .lcTransitionComplete s (d.setPwr { d.pwr with ordered := true })) ∧
  (∀ (s : State) (p : Nat × Nat), s.dev.flag REC_STAT_CLEARING = true → s.dev.clearing = some p →
    Gives .ringEraseComplete s (s.dev.ringErased.finish p.1 p.2 0 []))

/-- R555, R563, R727, R728, R731, R734 to R737: errors of the module's own memory, cores, controllers, sectors and bus link. Below
its threshold an error is an event with a restart; at the threshold it is a lasting fault with its action. -/
def Obligations.FaultCommands : Prop :=
  (∀ (s : State) (n : Nat), s.dev.fwCount (.nor n) = 1 →
    Ends (.faultWindowClose (.nor n)) s fun d => d.fwCount (.nor n) = 0 ∧ { d with fw := s.dev.fw } = s.dev) ∧
  (∀ (s : State) (c : CounterId), s.dev.threshOf c ≤ s.dev.fwCount c → Gives (.faultWindowClose c) s s.dev) ∧
  (∀ (s : State) (addr : Nat), s.dev.coreRuns = true →
    Gives (.memoryRowFail addr false) s (s.dev.rowEvent addr 1) ∧ Gives (.memoryRowFail addr true) s (s.dev.rowEvent addr 3)) ∧
  (∀ (s : State) (j n : Nat), s.dev.coreRuns = true → j < 5 → s.dev.coreIndex j = some n → s.dev.joiningOf 1 j = none →
    s.dev.fwFires (.core j) 3 = false →
    Gives (.coreError j) s (((s.dev.fwEvent (.core j) 3).domainReset (3 + n)).restartLast 1 j)) ∧
  (∀ (s : State) (j n : Nat) (d : Dev), s.dev.coreRuns = true → j < 5 → s.dev.coreIndex j = some n → s.dev.joiningOf 1 j = none →
    s.dev.fwFires (.core j) 3 = true →
    d = s.dev.fwEvent (.core j) 3 → Gives (.coreError j) s (d.hartLasting d.appKind j n)) ∧
  (∀ (s : State) (j n : Nat), s.dev.coreRuns = true → j < 5 → s.dev.pairPart j = some n → s.dev.joiningOf 2 j = none →
    s.dev.fwFires (.pair j) 3 = false →
    Gives (.lockstepMismatch j) s (((s.dev.fwEvent (.pair j) 3).resetBound (domainBinds (7 + n))).restartLast 2 j)) ∧
  (∀ (s : State) (j n : Nat) (d : Dev), s.dev.coreRuns = true → j < 5 → s.dev.pairPart j = some n → s.dev.joiningOf 2 j = none →
    s.dev.fwFires (.pair j) 3 = true →
    d = s.dev.fwEvent (.pair j) 3 → Gives (.lockstepMismatch j) s (d.hartLasting d.rtKind j n)) ∧
  (∀ (s : State) (j n : Nat) (e : Nat × Nat × Nat × Nat), s.dev.coreRuns = true → j < 5 → s.dev.coreIndex j = some n →
    s.dev.joiningOf 1 j = some e → Gives (.coreError j) s (s.dev.spareFails s.dev.appKind e)) ∧
  (∀ (s : State) (j n : Nat) (e : Nat × Nat × Nat × Nat), s.dev.coreRuns = true → j < 5 → s.dev.pairPart j = some n →
    s.dev.joiningOf 2 j = some e → Gives (.lockstepMismatch j) s (s.dev.spareFails s.dev.rtKind e)) ∧
  (∀ (s : State) (j n : Nat), s.dev.coreRuns = true → j < 5 → s.dev.coreIndex j = some n → s.dev.joiningOf 1 j = none →
    s.dev.fwCount (.core j) = 2 → s.dev.idleSpare s.dev.appKind = none →
    Ends (.coreError j) s fun d => d.bit SYSCTL_CPUMAP_FAILAPP 0 j = true ∧ d.rd FLT_EVT_EXHAUST = 1 ∧ d.rd FLT_EVT_LATCHOFF = 1 ∧
      d.rd FLT_LAST_KIND = 1 ∧ d.rd FLT_LAST_ACTION = 4 ∧ d.rd FLT_LAST_UNIT = j) ∧
  (∀ (s : State) (j n p : Nat), s.dev.coreRuns = true → j < 5 → s.dev.pairPart j = some n → s.dev.joiningOf 2 j = none →
    s.dev.fwCount (.pair j) = 2 → s.dev.idleSpare s.dev.rtKind = some p →
    Ends (.lockstepMismatch j) s fun d => d.bit SYSCTL_CPUMAP_FAILRT 0 j = true ∧ d.bit SYSCTL_CPUMAP_SPARES 0 0 = false ∧
      d.flt.joining = s.dev.flt.joining ++ [(2, n, j, p)] ∧ d.rd FLT_LAST_KIND = 2 ∧ d.rd FLT_LAST_ACTION = 1 ∧
      d.rd FLT_LAST_UNIT = j) ∧
  (∀ (s : State) (addr n : Nat), inSram addr = true → s.dev.coreRuns = true →
    Gives (.sramEccRead addr n false) s ((s.dev.sramCorrected addr).answered (leVal ((s.dev.sramCorrected addr).peek addr n)))) ∧
  (∀ (s : State) (addr n : Nat), inSram addr = true → s.dev.coreRuns = true →
    Ends (.sramEccRead addr n true) s fun d => d.access.fault = true ∧ d = (s.dev.sramUncorrectable addr).faulted) ∧
  (∀ (s : State) (a : Nat), s.dev.coreRuns = true → 0x20000000 ≤ a → a < 0x20A00000 →
    Gives (.sramScrub [a] []) s (s.dev.sramCorrected a) ∧ Gives (.sramScrub [] [a]) s (s.dev.sramUncorrectable a)) ∧
  (∀ (s : State) (u : Nat), s.dev.coreRuns = true → u < 24 → s.dev.servedBy u = some u → s.dev.fwFires (.can u) 3 = false →
    Gives (.canControllerError u) s ((((s.dev.fwEvent (.can u) 3).imageCan u).canLeave u).restartLast 3 u)) ∧
  (∀ (s : State) (u : Nat), s.dev.coreRuns = true → u < 24 → s.dev.servedBy u = some u → s.dev.fwFires (.can u) 3 = true →
    Gives (.canControllerError u) s ((s.dev.fwEvent (.can u) 3).canLasting u u)) ∧
  (∀ (s : State) (n : Nat), s.dev.coreRuns = true → n < 2048 → s.dev.fwCount (.nor n) = 0 →
    Ends (.norVerifyFail n) s fun d => d.fwCount (.nor n) = 1 ∧ { d with fw := s.dev.fw } = s.dev) ∧
  (∀ (s : State) (n : Nat), s.dev.coreRuns = true → n < 2048 → s.dev.fwFires (.nor n) 2 = false →
    Gives (.norVerifyFail n) s (s.dev.fwEvent (.nor n) 2)) ∧
  (∀ (s : State) (n : Nat), s.dev.coreRuns = true → n < 2048 → s.dev.fwFires (.nor n) 2 = true →
    (s.dev.fwEvent (.nor n) 2).rd FLT_STAT_NORSP = 0 →
    Gives (.norVerifyFail n) s ((((s.dev.fwEvent (.nor n) 2).lasting 5 4 n).exhausted n).latchOff n)) ∧
  (∀ s : State, s.dev.coreRuns = true → s.dev.flt.busHeld = false → s.dev.fwFires .busLink 16 = false →
    Gives .busLinkCrcError s (s.dev.fwEvent .busLink 16)) ∧
  (∀ s : State, s.dev.coreRuns = true → s.dev.flt.busHeld = false → s.dev.fwFires .busLink 16 = true →
    (s.dev.fwEvent .busLink 16).fwFires .busReset 3 = true →
    Gives .busLinkCrcError s (((s.dev.fwEvent .busLink 16).lasting 6 3 0).busDieReset))

/-- R640 to R643, R650, R652, R654, R656 to R658: what triggers, tokens, the ring, its cursor and the operating time do. -/
def Obligations.RecorderCommands : Prop :=
  (∀ (s : State) (init code : Nat), s.dev.domainOn 2 = true → init < 10 → s.dev.mayTrigger (s.dev.tag init) code = true →
    Gives (.recTrig init code) s ((s.dev.answered 0).trigWith code ((List.range 8).map fun k => s.dev.rdi REC_ARG (init * 8 + k)) 1
      s.dev.optime)) ∧
  (∀ (s : State) (init code : Nat), s.dev.portOpen init = true → s.dev.domainOn 2 = true → s.dev.mayTrigger (s.dev.tag init) code = false →
    Gives (.recTrig init code) s ((s.dev.answered 0).refuse (s.dev.tag init) REC_ACCERR_ACC_ERR 0)) ∧
  (∀ (s : State) (b : Nat), s.dev.deck.running.isNone = false → b < 512 → s.dev.flagi REC_BKT_CODE_EN b = true →
    s.dev.rdi REC_BKT_FILL b ≠ 0 →
    Ends (.bucketToken b) s fun d => d.rdi REC_BKT_STATE_TOKENS b =
        min (s.dev.rdi REC_BKT_STATE_TOKENS b + 1) (s.dev.rdi REC_BKT_FILL_DEPTH b) % 2 ^ REC_BKT_STATE_TOKENS.width ∧
      s.dev.onlyRegs d [(REC_BKT_STATE_TOKENS, b)]) ∧
  (∀ s : State, s.dev.deck.running.isNone = false → s.dev.rd REC_CFG_DFILL ≠ 0 →
    Ends (.bucketToken 512) s fun d => d.rd REC_DBKT_TOKENS =
        min (s.dev.rd REC_DBKT_TOKENS + 1) (s.dev.rd REC_CFG_DDEPTH) % 2 ^ REC_DBKT_TOKENS.width ∧
      s.dev.onlyRegs d [(REC_DBKT_TOKENS, 0)]) ∧
  (∀ (s : State) (r : Staged) (rest : List Staged), s.dev.flag REC_STAT_READY = true → s.dev.flag REC_STAT_CLEARING = false →
    s.dev.recd.staged = r :: rest → s.dev.rd REC_STAT_HEADSLOT < 16384 → s.dev.rd REC_HEAD_SEQ < 2 ^ 32 →
    Ends .recRingWrite s fun d => d.recd.staged = rest ∧ d.rd REC_STAT_STAGED = rest.length % 2 ^ REC_STAT_STAGED.width ∧
      d.rd REC_HEAD_SEQ = seqNext (s.dev.rd REC_HEAD_SEQ) ∧
      d.rd REC_STAT_HEADSLOT = (s.dev.rd REC_STAT_HEADSLOT + 1) % 16384 ∧
      (∀ x, d.recd.ring.find ((s.dev.rd REC_STAT_HEADSLOT + 1) % 16384) = some x → x.seq = seqNext (s.dev.rd REC_HEAD_SEQ) ∧
        x.code = r.code ∧ x.snap = r.snap ∧ x.crc = x.calcCrc) ∧
      (d.recd.ring.find ((s.dev.rd REC_STAT_HEADSLOT + 1) % 16384)).isSome = true ∧
      (∀ k, k ≠ (s.dev.rd REC_STAT_HEADSLOT + 1) % 16384 → d.recd.ring.find k = s.dev.recd.ring.find k) ∧
      d.recd.savedOptime = s.dev.optime ∧ (s.dev.rd REC_STAT_HEADSLOT = 16382 → d.rd REC_EVT_WRAP = 1) ∧
      { d with regs := s.dev.regs, recd := s.dev.recd } = s.dev) ∧
  (∀ (s : State), (s.dev.flag REC_STAT_READY = false ∨ s.dev.recd.staged = []) → Gives .recRingWrite s s.dev) ∧
  (∀ (s : State) (init seq : Nat) (r : RingRec), s.dev.domainOn 2 = true → init < 10 → s.dev.ctxBarred (s.dev.tag init) = false →
    s.dev.flag REC_STAT_CLEARING = false → s.dev.recd.ring.find (s.dev.slotOf seq) = some r → r.crc = r.calcCrc →
    Ends (.recCursor init seq) s fun d => d.access = {} ∧ d.rdi REC_CUR_SEQ init = seq % 2 ^ REC_CUR_SEQ.width ∧
      d.rdi REC_CURSTAT_PRESENT init = b2n (r.seq == seq) ∧ d.rdi REC_CURSTAT_CRCERR init = 0 ∧
      { d with regs := s.dev.regs, access := s.dev.access } = s.dev ∧
      s.dev.regsBut d [(REC_CUR_SEQ, init), (REC_CURSTAT_PRESENT, init), (REC_CURSTAT_CRCERR, init)]) ∧
  (∀ (s : State) (init seq : Nat) (r : RingRec), s.dev.domainOn 2 = true → init < 10 → s.dev.ctxBarred (s.dev.tag init) = false →
    s.dev.flag REC_STAT_CLEARING = false → s.dev.recd.ring.find (s.dev.slotOf seq) = some r → r.crc ≠ r.calcCrc →
    Ends (.recCursor init seq) s fun d => d.rdi REC_CURSTAT_CRCERR init = 1 ∧ d.rd REC_EVT_CRCERR = 1) ∧
  (∀ s : State, (s.dev.pwr.state = .run ∨ s.dev.pwr.state = .doze) → s.dev.rd REC_OPTIMEH_OPTIME < 256 →
    s.dev.rd REC_OPTIMEL_OPTIME < 2 ^ 32 → s.dev.optime + 1 < 2 ^ 40 →
    Ends .optimeTick s fun d => d.optime = s.dev.optime + 1 ∧
      s.dev.onlyRegs d [(REC_OPTIMEL_OPTIME, 0), (REC_OPTIMEH_OPTIME, 0)]) ∧
  (∀ s : State, (s.dev.pwr.state = .run ∨ s.dev.pwr.state = .doze) →
    Ends .optimeSave s fun d => d.recd = { s.dev.recd with savedOptime := s.dev.optime, cleanMark := false } ∧
      { d with recd := s.dev.recd } = s.dev) ∧
  (∀ s : State, s.dev.pwr.state ≠ .run → s.dev.pwr.state ≠ .doze → Gives .optimeTick s s.dev ∧ Gives .optimeSave s s.dev)

/-- R616 to R618, R626, R636: an instruction scanned into the TAP. It shifts out its data register and marks the port attached; one
that the debug level or the power state does not allow selects BYPASS; a module that is OFF has no TAP. -/
def Obligations.TapScans : Prop :=
  (∀ (s : State) (lands : List Nat) (i : Instr) (ir : Nat) (data : List Nat), (i, ir, data) ∈ [
      (Instr.idcode, 0x01, [0x10000000 + s.dev.rd SYSCTL_PARTID_PART * 4096 + 0xCB7]), (.samplePreload lands, 0x02, lands),
      (.dtmcs, 0x10, []), (.bypass, 0x1F, []), (.wakereq false, 0x17, [])] →
    s.dev.pwr.state ≠ .off → s.dev.dbg.extest = false → s.dev.tck.tapAllows ir = true →
    Ends i s fun d => d.out = s.dev.out ++ [.tap ir data] ∧ d.dbg = { s.dev.dbg with ir := ir, tck := s.dev.now } ∧
      d.rd DBG_STAT_ATTACHED = 1 ∧ { d with regs := s.dev.regs, out := s.dev.out, dbg := s.dev.dbg } = s.dev ∧
      s.dev.regsBut d [(DBG_STAT_ATTACHED, 0)]) ∧
  (∀ (s : State) (x : Dev), s.dev.pwr.state ≠ .off → s.dev.dbg.extest = false →
    x = { s.dev.tck with dbg := { s.dev.dbg with ir := 0x16, tck := s.dev.now } } →
    Gives .dbgstat s (x.send (.tap 0x16 [x.wordAt DBG_STAT_LEVEL.base 0]))) ∧
  (∀ (s : State) (lands : List Nat), (s.dev.pwr.state = .run ∨ s.dev.pwr.state = .doze) → s.dev.rd DBG_STAT_LEVEL = 2 →
    s.dev.dbg.extest = false → (∀ b, b < 4 → (s.dev.bk b).keeperOn = false) →
    Ends (.extest lands) s fun d => d.out = s.dev.out ++ [.tap 0x03 lands] ∧ d.dbg.extest = true ∧ d.dbg.ir = 0x03 ∧
      d.rd TRD_STAT_STATE = 0 ∧ s.dev.regsBut d [(DBG_STAT_ATTACHED, 0), (TRD_STAT_STATE, 0)] ∧
      { d with regs := s.dev.regs, out := s.dev.out, dbg := s.dev.dbg } = s.dev) ∧
  (∀ (s : State) (lands : List Nat), s.dev.pwr.state ≠ .off → s.dev.dbg.extest = false → s.dev.rd DBG_STAT_LEVEL = 1 →
    Ends (.extest lands) s fun d => d.out = s.dev.out ++ [.tap 0x1F []] ∧ d.dbg = { s.dev.dbg with ir := 0x1F, tck := s.dev.now } ∧
      d.bank = s.dev.bank ∧ d.rd TRD_STAT_STATE = s.dev.rd TRD_STAT_STATE) ∧
  (∀ (s : State), s.dev.pwr.state = .standby → s.dev.dbg.extest = false → s.dev.lifeState ≠ 5 →
    Gives (.wakereq true) s (({ s.dev.tck with dbg := { s.dev.dbg with ir := 0x17, tck := s.dev.now } }.send (.tap 0x17 [])).wakeBegin
      6 0 0 0xFF)) ∧
  (∀ (s : State) (o : DmiOp), s.dev.pwr.state ≠ .off → s.dev.dbg.extest = false → s.dev.tck.tapAllows 0x11 = true →
    s.dev.flag KEY_STAT_LCBUSY = false →
    Gives (.dmi o) s ((Dev.dmi { s.dev.tck with dbg := { s.dev.dbg with ir := 0x11, tck := s.dev.now } } o).send (.tap 0x11 []))) ∧
  (∀ (s : State) (h : Nat), s.dev.pwr.state ≠ .off → s.dev.dbg.extest = false → s.dev.flag KEY_STAT_LCBUSY = true →
    Ends (.dmi (.halt h)) s fun d => d.rd DBG_CNT_REFUSED = min (s.dev.rd DBG_CNT_REFUSED + 1) (2 ^ DBG_CNT_REFUSED.width - 1) ∧
      d.rd DBG_STAT_HALTED = s.dev.rd DBG_STAT_HALTED ∧ d.pwr = s.dev.pwr) ∧
  (∀ (s : State) (o : DmiOp) (lands : List Nat) (level nonce : Nat) (resp : List Byte) (b : Bool) (i : Instr), i ∈ [Instr.idcode, .samplePreload lands,
      .extest lands, .dtmcs, .dmi o, .dbgchal level nonce, .dbgresp resp, .dbgstat, .wakereq b, .bypass, .ntrst] →
    s.dev.pwr.state = .off → Gives i s s.dev)

/-- R621 to R624, R628: the challenge, its response, and what ends a debug level. -/
def Obligations.DebugLevels : Prop :=
  (∀ (s : State) (level nonce : Nat), (s.dev.pwr.state = .run ∨ s.dev.pwr.state = .doze) → s.dev.dbg.extest = false →
    s.dev.rd DBG_STAT_LEVEL ≤ level → s.dev.dbg.locked = false →
    Ends (.dbgchal level nonce) s fun d => d.dbg.nonce = some (level, nonce) ∧ d.rd DBG_STAT_CHRDY = 1 ∧
      d.rd DBG_STAT_LEVEL = s.dev.rd DBG_STAT_LEVEL ∧ d.out = s.dev.out ++ [.tap 0x14 (s.dev.challenge nonce)]) ∧
  (∀ (s : State) (level nonce : Nat), (s.dev.pwr.state = .run ∨ s.dev.pwr.state = .doze) → s.dev.dbg.extest = false →
    s.dev.rd DBG_STAT_LEVEL ≤ level → s.dev.dbg.locked = true →
    Ends (.dbgchal level nonce) s fun d => d.dbg.nonce = none ∧ d.rd DBG_STAT_CHRDY = 0 ∧
      d.out = s.dev.out ++ [.tap 0x14 [0, 0, 0, 0, 0, 0]]) ∧
  (∀ (s : State) (level nonce : Nat) (resp : List Byte), (s.dev.pwr.state = .run ∨ s.dev.pwr.state = .doze) → s.dev.dbg.extest = false →
    s.dev.dbg.nonce = some (level, nonce) → s.dev.levelAllowed level = true → s.dev.unlockOk level nonce resp = true →
    Ends (.dbgresp resp) s fun d => d.rd DBG_STAT_LEVEL = level ∧ d.rd DBG_EVT_LEVEL = 1 ∧ d.dbg.nonce = none ∧
      d.rd DBG_STAT_CHRDY = 0 ∧ d.mem = s.dev.mem) ∧
  (∀ (s : State) (resp : List Byte), (s.dev.pwr.state = .run ∨ s.dev.pwr.state = .doze) → s.dev.dbg.extest = false → s.dev.dbg.nonce = none →
    s.dev.fwFires .unlock 3 = false →
    Ends (.dbgresp resp) s fun d => d.rd DBG_STAT_LEVEL = s.dev.rd DBG_STAT_LEVEL ∧ d.rd DBG_EVT_FAIL = 1 ∧
      d.dbg.locked = s.dev.dbg.locked ∧ (s.dev.fwCount .unlock < 3 → d.fwCount .unlock = s.dev.fwCount .unlock + 1)) ∧
  (∀ (s : State) (resp : List Byte), (s.dev.pwr.state = .run ∨ s.dev.pwr.state = .doze) → s.dev.dbg.extest = false → s.dev.dbg.nonce = none →
    s.dev.fwFires .unlock 3 = true →
    Ends (.dbgresp resp) s fun d => d.dbg.locked = true ∧ d.rd DBG_STAT_LOCKLEFT = 300 ∧ d.rd DBG_EVT_LOCKOUT = 1 ∧
      d.rd DBG_STAT_LEVEL = s.dev.rd DBG_STAT_LEVEL) ∧
  (∀ (s : State) (level nonce : Nat) (resp : List Byte), (s.dev.pwr.state = .run ∨ s.dev.pwr.state = .doze) → s.dev.dbg.extest = false →
    s.dev.dbg.nonce = some (level, nonce) → (s.dev.levelAllowed level = false ∨ s.dev.unlockOk level nonce resp = false) →
    s.dev.fwFires .unlock 3 = false →
    Ends (.dbgresp resp) s fun d => d.rd DBG_STAT_LEVEL = s.dev.rd DBG_STAT_LEVEL ∧ d.rd DBG_EVT_FAIL = 1 ∧ d.dbg.nonce = none ∧
      d.rd DBG_STAT_CHRDY = 0 ∧ d.dbg.locked = s.dev.dbg.locked) ∧
  (∀ s : State, Ends .nonceExpiry s fun d => d.dbg = { s.dev.dbg with nonce := none } ∧ d.rd DBG_STAT_CHRDY = 0 ∧
    { d with regs := s.dev.regs, dbg := s.dev.dbg } = s.dev ∧ s.dev.regsBut d [(DBG_STAT_CHRDY, 0)]) ∧
  (∀ s : State, s.dev.dbg.locked = true →
    Ends .dbgLockoutEnd s fun d => d.dbg = { s.dev.dbg with locked := false } ∧ d.rd DBG_STAT_LOCKLEFT = 0 ∧ d.fwCount .unlock = 0 ∧
      { d with regs := s.dev.regs, dbg := s.dev.dbg, fw := s.dev.fw } = s.dev ∧ s.dev.regsBut d [(DBG_STAT_LOCKLEFT, 0)]) ∧
  (∀ (s : State) (init : Nat), s.dev.portOpen init = true → s.dev.domainOn 0 = true → s.dev.pwr.state ≠ .off → s.dev.ctxBarred (s.dev.tag init) = false →
    Gives (.dbgClose init) s ((s.dev.answered 0).dbgFall 0 0)) ∧
  (∀ (s : State), s.dev.pwr.state ≠ .off → s.dev.dbg.extest = false → 1 ≤ s.dev.rd DBG_STAT_LEVEL →
    Ends .ntrst s fun d => d.rd DBG_STAT_LEVEL = 0 ∧ d.rd DBG_STAT_HALTED = 0 ∧ d.rd DBG_EVT_LEVEL = 1 ∧ d.dbg.ir = 0x01 ∧
      d.dbg.nonce = none ∧ d.dbg.triggers = ⟨[]⟩)

/-- R115, R506, R514, R571 to R573, R700 to R705, R714 to R718, R720: the states of the module: start, restarts, supply, DOZE, STANDBY, HIBERNATE and
tamper. -/
def Obligations.PowerStates : Prop :=
  (∀ (s : State) (x : BootIn), s.dev.pwr.ordered = true → s.dev.warmOk = true → Gives (.orderedRestart x) s (s.dev.warmReset 4 true x)) ∧
  (∀ s : State, Ends .powerOnReset s fun d => d.pwr.state = .start ∧ d.pwr.sysOn = false ∧ d.pwr.heldReset = false ∧ d.pwr.retries = 0 ∧
    d.dbg = {} ∧ d.rd REC_PWRCYC = min (s.dev.recd.savedPwrcyc + 1) 0xFFFFFF ∧ d.rd PWR_STAT_DOMON = 0x8007 ∧ d.deck.running = none) ∧
  (∀ (s : State) (x : BootIn) (d : Dev), s.dev.pwr.state = .start → s.dev.pwr.sysOn = true → s.dev.pwr.heldReset = false →
    s.dev.pwr.inRom = false → s.dev.pwr.ordered = false → s.dev.pwr.retries < 3 →
    d = (s.dev.coreStop true false).wr PWR_STAT_LASTRST 8 →
    Gives (.startupTimeout x) s ((d.setPwr { d.pwr with timedOut := true, retries := s.dev.pwr.retries + 1 }).startUp x false)) ∧
  (∀ (s : State) (x : BootIn) (d : Dev), s.dev.pwr.state = .start → s.dev.pwr.sysOn = true → s.dev.pwr.heldReset = false →
    s.dev.pwr.inRom = false → s.dev.pwr.ordered = false → 3 ≤ s.dev.pwr.retries →
    d = (s.dev.coreStop true false).wr PWR_STAT_LASTRST 8 →
    Gives (.startupTimeout x) s (d.setPwr { d.pwr with timedOut := true, heldReset := true })) ∧
  (∀ s : State, s.dev.sysPowered = true →
    Ends .brownOut s fun d => d.pwr.state = .start ∧ d.pwr.sysOn = false ∧ d.pwr.heldReset = s.dev.pwr.heldReset ∧
      d.rd PWR_STAT_LASTRST = 1 ∧ d.rd PWR_STAT_DOMON = 3 ∧ d.deck.running = none) ∧
  (∀ (s : State) (x : BootIn), s.dev.warmOk = true →
    Gives (.nrst x) s ((s.dev.setPwr { s.dev.pwr with retries := 0, wakeLatched := none }).warmReset 2 true x)) ∧
  (∀ s : State, Ends .powerOff s fun d => d.pwr.state = .off ∧ d.pwr.sysOn = false ∧ d.pwr.supEn = false ∧ d.dbg = {} ∧
    d.deck.running = none) ∧
  (∀ (s : State) (x : BootIn), s.dev.pwr.state = .start → s.dev.pwr.sysOn = false → s.dev.pwr.heldReset = false →
    Gives (.vsupLogGood x) s (s.dev.startUp x true)) ∧
  (∀ (s : State) (init : Nat), s.dev.portOpen init = true → s.dev.c0Tag init = true → s.dev.pwr.state = .run →
    Ends (.dozeEnter init) s fun d => d.pwr = { s.dev.pwr with state := .doze } ∧ d.rd PWR_STAT_STATE = 1 ∧ d.access = {} ∧
      { d with regs := s.dev.regs, pwr := s.dev.pwr, access := s.dev.access } = s.dev ∧ s.dev.regsBut d [(PWR_STAT_STATE, 0)]) ∧
  (∀ (s : State) (init : Nat), s.dev.portOpen init = true → s.dev.c0Tag init = true → s.dev.pwr.state = .doze →
    Ends (.dozeExit init) s fun d => d.pwr = { s.dev.pwr with state := .run } ∧ d.rd PWR_STAT_STATE = 0 ∧ d.access = {} ∧
      { d with regs := s.dev.regs, pwr := s.dev.pwr, access := s.dev.access } = s.dev ∧ s.dev.regsBut d [(PWR_STAT_STATE, 0)]) ∧
  (∀ (s : State) (init : Nat), s.dev.portOpen init = true → s.dev.c0Tag init = false →
    Gives (.dozeEnter init) s (s.dev.pwrRefuse init) ∧ Gives (.dozeExit init) s (s.dev.pwrRefuse init)) ∧
  (∀ s : State, s.dev.flag NMW_STAT_ALLSLEEP = true → (s.dev.pwr.state = .run ∨ s.dev.pwr.state = .doze) →
    s.dev.flag PWR_STAT_PEND = false → s.dev.debugHold = false →
    Ends .standbyRequest s fun d => d.rd PWR_STAT_PEND = 1 ∧ d.rd PWR_EVT_REQ = 1 ∧ d.rd DBG_STAT_PWRHELD = 0 ∧
      d.pwr = { s.dev.pwr with heldOnce := false } ∧ { d with regs := s.dev.regs, pwr := s.dev.pwr } = s.dev ∧
      s.dev.regsBut d [(PWR_STAT_PEND, 0), (PWR_EVT_REQ, 0), (DBG_STAT_PWRHELD, 0)]) ∧
  (∀ s : State, s.dev.flag PWR_STAT_PEND = true → (s.dev.pwr.state = .run ∨ s.dev.pwr.state = .doze) → s.dev.commitHeld = true →
    Gives .standbyCommit s s.dev.holdShow) ∧
  (∀ s : State, s.dev.flag PWR_STAT_PEND = true → (s.dev.pwr.state = .run ∨ s.dev.pwr.state = .doze) → s.dev.commitHeld = false →
    Ends .standbyCommit s fun d => d.pwr.state = .standbyEntry ∧ d.recd.savedOptime = s.dev.optime ∧ d.recd.cleanMark = true ∧
      d.rd DBG_STAT_LEVEL = 0 ∧ ∀ k, k < 4 → d.rdi SHT_SESS_STATE k ≠ 2) ∧
  (∀ s : State, s.dev.pwr.state = .standbyEntry → s.dev.pwr.wakeLatched = none →
    Ends .standbyCaptureDone s fun d => d.pwr.state = .standby ∧ d.pwr.sysOn = false ∧ d.pwr.supEn = false ∧ d.deck.running = none ∧
      d.rd PWR_STAT_DOMON = 3) ∧
  (∀ s : State, s.dev.pwr.state = .standby → s.dev.rd PWR_CFG_HIBAFTER ≠ 0 →
    Gives .hibernateEntry s (s.dev.setPwr { s.dev.pwr with state := .hibernate })) ∧
  (∀ (s : State) (cause cluster unit : Nat) (rising : Bool), (s.dev.pwr.state = .standby ∨ s.dev.pwr.state = .hibernate) →
    s.dev.wakeSeen cause cluster unit rising = true →
    Ends (.wakeFromStandby cause cluster unit rising) s fun d => d.pwr.state = .start ∧ d.pwr.supEn = true ∧ d.pwr.sysOn = false ∧
      d.rd NMW_WAKESRC_CAUSE = cause % 2 ^ NMW_WAKESRC_CAUSE.width ∧ d.rd NMW_WAKESRC_CLUSTER = cluster % 2 ^ NMW_WAKESRC_CLUSTER.width ∧
      d.rd NMW_WAKESRC_UNIT = unit % 2 ^ NMW_WAKESRC_UNIT.width ∧
      d.rd PWR_STAT_LASTRST = (if s.dev.pwr.state = .standby then 6 else 7) ∧
      { d with regs := s.dev.regs, pwr := s.dev.pwr } = s.dev ∧
      s.dev.regsBut d [(NMW_WAKESRC_CAUSE, 0), (NMW_WAKESRC_CLUSTER, 0), (NMW_WAKESRC_UNIT, 0), (PWR_STAT_LASTRST, 0)]) ∧
  (∀ (s : State) (cause cluster unit : Nat) (rising : Bool), s.dev.wakeSeen cause cluster unit rising = false →
    Gives (.wakeFromStandby cause cluster unit rising) s s.dev) ∧
  (∀ (s : State) (cause : Nat) (mv : Int) (ns : Nat) (x : BootIn), s.dev.tamperArmed cause = true → cause ≤ 1 →
    Gives (.tamper cause mv ns x) s (if 2000 < mv ∧ 100000 ≤ ns then s.dev.tamper cause x else s.dev)) ∧
  (∀ (s : State) (diff : Int) (ns : Nat) (x : BootIn), s.dev.tamperArmed 2 = true →
    Gives (.tamper 2 diff ns x) s (if diff = 0 then s.dev else s.dev.tamper 2 x)) ∧
  (∀ (s : State) (ns : Nat) (x : BootIn), s.dev.tamperArmed 4 = true →
    Gives (.tamper 4 0 ns x) s (if 100000 ≤ ns then s.dev.tamper 4 x else s.dev)) ∧
  (∀ (s : State) (ps : Int) (ns : Nat) (x : BootIn), s.dev.tamperArmed 4 = true → s.dev.pwr.sysOn = true → 0 < ps →
    Gives (.tamper 4 ps ns x) s (if 30000 ≤ ps ∧ ps ≤ 50000 then s.dev else s.dev.tamper 4 x)) ∧
  (∀ (s : State) (mv : Int) (ns : Nat) (x : BootIn), s.dev.tamperArmed 5 = true → s.dev.pwr.sysOn = true →
    Gives (.tamper 5 mv ns x) s (if (mv < 650 ∨ 950 < mv) ∧ 20 < ns then s.dev.tamper 5 x else s.dev)) ∧
  (∀ (s : State) (deg : Int) (ns : Nat) (x : BootIn), s.dev.tamperArmed 6 = true →
    Gives (.tamper 6 deg ns x) s (if (deg < -50 ∨ 130 < deg) ∧ 10000000 ≤ ns then s.dev.tamper 6 x else s.dev)) ∧
  (∀ (s : State) (cause : Nat) (value : Int) (ns : Nat) (x : BootIn), s.dev.tamperArmed cause = false →
    Gives (.tamper cause value ns x) s s.dev) ∧
  (∀ (s : State) (mv ns : Nat) (x : BootIn), s.dev.noAnchor = true → mv < 1800 → 10000 ≤ ns →
    Ends (.vkeepLoss mv ns x) s fun d => d.key = { s.dev.keysLost.key with keepMarker := false } ∧
      { d with key := s.dev.key } = s.dev) ∧
  (∀ (s : State) (mv ns : Nat) (x : BootIn), (1800 ≤ mv ∨ ns < 10000) → Gives (.vkeepLoss mv ns x) s s.dev) ∧
  (∀ (s : State) (mv ns : Nat) (x : BootIn), s.dev.noAnchor = false → mv < 1800 → 10000 ≤ ns →
    Gives (.vkeepLoss mv ns x) s (Dev.tamper { s.dev.keysLost with key := { s.dev.keysLost.key with keepMarker := false } } 3 x))

/-- R702, R709, R719 to R723, R771: warnings, leases, resets of one domain and of the bus die, and watchdogs. -/
def Obligations.PowerEvents : Prop :=
  (∀ s : State, s.dev.sysPowered = true → s.dev.coreRuns = true →
    Gives .vsupLow s (((s.dev.wr PWR_EVT_VLOW 1).trig 0x0605 []).optimeSave true).captureShort) ∧
  (∀ s : State, s.dev.sysPowered = true → Gives .vsupHigh s ((s.dev.wr PWR_EVT_VHIGH 1).trig 0x0606 []) ∧
    Gives .vkeepLow s ((s.dev.wr PWR_EVT_VKLOW 1).trig 0x060B []) ∧ Gives .coreTempHigh s ((s.dev.wr PWR_EVT_TEMP 1).trig 0x060A [])) ∧
  (∀ s : State, s.dev.sysPowered = false → Gives .vsupHigh s s.dev ∧ Gives .vkeepLow s s.dev ∧ Gives .coreTempHigh s s.dev ∧
    Gives .vsupLow s s.dev) ∧
  (∀ (s : State) (ppm : Int), s.dev.sysPowered = true →
    (3000 < ppm.natAbs → Gives (.clockCheck ppm) s ((s.dev.wr PWR_EVT_CLK 1).trig 0x0607 [sword ppm])) ∧
    (ppm.natAbs ≤ 3000 → Gives (.clockCheck ppm) s s.dev)) ∧
  (∀ (s : State) (init : Nat), s.dev.portOpen init = true → s.dev.ctxRuns (s.dev.tag init) = true → (s.dev.pwr.state = .run ∨ s.dev.pwr.state = .doze) →
    s.dev.pwr.leases.contains (s.dev.tag init) = false →
    Gives (.pwrHoldTake init) s ((s.dev.setLeases (s.dev.pwr.leases ++ [s.dev.tag init])).answered 0)) ∧
  (∀ (s : State) (init : Nat), s.dev.portOpen init = true → s.dev.ctxRuns (s.dev.tag init) = true →
    Ends (.pwrHoldRelease init) s fun d => d.pwr = { s.dev.pwr with leases := s.dev.pwr.leases.filter (· ≠ s.dev.tag init) } ∧
      d.rd PWR_HOLD_HOLDERS = (s.dev.pwr.leases.filter (· ≠ s.dev.tag init)).length % 2 ^ PWR_HOLD_HOLDERS.width ∧ d.access = {} ∧
      { d with regs := s.dev.regs, pwr := s.dev.pwr, access := s.dev.access } = s.dev ∧ s.dev.regsBut d [(PWR_HOLD_HOLDERS, 0)]) ∧
  (∀ (s : State) (init : Nat), s.dev.portOpen init = true → s.dev.ctxRuns (s.dev.tag init) = false →
    Gives (.pwrHoldTake init) s (s.dev.pwrRefuse init) ∧ Gives (.pwrHoldRelease init) s (s.dev.pwrRefuse init)) ∧
  (∀ (s : State) (c : Nat), Gives (.pwrLeaseLapse c) s (s.dev.setLeases (s.dev.pwr.leases.filter (· ≠ c)))) ∧
  (∀ (s : State) (init k : Nat), s.dev.portOpen init = true → 3 ≤ k → k ≤ 15 → s.dev.ctxBarred (s.dev.tag init) = false →
    Gives (.domainReset init k) s ((s.dev.domainReset k).answered 0)) ∧
  (∀ (s : State) (init k : Nat), s.dev.portOpen init = true → k < 3 → Gives (.domainReset init k) s (s.dev.pwrRefuse init)) ∧
  (∀ (s : State) (k : Nat), s.dev.pwr.resetting.contains k = true → k = 15 →
    Ends (.domainResetDone k) s fun d => d.bit PWR_STAT_DOMON 0 k = true ∧ d.rd PWR_EVT_DRDONE = 1 ∧
      d.pwr = { s.dev.pwr with resetting := s.dev.pwr.resetting.filter (· ≠ k) }) ∧
  (∀ (s : State) (k : Nat), s.dev.pwr.resetting.contains k = false → Gives (.domainResetDone k) s s.dev) ∧
  (∀ s : State, s.dev.sysPowered = true → Gives .busDieReset s s.dev.busDieReset) ∧
  (∀ (s : State) (h : Nat), s.dev.ctxBarred (s.dev.tag h) = false →
    Ends (.watchdogKick h h 0x4B49434B) s fun d => d.pwr = { s.dev.pwr with warned := s.dev.pwr.warned.filter (· ≠ h) } ∧ d.access = {} ∧
      { d with pwr := s.dev.pwr, access := s.dev.access } = s.dev) ∧
  (∀ (s : State) (init h key : Nat), s.dev.portOpen init = true → init ≠ h → Gives (.watchdogKick init h key) s (s.dev.pwrRefuse init)) ∧
  (∀ (s : State) (h : Nat), s.dev.dogRuns h = true → s.dev.pwr.warned.contains h = false →
    Ends (.watchdogWarning h) s fun d => d.rd PWR_EVT_WDWARN = 1 ∧ d.pwr = { s.dev.pwr with warned := s.dev.pwr.warned ++ [h] } ∧
      { d with regs := s.dev.regs, pwr := s.dev.pwr } = s.dev ∧ s.dev.regsBut d [(PWR_EVT_WDWARN, 0)]) ∧
  (∀ (s : State) (h k : Nat) (x : BootIn) (d : Dev), s.dev.dogRuns h = true →
    d = (s.dev.trig 0x0604 [h]).inc PWR_CNT_WDRESETS → d.flagi PWR_WDCFG_ACTION h = false → d.hartDomain h = some k →
    Gives (.watchdogExpiry h x) s ((d.setPwr { d.pwr with warned := d.pwr.warned.filter (· ≠ h) }).domainReset k)) ∧
  (∀ (s : State) (h : Nat) (x : BootIn) (d : Dev), s.dev.dogRuns h = true →
    d = (s.dev.trig 0x0604 [h]).inc PWR_CNT_WDRESETS → d.flagi PWR_WDCFG_ACTION h = true →
    Gives (.watchdogExpiry h x) s ((d.setPwr { d.pwr with warned := d.pwr.warned.filter (· ≠ h) }).warmReset 3 true x))

/-- R675, R677, R680, R681, R685 to R688: the lapse of the staging lock, the activation time, and the confirmation of an item on
probation or the end of its window. -/
def Obligations.UpdateEvents : Prop :=
  (∀ (s : State) (l : Nat × Nat), s.dev.upd.lock = some l → (s.dev.updState = 1 ∨ s.dev.updState = 2) → s.dev.upd.closing = none →
    Gives .stagingLockLapse s ((s.dev.updDiscard.trig 0x0522 [l.1]).updNotice 6 l.1)) ∧
  (∀ (s : State) (l : Nat × Nat), s.dev.upd.lock = some l → (s.dev.updState = 3 ∨ s.dev.upd.closing.isSome = true) →
    Gives .stagingLockLapse s s.dev) ∧
  (∀ (s : State) (i : UpdItem) (ok : Bool), s.dev.upd.item = some i → s.dev.updState = 3 → s.dev.notReady i ok = 0 →
    Gives (.activationTime ok) s (((s.dev.activate i).finishArmed s.dev.upd.armed 0).updNotice 2 i.version)) ∧
  (∀ (s : State) (i : UpdItem) (ok : Bool), s.dev.upd.item = some i → s.dev.updState = 3 → s.dev.notReady i ok ≠ 0 →
    Gives (.activationTime ok) s (s.dev.activateNot (s.dev.notReady i ok))) ∧
  (∀ (s : State) (i : UpdItem) (ok : Bool), s.dev.upd.item = some i → s.dev.updState ≠ 3 → Gives (.activationTime ok) s s.dev) ∧
  (∀ (s : State) (init : Nat), s.dev.portOpen init = true → s.dev.domainOn 2 = true → s.dev.c0Tag init = true → s.dev.updState = 4 → s.dev.mayConfirm = true →
    Gives (.updConfirm init 0x434F4E46) s ((s.dev.answered 0).confirm.answered 0)) ∧
  (∀ (s : State) (init key : Nat), s.dev.portOpen init = true → s.dev.domainOn 2 = true → key ≠ 0x434F4E46 → Gives (.updConfirm init key) s (s.dev.answered 0)) ∧
  (∀ s : State, s.dev.coreRuns = true → s.dev.updState = 4 → s.dev.upd.boot.try_ = true →
    Gives .confirmExpiry s (s.dev.fallback 1))
end

