-- ==== Sys2Proof/Laws/PerInstr.lean ====
section
/-! SUPPORT. Facts about each command as syntax, one lemma per constructor: a well-formed command that an initiator makes names
a hart or the debug port (R206, R619). -/

namespace Sys2Proof

open Machine

/-- The first of several conditions that hold. -/
theorem and_first {a b : Bool} (h : (a && b) = true) : a = true := (Bool.and_eq_true_iff.mp h).1

namespace Laws.Fields

/-- A well-formed command that an initiator makes is made by a hart or the debug port. -/
def Statement (i : Instr) : Prop := i.wellFormed = true → ∀ n, i.madeBy = some n → initiator n = true

theorem pickBoundary (x : PickIn) : Statement (.pickBoundary x) :=
  fun _ _ e => nomatch e
theorem cardSwap : Statement (.cardSwap) :=
  fun _ _ e => nomatch e
theorem swapAbandon : Statement (.swapAbandon) :=
  fun _ _ e => nomatch e
theorem sourceQualify (phErr : Int) : Statement (.sourceQualify phErr) :=
  fun _ _ e => nomatch e
theorem alignment (pick : Nat) (x : PickIn) : Statement (.alignment pick x) :=
  fun _ _ e => nomatch e
theorem sourceLoss : Statement (.sourceLoss) :=
  fun _ _ e => nomatch e
theorem holdoverExpiry (tie : Bool) : Statement (.holdoverExpiry tie) :=
  fun _ _ e => nomatch e
theorem phaseStep (phErr : Int) : Statement (.phaseStep phErr) :=
  fun _ _ e => nomatch e
theorem positionEdge (a : Bool) (b : Bool) (gap : Nat) (ns : Nat) (index : Bool) (x : PickIn) : Statement (.positionEdge a b gap ns index x) :=
  fun _ _ e => nomatch e
theorem indexAccepted (ns : Nat) (x : PickIn) : Statement (.indexAccepted ns x) :=
  fun _ _ e => nomatch e
theorem zeroCrossing (t : Nat) (x : Nat) : Statement (.zeroCrossing t x) :=
  fun _ _ e => nomatch e
theorem tableReadCorrected (idx : Nat) : Statement (.tableReadCorrected idx) :=
  fun _ _ e => nomatch e
theorem nop (idx : Nat) : Statement (.nop idx) :=
  fun _ _ e => nomatch e
theorem take (idx : Nat) : Statement (.take idx) :=
  fun _ _ e => nomatch e
theorem sample (idx : Nat) : Statement (.sample idx) :=
  fun _ _ e => nomatch e
theorem stamp (idx : Nat) : Statement (.stamp idx) :=
  fun _ _ e => nomatch e
theorem move (idx : Nat) : Statement (.move idx) :=
  fun _ _ e => nomatch e
theorem scale (idx : Nat) : Statement (.scale idx) :=
  fun _ _ e => nomatch e
theorem pack (idx : Nat) : Statement (.pack idx) :=
  fun _ _ e => nomatch e
theorem unpack (idx : Nat) : Statement (.unpack idx) :=
  fun _ _ e => nomatch e
theorem send (idx : Nat) : Statement (.send idx) :=
  fun _ _ e => nomatch e
theorem drive (idx : Nat) : Statement (.drive idx) :=
  fun _ _ e => nomatch e
theorem pwmset (idx : Nat) : Statement (.pwmset idx) :=
  fun _ _ e => nomatch e
theorem gate (idx : Nat) : Statement (.gate idx) :=
  fun _ _ e => nomatch e
theorem kick (idx : Nat) : Statement (.kick idx) :=
  fun _ _ e => nomatch e
theorem mark (idx : Nat) : Statement (.mark idx) :=
  fun _ _ e => nomatch e
theorem groupCommit (init : Nat) (g : Nat) : Statement (.groupCommit init g) :=
  fun h _ e => Option.some.inj e ▸ and_first h
theorem groupFlip (g : Nat) : Statement (.groupFlip g) :=
  fun _ _ e => nomatch e
theorem signalWrite (init : Nat) (n : Nat) (off : Nat) (width : Nat) (value : Nat) : Statement (.signalWrite init n off width value) :=
  fun h _ e => Option.some.inj e ▸ and_first (and_first (and_first (and_first (and_first h))))
theorem signalRead (init : Nat) (n : Nat) (off : Nat) (width : Nat) : Statement (.signalRead init n off width) :=
  fun h _ e => Option.some.inj e ▸ and_first (and_first (and_first (and_first h)))
theorem staleSweep (n : Nat) : Statement (.staleSweep n) :=
  fun _ _ e => nomatch e
theorem q0Move : Statement (.q0Move) :=
  fun _ _ e => nomatch e
theorem ttRxMove : Statement (.ttRxMove) :=
  fun _ _ e => nomatch e
theorem i2ObjectMove : Statement (.i2ObjectMove) :=
  fun _ _ e => nomatch e
theorem presenceEvidence (partner : Nat) : Statement (.presenceEvidence partner) :=
  fun _ _ e => nomatch e
theorem discoverExpiry (partner : Nat) (tie : Bool) : Statement (.discoverExpiry partner tie) :=
  fun _ _ e => nomatch e
theorem lossExpiry (partner : Nat) (tie : Bool) : Statement (.lossExpiry partner tie) :=
  fun _ _ e => nomatch e
theorem sysctlEvtClear (init : Nat) (value : Nat) : Statement (.sysctlEvtClear init value) :=
  fun h _ e => Option.some.inj e ▸ and_first h
theorem ctxEvtClear (init : Nat) (value : Nat) : Statement (.ctxEvtClear init value) :=
  fun h _ e => Option.some.inj e ▸ and_first h
theorem ctxHartWrite (init : Nat) (h : Nat) (valid : Nat) (bind : Nat) (ctx : Nat) : Statement (.ctxHartWrite init h valid bind ctx) :=
  fun h _ e => Option.some.inj e ▸ and_first (and_first (and_first (and_first h)))
theorem resetSelf (init : Nat) (ctx : Nat) : Statement (.resetSelf init ctx) :=
  fun h _ e => Option.some.inj e ▸ and_first h
theorem runSelf (init : Nat) (ctx : Nat) : Statement (.runSelf init ctx) :=
  fun h _ e => Option.some.inj e ▸ and_first h
theorem contextResetComplete (c : Nat) : Statement (.contextResetComplete c) :=
  fun _ _ e => nomatch e
theorem bobbinWrite (q : Nat) (kind : Nat) (payload : List Byte) : Statement (.bobbinWrite q kind payload) :=
  fun _ _ e => nomatch e
theorem bobbinPop (init : Nat) (h : Nat) : Statement (.bobbinPop init h) :=
  fun h _ e => Option.some.inj e ▸ and_first h
theorem timerConfig (init : Nat) (k : Nat) (exp : Nat) (unit : Nat) (mode : Nat) : Statement (.timerConfig init k exp unit mode) :=
  fun h _ e => Option.some.inj e ▸ and_first (and_first (and_first (and_first h)))
theorem timerExpiry (k : Nat) : Statement (.timerExpiry k) :=
  fun _ _ e => nomatch e
theorem doorbellRing (init : Nat) (b : Nat) (data : Nat) : Statement (.doorbellRing init b data) :=
  fun h _ e => Option.some.inj e ▸ and_first (and_first h)
theorem noticePop (init : Nat) (b : Nat) : Statement (.noticePop init b) :=
  fun h _ e => Option.some.inj e ▸ and_first h
theorem commandFrameReceived (b : Nat) (good : Bool) : Statement (.commandFrameReceived b good) :=
  fun _ _ e => nomatch e
theorem linkHeartbeat (b : Nat) : Statement (.linkHeartbeat b) :=
  fun _ _ e => nomatch e
theorem linkSilence (b : Nat) : Statement (.linkSilence b) :=
  fun _ _ e => nomatch e
theorem holdExpiry (m : Nat) : Statement (.holdExpiry m) :=
  fun _ _ e => nomatch e
theorem pickMark (b : Nat) (ns : Nat) (atMark : List Sense) (atMid : List Sense) (case : Nat) (vsup : Nat) : Statement (.pickMark b ns atMark atMid case vsup) :=
  fun _ _ e => nomatch e
theorem pwmPeriodStart (m : Nat) : Statement (.pwmPeriodStart m) :=
  fun _ _ e => nomatch e
theorem pwmHighTimeEnd (m : Nat) : Statement (.pwmHighTimeEnd m) :=
  fun _ _ e => nomatch e
theorem pwmRestart (m : Nat) : Statement (.pwmRestart m) :=
  fun _ _ e => nomatch e
theorem inrushWindowEnd (m : Nat) : Statement (.inrushWindowEnd m) :=
  fun _ _ e => nomatch e
theorem limiterRegulate (m : Nat) (cur : Nat) : Statement (.limiterRegulate m cur) :=
  fun _ _ e => nomatch e
theorem dwellTrip (m : Nat) (run : Nat) (same : List Nat) : Statement (.dwellTrip m run same) :=
  fun _ _ e => nomatch e
theorem dtTrip (m : Nat) (d0 : Int) (d1 : Int) (d2 : Int) (same : List Nat) : Statement (.dtTrip m d0 d1 d2 same) :=
  fun _ _ e => nomatch e
theorem tjTrip (m : Nat) (t0 : Int) (t1 : Int) (t2 : Int) (same : List Nat) : Statement (.tjTrip m t0 t1 t2 same) :=
  fun _ _ e => nomatch e
theorem wireModelUpdate (m : Nat) (cur : List (List Nat)) (same : List Nat) : Statement (.wireModelUpdate m cur same) :=
  fun _ _ e => nomatch e
theorem coolRecovery (m : Nat) (ms : Nat) (tj : List Int) (dt : List Int) : Statement (.coolRecovery m ms tj dt) :=
  fun _ _ e => nomatch e
theorem latchClear (init : Nat) (m : Nat) (value : Nat) : Statement (.latchClear init m value) :=
  fun h _ e => Option.some.inj e ▸ and_first (and_first h)
theorem openLoadFilterEnd (m : Nat) (mv : Nat) : Statement (.openLoadFilterEnd m mv) :=
  fun _ _ e => nomatch e
theorem openLoadCompare (m : Nat) (mv : Nat) : Statement (.openLoadCompare m mv) :=
  fun _ _ e => nomatch e
theorem manualDrive (init : Nat) (m : Nat) (cmd : Nat) : Statement (.manualDrive init m cmd) :=
  fun h _ e => Option.some.inj e ▸ and_first (and_first h)
theorem manualDriveEnd (init : Nat) (m : Nat) (cmd : Nat) : Statement (.manualDriveEnd init m cmd) :=
  fun h _ e => Option.some.inj e ▸ and_first (and_first h)
theorem manualLeaseExpiry (m : Nat) (tie : Bool) : Statement (.manualLeaseExpiry m tie) :=
  fun _ _ e => nomatch e
theorem classCheckEnd (b : Nat) (lo : Nat) (hi : Nat) : Statement (.classCheckEnd b lo hi) :=
  fun _ _ e => nomatch e
theorem overvoltageLock (b : Nat) (lo : Nat) (us : Nat) : Statement (.overvoltageLock b lo us) :=
  fun _ _ e => nomatch e
theorem undervoltageLock (b : Nat) (hi : Nat) (us : Nat) : Statement (.undervoltageLock b hi us) :=
  fun _ _ e => nomatch e
theorem supplyUnlock (b : Nat) (lo : Nat) (hi : Nat) (us : Nat) : Statement (.supplyUnlock b lo hi us) :=
  fun _ _ e => nomatch e
theorem keeperReset (b : Nat) (hi : Nat) (us : Nat) : Statement (.keeperReset b hi us) :=
  fun _ _ e => nomatch e
theorem keeperStart (b : Nat) (lo : Nat) (us : Nat) : Statement (.keeperStart b lo us) :=
  fun _ _ e => nomatch e
theorem budgetSample (b : Nat) (cur : List Nat) (trips : List (Nat × Nat)) : Statement (.budgetSample b cur trips) :=
  fun _ _ e => nomatch e
theorem dissipationEstimate (b : Nat) (cur : List (List Nat)) (tj : List Int) (trips : List (Nat × Nat)) : Statement (.dissipationEstimate b cur tj trips) :=
  fun _ _ e => nomatch e
theorem caseLimit (b : Nat) (t1 : Int) (t2 : Int) (cur : List Nat) (trips : List (Nat × Nat)) : Statement (.caseLimit b t1 t2 cur trips) :=
  fun _ _ e => nomatch e
theorem thermalShed (b : Nat) (cur : List Nat) (trips : List (Nat × Nat)) : Statement (.thermalShed b cur trips) :=
  fun _ _ e => nomatch e
theorem shortEventEnd (b : Nat) : Statement (.shortEventEnd b) :=
  fun _ _ e => nomatch e
theorem cellTest (m : Nat) (cells : List Nat) (spare : Nat) : Statement (.cellTest m cells spare) :=
  fun _ _ e => nomatch e
theorem canFrameReceived (c : Nat) (f : CanFrame) : Statement (.canFrameReceived c f) :=
  fun _ _ e => nomatch e
theorem canTxstart (init : Nat) (c : Nat) (mask : Nat) : Statement (.canTxstart init c mask) :=
  fun h _ e => Option.some.inj e ▸ and_first (and_first h)
theorem canTxcan (init : Nat) (c : Nat) (mask : Nat) : Statement (.canTxcan init c mask) :=
  fun h _ e => Option.some.inj e ▸ and_first (and_first h)
theorem canBufferWrite (init : Nat) (c : Nat) (k : Nat) (off : Nat) (data : List Byte) : Statement (.canBufferWrite init c k off data) :=
  fun h _ e => Option.some.inj e ▸ and_first (and_first (and_first h))
theorem canArbitrationWon (c : Nat) (b : Nat) (delay : Nat) : Statement (.canArbitrationWon c b delay) :=
  fun _ _ e => nomatch e
theorem canTxError (c : Nat) (b : Nat) (lost : Bool) (ref : Bool) : Statement (.canTxError c b lost ref) :=
  fun _ _ e => nomatch e
theorem canFrameAcked (c : Nat) (b : Nat) : Statement (.canFrameAcked c b) :=
  fun _ _ e => nomatch e
theorem canAckError (c : Nat) (b : Nat) (dominant : Bool) : Statement (.canAckError c b dominant) :=
  fun _ _ e => nomatch e
theorem busOffDelayEnd (c : Nat) : Statement (.busOffDelayEnd c) :=
  fun _ _ e => nomatch e
theorem busOffRecovered (c : Nat) : Statement (.busOffRecovered c) :=
  fun _ _ e => nomatch e
theorem ttSlotStart (t : Nat) (slot : Nat) (start : Nat) (til : Nat) : Statement (.ttSlotStart t slot start til) :=
  fun _ _ e => nomatch e
theorem ttFrameReceived (t : Nat) (f : TtFrame) : Statement (.ttFrameReceived t f) :=
  fun _ _ e => nomatch e
theorem ttDynamicSend (t : Nat) (k : Nat) (mini : Nat) : Statement (.ttDynamicSend t k mini) :=
  fun _ _ e => nomatch e
theorem ttClusterAwake (t : Nat) : Statement (.ttClusterAwake t) :=
  fun _ _ e => nomatch e
theorem ttListenTimeout (t : Nat) (silent : Nat) : Statement (.ttListenTimeout t silent) :=
  fun _ _ e => nomatch e
theorem ttStartupComplete (t : Nat) : Statement (.ttStartupComplete t) :=
  fun _ _ e => nomatch e
theorem ttColdstartAbandon (t : Nat) : Statement (.ttColdstartAbandon t) :=
  fun _ _ e => nomatch e
theorem ttColdstartExhausted (t : Nat) : Statement (.ttColdstartExhausted t) :=
  fun _ _ e => nomatch e
theorem ttClockCorrectionMissing (t : Nat) : Statement (.ttClockCorrectionMissing t) :=
  fun _ _ e => nomatch e
theorem ttClockCorrectionRegained (t : Nat) (rates : List Int) (offsets : List Int) : Statement (.ttClockCorrectionRegained t rates offsets) :=
  fun _ _ e => nomatch e
theorem ttHaltExpiry (t : Nat) : Statement (.ttHaltExpiry t) :=
  fun _ _ e => nomatch e
theorem guardianCycleMark (t : Nat) (cycle : Nat) (len : Nat) : Statement (.guardianCycleMark t cycle len) :=
  fun _ _ e => nomatch e
theorem guardianMarkTimeout (t : Nat) : Statement (.guardianMarkTimeout t) :=
  fun _ _ e => nomatch e
theorem ttTruncation (t : Nat) (ch : Nat) (start : Nat) (til : Nat) : Statement (.ttTruncation t ch start til) :=
  fun _ _ e => nomatch e
theorem ttWakeFrames (t : Nat) : Statement (.ttWakeFrames t) :=
  fun _ _ e => nomatch e
theorem swxFrameIngress (p : Nat) (f : EthFrame) (x : SecIn) (t : Nat) : Statement (.swxFrameIngress p f x t) :=
  fun _ _ e => nomatch e
theorem swxFrameEgress (p : Nat) (t : Nat) : Statement (.swxFrameEgress p t) :=
  fun _ _ e => nomatch e
theorem swxRingTransmit (p : Nat) (t : Nat) : Statement (.swxRingTransmit p t) :=
  fun _ _ e => nomatch e
theorem swxLinkLost (p : Nat) (t : Nat) : Statement (.swxLinkLost p t) :=
  fun _ _ e => nomatch e
theorem swxLinkReturn (p : Nat) (rate : Nat) : Statement (.swxLinkReturn p rate) :=
  fun _ _ e => nomatch e
theorem swxLinkHoldExpiry (p : Nat) : Statement (.swxLinkHoldExpiry p) :=
  fun _ _ e => nomatch e
theorem swxGateEntry (p : Nat) (pos : Nat) : Statement (.swxGateEntry p pos) :=
  fun _ _ e => nomatch e
theorem gptpSync (p : Nat) : Statement (.gptpSync p) :=
  fun _ _ e => nomatch e
theorem gptpSyncTimeout : Statement (.gptpSyncTimeout) :=
  fun _ _ e => nomatch e
theorem gptpClockStep : Statement (.gptpClockStep) :=
  fun _ _ e => nomatch e
theorem ppsInEdge (ns : Nat) : Statement (.ppsInEdge ns) :=
  fun _ _ e => nomatch e
theorem ppsOutPulse : Statement (.ppsOutPulse) :=
  fun _ _ e => nomatch e
theorem frerReset (r : Nat) : Statement (.frerReset r) :=
  fun _ _ e => nomatch e
theorem macsecOldKeyExpiry (p : Nat) : Statement (.macsecOldKeyExpiry p) :=
  fun _ _ e => nomatch e
theorem brgWindowWrite (init : Nat) (w : Nat) (off : Nat) (size : Nat) (data : Nat) : Statement (.brgWindowWrite init w off size data) :=
  fun h _ e => Option.some.inj e ▸ and_first (and_first (and_first (and_first h)))
theorem brgWindowRead (init : Nat) (w : Nat) (off : Nat) (size : Nat) : Statement (.brgWindowRead init w off size) :=
  fun h _ e => Option.some.inj e ▸ and_first (and_first (and_first h))
theorem brgReadStallEnd (h : Nat) : Statement (.brgReadStallEnd h) :=
  fun _ _ e => nomatch e
theorem brgRequestSend (w : Nat) : Statement (.brgRequestSend w) :=
  fun _ _ e => nomatch e
theorem brgAnswer (w : Nat) (type : Nat) (seq : Nat) (addr : Nat) (data : Nat) : Statement (.brgAnswer w type seq addr data) :=
  fun _ _ e => nomatch e
theorem brgResponseTimeout (w : Nat) : Statement (.brgResponseTimeout w) :=
  fun _ _ e => nomatch e
theorem brgCollectRead (init : Nat) (q : Nat) : Statement (.brgCollectRead init q) :=
  fun h _ e => Option.some.inj e ▸ and_first h
theorem brgCollectExpiry (q : Nat) : Statement (.brgCollectExpiry q) :=
  fun _ _ e => nomatch e
theorem brgCabort (init : Nat) (q : Nat) : Statement (.brgCabort init q) :=
  fun h _ e => Option.some.inj e ▸ and_first h
theorem brgWackResume (init : Nat) (w : Nat) : Statement (.brgWackResume init w) :=
  fun h _ e => Option.some.inj e ▸ and_first h
theorem brgWackDiscard (init : Nat) (w : Nat) : Statement (.brgWackDiscard init w) :=
  fun h _ e => Option.some.inj e ▸ and_first h
theorem brgIwrite (bus : Nat) (unit : Nat) (node : Nat) (seq : Nat) (size : Nat) (addr : Nat) (data : Value) : Statement (.brgIwrite bus unit node seq size addr data) :=
  fun _ _ e => nomatch e
theorem brgPollDue (w : Nat) : Statement (.brgPollDue w) :=
  fun _ _ e => nomatch e
theorem brgProbeDue (w : Nat) : Statement (.brgProbeDue w) :=
  fun _ _ e => nomatch e
theorem nmwReqSet (init : Nat) (k : Nat) (reason : Nat) : Statement (.nmwReqSet init k reason) :=
  fun h _ e => Option.some.inj e ▸ and_first (and_first h)
theorem nmwReqRelease (init : Nat) (k : Nat) : Statement (.nmwReqRelease init k) :=
  fun h _ e => Option.some.inj e ▸ and_first h
theorem keepAwakeSend (k : Nat) : Statement (.keepAwakeSend k) :=
  fun _ _ e => nomatch e
theorem keepAwakeReceived (m : KaMsg) : Statement (.keepAwakeReceived m) :=
  fun _ _ e => nomatch e
theorem sleepWaitExpiry (k : Nat) : Statement (.sleepWaitExpiry k) :=
  fun _ _ e => nomatch e
theorem prepareExpiry (k : Nat) : Statement (.prepareExpiry k) :=
  fun _ _ e => nomatch e
theorem sleepCommitComplete (k : Nat) : Statement (.sleepCommitComplete k) :=
  fun _ _ e => nomatch e
theorem wakeEvent (k : Nat) (cause : Nat) (unit : Nat) (node : Nat) : Statement (.wakeEvent k cause unit node) :=
  fun _ _ e => nomatch e
theorem selectiveWakeOverflow (c : Nat) : Statement (.selectiveWakeOverflow c) :=
  fun _ _ e => nomatch e
theorem awakeLimitReached (k : Nat) : Statement (.awakeLimitReached k) :=
  fun _ _ e => nomatch e
theorem awakeStretchEnd (k : Nat) (dur : Nat) : Statement (.awakeStretchEnd k dur) :=
  fun _ _ e => nomatch e
theorem hello (check : MsgCheck) (host : Nat) (number : Nat) (nonce : Nat) (epub : Nat) : Statement (.hello check host number nonce epub) :=
  fun _ _ e => nomatch e
theorem proof (m : Msg) (resp : List Byte) : Statement (.proof m resp) :=
  fun _ _ e => nomatch e
theorem lockoutEnd : Statement (.lockoutEnd) :=
  fun _ _ e => nomatch e
theorem halfOpenTimeout (number : Nat) : Statement (.halfOpenTimeout number) :=
  fun _ _ e => nomatch e
theorem sessionIdleTimeout (number : Nat) : Statement (.sessionIdleTimeout number) :=
  fun _ _ e => nomatch e
theorem ping (m : Msg) : Statement (.ping m) :=
  fun _ _ e => nomatch e
theorem bye (m : Msg) : Statement (.bye m) :=
  fun _ _ e => nomatch e
theorem subscribe (m : Msg) (on : Nat) : Statement (.subscribe m on) :=
  fun _ _ e => nomatch e
theorem abort (m : Msg) (target : Nat) (late : Bool) : Statement (.abort m target late) :=
  fun _ _ e => nomatch e
theorem restart (m : Msg) : Statement (.restart m) :=
  fun _ _ e => nomatch e
theorem updOpen (m : Msg) (ikind : Nat) (total : Nat) (xfer : Nat) : Statement (.updOpen m ikind total xfer) :=
  fun _ _ e => nomatch e
theorem updBlock (m : Msg) (xfer : Nat) (offset : Nat) (data : List Byte) (found : BlockFind) : Statement (.updBlock m xfer offset data found) :=
  fun _ _ e => nomatch e
theorem updClose (m : Msg) (xfer : Nat) : Statement (.updClose m xfer) :=
  fun _ _ e => nomatch e
theorem updActivate (m : Msg) (xfer : Nat) (when_ : Nat) (at_ : Nat) (now : Nat) : Statement (.updActivate m xfer when_ at_ now) :=
  fun _ _ e => nomatch e
theorem updCancel (m : Msg) (xfer : Nat) : Statement (.updCancel m xfer) :=
  fun _ _ e => nomatch e
theorem updStatus (m : Msg) : Statement (.updStatus m) :=
  fun _ _ e => nomatch e
theorem invGet (m : Msg) : Statement (.invGet m) :=
  fun _ _ e => nomatch e
theorem presGet (m : Msg) (first : Nat) (count : Nat) : Statement (.presGet m first count) :=
  fun _ _ e => nomatch e
theorem recRead (m : Msg) (fromSeq : Nat) (count : Nat) : Statement (.recRead m fromSeq count) :=
  fun _ _ e => nomatch e
theorem recClear (m : Msg) : Statement (.recClear m) :=
  fun _ _ e => nomatch e
theorem keyLoad (m : Msg) (slot : Nat) (wrap : Nat) (len : Nat) (found : KeyFinding) : Statement (.keyLoad m slot wrap len found) :=
  fun _ _ e => nomatch e
theorem keyCommit (m : Msg) (slot : Nat) : Statement (.keyCommit m slot) :=
  fun _ _ e => nomatch e
theorem keyInval (m : Msg) (slot : Nat) : Statement (.keyInval m slot) :=
  fun _ _ e => nomatch e
theorem outChal (m : Msg) (slot : Nat) (nonce : Nat) : Statement (.outChal m slot nonce) :=
  fun _ _ e => nomatch e
theorem lcChange (m : Msg) (target : Nat) (auth : List Byte) : Statement (.lcChange m target auth) :=
  fun _ _ e => nomatch e
theorem sigRead (m : Msg) (first : Nat) (count : Nat) : Statement (.sigRead m first count) :=
  fun _ _ e => nomatch e
theorem sigForce (m : Msg) (signal : Nat) (value : Value) : Statement (.sigForce m signal value) :=
  fun _ _ e => nomatch e
theorem sigRelease (m : Msg) (signal : Nat) : Statement (.sigRelease m signal) :=
  fun _ _ e => nomatch e
theorem chMan (m : Msg) (channel : Nat) (en : Nat) (cmd : Nat) : Statement (.chMan m channel en cmd) :=
  fun _ _ e => nomatch e
theorem sleepReq (m : Msg) (cluster : Nat) (on : Nat) : Statement (.sleepReq m cluster on) :=
  fun _ _ e => nomatch e
theorem ctxReset (m : Msg) (c : Nat) : Statement (.ctxReset m c) :=
  fun _ _ e => nomatch e
theorem ctxStop (m : Msg) (c : Nat) : Statement (.ctxStop m c) :=
  fun _ _ e => nomatch e
theorem ctxRestart (m : Msg) (c : Nat) : Statement (.ctxRestart m c) :=
  fun _ _ e => nomatch e
theorem ctxStat (m : Msg) (c : Nat) : Statement (.ctxStat m c) :=
  fun _ _ e => nomatch e
theorem trdIdle (m : Msg) : Statement (.trdIdle m) :=
  fun _ _ e => nomatch e
theorem trdRelease (m : Msg) : Statement (.trdRelease m) :=
  fun _ _ e => nomatch e
theorem noticeAck (m : Msg) (notice : Nat) : Statement (.noticeAck m notice) :=
  fun _ _ e => nomatch e
theorem noticeResend (number : Nat) (notice : Nat) : Statement (.noticeResend number notice) :=
  fun _ _ e => nomatch e
theorem neighborSolicitation (own : Bool) (src : Nat) : Statement (.neighborSolicitation own src) :=
  fun _ _ e => nomatch e
theorem icmpv6Echo (own : Bool) (src : Nat) (ident : Nat) (seq : Nat) (data : List Nat) : Statement (.icmpv6Echo own src ident seq data) :=
  fun _ _ e => nomatch e
theorem reassemblyTimeout (src : Nat) (ident : Nat) : Statement (.reassemblyTimeout src ident) :=
  fun _ _ e => nomatch e
theorem lockstepMismatch (j : Nat) : Statement (.lockstepMismatch j) :=
  fun _ _ e => nomatch e
theorem sramEccRead (addr : Nat) (n : Nat) (unc : Bool) : Statement (.sramEccRead addr n unc) :=
  fun _ _ e => nomatch e
theorem sramScrub (cor : List Nat) (unc : List Nat) : Statement (.sramScrub cor unc) :=
  fun _ _ e => nomatch e
theorem gcmEnc (init : Nat) (n : Nat) (slot : Nat) (irq : Bool) : Statement (.gcmEnc init n slot irq) :=
  fun h _ e => Option.some.inj e ▸ and_first (and_first h)
theorem gcmDec (init : Nat) (n : Nat) (slot : Nat) (irq : Bool) : Statement (.gcmDec init n slot irq) :=
  fun h _ e => Option.some.inj e ▸ and_first (and_first h)
theorem cmac (init : Nat) (n : Nat) (slot : Nat) (irq : Bool) : Statement (.cmac init n slot irq) :=
  fun h _ e => Option.some.inj e ▸ and_first (and_first h)
theorem cmacVer (init : Nat) (n : Nat) (slot : Nat) (irq : Bool) : Statement (.cmacVer init n slot irq) :=
  fun h _ e => Option.some.inj e ▸ and_first (and_first h)
theorem hmac (init : Nat) (n : Nat) (slot : Nat) (irq : Bool) : Statement (.hmac init n slot irq) :=
  fun h _ e => Option.some.inj e ▸ and_first (and_first h)
theorem hmacVer (init : Nat) (n : Nat) (slot : Nat) (irq : Bool) : Statement (.hmacVer init n slot irq) :=
  fun h _ e => Option.some.inj e ▸ and_first (and_first h)
theorem sign (init : Nat) (n : Nat) (slot : Nat) (irq : Bool) : Statement (.sign init n slot irq) :=
  fun h _ e => Option.some.inj e ▸ and_first (and_first h)
theorem verify (init : Nat) (n : Nat) (slot : Nat) (irq : Bool) : Statement (.verify init n slot irq) :=
  fun h _ e => Option.some.inj e ▸ and_first (and_first h)
theorem ecdh (init : Nat) (n : Nat) (slot : Nat) (irq : Bool) : Statement (.ecdh init n slot irq) :=
  fun h _ e => Option.some.inj e ▸ and_first (and_first h)
theorem kdf (init : Nat) (n : Nat) (slot : Nat) (irq : Bool) : Statement (.kdf init n slot irq) :=
  fun h _ e => Option.some.inj e ▸ and_first (and_first h)
theorem hkdf (init : Nat) (n : Nat) (slot : Nat) (irq : Bool) : Statement (.hkdf init n slot irq) :=
  fun h _ e => Option.some.inj e ▸ and_first (and_first h)
theorem chal (init : Nat) (n : Nat) (slot : Nat) (irq : Bool) : Statement (.chal init n slot irq) :=
  fun h _ e => Option.some.inj e ▸ and_first (and_first h)
theorem load (init : Nat) (n : Nat) (slot : Nat) (irq : Bool) : Statement (.load init n slot irq) :=
  fun h _ e => Option.some.inj e ▸ and_first (and_first h)
theorem commit (init : Nat) (n : Nat) (irq : Bool) : Statement (.commit init n irq) :=
  fun h _ e => Option.some.inj e ▸ and_first h
theorem inval (init : Nat) (n : Nat) (irq : Bool) : Statement (.inval init n irq) :=
  fun h _ e => Option.some.inj e ▸ and_first h
theorem sha256 (init : Nat) (n : Nat) (irq : Bool) : Statement (.sha256 init n irq) :=
  fun h _ e => Option.some.inj e ▸ and_first h
theorem sha384 (init : Nat) (n : Nat) (irq : Bool) : Statement (.sha384 init n irq) :=
  fun h _ e => Option.some.inj e ▸ and_first h
theorem keyOpAbort (init : Nat) (n : Nat) : Statement (.keyOpAbort init n) :=
  fun h _ e => Option.some.inj e ▸ and_first h
theorem keyOpComplete (n : Nat) (found : KeyFinding) : Statement (.keyOpComplete n found) :=
  fun _ _ e => nomatch e
theorem keyOpRelease (init : Nat) (n : Nat) : Statement (.keyOpRelease init n) :=
  fun h _ e => Option.some.inj e ▸ and_first h
theorem tamper (cause : Nat) (value : Int) (ns : Nat) (x : BootIn) : Statement (.tamper cause value ns x) :=
  fun _ _ e => nomatch e
theorem vkeepLoss (mv : Nat) (ns : Nat) (x : BootIn) : Statement (.vkeepLoss mv ns x) :=
  fun _ _ e => nomatch e
theorem idcode : Statement (.idcode) :=
  fun _ _ e => nomatch e
theorem samplePreload (lands : List Nat) : Statement (.samplePreload lands) :=
  fun _ _ e => nomatch e
theorem extest (lands : List Nat) : Statement (.extest lands) :=
  fun _ _ e => nomatch e
theorem dtmcs : Statement (.dtmcs) :=
  fun _ _ e => nomatch e
theorem dmi (o : DmiOp) : Statement (.dmi o) :=
  fun _ _ e => nomatch e
theorem dbgchal (level : Nat) (nonce : Nat) : Statement (.dbgchal level nonce) :=
  fun _ _ e => nomatch e
theorem dbgresp (resp : List Byte) : Statement (.dbgresp resp) :=
  fun _ _ e => nomatch e
theorem dbgstat : Statement (.dbgstat) :=
  fun _ _ e => nomatch e
theorem wakereq (bit : Bool) : Statement (.wakereq bit) :=
  fun _ _ e => nomatch e
theorem bypass : Statement (.bypass) :=
  fun _ _ e => nomatch e
theorem ntrst : Statement (.ntrst) :=
  fun _ _ e => nomatch e
theorem nonceExpiry : Statement (.nonceExpiry) :=
  fun _ _ e => nomatch e
theorem dbgLockoutEnd : Statement (.dbgLockoutEnd) :=
  fun _ _ e => nomatch e
theorem dbgClose (init : Nat) : Statement (.dbgClose init) :=
  fun h _ e => Option.some.inj e ▸ h
theorem recTrig (init : Nat) (code : Nat) : Statement (.recTrig init code) :=
  fun h _ e => Option.some.inj e ▸ and_first h
theorem bucketToken (b : Nat) : Statement (.bucketToken b) :=
  fun _ _ e => nomatch e
theorem recRingWrite : Statement (.recRingWrite) :=
  fun _ _ e => nomatch e
theorem recCursor (init : Nat) (seq : Nat) : Statement (.recCursor init seq) :=
  fun h _ e => Option.some.inj e ▸ and_first h
theorem optimeTick : Statement (.optimeTick) :=
  fun _ _ e => nomatch e
theorem optimeSave : Statement (.optimeSave) :=
  fun _ _ e => nomatch e
theorem stagingLockLapse : Statement (.stagingLockLapse) :=
  fun _ _ e => nomatch e
theorem activationTime (supplyOk : Bool) : Statement (.activationTime supplyOk) :=
  fun _ _ e => nomatch e
theorem updConfirm (init : Nat) (key : Nat) : Statement (.updConfirm init key) :=
  fun h _ e => Option.some.inj e ▸ and_first h
theorem confirmExpiry : Statement (.confirmExpiry) :=
  fun _ _ e => nomatch e
theorem orderedRestart (x : BootIn) : Statement (.orderedRestart x) :=
  fun _ _ e => nomatch e
theorem powerOnReset : Statement (.powerOnReset) :=
  fun _ _ e => nomatch e
theorem startupTimeout (x : BootIn) : Statement (.startupTimeout x) :=
  fun _ _ e => nomatch e
theorem brownOut : Statement (.brownOut) :=
  fun _ _ e => nomatch e
theorem nrst (x : BootIn) : Statement (.nrst x) :=
  fun _ _ e => nomatch e
theorem powerOff : Statement (.powerOff) :=
  fun _ _ e => nomatch e
theorem vsupLow : Statement (.vsupLow) :=
  fun _ _ e => nomatch e
theorem vsupHigh : Statement (.vsupHigh) :=
  fun _ _ e => nomatch e
theorem vkeepLow : Statement (.vkeepLow) :=
  fun _ _ e => nomatch e
theorem coreTempHigh : Statement (.coreTempHigh) :=
  fun _ _ e => nomatch e
theorem clockCheck (ppm : Int) : Statement (.clockCheck ppm) :=
  fun _ _ e => nomatch e
theorem dozeEnter (init : Nat) : Statement (.dozeEnter init) :=
  fun h _ e => Option.some.inj e ▸ h
theorem dozeExit (init : Nat) : Statement (.dozeExit init) :=
  fun h _ e => Option.some.inj e ▸ h
theorem standbyRequest : Statement (.standbyRequest) :=
  fun _ _ e => nomatch e
theorem standbyCommit : Statement (.standbyCommit) :=
  fun _ _ e => nomatch e
theorem standbyCaptureDone : Statement (.standbyCaptureDone) :=
  fun _ _ e => nomatch e
theorem hibernateEntry : Statement (.hibernateEntry) :=
  fun _ _ e => nomatch e
theorem wakeFromStandby (cause : Nat) (cluster : Nat) (unit : Nat) (rising : Bool) : Statement (.wakeFromStandby cause cluster unit rising) :=
  fun _ _ e => nomatch e
theorem pwrHoldTake (init : Nat) : Statement (.pwrHoldTake init) :=
  fun h _ e => Option.some.inj e ▸ h
theorem pwrHoldRelease (init : Nat) : Statement (.pwrHoldRelease init) :=
  fun h _ e => Option.some.inj e ▸ h
theorem pwrLeaseLapse (c : Nat) : Statement (.pwrLeaseLapse c) :=
  fun _ _ e => nomatch e
theorem domainReset (init : Nat) (k : Nat) : Statement (.domainReset init k) :=
  fun h _ e => Option.some.inj e ▸ and_first h
theorem busDieReset : Statement (.busDieReset) :=
  fun _ _ e => nomatch e
theorem watchdogKick (init : Nat) (h : Nat) (key : Nat) : Statement (.watchdogKick init h key) :=
  fun h _ e => Option.some.inj e ▸ and_first (and_first h)
theorem watchdogWarning (h : Nat) : Statement (.watchdogWarning h) :=
  fun _ _ e => nomatch e
theorem watchdogExpiry (h : Nat) (x : BootIn) : Statement (.watchdogExpiry h x) :=
  fun _ _ e => nomatch e
theorem faultWindowClose (c : CounterId) : Statement (.faultWindowClose c) :=
  fun _ _ e => nomatch e
theorem memoryRowFail (addr : Nat) (unc : Bool) : Statement (.memoryRowFail addr unc) :=
  fun _ _ e => nomatch e
theorem coreError (j : Nat) : Statement (.coreError j) :=
  fun _ _ e => nomatch e
theorem canControllerError (u : Nat) : Statement (.canControllerError u) :=
  fun _ _ e => nomatch e
theorem norVerifyFail (n : Nat) : Statement (.norVerifyFail n) :=
  fun _ _ e => nomatch e
theorem busLinkCrcError : Statement (.busLinkCrcError) :=
  fun _ _ e => nomatch e
theorem registerWrite (init : Nat) (addr : Nat) (width : Nat) (value : Nat) : Statement (.registerWrite init addr width value) :=
  fun h _ e => Option.some.inj e ▸ and_first (and_first (and_first (and_first h)))
theorem rcFieldRead (init : Nat) (addr : Nat) (width : Nat) : Statement (.rcFieldRead init addr width) :=
  fun h _ e => Option.some.inj e ▸ and_first (and_first (and_first h))
theorem regulationEnd (m : Nat) (cur : Nat) : Statement (.regulationEnd m cur) :=
  fun _ _ e => nomatch e
theorem ownOscillatorPick (b : Nat) : Statement (.ownOscillatorPick b) :=
  fun _ _ e => nomatch e
theorem busIntegrationComplete (c : Nat) : Statement (.busIntegrationComplete c) :=
  fun _ _ e => nomatch e
theorem holderExpiry (k : Nat) (node : Nat) : Statement (.holderExpiry k node) :=
  fun _ _ e => nomatch e
theorem sleepCommitStepEnd (k : Nat) : Statement (.sleepCommitStepEnd k) :=
  fun _ _ e => nomatch e
theorem brgWriteStallEnd (h : Nat) : Statement (.brgWriteStallEnd h) :=
  fun _ _ e => nomatch e
theorem vsupLogGood (x : BootIn) : Statement (.vsupLogGood x) :=
  fun _ _ e => nomatch e
theorem updCloseComplete (x : CloseIn) : Statement (.updCloseComplete x) :=
  fun _ _ e => nomatch e
theorem lcTransitionComplete : Statement (.lcTransitionComplete) :=
  fun _ _ e => nomatch e
theorem ringEraseComplete : Statement (.ringEraseComplete) :=
  fun _ _ e => nomatch e
theorem domainResetDone (k : Nat) : Statement (.domainResetDone k) :=
  fun _ _ e => nomatch e
theorem uncorrectableTableRead (idx : Nat) : Statement (.uncorrectableTableRead idx) :=
  fun _ _ e => nomatch e

end Laws.Fields

end Sys2Proof
end

