-- ==== Sys2Proof/Laws/Store.lean ====
section
/-! SUPPORT. The laws of the sparse store, of memory and of the register file: what reads see after a write, and that every
operation keeps the canonical form. -/

namespace Sys2Proof.Machine

variable {α : Type}

/-! ### The sparse store -/

@[simp] theorem lookup_insert (k j : Nat) (v : α) (l : List (Nat × α)) :
    lookupList j (insertList k v l) = if j = k then some v else lookupList j l := by
  induction l with
  | nil => by_cases h : j = k <;> simp [insertList, lookupList, h]
  | cons p rest ih =>
    obtain ⟨i, u⟩ := p
    rcases lt_trichotomy k i with h | h | h
    · have h1 : k ≠ i := by omega
      simp only [insertList, h1, h, if_true, if_false, lookupList]
      split_ifs <;> first | rfl | omega
    · subst h
      simp only [insertList, if_true, lookupList]
      split_ifs <;> rfl
    · have h1 : k ≠ i := by omega
      have h2 : ¬ k < i := by omega
      simp only [insertList, h1, h2, if_false, lookupList, ih]
      split_ifs <;> first | rfl | omega

@[simp] theorem Map.find_set (m : Map α) (k j : Nat) (v : α) :
    (m.set k v).find j = if j = k then some v else m.find j := lookup_insert k j v m.items

@[simp] theorem Map.get_set (m : Map α) (k j : Nat) (v x : α) :
    (m.set k v).get j x = if j = k then v else m.get j x := by
  simp only [Map.get, Map.find_set]; split_ifs <;> rfl

theorem risingFrom_mono {lo lo' : Nat} (h : lo ≤ lo') : ∀ l : List (Nat × α), risingFrom lo' l = true → risingFrom lo l = true
  | [], _ => rfl
  | (j, _) :: rest, hl => by simp [risingFrom] at hl ⊢; exact ⟨by omega, hl.2⟩

theorem rising_insert (k : Nat) (v : α) : ∀ (lo : Nat) (l : List (Nat × α)), risingFrom lo l = true → lo ≤ k →
    risingFrom lo (insertList k v l) = true
  | lo, [], _, h => by simp [insertList, risingFrom, h]
  | lo, (j, u) :: rest, hl, h => by
    simp only [risingFrom, Bool.and_eq_true, decide_eq_true_eq] at hl
    simp only [insertList]
    split_ifs with h1 h2
    · subst h1; simp [risingFrom, hl.1, hl.2]
    · simp [risingFrom, h, hl.2]; omega
    · simp only [risingFrom, Bool.and_eq_true, decide_eq_true_eq]
      exact ⟨hl.1, rising_insert k v (j + 1) rest hl.2 (by omega)⟩

theorem rising_erase (k : Nat) : ∀ (lo : Nat) (l : List (Nat × α)), risingFrom lo l = true → risingFrom lo (eraseList k l) = true
  | _, [], h => h
  | lo, (j, u) :: rest, hl => by
    simp only [risingFrom, Bool.and_eq_true, decide_eq_true_eq] at hl
    simp only [eraseList]
    split_ifs
    · exact risingFrom_mono (by omega) rest hl.2
    · simp only [risingFrom, Bool.and_eq_true, decide_eq_true_eq]
      exact ⟨hl.1, rising_erase k (j + 1) rest hl.2⟩

theorem rising_filter (p : Nat × α → Bool) : ∀ (lo : Nat) (l : List (Nat × α)), risingFrom lo l = true →
    risingFrom lo (l.filter p) = true
  | _, [], h => h
  | lo, (j, u) :: rest, hl => by
    simp only [risingFrom, Bool.and_eq_true, decide_eq_true_eq] at hl
    have ih := rising_filter p (j + 1) rest hl.2
    by_cases hp : p (j, u) = true
    · simp only [List.filter_cons, hp, if_true, risingFrom, Bool.and_eq_true, decide_eq_true_eq]
      exact ⟨hl.1, ih⟩
    · simp only [List.filter_cons, hp, if_false, Bool.false_eq_true]
      exact risingFrom_mono (by omega) _ ih

theorem Map.wf_set (m : Map α) (k : Nat) (v : α) (h : m.wf = true) : (m.set k v).wf = true :=
  rising_insert k v 0 m.items h (Nat.zero_le k)

theorem Map.wf_erase (m : Map α) (k : Nat) (h : m.wf = true) : (m.erase k).wf = true := rising_erase k 0 m.items h

theorem Map.wf_keep (m : Map α) (p : Nat → Bool) (h : m.wf = true) : (m.keep p).wf = true :=
  rising_filter (fun e => p e.1) 0 m.items h

/-- In a canonical store every index of the tail lies above the head's. -/
theorem lookup_below : ∀ (lo j : Nat) (l : List (Nat × α)), risingFrom lo l = true → j < lo → lookupList j l = none
  | _, _, [], _, _ => rfl
  | lo, j, (k, u) :: rest, hl, h => by
    simp only [risingFrom, Bool.and_eq_true, decide_eq_true_eq] at hl
    have h1 : j ≠ k := by omega
    have h2 : j < k := by omega
    simp [lookupList, h1, h2]

theorem lookup_erase (k : Nat) : ∀ (lo : Nat) (l : List (Nat × α)), risingFrom lo l = true → ∀ j,
    lookupList j (eraseList k l) = if j = k then none else lookupList j l
  | _, [], _, j => by simp [eraseList, lookupList]
  | lo, (i, u) :: rest, hl, j => by
    simp only [risingFrom, Bool.and_eq_true, decide_eq_true_eq] at hl
    simp only [eraseList]
    by_cases h : k = i
    · subst h
      simp only [if_true, lookupList]
      split_ifs with h1 h2
      · subst h1; exact lookup_below (j + 1) j rest hl.2 (by omega)
      · exact lookup_below (k + 1) j rest hl.2 (by omega)
      · rfl
    · simp only [h, if_false, lookupList]
      rw [lookup_erase k (i + 1) rest hl.2 j]
      split_ifs <;> first | rfl | omega

/-! ### Memory -/

theorem mem_insert (k : Nat) (v : α) : ∀ (l : List (Nat × α)) (p : Nat × α), p ∈ insertList k v l → p = (k, v) ∨ p ∈ l
  | [], p, h => by simp [insertList] at h; exact .inl h
  | (j, u) :: rest, p, h => by
    simp only [insertList] at h
    split_ifs at h with h1 h2
    · rcases List.mem_cons.mp h with h | h
      · exact .inl h
      · exact .inr (List.mem_cons_of_mem _ h)
    · rcases List.mem_cons.mp h with h | h
      · exact .inl h
      · exact .inr h
    · rcases List.mem_cons.mp h with h | h
      · exact .inr (h ▸ List.mem_cons_self)
      · rcases mem_insert k v rest p h with h | h
        · exact .inl h
        · exact .inr (List.mem_cons_of_mem _ h)

theorem mem_erase (k : Nat) : ∀ (l : List (Nat × α)) (p : Nat × α), p ∈ eraseList k l → p ∈ l
  | [], _, h => h
  | (j, u) :: rest, p, h => by
    simp only [eraseList] at h
    split_ifs at h with h1
    · exact List.mem_cons_of_mem _ h
    · rcases List.mem_cons.mp h with h | h
      · exact h ▸ List.mem_cons_self
      · exact List.mem_cons_of_mem _ (mem_erase k rest p h)

theorem memWf_iff (m : List Host.Cell) : memWf m = true ↔ risingFrom 0 m = true ∧ ∀ c ∈ m, c.2 ≠ memDefault := by
  simp [memWf]

theorem memWf_write (m : List Host.Cell) (a : Nat) (b : Byte) (h : memWf m = true) : memWf (memWrite m a b) = true := by
  rw [memWf_iff] at h ⊢
  unfold memWrite
  split_ifs with hb
  · exact ⟨rising_erase a 0 m h.1, fun c hc => h.2 c (mem_erase a m c hc)⟩
  · refine ⟨rising_insert a b 0 m h.1 (Nat.zero_le a), fun c hc => ?_⟩
    rcases mem_insert a b m c hc with rfl | hc
    · exact hb
    · exact h.2 c hc

theorem memWf_writeList : ∀ (l : List Byte) (a : Nat) (m : List Host.Cell), memWf m = true → memWf (memWriteList l a m) = true
  | [], _, _, h => h
  | b :: rest, a, m, h => memWf_writeList rest (a + 1) _ (memWf_write m a b h)

theorem memWf_filter (m : List Host.Cell) (p : Host.Cell → Bool) (h : memWf m = true) : memWf (m.filter p) = true := by
  rw [memWf_iff] at h ⊢
  exact ⟨rising_filter p 0 m h.1, fun c hc => h.2 c (List.mem_of_mem_filter hc)⟩

/-- What a read sees after a byte has been written, in canonical memory. -/
theorem memRead_write (m : List Host.Cell) (a j : Nat) (b : Byte) (h : memWf m = true) :
    memRead (memWrite m a b) j = if j = a then b else memRead m j := by
  rw [memWf_iff] at h
  unfold memRead memWrite
  split_ifs with hb hj hj
  · rw [lookup_erase a 0 m h.1, if_pos hj]; exact hb.symm
  · rw [lookup_erase a 0 m h.1, if_neg hj]
  · rw [lookup_insert, if_pos hj]; rfl
  · rw [lookup_insert, if_neg hj]

/-! ### The register file -/

/-- Two fields laid out alike, at different places, never meet at one instance. -/
theorem Field.key_ne {f g : Field} (hg : f.group = g.group) (hs : f.stride = g.stride) (hG : f.gstride = g.gstride)
    (hb : f.base * 32 + f.lsb ≠ g.base * 32 + g.lsb) (m : Nat) : f.key m ≠ g.key m := by
  unfold Field.key Field.addr
  rw [hg, hs, hG]
  omega

/-- A field of a register that lies elsewhere keeps its value, at the instance that is written. -/
theorem Dev.rdi_wri_ne (d : Dev) {f g : Field} (hg : g.group = f.group) (hs : g.stride = f.stride) (hG : g.gstride = f.gstride)
    (hb : g.base * 32 + g.lsb ≠ f.base * 32 + f.lsb) (m v : Nat) : (d.wri f m v).rdi g m = d.rdi g m := by
  simp only [Dev.rdi, Dev.wri, Map.get_set, if_neg (Field.key_ne hg hs hG hb m)]

/-- What a register reads after a write: the value written, cut to the field's width, or what it read before. -/
@[simp] theorem Dev.rdi_wri (d : Dev) (f g : Field) (i j v : Nat) :
    (d.wri f i v).rdi g j = if g.key j = f.key i then v % 2 ^ f.width else d.rdi g j := by
  simp only [Dev.rdi, Dev.wri, Map.get_set]

@[simp] theorem Dev.rdi_wr (d : Dev) (f g : Field) (j v : Nat) :
    (d.wr f v).rdi g j = if g.key j = f.key 0 then v % 2 ^ f.width else d.rdi g j := Dev.rdi_wri d f g 0 j v

@[simp] theorem Dev.rd_wri (d : Dev) (f g : Field) (i v : Nat) :
    (d.wri f i v).rd g = if g.key 0 = f.key i then v % 2 ^ f.width else d.rd g := Dev.rdi_wri d f g i 0 v

@[simp] theorem Dev.rd_wr (d : Dev) (f g : Field) (v : Nat) :
    (d.wr f v).rd g = if g.key 0 = f.key 0 then v % 2 ^ f.width else d.rd g := Dev.rdi_wri d f g 0 0 v

/-- A saturating counter after a rise. -/
@[simp] theorem Dev.rdi_addi (d : Dev) (f g : Field) (i j n : Nat) :
    (d.addi f i n).rdi g j = if g.key j = f.key i then min (d.rdi f i + n) (2 ^ f.width - 1) else d.rdi g j := by
  have h : min (d.rdi f i + n) (2 ^ f.width - 1) < 2 ^ f.width := by
    have := Nat.two_pow_pos f.width
    omega
  unfold Dev.addi; rw [Dev.rdi_wri, Nat.mod_eq_of_lt h]

@[simp] theorem Dev.rdi_inci (d : Dev) (f g : Field) (i j : Nat) :
    (d.inci f i).rdi g j = if g.key j = f.key i then min (d.rdi f i + 1) (2 ^ f.width - 1) else d.rdi g j :=
  Dev.rdi_addi d f g i j 1

@[simp] theorem Dev.rdi_inc (d : Dev) (f g : Field) (j : Nat) :
    (d.inc f).rdi g j = if g.key j = f.key 0 then min (d.rd f + 1) (2 ^ f.width - 1) else d.rdi g j :=
  Dev.rdi_addi d f g 0 j 1

@[simp] theorem Dev.rd_addi (d : Dev) (f g : Field) (i n : Nat) :
    (d.addi f i n).rd g = if g.key 0 = f.key i then min (d.rdi f i + n) (2 ^ f.width - 1) else d.rd g := Dev.rdi_addi d f g i 0 n

@[simp] theorem Dev.rd_inci (d : Dev) (f g : Field) (i : Nat) :
    (d.inci f i).rd g = if g.key 0 = f.key i then min (d.rdi f i + 1) (2 ^ f.width - 1) else d.rd g := Dev.rdi_addi d f g i 0 1

@[simp] theorem Dev.rd_inc (d : Dev) (f g : Field) :
    (d.inc f).rd g = if g.key 0 = f.key 0 then min (d.rd f + 1) (2 ^ f.width - 1) else d.rd g := Dev.rdi_addi d f g 0 0 1

@[simp] theorem Dev.rdi_setBit (d : Dev) (f g : Field) (i j n : Nat) :
    (d.setBit f i n).rdi g j = if g.key j = f.key i then (d.rdi f i ||| 2 ^ n) % 2 ^ f.width else d.rdi g j :=
  Dev.rdi_wri d f g i j _

@[simp] theorem Dev.rd_setBit (d : Dev) (f g : Field) (i n : Nat) :
    (d.setBit f i n).rd g = if g.key 0 = f.key i then (d.rdi f i ||| 2 ^ n) % 2 ^ f.width else d.rd g :=
  Dev.rdi_wri d f g i 0 _

/-! ### Completion -/

/-- A command whose meaning is an effect on the block completes with that effect. -/
theorem onDev_eq (f : Dev → Dev) (s : State) : onDev f s = .next { s with dev := (f s.dev).announce s.dev } := rfl

/-- The interrupt messages are only sent: nothing else of the block changes. -/
theorem Dev.announce_frame (d old : Dev) : { d.announce old with out := d.out } = d ∧ d.out <+: (d.announce old).out := by
  unfold Dev.announce
  split_ifs
  · exact ⟨rfl, List.prefix_append _ _⟩
  · exact ⟨rfl, List.prefix_refl _⟩

end Sys2Proof.Machine
end

