-- ==== Sys2Proof/Laws/State.lean ====
section
/-! SUPPORT. The fields of the state under each update of one field: one lemma per field and update, so that no proof
unfolds a record update. -/

namespace Sys2Proof.Machine

@[simp] theorem Dev.wri_mem (d : Dev) (f : Field) (i v : Nat) : (d.wri f i v).mem = d.mem := rfl
@[simp] theorem Dev.wri_out (d : Dev) (f : Field) (i v : Nat) : (d.wri f i v).out = d.out := rfl
@[simp] theorem Dev.wri_access (d : Dev) (f : Field) (i v : Nat) : (d.wri f i v).access = d.access := rfl
@[simp] theorem Dev.wri_free (d : Dev) (f : Field) (i v : Nat) : (d.wri f i v).free = d.free := rfl
@[simp] theorem Dev.wri_now (d : Dev) (f : Field) (i v : Nat) : (d.wri f i v).now = d.now := rfl
@[simp] theorem Dev.wri_fw (d : Dev) (f : Field) (i v : Nat) : (d.wri f i v).fw = d.fw := rfl
@[simp] theorem Dev.wri_recd (d : Dev) (f : Field) (i v : Nat) : (d.wri f i v).recd = d.recd := rfl
@[simp] theorem Dev.wri_deck (d : Dev) (f : Field) (i v : Nat) : (d.wri f i v).deck = d.deck := rfl
@[simp] theorem Dev.wri_beat (d : Dev) (f : Field) (i v : Nat) : (d.wri f i v).beat = d.beat := rfl
@[simp] theorem Dev.wri_trd (d : Dev) (f : Field) (i v : Nat) : (d.wri f i v).trd = d.trd := rfl
@[simp] theorem Dev.wri_sig (d : Dev) (f : Field) (i v : Nat) : (d.wri f i v).sig = d.sig := rfl
@[simp] theorem Dev.wri_ctx (d : Dev) (f : Field) (i v : Nat) : (d.wri f i v).ctx = d.ctx := rfl
@[simp] theorem Dev.wri_chan (d : Dev) (f : Field) (i v : Nat) : (d.wri f i v).chan = d.chan := rfl
@[simp] theorem Dev.wri_bank (d : Dev) (f : Field) (i v : Nat) : (d.wri f i v).bank = d.bank := rfl
@[simp] theorem Dev.wri_can (d : Dev) (f : Field) (i v : Nat) : (d.wri f i v).can = d.can := rfl
@[simp] theorem Dev.wri_tt (d : Dev) (f : Field) (i v : Nat) : (d.wri f i v).tt = d.tt := rfl
@[simp] theorem Dev.wri_swx (d : Dev) (f : Field) (i v : Nat) : (d.wri f i v).swx = d.swx := rfl
@[simp] theorem Dev.wri_brg (d : Dev) (f : Field) (i v : Nat) : (d.wri f i v).brg = d.brg := rfl
@[simp] theorem Dev.wri_nmw (d : Dev) (f : Field) (i v : Nat) : (d.wri f i v).nmw = d.nmw := rfl
@[simp] theorem Dev.wri_sht (d : Dev) (f : Field) (i v : Nat) : (d.wri f i v).sht = d.sht := rfl
@[simp] theorem Dev.wri_cpu (d : Dev) (f : Field) (i v : Nat) : (d.wri f i v).cpu = d.cpu := rfl
@[simp] theorem Dev.wri_key (d : Dev) (f : Field) (i v : Nat) : (d.wri f i v).key = d.key := rfl
@[simp] theorem Dev.wri_dbg (d : Dev) (f : Field) (i v : Nat) : (d.wri f i v).dbg = d.dbg := rfl
@[simp] theorem Dev.wri_upd (d : Dev) (f : Field) (i v : Nat) : (d.wri f i v).upd = d.upd := rfl
@[simp] theorem Dev.wri_pwr (d : Dev) (f : Field) (i v : Nat) : (d.wri f i v).pwr = d.pwr := rfl
@[simp] theorem Dev.wri_flt (d : Dev) (f : Field) (i v : Nat) : (d.wri f i v).flt = d.flt := rfl

@[simp] theorem Dev.wr_mem (d : Dev) (f : Field) (v : Nat) : (d.wr f v).mem = d.mem := rfl
@[simp] theorem Dev.wr_out (d : Dev) (f : Field) (v : Nat) : (d.wr f v).out = d.out := rfl
@[simp] theorem Dev.wr_access (d : Dev) (f : Field) (v : Nat) : (d.wr f v).access = d.access := rfl
@[simp] theorem Dev.wr_free (d : Dev) (f : Field) (v : Nat) : (d.wr f v).free = d.free := rfl
@[simp] theorem Dev.wr_now (d : Dev) (f : Field) (v : Nat) : (d.wr f v).now = d.now := rfl
@[simp] theorem Dev.wr_fw (d : Dev) (f : Field) (v : Nat) : (d.wr f v).fw = d.fw := rfl
@[simp] theorem Dev.wr_recd (d : Dev) (f : Field) (v : Nat) : (d.wr f v).recd = d.recd := rfl
@[simp] theorem Dev.wr_deck (d : Dev) (f : Field) (v : Nat) : (d.wr f v).deck = d.deck := rfl
@[simp] theorem Dev.wr_beat (d : Dev) (f : Field) (v : Nat) : (d.wr f v).beat = d.beat := rfl
@[simp] theorem Dev.wr_trd (d : Dev) (f : Field) (v : Nat) : (d.wr f v).trd = d.trd := rfl
@[simp] theorem Dev.wr_sig (d : Dev) (f : Field) (v : Nat) : (d.wr f v).sig = d.sig := rfl
@[simp] theorem Dev.wr_ctx (d : Dev) (f : Field) (v : Nat) : (d.wr f v).ctx = d.ctx := rfl
@[simp] theorem Dev.wr_chan (d : Dev) (f : Field) (v : Nat) : (d.wr f v).chan = d.chan := rfl
@[simp] theorem Dev.wr_bank (d : Dev) (f : Field) (v : Nat) : (d.wr f v).bank = d.bank := rfl
@[simp] theorem Dev.wr_can (d : Dev) (f : Field) (v : Nat) : (d.wr f v).can = d.can := rfl
@[simp] theorem Dev.wr_tt (d : Dev) (f : Field) (v : Nat) : (d.wr f v).tt = d.tt := rfl
@[simp] theorem Dev.wr_swx (d : Dev) (f : Field) (v : Nat) : (d.wr f v).swx = d.swx := rfl
@[simp] theorem Dev.wr_brg (d : Dev) (f : Field) (v : Nat) : (d.wr f v).brg = d.brg := rfl
@[simp] theorem Dev.wr_nmw (d : Dev) (f : Field) (v : Nat) : (d.wr f v).nmw = d.nmw := rfl
@[simp] theorem Dev.wr_sht (d : Dev) (f : Field) (v : Nat) : (d.wr f v).sht = d.sht := rfl
@[simp] theorem Dev.wr_cpu (d : Dev) (f : Field) (v : Nat) : (d.wr f v).cpu = d.cpu := rfl
@[simp] theorem Dev.wr_key (d : Dev) (f : Field) (v : Nat) : (d.wr f v).key = d.key := rfl
@[simp] theorem Dev.wr_dbg (d : Dev) (f : Field) (v : Nat) : (d.wr f v).dbg = d.dbg := rfl
@[simp] theorem Dev.wr_upd (d : Dev) (f : Field) (v : Nat) : (d.wr f v).upd = d.upd := rfl
@[simp] theorem Dev.wr_pwr (d : Dev) (f : Field) (v : Nat) : (d.wr f v).pwr = d.pwr := rfl
@[simp] theorem Dev.wr_flt (d : Dev) (f : Field) (v : Nat) : (d.wr f v).flt = d.flt := rfl

@[simp] theorem Dev.addi_mem (d : Dev) (f : Field) (i n : Nat) : (d.addi f i n).mem = d.mem := rfl
@[simp] theorem Dev.addi_out (d : Dev) (f : Field) (i n : Nat) : (d.addi f i n).out = d.out := rfl
@[simp] theorem Dev.addi_access (d : Dev) (f : Field) (i n : Nat) : (d.addi f i n).access = d.access := rfl
@[simp] theorem Dev.addi_free (d : Dev) (f : Field) (i n : Nat) : (d.addi f i n).free = d.free := rfl
@[simp] theorem Dev.addi_now (d : Dev) (f : Field) (i n : Nat) : (d.addi f i n).now = d.now := rfl
@[simp] theorem Dev.addi_fw (d : Dev) (f : Field) (i n : Nat) : (d.addi f i n).fw = d.fw := rfl
@[simp] theorem Dev.addi_recd (d : Dev) (f : Field) (i n : Nat) : (d.addi f i n).recd = d.recd := rfl
@[simp] theorem Dev.addi_deck (d : Dev) (f : Field) (i n : Nat) : (d.addi f i n).deck = d.deck := rfl
@[simp] theorem Dev.addi_beat (d : Dev) (f : Field) (i n : Nat) : (d.addi f i n).beat = d.beat := rfl
@[simp] theorem Dev.addi_trd (d : Dev) (f : Field) (i n : Nat) : (d.addi f i n).trd = d.trd := rfl
@[simp] theorem Dev.addi_sig (d : Dev) (f : Field) (i n : Nat) : (d.addi f i n).sig = d.sig := rfl
@[simp] theorem Dev.addi_ctx (d : Dev) (f : Field) (i n : Nat) : (d.addi f i n).ctx = d.ctx := rfl
@[simp] theorem Dev.addi_chan (d : Dev) (f : Field) (i n : Nat) : (d.addi f i n).chan = d.chan := rfl
@[simp] theorem Dev.addi_bank (d : Dev) (f : Field) (i n : Nat) : (d.addi f i n).bank = d.bank := rfl
@[simp] theorem Dev.addi_can (d : Dev) (f : Field) (i n : Nat) : (d.addi f i n).can = d.can := rfl
@[simp] theorem Dev.addi_tt (d : Dev) (f : Field) (i n : Nat) : (d.addi f i n).tt = d.tt := rfl
@[simp] theorem Dev.addi_swx (d : Dev) (f : Field) (i n : Nat) : (d.addi f i n).swx = d.swx := rfl
@[simp] theorem Dev.addi_brg (d : Dev) (f : Field) (i n : Nat) : (d.addi f i n).brg = d.brg := rfl
@[simp] theorem Dev.addi_nmw (d : Dev) (f : Field) (i n : Nat) : (d.addi f i n).nmw = d.nmw := rfl
@[simp] theorem Dev.addi_sht (d : Dev) (f : Field) (i n : Nat) : (d.addi f i n).sht = d.sht := rfl
@[simp] theorem Dev.addi_cpu (d : Dev) (f : Field) (i n : Nat) : (d.addi f i n).cpu = d.cpu := rfl
@[simp] theorem Dev.addi_key (d : Dev) (f : Field) (i n : Nat) : (d.addi f i n).key = d.key := rfl
@[simp] theorem Dev.addi_dbg (d : Dev) (f : Field) (i n : Nat) : (d.addi f i n).dbg = d.dbg := rfl
@[simp] theorem Dev.addi_upd (d : Dev) (f : Field) (i n : Nat) : (d.addi f i n).upd = d.upd := rfl
@[simp] theorem Dev.addi_pwr (d : Dev) (f : Field) (i n : Nat) : (d.addi f i n).pwr = d.pwr := rfl
@[simp] theorem Dev.addi_flt (d : Dev) (f : Field) (i n : Nat) : (d.addi f i n).flt = d.flt := rfl

@[simp] theorem Dev.inc_mem (d : Dev) (f : Field) : (d.inc f).mem = d.mem := rfl
@[simp] theorem Dev.inc_out (d : Dev) (f : Field) : (d.inc f).out = d.out := rfl
@[simp] theorem Dev.inc_access (d : Dev) (f : Field) : (d.inc f).access = d.access := rfl
@[simp] theorem Dev.inc_free (d : Dev) (f : Field) : (d.inc f).free = d.free := rfl
@[simp] theorem Dev.inc_now (d : Dev) (f : Field) : (d.inc f).now = d.now := rfl
@[simp] theorem Dev.inc_fw (d : Dev) (f : Field) : (d.inc f).fw = d.fw := rfl
@[simp] theorem Dev.inc_recd (d : Dev) (f : Field) : (d.inc f).recd = d.recd := rfl
@[simp] theorem Dev.inc_deck (d : Dev) (f : Field) : (d.inc f).deck = d.deck := rfl
@[simp] theorem Dev.inc_beat (d : Dev) (f : Field) : (d.inc f).beat = d.beat := rfl
@[simp] theorem Dev.inc_trd (d : Dev) (f : Field) : (d.inc f).trd = d.trd := rfl
@[simp] theorem Dev.inc_sig (d : Dev) (f : Field) : (d.inc f).sig = d.sig := rfl
@[simp] theorem Dev.inc_ctx (d : Dev) (f : Field) : (d.inc f).ctx = d.ctx := rfl
@[simp] theorem Dev.inc_chan (d : Dev) (f : Field) : (d.inc f).chan = d.chan := rfl
@[simp] theorem Dev.inc_bank (d : Dev) (f : Field) : (d.inc f).bank = d.bank := rfl
@[simp] theorem Dev.inc_can (d : Dev) (f : Field) : (d.inc f).can = d.can := rfl
@[simp] theorem Dev.inc_tt (d : Dev) (f : Field) : (d.inc f).tt = d.tt := rfl
@[simp] theorem Dev.inc_swx (d : Dev) (f : Field) : (d.inc f).swx = d.swx := rfl
@[simp] theorem Dev.inc_brg (d : Dev) (f : Field) : (d.inc f).brg = d.brg := rfl
@[simp] theorem Dev.inc_nmw (d : Dev) (f : Field) : (d.inc f).nmw = d.nmw := rfl
@[simp] theorem Dev.inc_sht (d : Dev) (f : Field) : (d.inc f).sht = d.sht := rfl
@[simp] theorem Dev.inc_cpu (d : Dev) (f : Field) : (d.inc f).cpu = d.cpu := rfl
@[simp] theorem Dev.inc_key (d : Dev) (f : Field) : (d.inc f).key = d.key := rfl
@[simp] theorem Dev.inc_dbg (d : Dev) (f : Field) : (d.inc f).dbg = d.dbg := rfl
@[simp] theorem Dev.inc_upd (d : Dev) (f : Field) : (d.inc f).upd = d.upd := rfl
@[simp] theorem Dev.inc_pwr (d : Dev) (f : Field) : (d.inc f).pwr = d.pwr := rfl
@[simp] theorem Dev.inc_flt (d : Dev) (f : Field) : (d.inc f).flt = d.flt := rfl

@[simp] theorem Dev.inci_mem (d : Dev) (f : Field) (i : Nat) : (d.inci f i).mem = d.mem := rfl
@[simp] theorem Dev.inci_out (d : Dev) (f : Field) (i : Nat) : (d.inci f i).out = d.out := rfl
@[simp] theorem Dev.inci_access (d : Dev) (f : Field) (i : Nat) : (d.inci f i).access = d.access := rfl
@[simp] theorem Dev.inci_free (d : Dev) (f : Field) (i : Nat) : (d.inci f i).free = d.free := rfl
@[simp] theorem Dev.inci_now (d : Dev) (f : Field) (i : Nat) : (d.inci f i).now = d.now := rfl
@[simp] theorem Dev.inci_fw (d : Dev) (f : Field) (i : Nat) : (d.inci f i).fw = d.fw := rfl
@[simp] theorem Dev.inci_recd (d : Dev) (f : Field) (i : Nat) : (d.inci f i).recd = d.recd := rfl
@[simp] theorem Dev.inci_deck (d : Dev) (f : Field) (i : Nat) : (d.inci f i).deck = d.deck := rfl
@[simp] theorem Dev.inci_beat (d : Dev) (f : Field) (i : Nat) : (d.inci f i).beat = d.beat := rfl
@[simp] theorem Dev.inci_trd (d : Dev) (f : Field) (i : Nat) : (d.inci f i).trd = d.trd := rfl
@[simp] theorem Dev.inci_sig (d : Dev) (f : Field) (i : Nat) : (d.inci f i).sig = d.sig := rfl
@[simp] theorem Dev.inci_ctx (d : Dev) (f : Field) (i : Nat) : (d.inci f i).ctx = d.ctx := rfl
@[simp] theorem Dev.inci_chan (d : Dev) (f : Field) (i : Nat) : (d.inci f i).chan = d.chan := rfl
@[simp] theorem Dev.inci_bank (d : Dev) (f : Field) (i : Nat) : (d.inci f i).bank = d.bank := rfl
@[simp] theorem Dev.inci_can (d : Dev) (f : Field) (i : Nat) : (d.inci f i).can = d.can := rfl
@[simp] theorem Dev.inci_tt (d : Dev) (f : Field) (i : Nat) : (d.inci f i).tt = d.tt := rfl
@[simp] theorem Dev.inci_swx (d : Dev) (f : Field) (i : Nat) : (d.inci f i).swx = d.swx := rfl
@[simp] theorem Dev.inci_brg (d : Dev) (f : Field) (i : Nat) : (d.inci f i).brg = d.brg := rfl
@[simp] theorem Dev.inci_nmw (d : Dev) (f : Field) (i : Nat) : (d.inci f i).nmw = d.nmw := rfl
@[simp] theorem Dev.inci_sht (d : Dev) (f : Field) (i : Nat) : (d.inci f i).sht = d.sht := rfl
@[simp] theorem Dev.inci_cpu (d : Dev) (f : Field) (i : Nat) : (d.inci f i).cpu = d.cpu := rfl
@[simp] theorem Dev.inci_key (d : Dev) (f : Field) (i : Nat) : (d.inci f i).key = d.key := rfl
@[simp] theorem Dev.inci_dbg (d : Dev) (f : Field) (i : Nat) : (d.inci f i).dbg = d.dbg := rfl
@[simp] theorem Dev.inci_upd (d : Dev) (f : Field) (i : Nat) : (d.inci f i).upd = d.upd := rfl
@[simp] theorem Dev.inci_pwr (d : Dev) (f : Field) (i : Nat) : (d.inci f i).pwr = d.pwr := rfl
@[simp] theorem Dev.inci_flt (d : Dev) (f : Field) (i : Nat) : (d.inci f i).flt = d.flt := rfl

@[simp] theorem Dev.setBit_mem (d : Dev) (f : Field) (i n : Nat) : (d.setBit f i n).mem = d.mem := rfl
@[simp] theorem Dev.setBit_out (d : Dev) (f : Field) (i n : Nat) : (d.setBit f i n).out = d.out := rfl
@[simp] theorem Dev.setBit_access (d : Dev) (f : Field) (i n : Nat) : (d.setBit f i n).access = d.access := rfl
@[simp] theorem Dev.setBit_free (d : Dev) (f : Field) (i n : Nat) : (d.setBit f i n).free = d.free := rfl
@[simp] theorem Dev.setBit_now (d : Dev) (f : Field) (i n : Nat) : (d.setBit f i n).now = d.now := rfl
@[simp] theorem Dev.setBit_fw (d : Dev) (f : Field) (i n : Nat) : (d.setBit f i n).fw = d.fw := rfl
@[simp] theorem Dev.setBit_recd (d : Dev) (f : Field) (i n : Nat) : (d.setBit f i n).recd = d.recd := rfl
@[simp] theorem Dev.setBit_deck (d : Dev) (f : Field) (i n : Nat) : (d.setBit f i n).deck = d.deck := rfl
@[simp] theorem Dev.setBit_beat (d : Dev) (f : Field) (i n : Nat) : (d.setBit f i n).beat = d.beat := rfl
@[simp] theorem Dev.setBit_trd (d : Dev) (f : Field) (i n : Nat) : (d.setBit f i n).trd = d.trd := rfl
@[simp] theorem Dev.setBit_sig (d : Dev) (f : Field) (i n : Nat) : (d.setBit f i n).sig = d.sig := rfl
@[simp] theorem Dev.setBit_ctx (d : Dev) (f : Field) (i n : Nat) : (d.setBit f i n).ctx = d.ctx := rfl
@[simp] theorem Dev.setBit_chan (d : Dev) (f : Field) (i n : Nat) : (d.setBit f i n).chan = d.chan := rfl
@[simp] theorem Dev.setBit_bank (d : Dev) (f : Field) (i n : Nat) : (d.setBit f i n).bank = d.bank := rfl
@[simp] theorem Dev.setBit_can (d : Dev) (f : Field) (i n : Nat) : (d.setBit f i n).can = d.can := rfl
@[simp] theorem Dev.setBit_tt (d : Dev) (f : Field) (i n : Nat) : (d.setBit f i n).tt = d.tt := rfl
@[simp] theorem Dev.setBit_swx (d : Dev) (f : Field) (i n : Nat) : (d.setBit f i n).swx = d.swx := rfl
@[simp] theorem Dev.setBit_brg (d : Dev) (f : Field) (i n : Nat) : (d.setBit f i n).brg = d.brg := rfl
@[simp] theorem Dev.setBit_nmw (d : Dev) (f : Field) (i n : Nat) : (d.setBit f i n).nmw = d.nmw := rfl
@[simp] theorem Dev.setBit_sht (d : Dev) (f : Field) (i n : Nat) : (d.setBit f i n).sht = d.sht := rfl
@[simp] theorem Dev.setBit_cpu (d : Dev) (f : Field) (i n : Nat) : (d.setBit f i n).cpu = d.cpu := rfl
@[simp] theorem Dev.setBit_key (d : Dev) (f : Field) (i n : Nat) : (d.setBit f i n).key = d.key := rfl
@[simp] theorem Dev.setBit_dbg (d : Dev) (f : Field) (i n : Nat) : (d.setBit f i n).dbg = d.dbg := rfl
@[simp] theorem Dev.setBit_upd (d : Dev) (f : Field) (i n : Nat) : (d.setBit f i n).upd = d.upd := rfl
@[simp] theorem Dev.setBit_pwr (d : Dev) (f : Field) (i n : Nat) : (d.setBit f i n).pwr = d.pwr := rfl
@[simp] theorem Dev.setBit_flt (d : Dev) (f : Field) (i n : Nat) : (d.setBit f i n).flt = d.flt := rfl

@[simp] theorem Dev.clrBit_mem (d : Dev) (f : Field) (i n : Nat) : (d.clrBit f i n).mem = d.mem := rfl
@[simp] theorem Dev.clrBit_out (d : Dev) (f : Field) (i n : Nat) : (d.clrBit f i n).out = d.out := rfl
@[simp] theorem Dev.clrBit_access (d : Dev) (f : Field) (i n : Nat) : (d.clrBit f i n).access = d.access := rfl
@[simp] theorem Dev.clrBit_free (d : Dev) (f : Field) (i n : Nat) : (d.clrBit f i n).free = d.free := rfl
@[simp] theorem Dev.clrBit_now (d : Dev) (f : Field) (i n : Nat) : (d.clrBit f i n).now = d.now := rfl
@[simp] theorem Dev.clrBit_fw (d : Dev) (f : Field) (i n : Nat) : (d.clrBit f i n).fw = d.fw := rfl
@[simp] theorem Dev.clrBit_recd (d : Dev) (f : Field) (i n : Nat) : (d.clrBit f i n).recd = d.recd := rfl
@[simp] theorem Dev.clrBit_deck (d : Dev) (f : Field) (i n : Nat) : (d.clrBit f i n).deck = d.deck := rfl
@[simp] theorem Dev.clrBit_beat (d : Dev) (f : Field) (i n : Nat) : (d.clrBit f i n).beat = d.beat := rfl
@[simp] theorem Dev.clrBit_trd (d : Dev) (f : Field) (i n : Nat) : (d.clrBit f i n).trd = d.trd := rfl
@[simp] theorem Dev.clrBit_sig (d : Dev) (f : Field) (i n : Nat) : (d.clrBit f i n).sig = d.sig := rfl
@[simp] theorem Dev.clrBit_ctx (d : Dev) (f : Field) (i n : Nat) : (d.clrBit f i n).ctx = d.ctx := rfl
@[simp] theorem Dev.clrBit_chan (d : Dev) (f : Field) (i n : Nat) : (d.clrBit f i n).chan = d.chan := rfl
@[simp] theorem Dev.clrBit_bank (d : Dev) (f : Field) (i n : Nat) : (d.clrBit f i n).bank = d.bank := rfl
@[simp] theorem Dev.clrBit_can (d : Dev) (f : Field) (i n : Nat) : (d.clrBit f i n).can = d.can := rfl
@[simp] theorem Dev.clrBit_tt (d : Dev) (f : Field) (i n : Nat) : (d.clrBit f i n).tt = d.tt := rfl
@[simp] theorem Dev.clrBit_swx (d : Dev) (f : Field) (i n : Nat) : (d.clrBit f i n).swx = d.swx := rfl
@[simp] theorem Dev.clrBit_brg (d : Dev) (f : Field) (i n : Nat) : (d.clrBit f i n).brg = d.brg := rfl
@[simp] theorem Dev.clrBit_nmw (d : Dev) (f : Field) (i n : Nat) : (d.clrBit f i n).nmw = d.nmw := rfl
@[simp] theorem Dev.clrBit_sht (d : Dev) (f : Field) (i n : Nat) : (d.clrBit f i n).sht = d.sht := rfl
@[simp] theorem Dev.clrBit_cpu (d : Dev) (f : Field) (i n : Nat) : (d.clrBit f i n).cpu = d.cpu := rfl
@[simp] theorem Dev.clrBit_key (d : Dev) (f : Field) (i n : Nat) : (d.clrBit f i n).key = d.key := rfl
@[simp] theorem Dev.clrBit_dbg (d : Dev) (f : Field) (i n : Nat) : (d.clrBit f i n).dbg = d.dbg := rfl
@[simp] theorem Dev.clrBit_upd (d : Dev) (f : Field) (i n : Nat) : (d.clrBit f i n).upd = d.upd := rfl
@[simp] theorem Dev.clrBit_pwr (d : Dev) (f : Field) (i n : Nat) : (d.clrBit f i n).pwr = d.pwr := rfl
@[simp] theorem Dev.clrBit_flt (d : Dev) (f : Field) (i n : Nat) : (d.clrBit f i n).flt = d.flt := rfl

@[simp] theorem Dev.resetRange_mem (d : Dev) (lo hi : Nat) : (d.resetRange lo hi).mem = d.mem := rfl
@[simp] theorem Dev.resetRange_out (d : Dev) (lo hi : Nat) : (d.resetRange lo hi).out = d.out := rfl
@[simp] theorem Dev.resetRange_access (d : Dev) (lo hi : Nat) : (d.resetRange lo hi).access = d.access := rfl
@[simp] theorem Dev.resetRange_free (d : Dev) (lo hi : Nat) : (d.resetRange lo hi).free = d.free := rfl
@[simp] theorem Dev.resetRange_now (d : Dev) (lo hi : Nat) : (d.resetRange lo hi).now = d.now := rfl
@[simp] theorem Dev.resetRange_fw (d : Dev) (lo hi : Nat) : (d.resetRange lo hi).fw = d.fw := rfl
@[simp] theorem Dev.resetRange_recd (d : Dev) (lo hi : Nat) : (d.resetRange lo hi).recd = d.recd := rfl
@[simp] theorem Dev.resetRange_deck (d : Dev) (lo hi : Nat) : (d.resetRange lo hi).deck = d.deck := rfl
@[simp] theorem Dev.resetRange_beat (d : Dev) (lo hi : Nat) : (d.resetRange lo hi).beat = d.beat := rfl
@[simp] theorem Dev.resetRange_trd (d : Dev) (lo hi : Nat) : (d.resetRange lo hi).trd = d.trd := rfl
@[simp] theorem Dev.resetRange_sig (d : Dev) (lo hi : Nat) : (d.resetRange lo hi).sig = d.sig := rfl
@[simp] theorem Dev.resetRange_ctx (d : Dev) (lo hi : Nat) : (d.resetRange lo hi).ctx = d.ctx := rfl
@[simp] theorem Dev.resetRange_chan (d : Dev) (lo hi : Nat) : (d.resetRange lo hi).chan = d.chan := rfl
@[simp] theorem Dev.resetRange_bank (d : Dev) (lo hi : Nat) : (d.resetRange lo hi).bank = d.bank := rfl
@[simp] theorem Dev.resetRange_can (d : Dev) (lo hi : Nat) : (d.resetRange lo hi).can = d.can := rfl
@[simp] theorem Dev.resetRange_tt (d : Dev) (lo hi : Nat) : (d.resetRange lo hi).tt = d.tt := rfl
@[simp] theorem Dev.resetRange_swx (d : Dev) (lo hi : Nat) : (d.resetRange lo hi).swx = d.swx := rfl
@[simp] theorem Dev.resetRange_brg (d : Dev) (lo hi : Nat) : (d.resetRange lo hi).brg = d.brg := rfl
@[simp] theorem Dev.resetRange_nmw (d : Dev) (lo hi : Nat) : (d.resetRange lo hi).nmw = d.nmw := rfl
@[simp] theorem Dev.resetRange_sht (d : Dev) (lo hi : Nat) : (d.resetRange lo hi).sht = d.sht := rfl
@[simp] theorem Dev.resetRange_cpu (d : Dev) (lo hi : Nat) : (d.resetRange lo hi).cpu = d.cpu := rfl
@[simp] theorem Dev.resetRange_key (d : Dev) (lo hi : Nat) : (d.resetRange lo hi).key = d.key := rfl
@[simp] theorem Dev.resetRange_dbg (d : Dev) (lo hi : Nat) : (d.resetRange lo hi).dbg = d.dbg := rfl
@[simp] theorem Dev.resetRange_upd (d : Dev) (lo hi : Nat) : (d.resetRange lo hi).upd = d.upd := rfl
@[simp] theorem Dev.resetRange_pwr (d : Dev) (lo hi : Nat) : (d.resetRange lo hi).pwr = d.pwr := rfl
@[simp] theorem Dev.resetRange_flt (d : Dev) (lo hi : Nat) : (d.resetRange lo hi).flt = d.flt := rfl

@[simp] theorem Dev.send_regs (d : Dev) (o : Out) : (d.send o).regs = d.regs := rfl
@[simp] theorem Dev.send_mem (d : Dev) (o : Out) : (d.send o).mem = d.mem := rfl
@[simp] theorem Dev.send_access (d : Dev) (o : Out) : (d.send o).access = d.access := rfl
@[simp] theorem Dev.send_free (d : Dev) (o : Out) : (d.send o).free = d.free := rfl
@[simp] theorem Dev.send_now (d : Dev) (o : Out) : (d.send o).now = d.now := rfl
@[simp] theorem Dev.send_fw (d : Dev) (o : Out) : (d.send o).fw = d.fw := rfl
@[simp] theorem Dev.send_recd (d : Dev) (o : Out) : (d.send o).recd = d.recd := rfl
@[simp] theorem Dev.send_deck (d : Dev) (o : Out) : (d.send o).deck = d.deck := rfl
@[simp] theorem Dev.send_beat (d : Dev) (o : Out) : (d.send o).beat = d.beat := rfl
@[simp] theorem Dev.send_trd (d : Dev) (o : Out) : (d.send o).trd = d.trd := rfl
@[simp] theorem Dev.send_sig (d : Dev) (o : Out) : (d.send o).sig = d.sig := rfl
@[simp] theorem Dev.send_ctx (d : Dev) (o : Out) : (d.send o).ctx = d.ctx := rfl
@[simp] theorem Dev.send_chan (d : Dev) (o : Out) : (d.send o).chan = d.chan := rfl
@[simp] theorem Dev.send_bank (d : Dev) (o : Out) : (d.send o).bank = d.bank := rfl
@[simp] theorem Dev.send_can (d : Dev) (o : Out) : (d.send o).can = d.can := rfl
@[simp] theorem Dev.send_tt (d : Dev) (o : Out) : (d.send o).tt = d.tt := rfl
@[simp] theorem Dev.send_swx (d : Dev) (o : Out) : (d.send o).swx = d.swx := rfl
@[simp] theorem Dev.send_brg (d : Dev) (o : Out) : (d.send o).brg = d.brg := rfl
@[simp] theorem Dev.send_nmw (d : Dev) (o : Out) : (d.send o).nmw = d.nmw := rfl
@[simp] theorem Dev.send_sht (d : Dev) (o : Out) : (d.send o).sht = d.sht := rfl
@[simp] theorem Dev.send_cpu (d : Dev) (o : Out) : (d.send o).cpu = d.cpu := rfl
@[simp] theorem Dev.send_key (d : Dev) (o : Out) : (d.send o).key = d.key := rfl
@[simp] theorem Dev.send_dbg (d : Dev) (o : Out) : (d.send o).dbg = d.dbg := rfl
@[simp] theorem Dev.send_upd (d : Dev) (o : Out) : (d.send o).upd = d.upd := rfl
@[simp] theorem Dev.send_pwr (d : Dev) (o : Out) : (d.send o).pwr = d.pwr := rfl
@[simp] theorem Dev.send_flt (d : Dev) (o : Out) : (d.send o).flt = d.flt := rfl
@[simp] theorem Dev.send_rdi (d : Dev) (o : Out) (g : Field) (j : Nat) : (d.send o).rdi g j = d.rdi g j := rfl
@[simp] theorem Dev.send_rd (d : Dev) (o : Out) (g : Field) : (d.send o).rd g = d.rd g := rfl

@[simp] theorem Dev.fresh_regs (d : Dev) : (d.fresh).regs = d.regs := rfl
@[simp] theorem Dev.fresh_mem (d : Dev) : (d.fresh).mem = d.mem := rfl
@[simp] theorem Dev.fresh_out (d : Dev) : (d.fresh).out = d.out := rfl
@[simp] theorem Dev.fresh_access (d : Dev) : (d.fresh).access = d.access := rfl
@[simp] theorem Dev.fresh_now (d : Dev) : (d.fresh).now = d.now := rfl
@[simp] theorem Dev.fresh_fw (d : Dev) : (d.fresh).fw = d.fw := rfl
@[simp] theorem Dev.fresh_recd (d : Dev) : (d.fresh).recd = d.recd := rfl
@[simp] theorem Dev.fresh_deck (d : Dev) : (d.fresh).deck = d.deck := rfl
@[simp] theorem Dev.fresh_beat (d : Dev) : (d.fresh).beat = d.beat := rfl
@[simp] theorem Dev.fresh_trd (d : Dev) : (d.fresh).trd = d.trd := rfl
@[simp] theorem Dev.fresh_sig (d : Dev) : (d.fresh).sig = d.sig := rfl
@[simp] theorem Dev.fresh_ctx (d : Dev) : (d.fresh).ctx = d.ctx := rfl
@[simp] theorem Dev.fresh_chan (d : Dev) : (d.fresh).chan = d.chan := rfl
@[simp] theorem Dev.fresh_bank (d : Dev) : (d.fresh).bank = d.bank := rfl
@[simp] theorem Dev.fresh_can (d : Dev) : (d.fresh).can = d.can := rfl
@[simp] theorem Dev.fresh_tt (d : Dev) : (d.fresh).tt = d.tt := rfl
@[simp] theorem Dev.fresh_swx (d : Dev) : (d.fresh).swx = d.swx := rfl
@[simp] theorem Dev.fresh_brg (d : Dev) : (d.fresh).brg = d.brg := rfl
@[simp] theorem Dev.fresh_nmw (d : Dev) : (d.fresh).nmw = d.nmw := rfl
@[simp] theorem Dev.fresh_sht (d : Dev) : (d.fresh).sht = d.sht := rfl
@[simp] theorem Dev.fresh_cpu (d : Dev) : (d.fresh).cpu = d.cpu := rfl
@[simp] theorem Dev.fresh_key (d : Dev) : (d.fresh).key = d.key := rfl
@[simp] theorem Dev.fresh_dbg (d : Dev) : (d.fresh).dbg = d.dbg := rfl
@[simp] theorem Dev.fresh_upd (d : Dev) : (d.fresh).upd = d.upd := rfl
@[simp] theorem Dev.fresh_pwr (d : Dev) : (d.fresh).pwr = d.pwr := rfl
@[simp] theorem Dev.fresh_flt (d : Dev) : (d.fresh).flt = d.flt := rfl
@[simp] theorem Dev.fresh_rdi (d : Dev) (g : Field) (j : Nat) : (d.fresh).rdi g j = d.rdi g j := rfl
@[simp] theorem Dev.fresh_rd (d : Dev) (g : Field) : (d.fresh).rd g = d.rd g := rfl

@[simp] theorem Dev.poke_regs (d : Dev) (a : Nat) (l : List Byte) : (d.poke a l).regs = d.regs := rfl
@[simp] theorem Dev.poke_out (d : Dev) (a : Nat) (l : List Byte) : (d.poke a l).out = d.out := rfl
@[simp] theorem Dev.poke_access (d : Dev) (a : Nat) (l : List Byte) : (d.poke a l).access = d.access := rfl
@[simp] theorem Dev.poke_free (d : Dev) (a : Nat) (l : List Byte) : (d.poke a l).free = d.free := rfl
@[simp] theorem Dev.poke_now (d : Dev) (a : Nat) (l : List Byte) : (d.poke a l).now = d.now := rfl
@[simp] theorem Dev.poke_fw (d : Dev) (a : Nat) (l : List Byte) : (d.poke a l).fw = d.fw := rfl
@[simp] theorem Dev.poke_recd (d : Dev) (a : Nat) (l : List Byte) : (d.poke a l).recd = d.recd := rfl
@[simp] theorem Dev.poke_deck (d : Dev) (a : Nat) (l : List Byte) : (d.poke a l).deck = d.deck := rfl
@[simp] theorem Dev.poke_beat (d : Dev) (a : Nat) (l : List Byte) : (d.poke a l).beat = d.beat := rfl
@[simp] theorem Dev.poke_trd (d : Dev) (a : Nat) (l : List Byte) : (d.poke a l).trd = d.trd := rfl
@[simp] theorem Dev.poke_sig (d : Dev) (a : Nat) (l : List Byte) : (d.poke a l).sig = d.sig := rfl
@[simp] theorem Dev.poke_ctx (d : Dev) (a : Nat) (l : List Byte) : (d.poke a l).ctx = d.ctx := rfl
@[simp] theorem Dev.poke_chan (d : Dev) (a : Nat) (l : List Byte) : (d.poke a l).chan = d.chan := rfl
@[simp] theorem Dev.poke_bank (d : Dev) (a : Nat) (l : List Byte) : (d.poke a l).bank = d.bank := rfl
@[simp] theorem Dev.poke_can (d : Dev) (a : Nat) (l : List Byte) : (d.poke a l).can = d.can := rfl
@[simp] theorem Dev.poke_tt (d : Dev) (a : Nat) (l : List Byte) : (d.poke a l).tt = d.tt := rfl
@[simp] theorem Dev.poke_swx (d : Dev) (a : Nat) (l : List Byte) : (d.poke a l).swx = d.swx := rfl
@[simp] theorem Dev.poke_brg (d : Dev) (a : Nat) (l : List Byte) : (d.poke a l).brg = d.brg := rfl
@[simp] theorem Dev.poke_nmw (d : Dev) (a : Nat) (l : List Byte) : (d.poke a l).nmw = d.nmw := rfl
@[simp] theorem Dev.poke_sht (d : Dev) (a : Nat) (l : List Byte) : (d.poke a l).sht = d.sht := rfl
@[simp] theorem Dev.poke_cpu (d : Dev) (a : Nat) (l : List Byte) : (d.poke a l).cpu = d.cpu := rfl
@[simp] theorem Dev.poke_key (d : Dev) (a : Nat) (l : List Byte) : (d.poke a l).key = d.key := rfl
@[simp] theorem Dev.poke_dbg (d : Dev) (a : Nat) (l : List Byte) : (d.poke a l).dbg = d.dbg := rfl
@[simp] theorem Dev.poke_upd (d : Dev) (a : Nat) (l : List Byte) : (d.poke a l).upd = d.upd := rfl
@[simp] theorem Dev.poke_pwr (d : Dev) (a : Nat) (l : List Byte) : (d.poke a l).pwr = d.pwr := rfl
@[simp] theorem Dev.poke_flt (d : Dev) (a : Nat) (l : List Byte) : (d.poke a l).flt = d.flt := rfl
@[simp] theorem Dev.poke_rdi (d : Dev) (a : Nat) (l : List Byte) (g : Field) (j : Nat) : (d.poke a l).rdi g j = d.rdi g j := rfl
@[simp] theorem Dev.poke_rd (d : Dev) (a : Nat) (l : List Byte) (g : Field) : (d.poke a l).rd g = d.rd g := rfl

@[simp] theorem Dev.memForget_regs (d : Dev) (lo hi : Nat) : (d.memForget lo hi).regs = d.regs := rfl
@[simp] theorem Dev.memForget_out (d : Dev) (lo hi : Nat) : (d.memForget lo hi).out = d.out := rfl
@[simp] theorem Dev.memForget_access (d : Dev) (lo hi : Nat) : (d.memForget lo hi).access = d.access := rfl
@[simp] theorem Dev.memForget_free (d : Dev) (lo hi : Nat) : (d.memForget lo hi).free = d.free := rfl
@[simp] theorem Dev.memForget_now (d : Dev) (lo hi : Nat) : (d.memForget lo hi).now = d.now := rfl
@[simp] theorem Dev.memForget_fw (d : Dev) (lo hi : Nat) : (d.memForget lo hi).fw = d.fw := rfl
@[simp] theorem Dev.memForget_recd (d : Dev) (lo hi : Nat) : (d.memForget lo hi).recd = d.recd := rfl
@[simp] theorem Dev.memForget_deck (d : Dev) (lo hi : Nat) : (d.memForget lo hi).deck = d.deck := rfl
@[simp] theorem Dev.memForget_beat (d : Dev) (lo hi : Nat) : (d.memForget lo hi).beat = d.beat := rfl
@[simp] theorem Dev.memForget_trd (d : Dev) (lo hi : Nat) : (d.memForget lo hi).trd = d.trd := rfl
@[simp] theorem Dev.memForget_sig (d : Dev) (lo hi : Nat) : (d.memForget lo hi).sig = d.sig := rfl
@[simp] theorem Dev.memForget_ctx (d : Dev) (lo hi : Nat) : (d.memForget lo hi).ctx = d.ctx := rfl
@[simp] theorem Dev.memForget_chan (d : Dev) (lo hi : Nat) : (d.memForget lo hi).chan = d.chan := rfl
@[simp] theorem Dev.memForget_bank (d : Dev) (lo hi : Nat) : (d.memForget lo hi).bank = d.bank := rfl
@[simp] theorem Dev.memForget_can (d : Dev) (lo hi : Nat) : (d.memForget lo hi).can = d.can := rfl
@[simp] theorem Dev.memForget_tt (d : Dev) (lo hi : Nat) : (d.memForget lo hi).tt = d.tt := rfl
@[simp] theorem Dev.memForget_swx (d : Dev) (lo hi : Nat) : (d.memForget lo hi).swx = d.swx := rfl
@[simp] theorem Dev.memForget_brg (d : Dev) (lo hi : Nat) : (d.memForget lo hi).brg = d.brg := rfl
@[simp] theorem Dev.memForget_nmw (d : Dev) (lo hi : Nat) : (d.memForget lo hi).nmw = d.nmw := rfl
@[simp] theorem Dev.memForget_sht (d : Dev) (lo hi : Nat) : (d.memForget lo hi).sht = d.sht := rfl
@[simp] theorem Dev.memForget_cpu (d : Dev) (lo hi : Nat) : (d.memForget lo hi).cpu = d.cpu := rfl
@[simp] theorem Dev.memForget_key (d : Dev) (lo hi : Nat) : (d.memForget lo hi).key = d.key := rfl
@[simp] theorem Dev.memForget_dbg (d : Dev) (lo hi : Nat) : (d.memForget lo hi).dbg = d.dbg := rfl
@[simp] theorem Dev.memForget_upd (d : Dev) (lo hi : Nat) : (d.memForget lo hi).upd = d.upd := rfl
@[simp] theorem Dev.memForget_pwr (d : Dev) (lo hi : Nat) : (d.memForget lo hi).pwr = d.pwr := rfl
@[simp] theorem Dev.memForget_flt (d : Dev) (lo hi : Nat) : (d.memForget lo hi).flt = d.flt := rfl
@[simp] theorem Dev.memForget_rdi (d : Dev) (lo hi : Nat) (g : Field) (j : Nat) : (d.memForget lo hi).rdi g j = d.rdi g j := rfl
@[simp] theorem Dev.memForget_rd (d : Dev) (lo hi : Nat) (g : Field) : (d.memForget lo hi).rd g = d.rd g := rfl

@[simp] theorem Dev.setRec_regs (d : Dev) (x : RecState) : (d.setRec x).regs = d.regs := rfl
@[simp] theorem Dev.setRec_mem (d : Dev) (x : RecState) : (d.setRec x).mem = d.mem := rfl
@[simp] theorem Dev.setRec_out (d : Dev) (x : RecState) : (d.setRec x).out = d.out := rfl
@[simp] theorem Dev.setRec_access (d : Dev) (x : RecState) : (d.setRec x).access = d.access := rfl
@[simp] theorem Dev.setRec_free (d : Dev) (x : RecState) : (d.setRec x).free = d.free := rfl
@[simp] theorem Dev.setRec_now (d : Dev) (x : RecState) : (d.setRec x).now = d.now := rfl
@[simp] theorem Dev.setRec_fw (d : Dev) (x : RecState) : (d.setRec x).fw = d.fw := rfl
@[simp] theorem Dev.setRec_deck (d : Dev) (x : RecState) : (d.setRec x).deck = d.deck := rfl
@[simp] theorem Dev.setRec_beat (d : Dev) (x : RecState) : (d.setRec x).beat = d.beat := rfl
@[simp] theorem Dev.setRec_trd (d : Dev) (x : RecState) : (d.setRec x).trd = d.trd := rfl
@[simp] theorem Dev.setRec_sig (d : Dev) (x : RecState) : (d.setRec x).sig = d.sig := rfl
@[simp] theorem Dev.setRec_ctx (d : Dev) (x : RecState) : (d.setRec x).ctx = d.ctx := rfl
@[simp] theorem Dev.setRec_chan (d : Dev) (x : RecState) : (d.setRec x).chan = d.chan := rfl
@[simp] theorem Dev.setRec_bank (d : Dev) (x : RecState) : (d.setRec x).bank = d.bank := rfl
@[simp] theorem Dev.setRec_can (d : Dev) (x : RecState) : (d.setRec x).can = d.can := rfl
@[simp] theorem Dev.setRec_tt (d : Dev) (x : RecState) : (d.setRec x).tt = d.tt := rfl
@[simp] theorem Dev.setRec_swx (d : Dev) (x : RecState) : (d.setRec x).swx = d.swx := rfl
@[simp] theorem Dev.setRec_brg (d : Dev) (x : RecState) : (d.setRec x).brg = d.brg := rfl
@[simp] theorem Dev.setRec_nmw (d : Dev) (x : RecState) : (d.setRec x).nmw = d.nmw := rfl
@[simp] theorem Dev.setRec_sht (d : Dev) (x : RecState) : (d.setRec x).sht = d.sht := rfl
@[simp] theorem Dev.setRec_cpu (d : Dev) (x : RecState) : (d.setRec x).cpu = d.cpu := rfl
@[simp] theorem Dev.setRec_key (d : Dev) (x : RecState) : (d.setRec x).key = d.key := rfl
@[simp] theorem Dev.setRec_dbg (d : Dev) (x : RecState) : (d.setRec x).dbg = d.dbg := rfl
@[simp] theorem Dev.setRec_upd (d : Dev) (x : RecState) : (d.setRec x).upd = d.upd := rfl
@[simp] theorem Dev.setRec_pwr (d : Dev) (x : RecState) : (d.setRec x).pwr = d.pwr := rfl
@[simp] theorem Dev.setRec_flt (d : Dev) (x : RecState) : (d.setRec x).flt = d.flt := rfl
@[simp] theorem Dev.setRec_rdi (d : Dev) (x : RecState) (g : Field) (j : Nat) : (d.setRec x).rdi g j = d.rdi g j := rfl
@[simp] theorem Dev.setRec_rd (d : Dev) (x : RecState) (g : Field) : (d.setRec x).rd g = d.rd g := rfl
@[simp] theorem Dev.setRec_self (d : Dev) (x : RecState) : (d.setRec x).recd = x := rfl

@[simp] theorem Dev.setDeck_regs (d : Dev) (x : DeckState) : (d.setDeck x).regs = d.regs := rfl
@[simp] theorem Dev.setDeck_mem (d : Dev) (x : DeckState) : (d.setDeck x).mem = d.mem := rfl
@[simp] theorem Dev.setDeck_out (d : Dev) (x : DeckState) : (d.setDeck x).out = d.out := rfl
@[simp] theorem Dev.setDeck_access (d : Dev) (x : DeckState) : (d.setDeck x).access = d.access := rfl
@[simp] theorem Dev.setDeck_free (d : Dev) (x : DeckState) : (d.setDeck x).free = d.free := rfl
@[simp] theorem Dev.setDeck_now (d : Dev) (x : DeckState) : (d.setDeck x).now = d.now := rfl
@[simp] theorem Dev.setDeck_fw (d : Dev) (x : DeckState) : (d.setDeck x).fw = d.fw := rfl
@[simp] theorem Dev.setDeck_recd (d : Dev) (x : DeckState) : (d.setDeck x).recd = d.recd := rfl
@[simp] theorem Dev.setDeck_beat (d : Dev) (x : DeckState) : (d.setDeck x).beat = d.beat := rfl
@[simp] theorem Dev.setDeck_trd (d : Dev) (x : DeckState) : (d.setDeck x).trd = d.trd := rfl
@[simp] theorem Dev.setDeck_sig (d : Dev) (x : DeckState) : (d.setDeck x).sig = d.sig := rfl
@[simp] theorem Dev.setDeck_ctx (d : Dev) (x : DeckState) : (d.setDeck x).ctx = d.ctx := rfl
@[simp] theorem Dev.setDeck_chan (d : Dev) (x : DeckState) : (d.setDeck x).chan = d.chan := rfl
@[simp] theorem Dev.setDeck_bank (d : Dev) (x : DeckState) : (d.setDeck x).bank = d.bank := rfl
@[simp] theorem Dev.setDeck_can (d : Dev) (x : DeckState) : (d.setDeck x).can = d.can := rfl
@[simp] theorem Dev.setDeck_tt (d : Dev) (x : DeckState) : (d.setDeck x).tt = d.tt := rfl
@[simp] theorem Dev.setDeck_swx (d : Dev) (x : DeckState) : (d.setDeck x).swx = d.swx := rfl
@[simp] theorem Dev.setDeck_brg (d : Dev) (x : DeckState) : (d.setDeck x).brg = d.brg := rfl
@[simp] theorem Dev.setDeck_nmw (d : Dev) (x : DeckState) : (d.setDeck x).nmw = d.nmw := rfl
@[simp] theorem Dev.setDeck_sht (d : Dev) (x : DeckState) : (d.setDeck x).sht = d.sht := rfl
@[simp] theorem Dev.setDeck_cpu (d : Dev) (x : DeckState) : (d.setDeck x).cpu = d.cpu := rfl
@[simp] theorem Dev.setDeck_key (d : Dev) (x : DeckState) : (d.setDeck x).key = d.key := rfl
@[simp] theorem Dev.setDeck_dbg (d : Dev) (x : DeckState) : (d.setDeck x).dbg = d.dbg := rfl
@[simp] theorem Dev.setDeck_upd (d : Dev) (x : DeckState) : (d.setDeck x).upd = d.upd := rfl
@[simp] theorem Dev.setDeck_pwr (d : Dev) (x : DeckState) : (d.setDeck x).pwr = d.pwr := rfl
@[simp] theorem Dev.setDeck_flt (d : Dev) (x : DeckState) : (d.setDeck x).flt = d.flt := rfl
@[simp] theorem Dev.setDeck_rdi (d : Dev) (x : DeckState) (g : Field) (j : Nat) : (d.setDeck x).rdi g j = d.rdi g j := rfl
@[simp] theorem Dev.setDeck_rd (d : Dev) (x : DeckState) (g : Field) : (d.setDeck x).rd g = d.rd g := rfl
@[simp] theorem Dev.setDeck_self (d : Dev) (x : DeckState) : (d.setDeck x).deck = x := rfl

@[simp] theorem Dev.setBeat_regs (d : Dev) (x : BeatState) : (d.setBeat x).regs = d.regs := rfl
@[simp] theorem Dev.setBeat_mem (d : Dev) (x : BeatState) : (d.setBeat x).mem = d.mem := rfl
@[simp] theorem Dev.setBeat_out (d : Dev) (x : BeatState) : (d.setBeat x).out = d.out := rfl
@[simp] theorem Dev.setBeat_access (d : Dev) (x : BeatState) : (d.setBeat x).access = d.access := rfl
@[simp] theorem Dev.setBeat_free (d : Dev) (x : BeatState) : (d.setBeat x).free = d.free := rfl
@[simp] theorem Dev.setBeat_now (d : Dev) (x : BeatState) : (d.setBeat x).now = d.now := rfl
@[simp] theorem Dev.setBeat_fw (d : Dev) (x : BeatState) : (d.setBeat x).fw = d.fw := rfl
@[simp] theorem Dev.setBeat_recd (d : Dev) (x : BeatState) : (d.setBeat x).recd = d.recd := rfl
@[simp] theorem Dev.setBeat_deck (d : Dev) (x : BeatState) : (d.setBeat x).deck = d.deck := rfl
@[simp] theorem Dev.setBeat_trd (d : Dev) (x : BeatState) : (d.setBeat x).trd = d.trd := rfl
@[simp] theorem Dev.setBeat_sig (d : Dev) (x : BeatState) : (d.setBeat x).sig = d.sig := rfl
@[simp] theorem Dev.setBeat_ctx (d : Dev) (x : BeatState) : (d.setBeat x).ctx = d.ctx := rfl
@[simp] theorem Dev.setBeat_chan (d : Dev) (x : BeatState) : (d.setBeat x).chan = d.chan := rfl
@[simp] theorem Dev.setBeat_bank (d : Dev) (x : BeatState) : (d.setBeat x).bank = d.bank := rfl
@[simp] theorem Dev.setBeat_can (d : Dev) (x : BeatState) : (d.setBeat x).can = d.can := rfl
@[simp] theorem Dev.setBeat_tt (d : Dev) (x : BeatState) : (d.setBeat x).tt = d.tt := rfl
@[simp] theorem Dev.setBeat_swx (d : Dev) (x : BeatState) : (d.setBeat x).swx = d.swx := rfl
@[simp] theorem Dev.setBeat_brg (d : Dev) (x : BeatState) : (d.setBeat x).brg = d.brg := rfl
@[simp] theorem Dev.setBeat_nmw (d : Dev) (x : BeatState) : (d.setBeat x).nmw = d.nmw := rfl
@[simp] theorem Dev.setBeat_sht (d : Dev) (x : BeatState) : (d.setBeat x).sht = d.sht := rfl
@[simp] theorem Dev.setBeat_cpu (d : Dev) (x : BeatState) : (d.setBeat x).cpu = d.cpu := rfl
@[simp] theorem Dev.setBeat_key (d : Dev) (x : BeatState) : (d.setBeat x).key = d.key := rfl
@[simp] theorem Dev.setBeat_dbg (d : Dev) (x : BeatState) : (d.setBeat x).dbg = d.dbg := rfl
@[simp] theorem Dev.setBeat_upd (d : Dev) (x : BeatState) : (d.setBeat x).upd = d.upd := rfl
@[simp] theorem Dev.setBeat_pwr (d : Dev) (x : BeatState) : (d.setBeat x).pwr = d.pwr := rfl
@[simp] theorem Dev.setBeat_flt (d : Dev) (x : BeatState) : (d.setBeat x).flt = d.flt := rfl
@[simp] theorem Dev.setBeat_rdi (d : Dev) (x : BeatState) (g : Field) (j : Nat) : (d.setBeat x).rdi g j = d.rdi g j := rfl
@[simp] theorem Dev.setBeat_rd (d : Dev) (x : BeatState) (g : Field) : (d.setBeat x).rd g = d.rd g := rfl
@[simp] theorem Dev.setBeat_self (d : Dev) (x : BeatState) : (d.setBeat x).beat = x := rfl

@[simp] theorem Dev.setTrd_regs (d : Dev) (x : TrdState) : (d.setTrd x).regs = d.regs := rfl
@[simp] theorem Dev.setTrd_mem (d : Dev) (x : TrdState) : (d.setTrd x).mem = d.mem := rfl
@[simp] theorem Dev.setTrd_out (d : Dev) (x : TrdState) : (d.setTrd x).out = d.out := rfl
@[simp] theorem Dev.setTrd_access (d : Dev) (x : TrdState) : (d.setTrd x).access = d.access := rfl
@[simp] theorem Dev.setTrd_free (d : Dev) (x : TrdState) : (d.setTrd x).free = d.free := rfl
@[simp] theorem Dev.setTrd_now (d : Dev) (x : TrdState) : (d.setTrd x).now = d.now := rfl
@[simp] theorem Dev.setTrd_fw (d : Dev) (x : TrdState) : (d.setTrd x).fw = d.fw := rfl
@[simp] theorem Dev.setTrd_recd (d : Dev) (x : TrdState) : (d.setTrd x).recd = d.recd := rfl
@[simp] theorem Dev.setTrd_deck (d : Dev) (x : TrdState) : (d.setTrd x).deck = d.deck := rfl
@[simp] theorem Dev.setTrd_beat (d : Dev) (x : TrdState) : (d.setTrd x).beat = d.beat := rfl
@[simp] theorem Dev.setTrd_sig (d : Dev) (x : TrdState) : (d.setTrd x).sig = d.sig := rfl
@[simp] theorem Dev.setTrd_ctx (d : Dev) (x : TrdState) : (d.setTrd x).ctx = d.ctx := rfl
@[simp] theorem Dev.setTrd_chan (d : Dev) (x : TrdState) : (d.setTrd x).chan = d.chan := rfl
@[simp] theorem Dev.setTrd_bank (d : Dev) (x : TrdState) : (d.setTrd x).bank = d.bank := rfl
@[simp] theorem Dev.setTrd_can (d : Dev) (x : TrdState) : (d.setTrd x).can = d.can := rfl
@[simp] theorem Dev.setTrd_tt (d : Dev) (x : TrdState) : (d.setTrd x).tt = d.tt := rfl
@[simp] theorem Dev.setTrd_swx (d : Dev) (x : TrdState) : (d.setTrd x).swx = d.swx := rfl
@[simp] theorem Dev.setTrd_brg (d : Dev) (x : TrdState) : (d.setTrd x).brg = d.brg := rfl
@[simp] theorem Dev.setTrd_nmw (d : Dev) (x : TrdState) : (d.setTrd x).nmw = d.nmw := rfl
@[simp] theorem Dev.setTrd_sht (d : Dev) (x : TrdState) : (d.setTrd x).sht = d.sht := rfl
@[simp] theorem Dev.setTrd_cpu (d : Dev) (x : TrdState) : (d.setTrd x).cpu = d.cpu := rfl
@[simp] theorem Dev.setTrd_key (d : Dev) (x : TrdState) : (d.setTrd x).key = d.key := rfl
@[simp] theorem Dev.setTrd_dbg (d : Dev) (x : TrdState) : (d.setTrd x).dbg = d.dbg := rfl
@[simp] theorem Dev.setTrd_upd (d : Dev) (x : TrdState) : (d.setTrd x).upd = d.upd := rfl
@[simp] theorem Dev.setTrd_pwr (d : Dev) (x : TrdState) : (d.setTrd x).pwr = d.pwr := rfl
@[simp] theorem Dev.setTrd_flt (d : Dev) (x : TrdState) : (d.setTrd x).flt = d.flt := rfl
@[simp] theorem Dev.setTrd_rdi (d : Dev) (x : TrdState) (g : Field) (j : Nat) : (d.setTrd x).rdi g j = d.rdi g j := rfl
@[simp] theorem Dev.setTrd_rd (d : Dev) (x : TrdState) (g : Field) : (d.setTrd x).rd g = d.rd g := rfl
@[simp] theorem Dev.setTrd_self (d : Dev) (x : TrdState) : (d.setTrd x).trd = x := rfl

@[simp] theorem Dev.setTxObj_regs (d : Dev) (o : Nat) (x : TxObj) : (d.setTxObj o x).regs = d.regs := rfl
@[simp] theorem Dev.setTxObj_mem (d : Dev) (o : Nat) (x : TxObj) : (d.setTxObj o x).mem = d.mem := rfl
@[simp] theorem Dev.setTxObj_out (d : Dev) (o : Nat) (x : TxObj) : (d.setTxObj o x).out = d.out := rfl
@[simp] theorem Dev.setTxObj_access (d : Dev) (o : Nat) (x : TxObj) : (d.setTxObj o x).access = d.access := rfl
@[simp] theorem Dev.setTxObj_free (d : Dev) (o : Nat) (x : TxObj) : (d.setTxObj o x).free = d.free := rfl
@[simp] theorem Dev.setTxObj_now (d : Dev) (o : Nat) (x : TxObj) : (d.setTxObj o x).now = d.now := rfl
@[simp] theorem Dev.setTxObj_fw (d : Dev) (o : Nat) (x : TxObj) : (d.setTxObj o x).fw = d.fw := rfl
@[simp] theorem Dev.setTxObj_recd (d : Dev) (o : Nat) (x : TxObj) : (d.setTxObj o x).recd = d.recd := rfl
@[simp] theorem Dev.setTxObj_deck (d : Dev) (o : Nat) (x : TxObj) : (d.setTxObj o x).deck = d.deck := rfl
@[simp] theorem Dev.setTxObj_beat (d : Dev) (o : Nat) (x : TxObj) : (d.setTxObj o x).beat = d.beat := rfl
@[simp] theorem Dev.setTxObj_sig (d : Dev) (o : Nat) (x : TxObj) : (d.setTxObj o x).sig = d.sig := rfl
@[simp] theorem Dev.setTxObj_ctx (d : Dev) (o : Nat) (x : TxObj) : (d.setTxObj o x).ctx = d.ctx := rfl
@[simp] theorem Dev.setTxObj_chan (d : Dev) (o : Nat) (x : TxObj) : (d.setTxObj o x).chan = d.chan := rfl
@[simp] theorem Dev.setTxObj_bank (d : Dev) (o : Nat) (x : TxObj) : (d.setTxObj o x).bank = d.bank := rfl
@[simp] theorem Dev.setTxObj_can (d : Dev) (o : Nat) (x : TxObj) : (d.setTxObj o x).can = d.can := rfl
@[simp] theorem Dev.setTxObj_tt (d : Dev) (o : Nat) (x : TxObj) : (d.setTxObj o x).tt = d.tt := rfl
@[simp] theorem Dev.setTxObj_swx (d : Dev) (o : Nat) (x : TxObj) : (d.setTxObj o x).swx = d.swx := rfl
@[simp] theorem Dev.setTxObj_brg (d : Dev) (o : Nat) (x : TxObj) : (d.setTxObj o x).brg = d.brg := rfl
@[simp] theorem Dev.setTxObj_nmw (d : Dev) (o : Nat) (x : TxObj) : (d.setTxObj o x).nmw = d.nmw := rfl
@[simp] theorem Dev.setTxObj_sht (d : Dev) (o : Nat) (x : TxObj) : (d.setTxObj o x).sht = d.sht := rfl
@[simp] theorem Dev.setTxObj_cpu (d : Dev) (o : Nat) (x : TxObj) : (d.setTxObj o x).cpu = d.cpu := rfl
@[simp] theorem Dev.setTxObj_key (d : Dev) (o : Nat) (x : TxObj) : (d.setTxObj o x).key = d.key := rfl
@[simp] theorem Dev.setTxObj_dbg (d : Dev) (o : Nat) (x : TxObj) : (d.setTxObj o x).dbg = d.dbg := rfl
@[simp] theorem Dev.setTxObj_upd (d : Dev) (o : Nat) (x : TxObj) : (d.setTxObj o x).upd = d.upd := rfl
@[simp] theorem Dev.setTxObj_pwr (d : Dev) (o : Nat) (x : TxObj) : (d.setTxObj o x).pwr = d.pwr := rfl
@[simp] theorem Dev.setTxObj_flt (d : Dev) (o : Nat) (x : TxObj) : (d.setTxObj o x).flt = d.flt := rfl
@[simp] theorem Dev.setTxObj_rdi (d : Dev) (o : Nat) (x : TxObj) (g : Field) (j : Nat) : (d.setTxObj o x).rdi g j = d.rdi g j := rfl
@[simp] theorem Dev.setTxObj_rd (d : Dev) (o : Nat) (x : TxObj) (g : Field) : (d.setTxObj o x).rd g = d.rd g := rfl

@[simp] theorem Dev.setSlot_regs (d : Dev) (m : Nat) (x : FrameSlot) : (d.setSlot m x).regs = d.regs := rfl
@[simp] theorem Dev.setSlot_mem (d : Dev) (m : Nat) (x : FrameSlot) : (d.setSlot m x).mem = d.mem := rfl
@[simp] theorem Dev.setSlot_out (d : Dev) (m : Nat) (x : FrameSlot) : (d.setSlot m x).out = d.out := rfl
@[simp] theorem Dev.setSlot_access (d : Dev) (m : Nat) (x : FrameSlot) : (d.setSlot m x).access = d.access := rfl
@[simp] theorem Dev.setSlot_free (d : Dev) (m : Nat) (x : FrameSlot) : (d.setSlot m x).free = d.free := rfl
@[simp] theorem Dev.setSlot_now (d : Dev) (m : Nat) (x : FrameSlot) : (d.setSlot m x).now = d.now := rfl
@[simp] theorem Dev.setSlot_fw (d : Dev) (m : Nat) (x : FrameSlot) : (d.setSlot m x).fw = d.fw := rfl
@[simp] theorem Dev.setSlot_recd (d : Dev) (m : Nat) (x : FrameSlot) : (d.setSlot m x).recd = d.recd := rfl
@[simp] theorem Dev.setSlot_deck (d : Dev) (m : Nat) (x : FrameSlot) : (d.setSlot m x).deck = d.deck := rfl
@[simp] theorem Dev.setSlot_beat (d : Dev) (m : Nat) (x : FrameSlot) : (d.setSlot m x).beat = d.beat := rfl
@[simp] theorem Dev.setSlot_sig (d : Dev) (m : Nat) (x : FrameSlot) : (d.setSlot m x).sig = d.sig := rfl
@[simp] theorem Dev.setSlot_ctx (d : Dev) (m : Nat) (x : FrameSlot) : (d.setSlot m x).ctx = d.ctx := rfl
@[simp] theorem Dev.setSlot_chan (d : Dev) (m : Nat) (x : FrameSlot) : (d.setSlot m x).chan = d.chan := rfl
@[simp] theorem Dev.setSlot_bank (d : Dev) (m : Nat) (x : FrameSlot) : (d.setSlot m x).bank = d.bank := rfl
@[simp] theorem Dev.setSlot_can (d : Dev) (m : Nat) (x : FrameSlot) : (d.setSlot m x).can = d.can := rfl
@[simp] theorem Dev.setSlot_tt (d : Dev) (m : Nat) (x : FrameSlot) : (d.setSlot m x).tt = d.tt := rfl
@[simp] theorem Dev.setSlot_swx (d : Dev) (m : Nat) (x : FrameSlot) : (d.setSlot m x).swx = d.swx := rfl
@[simp] theorem Dev.setSlot_brg (d : Dev) (m : Nat) (x : FrameSlot) : (d.setSlot m x).brg = d.brg := rfl
@[simp] theorem Dev.setSlot_nmw (d : Dev) (m : Nat) (x : FrameSlot) : (d.setSlot m x).nmw = d.nmw := rfl
@[simp] theorem Dev.setSlot_sht (d : Dev) (m : Nat) (x : FrameSlot) : (d.setSlot m x).sht = d.sht := rfl
@[simp] theorem Dev.setSlot_cpu (d : Dev) (m : Nat) (x : FrameSlot) : (d.setSlot m x).cpu = d.cpu := rfl
@[simp] theorem Dev.setSlot_key (d : Dev) (m : Nat) (x : FrameSlot) : (d.setSlot m x).key = d.key := rfl
@[simp] theorem Dev.setSlot_dbg (d : Dev) (m : Nat) (x : FrameSlot) : (d.setSlot m x).dbg = d.dbg := rfl
@[simp] theorem Dev.setSlot_upd (d : Dev) (m : Nat) (x : FrameSlot) : (d.setSlot m x).upd = d.upd := rfl
@[simp] theorem Dev.setSlot_pwr (d : Dev) (m : Nat) (x : FrameSlot) : (d.setSlot m x).pwr = d.pwr := rfl
@[simp] theorem Dev.setSlot_flt (d : Dev) (m : Nat) (x : FrameSlot) : (d.setSlot m x).flt = d.flt := rfl
@[simp] theorem Dev.setSlot_rdi (d : Dev) (m : Nat) (x : FrameSlot) (g : Field) (j : Nat) : (d.setSlot m x).rdi g j = d.rdi g j := rfl
@[simp] theorem Dev.setSlot_rd (d : Dev) (m : Nat) (x : FrameSlot) (g : Field) : (d.setSlot m x).rd g = d.rd g := rfl

@[simp] theorem Dev.setFront_regs (d : Dev) (n : Nat) (x : Slot) : (d.setFront n x).regs = d.regs := rfl
@[simp] theorem Dev.setFront_mem (d : Dev) (n : Nat) (x : Slot) : (d.setFront n x).mem = d.mem := rfl
@[simp] theorem Dev.setFront_out (d : Dev) (n : Nat) (x : Slot) : (d.setFront n x).out = d.out := rfl
@[simp] theorem Dev.setFront_access (d : Dev) (n : Nat) (x : Slot) : (d.setFront n x).access = d.access := rfl
@[simp] theorem Dev.setFront_free (d : Dev) (n : Nat) (x : Slot) : (d.setFront n x).free = d.free := rfl
@[simp] theorem Dev.setFront_now (d : Dev) (n : Nat) (x : Slot) : (d.setFront n x).now = d.now := rfl
@[simp] theorem Dev.setFront_fw (d : Dev) (n : Nat) (x : Slot) : (d.setFront n x).fw = d.fw := rfl
@[simp] theorem Dev.setFront_recd (d : Dev) (n : Nat) (x : Slot) : (d.setFront n x).recd = d.recd := rfl
@[simp] theorem Dev.setFront_deck (d : Dev) (n : Nat) (x : Slot) : (d.setFront n x).deck = d.deck := rfl
@[simp] theorem Dev.setFront_beat (d : Dev) (n : Nat) (x : Slot) : (d.setFront n x).beat = d.beat := rfl
@[simp] theorem Dev.setFront_trd (d : Dev) (n : Nat) (x : Slot) : (d.setFront n x).trd = d.trd := rfl
@[simp] theorem Dev.setFront_ctx (d : Dev) (n : Nat) (x : Slot) : (d.setFront n x).ctx = d.ctx := rfl
@[simp] theorem Dev.setFront_chan (d : Dev) (n : Nat) (x : Slot) : (d.setFront n x).chan = d.chan := rfl
@[simp] theorem Dev.setFront_bank (d : Dev) (n : Nat) (x : Slot) : (d.setFront n x).bank = d.bank := rfl
@[simp] theorem Dev.setFront_can (d : Dev) (n : Nat) (x : Slot) : (d.setFront n x).can = d.can := rfl
@[simp] theorem Dev.setFront_tt (d : Dev) (n : Nat) (x : Slot) : (d.setFront n x).tt = d.tt := rfl
@[simp] theorem Dev.setFront_swx (d : Dev) (n : Nat) (x : Slot) : (d.setFront n x).swx = d.swx := rfl
@[simp] theorem Dev.setFront_brg (d : Dev) (n : Nat) (x : Slot) : (d.setFront n x).brg = d.brg := rfl
@[simp] theorem Dev.setFront_nmw (d : Dev) (n : Nat) (x : Slot) : (d.setFront n x).nmw = d.nmw := rfl
@[simp] theorem Dev.setFront_sht (d : Dev) (n : Nat) (x : Slot) : (d.setFront n x).sht = d.sht := rfl
@[simp] theorem Dev.setFront_cpu (d : Dev) (n : Nat) (x : Slot) : (d.setFront n x).cpu = d.cpu := rfl
@[simp] theorem Dev.setFront_key (d : Dev) (n : Nat) (x : Slot) : (d.setFront n x).key = d.key := rfl
@[simp] theorem Dev.setFront_dbg (d : Dev) (n : Nat) (x : Slot) : (d.setFront n x).dbg = d.dbg := rfl
@[simp] theorem Dev.setFront_upd (d : Dev) (n : Nat) (x : Slot) : (d.setFront n x).upd = d.upd := rfl
@[simp] theorem Dev.setFront_pwr (d : Dev) (n : Nat) (x : Slot) : (d.setFront n x).pwr = d.pwr := rfl
@[simp] theorem Dev.setFront_flt (d : Dev) (n : Nat) (x : Slot) : (d.setFront n x).flt = d.flt := rfl
@[simp] theorem Dev.setFront_rdi (d : Dev) (n : Nat) (x : Slot) (g : Field) (j : Nat) : (d.setFront n x).rdi g j = d.rdi g j := rfl
@[simp] theorem Dev.setFront_rd (d : Dev) (n : Nat) (x : Slot) (g : Field) : (d.setFront n x).rd g = d.rd g := rfl

@[simp] theorem Dev.setBack_regs (d : Dev) (n : Nat) (x : Slot) : (d.setBack n x).regs = d.regs := rfl
@[simp] theorem Dev.setBack_mem (d : Dev) (n : Nat) (x : Slot) : (d.setBack n x).mem = d.mem := rfl
@[simp] theorem Dev.setBack_out (d : Dev) (n : Nat) (x : Slot) : (d.setBack n x).out = d.out := rfl
@[simp] theorem Dev.setBack_access (d : Dev) (n : Nat) (x : Slot) : (d.setBack n x).access = d.access := rfl
@[simp] theorem Dev.setBack_free (d : Dev) (n : Nat) (x : Slot) : (d.setBack n x).free = d.free := rfl
@[simp] theorem Dev.setBack_now (d : Dev) (n : Nat) (x : Slot) : (d.setBack n x).now = d.now := rfl
@[simp] theorem Dev.setBack_fw (d : Dev) (n : Nat) (x : Slot) : (d.setBack n x).fw = d.fw := rfl
@[simp] theorem Dev.setBack_recd (d : Dev) (n : Nat) (x : Slot) : (d.setBack n x).recd = d.recd := rfl
@[simp] theorem Dev.setBack_deck (d : Dev) (n : Nat) (x : Slot) : (d.setBack n x).deck = d.deck := rfl
@[simp] theorem Dev.setBack_beat (d : Dev) (n : Nat) (x : Slot) : (d.setBack n x).beat = d.beat := rfl
@[simp] theorem Dev.setBack_trd (d : Dev) (n : Nat) (x : Slot) : (d.setBack n x).trd = d.trd := rfl
@[simp] theorem Dev.setBack_ctx (d : Dev) (n : Nat) (x : Slot) : (d.setBack n x).ctx = d.ctx := rfl
@[simp] theorem Dev.setBack_chan (d : Dev) (n : Nat) (x : Slot) : (d.setBack n x).chan = d.chan := rfl
@[simp] theorem Dev.setBack_bank (d : Dev) (n : Nat) (x : Slot) : (d.setBack n x).bank = d.bank := rfl
@[simp] theorem Dev.setBack_can (d : Dev) (n : Nat) (x : Slot) : (d.setBack n x).can = d.can := rfl
@[simp] theorem Dev.setBack_tt (d : Dev) (n : Nat) (x : Slot) : (d.setBack n x).tt = d.tt := rfl
@[simp] theorem Dev.setBack_swx (d : Dev) (n : Nat) (x : Slot) : (d.setBack n x).swx = d.swx := rfl
@[simp] theorem Dev.setBack_brg (d : Dev) (n : Nat) (x : Slot) : (d.setBack n x).brg = d.brg := rfl
@[simp] theorem Dev.setBack_nmw (d : Dev) (n : Nat) (x : Slot) : (d.setBack n x).nmw = d.nmw := rfl
@[simp] theorem Dev.setBack_sht (d : Dev) (n : Nat) (x : Slot) : (d.setBack n x).sht = d.sht := rfl
@[simp] theorem Dev.setBack_cpu (d : Dev) (n : Nat) (x : Slot) : (d.setBack n x).cpu = d.cpu := rfl
@[simp] theorem Dev.setBack_key (d : Dev) (n : Nat) (x : Slot) : (d.setBack n x).key = d.key := rfl
@[simp] theorem Dev.setBack_dbg (d : Dev) (n : Nat) (x : Slot) : (d.setBack n x).dbg = d.dbg := rfl
@[simp] theorem Dev.setBack_upd (d : Dev) (n : Nat) (x : Slot) : (d.setBack n x).upd = d.upd := rfl
@[simp] theorem Dev.setBack_pwr (d : Dev) (n : Nat) (x : Slot) : (d.setBack n x).pwr = d.pwr := rfl
@[simp] theorem Dev.setBack_flt (d : Dev) (n : Nat) (x : Slot) : (d.setBack n x).flt = d.flt := rfl
@[simp] theorem Dev.setBack_rdi (d : Dev) (n : Nat) (x : Slot) (g : Field) (j : Nat) : (d.setBack n x).rdi g j = d.rdi g j := rfl
@[simp] theorem Dev.setBack_rd (d : Dev) (n : Nat) (x : Slot) (g : Field) : (d.setBack n x).rd g = d.rd g := rfl

@[simp] theorem Dev.setBob_regs (d : Dev) (q : Nat) (x : Bobbin) : (d.setBob q x).regs = d.regs := rfl
@[simp] theorem Dev.setBob_mem (d : Dev) (q : Nat) (x : Bobbin) : (d.setBob q x).mem = d.mem := rfl
@[simp] theorem Dev.setBob_out (d : Dev) (q : Nat) (x : Bobbin) : (d.setBob q x).out = d.out := rfl
@[simp] theorem Dev.setBob_access (d : Dev) (q : Nat) (x : Bobbin) : (d.setBob q x).access = d.access := rfl
@[simp] theorem Dev.setBob_free (d : Dev) (q : Nat) (x : Bobbin) : (d.setBob q x).free = d.free := rfl
@[simp] theorem Dev.setBob_now (d : Dev) (q : Nat) (x : Bobbin) : (d.setBob q x).now = d.now := rfl
@[simp] theorem Dev.setBob_fw (d : Dev) (q : Nat) (x : Bobbin) : (d.setBob q x).fw = d.fw := rfl
@[simp] theorem Dev.setBob_recd (d : Dev) (q : Nat) (x : Bobbin) : (d.setBob q x).recd = d.recd := rfl
@[simp] theorem Dev.setBob_deck (d : Dev) (q : Nat) (x : Bobbin) : (d.setBob q x).deck = d.deck := rfl
@[simp] theorem Dev.setBob_beat (d : Dev) (q : Nat) (x : Bobbin) : (d.setBob q x).beat = d.beat := rfl
@[simp] theorem Dev.setBob_trd (d : Dev) (q : Nat) (x : Bobbin) : (d.setBob q x).trd = d.trd := rfl
@[simp] theorem Dev.setBob_sig (d : Dev) (q : Nat) (x : Bobbin) : (d.setBob q x).sig = d.sig := rfl
@[simp] theorem Dev.setBob_chan (d : Dev) (q : Nat) (x : Bobbin) : (d.setBob q x).chan = d.chan := rfl
@[simp] theorem Dev.setBob_bank (d : Dev) (q : Nat) (x : Bobbin) : (d.setBob q x).bank = d.bank := rfl
@[simp] theorem Dev.setBob_can (d : Dev) (q : Nat) (x : Bobbin) : (d.setBob q x).can = d.can := rfl
@[simp] theorem Dev.setBob_tt (d : Dev) (q : Nat) (x : Bobbin) : (d.setBob q x).tt = d.tt := rfl
@[simp] theorem Dev.setBob_swx (d : Dev) (q : Nat) (x : Bobbin) : (d.setBob q x).swx = d.swx := rfl
@[simp] theorem Dev.setBob_brg (d : Dev) (q : Nat) (x : Bobbin) : (d.setBob q x).brg = d.brg := rfl
@[simp] theorem Dev.setBob_nmw (d : Dev) (q : Nat) (x : Bobbin) : (d.setBob q x).nmw = d.nmw := rfl
@[simp] theorem Dev.setBob_sht (d : Dev) (q : Nat) (x : Bobbin) : (d.setBob q x).sht = d.sht := rfl
@[simp] theorem Dev.setBob_cpu (d : Dev) (q : Nat) (x : Bobbin) : (d.setBob q x).cpu = d.cpu := rfl
@[simp] theorem Dev.setBob_key (d : Dev) (q : Nat) (x : Bobbin) : (d.setBob q x).key = d.key := rfl
@[simp] theorem Dev.setBob_dbg (d : Dev) (q : Nat) (x : Bobbin) : (d.setBob q x).dbg = d.dbg := rfl
@[simp] theorem Dev.setBob_upd (d : Dev) (q : Nat) (x : Bobbin) : (d.setBob q x).upd = d.upd := rfl
@[simp] theorem Dev.setBob_pwr (d : Dev) (q : Nat) (x : Bobbin) : (d.setBob q x).pwr = d.pwr := rfl
@[simp] theorem Dev.setBob_flt (d : Dev) (q : Nat) (x : Bobbin) : (d.setBob q x).flt = d.flt := rfl
@[simp] theorem Dev.setBob_rdi (d : Dev) (q : Nat) (x : Bobbin) (g : Field) (j : Nat) : (d.setBob q x).rdi g j = d.rdi g j := rfl
@[simp] theorem Dev.setBob_rd (d : Dev) (q : Nat) (x : Bobbin) (g : Field) : (d.setBob q x).rd g = d.rd g := rfl

@[simp] theorem Dev.setCh_regs (d : Dev) (m : Nat) (x : ChanState) : (d.setCh m x).regs = d.regs := rfl
@[simp] theorem Dev.setCh_mem (d : Dev) (m : Nat) (x : ChanState) : (d.setCh m x).mem = d.mem := rfl
@[simp] theorem Dev.setCh_out (d : Dev) (m : Nat) (x : ChanState) : (d.setCh m x).out = d.out := rfl
@[simp] theorem Dev.setCh_access (d : Dev) (m : Nat) (x : ChanState) : (d.setCh m x).access = d.access := rfl
@[simp] theorem Dev.setCh_free (d : Dev) (m : Nat) (x : ChanState) : (d.setCh m x).free = d.free := rfl
@[simp] theorem Dev.setCh_now (d : Dev) (m : Nat) (x : ChanState) : (d.setCh m x).now = d.now := rfl
@[simp] theorem Dev.setCh_fw (d : Dev) (m : Nat) (x : ChanState) : (d.setCh m x).fw = d.fw := rfl
@[simp] theorem Dev.setCh_recd (d : Dev) (m : Nat) (x : ChanState) : (d.setCh m x).recd = d.recd := rfl
@[simp] theorem Dev.setCh_deck (d : Dev) (m : Nat) (x : ChanState) : (d.setCh m x).deck = d.deck := rfl
@[simp] theorem Dev.setCh_beat (d : Dev) (m : Nat) (x : ChanState) : (d.setCh m x).beat = d.beat := rfl
@[simp] theorem Dev.setCh_trd (d : Dev) (m : Nat) (x : ChanState) : (d.setCh m x).trd = d.trd := rfl
@[simp] theorem Dev.setCh_sig (d : Dev) (m : Nat) (x : ChanState) : (d.setCh m x).sig = d.sig := rfl
@[simp] theorem Dev.setCh_ctx (d : Dev) (m : Nat) (x : ChanState) : (d.setCh m x).ctx = d.ctx := rfl
@[simp] theorem Dev.setCh_bank (d : Dev) (m : Nat) (x : ChanState) : (d.setCh m x).bank = d.bank := rfl
@[simp] theorem Dev.setCh_can (d : Dev) (m : Nat) (x : ChanState) : (d.setCh m x).can = d.can := rfl
@[simp] theorem Dev.setCh_tt (d : Dev) (m : Nat) (x : ChanState) : (d.setCh m x).tt = d.tt := rfl
@[simp] theorem Dev.setCh_swx (d : Dev) (m : Nat) (x : ChanState) : (d.setCh m x).swx = d.swx := rfl
@[simp] theorem Dev.setCh_brg (d : Dev) (m : Nat) (x : ChanState) : (d.setCh m x).brg = d.brg := rfl
@[simp] theorem Dev.setCh_nmw (d : Dev) (m : Nat) (x : ChanState) : (d.setCh m x).nmw = d.nmw := rfl
@[simp] theorem Dev.setCh_sht (d : Dev) (m : Nat) (x : ChanState) : (d.setCh m x).sht = d.sht := rfl
@[simp] theorem Dev.setCh_cpu (d : Dev) (m : Nat) (x : ChanState) : (d.setCh m x).cpu = d.cpu := rfl
@[simp] theorem Dev.setCh_key (d : Dev) (m : Nat) (x : ChanState) : (d.setCh m x).key = d.key := rfl
@[simp] theorem Dev.setCh_dbg (d : Dev) (m : Nat) (x : ChanState) : (d.setCh m x).dbg = d.dbg := rfl
@[simp] theorem Dev.setCh_upd (d : Dev) (m : Nat) (x : ChanState) : (d.setCh m x).upd = d.upd := rfl
@[simp] theorem Dev.setCh_pwr (d : Dev) (m : Nat) (x : ChanState) : (d.setCh m x).pwr = d.pwr := rfl
@[simp] theorem Dev.setCh_flt (d : Dev) (m : Nat) (x : ChanState) : (d.setCh m x).flt = d.flt := rfl
@[simp] theorem Dev.setCh_rdi (d : Dev) (m : Nat) (x : ChanState) (g : Field) (j : Nat) : (d.setCh m x).rdi g j = d.rdi g j := rfl
@[simp] theorem Dev.setCh_rd (d : Dev) (m : Nat) (x : ChanState) (g : Field) : (d.setCh m x).rd g = d.rd g := rfl

@[simp] theorem Dev.setBk_regs (d : Dev) (b : Nat) (x : BankState) : (d.setBk b x).regs = d.regs := rfl
@[simp] theorem Dev.setBk_mem (d : Dev) (b : Nat) (x : BankState) : (d.setBk b x).mem = d.mem := rfl
@[simp] theorem Dev.setBk_out (d : Dev) (b : Nat) (x : BankState) : (d.setBk b x).out = d.out := rfl
@[simp] theorem Dev.setBk_access (d : Dev) (b : Nat) (x : BankState) : (d.setBk b x).access = d.access := rfl
@[simp] theorem Dev.setBk_free (d : Dev) (b : Nat) (x : BankState) : (d.setBk b x).free = d.free := rfl
@[simp] theorem Dev.setBk_now (d : Dev) (b : Nat) (x : BankState) : (d.setBk b x).now = d.now := rfl
@[simp] theorem Dev.setBk_fw (d : Dev) (b : Nat) (x : BankState) : (d.setBk b x).fw = d.fw := rfl
@[simp] theorem Dev.setBk_recd (d : Dev) (b : Nat) (x : BankState) : (d.setBk b x).recd = d.recd := rfl
@[simp] theorem Dev.setBk_deck (d : Dev) (b : Nat) (x : BankState) : (d.setBk b x).deck = d.deck := rfl
@[simp] theorem Dev.setBk_beat (d : Dev) (b : Nat) (x : BankState) : (d.setBk b x).beat = d.beat := rfl
@[simp] theorem Dev.setBk_trd (d : Dev) (b : Nat) (x : BankState) : (d.setBk b x).trd = d.trd := rfl
@[simp] theorem Dev.setBk_sig (d : Dev) (b : Nat) (x : BankState) : (d.setBk b x).sig = d.sig := rfl
@[simp] theorem Dev.setBk_ctx (d : Dev) (b : Nat) (x : BankState) : (d.setBk b x).ctx = d.ctx := rfl
@[simp] theorem Dev.setBk_chan (d : Dev) (b : Nat) (x : BankState) : (d.setBk b x).chan = d.chan := rfl
@[simp] theorem Dev.setBk_can (d : Dev) (b : Nat) (x : BankState) : (d.setBk b x).can = d.can := rfl
@[simp] theorem Dev.setBk_tt (d : Dev) (b : Nat) (x : BankState) : (d.setBk b x).tt = d.tt := rfl
@[simp] theorem Dev.setBk_swx (d : Dev) (b : Nat) (x : BankState) : (d.setBk b x).swx = d.swx := rfl
@[simp] theorem Dev.setBk_brg (d : Dev) (b : Nat) (x : BankState) : (d.setBk b x).brg = d.brg := rfl
@[simp] theorem Dev.setBk_nmw (d : Dev) (b : Nat) (x : BankState) : (d.setBk b x).nmw = d.nmw := rfl
@[simp] theorem Dev.setBk_sht (d : Dev) (b : Nat) (x : BankState) : (d.setBk b x).sht = d.sht := rfl
@[simp] theorem Dev.setBk_cpu (d : Dev) (b : Nat) (x : BankState) : (d.setBk b x).cpu = d.cpu := rfl
@[simp] theorem Dev.setBk_key (d : Dev) (b : Nat) (x : BankState) : (d.setBk b x).key = d.key := rfl
@[simp] theorem Dev.setBk_dbg (d : Dev) (b : Nat) (x : BankState) : (d.setBk b x).dbg = d.dbg := rfl
@[simp] theorem Dev.setBk_upd (d : Dev) (b : Nat) (x : BankState) : (d.setBk b x).upd = d.upd := rfl
@[simp] theorem Dev.setBk_pwr (d : Dev) (b : Nat) (x : BankState) : (d.setBk b x).pwr = d.pwr := rfl
@[simp] theorem Dev.setBk_flt (d : Dev) (b : Nat) (x : BankState) : (d.setBk b x).flt = d.flt := rfl
@[simp] theorem Dev.setBk_rdi (d : Dev) (b : Nat) (x : BankState) (g : Field) (j : Nat) : (d.setBk b x).rdi g j = d.rdi g j := rfl
@[simp] theorem Dev.setBk_rd (d : Dev) (b : Nat) (x : BankState) (g : Field) : (d.setBk b x).rd g = d.rd g := rfl

@[simp] theorem Dev.setCanCtl_regs (d : Dev) (c : Nat) (x : CanCtl) : (d.setCanCtl c x).regs = d.regs := rfl
@[simp] theorem Dev.setCanCtl_mem (d : Dev) (c : Nat) (x : CanCtl) : (d.setCanCtl c x).mem = d.mem := rfl
@[simp] theorem Dev.setCanCtl_out (d : Dev) (c : Nat) (x : CanCtl) : (d.setCanCtl c x).out = d.out := rfl
@[simp] theorem Dev.setCanCtl_access (d : Dev) (c : Nat) (x : CanCtl) : (d.setCanCtl c x).access = d.access := rfl
@[simp] theorem Dev.setCanCtl_free (d : Dev) (c : Nat) (x : CanCtl) : (d.setCanCtl c x).free = d.free := rfl
@[simp] theorem Dev.setCanCtl_now (d : Dev) (c : Nat) (x : CanCtl) : (d.setCanCtl c x).now = d.now := rfl
@[simp] theorem Dev.setCanCtl_fw (d : Dev) (c : Nat) (x : CanCtl) : (d.setCanCtl c x).fw = d.fw := rfl
@[simp] theorem Dev.setCanCtl_recd (d : Dev) (c : Nat) (x : CanCtl) : (d.setCanCtl c x).recd = d.recd := rfl
@[simp] theorem Dev.setCanCtl_deck (d : Dev) (c : Nat) (x : CanCtl) : (d.setCanCtl c x).deck = d.deck := rfl
@[simp] theorem Dev.setCanCtl_beat (d : Dev) (c : Nat) (x : CanCtl) : (d.setCanCtl c x).beat = d.beat := rfl
@[simp] theorem Dev.setCanCtl_trd (d : Dev) (c : Nat) (x : CanCtl) : (d.setCanCtl c x).trd = d.trd := rfl
@[simp] theorem Dev.setCanCtl_sig (d : Dev) (c : Nat) (x : CanCtl) : (d.setCanCtl c x).sig = d.sig := rfl
@[simp] theorem Dev.setCanCtl_ctx (d : Dev) (c : Nat) (x : CanCtl) : (d.setCanCtl c x).ctx = d.ctx := rfl
@[simp] theorem Dev.setCanCtl_chan (d : Dev) (c : Nat) (x : CanCtl) : (d.setCanCtl c x).chan = d.chan := rfl
@[simp] theorem Dev.setCanCtl_bank (d : Dev) (c : Nat) (x : CanCtl) : (d.setCanCtl c x).bank = d.bank := rfl
@[simp] theorem Dev.setCanCtl_tt (d : Dev) (c : Nat) (x : CanCtl) : (d.setCanCtl c x).tt = d.tt := rfl
@[simp] theorem Dev.setCanCtl_swx (d : Dev) (c : Nat) (x : CanCtl) : (d.setCanCtl c x).swx = d.swx := rfl
@[simp] theorem Dev.setCanCtl_brg (d : Dev) (c : Nat) (x : CanCtl) : (d.setCanCtl c x).brg = d.brg := rfl
@[simp] theorem Dev.setCanCtl_nmw (d : Dev) (c : Nat) (x : CanCtl) : (d.setCanCtl c x).nmw = d.nmw := rfl
@[simp] theorem Dev.setCanCtl_sht (d : Dev) (c : Nat) (x : CanCtl) : (d.setCanCtl c x).sht = d.sht := rfl
@[simp] theorem Dev.setCanCtl_cpu (d : Dev) (c : Nat) (x : CanCtl) : (d.setCanCtl c x).cpu = d.cpu := rfl
@[simp] theorem Dev.setCanCtl_key (d : Dev) (c : Nat) (x : CanCtl) : (d.setCanCtl c x).key = d.key := rfl
@[simp] theorem Dev.setCanCtl_dbg (d : Dev) (c : Nat) (x : CanCtl) : (d.setCanCtl c x).dbg = d.dbg := rfl
@[simp] theorem Dev.setCanCtl_upd (d : Dev) (c : Nat) (x : CanCtl) : (d.setCanCtl c x).upd = d.upd := rfl
@[simp] theorem Dev.setCanCtl_pwr (d : Dev) (c : Nat) (x : CanCtl) : (d.setCanCtl c x).pwr = d.pwr := rfl
@[simp] theorem Dev.setCanCtl_flt (d : Dev) (c : Nat) (x : CanCtl) : (d.setCanCtl c x).flt = d.flt := rfl
@[simp] theorem Dev.setCanCtl_rdi (d : Dev) (c : Nat) (x : CanCtl) (g : Field) (j : Nat) : (d.setCanCtl c x).rdi g j = d.rdi g j := rfl
@[simp] theorem Dev.setCanCtl_rd (d : Dev) (c : Nat) (x : CanCtl) (g : Field) : (d.setCanCtl c x).rd g = d.rd g := rfl

@[simp] theorem Dev.setTtCtl_regs (d : Dev) (t : Nat) (x : TtCtl) : (d.setTtCtl t x).regs = d.regs := rfl
@[simp] theorem Dev.setTtCtl_mem (d : Dev) (t : Nat) (x : TtCtl) : (d.setTtCtl t x).mem = d.mem := rfl
@[simp] theorem Dev.setTtCtl_out (d : Dev) (t : Nat) (x : TtCtl) : (d.setTtCtl t x).out = d.out := rfl
@[simp] theorem Dev.setTtCtl_access (d : Dev) (t : Nat) (x : TtCtl) : (d.setTtCtl t x).access = d.access := rfl
@[simp] theorem Dev.setTtCtl_free (d : Dev) (t : Nat) (x : TtCtl) : (d.setTtCtl t x).free = d.free := rfl
@[simp] theorem Dev.setTtCtl_now (d : Dev) (t : Nat) (x : TtCtl) : (d.setTtCtl t x).now = d.now := rfl
@[simp] theorem Dev.setTtCtl_fw (d : Dev) (t : Nat) (x : TtCtl) : (d.setTtCtl t x).fw = d.fw := rfl
@[simp] theorem Dev.setTtCtl_recd (d : Dev) (t : Nat) (x : TtCtl) : (d.setTtCtl t x).recd = d.recd := rfl
@[simp] theorem Dev.setTtCtl_deck (d : Dev) (t : Nat) (x : TtCtl) : (d.setTtCtl t x).deck = d.deck := rfl
@[simp] theorem Dev.setTtCtl_beat (d : Dev) (t : Nat) (x : TtCtl) : (d.setTtCtl t x).beat = d.beat := rfl
@[simp] theorem Dev.setTtCtl_trd (d : Dev) (t : Nat) (x : TtCtl) : (d.setTtCtl t x).trd = d.trd := rfl
@[simp] theorem Dev.setTtCtl_sig (d : Dev) (t : Nat) (x : TtCtl) : (d.setTtCtl t x).sig = d.sig := rfl
@[simp] theorem Dev.setTtCtl_ctx (d : Dev) (t : Nat) (x : TtCtl) : (d.setTtCtl t x).ctx = d.ctx := rfl
@[simp] theorem Dev.setTtCtl_chan (d : Dev) (t : Nat) (x : TtCtl) : (d.setTtCtl t x).chan = d.chan := rfl
@[simp] theorem Dev.setTtCtl_bank (d : Dev) (t : Nat) (x : TtCtl) : (d.setTtCtl t x).bank = d.bank := rfl
@[simp] theorem Dev.setTtCtl_can (d : Dev) (t : Nat) (x : TtCtl) : (d.setTtCtl t x).can = d.can := rfl
@[simp] theorem Dev.setTtCtl_swx (d : Dev) (t : Nat) (x : TtCtl) : (d.setTtCtl t x).swx = d.swx := rfl
@[simp] theorem Dev.setTtCtl_brg (d : Dev) (t : Nat) (x : TtCtl) : (d.setTtCtl t x).brg = d.brg := rfl
@[simp] theorem Dev.setTtCtl_nmw (d : Dev) (t : Nat) (x : TtCtl) : (d.setTtCtl t x).nmw = d.nmw := rfl
@[simp] theorem Dev.setTtCtl_sht (d : Dev) (t : Nat) (x : TtCtl) : (d.setTtCtl t x).sht = d.sht := rfl
@[simp] theorem Dev.setTtCtl_cpu (d : Dev) (t : Nat) (x : TtCtl) : (d.setTtCtl t x).cpu = d.cpu := rfl
@[simp] theorem Dev.setTtCtl_key (d : Dev) (t : Nat) (x : TtCtl) : (d.setTtCtl t x).key = d.key := rfl
@[simp] theorem Dev.setTtCtl_dbg (d : Dev) (t : Nat) (x : TtCtl) : (d.setTtCtl t x).dbg = d.dbg := rfl
@[simp] theorem Dev.setTtCtl_upd (d : Dev) (t : Nat) (x : TtCtl) : (d.setTtCtl t x).upd = d.upd := rfl
@[simp] theorem Dev.setTtCtl_pwr (d : Dev) (t : Nat) (x : TtCtl) : (d.setTtCtl t x).pwr = d.pwr := rfl
@[simp] theorem Dev.setTtCtl_flt (d : Dev) (t : Nat) (x : TtCtl) : (d.setTtCtl t x).flt = d.flt := rfl
@[simp] theorem Dev.setTtCtl_rdi (d : Dev) (t : Nat) (x : TtCtl) (g : Field) (j : Nat) : (d.setTtCtl t x).rdi g j = d.rdi g j := rfl
@[simp] theorem Dev.setTtCtl_rd (d : Dev) (t : Nat) (x : TtCtl) (g : Field) : (d.setTtCtl t x).rd g = d.rd g := rfl

@[simp] theorem Dev.setWin_regs (d : Dev) (w : Nat) (x : Window) : (d.setWin w x).regs = d.regs := rfl
@[simp] theorem Dev.setWin_mem (d : Dev) (w : Nat) (x : Window) : (d.setWin w x).mem = d.mem := rfl
@[simp] theorem Dev.setWin_out (d : Dev) (w : Nat) (x : Window) : (d.setWin w x).out = d.out := rfl
@[simp] theorem Dev.setWin_access (d : Dev) (w : Nat) (x : Window) : (d.setWin w x).access = d.access := rfl
@[simp] theorem Dev.setWin_free (d : Dev) (w : Nat) (x : Window) : (d.setWin w x).free = d.free := rfl
@[simp] theorem Dev.setWin_now (d : Dev) (w : Nat) (x : Window) : (d.setWin w x).now = d.now := rfl
@[simp] theorem Dev.setWin_fw (d : Dev) (w : Nat) (x : Window) : (d.setWin w x).fw = d.fw := rfl
@[simp] theorem Dev.setWin_recd (d : Dev) (w : Nat) (x : Window) : (d.setWin w x).recd = d.recd := rfl
@[simp] theorem Dev.setWin_deck (d : Dev) (w : Nat) (x : Window) : (d.setWin w x).deck = d.deck := rfl
@[simp] theorem Dev.setWin_beat (d : Dev) (w : Nat) (x : Window) : (d.setWin w x).beat = d.beat := rfl
@[simp] theorem Dev.setWin_trd (d : Dev) (w : Nat) (x : Window) : (d.setWin w x).trd = d.trd := rfl
@[simp] theorem Dev.setWin_sig (d : Dev) (w : Nat) (x : Window) : (d.setWin w x).sig = d.sig := rfl
@[simp] theorem Dev.setWin_ctx (d : Dev) (w : Nat) (x : Window) : (d.setWin w x).ctx = d.ctx := rfl
@[simp] theorem Dev.setWin_chan (d : Dev) (w : Nat) (x : Window) : (d.setWin w x).chan = d.chan := rfl
@[simp] theorem Dev.setWin_bank (d : Dev) (w : Nat) (x : Window) : (d.setWin w x).bank = d.bank := rfl
@[simp] theorem Dev.setWin_can (d : Dev) (w : Nat) (x : Window) : (d.setWin w x).can = d.can := rfl
@[simp] theorem Dev.setWin_tt (d : Dev) (w : Nat) (x : Window) : (d.setWin w x).tt = d.tt := rfl
@[simp] theorem Dev.setWin_swx (d : Dev) (w : Nat) (x : Window) : (d.setWin w x).swx = d.swx := rfl
@[simp] theorem Dev.setWin_nmw (d : Dev) (w : Nat) (x : Window) : (d.setWin w x).nmw = d.nmw := rfl
@[simp] theorem Dev.setWin_sht (d : Dev) (w : Nat) (x : Window) : (d.setWin w x).sht = d.sht := rfl
@[simp] theorem Dev.setWin_cpu (d : Dev) (w : Nat) (x : Window) : (d.setWin w x).cpu = d.cpu := rfl
@[simp] theorem Dev.setWin_key (d : Dev) (w : Nat) (x : Window) : (d.setWin w x).key = d.key := rfl
@[simp] theorem Dev.setWin_dbg (d : Dev) (w : Nat) (x : Window) : (d.setWin w x).dbg = d.dbg := rfl
@[simp] theorem Dev.setWin_upd (d : Dev) (w : Nat) (x : Window) : (d.setWin w x).upd = d.upd := rfl
@[simp] theorem Dev.setWin_pwr (d : Dev) (w : Nat) (x : Window) : (d.setWin w x).pwr = d.pwr := rfl
@[simp] theorem Dev.setWin_flt (d : Dev) (w : Nat) (x : Window) : (d.setWin w x).flt = d.flt := rfl
@[simp] theorem Dev.setWin_rdi (d : Dev) (w : Nat) (x : Window) (g : Field) (j : Nat) : (d.setWin w x).rdi g j = d.rdi g j := rfl
@[simp] theorem Dev.setWin_rd (d : Dev) (w : Nat) (x : Window) (g : Field) : (d.setWin w x).rd g = d.rd g := rfl

@[simp] theorem Dev.setCl_regs (d : Dev) (k : Nat) (x : Cluster) : (d.setCl k x).regs = d.regs := rfl
@[simp] theorem Dev.setCl_mem (d : Dev) (k : Nat) (x : Cluster) : (d.setCl k x).mem = d.mem := rfl
@[simp] theorem Dev.setCl_out (d : Dev) (k : Nat) (x : Cluster) : (d.setCl k x).out = d.out := rfl
@[simp] theorem Dev.setCl_access (d : Dev) (k : Nat) (x : Cluster) : (d.setCl k x).access = d.access := rfl
@[simp] theorem Dev.setCl_free (d : Dev) (k : Nat) (x : Cluster) : (d.setCl k x).free = d.free := rfl
@[simp] theorem Dev.setCl_now (d : Dev) (k : Nat) (x : Cluster) : (d.setCl k x).now = d.now := rfl
@[simp] theorem Dev.setCl_fw (d : Dev) (k : Nat) (x : Cluster) : (d.setCl k x).fw = d.fw := rfl
@[simp] theorem Dev.setCl_recd (d : Dev) (k : Nat) (x : Cluster) : (d.setCl k x).recd = d.recd := rfl
@[simp] theorem Dev.setCl_deck (d : Dev) (k : Nat) (x : Cluster) : (d.setCl k x).deck = d.deck := rfl
@[simp] theorem Dev.setCl_beat (d : Dev) (k : Nat) (x : Cluster) : (d.setCl k x).beat = d.beat := rfl
@[simp] theorem Dev.setCl_trd (d : Dev) (k : Nat) (x : Cluster) : (d.setCl k x).trd = d.trd := rfl
@[simp] theorem Dev.setCl_sig (d : Dev) (k : Nat) (x : Cluster) : (d.setCl k x).sig = d.sig := rfl
@[simp] theorem Dev.setCl_ctx (d : Dev) (k : Nat) (x : Cluster) : (d.setCl k x).ctx = d.ctx := rfl
@[simp] theorem Dev.setCl_chan (d : Dev) (k : Nat) (x : Cluster) : (d.setCl k x).chan = d.chan := rfl
@[simp] theorem Dev.setCl_bank (d : Dev) (k : Nat) (x : Cluster) : (d.setCl k x).bank = d.bank := rfl
@[simp] theorem Dev.setCl_can (d : Dev) (k : Nat) (x : Cluster) : (d.setCl k x).can = d.can := rfl
@[simp] theorem Dev.setCl_tt (d : Dev) (k : Nat) (x : Cluster) : (d.setCl k x).tt = d.tt := rfl
@[simp] theorem Dev.setCl_swx (d : Dev) (k : Nat) (x : Cluster) : (d.setCl k x).swx = d.swx := rfl
@[simp] theorem Dev.setCl_brg (d : Dev) (k : Nat) (x : Cluster) : (d.setCl k x).brg = d.brg := rfl
@[simp] theorem Dev.setCl_sht (d : Dev) (k : Nat) (x : Cluster) : (d.setCl k x).sht = d.sht := rfl
@[simp] theorem Dev.setCl_cpu (d : Dev) (k : Nat) (x : Cluster) : (d.setCl k x).cpu = d.cpu := rfl
@[simp] theorem Dev.setCl_key (d : Dev) (k : Nat) (x : Cluster) : (d.setCl k x).key = d.key := rfl
@[simp] theorem Dev.setCl_dbg (d : Dev) (k : Nat) (x : Cluster) : (d.setCl k x).dbg = d.dbg := rfl
@[simp] theorem Dev.setCl_upd (d : Dev) (k : Nat) (x : Cluster) : (d.setCl k x).upd = d.upd := rfl
@[simp] theorem Dev.setCl_pwr (d : Dev) (k : Nat) (x : Cluster) : (d.setCl k x).pwr = d.pwr := rfl
@[simp] theorem Dev.setCl_flt (d : Dev) (k : Nat) (x : Cluster) : (d.setCl k x).flt = d.flt := rfl
@[simp] theorem Dev.setCl_rdi (d : Dev) (k : Nat) (x : Cluster) (g : Field) (j : Nat) : (d.setCl k x).rdi g j = d.rdi g j := rfl
@[simp] theorem Dev.setCl_rd (d : Dev) (k : Nat) (x : Cluster) (g : Field) : (d.setCl k x).rd g = d.rd g := rfl

@[simp] theorem Dev.setSession_regs (d : Dev) (n : Nat) (x : Session) : (d.setSession n x).regs = d.regs := rfl
@[simp] theorem Dev.setSession_mem (d : Dev) (n : Nat) (x : Session) : (d.setSession n x).mem = d.mem := rfl
@[simp] theorem Dev.setSession_out (d : Dev) (n : Nat) (x : Session) : (d.setSession n x).out = d.out := rfl
@[simp] theorem Dev.setSession_access (d : Dev) (n : Nat) (x : Session) : (d.setSession n x).access = d.access := rfl
@[simp] theorem Dev.setSession_free (d : Dev) (n : Nat) (x : Session) : (d.setSession n x).free = d.free := rfl
@[simp] theorem Dev.setSession_now (d : Dev) (n : Nat) (x : Session) : (d.setSession n x).now = d.now := rfl
@[simp] theorem Dev.setSession_fw (d : Dev) (n : Nat) (x : Session) : (d.setSession n x).fw = d.fw := rfl
@[simp] theorem Dev.setSession_recd (d : Dev) (n : Nat) (x : Session) : (d.setSession n x).recd = d.recd := rfl
@[simp] theorem Dev.setSession_deck (d : Dev) (n : Nat) (x : Session) : (d.setSession n x).deck = d.deck := rfl
@[simp] theorem Dev.setSession_beat (d : Dev) (n : Nat) (x : Session) : (d.setSession n x).beat = d.beat := rfl
@[simp] theorem Dev.setSession_trd (d : Dev) (n : Nat) (x : Session) : (d.setSession n x).trd = d.trd := rfl
@[simp] theorem Dev.setSession_sig (d : Dev) (n : Nat) (x : Session) : (d.setSession n x).sig = d.sig := rfl
@[simp] theorem Dev.setSession_ctx (d : Dev) (n : Nat) (x : Session) : (d.setSession n x).ctx = d.ctx := rfl
@[simp] theorem Dev.setSession_chan (d : Dev) (n : Nat) (x : Session) : (d.setSession n x).chan = d.chan := rfl
@[simp] theorem Dev.setSession_bank (d : Dev) (n : Nat) (x : Session) : (d.setSession n x).bank = d.bank := rfl
@[simp] theorem Dev.setSession_can (d : Dev) (n : Nat) (x : Session) : (d.setSession n x).can = d.can := rfl
@[simp] theorem Dev.setSession_tt (d : Dev) (n : Nat) (x : Session) : (d.setSession n x).tt = d.tt := rfl
@[simp] theorem Dev.setSession_swx (d : Dev) (n : Nat) (x : Session) : (d.setSession n x).swx = d.swx := rfl
@[simp] theorem Dev.setSession_brg (d : Dev) (n : Nat) (x : Session) : (d.setSession n x).brg = d.brg := rfl
@[simp] theorem Dev.setSession_nmw (d : Dev) (n : Nat) (x : Session) : (d.setSession n x).nmw = d.nmw := rfl
@[simp] theorem Dev.setSession_cpu (d : Dev) (n : Nat) (x : Session) : (d.setSession n x).cpu = d.cpu := rfl
@[simp] theorem Dev.setSession_key (d : Dev) (n : Nat) (x : Session) : (d.setSession n x).key = d.key := rfl
@[simp] theorem Dev.setSession_dbg (d : Dev) (n : Nat) (x : Session) : (d.setSession n x).dbg = d.dbg := rfl
@[simp] theorem Dev.setSession_upd (d : Dev) (n : Nat) (x : Session) : (d.setSession n x).upd = d.upd := rfl
@[simp] theorem Dev.setSession_pwr (d : Dev) (n : Nat) (x : Session) : (d.setSession n x).pwr = d.pwr := rfl
@[simp] theorem Dev.setSession_flt (d : Dev) (n : Nat) (x : Session) : (d.setSession n x).flt = d.flt := rfl
@[simp] theorem Dev.setSession_rdi (d : Dev) (n : Nat) (x : Session) (g : Field) (j : Nat) : (d.setSession n x).rdi g j = d.rdi g j := rfl
@[simp] theorem Dev.setSession_rd (d : Dev) (n : Nat) (x : Session) (g : Field) : (d.setSession n x).rd g = d.rd g := rfl

@[simp] theorem Dev.setKeySlot_regs (d : Dev) (k : Nat) (x : KeySlot) : (d.setKeySlot k x).regs = d.regs := rfl
@[simp] theorem Dev.setKeySlot_mem (d : Dev) (k : Nat) (x : KeySlot) : (d.setKeySlot k x).mem = d.mem := rfl
@[simp] theorem Dev.setKeySlot_out (d : Dev) (k : Nat) (x : KeySlot) : (d.setKeySlot k x).out = d.out := rfl
@[simp] theorem Dev.setKeySlot_access (d : Dev) (k : Nat) (x : KeySlot) : (d.setKeySlot k x).access = d.access := rfl
@[simp] theorem Dev.setKeySlot_free (d : Dev) (k : Nat) (x : KeySlot) : (d.setKeySlot k x).free = d.free := rfl
@[simp] theorem Dev.setKeySlot_now (d : Dev) (k : Nat) (x : KeySlot) : (d.setKeySlot k x).now = d.now := rfl
@[simp] theorem Dev.setKeySlot_fw (d : Dev) (k : Nat) (x : KeySlot) : (d.setKeySlot k x).fw = d.fw := rfl
@[simp] theorem Dev.setKeySlot_recd (d : Dev) (k : Nat) (x : KeySlot) : (d.setKeySlot k x).recd = d.recd := rfl
@[simp] theorem Dev.setKeySlot_deck (d : Dev) (k : Nat) (x : KeySlot) : (d.setKeySlot k x).deck = d.deck := rfl
@[simp] theorem Dev.setKeySlot_beat (d : Dev) (k : Nat) (x : KeySlot) : (d.setKeySlot k x).beat = d.beat := rfl
@[simp] theorem Dev.setKeySlot_trd (d : Dev) (k : Nat) (x : KeySlot) : (d.setKeySlot k x).trd = d.trd := rfl
@[simp] theorem Dev.setKeySlot_sig (d : Dev) (k : Nat) (x : KeySlot) : (d.setKeySlot k x).sig = d.sig := rfl
@[simp] theorem Dev.setKeySlot_ctx (d : Dev) (k : Nat) (x : KeySlot) : (d.setKeySlot k x).ctx = d.ctx := rfl
@[simp] theorem Dev.setKeySlot_chan (d : Dev) (k : Nat) (x : KeySlot) : (d.setKeySlot k x).chan = d.chan := rfl
@[simp] theorem Dev.setKeySlot_bank (d : Dev) (k : Nat) (x : KeySlot) : (d.setKeySlot k x).bank = d.bank := rfl
@[simp] theorem Dev.setKeySlot_can (d : Dev) (k : Nat) (x : KeySlot) : (d.setKeySlot k x).can = d.can := rfl
@[simp] theorem Dev.setKeySlot_tt (d : Dev) (k : Nat) (x : KeySlot) : (d.setKeySlot k x).tt = d.tt := rfl
@[simp] theorem Dev.setKeySlot_swx (d : Dev) (k : Nat) (x : KeySlot) : (d.setKeySlot k x).swx = d.swx := rfl
@[simp] theorem Dev.setKeySlot_brg (d : Dev) (k : Nat) (x : KeySlot) : (d.setKeySlot k x).brg = d.brg := rfl
@[simp] theorem Dev.setKeySlot_nmw (d : Dev) (k : Nat) (x : KeySlot) : (d.setKeySlot k x).nmw = d.nmw := rfl
@[simp] theorem Dev.setKeySlot_sht (d : Dev) (k : Nat) (x : KeySlot) : (d.setKeySlot k x).sht = d.sht := rfl
@[simp] theorem Dev.setKeySlot_cpu (d : Dev) (k : Nat) (x : KeySlot) : (d.setKeySlot k x).cpu = d.cpu := rfl
@[simp] theorem Dev.setKeySlot_dbg (d : Dev) (k : Nat) (x : KeySlot) : (d.setKeySlot k x).dbg = d.dbg := rfl
@[simp] theorem Dev.setKeySlot_upd (d : Dev) (k : Nat) (x : KeySlot) : (d.setKeySlot k x).upd = d.upd := rfl
@[simp] theorem Dev.setKeySlot_pwr (d : Dev) (k : Nat) (x : KeySlot) : (d.setKeySlot k x).pwr = d.pwr := rfl
@[simp] theorem Dev.setKeySlot_flt (d : Dev) (k : Nat) (x : KeySlot) : (d.setKeySlot k x).flt = d.flt := rfl
@[simp] theorem Dev.setKeySlot_rdi (d : Dev) (k : Nat) (x : KeySlot) (g : Field) (j : Nat) : (d.setKeySlot k x).rdi g j = d.rdi g j := rfl
@[simp] theorem Dev.setKeySlot_rd (d : Dev) (k : Nat) (x : KeySlot) (g : Field) : (d.setKeySlot k x).rd g = d.rd g := rfl

@[simp] theorem Dev.setKeyChan_regs (d : Dev) (n : Nat) (x : KeyChan) : (d.setKeyChan n x).regs = d.regs := rfl
@[simp] theorem Dev.setKeyChan_mem (d : Dev) (n : Nat) (x : KeyChan) : (d.setKeyChan n x).mem = d.mem := rfl
@[simp] theorem Dev.setKeyChan_out (d : Dev) (n : Nat) (x : KeyChan) : (d.setKeyChan n x).out = d.out := rfl
@[simp] theorem Dev.setKeyChan_access (d : Dev) (n : Nat) (x : KeyChan) : (d.setKeyChan n x).access = d.access := rfl
@[simp] theorem Dev.setKeyChan_free (d : Dev) (n : Nat) (x : KeyChan) : (d.setKeyChan n x).free = d.free := rfl
@[simp] theorem Dev.setKeyChan_now (d : Dev) (n : Nat) (x : KeyChan) : (d.setKeyChan n x).now = d.now := rfl
@[simp] theorem Dev.setKeyChan_fw (d : Dev) (n : Nat) (x : KeyChan) : (d.setKeyChan n x).fw = d.fw := rfl
@[simp] theorem Dev.setKeyChan_recd (d : Dev) (n : Nat) (x : KeyChan) : (d.setKeyChan n x).recd = d.recd := rfl
@[simp] theorem Dev.setKeyChan_deck (d : Dev) (n : Nat) (x : KeyChan) : (d.setKeyChan n x).deck = d.deck := rfl
@[simp] theorem Dev.setKeyChan_beat (d : Dev) (n : Nat) (x : KeyChan) : (d.setKeyChan n x).beat = d.beat := rfl
@[simp] theorem Dev.setKeyChan_trd (d : Dev) (n : Nat) (x : KeyChan) : (d.setKeyChan n x).trd = d.trd := rfl
@[simp] theorem Dev.setKeyChan_sig (d : Dev) (n : Nat) (x : KeyChan) : (d.setKeyChan n x).sig = d.sig := rfl
@[simp] theorem Dev.setKeyChan_ctx (d : Dev) (n : Nat) (x : KeyChan) : (d.setKeyChan n x).ctx = d.ctx := rfl
@[simp] theorem Dev.setKeyChan_chan (d : Dev) (n : Nat) (x : KeyChan) : (d.setKeyChan n x).chan = d.chan := rfl
@[simp] theorem Dev.setKeyChan_bank (d : Dev) (n : Nat) (x : KeyChan) : (d.setKeyChan n x).bank = d.bank := rfl
@[simp] theorem Dev.setKeyChan_can (d : Dev) (n : Nat) (x : KeyChan) : (d.setKeyChan n x).can = d.can := rfl
@[simp] theorem Dev.setKeyChan_tt (d : Dev) (n : Nat) (x : KeyChan) : (d.setKeyChan n x).tt = d.tt := rfl
@[simp] theorem Dev.setKeyChan_swx (d : Dev) (n : Nat) (x : KeyChan) : (d.setKeyChan n x).swx = d.swx := rfl
@[simp] theorem Dev.setKeyChan_brg (d : Dev) (n : Nat) (x : KeyChan) : (d.setKeyChan n x).brg = d.brg := rfl
@[simp] theorem Dev.setKeyChan_nmw (d : Dev) (n : Nat) (x : KeyChan) : (d.setKeyChan n x).nmw = d.nmw := rfl
@[simp] theorem Dev.setKeyChan_sht (d : Dev) (n : Nat) (x : KeyChan) : (d.setKeyChan n x).sht = d.sht := rfl
@[simp] theorem Dev.setKeyChan_cpu (d : Dev) (n : Nat) (x : KeyChan) : (d.setKeyChan n x).cpu = d.cpu := rfl
@[simp] theorem Dev.setKeyChan_dbg (d : Dev) (n : Nat) (x : KeyChan) : (d.setKeyChan n x).dbg = d.dbg := rfl
@[simp] theorem Dev.setKeyChan_upd (d : Dev) (n : Nat) (x : KeyChan) : (d.setKeyChan n x).upd = d.upd := rfl
@[simp] theorem Dev.setKeyChan_pwr (d : Dev) (n : Nat) (x : KeyChan) : (d.setKeyChan n x).pwr = d.pwr := rfl
@[simp] theorem Dev.setKeyChan_flt (d : Dev) (n : Nat) (x : KeyChan) : (d.setKeyChan n x).flt = d.flt := rfl
@[simp] theorem Dev.setKeyChan_rdi (d : Dev) (n : Nat) (x : KeyChan) (g : Field) (j : Nat) : (d.setKeyChan n x).rdi g j = d.rdi g j := rfl
@[simp] theorem Dev.setKeyChan_rd (d : Dev) (n : Nat) (x : KeyChan) (g : Field) : (d.setKeyChan n x).rd g = d.rd g := rfl

@[simp] theorem Dev.setUpd_regs (d : Dev) (x : UpdState) : (d.setUpd x).regs = d.regs := rfl
@[simp] theorem Dev.setUpd_mem (d : Dev) (x : UpdState) : (d.setUpd x).mem = d.mem := rfl
@[simp] theorem Dev.setUpd_out (d : Dev) (x : UpdState) : (d.setUpd x).out = d.out := rfl
@[simp] theorem Dev.setUpd_access (d : Dev) (x : UpdState) : (d.setUpd x).access = d.access := rfl
@[simp] theorem Dev.setUpd_free (d : Dev) (x : UpdState) : (d.setUpd x).free = d.free := rfl
@[simp] theorem Dev.setUpd_now (d : Dev) (x : UpdState) : (d.setUpd x).now = d.now := rfl
@[simp] theorem Dev.setUpd_fw (d : Dev) (x : UpdState) : (d.setUpd x).fw = d.fw := rfl
@[simp] theorem Dev.setUpd_recd (d : Dev) (x : UpdState) : (d.setUpd x).recd = d.recd := rfl
@[simp] theorem Dev.setUpd_deck (d : Dev) (x : UpdState) : (d.setUpd x).deck = d.deck := rfl
@[simp] theorem Dev.setUpd_beat (d : Dev) (x : UpdState) : (d.setUpd x).beat = d.beat := rfl
@[simp] theorem Dev.setUpd_trd (d : Dev) (x : UpdState) : (d.setUpd x).trd = d.trd := rfl
@[simp] theorem Dev.setUpd_sig (d : Dev) (x : UpdState) : (d.setUpd x).sig = d.sig := rfl
@[simp] theorem Dev.setUpd_ctx (d : Dev) (x : UpdState) : (d.setUpd x).ctx = d.ctx := rfl
@[simp] theorem Dev.setUpd_chan (d : Dev) (x : UpdState) : (d.setUpd x).chan = d.chan := rfl
@[simp] theorem Dev.setUpd_bank (d : Dev) (x : UpdState) : (d.setUpd x).bank = d.bank := rfl
@[simp] theorem Dev.setUpd_can (d : Dev) (x : UpdState) : (d.setUpd x).can = d.can := rfl
@[simp] theorem Dev.setUpd_tt (d : Dev) (x : UpdState) : (d.setUpd x).tt = d.tt := rfl
@[simp] theorem Dev.setUpd_swx (d : Dev) (x : UpdState) : (d.setUpd x).swx = d.swx := rfl
@[simp] theorem Dev.setUpd_brg (d : Dev) (x : UpdState) : (d.setUpd x).brg = d.brg := rfl
@[simp] theorem Dev.setUpd_nmw (d : Dev) (x : UpdState) : (d.setUpd x).nmw = d.nmw := rfl
@[simp] theorem Dev.setUpd_sht (d : Dev) (x : UpdState) : (d.setUpd x).sht = d.sht := rfl
@[simp] theorem Dev.setUpd_cpu (d : Dev) (x : UpdState) : (d.setUpd x).cpu = d.cpu := rfl
@[simp] theorem Dev.setUpd_key (d : Dev) (x : UpdState) : (d.setUpd x).key = d.key := rfl
@[simp] theorem Dev.setUpd_dbg (d : Dev) (x : UpdState) : (d.setUpd x).dbg = d.dbg := rfl
@[simp] theorem Dev.setUpd_pwr (d : Dev) (x : UpdState) : (d.setUpd x).pwr = d.pwr := rfl
@[simp] theorem Dev.setUpd_flt (d : Dev) (x : UpdState) : (d.setUpd x).flt = d.flt := rfl
@[simp] theorem Dev.setUpd_rdi (d : Dev) (x : UpdState) (g : Field) (j : Nat) : (d.setUpd x).rdi g j = d.rdi g j := rfl
@[simp] theorem Dev.setUpd_rd (d : Dev) (x : UpdState) (g : Field) : (d.setUpd x).rd g = d.rd g := rfl
@[simp] theorem Dev.setUpd_self (d : Dev) (x : UpdState) : (d.setUpd x).upd = x := rfl

@[simp] theorem Dev.setPwr_regs (d : Dev) (x : PwrState) : (d.setPwr x).regs = d.regs := rfl
@[simp] theorem Dev.setPwr_mem (d : Dev) (x : PwrState) : (d.setPwr x).mem = d.mem := rfl
@[simp] theorem Dev.setPwr_out (d : Dev) (x : PwrState) : (d.setPwr x).out = d.out := rfl
@[simp] theorem Dev.setPwr_access (d : Dev) (x : PwrState) : (d.setPwr x).access = d.access := rfl
@[simp] theorem Dev.setPwr_free (d : Dev) (x : PwrState) : (d.setPwr x).free = d.free := rfl
@[simp] theorem Dev.setPwr_now (d : Dev) (x : PwrState) : (d.setPwr x).now = d.now := rfl
@[simp] theorem Dev.setPwr_fw (d : Dev) (x : PwrState) : (d.setPwr x).fw = d.fw := rfl
@[simp] theorem Dev.setPwr_recd (d : Dev) (x : PwrState) : (d.setPwr x).recd = d.recd := rfl
@[simp] theorem Dev.setPwr_deck (d : Dev) (x : PwrState) : (d.setPwr x).deck = d.deck := rfl
@[simp] theorem Dev.setPwr_beat (d : Dev) (x : PwrState) : (d.setPwr x).beat = d.beat := rfl
@[simp] theorem Dev.setPwr_trd (d : Dev) (x : PwrState) : (d.setPwr x).trd = d.trd := rfl
@[simp] theorem Dev.setPwr_sig (d : Dev) (x : PwrState) : (d.setPwr x).sig = d.sig := rfl
@[simp] theorem Dev.setPwr_ctx (d : Dev) (x : PwrState) : (d.setPwr x).ctx = d.ctx := rfl
@[simp] theorem Dev.setPwr_chan (d : Dev) (x : PwrState) : (d.setPwr x).chan = d.chan := rfl
@[simp] theorem Dev.setPwr_bank (d : Dev) (x : PwrState) : (d.setPwr x).bank = d.bank := rfl
@[simp] theorem Dev.setPwr_can (d : Dev) (x : PwrState) : (d.setPwr x).can = d.can := rfl
@[simp] theorem Dev.setPwr_tt (d : Dev) (x : PwrState) : (d.setPwr x).tt = d.tt := rfl
@[simp] theorem Dev.setPwr_swx (d : Dev) (x : PwrState) : (d.setPwr x).swx = d.swx := rfl
@[simp] theorem Dev.setPwr_brg (d : Dev) (x : PwrState) : (d.setPwr x).brg = d.brg := rfl
@[simp] theorem Dev.setPwr_nmw (d : Dev) (x : PwrState) : (d.setPwr x).nmw = d.nmw := rfl
@[simp] theorem Dev.setPwr_sht (d : Dev) (x : PwrState) : (d.setPwr x).sht = d.sht := rfl
@[simp] theorem Dev.setPwr_cpu (d : Dev) (x : PwrState) : (d.setPwr x).cpu = d.cpu := rfl
@[simp] theorem Dev.setPwr_key (d : Dev) (x : PwrState) : (d.setPwr x).key = d.key := rfl
@[simp] theorem Dev.setPwr_dbg (d : Dev) (x : PwrState) : (d.setPwr x).dbg = d.dbg := rfl
@[simp] theorem Dev.setPwr_upd (d : Dev) (x : PwrState) : (d.setPwr x).upd = d.upd := rfl
@[simp] theorem Dev.setPwr_flt (d : Dev) (x : PwrState) : (d.setPwr x).flt = d.flt := rfl
@[simp] theorem Dev.setPwr_rdi (d : Dev) (x : PwrState) (g : Field) (j : Nat) : (d.setPwr x).rdi g j = d.rdi g j := rfl
@[simp] theorem Dev.setPwr_rd (d : Dev) (x : PwrState) (g : Field) : (d.setPwr x).rd g = d.rd g := rfl
@[simp] theorem Dev.setPwr_self (d : Dev) (x : PwrState) : (d.setPwr x).pwr = x := rfl

/-! ### Indexed parts: what a part reads after a part has been set, and after a register has been written -/

@[simp] theorem Dev.ch_setCh (d : Dev) (k j : Nat) (x : ChanState) : (d.setCh k x).ch j = if j = k then x else d.ch j :=
  Map.get_set _ _ _ _ _
@[simp] theorem Dev.ch_wri (d : Dev) (f : Field) (i v j : Nat) : (d.wri f i v).ch j = d.ch j := rfl
@[simp] theorem Dev.ch_wr (d : Dev) (f : Field) (v j : Nat) : (d.wr f v).ch j = d.ch j := rfl
@[simp] theorem Dev.bk_setBk (d : Dev) (k j : Nat) (x : BankState) : (d.setBk k x).bk j = if j = k then x else d.bk j :=
  Map.get_set _ _ _ _ _
@[simp] theorem Dev.bk_wri (d : Dev) (f : Field) (i v j : Nat) : (d.wri f i v).bk j = d.bk j := rfl
@[simp] theorem Dev.bk_wr (d : Dev) (f : Field) (v j : Nat) : (d.wr f v).bk j = d.bk j := rfl
@[simp] theorem Dev.bob_setBob (d : Dev) (k j : Nat) (x : Bobbin) : (d.setBob k x).bob j = if j = k then x else d.bob j :=
  Map.get_set _ _ _ _ _
@[simp] theorem Dev.bob_wri (d : Dev) (f : Field) (i v j : Nat) : (d.wri f i v).bob j = d.bob j := rfl
@[simp] theorem Dev.bob_wr (d : Dev) (f : Field) (v j : Nat) : (d.wr f v).bob j = d.bob j := rfl
@[simp] theorem Dev.canCtl_setCanCtl (d : Dev) (k j : Nat) (x : CanCtl) : (d.setCanCtl k x).canCtl j = if j = k then x else d.canCtl j :=
  Map.get_set _ _ _ _ _
@[simp] theorem Dev.canCtl_wri (d : Dev) (f : Field) (i v j : Nat) : (d.wri f i v).canCtl j = d.canCtl j := rfl
@[simp] theorem Dev.canCtl_wr (d : Dev) (f : Field) (v j : Nat) : (d.wr f v).canCtl j = d.canCtl j := rfl
@[simp] theorem Dev.ttCtl_setTtCtl (d : Dev) (k j : Nat) (x : TtCtl) : (d.setTtCtl k x).ttCtl j = if j = k then x else d.ttCtl j :=
  Map.get_set _ _ _ _ _
@[simp] theorem Dev.ttCtl_wri (d : Dev) (f : Field) (i v j : Nat) : (d.wri f i v).ttCtl j = d.ttCtl j := rfl
@[simp] theorem Dev.ttCtl_wr (d : Dev) (f : Field) (v j : Nat) : (d.wr f v).ttCtl j = d.ttCtl j := rfl
@[simp] theorem Dev.session_setSession (d : Dev) (k j : Nat) (x : Session) : (d.setSession k x).session j = if j = k then x else d.session j :=
  Map.get_set _ _ _ _ _
@[simp] theorem Dev.session_wri (d : Dev) (f : Field) (i v j : Nat) : (d.wri f i v).session j = d.session j := rfl
@[simp] theorem Dev.session_wr (d : Dev) (f : Field) (v j : Nat) : (d.wr f v).session j = d.session j := rfl
@[simp] theorem Dev.keySlot_setKeySlot (d : Dev) (k j : Nat) (x : KeySlot) : (d.setKeySlot k x).keySlot j = if j = k then x else d.keySlot j :=
  Map.get_set _ _ _ _ _
@[simp] theorem Dev.keySlot_wri (d : Dev) (f : Field) (i v j : Nat) : (d.wri f i v).keySlot j = d.keySlot j := rfl
@[simp] theorem Dev.keySlot_wr (d : Dev) (f : Field) (v j : Nat) : (d.wr f v).keySlot j = d.keySlot j := rfl
@[simp] theorem Dev.keyChan_setKeyChan (d : Dev) (k j : Nat) (x : KeyChan) : (d.setKeyChan k x).keyChan j = if j = k then x else d.keyChan j :=
  Map.get_set _ _ _ _ _
@[simp] theorem Dev.keyChan_wri (d : Dev) (f : Field) (i v j : Nat) : (d.wri f i v).keyChan j = d.keyChan j := rfl
@[simp] theorem Dev.keyChan_wr (d : Dev) (f : Field) (v j : Nat) : (d.wr f v).keyChan j = d.keyChan j := rfl
@[simp] theorem Dev.txObj_setTxObj (d : Dev) (k j : Nat) (x : TxObj) : (d.setTxObj k x).txObj j = if j = k then x else d.txObj j :=
  Map.get_set _ _ _ _ _
@[simp] theorem Dev.txObj_wri (d : Dev) (f : Field) (i v j : Nat) : (d.wri f i v).txObj j = d.txObj j := rfl
@[simp] theorem Dev.txObj_wr (d : Dev) (f : Field) (v j : Nat) : (d.wr f v).txObj j = d.txObj j := rfl
@[simp] theorem Dev.slot_setSlot (d : Dev) (k j : Nat) (x : FrameSlot) : (d.setSlot k x).slot j = if j = k then x else d.slot j :=
  Map.get_set _ _ _ _ _
@[simp] theorem Dev.slot_wri (d : Dev) (f : Field) (i v j : Nat) : (d.wri f i v).slot j = d.slot j := rfl
@[simp] theorem Dev.slot_wr (d : Dev) (f : Field) (v j : Nat) : (d.wr f v).slot j = d.slot j := rfl
@[simp] theorem Dev.front_setFront (d : Dev) (k j : Nat) (x : Slot) : (d.setFront k x).front j = if j = k then x else d.front j :=
  Map.get_set _ _ _ _ _
@[simp] theorem Dev.front_wri (d : Dev) (f : Field) (i v j : Nat) : (d.wri f i v).front j = d.front j := rfl
@[simp] theorem Dev.front_wr (d : Dev) (f : Field) (v j : Nat) : (d.wr f v).front j = d.front j := rfl
@[simp] theorem Dev.win_setWin (d : Dev) (k j : Nat) (x : Window) : (d.setWin k x).win j = if j = k then x else d.win j :=
  Map.get_set _ _ _ _ _
@[simp] theorem Dev.win_wri (d : Dev) (f : Field) (i v j : Nat) : (d.wri f i v).win j = d.win j := rfl
@[simp] theorem Dev.win_wr (d : Dev) (f : Field) (v j : Nat) : (d.wr f v).win j = d.win j := rfl
@[simp] theorem Dev.cl_setCl (d : Dev) (k j : Nat) (x : Cluster) : (d.setCl k x).cl j = if j = k then x else d.cl j :=
  Map.get_set _ _ _ _ _
@[simp] theorem Dev.cl_wri (d : Dev) (f : Field) (i v j : Nat) : (d.wri f i v).cl j = d.cl j := rfl
@[simp] theorem Dev.cl_wr (d : Dev) (f : Field) (v j : Nat) : (d.wr f v).cl j = d.cl j := rfl

end Sys2Proof.Machine
end

