-- ==== Sys2Proof/Laws/Trigger.lean ====
section
/-! SUPPORT. What a recorder trigger can do (R650 to R655): it changes registers and the recorder's own state, nothing else. -/

namespace Sys2Proof.Machine

theorem Dev.setSuppCnt_frame (d : Dev) (code n : Nat) : { d.setSuppCnt code n with regs := d.regs } = d := by
  unfold Dev.setSuppCnt; split <;> rfl

theorem Dev.setTokens_frame (d : Dev) (code n : Nat) : { d.setTokens code n with regs := d.regs } = d := by
  unfold Dev.setTokens; split <;> rfl

theorem Dev.stage_frame (d : Dev) (r : Staged) : { d.stage r with regs := d.regs, recd := d.recd } = d := by
  unfold Dev.stage; split <;> rfl

/-- Two blocks that agree on all but the registers and the recorder's own state. -/
abbrev Dev.sameBut (d d' : Dev) : Prop := { d' with regs := d.regs, recd := d.recd } = d

theorem Dev.sameBut.trans {a b c : Dev} (h : a.sameBut b) (h' : b.sameBut c) : a.sameBut c := by
  unfold Dev.sameBut at *; rw [← h, ← h']

theorem Dev.sameBut_of_regs {a b : Dev} (h : { b with regs := a.regs } = a) : a.sameBut b := by
  unfold Dev.sameBut; rw [← h]

theorem Dev.wri_sameBut (d : Dev) (f : Field) (i v : Nat) : d.sameBut (d.wri f i v) := rfl

theorem Dev.accept_frame (d : Dev) (code : Nat) (args : List Nat) (flags optime : Nat) :
    d.sameBut (d.accept code args flags optime) :=
  (Dev.sameBut_of_regs (d.setSuppCnt_frame code 0)).trans ((d.setSuppCnt code 0).stage_frame _)

/-- A trigger changes registers and the recorder's own state, nothing else. -/
theorem Dev.trig_frame (d : Dev) (code : Nat) (args : List Nat) : d.sameBut (d.trig code args) := by
  unfold Dev.trig Dev.trigWith
  split
  · split
    · exact ((Dev.sameBut_of_regs (d.setSuppCnt_frame _ _)).trans (Dev.wri_sameBut _ _ _ _)).trans (Dev.wri_sameBut _ _ _ _)
    · exact (Dev.sameBut_of_regs (d.setTokens_frame _ _)).trans (Dev.accept_frame _ _ _ _ _)
  · exact Dev.accept_frame _ _ _ _ _

@[simp] theorem Dev.trig_mem (d : Dev) (code : Nat) (args : List Nat) : (d.trig code args).mem = d.mem := by
  have h := congrArg Dev.mem (Dev.trig_frame d code args); exact h
@[simp] theorem Dev.trig_out (d : Dev) (code : Nat) (args : List Nat) : (d.trig code args).out = d.out := by
  have h := congrArg Dev.out (Dev.trig_frame d code args); exact h
@[simp] theorem Dev.trig_access (d : Dev) (code : Nat) (args : List Nat) : (d.trig code args).access = d.access := by
  have h := congrArg Dev.access (Dev.trig_frame d code args); exact h
@[simp] theorem Dev.trig_free (d : Dev) (code : Nat) (args : List Nat) : (d.trig code args).free = d.free := by
  have h := congrArg Dev.free (Dev.trig_frame d code args); exact h
@[simp] theorem Dev.trig_now (d : Dev) (code : Nat) (args : List Nat) : (d.trig code args).now = d.now := by
  have h := congrArg Dev.now (Dev.trig_frame d code args); exact h
@[simp] theorem Dev.trig_fw (d : Dev) (code : Nat) (args : List Nat) : (d.trig code args).fw = d.fw := by
  have h := congrArg Dev.fw (Dev.trig_frame d code args); exact h
@[simp] theorem Dev.trig_deck (d : Dev) (code : Nat) (args : List Nat) : (d.trig code args).deck = d.deck := by
  have h := congrArg Dev.deck (Dev.trig_frame d code args); exact h
@[simp] theorem Dev.trig_beat (d : Dev) (code : Nat) (args : List Nat) : (d.trig code args).beat = d.beat := by
  have h := congrArg Dev.beat (Dev.trig_frame d code args); exact h
@[simp] theorem Dev.trig_trd (d : Dev) (code : Nat) (args : List Nat) : (d.trig code args).trd = d.trd := by
  have h := congrArg Dev.trd (Dev.trig_frame d code args); exact h
@[simp] theorem Dev.trig_sig (d : Dev) (code : Nat) (args : List Nat) : (d.trig code args).sig = d.sig := by
  have h := congrArg Dev.sig (Dev.trig_frame d code args); exact h
@[simp] theorem Dev.trig_ctx (d : Dev) (code : Nat) (args : List Nat) : (d.trig code args).ctx = d.ctx := by
  have h := congrArg Dev.ctx (Dev.trig_frame d code args); exact h
@[simp] theorem Dev.trig_chan (d : Dev) (code : Nat) (args : List Nat) : (d.trig code args).chan = d.chan := by
  have h := congrArg Dev.chan (Dev.trig_frame d code args); exact h
@[simp] theorem Dev.trig_bank (d : Dev) (code : Nat) (args : List Nat) : (d.trig code args).bank = d.bank := by
  have h := congrArg Dev.bank (Dev.trig_frame d code args); exact h
@[simp] theorem Dev.trig_can (d : Dev) (code : Nat) (args : List Nat) : (d.trig code args).can = d.can := by
  have h := congrArg Dev.can (Dev.trig_frame d code args); exact h
@[simp] theorem Dev.trig_tt (d : Dev) (code : Nat) (args : List Nat) : (d.trig code args).tt = d.tt := by
  have h := congrArg Dev.tt (Dev.trig_frame d code args); exact h
@[simp] theorem Dev.trig_swx (d : Dev) (code : Nat) (args : List Nat) : (d.trig code args).swx = d.swx := by
  have h := congrArg Dev.swx (Dev.trig_frame d code args); exact h
@[simp] theorem Dev.trig_brg (d : Dev) (code : Nat) (args : List Nat) : (d.trig code args).brg = d.brg := by
  have h := congrArg Dev.brg (Dev.trig_frame d code args); exact h
@[simp] theorem Dev.trig_nmw (d : Dev) (code : Nat) (args : List Nat) : (d.trig code args).nmw = d.nmw := by
  have h := congrArg Dev.nmw (Dev.trig_frame d code args); exact h
@[simp] theorem Dev.trig_sht (d : Dev) (code : Nat) (args : List Nat) : (d.trig code args).sht = d.sht := by
  have h := congrArg Dev.sht (Dev.trig_frame d code args); exact h
@[simp] theorem Dev.trig_cpu (d : Dev) (code : Nat) (args : List Nat) : (d.trig code args).cpu = d.cpu := by
  have h := congrArg Dev.cpu (Dev.trig_frame d code args); exact h
@[simp] theorem Dev.trig_key (d : Dev) (code : Nat) (args : List Nat) : (d.trig code args).key = d.key := by
  have h := congrArg Dev.key (Dev.trig_frame d code args); exact h
@[simp] theorem Dev.trig_dbg (d : Dev) (code : Nat) (args : List Nat) : (d.trig code args).dbg = d.dbg := by
  have h := congrArg Dev.dbg (Dev.trig_frame d code args); exact h
@[simp] theorem Dev.trig_upd (d : Dev) (code : Nat) (args : List Nat) : (d.trig code args).upd = d.upd := by
  have h := congrArg Dev.upd (Dev.trig_frame d code args); exact h
@[simp] theorem Dev.trig_pwr (d : Dev) (code : Nat) (args : List Nat) : (d.trig code args).pwr = d.pwr := by
  have h := congrArg Dev.pwr (Dev.trig_frame d code args); exact h
@[simp] theorem Dev.trig_flt (d : Dev) (code : Nat) (args : List Nat) : (d.trig code args).flt = d.flt := by
  have h := congrArg Dev.flt (Dev.trig_frame d code args); exact h

/-! ### Registers -/

/-- A register outside the recorder's block. -/
def outsideRec (k : Nat) : Prop := k < 0x40900000 * 32 ∨ 0x40910000 * 32 ≤ k

theorem Dev.setSuppCnt_rdi (d : Dev) (code n : Nat) (g : Field) (j : Nat) (h : outsideRec (g.key j)) :
    (d.setSuppCnt code n).rdi g j = d.rdi g j := by
  unfold Dev.setSuppCnt
  split
  · rename_i b hb
    have hb : b < 512 := by simpa using List.mem_of_find?_eq_some hb
    rw [Dev.rdi_wri, if_neg]
    intro hk; rw [hk] at h
    simp [outsideRec, Field.key, Field.addr, REC_BKT_STATE_SUPPCNT] at h
    omega
  · rw [Dev.rdi_wr, if_neg]
    intro hk; rw [hk] at h
    simp [outsideRec, Field.key, Field.addr, REC_DBKT_SUPPCNT] at h

theorem Dev.setTokens_rdi (d : Dev) (code n : Nat) (g : Field) (j : Nat) (h : outsideRec (g.key j)) :
    (d.setTokens code n).rdi g j = d.rdi g j := by
  unfold Dev.setTokens
  split
  · rename_i b hb
    have hb : b < 512 := by simpa using List.mem_of_find?_eq_some hb
    rw [Dev.rdi_wri, if_neg]
    intro hk; rw [hk] at h
    simp [outsideRec, Field.key, Field.addr, REC_BKT_STATE_TOKENS] at h
    omega
  · rw [Dev.rdi_wr, if_neg]
    intro hk; rw [hk] at h
    simp [outsideRec, Field.key, Field.addr, REC_DBKT_TOKENS] at h

theorem Dev.wr_rdi_outside (d : Dev) (f : Field) (v : Nat) (g : Field) (j : Nat) (h : outsideRec (g.key j))
    (hf : ¬ outsideRec (f.key 0)) : (d.wr f v).rdi g j = d.rdi g j := by
  rw [Dev.rdi_wr, if_neg]; intro hk; rw [hk] at h; exact hf h

theorem Dev.stage_rdi (d : Dev) (r : Staged) (g : Field) (j : Nat) (h : outsideRec (g.key j)) :
    (d.stage r).rdi g j = d.rdi g j := by
  unfold Dev.stage
  split
  · rw [Dev.wr_rdi_outside _ _ _ _ _ h (by simp [outsideRec, Field.key, Field.addr, REC_STAT_STAGED])]; rfl
  · rw [Dev.wr_rdi_outside _ _ _ _ _ h (by simp [outsideRec, Field.key, Field.addr, REC_EVT_LOST])]
    show ((_ : Dev).wr REC_CNT_LOST _).rdi g j = _
    rw [Dev.wr_rdi_outside _ _ _ _ _ h (by simp [outsideRec, Field.key, Field.addr, REC_CNT_LOST])]; rfl

/-- A trigger writes no register outside the recorder's block. -/
theorem Dev.trig_rdi (d : Dev) (code : Nat) (args : List Nat) (g : Field) (j : Nat) (h : outsideRec (g.key j)) :
    (d.trig code args).rdi g j = d.rdi g j := by
  have ha : ∀ (d : Dev) (fl t : Nat), (d.accept code args fl t).rdi g j = d.rdi g j := fun d fl t => by
    unfold Dev.accept; rw [Dev.stage_rdi _ _ _ _ h, Dev.setSuppCnt_rdi _ _ _ _ _ h]
  unfold Dev.trig Dev.trigWith
  split
  · split
    · rw [Dev.wr_rdi_outside _ _ _ _ _ h (by simp [outsideRec, Field.key, Field.addr, REC_EVT_SUPP])]
      show ((_ : Dev).wr REC_CNT_SUPP _).rdi g j = _
      rw [Dev.wr_rdi_outside _ _ _ _ _ h (by simp [outsideRec, Field.key, Field.addr, REC_CNT_SUPP]), Dev.setSuppCnt_rdi _ _ _ _ _ h]
    · rw [ha, Dev.setTokens_rdi _ _ _ _ _ h]
  · exact ha _ _ _

theorem Dev.trig_rd (d : Dev) (code : Nat) (args : List Nat) (g : Field) (h : outsideRec (g.key 0)) :
    (d.trig code args).rd g = d.rd g := Dev.trig_rdi d code args g 0 h


end Sys2Proof.Machine
end

