-- ==== Sys2Proof/Tests/Slice0.lean ====
section
/-! SUPPORT. Tests of the model by its author: ill-formed commands that WellFormed refuses, one-step tests whose expected results
come from the specification, and for every statement with hypotheses a state and operands that meet them. -/

namespace Sys2Proof.Machine

/-- A deck with the given cards: type, instance, body. -/
def deckOf (l : List (Nat × Nat × CardBody)) : Deck :=
  { emptyDeck with cards := l.map fun p => ⟨p.1, 1, p.2.1, 0, 0, 1, 0, p.1, 1, p.2.1, 0, 0, 0, true, true, 0, p.2.2, []⟩ }

/-- The block with a running deck of the given cards. -/
def Dev.withDeck (d : Dev) (l : List (Nat × Nat × CardBody)) : Dev := { d with deck := { d.deck with running := some (deckOf l) } }

end Sys2Proof.Machine

set_option linter.unusedVariables false

namespace Sys2Proof.Tests

open Sys2Proof.Machine

/-! ### Small states -/

/-- The reset state with the listed register fields set. -/
def regSt (l : List (Field × Nat × Nat)) : State := ⟨l.foldl (fun d p => d.wri p.1 p.2.1 p.2.2) State.reset.dev, []⟩

/-- The same, changed by `f`. -/
def devSt (l : List (Field × Nat × Nat)) (f : Dev → Dev) : State := ⟨f (regSt l).dev, []⟩

/-- A running block with every power domain on, hart 0 tagged with context 1, which runs. -/
def runSt (l : List (Field × Nat × Nat)) (f : Dev → Dev) : State :=
  devSt ([(PWR_STAT_DOMON, 0, 0xFFFF), (CTX_HART_VALID, 0, 1), (CTX_HART_CTX, 0, 1), (CTXN_STAT_STATE, 1, 1)] ++ l) fun d =>
    f { d with pwr := { d.pwr with state := .run } }
/-- A running block whose running deck declares context 1, which hart 0 runs. -/
def declSt (l : List (Field × Nat × Nat)) (f : Dev → Dev) : State :=
  runSt l fun d => f (d.withDeck [(6, 0, .contexts [] [⟨1, 2, 64, 0, 0, []⟩])])

/-! ### States of one family -/

def ent (op flg src dst arg : Nat) : Entry := ⟨0, op, 0, flg, src, dst, arg⟩
/-- The Treadle running pick 0 with one entry, whose turn it is. -/
def turnSt (l : List (Field × Nat × Nat)) (e : Entry) (f : Dev → Dev) : State :=
  devSt ((TRD_STAT_STATE, 0, 1) :: l) fun d => f { d with trd := { d.trd with todo := [0], half0 := { entries := [e], maxPick := 1 }, framesSent := false } }

def beatSt (l : List (Field × Nat × Nat)) (f : BeatState → BeatState) : State :=
  runSt ([(TRD_STAT_STATE, 0, 1), (BEAT_REPLEN_REPEAT_LEN, 0, 4)] ++ l) fun d =>
    { d.withDeck [(2, 0, .lands [⟨6, 2, 0, 0⟩, ⟨6, 3, 0, 0⟩])] with beat := f { d.beat with picksBegun := 9, refs := 9 } }

def sigOf (n type group writer age watch : Nat) : SigRec := ⟨n, type, 0, group, writer, age, watch, 0⟩
def sigSt (l : List (Field × Nat × Nat)) (r : SigRec) (f : Dev → Dev) : State :=
  runSt ([(TRD_STAT_STATE, 0, 1)] ++ l) fun d => f (d.withDeck [(5, 0, .signals 1 [r]), (6, 0, .contexts [] [⟨1, 1, 0, 1, 0xFFFF, [1]⟩]),
    (15, 0, .inventory [⟨3, 1, 0, 0, 0xFFFF, 0, 0, 1⟩])])

def ctxSt (l : List (Field × Nat × Nat)) (f : Dev → Dev) : State :=
  runSt l fun d => f (d.withDeck [(6, 0, .contexts (List.replicate 512 1) [⟨1, 1, 0, 2, 0xFFFF, [8, 8]⟩, ⟨2, 1, 1, 1, 0xFFFF, [8]⟩])])

def canSt (l : List (Field × Nat × Nat)) (c : CanCtl) : State :=
  runSt (l ++ [(CAN_STAT_STATE, 3, 2)]) fun d => { d with can := { d.can with ctl := ⟨[(3, c)]⟩ } }
def ttSt (st : Nat) (l : List (Field × Nat × Nat)) (c : TtCtl) : State :=
  runSt (l ++ [(TT_STAT_STATE, 1, st)]) fun d => { d with tt := ⟨[(1, c)]⟩ }
def canOwnSt (c : CanCtl) : State :=
  runSt [(CAN_STAT_STATE, 3, 2)] fun d =>
    ({ d with can := { d.can with ctl := ⟨[(3, c)]⟩ } } : Dev).withDeck [(8, 3, .can 0 0 0 0 0 0 [⟨2, 2, 1, 0, 0, 0⟩])]
/-- Time-triggered controller 1 in READY, a member of sleep cluster 3, which sleeps. -/
def ttSleepSt : State :=
  runSt [(TT_STAT_STATE, 1, 1), (NMW_CLSTAT_STATE, 3, 5)] fun d => d.withDeck [(12, 0, .sleep 0 0 [⟨0, 2 * 4096 + 3 * 256 + 1, 0, 0, 0, 0⟩])]

def swSt (l : List (Field × Nat × Nat)) (f : Dev → Dev) : State :=
  runSt ([(SWXP_STAT_LSTATE, 3, 2), (SWXP_STAT_LINK, 3, 1), (SWX_VLAN_ID_VID, 0, 5), (SWX_VLAN_MEMBER, 0, 0xFFFFFF), (SWX_VLAN_ID_FLOOD, 0, 1)] ++ l) fun d =>
    f (d.withDeck [(2, 0, .lands [⟨5, 3, 0, 0⟩, ⟨4, 2, 0, 0⟩, ⟨6, 0, 0, 0⟩, ⟨6, 1, 0, 0⟩])])

def brgSt (st : Nat) (l : List (Field × Nat × Nat)) (b : BrgState) : State :=
  runSt ([(BRG_WSTATE_STATE, 2, st), (BRG_WCFG_PWMAX, 2, 4)] ++ l) fun d =>
    ({ d with brg := b } : Dev).withDeck [(6, 0, .contexts [] [⟨1, 2, 64, 0, 0, []⟩]), (11, 0, .bridge 0 [⟨1, 2, 1, 0, 0, 0⟩])]

def nmSt (st : Nat) (l : List (Field × Nat × Nat)) (c : Cluster) (f : Dev → Dev) : State :=
  runSt ([(NMW_STAT_DECL, 0, 0xFFFF), (NMW_CLSTAT_STATE, 15, st)] ++ l) fun d => f { d with nmw := { d.nmw with cl := ⟨[(15, c)]⟩ } }
/-- One sleep member: CAN controller 3 in cluster 15 (kind 1), with its wake mode. -/
def memSt (st mode : Nat) (l : List (Field × Nat × Nat)) (c : Cluster) : State :=
  nmSt st l c fun d => d.withDeck [(12, 0, .sleep 0 0 [⟨mode, 1 * 4096 + 15 * 256 + 3, 0, 0, 0, 0⟩])]

def keySt (l : List (Field × Nat × Nat)) (c : KeyChan) : State :=
  runSt l fun d => ({ d with key := { d.key with chans := ⟨[(2, c)]⟩ } } : Dev).withDeck [(6, 0, .contexts [] [⟨1, 1, 0, 1, 0xFFFF, [1]⟩])]

/-- Session 77 of host 3 open in slot 0 with every role, in FIELD. -/
def shSt (l : List (Field × Nat × Nat)) (x : Session) (f : Dev → Dev) : State :=
  runSt ([(SHT_SESS_STATE, 0, 2), (SHT_SID_SESSION, 0, 77), (SHT_SESS_HOST, 0, 3), (SHT_SESS_ROLES, 0, 31), (KEY_LC_STATE, 0, 2)] ++ l) fun d =>
    f (({ d with sht := { d.sht with sess := ⟨[(0, x)]⟩ } } : Dev).withDeck [(5, 0, .signals 0 [⟨7, 4, 0, 0xFFFF, 1, 0, 255, 0⟩]),
      (6, 0, .contexts [] [⟨1, 1, 0, 1, 0xFFFF, [1]⟩]), (14, 0, .security 0 0 [⟨0, 9, 1, 1, 0, 0⟩])])

/-- R622, R623: the response that the factory key gives to a challenge unlocks a module in BLANK. -/
theorem unlock_blank (d : Dev) (level nonce : Nat) (h : d.lifeState = lsBLANK) :
    d.unlockOk level nonce (hmac factoryKey (beBytes [(1, level), (1, lsBLANK), (16, nonce)] ++ d.moduleId)) = true := by
  simp [Dev.unlockOk, h]

/-! ### Ill-formed commands, one for each check, beside well-formed ones at the edge -/

theorem test_wf_below : (Instr.groupFlip 4096).wellFormed = false ∧ (Instr.groupFlip 4095).wellFormed = true := by decide
theorem test_wf_between : (Instr.ttSlotStart 0 0 0 9).wellFormed = false ∧ (Instr.ttSlotStart 0 2047 0 9).wellFormed = true := by decide
theorem test_wf_initiator : (Instr.groupCommit 10 0).wellFormed = false ∧ (Instr.groupCommit 14 0).wellFormed = true := by decide
theorem test_wf_hart : (Instr.ctxHartWrite 0 10 1 1 1).wellFormed = false ∧ (Instr.ctxHartWrite 0 9 1 1 1).wellFormed = true := by decide
theorem test_wf_bank : (Instr.ownOscillatorPick 4).wellFormed = false ∧ (Instr.ownOscillatorPick 3).wellFormed = true := by decide
theorem test_wf_channel : (Instr.holdExpiry 64).wellFormed = false ∧ (Instr.holdExpiry 63).wellFormed = true := by decide
theorem test_wf_controller : (Instr.canControllerError 26).wellFormed = false ∧ (Instr.canControllerError 25).wellFormed = true := by decide
theorem test_wf_ttUnit : (Instr.ttFrameReceived 2 {}).wellFormed = false ∧ (Instr.ttFrameReceived 1 {}).wellFormed = true := by decide
theorem test_wf_port (x t : _) : (Instr.swxFrameIngress 27 {} x t).wellFormed = false ∧ (Instr.swxFrameIngress 26 {} x t).wellFormed = true :=
  ⟨rfl, rfl⟩
theorem test_wf_cluster : (Instr.sleepCommitComplete 16).wellFormed = false ∧ (Instr.sleepCommitComplete 15).wellFormed = true := by decide
theorem test_wf_accessWidth : (Instr.rcFieldRead 0 0x40000000 24).wellFormed = false ∧ (Instr.rcFieldRead 0 0x40000000 64).wellFormed = true := by decide
theorem test_wf_aligned : (Instr.rcFieldRead 0 0x40000002 32).wellFormed = false ∧ (Instr.rcFieldRead 0 0x40000002 16).wellFormed = true := by decide
theorem test_wf_fits : (Instr.registerWrite 0 0x40000000 8 256).wellFormed = false ∧ (Instr.registerWrite 0 0x40000000 8 255).wellFormed = true := by decide
theorem test_wf_sramAddr (b : Bool) : (Instr.sramEccRead 0x21800000 8 b).wellFormed = false ∧ (Instr.sramEccRead 0x217FFFF8 8 b).wellFormed = true :=
  ⟨rfl, rfl⟩
theorem test_wf_payload : (Instr.bobbinWrite 0 1 (List.replicate 2049 0)).wellFormed = false ∧ (Instr.bobbinWrite 0 1 [0]).wellFormed = true := by
  refine ⟨?_, by decide⟩
  change (below 0 8192 && between 1 1 3 && decide ((List.replicate 2049 (0 : Byte)).length ≤ 2048)) = false
  rw [List.length_replicate]; decide
theorem test_wf_pickIn : (Instr.pickBoundary { sw := List.replicate 33 0 }).wellFormed = false ∧
    (Instr.pickBoundary { ain := List.replicate 17 0 }).wellFormed = false ∧
    (Instr.pickBoundary { wake := 256 }).wellFormed = false ∧ (Instr.pickBoundary { ain := [5000000], wake := 255 }).wellFormed = true := by decide
theorem test_wf_canFrame : (Instr.canFrameReceived 0 { ident := 2048 }).wellFormed = false ∧
    (Instr.canFrameReceived 0 { form := 3 }).wellFormed = false ∧
    (Instr.canFrameReceived 0 { data := List.replicate 9 0 }).wellFormed = false ∧
    (Instr.canFrameReceived 0 { ident := 2048, ide := true, form := 1, data := List.replicate 9 0 }).wellFormed = true := by decide
theorem test_wf_ttFrame : (Instr.ttFrameReceived 0 { slot := 2048 }).wellFormed = false ∧
    (Instr.ttFrameReceived 0 { a := some { data := List.replicate 255 0 } }).wellFormed = false ∧
    (Instr.ttFrameReceived 0 { b := some { data := List.replicate 255 0 } }).wellFormed = false := by decide +kernel
theorem test_wf_ethFrame (x t : _) : (Instr.swxFrameIngress 0 { dmac := 2 ^ 48 } x t).wellFormed = false ∧
    (Instr.swxFrameIngress 0 { smac := 2 ^ 48 } x t).wellFormed = false ∧ (Instr.swxFrameIngress 0 { vid := 4096 } x t).wellFormed = false :=
  ⟨rfl, rfl, rfl⟩
theorem test_wf_msg : (Instr.ping ⟨2 ^ 32, 0, .good⟩).wellFormed = false ∧ (Instr.ping ⟨1, 2 ^ 32, .good⟩).wellFormed = false ∧
    (Instr.ping ⟨1, 1, .good⟩).wellFormed = true := by decide
theorem test_wf_kaMsg : (Instr.keepAwakeReceived (.can 26 1 [])).wellFormed = false ∧
    (Instr.keepAwakeReceived (.can 25 (2 ^ 29) [])).wellFormed = false ∧ (Instr.keepAwakeReceived (.eth 22 {})).wellFormed = false ∧
    (Instr.keepAwakeReceived (.eth 21 {})).wellFormed = true := by decide
theorem test_wf_trips : (Instr.dwellTrip 0 9 [5]).wellFormed = false ∧ (Instr.dwellTrip 0 9 [4]).wellFormed = true ∧
    (Instr.budgetSample 0 (List.replicate 16 0) [(64, 1)]).wellFormed = false ∧
    (Instr.budgetSample 0 (List.replicate 15 0) []).wellFormed = false := by decide
theorem test_wf_supply : (Instr.classCheckEnd 0 12001 12000).wellFormed = false ∧ (Instr.classCheckEnd 0 12000 12000).wellFormed = true := by decide
theorem test_wf_code (m : Msg) (h : m.wf = true) : (Instr.lcChange m 1 []).wellFormed = false := by
  change (m.wf && below 1 256 && decide (([] : List Byte).length = 32)) = false
  rw [h]; decide
theorem test_wf_dmi : (Instr.dmi (.halt 10)).wellFormed = false ∧ (Instr.dmi (.resume 10)).wellFormed = false ∧
    (Instr.dmi (.trigger 0 4 0)).wellFormed = false ∧ (Instr.dmi (.program 8 0)).wellFormed = false := by decide
theorem test_wf_counter : (Instr.faultWindowClose (.core 5)).wellFormed = false ∧ (Instr.faultWindowClose (.cell 0 5)).wellFormed = false ∧
    (Instr.faultWindowClose (.truncation 0 2)).wellFormed = false ∧ (Instr.faultWindowClose (.access 2048)).wellFormed = false := by decide

/-! ### The specification's own examples -/

/-- R641: the check value of CRC-32. -/
theorem test_crc : crc32 [0x31, 0x32, 0x33, 0x34, 0x35, 0x36, 0x37, 0x38, 0x39] = 0xCBF43926 := by decide +kernel

/-- R131, the gateway example: START 8, WIDTH 16 of a payload whose bytes 1 and 2 are 0x30 and 0x39. -/
theorem test_take_field : fieldGet [7, 0x30, 0x39] (fieldArg 0x100008) = 12345 := by decide

/-- R132, the gateway example: raw 12,345 as u16 becomes 4,173 as s32. -/
theorem test_scale : scale 2 5 12345 0xFFF8300000000106 = (4173, false) := by decide

/-- R131, the gateway example: the SEND of 4,173 at START 32 with WIDTH 32 ends in the bytes 4 to 7. -/
theorem test_send_field : fieldPut [0, 0, 0, 0, 9, 9, 9, 9] (fieldArg 0xA00020) 4173 = [0, 0, 0, 0, 0, 0, 0x10, 0x4D] := by decide

/-- R529, R601: HMAC and the hash under it, on the check value of SHA-256 for the message "abc". -/
theorem test_sha256 : sha256 [0x61, 0x62, 0x63] = beOf 32 0xBA7816BF8F01CFEA414140DE5DAE2223B00361A396177A9CB410FF61F20015AD := by
  decide +kernel

/-- R9, R40: a deck's header is read with its most significant byte first. -/
theorem test_deck_order : (Deck.parse ([0x4B, 0x44, 0x43, 0x4B, 0, 1, 0, 0x80, 0, 0, 0, 7] ++ List.replicate 116 0) []).hdr.deckId = 7 := by
  decide +kernel

/-- R523, R524, R525: the 20 bytes of a header, and the initialisation vector of SEQ 5. -/
theorem test_shuttle_bytes : (ShtHead.bytes { kind := 2, cmd := 0x0301, session := 77, seq := 5, rseq := 4, status := 0 } 52 =
      [1, 2, 3, 1, 0, 0, 0, 77, 0, 0, 0, 5, 0, 0, 0, 4, 0, 52, 0, 0]) ∧
    shtIv [1, 2, 3, 4] 5 = [1, 2, 3, 4, 0, 0, 0, 0, 0, 0, 0, 5] := by decide

/-! ### One step -/

/-- The fetch of a command: the front of the queue runs, the rest waits. -/
theorem test_step_front : (match step { State.reset with pending := [.nop 0, .nop 1] } with | .next t => t.pending | _ => []) = [.nop 1] := by decide

/-- R10: a W1C bit is cleared by a 1 and kept by a 0. -/
theorem test_w1c : let d := (regSt [(CH_EVT_TRIP, 3, 1), (CH_EVT_OPEN, 3, 1)]).dev
    (d.putField ⟨1, 0xFFFFFFFF⟩ CH_EVT_TRIP 3).rdi CH_EVT_TRIP 3 + (d.putField ⟨1, 0xFFFFFFFF⟩ CH_EVT_OPEN 3).rdi CH_EVT_OPEN 3 = 1 := by decide

/-- R8: memory is little-endian. -/
theorem test_memory_order : leVal (({} : Dev).poke 0x20000000 (leOf 4 0x11223344) |>.peek 0x20000000 2) = 0x3344 := by decide

/-! ### The hypotheses of the statements can be met -/

/-- The hypotheses of IdleTick can be met. -/
theorem wit_IdleTick : (∃ s : State, s.pending = []) ∧
  (∃ s : State, s.pending = [] ∧ s.dev.can.q1 = [] ∧ s.dev.brg.arrived = [] ∧ s.dev.nmw.heard = [] ∧ s.dev.flt.joining = [] ∧
    s.dev.flag DBG_STAT_ATTACHED = false) ∧
  (∃ s : State, s.pending = [] ∧ s.dev.can.q1 = [] ∧ s.dev.brg.arrived = [] ∧ s.dev.nmw.heard = [] ∧ s.dev.flt.joining = [] ∧
    s.dev.now + 1 < s.dev.dbg.tck + 500000000) ∧
  (∃ s : State, s.pending = [] ∧ s.dev.can.q1 = [] ∧ s.dev.brg.arrived = [] ∧ s.dev.nmw.heard = [] ∧ s.dev.flt.joining = [] ∧
    s.dev.flag DBG_STAT_ATTACHED = true ∧ s.dev.dbg.tck + 500000000 ≤ s.dev.now + 1) :=
  ⟨⟨State.reset, rfl⟩, ⟨State.reset, by decide, by decide, by decide, by decide, by decide, by decide⟩,
  ⟨State.reset, by decide, by decide, by decide, by decide, by decide, by decide⟩,
  ⟨devSt [(DBG_STAT_ATTACHED, 0, 1)] fun d => { d with now := 499999999 }, by decide, by decide, by decide, by decide, by decide,
    by decide, by decide⟩⟩

/-- The hypotheses of CanonicalKept can be met. -/
theorem wit_CanonicalKept : ∃ s t : State, s.dev.canonical ∧ step s = .next t :=
  ⟨State.reset, State.reset.tick, by unfold Dev.canonical; decide, rfl⟩

/-- The hypotheses of HistoryGrows can be met. -/
theorem wit_HistoryGrows : ∃ s t : State, step s = .next t := ⟨State.reset, State.reset.tick, rfl⟩

/-- The hypotheses of MemoryReadsBack can be met. -/
theorem wit_MemoryReadsBack : (∃ (d : Dev) (a : Nat) (l : List Byte) (b : Nat), memWf d.mem = true) ∧
  (∃ (d : Dev) (a n v : Nat), v < 256 ^ n ∧ memWf d.mem = true) ∧
  (∃ m n : List Host.Cell, memWf m = true ∧ memWf n = true ∧ ∀ a, memRead m a = memRead n a) :=
  ⟨⟨{ mem := [(5, 9)] }, 6, [7], 6, by decide⟩, ⟨{ mem := [(5, 9)] }, 5, 2, 513, by decide, by decide⟩,
  ⟨[(5, 9)], [(5, 9)], by decide, by decide, fun _ => rfl⟩⟩

/-- The hypotheses of RegistersReadBack can be met. -/
theorem wit_RegistersReadBack : (∃ (d : Dev) (f : Field) (i lo hi : Nat), d.regs.wf = true) ∧
  (∃ m n : Map Nat, m.wf = true ∧ n.wf = true ∧ ∀ k, m.find k = n.find k) :=
  ⟨⟨(regSt [(BEAT_STAT_STATE, 0, 1), (CH_LIM_LIMIT, 3, 9)]).dev, CH_LIM_LIMIT, 3, 0, 1, by decide⟩,
  ⟨⟨[(5, 9)]⟩, ⟨[(5, 9)]⟩, by decide, by decide, fun _ => rfl⟩⟩

/-- The hypotheses of RecordCrc can be met. -/
theorem wit_RecordCrc : ∃ l : List Nat, ∀ b ∈ l, b < 256 := ⟨[0x31, 255], by decide⟩

/-- The hypotheses of AddressSpaceAccesses can be met. -/
theorem wit_AddressSpaceAccesses : (∃ (s : State) (init : Nat) (a : Nat) (w : Nat) (v : Nat), s.dev.canAccess init = true ∧ 0x20000000 ≤ a ∧ a < 0x20A00000 ∧ s.dev.ctxBarred (s.dev.tag init) = false ∧ s.dev.cpu.marked = []) ∧
  (∃ (s : State) (init : Nat) (a : Nat) (w : Nat), s.dev.canAccess init = true ∧ s.dev.undeclared (s.dev.tag init) = false ∧ 0x20000000 ≤ a ∧ a < 0x20A00000 ∧ s.dev.cpu.marked = []) ∧
  (∃ (s : State) (init : Nat) (a : Nat) (w : Nat) (v : Nat), s.dev.canAccess init = true ∧ s.dev.undeclared (s.dev.tag init) = false ∧ regionOf a = .hidden) ∧
  (∃ (s : State) (init : Nat) (a : Nat) (w : Nat) (v : Nat), s.dev.canAccess init = true ∧ init < 10 ∧ regionOf a = .block ∧ 0x40A00000 ≤ a ∧ a < 0x40B00000 ∧ w ≤ 32 ∧ s.dev.domainOn 2 = true ∧ s.dev.ctxBarred (s.dev.tag init) = false ∧ ownRow (regFields (a / 4 * 4) init) = false) ∧
  (∃ (s : State) (init : Nat) (a : Nat) (w : Nat), s.dev.canAccess init = true ∧ init < 10 ∧ regionOf a = .block ∧ 0x40A00000 ≤ a ∧ a < 0x40B00000 ∧ w ≤ 32 ∧ s.dev.domainOn 2 = true ∧ s.dev.undeclared (s.dev.tag init) = false) ∧
  (∃ (s : State) (init : Nat) (a : Nat) (v : Nat), s.dev.canAccess init = true ∧ init < 10 ∧ 0x40A00000 ≤ a ∧ a < 0x40A10000 ∧ a % 4 = 0 ∧ regFields a init = [] ∧ s.dev.domainOn 2 = true ∧ s.dev.ctxBarred (s.dev.tag init) = false ∧ s.dev.undeclared (s.dev.tag init) = false) ∧
  (∃ (s : State) (init : Nat) (a : Nat) (w : Nat), s.dev.canAccess init = true ∧ s.dev.undeclared (s.dev.tag init) = true) ∧
  (∃ (s : State) (init : Nat) (a : Nat) (w : Nat) (v : Nat), s.dev.canAccess init = false) ∧
  (∃ (s : State) (init : Nat) (w : Nat), s.dev.canAccess init = true ∧ s.dev.undeclared (s.dev.tag init) = false ∧ w ≤ 32 ∧ s.dev.domainOn 0 = true) :=
  ⟨⟨(runSt [] id), (0), (0x20000010), (32), (0x12345678), by decide, by decide, by decide, by decide, by decide⟩,
  ⟨(declSt [] (fun d => d.poke 0x20000010 [1,2,3,4])), (0), (0x20000010), (32), by decide, by decide, by decide, by decide, by decide⟩,
  ⟨(declSt [] id), (0), (0x08200000), (32), (1), by decide, by decide, by decide⟩,
  ⟨(runSt [(UPD_EVT_STAGED, 0, 1)] id), (0), (0x40A0000C), (32), (0xFFFFFFFF), by decide, by decide, by decide, by decide, by decide, by decide, by decide, by decide, by decide⟩,
  ⟨(declSt [] (fun d => d.wri (accErr 0x40A00000).1 0 7)), (0), (0x40A00028), (16), by decide, by decide, by decide, by decide, by decide, by decide, by decide, by decide⟩,
  ⟨(declSt [] id), (0), (0x40A0FFF0), (5), by decide, by decide, by decide, by decide, by decide, by decide, by decide, by decide, by decide⟩,
  ⟨(runSt [] id), (0), (0x40A0FFF0), (32), by decide, by decide⟩,
  ⟨(regSt []), (0), (0x40A0FFF0), (32), (5), by decide⟩,
  ⟨(declSt [] id), (0), (32), by decide, by decide, by decide, by decide⟩⟩

/-- The hypotheses of AccessCodeEffects can be met. -/
theorem wit_AccessCodeEffects : (∃ (d : Dev) (x : RegWrite) (f : Field) (i : Nat) (b : Nat), b < f.width) :=
  ⟨((runSt [] id).dev), (⟨0xFF00, 0xFFFF⟩), (BEAT_PICKNS_PICK_NS), (0), (3), by decide⟩

/-- The hypotheses of LockedRegisters can be met. -/
theorem wit_LockedRegisters : (∃ (s : State) (init : Nat) (a : Nat) (w : Nat) (v : Nat), s.dev.canAccess init = true ∧ init < 10 ∧ regionOf a = .block ∧ w ≤ 32 ∧ s.dev.domainOn (domainOf a) = true ∧ s.dev.unfitted (a / 4 * 4) = false ∧ s.dev.ctxBarred (s.dev.tag init) = false ∧ s.dev.deck.running.isSome = true ∧ ((regFields (a / 4 * 4) init).any fun p => p.1.acc == .rwl) = true) :=
  ⟨(runSt [] (fun d => d.withDeck [])), (0), (0x40610000), (32), (0xFFFF), by decide, by decide, by decide, by decide, by decide, by decide, by decide, by decide, by decide⟩

/-- The hypotheses of AccessOutside can be met. -/
theorem wit_AccessOutside : (∃ (s : State) (init : Nat) (a : Nat) (w : Nat) (v : Nat), s.dev.canAccess init = true ∧ s.dev.undeclared (s.dev.tag init) = false ∧ ((∀ p ∈ ([(0, 0xFFFF), (0x08000000, 0x087FFFFF), (0x10000000, 0x17FFFFFF), (0x20000000, 0x217FFFFF), (0x40000000, 0x4000FFFF), (0x40010000, 0x4001FFFF), (0x40020000, 0x4002FFFF), (0x40100000, 0x401FFFFF), (0x40200000, 0x402FFFFF), (0x40300000, 0x4033FFFF), (0x40400000, 0x40419FFF), (0x40500000, 0x4050FFFF), (0x40600000, 0x406FFFFF), (0x40700000, 0x4070FFFF), (0x40710000, 0x4071FFFF), (0x40720000, 0x4072FFFF), (0x40800000, 0x4080FFFF), (0x40810000, 0x4081FFFF), (0x40900000, 0x4090FFFF), (0x40A00000, 0x40A0FFFF), (0x40B00000, 0x40B0FFFF), (0x40C00000, 0x40C0FFFF), (0x50000000, 0x503FFFFF)] : List (Nat × Nat)), a < p.1 ∨ p.2 < a))) :=
  ⟨(declSt [] id), (0), (0x60000000), (32), (1), by decide, by decide, by decide⟩

/-- The hypotheses of UnpoweredAccess can be met. -/
theorem wit_UnpoweredAccess : (∃ (s : State) (init : Nat) (a : Nat) (w : Nat) (v : Nat), s.dev.canAccess init = true ∧ s.dev.undeclared (s.dev.tag init) = false ∧ regionOf a = .block ∧ ((w ≤ 32 ∨ domainOf (a + 4) = domainOf a)) ∧ s.dev.domainOn (domainOf a) = false) ∧
  (∃ (s : State) (init : Nat) (n : Nat) (slot : Nat) (irq : Bool), s.dev.portOpen init = true ∧ s.dev.domainOn 2 = false) ∧
  (∃ (s : State) (init : Nat) (h : Nat) (k : Nat) (x : Nat) (y : Nat) (z : Nat), s.dev.portOpen init = true ∧ s.dev.domainOn 2 = false) ∧
  (∃ (s : State) (init : Nat) (n : Nat) (off : Nat) (w : Nat) (v : Nat), s.dev.portOpen init = true ∧ s.dev.domainOn 11 = false) ∧
  (∃ (s : State) (init : Nat) (c : Nat) (k : Nat) (off : Nat) (l : List Byte), s.dev.portOpen init = true ∧ s.dev.domainOn 13 = false) ∧
  (∃ (s : State) (init : Nat) (v : Nat), s.dev.portOpen init = true ∧ s.dev.domainOn 0 = false) :=
  ⟨⟨(declSt [(PWR_STAT_DOMON, 0, 7)] id), (0), (0x40610000), (32), (1), by decide, by decide, by decide, by decide, by decide⟩,
  ⟨(runSt [(PWR_STAT_DOMON, 0, 3)] id), default, default, default, default, by decide, by decide⟩,
  ⟨(runSt [(PWR_STAT_DOMON, 0, 3)] id), default, default, default, default, default, default, by decide, by decide⟩,
  ⟨(runSt [(PWR_STAT_DOMON, 0, 3)] id), default, default, default, default, default, by decide, by decide⟩,
  ⟨(runSt [(PWR_STAT_DOMON, 0, 3)] id), default, default, default, default, default, by decide, by decide⟩,
  ⟨(runSt [(PWR_STAT_DOMON, 0, 2)] id), default, default, by decide, by decide⟩⟩

/-- The hypotheses of ClosedDebugPort can be met. -/
theorem wit_ClosedDebugPort : (∃ (s : State) (i : Instr) (init : Nat), i.madeBy = some init ∧ 10 ≤ init ∧ s.dev.rd DBG_STAT_LEVEL ≠ 2) :=
  ⟨(runSt [] id), (.dbgClose 14), (14), by decide, by decide, by decide⟩


/-- The hypotheses of WeftEntriesComplete can be met. -/
theorem wit_WeftEntriesComplete : (∃ (s : State) (idx : Nat) (e : Entry), s.dev.turnOf idx 0x00 e = true) ∧
  (∃ (s : State) (idx : Nat) (e : Entry), s.dev.turnOf idx 0x01 e = true ∧ (s.dev.trd.rxObj.get e.src {}).held = true ∧ ((s.dev.entryTaken idx 0x01).fresh? idx ((s.dev.trd.rxObj.get e.src {}).count % 65536) e).2 = false ∧ (fieldArg e.arg).start + (fieldArg e.arg).width ≤ (s.dev.trd.rxObj.get e.src {}).payload.length * 8) ∧
  (∃ (s : State) (idx : Nat) (e : Entry), s.dev.turnOf idx 0x02 e = true) ∧
  (∃ (s : State) (idx : Nat) (e : Entry), s.dev.turnOf idx 0x03 e = true ∧ bits e.arg 1 0 = 1) ∧
  (∃ (s : State) (idx : Nat) (e : Entry), s.dev.turnOf idx 0x08 e = true ∧ (s.dev.entryFresh idx 0x08 e).2 = false) ∧
  (∃ (s : State) (idx : Nat) (e : Entry), s.dev.turnOf idx 0x09 e = true ∧ (s.dev.entryFresh idx 0x09 e).2 = false) ∧
  (∃ (s : State) (idx : Nat) (e : Entry), s.dev.turnOf idx 0x0A e = true) ∧
  (∃ (s : State) (idx : Nat) (e : Entry), s.dev.turnOf idx 0x0B e = true ∧ (s.dev.entryFresh idx 0x0B e).2 = false) :=
  ⟨⟨(turnSt [] (ent 0 0 0 0 0) id), (0), (ent 0 0 0 0 0), by decide⟩,
  ⟨(turnSt [] (ent 1 1 5 2 0x100000) (fun d => {d with trd := {d.trd with rxObj := ⟨[(5, ⟨[1,2,3,4], 7, true⟩)]⟩}})), (0), (ent 1 1 5 2 0x100000), by decide, by decide, by decide, by decide⟩,
  ⟨(turnSt [] (ent 2 0 0x140 2 0) id), (0), (ent 2 0 0x140 2 0), by decide⟩,
  ⟨(turnSt [] (ent 3 0 0 2 1) id), (0), (ent 3 0 0 2 1), by decide, by decide⟩,
  ⟨(turnSt [] (ent 8 0 3 2 1) id), (0), (ent 8 0 3 2 1), by decide, by decide⟩,
  ⟨(turnSt [] (ent 9 0 3 2 1) id), (0), (ent 9 0 3 2 1), by decide, by decide⟩,
  ⟨(turnSt [] (ent 10 0 3 2 0x102) id), (0), (ent 10 0 3 2 0x102), by decide⟩,
  ⟨(turnSt [] (ent 11 0 3 2 1) id), (0), (ent 11 0 3 2 1), by decide, by decide⟩⟩

/-- The hypotheses of WarpEntriesComplete can be met. -/
theorem wit_WarpEntriesComplete : (∃ (s : State) (idx : Nat) (e : Entry), s.dev.turnOf idx 0x10 e = true ∧ (s.dev.entryTaken idx 0x10).trdIdle = false ∧ (s.dev.entryTaken idx 0x10).sendRefused e.dst = false ∧ (s.dev.entryFresh idx 0x10 e).2 = false) ∧
  (∃ (s : State) (idx : Nat) (e : Entry), s.dev.turnOf idx 0x11 e = true ∧ (s.dev.entryTaken idx 0x11).trdIdle = false ∧ (s.dev.entryTaken idx 0x11).chanRefuses e.dst = false ∧ (s.dev.entryFresh idx 0x11 e).2 = false) ∧
  (∃ (s : State) (idx : Nat) (e : Entry), s.dev.turnOf idx 0x12 e = true ∧ (s.dev.entryTaken idx 0x12).trdIdle = false ∧ (s.dev.entryTaken idx 0x12).chanRefuses e.dst = false ∧ (s.dev.entryFresh idx 0x12 e).2 = false) ∧
  (∃ (s : State) (idx : Nat) (e : Entry), s.dev.turnOf idx 0x13 e = true ∧ (s.dev.entryTaken idx 0x13).trdIdle = false ∧ s.dev.swx.portReset.contains e.dst = false) ∧
  (∃ (s : State) (idx : Nat) (e : Entry), s.dev.turnOf idx 0x14 e = true ∧ (s.dev.entryTaken idx 0x14).trdIdle = false ∧ e.dst < 0x1000 ∧ (s.dev.entryTaken idx 0x14).canRefuses (e.dst / 32) = false ∧ ((s.dev.entryTaken idx 0x14).txObj e.dst).held = true) ∧
  (∃ (s : State) (idx : Nat) (e : Entry), s.dev.turnOf idx 0x18 e = true) :=
  ⟨⟨(turnSt [(CAN_STAT_STATE, 0, 2)] (ent 0x10 0 3 2 0x100000) id), (0), (ent 0x10 0 3 2 0x100000), by decide, by decide, by decide, by decide⟩,
  ⟨(turnSt [(CTXN_STAT_STATE, 1, 1), (CH_OWNER, 2, 1)] (ent 0x11 0 3 2 1) id), (0), (ent 0x11 0 3 2 1), by decide, by decide, by decide, by decide⟩,
  ⟨(turnSt [(CTXN_STAT_STATE, 1, 1), (CH_OWNER, 2, 1)] (ent 0x12 0 3 2 0x100000064) id), (0), (ent 0x12 0 3 2 0x100000064), by decide, by decide, by decide, by decide⟩,
  ⟨(turnSt [] (ent 0x13 0 3 2 0x55) id), (0), (ent 0x13 0 3 2 0x55), by decide, by decide, by decide⟩,
  ⟨(turnSt [(CAN_STAT_STATE, 0, 2)] (ent 0x14 0 3 2 0) (fun d => {d with trd := {d.trd with txObj := ⟨[(2, ⟨[1,2], true, false, true⟩)]⟩}})), (0), (ent 0x14 0 3 2 0), by decide, by decide, by decide, by decide, by decide⟩,
  ⟨(turnSt [] (ent 0x18 0 3 2 77) id), (0), (ent 0x18 0 3 2 77), by decide⟩⟩

/-- The hypotheses of TableReadErrors can be met. -/
theorem wit_TableReadErrors : (∃ (s : State) (idx : Nat) (d : Dev), s.dev.trd.todo.contains idx = true ∧ d = ((((s.dev.inc TRD_ECCCNT_COR).wr TRD_EVT_ECC_COR 1).trig 0x0315 []).setTrd { s.dev.trd with charged := s.dev.trd.charged ++ [idx] }).shedCheck.weftEnd) ∧
  (∃ (s : State) (idx : Nat) (e : Entry) (d : Dev), s.dev.trd.todo.contains idx = true ∧ s.dev.entry idx = some e ∧ d = (((s.dev.inc TRD_ECCCNT_UNC).wr TRD_EVT_ECC_UNC 1).trig 0x0314 []).dropEntry idx 0 ∧ opWarp e.op = true) ∧
  (∃ (s : State) (idx : Nat) (e : Entry) (d : Dev), s.dev.trd.todo.contains idx = true ∧ s.dev.entry idx = some e ∧ d = ((((s.dev.inc TRD_ECCCNT_UNC).wr TRD_EVT_ECC_UNC 1).trig 0x0314 []).dropEntry idx 0).weftEnd ∧ opWarp e.op = false) :=
  ⟨⟨(turnSt [] (ent 0x18 0 3 2 77) id), (0), _, by decide, rfl⟩,
  ⟨(turnSt [] (ent 0x18 0 3 2 77) id), (0), (ent 0x18 0 3 2 77), _, by decide, by decide, rfl, by decide⟩,
  ⟨(turnSt [] (ent 0x08 0 3 2 77) id), (0), (ent 0x08 0 3 2 77), _, by decide, by decide, rfl, by decide⟩⟩


/-- The hypotheses of BoundaryCommandsComplete can be met. -/
theorem wit_BoundaryCommandsComplete : (∃ (s : State) (x : PickIn), s.dev.trdRuns = true ∧ ((s.dev.beat.alignPending = true ∨ s.dev.beat.stepPending = true))) ∧
  (∃ (s : State) (x : PickIn), s.dev.trdRuns = true ∧ s.dev.beat.alignPending = false ∧ s.dev.beat.stepPending = false ∧ s.dev.beat.indexPending = true) ∧
  (∃ (s : State) (x : PickIn), s.dev.trdRuns = true ∧ s.dev.beat.alignPending = false ∧ s.dev.beat.stepPending = false ∧ s.dev.beat.indexPending = false ∧ s.dev.beat.picksBegun = 0) ∧
  (∃ (s : State) (x : PickIn), s.dev.trdRuns = true ∧ s.dev.beat.alignPending = false ∧ s.dev.beat.stepPending = false ∧ s.dev.beat.indexPending = false ∧ s.dev.beat.picksBegun ≠ 0 ∧ s.dev.rd BEAT_PICK + 1 < s.dev.rd BEAT_REPLEN_REPEAT_LEN) ∧
  (∃ (s : State) (x : PickIn), s.dev.trdRuns = true ∧ s.dev.beat.alignPending = false ∧ s.dev.beat.stepPending = false ∧ s.dev.beat.indexPending = false ∧ s.dev.beat.picksBegun ≠ 0 ∧ s.dev.rd BEAT_REPLEN_REPEAT_LEN ≤ s.dev.rd BEAT_PICK + 1 ∧ s.dev.lockedOn 3 = false ∧ s.dev.lockedOn 0 = false) ∧
  (∃ (s : State) (x : PickIn), s.dev.trdRuns = true ∧ s.dev.beat.alignPending = false ∧ s.dev.beat.stepPending = false ∧ s.dev.beat.indexPending = false ∧ s.dev.beat.picksBegun ≠ 0 ∧ s.dev.rd BEAT_REPLEN_REPEAT_LEN ≤ s.dev.rd BEAT_PICK + 1 ∧ s.dev.lockedOn 0 = true) ∧
  (∃ (s : State), s.dev.rd TRD_STAT_STATE = 1 ∧ s.dev.trd.idlePending = false ∧ s.dev.swapDue = true ∧ s.dev.trd.todo = [] ∧ s.dev.rd BEAT_REPLEN_REPEAT_LEN ≤ s.dev.rd BEAT_PICK + 1 ∧ s.dev.beat.alignPending = false ∧ s.dev.beat.stepPending = false) ∧
  (∃ (s : State), s.dev.deck.armed ≠ none ∧ 16 ≤ s.dev.deck.bridgeWaits) :=
  ⟨⟨(beatSt [] (fun b => { b with alignPending := true })), ({}), by decide, by decide⟩,
  ⟨(beatSt [] (fun b => { b with indexPending := true })), ({}), by decide, by decide, by decide, by decide⟩,
  ⟨(beatSt [] (fun b => { b with picksBegun := 0 })), ({ sw := [500], ain := [9], wake := 1 }), by decide, by decide, by decide, by decide, by decide⟩,
  ⟨(beatSt [(BEAT_PICK, 0, 2)] id), ({}), by decide, by decide, by decide, by decide, by decide, by decide⟩,
  ⟨(beatSt [(BEAT_PICK, 0, 3), (BEAT_REPCNT, 0, 0xFFFFFFFF)] id), ({}), by decide, by decide, by decide, by decide, by decide, by decide, by decide, by decide⟩,
  ⟨(beatSt [(BEAT_PICK, 0, 3), (BEAT_STAT_STATE, 0, 1), (BEAT_CFG_SOURCE, 0, 0), (BEAT_PICKNS_PICK_NS, 0, 100000)] id), ({ gptp := 1700000000 }), by decide, by decide, by decide, by decide, by decide, by decide, by decide⟩,
  ⟨(runSt [(TRD_STAT_STATE, 0, 1), (BEAT_REPLEN_REPEAT_LEN, 0, 4), (BEAT_PICK, 0, 3)] (fun d => {d with deck := {d.deck with running := some (deckOf []), armed := some (deckOf []), picksSinceArm := 1}})), by decide, by decide, by decide, by decide, by decide, by decide, by decide⟩,
  ⟨(runSt [(TRD_STAT_STATE, 0, 1), (SYSCTL_DECKSTAT_SWAP_ARMED, 0, 1)] (fun d => {d with deck := {d.deck with running := some (deckOf []), armed := some (deckOf []), bridgeWaits := 16}})), by decide, by decide⟩⟩

/-- The hypotheses of PickSourceCommands can be met. -/
theorem wit_PickSourceCommands : (∃ (s : State) (e : Int), s.dev.trdRuns = true ∧ s.dev.rd BEAT_STAT_STATE ≠ 1 ∧ s.dev.rd BEAT_CFG_SOURCE = 5) ∧
  (∃ (s : State) (e : Int), s.dev.trdRuns = true ∧ ((s.dev.rd BEAT_STAT_STATE = 0 ∨ s.dev.rd BEAT_STAT_STATE = 3)) ∧ s.dev.rd BEAT_CFG_SOURCE ≠ 5 ∧ s.dev.sourceReady = true) ∧
  (∃ (s : State) (e : Int) (f : Int), f = (if s.dev.rd BEAT_CFG_SOURCE = 4 then toSigned 32 (s.dev.rd BEAT_PHERR) else e) ∧ s.dev.trdRuns = true ∧ s.dev.rd BEAT_STAT_STATE = 2 ∧ s.dev.rd BEAT_CFG_SOURCE ≠ 5 ∧ s.dev.sourceReady = true ∧ f.natAbs ≤ s.dev.rd BEAT_STEPB_STEP_BOUND_NS) ∧
  (∃ (s : State) (e : Int) (f : Int), f = (if s.dev.rd BEAT_CFG_SOURCE = 4 then toSigned 32 (s.dev.rd BEAT_PHERR) else e) ∧ s.dev.trdRuns = true ∧ s.dev.rd BEAT_STAT_STATE = 2 ∧ s.dev.rd BEAT_CFG_SOURCE ≠ 5 ∧ s.dev.sourceReady = true ∧ ¬ f.natAbs ≤ s.dev.rd BEAT_STEPB_STEP_BOUND_NS) ∧
  (∃ (s : State) (e : Int), s.dev.trdRuns = true ∧ s.dev.rd BEAT_STAT_STATE = 1 ∧ s.dev.rd BEAT_CFG_SOURCE ≤ 2) ∧
  (∃ (s : State), s.dev.trdRuns = true ∧ s.dev.rd BEAT_CFG_SOURCE ≠ 5 ∧ s.dev.lossHolds = true ∧ s.dev.rd BEAT_STAT_STATE = 1 ∧ s.dev.rd BEAT_HOLDMS_HOLDOVER_MS ≠ 0) ∧
  (∃ (s : State), s.dev.trdRuns = true ∧ s.dev.rd BEAT_CFG_SOURCE ≠ 5 ∧ s.dev.lossHolds = true ∧ s.dev.rd BEAT_STAT_STATE = 1 ∧ s.dev.rd BEAT_HOLDMS_HOLDOVER_MS = 0) ∧
  (∃ (s : State), s.dev.lossHolds = false) ∧
  (∃ (s : State) (tie : Bool), s.dev.trdRuns = true ∧ s.dev.beat.holdRunning = true ∧ ((s.dev.rd BEAT_STAT_STATE = 0 ∨ s.dev.rd BEAT_STAT_STATE = 2)) ∧ ((tie = false ∨ s.dev.sourceReady = false)) ∧ s.dev.beat.alignPending = false ∧ s.dev.beat.stepPending = false) ∧
  (∃ (s : State) (tie : Bool), s.dev.trdRuns = true ∧ s.dev.beat.holdRunning = true ∧ ((s.dev.rd BEAT_STAT_STATE = 0 ∨ s.dev.rd BEAT_STAT_STATE = 2)) ∧ ((tie = true ∧ s.dev.sourceReady = true ∨ s.dev.beat.alignPending = true ∨ s.dev.beat.stepPending = true))) :=
  ⟨⟨(beatSt [(BEAT_STAT_STATE, 0, 3), (BEAT_CFG_SOURCE, 0, 5)] id), (0), by decide, by decide, by decide⟩,
  ⟨(beatSt [(BEAT_STAT_STATE, 0, 3), (BEAT_CFG_SOURCE, 0, 2)] id), (100), by decide, by decide, by decide, by decide⟩,
  ⟨(beatSt [(BEAT_STAT_STATE, 0, 2), (BEAT_CFG_SOURCE, 0, 2), (BEAT_STEPB_STEP_BOUND_NS, 0, 100)] id), (-100), (-100), by decide, by decide, by decide, by decide, by decide, by decide⟩,
  ⟨(beatSt [(BEAT_STAT_STATE, 0, 2), (BEAT_CFG_SOURCE, 0, 4), (BEAT_STEPB_STEP_BOUND_NS, 0, 100), (BEAT_PHERR, 0, 101)] id), (5), (101), by decide, by decide, by decide, by decide, by decide, by decide⟩,
  ⟨(beatSt [(BEAT_STAT_STATE, 0, 1), (BEAT_CFG_SOURCE, 0, 1), (BEAT_STEPB_STEP_BOUND_NS, 0, 100)] id), (101), by decide, by decide, by decide⟩,
  ⟨(beatSt [(BEAT_STAT_STATE, 0, 1), (BEAT_CFG_SOURCE, 0, 1), (BEAT_HOLDMS_HOLDOVER_MS, 0, 500)] id), by decide, by decide, by decide, by decide, by decide⟩,
  ⟨(beatSt [(BEAT_STAT_STATE, 0, 1), (BEAT_CFG_SOURCE, 0, 1), (BEAT_HOLDMS_HOLDOVER_MS, 0, 0)] id), by decide, by decide, by decide, by decide, by decide⟩,
  ⟨(beatSt [(BEAT_STAT_STATE, 0, 1), (BEAT_CFG_SOURCE, 0, 3)] id), by decide⟩,
  ⟨(beatSt [(BEAT_STAT_STATE, 0, 2)] (fun b => { b with holdRunning := true })), (false), by decide, by decide, by decide, by decide, by decide, by decide⟩,
  ⟨(beatSt [(BEAT_STAT_STATE, 0, 2), (BEAT_CFG_SOURCE, 0, 2)] (fun b => { b with holdRunning := true })), (true), by decide, by decide, by decide, by decide⟩⟩

/-- The hypotheses of PositionAndLineCommands can be met. -/
theorem wit_PositionAndLineCommands : (∃ (s : State) (pick : Nat) (x : PickIn) (d : Dev), s.dev.trdRuns = true ∧ s.dev.beat.alignPending = true ∧ s.dev.finishPick.beat.stepPending = false ∧ s.dev.finishPick.rd BEAT_STAT_STATE = 0 ∧ d = s.dev.finishPick.lock.trig 0x0301 []) ∧
  (∃ (s : State) (a : Bool) (b : Bool) (index : Bool) (gap : Nat) (ns : Nat) (x : PickIn), s.dev.timingLand 2 = true ∧ s.dev.rd BEAT_CFG_SOURCE = 3 ∧ a ≠ s.dev.beat.posA ∧ b ≠ s.dev.beat.posB ∧ 400 ≤ gap ∧ s.dev.beat.quadErrs ≠ 15) ∧
  (∃ (s : State) (a : Bool) (b : Bool) (index : Bool) (gap : Nat) (ns : Nat) (x : PickIn), s.dev.timingLand 2 = true ∧ s.dev.rd BEAT_CFG_SOURCE = 3 ∧ a ≠ s.dev.beat.posA ∧ b = s.dev.beat.posB ∧ 400 ≤ gap ∧ s.dev.rd BEAT_STAT_STATE ≠ 1) ∧
  (∃ (s : State) (a : Bool) (b : Bool) (index : Bool) (gap : Nat) (ns : Nat) (x : PickIn), ((s.dev.timingLand 2 = false ∨ a = s.dev.beat.posA ∧ b = s.dev.beat.posB))) ∧
  (∃ (s : State) (ns : Nat) (x : PickIn), s.dev.timingLand 2 = true ∧ s.dev.rd BEAT_CFG_SOURCE = 3 ∧ s.dev.beat.posA = true ∧ s.dev.beat.posB = true ∧ s.dev.trdRuns = true ∧ s.dev.rd BEAT_STAT_STATE = 1 ∧ s.dev.rd BEAT_PICK = 0 ∧ s.dev.rd BEAT_REPLEN_REPEAT_LEN ≠ 1) ∧
  (∃ (s : State) (ns : Nat) (x : PickIn), s.dev.timingLand 2 = true ∧ s.dev.rd BEAT_CFG_SOURCE = 3 ∧ s.dev.beat.posA = true ∧ s.dev.beat.posB = true ∧ s.dev.trdRuns = true ∧ s.dev.rd BEAT_STAT_STATE = 1 ∧ s.dev.rd BEAT_PICK ≠ 0) ∧
  (∃ (s : State) (t : Nat) (x : Nat), s.dev.timingLand 3 = true ∧ s.dev.rd BEAT_CFG_SOURCE = 4 ∧ s.dev.lineOutOfRange t = true) ∧
  (∃ (s : State) (t : Nat) (x : Nat), s.dev.timingLand 3 = true ∧ s.dev.rd BEAT_CFG_SOURCE = 4 ∧ s.dev.lineOutOfRange t = false ∧ t * 16 % s.dev.rd BEAT_CFG_PER_CYCLE = 0) :=
  ⟨⟨(beatSt [(BEAT_STAT_STATE, 0, 0), (BEAT_CFG_SOURCE, 0, 1)] (fun b => { b with alignPending := true })), (2), ({}), _, by decide, by decide, by decide, by decide, rfl⟩,
  ⟨(beatSt [(BEAT_CFG_SOURCE, 0, 3)] id), (true), (true), (false), (400), (9), ({}), by decide, by decide, by decide, by decide, by decide, by decide⟩,
  ⟨(beatSt [(BEAT_CFG_SOURCE, 0, 3)] id), (true), (false), (false), (500), (9), ({}), by decide, by decide, by decide, by decide, by decide, by decide⟩,
  ⟨(beatSt [(BEAT_CFG_SOURCE, 0, 3)] id), (false), (false), (false), (500), (9), ({}), by decide⟩,
  ⟨(beatSt [(BEAT_CFG_SOURCE, 0, 3), (BEAT_STAT_STATE, 0, 1)] (fun b => { b with posA := true, posB := true, netEdges := 3 })), (1), ({}), by decide, by decide, by decide, by decide, by decide, by decide, by decide, by decide⟩,
  ⟨(beatSt [(BEAT_CFG_SOURCE, 0, 3), (BEAT_STAT_STATE, 0, 1), (BEAT_PICK, 0, 3)] (fun b => { b with posA := true, posB := true, netEdges := 3 })), (100000), ({}), by decide, by decide, by decide, by decide, by decide, by decide, by decide⟩,
  ⟨(beatSt [(BEAT_CFG_SOURCE, 0, 4)] id), (14000000), (0), by decide, by decide, by decide⟩,
  ⟨(beatSt [(BEAT_CFG_SOURCE, 0, 4), (BEAT_STAT_STATE, 0, 1), (BEAT_CFG_PER_CYCLE, 0, 16), (BEAT_PICKNS_PICK_NS, 0, 100000)] id), (20000000), (50), by decide, by decide, by decide, by decide⟩⟩


/-- The hypotheses of SignalStoreCommands can be met. -/
theorem wit_SignalStoreCommands : (∃ (s : State) (init : Nat) (g : Nat) (r : SigRec) (l : List SigRec), s.dev.portOpen init = true ∧ s.dev.domainOn 11 = true ∧ s.dev.groupMembers g = r :: l ∧ g < 0x1000 ∧ s.dev.mayWrite init r.writer = true ∧ s.dev.flagi TRD_GVER_PEND g = false ∧ s.dev.trdRuns = true) ∧
  (∃ (s : State) (init : Nat) (g : Nat) (r : SigRec) (l : List SigRec), s.dev.portOpen init = true ∧ s.dev.domainOn 11 = true ∧ s.dev.groupMembers g = r :: l ∧ g < 0x1000 ∧ s.dev.mayWrite init r.writer = true ∧ s.dev.flagi TRD_GVER_PEND g = true) ∧
  (∃ (s : State) (g : Nat), s.dev.flagi TRD_GVER_PEND g = true ∧ s.dev.laneFree = true) ∧
  (∃ (s : State) (init : Nat) (n : Nat) (width : Nat) (value : Nat) (r : SigRec), s.dev.portOpen init = true ∧ s.dev.domainOn 11 = true ∧ s.dev.sigRec n = some r ∧ s.dev.mayWrite init r.writer = true ∧ typeWidth r.type ≤ width) ∧
  (∃ (s : State) (init : Nat) (n : Nat) (value : Nat) (r : SigRec), s.dev.portOpen init = true ∧ s.dev.domainOn 11 = true ∧ s.dev.sigRec n = some r ∧ s.dev.mayWrite init r.writer = true ∧ typeWidth r.type = 64) ∧
  (∃ (s : State) (init : Nat) (n : Nat) (value : Nat) (low : Nat) (r : SigRec), s.dev.portOpen init = true ∧ s.dev.domainOn 11 = true ∧ s.dev.sigRec n = some r ∧ s.dev.mayWrite init r.writer = true ∧ typeWidth r.type = 64 ∧ s.dev.heldHalf init n = some low) ∧
  (∃ (s : State) (init : Nat) (n : Nat) (off : Nat) (width : Nat), s.dev.portOpen init = true ∧ s.dev.domainOn 11 = true ∧ s.dev.undeclared (s.dev.tag init) = true) ∧
  (∃ (s : State) (init : Nat) (n : Nat) (width : Nat), s.dev.domainOn 11 = true ∧ s.dev.undeclared (s.dev.tag init) = false ∧ init < 10) ∧
  (∃ (s : State) (init : Nat) (n : Nat) (off : Nat) (width : Nat) (w : Nat), s.dev.portOpen init = true ∧ s.dev.domainOn 11 = true ∧ s.dev.undeclared (s.dev.tag init) = false ∧ ((off = 4 ∨ off = 8 ∨ off = 12)) ∧ ((s.dev.answered 0).judge n).sig.latch.find init = some (n, w)) ∧
  (∃ (s : State) (n : Nat) (r : SigRec), s.dev.sigRec n = some r ∧ r.ageLimit ≠ 0 ∧ (s.dev.front n).stale = false ∧ (s.dev.front n).forced = false ∧ ¬ s.dev.ageOf (s.dev.front n) ≤ r.ageLimit ∧ s.dev.c0Writer r = false ∧ r.watch < 244) :=
  ⟨⟨(sigSt [] (sigOf 7 1 0 1 0 255) (fun d => {d with sig := {d.sig with written := [7]}})), (0), (0), (sigOf 7 1 0 1 0 255), ([]), by decide, by decide, by decide, by decide, by decide, by decide, by decide⟩,
  ⟨(sigSt [(TRD_GVER_PEND, 0, 1)] (sigOf 7 1 0 1 0 255) id), (0), (0), (sigOf 7 1 0 1 0 255), ([]), by decide, by decide, by decide, by decide, by decide, by decide⟩,
  ⟨(sigSt [(TRD_GVER_PEND, 0, 1)] (sigOf 7 1 0 1 0 255) (fun d => {d with sig := {d.sig with written := [7], claimed := [7], back := ⟨[(7, ⟨9,0,0,0⟩)]⟩}})), (0), by decide, by decide⟩,
  ⟨(sigSt [] (sigOf 7 1 0xFFFF 1 0 255) id), (0), (7), (32), (0x1F5), (sigOf 7 1 0xFFFF 1 0 255), by decide, by decide, by decide, by decide, by decide⟩,
  ⟨(sigSt [] (sigOf 7 6 0xFFFF 1 0 255) id), (0), (7), (0x1F5), (sigOf 7 6 0xFFFF 1 0 255), by decide, by decide, by decide, by decide, by decide⟩,
  ⟨(sigSt [] (sigOf 7 6 0xFFFF 1 0 255) (fun d => {d with sig := {d.sig with wlatch := ⟨[(0, (5, 7))]⟩}})), (0), (7), (0x1F5), (5), (sigOf 7 6 0xFFFF 1 0 255), by decide, by decide, by decide, by decide, by decide, by decide⟩,
  ⟨(sigSt [(CTX_HART_CTX, 0, 5)] (sigOf 7 1 0xFFFF 1 0 255) id), (0), (7), (0), (32), by decide, by decide, by decide⟩,
  ⟨(sigSt [] (sigOf 7 1 0xFFFF 1 0 255) id), (0), (7), (32), by decide, by decide, by decide⟩,
  ⟨(sigSt [] (sigOf 7 1 0xFFFF 1 0 255) (fun d => {d with sig := {d.sig with latch := ⟨[(0, (7, 0x112233445566778899AABBCCDDEEFF))]⟩}})), (0), (7), (8), (32), (0x112233445566778899AABBCCDDEEFF), by decide, by decide, by decide, by decide, by decide⟩,
  ⟨(sigSt [(BEAT_PICK, 0, 200)] (sigOf 7 1 0xFFFF 1 100 3) id), (7), (sigOf 7 1 0xFFFF 1 100 3), by decide, by decide, by decide, by decide, by decide, by decide, by decide⟩⟩

/-- The hypotheses of SignalWriteRefused can be met. -/
theorem wit_SignalWriteRefused : (∃ (s : State) (init : Nat) (n : Nat) (off : Nat) (width : Nat) (value : Nat), s.dev.portOpen init = true ∧ s.dev.domainOn 11 = true ∧ s.dev.sigRec n = none) ∧
  (∃ (s : State) (init : Nat) (n : Nat) (off : Nat) (width : Nat) (value : Nat) (r : SigRec), s.dev.portOpen init = true ∧ s.dev.domainOn 11 = true ∧ s.dev.sigRec n = some r ∧ s.dev.mayWrite init r.writer = false) ∧
  (∃ (d : Dev) (init : Nat) (n : Nat) (b : Bool), d.ctxRec (d.tag init) = none) :=
  ⟨⟨(sigSt [] (sigOf 7 1 0xFFFF 1 0 255) id), (0), (8), (0), (32), (1), by decide, by decide, by decide⟩,
  ⟨(sigSt [] (sigOf 7 1 0xFFFF 2 0 255) id), (0), (7), (0), (32), (1), (sigOf 7 1 0xFFFF 2 0 255), by decide, by decide, by decide, by decide⟩,
  ⟨((regSt []).dev), (0), (7), (false), by decide⟩⟩

/-- The hypotheses of MovesAndPresence can be met. -/
theorem wit_MovesAndPresence : (∃ (s : State), s.dev.laneFree = true) ∧
  (∃ (s : State), s.dev.laneFree = true) ∧
  (∃ (s : State), s.dev.laneFree = true) ∧
  (∃ (s : State) (p : Nat) (r : InvRec), s.dev.partner p = some r ∧ s.dev.presenceOf r.partner = .unknown) ∧
  (∃ (s : State) (p : Nat) (r : InvRec), s.dev.partner p = some r ∧ s.dev.presenceOf r.partner = .absent) ∧
  (∃ (s : State) (p : Nat) (r : InvRec), s.dev.partner p = some r ∧ s.dev.presenceOf r.partner = .present) ∧
  (∃ (s : State) (p : Nat) (r : InvRec), s.dev.partner p = some r ∧ s.dev.standing r = false ∧ s.dev.presenceOf p = .unknown) ∧
  (∃ (s : State) (p : Nat) (r : InvRec), s.dev.partner p = some r ∧ s.dev.standing r = false ∧ s.dev.presenceOf p = .present) ∧
  (∃ (s : State) (p : Nat) (r : InvRec), s.dev.partner p = some r ∧ s.dev.standing r = false) ∧
  (∃ (s : State) (p : Nat) (r : InvRec) (tie : Bool), s.dev.partner p = some r ∧ s.dev.standing r = true) :=
  ⟨⟨(sigSt [] (sigOf 7 1 0xFFFF 2 0 255) (fun d => {d with can := {d.can with ctl := ⟨[(0, {q0 := [⟨0, [1,2]⟩]})]⟩}})), by decide⟩,
  ⟨(sigSt [] (sigOf 7 1 0xFFFF 2 0 255) (fun d => {d with tt := ⟨[(0, {waiting := [⟨0x1000, [1,2]⟩]})]⟩})), by decide⟩,
  ⟨(sigSt [] (sigOf 7 1 0xFFFF 2 0 255) (fun d => {d with swx := {d.swx with i2 := [(0x2000, 5, 3, [1,2])]}})), by decide⟩,
  ⟨(sigSt [] (sigOf 7 1 0xFFFF 2 0 255) id), (3), (⟨3, 1, 0, 0, 0xFFFF, 0, 0, 1⟩), by decide, by decide⟩,
  ⟨(sigSt [] (sigOf 7 1 0xFFFF 2 0 255) (fun d => {d with deck := {d.deck with presence := ⟨[(3, .absent)]⟩}})), (3), (⟨3, 1, 0, 0, 0xFFFF, 0, 0, 1⟩), by decide, by decide⟩,
  ⟨(sigSt [] (sigOf 7 1 0xFFFF 2 0 255) (fun d => {d with deck := {d.deck with presence := ⟨[(3, .present)]⟩}})), (3), (⟨3, 1, 0, 0, 0xFFFF, 0, 0, 1⟩), by decide, by decide⟩,
  ⟨(sigSt [] (sigOf 7 1 0xFFFF 2 0 255) id), (3), (⟨3, 1, 0, 0, 0xFFFF, 0, 0, 1⟩), by decide, by decide, by decide⟩,
  ⟨(sigSt [] (sigOf 7 1 0xFFFF 2 0 255) (fun d => {d with deck := {d.deck with presence := ⟨[(3, .present)]⟩}})), (3), (⟨3, 1, 0, 0, 0xFFFF, 0, 0, 1⟩), by decide, by decide, by decide⟩,
  ⟨(sigSt [] (sigOf 7 1 0xFFFF 2 0 255) (fun d => {d with deck := {d.deck with presence := ⟨[(3, .present)]⟩}})), (3), (⟨3, 1, 0, 0, 0xFFFF, 0, 0, 1⟩), by decide, by decide⟩,
  ⟨(sigSt [(SWXP_STAT_LINK, 4, 1)] (sigOf 7 1 0xFFFF 2 0 255) (fun d => d.withDeck [(15, 0, .inventory [⟨3, 5, 4, 0, 0xFFFF, 0, 0, 1⟩])])), (3), (⟨3, 5, 4, 0, 0xFFFF, 0, 0, 1⟩), (false), by decide, by decide⟩⟩


/-- The hypotheses of RoutedEventClears can be met. -/
theorem wit_RoutedEventClears : (∃ (s : State) (init : Nat) (value : Nat), s.dev.portOpen init = true ∧ s.dev.domainOn 0 = true ∧ s.dev.routedTo init 376 = true ∧ s.dev.routedTo init 377 = true) ∧
  (∃ (s : State) (init : Nat) (value : Nat), s.dev.portOpen init = true ∧ s.dev.domainOn 2 = true ∧ s.dev.routedTo init 432 = true ∧ s.dev.routedTo init 433 = true ∧ s.dev.routedTo init 434 = true) ∧
  (∃ (d : Dev) (init : Nat) (value : Nat) (n : Nat) (src : Nat) (f : Field), d.routedTo init src = false) ∧
  (∃ (s : State) (init : Nat) (value : Nat), s.dev.portOpen init = true ∧ s.dev.domainOn 0 = true ∧ s.dev.tag init = 0xFFFF ∧ s.dev.ctxRec 0xFFFF = none ∧ value % 8 ≠ 0) ∧
  (∃ (s : State) (init : Nat) (value : Nat), s.dev.portOpen init = true ∧ s.dev.domainOn 2 = true ∧ s.dev.tag init = 0xFFFF ∧ s.dev.ctxRec 0xFFFF = none ∧ value % 8 ≠ 0) :=
  ⟨⟨(ctxSt [(SYSCTL_EVT_SWAPDONE, 0, 1), (SYSCTL_EVT_SWAPABN, 0, 1)] id), (0), (3), by decide, by decide, by decide, by decide⟩,
  ⟨(ctxSt [(CTX_EVT_STATECHG, 0, 1), (CTX_EVT_BREACH, 0, 1)] id), (0), (1), by decide, by decide, by decide, by decide, by decide⟩,
  ⟨((regSt []).dev), (0), (1), (0), (376), (SYSCTL_EVT_SWAPDONE), by decide⟩,
  ⟨(ctxSt [(DBG_STAT_LEVEL, 0, 2), (SYSCTL_ACCERR_ACC_ERR, 0, 65535)] id), (14), (5), by decide, by decide, by decide, by decide, by decide⟩,
  ⟨(ctxSt [(DBG_STAT_LEVEL, 0, 2), (CTX_EVT_BREACH, 0, 1)] id), (14), (2), by decide, by decide, by decide, by decide, by decide⟩⟩

/-- The hypotheses of ContextOrders can be met. -/
theorem wit_ContextOrders : (∃ (s : State) (h : Nat) (valid : Nat) (bind : Nat) (ctx : Nat) (r : CtxRec), s.dev.domainOn 2 = true ∧ h < 5 ∧ s.dev.ctxRec (ctx % 2048) = some r ∧ r.bind = bind % 128) ∧
  (∃ (s : State) (h : Nat) (bind : Nat) (ctx : Nat), s.dev.domainOn 2 = true ∧ h < 5 ∧ s.dev.ctxRec (ctx % 2048) = none) ∧
  (∃ (s : State) (init : Nat) (ctx : Nat), s.dev.domainOn 2 = true ∧ init < 10 ∧ s.dev.tag init = ctx ∧ s.dev.ctxRuns ctx = true) ∧
  (∃ (s : State) (init : Nat) (ctx : Nat), s.dev.domainOn 2 = true ∧ init < 10 ∧ s.dev.tag init = ctx ∧ s.dev.ctxState ctx = 3) ∧
  (∃ (s : State) (c : Nat) (r : CtxRec), s.dev.ctxRec c = some r ∧ s.dev.ctxState c = 2 ∧ s.dev.ctx.stopPending.contains c = false ∧ s.dev.ctx.atThree.contains c = false) ∧
  (∃ (s : State) (init : Nat) (ctx : Nat), s.dev.portOpen init = true ∧ s.dev.domainOn 2 = true ∧ s.dev.tag init ≠ ctx) :=
  ⟨⟨(ctxSt [] id), (1), (1), (1), (2), (⟨2, 1, 1, 1, 0xFFFF, [8]⟩), by decide, by decide, by decide, by decide⟩,
  ⟨(ctxSt [] id), (1), (1), (3), by decide, by decide, by decide⟩,
  ⟨(ctxSt [] id), (0), (1), by decide, by decide, by decide, by decide⟩,
  ⟨(ctxSt [(CTXN_STAT_STATE, 1, 3)] id), (0), (1), by decide, by decide, by decide, by decide⟩,
  ⟨(ctxSt [(CTXN_STAT_STATE, 1, 2)] id), (1), (⟨1, 1, 0, 2, 0xFFFF, [8, 8]⟩), by decide, by decide, by decide, by decide⟩,
  ⟨(ctxSt [] id), (0), (2), by decide, by decide, by decide⟩⟩

/-- The hypotheses of ContextDevices can be met. -/
theorem wit_ContextDevices : (∃ (s : State) (q : Nat) (kind : Nat) (payload : List Byte) (p : CtxRec × Nat), s.dev.queueOwner q = some p ∧ s.dev.ctxBarred p.1.ctx = false ∧ s.dev.borrowFor q (unitsFor payload.length) = 0) ∧
  (∃ (s : State) (q : Nat) (kind : Nat) (payload : List Byte) (p : CtxRec × Nat), s.dev.queueOwner q = some p ∧ s.dev.ctxBarred p.1.ctx = true) ∧
  (∃ (s : State) (init : Nat) (h : Nat) (q : Nat), s.dev.portOpen init = true ∧ s.dev.domainOn 2 = true ∧ s.dev.ctxBarred (s.dev.tag init) = false ∧ s.dev.hartQueue h = some q) ∧
  (∃ (s : State) (init : Nat) (k : Nat) (exp : Nat) (unit : Nat) (mode : Nat), s.dev.portOpen init = true ∧ s.dev.domainOn 2 = true ∧ s.dev.routedTo init (436 + k) = true ∧ k < 32 ∧ mode ≠ 1 ∧ mode ≠ 2) ∧
  (∃ (s : State) (init : Nat) (k : Nat) (unit : Nat) (mode : Nat), s.dev.portOpen init = true ∧ s.dev.domainOn 2 = true ∧ s.dev.routedTo init (436 + k) = true ∧ ((mode = 1 ∨ mode = 2))) ∧
  (∃ (s : State) (k : Nat), s.dev.ctx.timerRunning.find k = some 0 ∧ k < 32 ∧ s.dev.rdi CTX_TMRCFG_MODE k ≠ 2) ∧
  (∃ (s : State) (init : Nat) (b : Nat) (data : Nat), s.dev.domainOn 2 = true ∧ init < 10 ∧ s.dev.ctxRuns (s.dev.tag init) = true ∧ b < 44) ∧
  (∃ (s : State) (init : Nat) (b : Nat), s.dev.portOpen init = true ∧ s.dev.domainOn 2 = true ∧ s.dev.hartBind init = some b ∧ s.dev.undeclared (s.dev.tag init) = false) :=
  ⟨⟨(ctxSt [(CTX_QD_DEPTH, 0, 8)] id), (0), (1), ([1,2,3]), ((⟨1, 1, 0, 2, 0xFFFF, [8, 8]⟩, 0)), by decide, by decide, by decide⟩,
  ⟨(ctxSt [(CTX_QD_DEPTH, 0, 8), (CTXN_STAT_STATE, 1, 4)] id), (0), (1), ([1,2,3]), ((⟨1, 1, 0, 2, 0xFFFF, [8, 8]⟩, 0)), by decide, by decide⟩,
  ⟨(ctxSt [(CTX_HSEL_BOB, 0, 1)] id), (0), (0), (1), by decide, by decide, by decide, by decide⟩,
  ⟨(ctxSt [(CTX_TMRCFG_EXP, 4, 1)] (fun d => {d with ctx := {d.ctx with timerRunning := ⟨[(4, 0)]⟩}})), (0), (4), (1), (0), (0), by decide, by decide, by decide, by decide, by decide, by decide⟩,
  ⟨(ctxSt [(CTX_TMRCFG_EXP, 4, 1)] id), (0), (4), (0), (2), by decide, by decide, by decide, by decide⟩,
  ⟨(ctxSt [(CTX_TMRCFG_MODE, 4, 1), (CTX_TMRCNT_CNT, 4, 9)] (fun d => {d with ctx := {d.ctx with timerRunning := ⟨[(4, 0)]⟩}})), (4), by decide, by decide, by decide⟩,
  ⟨(ctxSt [(CTX_DBSTAT_PEND, 43, 1)] id), (0), (43), (0x12345), by decide, by decide, by decide, by decide⟩,
  ⟨(ctxSt [(CTX_NQHI_BYTES, 0, 0x12345)] (fun d => {d with ctx := {d.ctx with notices := ⟨[(0, [⟨1,2,3,4⟩, ⟨1,1,1,1⟩])]⟩}})), (0), (0), by decide, by decide, by decide, by decide⟩⟩


/-- The hypotheses of BankStateCommands can be met. -/
theorem wit_BankStateCommands : (∃ (s : State) (b : Nat) (lo : Nat) (hi : Nat), s.dev.rdi BANK_STAT_STATE b = 1 ∧ ((s.dev.rdi BANK_CFG_VCLASS b ≠ 1 ∧ 6000 ≤ lo ∧ hi ≤ 20000 ∨ s.dev.rdi BANK_CFG_VCLASS b = 1 ∧ 30000 ≤ lo ∧ hi ≤ 58000))) ∧
  (∃ (s : State) (b : Nat) (lo : Nat) (hi : Nat), s.dev.rdi BANK_STAT_STATE b = 1 ∧ lo ≤ hi ∧ ((s.dev.rdi BANK_CFG_VCLASS b ≠ 1 ∧ 24000 < lo ∨ s.dev.rdi BANK_CFG_VCLASS b = 1 ∧ 4000 ≤ lo ∧ hi ≤ 24000))) ∧
  (∃ (s : State) (b : Nat) (lo : Nat) (us : Nat), s.dev.rdi BANK_STAT_STATE b = 2 ∧ ((s.dev.rdi BANK_CFG_VCLASS b ≠ 1 ∧ 36000 < lo ∧ 1000 ≤ us ∨ s.dev.rdi BANK_CFG_VCLASS b = 1 ∧ 58500 < lo ∧ 100 ≤ us))) ∧
  (∃ (s : State) (b : Nat) (hi : Nat) (us : Nat), s.dev.rdi BANK_STAT_STATE b = 2 ∧ s.dev.rdi BANK_CFG_VCLASS b = 1 ∧ hi < 24000 ∧ 1000 ≤ us) ∧
  (∃ (s : State) (b : Nat) (lo : Nat) (hi : Nat) (us : Nat), s.dev.rdi BANK_STAT_STATE b = 3 ∧ 10000 ≤ us ∧ ((s.dev.rdi BANK_STAT_LOCKWHY b = 3 ∧ hi < (if s.dev.rdi BANK_CFG_VCLASS b = 1 then 56000 else 34000) ∨ s.dev.rdi BANK_STAT_LOCKWHY b = 4 ∧ 30000 < lo))) ∧
  (∃ (s : State) (b : Nat) (hi : Nat) (us : Nat), s.dev.bankFitted b = true ∧ hi < 4000 ∧ 100 ≤ us) ∧
  (∃ (s : State) (b : Nat) (lo : Nat) (us : Nat), s.dev.bankFitted b = true ∧ (s.dev.bk b).keeperOn = false ∧ 4500 < lo ∧ 100 ≤ us ∧ s.dev.coreRuns = true) ∧
  (∃ (s : State) (b : Nat) (lo : Nat) (us : Nat), s.dev.bankFitted b = true ∧ (s.dev.bk b).keeperOn = false ∧ 4500 < lo ∧ 100 ≤ us ∧ s.dev.coreRuns = false) ∧
  (∃ (s : State) (b : Nat), ((bankChans b).any fun m => s.dev.chState m == chON && s.dev.flagi CH_STAT_LIMITING m) = false) :=
  ⟨⟨(runSt [(BANK_STAT_STATE, 1, 1)] id), (1), (6000), (20000), by decide, by decide⟩,
  ⟨(runSt [(BANK_STAT_STATE, 1, 1), (BANK_CFG_VCLASS, 1, 1)] id), (1), (4000), (24000), by decide, by decide, by decide⟩,
  ⟨(runSt [(BANK_STAT_STATE, 1, 2)] id), (1), (36001), (1000), by decide, by decide⟩,
  ⟨(runSt [(BANK_STAT_STATE, 1, 2), (BANK_CFG_VCLASS, 1, 1)] id), (1), (23999), (1000), by decide, by decide, by decide, by decide⟩,
  ⟨(runSt [(BANK_STAT_STATE, 1, 3), (BANK_STAT_LOCKWHY, 1, 4)] id), (1), (30001), (31000), (10000), by decide, by decide, by decide⟩,
  ⟨(runSt [] id), (1), (3999), (100), by decide, by decide, by decide⟩,
  ⟨(runSt [] id), (1), (4501), (100), by decide, by decide, by decide, by decide, by decide⟩,
  ⟨(regSt []), (1), (4501), (100), by decide, by decide, by decide, by decide, by decide⟩,
  ⟨(runSt [(BANK_STAT_SHORTEV, 1, 1)] id), (1), by decide⟩⟩

/-- The hypotheses of BankLockState can be met. -/
theorem wit_BankLockState : (∃ (s : State) (b : Nat) (m : Nat) (lo : Nat) (us : Nat), b < 4 ∧ m / 16 = b ∧ s.dev.rdi BANK_STAT_STATE b = 2 ∧ s.dev.overVolt b lo us = true) ∧
  (∃ (s : State) (b : Nat) (v : Nat) (us : Nat), s.dev.rdi BANK_STAT_STATE b ≠ 2) ∧
  (∃ (s : State) (b : Nat) (lo : Nat) (us : Nat), lo ≤ 36000) ∧
  (∃ (s : State) (b : Nat) (hi : Nat) (us : Nat), ((s.dev.rdi BANK_CFG_VCLASS b ≠ 1 ∨ 24000 ≤ hi ∨ us < 1000))) ∧
  (∃ (s : State) (b : Nat) (lo : Nat) (hi : Nat) (us : Nat), ((us < 10000 ∨ s.dev.rdi BANK_STAT_LOCKWHY b = 1 ∨ s.dev.rdi BANK_STAT_LOCKWHY b = 2))) ∧
  (∃ (s : State) (b : Nat) (lo : Nat) (hi : Nat), s.dev.rdi BANK_STAT_STATE b ≠ 1) ∧
  (∃ (s : State) (b : Nat) (v : Nat) (us : Nat), ((4000 ≤ v ∨ us < 100))) ∧
  (∃ (s : State) (b : Nat) (v : Nat) (us : Nat), ((v ≤ 4500 ∨ us < 100))) :=
  ⟨⟨(runSt [(BANK_STAT_STATE, 1, 2), (CH_STAT_STATE, 17, 3)] (fun d => {d with chan := ⟨[(17, {output := true})]⟩})), (1), (17), (36001), (1000), by decide, by decide, by decide, by decide⟩,
  ⟨(runSt [(BANK_STAT_STATE, 1, 1)] id), (1), (40000), (1000), by decide⟩,
  ⟨(runSt [(BANK_STAT_STATE, 1, 2)] id), (1), (36000), (1000), by decide⟩,
  ⟨(runSt [(BANK_STAT_STATE, 1, 2), (BANK_CFG_VCLASS, 1, 0)] id), (1), (5), (1000), by decide⟩,
  ⟨(runSt [(BANK_STAT_STATE, 1, 3), (BANK_STAT_LOCKWHY, 1, 2)] id), (1), (12000), (12000), (10000), by decide⟩,
  ⟨(runSt [(BANK_STAT_STATE, 1, 3)] id), (1), (12000), (12000), by decide⟩,
  ⟨(runSt [] id), (1), (4000), (100), by decide⟩,
  ⟨(runSt [] id), (1), (4500), (100), by decide⟩⟩

/-- The hypotheses of BankLimitCommands can be met. -/
theorem wit_BankLimitCommands : (∃ (s : State) (b : Nat) (ib : Nat) (cur : List Nat), ib = (List.range 16).foldl (fun t i => t + cur.getD i 0) 0 ∧ b < 4 ∧ ib ≤ s.dev.rdi BANK_BUDGET_CONT b * 100 ∧ ib ≤ s.dev.rdi BANK_BUDGET_PEAK b * 100 ∧ s.dev.rdi BANK_STAT_BUDCNT b - 1 < s.dev.rdi BANK_BUDGET_OVERMS b * 100 ∧ s.dev.rdi BANK_STAT_BUDCNT b ≤ 16383) ∧
  (∃ (s : State) (b : Nat) (t1 : Int) (t2 : Int) (cur : List Nat) (trips : List (Nat × Nat)), t1 ≤ ((s.dev.rdi BANK_CFG_CASEMAX b * 8 : Nat) : Int)) ∧
  (∃ (s : State) (b : Nat) (t1 : Int) (t2 : Int) (cur : List Nat) (trips : List (Nat × Nat)), ((s.dev.rdi BANK_CFG_CASEMAX b * 8 : Nat) : Int) < t1 ∧ ((s.dev.rdi BANK_CFG_CASEMAX b * 8 : Nat) : Int) < t2 ∧ (s.dev.bk b).caseBroken = true) ∧
  (∃ (s : State) (b : Nat) (t1 : Int) (t2 : Int) (cur : List Nat) (trips : List (Nat × Nat)), ((s.dev.rdi BANK_CFG_CASEMAX b * 8 : Nat) : Int) < t1 ∧ ((s.dev.rdi BANK_CFG_CASEMAX b * 8 : Nat) : Int) < t2 ∧ (s.dev.bk b).caseBroken = false) ∧
  (∃ (s : State) (b : Nat) (cur : List Nat) (trips : List (Nat × Nat)), s.dev.flagi BANK_STAT_THERMLIM b = true) ∧
  (∃ (s : State) (b : Nat) (cur : List Nat), s.dev.flagi BANK_STAT_THERMLIM b = false) ∧
  (∃ (s : State) (b : Nat) (femto : Nat) (cur : List (List Nat)) (tj : List Int), (femto : Int) = (List.range 16).foldl (fun (t : Int) i => t + (((cur.getD i []).take 100).map fun x => x * x).sum * s.dev.onResistance (b * 16 + i) (tj.getD i 200)) 0 ∧ femto % 10 ^ 11 = 0 ∧ (((300000 + femto / 10 ^ 11) :: (s.dev.bk b).pRing).take 1000).foldl (· + ·) 0 + (1000 - (((300000 + femto / 10 ^ 11) :: (s.dev.bk b).pRing).take 1000).length) * 300000 ≤ s.dev.rdi BANK_CFG_PDMAX b * 100000 * 1000) ∧
  (∃ (s : State) (m : Nat) (k : Nat) (spare : Nat), m % 16 < 2 ∧ s.dev.chState m = chON ∧ (s.dev.ch m).output = true ∧ s.dev.flagi CH_STAT_LIMITING m = false ∧ s.dev.cellMap m = 0 ∧ 2000 ≤ k) ∧
  (∃ (s : State) (m : Nat) (k : Nat) (spare : Nat), m % 16 < 2 ∧ s.dev.chState m = chON ∧ (s.dev.ch m).output = true ∧ s.dev.flagi CH_STAT_LIMITING m = false ∧ s.dev.cellMap m = 0 ∧ 3000 ≤ k ∧ s.dev.fwFires (.cell m 0) (s.dev.rdi BANK_CFG_CELLTH (bankOf m)) = false) :=
  ⟨⟨(runSt [(BANK_BUDGET_CONT, 1, 50), (BANK_BUDGET_PEAK, 1, 60), (BANK_BUDGET_OVERMS, 1, 10), (BANK_STAT_BUDCNT, 1, 5), (BANK_STAT_OVERBUD, 1, 1)] (fun d => {d with bank := ⟨[(1, {peakRun := 3, sinceShed := 2})]⟩})), (1), (300), ([100, 200]), by decide, by decide, by decide, by decide, by decide, by decide⟩,
  ⟨(runSt [(BANK_CFG_CASEMAX, 1, 100)] (fun d => {d with bank := ⟨[(1, {caseBroken := true})]⟩})), (1), (800), (800), ([]), ([(17, 1)]), by decide⟩,
  ⟨(runSt [(BANK_CFG_CASEMAX, 1, 100)] (fun d => {d with bank := ⟨[(1, {caseBroken := true})]⟩})), (1), (801), (801), ([]), ([]), by decide, by decide, by decide⟩,
  ⟨(runSt [(BANK_CFG_CASEMAX, 1, 100)] id), (1), (801), (801), ([]), ([]), by decide, by decide, by decide⟩,
  ⟨(runSt [(BANK_STAT_THERMLIM, 1, 1), (CH_STAT_STATE, 17, 3)] (fun d => {d with bank := ⟨[(1, {thermWait := true})]⟩})), (1), ([0, 50]), ([]), by decide⟩,
  ⟨(runSt [] (fun d => {d with bank := ⟨[(1, {thermWait := true})]⟩})), (1), ([]), by decide⟩,
  ⟨(runSt [(BANK_CFG_PDMAX, 1, 100), (BANK_STAT_THERMLIM, 1, 1)] (fun d => {d with bank := ⟨[(1, {pdBroken := true, pRing := [5]})]⟩})), (1), (0), ([]), ([]), by decide, by decide, by decide⟩,
  ⟨(runSt [(CH_STAT_STATE, 16, 3)] (fun d => {d with chan := ⟨[(16, {output := true})]⟩})), (16), (2500), (0), by decide, by decide, by decide, by decide, by decide, by decide⟩,
  ⟨(runSt [(CH_STAT_STATE, 16, 3), (BANK_CFG_CELLTH, 1, 3)] (fun d => {d with chan := ⟨[(16, {output := true})]⟩})), (16), (3000), (0), by decide, by decide, by decide, by decide, by decide, by decide, by decide⟩⟩


/-- The hypotheses of KeeperLinkCommands can be met. -/
theorem wit_KeeperLinkCommands : (∃ (s : State) (b : Nat), s.dev.bankFitted b = true ∧ (s.dev.bk b).keeperOn = true ∧ s.dev.flagi BANK_STAT_LINK b = false) ∧
  (∃ (s : State) (b : Nat), s.dev.bankFitted b = true ∧ (s.dev.bk b).keeperOn = true ∧ s.dev.flagi BANK_STAT_LINK b = true) ∧
  (∃ (s : State) (b : Nat), s.dev.bankFitted b = true ∧ (s.dev.bk b).keeperOn = true) ∧
  (∃ (s : State) (b : Nat), s.dev.bankFitted b = true ∧ (s.dev.bk b).keeperOn = true) ∧
  (∃ (s : State) (b : Nat) (m : Nat) (w : Nat), s.dev.bankFitted b = true ∧ (s.dev.bk b).keeperOn = true ∧ s.dev.flagi BANK_STAT_LINK b = false ∧ m ∈ s.dev.shList b ∧ s.dev.chLead m = m ∧ s.dev.chUsed m = true ∧ (s.dev.ch m).manual = false ∧ s.dev.replaced m = false ∧ ((s.dev.bk b).lastFrame.getD (m % 16) {}).assert = true ∧ w = ((s.dev.bk b).lastFrame.getD (m % 16) {}).cmd ∧ w < 32 ∧ w % 4 < 2) ∧
  (∃ (s : State) (b : Nat), s.dev.bankFitted b = true ∧ (s.dev.bk b).keeperOn = true) ∧
  (∃ (s : State) (b : Nat), s.dev.bankFitted b = true ∧ (s.dev.bk b).keeperOn = true) ∧
  (∃ (s : State) (b : Nat), s.dev.bankFitted b = true ∧ (s.dev.bk b).keeperOn = true ∧ s.dev.flagi BANK_STAT_LINK b = false) ∧
  (∃ (s : State) (b : Nat), s.dev.flagi BANK_STAT_LINK b = true) ∧
  (∃ (s : State) (m : Nat), (s.dev.ch m).holdRun = true) ∧
  (∃ (s : State) (m : Nat), (s.dev.ch m).holdRun = true) ∧
  (∃ (s : State) (m : Nat), (s.dev.ch m).holdRun = false) ∧
  (∃ (s : State) (b : Nat) (ns : Nat) (atMark : List Sense) (atMid : List Sense) (case : Nat) (vsup : Nat), s.dev.bankFitted b = true ∧ (s.dev.bk b).keeperOn = true) ∧
  (∃ (s : State) (b : Nat) (ns : Nat) (atMark : List Sense) (atMid : List Sense) (case : Nat) (vsup : Nat), s.dev.bankFitted b = true ∧ (s.dev.bk b).keeperOn = true ∧ (s.dev.bk b).converted = true ∧ (s.dev.bk b).convAgo.all (fun t => decide (10000 ≤ t + ns)) = true) ∧
  (∃ (s : State) (b : Nat) (ns : Nat) (atMark : List Sense) (atMid : List Sense) (case : Nat) (vsup : Nat), s.dev.bankFitted b = true ∧ (s.dev.bk b).keeperOn = true ∧ (s.dev.bk b).convAgo.all (fun t => decide (10000 ≤ t + ns)) = false) ∧
  (∃ (s : State) (b : Nat), s.dev.flagi BANK_STAT_LINK b = true) ∧
  (∃ (s : State) (b : Nat), s.dev.flagi BANK_STAT_LINK b = true) ∧
  (∃ (s : State) (b : Nat), s.dev.flagi BANK_STAT_LINK b = false) :=
  ⟨⟨(runSt [(CH_STAT_STATE, 17, 0)] (fun d => {d with bank := ⟨[(1, {keeperOn := true, lastFrame := [{}, {cmd := 1, assert := true}]})]⟩})), (1), by decide, by decide, by decide⟩,
  ⟨(runSt [(BANK_STAT_LINK, 1, 1)] (fun d => {d with bank := ⟨[(1, {keeperOn := true, lastFrame := [{}, {cmd := 1, assert := true}], log := [⟨0x0410, [17], 0⟩]})]⟩})), (1), by decide, by decide, by decide⟩,
  ⟨(runSt [] (fun d => {d with bank := ⟨[(1, {keeperOn := true})]⟩})), (1), by decide, by decide⟩,
  ⟨(runSt [(BANK_STAT_LINK, 1, 1)] (fun d => {d with bank := ⟨[(1, {keeperOn := true, lastFrame := [{cmd := 1, assert := true}], log := [⟨0x0410, [17], 0⟩]})]⟩})), (1), by decide, by decide⟩,
  ⟨(runSt [(CH_OWNER, 16, 1)] (fun d => {d with bank := ⟨[(1, {keeperOn := true, lastFrame := [{cmd := 5, assert := true, duty := 7, period := 3000}]})]⟩})), (1), (16), (5), by decide, by decide, by decide, by decide, by decide, by decide, by decide, by decide, by decide, by decide, by decide, by decide⟩,
  ⟨(runSt [] (fun d => {d with bank := ⟨[(1, {keeperOn := true})]⟩})), (1), by decide, by decide⟩,
  ⟨(runSt [(CH_STAT_STATE, 17, 3)] (fun d => {d with bank := ⟨[(1, {keeperOn := true})]⟩})), (1), by decide, by decide⟩,
  ⟨(runSt [(CH_STAT_STATE, 17, 3), (CH_OWNER, 16, 1), (CH_FAIL_HOLDMS, 16, 5)] (fun d => {d with bank := ⟨[(1, {keeperOn := true})]⟩})), (1), by decide, by decide, by decide⟩,
  ⟨(runSt [(BANK_STAT_LINK, 1, 1)] (fun d => {d with bank := ⟨[(1, {keeperOn := true})]⟩})), (1), by decide⟩,
  ⟨(runSt [(CH_STAT_STATE, 17, 3)] (fun d => {d with chan := ⟨[(17, {holdRun := true, output := true})]⟩})), (17), by decide⟩,
  ⟨(runSt [(CH_STAT_STATE, 16, 3), (CH_FAIL_FSTATE, 16, 1), (BANK_HOLD_HOLDING, 1, 3)] (fun d => {d with chan := ⟨[(16, {holdRun := true, output := true})]⟩})), (16), by decide⟩,
  ⟨(runSt [(CH_STAT_STATE, 17, 3)] id), (17), by decide⟩,
  ⟨(runSt [] (fun d => {d with bank := ⟨[(1, {keeperOn := true})]⟩})), (1), (50000), ([]), ([]), (100), (1200), by decide, by decide⟩,
  ⟨(runSt [(CH_ISENSE_CODE, 17, 33), (CH_CFG_SENSE, 18, 1), (CH_CMD, 18, 2), (BANK_STAT_STATE, 1, 2), (CH_STAT_STATE, 16, 1)] (fun d => {d with bank := ⟨[(1, {keeperOn := true, converted := true, convAgo := some 5000})]⟩, chan := ⟨[(18, {lastHigh := 5})]⟩})), (1), (50000), ([⟨1, 2, 3, 4⟩, ⟨5, 6, 7, 8⟩, ⟨9, 9, 9, 9⟩]), ([⟨11, 2, 3, 4⟩, ⟨15, 6, 7, 8⟩, ⟨19, 9, 9, 9⟩]), (100), (1200), by decide, by decide, by decide, by decide⟩,
  ⟨(runSt [(CH_ISENSE_CODE, 17, 33)] (fun d => {d with bank := ⟨[(1, {keeperOn := true, converted := true, convAgo := some 0})]⟩})), (1), (5000), ([]), ([]), (100), (1200), by decide, by decide, by decide⟩,
  ⟨(runSt [(BANK_STAT_LINK, 1, 1)] (fun d => {d with bank := ⟨[(1, {keeperOn := true})]⟩})), (1), by decide⟩,
  ⟨(runSt [(BANK_STAT_LINK, 1, 1), (BANK_STAT_STATE, 1, 2), (CH_STAT_STATE, 16, 1)] (fun d => {d with bank := ⟨[(1, {keeperOn := true})]⟩})), (1), by decide⟩,
  ⟨(runSt [] id), (1), by decide⟩⟩

/-- The hypotheses of ChannelOutputCommands can be met. -/
theorem wit_ChannelOutputCommands : (∃ (s : State) (m : Nat), s.dev.pwmRuns m = true) ∧
  (∃ (s : State) (m : Nat), s.dev.pwmRuns m = true) ∧
  (∃ (s : State) (m : Nat), s.dev.pwmRuns m = true ∧ (s.dev.ch m).output = true ∧ s.dev.chHigh m (s.dev.rdi CH_CMD_DUTY m) (s.dev.rdi CH_PWMPER_PERIOD m) < s.dev.rdi CH_PWMPER_PERIOD m) ∧
  (∃ (s : State) (m : Nat) (k : Nat) (phase : Nat) (duty : Nat) (period : Nat), s.dev.chLead m = m ∧ k ∈ s.dev.chMembers m ∧ (s.dev.ch k).restart = some (phase, duty, period) ∧ s.dev.chMode k ≠ 2) ∧
  (∃ (s : State) (m : Nat), s.dev.chState m = 2 ∧ (s.dev.ch m).winOpen = true ∧ s.dev.flagi CH_STAT_LIMITING m = false) ∧
  (∃ (s : State) (m : Nat), s.dev.chState m = 2 ∧ (s.dev.ch m).winOpen = true ∧ s.dev.flagi CH_STAT_LIMITING m = true) ∧
  (∃ (s : State) (m : Nat) (cur : Nat), s.dev.chState m = 3 ∧ (s.dev.ch m).output = true ∧ (4 - s.dev.rdi CH_CMD m / 4 % 4) * (if s.dev.threeCells m then min (s.dev.rdi CH_LIM_LIMIT m) 300 else s.dev.rdi CH_LIM_LIMIT m) * 25 < cur) ∧
  (∃ (s : State) (m : Nat) (cur : Nat), s.dev.chState m = 2 ∧ (s.dev.ch m).output = true ∧ (s.dev.ch m).winOpen = true ∧ 4 * (if s.dev.threeCells m then min (s.dev.rdi CH_INRUSH_ILIM m) 900 else s.dev.rdi CH_INRUSH_ILIM m) * 25 < cur) ∧
  (∃ (s : State) (m : Nat) (cur : Nat), cur ≤ s.dev.limitNow m * 25) ∧
  (∃ (s : State) (m : Nat) (cur : Nat), cur < s.dev.limitNow m * 25) :=
  ⟨⟨(runSt [(CH_CFG_LEAD, 17, 1), (CH_CFG_LEAD, 19, 1), (CH_STAT_STATE, 17, 3), (CH_CMD_DUTY, 17, 0x8000), (CH_PWMPER_PERIOD, 17, 1000)] (fun d => (d.wri CH_CMD 17 2) |> fun d => {d with chan := ⟨[(17, {periodOn := true})]⟩})), (17), by decide⟩,
  ⟨(runSt [(CH_CFG_LEAD, 17, 1), (CH_CFG_LEAD, 19, 1), (CH_STAT_STATE, 17, 3), (CH_CMD_DUTY, 17, 0x8000), (CH_PWMPER_PERIOD, 17, 1000)] (fun d => (d.wri CH_CMD 17 2) |> fun d => {d with chan := ⟨[(17, {periodOn := true, pwmNext := some (5, 70000000)}), (19, {pwmNext := some (0x4000, 2000)})]⟩})), (17), by decide⟩,
  ⟨(runSt [(CH_CFG_LEAD, 17, 1), (CH_CFG_LEAD, 19, 1), (CH_STAT_STATE, 17, 3), (CH_CMD_DUTY, 17, 0x8000), (CH_PWMPER_PERIOD, 17, 100000)] (fun d => (d.wri CH_CMD 17 2) |> fun d => {d with chan := ⟨[(17, {periodOn := true, output := true}), (19, {dwellRun := true, output := true})]⟩})), (17), by decide, by decide, by decide⟩,
  ⟨(runSt [(CH_CFG_LEAD, 17, 1), (CH_CFG_LEAD, 19, 1), (CH_STAT_STATE, 17, 3)] (fun d => {d with chan := ⟨[(17, {restart := some (5, 0x4000, 2000), pwmNext := some (1, 2)}), (19, {restart := some (6, 0x14000, 2001), periodOn := true, output := true})]⟩})), (17), (19), (6), (0x14000), (2001), by decide, by decide, by decide, by decide⟩,
  ⟨(runSt [(CH_STAT_STATE, 17, 2)] (fun d => {d with chan := ⟨[(17, {winOpen := true})]⟩})), (17), by decide, by decide, by decide⟩,
  ⟨(runSt [(CH_STAT_STATE, 17, 2), (CH_STAT_LIMITING, 17, 1)] (fun d => {d with chan := ⟨[(17, {winOpen := true})]⟩})), (17), by decide, by decide, by decide⟩,
  ⟨(runSt [(CH_STAT_STATE, 17, 3), (CH_STAT_CELLS, 17, 3), (CH_LIM_LIMIT, 17, 400)] (fun d => (d.wri CH_CMD 17 9) |> fun d => {d with chan := ⟨[(17, {output := true})]⟩})), (17), (15001), by decide, by decide, by decide⟩,
  ⟨(runSt [(CH_STAT_STATE, 17, 2), (CH_STAT_CELLS, 17, 3), (CH_INRUSH_ILIM, 17, 1000)] (fun d => {d with chan := ⟨[(17, {output := true, winOpen := true})]⟩})), (17), (90001), by decide, by decide, by decide, by decide⟩,
  ⟨(runSt [(CH_STAT_STATE, 17, 3), (CH_LIM_LIMIT, 17, 400)] (fun d => {d with chan := ⟨[(17, {output := true})]⟩})), (17), (40000), by decide⟩,
  ⟨(runSt [(CH_STAT_STATE, 17, 3), (CH_STAT_LIMITING, 17, 1), (CH_LIM_LIMIT, 17, 400)] (fun d => {d with chan := ⟨[(17, {output := true, dwellRun := true})]⟩})), (17), (39999), by decide⟩⟩

/-- The hypotheses of ChannelTripCommands can be met. -/
theorem wit_ChannelTripCommands : (∃ (s : State) (m : Nat) (run : Nat) (same : List Nat), s.dev.chState m = 3 ∧ (s.dev.ch m).dwellRun = true ∧ s.dev.rdi CH_LIM_DWELL m ≤ run) ∧
  (∃ (s : State) (m : Nat) (run : Nat), s.dev.chState m = 3 ∧ (s.dev.ch m).dwellRun = true ∧ s.dev.rdi CH_LIM_DWELL m ≤ run) ∧
  (∃ (s : State) (m : Nat) (run : Nat) (same : List Nat), run < s.dev.rdi CH_LIM_DWELL m) ∧
  (∃ (s : State) (m : Nat) (d0 : Int) (d1 : Int) (d2 : Int) (same : List Nat), s.dev.chLive m = true ∧ d0 ≤ (s.dev.rdi CH_THERM_DTMAX m * 8 : Nat) ∧ (s.dev.rdi CH_THERM_DTMAX m * 8 : Nat) < d1 ∧ (s.dev.rdi CH_THERM_DTMAX m * 8 : Nat) < d2) ∧
  (∃ (s : State) (m : Nat) (t0 : Int) (t1 : Int) (t2 : Int) (same : List Nat), s.dev.chLive m = true ∧ t0 < 1400 ∧ 1400 ≤ t1 ∧ 1400 ≤ t2) ∧
  (∃ (s : State) (m : Nat) (t0 : Int) (t1 : Int) (t2 : Int) (same : List Nat), ((s.dev.chState m = 1 ∨ s.dev.chState m = 4 ∨ s.dev.chState m = 5)) ∧ t0 < 1400 ∧ 1400 ≤ t1 ∧ 1400 ≤ t2) ∧
  (∃ (s : State) (m : Nat) (t0 : Int) (t1 : Int) (t2 : Int) (d0 : Int) (d1 : Int) (d2 : Int) (same : List Nat), ((s.dev.chState m = 0 ∨ s.dev.chState m = 6))) ∧
  (∃ (s : State) (m : Nat) (q : Nat) (cur : List (List Nat)) (same : List Nat), s.dev.chLead m ≠ m ∧ s.dev.rdi CH_WIREST_LEVEL m < 24576 ∧ s.dev.chLive m = false ∧ (((groupSamples cur [m]).map fun i => i * i).sum * 2 ^ 20) % 10 ^ 8 = 0 ∧ q = (((groupSamples cur [m]).map fun i => i * i).sum * 2 ^ 20) / 10 ^ 8 ∧ ((s.dev.ch m).pinW * 9999 + q) % 10000 = 0) ∧
  (∃ (s : State) (m : Nat) (q : Nat) (tau : Nat) (cur : List (List Nat)) (same : List Nat), s.dev.chLead m = m ∧ s.dev.chLive m = false ∧ tau = s.dev.rdi CH_WIRE_TAU m ∧ tau ≠ 0 ∧ s.dev.irated m ≠ 0 ∧ (((groupSamples cur (s.dev.chMembers m)).map fun i => i * i).sum * 2 ^ 20) % 10 ^ 8 = 0 ∧ q = (((groupSamples cur (s.dev.chMembers m)).map fun i => i * i).sum * 2 ^ 20) / 10 ^ 8 ∧ ((s.dev.ch m).w * (100 * tau - 1) + q) % (100 * tau) = 0) ∧
  (∃ (s : State) (m : Nat) (l : Nat) (ms : Nat) (tj : List Int) (dt : List Int), l = s.dev.chLead m ∧ s.dev.chState l = 4 ∧ s.dev.rdi CH_FAULT_RETRY l ≤ ms ∧ (s.dev.chMembers l).all (fun k => s.dev.recovered k (tj.getD (k % 16) 0) (dt.getD (k % 16) 0)) = true ∧ s.dev.chMode l ≠ 0 ∧ s.dev.flagi CH_STAT_NEEDOFF l = false) ∧
  (∃ (s : State) (m : Nat) (l : Nat) (ms : Nat) (tj : List Int) (dt : List Int), l = s.dev.chLead m ∧ s.dev.chState l = 4 ∧ s.dev.rdi CH_FAULT_RETRY l ≤ ms ∧ (s.dev.chMembers l).all (fun k => s.dev.recovered k (tj.getD (k % 16) 0) (dt.getD (k % 16) 0)) = true ∧ s.dev.chMode l = 0) ∧
  (∃ (s : State) (m : Nat) (ms : Nat) (tj : List Int) (dt : List Int), ms < s.dev.rdi CH_FAULT_RETRY (s.dev.chLead m)) :=
  ⟨⟨(runSt [(CH_STAT_STATE, 17, 3), (CH_LIM_DWELL, 17, 5)] (fun d => {d with chan := ⟨[(17, {dwellRun := true})]⟩})), (17), (5), ([2]), by decide, by decide, by decide⟩,
  ⟨(runSt [(CH_STAT_STATE, 17, 3), (CH_LIM_DWELL, 17, 5), (CH_FAULT_THRESH, 16, 1)] (fun d => {d with chan := ⟨[(17, {dwellRun := true})]⟩})), (17), (5), by decide, by decide, by decide⟩,
  ⟨(runSt [(CH_STAT_STATE, 17, 3), (CH_LIM_DWELL, 17, 5)] (fun d => {d with chan := ⟨[(17, {dwellRun := true})]⟩})), (17), (4), default, by decide⟩,
  ⟨(runSt [(CH_STAT_STATE, 17, 2), (CH_THERM_DTMAX, 17, 60)] id), (17), (480), (481), (481), default, by decide, by decide, by decide, by decide⟩,
  ⟨(runSt [(CH_STAT_STATE, 17, 3)] id), (17), (1399), (1400), (1400), default, by decide, by decide, by decide, by decide⟩,
  ⟨(runSt [(CH_STAT_STATE, 17, 5)] id), (17), (1399), (1400), (1400), default, by decide, by decide, by decide, by decide⟩,
  ⟨(runSt [(CH_STAT_STATE, 17, 6)] id), (17), default, default, default, default, default, default, default, by decide⟩,
  ⟨(runSt [(CH_CFG_LEAD, 17, 0)] (fun d => {d with chan := ⟨[(17, {pinW := 8576})]⟩})), (17), _, ([[], List.replicate 100 1000]), default, by decide, by decide, by decide, by decide +kernel, rfl, by decide +kernel⟩,
  ⟨(runSt [(CH_CFG_LEAD, 17, 1), (CH_WIRE_TAU, 17, 1), (CH_WIRE_IRATED, 17, 100)] (fun d => {d with chan := ⟨[(17, {w := 2 ^ 20})]⟩})), (17), _, _, ([[], List.replicate 100 1000]), default, by decide, by decide, rfl, by decide, by decide, by decide +kernel, rfl, by decide +kernel⟩,
  ⟨(runSt [(CH_CFG_LEAD, 17, 1), (CH_STAT_STATE, 17, 4), (CH_STAT_CAUSE, 17, 3), (CH_CMD, 17, 1)] (fun d => {d with chan := ⟨[(17, {retryRun := true})]⟩})), (17), _, (1000), ([0, 1200]), default, rfl, by decide, by decide, by decide, by decide, by decide⟩,
  ⟨(runSt [(CH_CFG_LEAD, 17, 1), (CH_STAT_STATE, 17, 4)] (fun d => {d with chan := ⟨[(17, {retryRun := true})]⟩})), (17), _, (1000), default, default, rfl, by decide, by decide, by decide, by decide⟩,
  ⟨(runSt [(CH_CFG_LEAD, 17, 1), (CH_STAT_STATE, 17, 4), (CH_FAULT_RETRY, 17, 5)] (fun d => {d with chan := ⟨[(17, {retryRun := true})]⟩})), (17), (4), default, default, by decide⟩⟩

/-- The hypotheses of ChannelOwnerCommands can be met. -/
theorem wit_ChannelOwnerCommands : (∃ (s : State) (init : Nat) (m : Nat) (value : Nat) (l : Nat), s.dev.portOpen init = true ∧ s.dev.domainOn 2 = true ∧ s.dev.bankFitted (bankOf m) = true ∧ s.dev.tag init = s.dev.rdi CH_OWNER m ∧ s.dev.tag init ≠ 0xFFFF ∧ s.dev.ctxBarred (s.dev.tag init) = false ∧ l = s.dev.chLead m ∧ value % 2 = 1 ∧ s.dev.chState l = 5) ∧
  (∃ (s : State) (init : Nat) (m : Nat) (value : Nat), s.dev.portOpen init = true ∧ s.dev.domainOn 2 = true ∧ s.dev.bankFitted (bankOf m) = true ∧ ((s.dev.tag init ≠ s.dev.rdi CH_OWNER m ∨ s.dev.tag init = 0xFFFF ∨ s.dev.ctxBarred (s.dev.tag init) = true))) ∧
  (∃ (s : State) (init : Nat) (m : Nat) (value : Nat) (cmd : Nat), s.dev.portOpen init = true ∧ s.dev.domainOn 2 = true ∧ s.dev.bankFitted (bankOf m) = false) ∧
  (∃ (s : State) (m : Nat) (mv : Nat), (s.dev.ch m).pullUp = true ∧ s.dev.olThreshold m < mv) ∧
  (∃ (s : State) (m : Nat) (mv : Nat), (s.dev.ch m).pullUp = true ∧ mv ≤ s.dev.olThreshold m) ∧
  (∃ (s : State) (m : Nat) (mv : Nat), (s.dev.ch m).compare = true ∧ mv < s.dev.olThreshold m) ∧
  (∃ (s : State) (m : Nat) (mv : Nat), (s.dev.ch m).compare = true ∧ s.dev.olThreshold m ≤ mv) ∧
  (∃ (s : State) (init : Nat) (m : Nat) (cmd : Nat), s.dev.portOpen init = true ∧ s.dev.domainOn 2 = true ∧ s.dev.bankFitted (bankOf m) = true ∧ s.dev.manAllowed (s.dev.tag init) m = true) ∧
  (∃ (s : State) (init : Nat) (m : Nat) (cmd : Nat), s.dev.portOpen init = true ∧ s.dev.domainOn 2 = true ∧ s.dev.bankFitted (bankOf m) = true ∧ s.dev.manAllowed (s.dev.tag init) m = false) :=
  ⟨⟨(runSt [(CH_CFG_LEAD, 17, 1), (CH_STAT_STATE, 17, 5), (CH_OWNER, 17, 1)] id), (0), (17), (1), _, by decide, by decide, by decide, by decide, by decide, by decide, rfl, by decide, by decide⟩,
  ⟨(runSt [(CH_OWNER, 17, 2)] id), (0), (17), (1), by decide, by decide, by decide, by decide⟩,
  ⟨(runSt [(SYSCTL_PARTID_BANKS, 0, 1), (CH_OWNER, 17, 2)] id), (0), (17), (1), (1), by decide, by decide, by decide⟩,
  ⟨(runSt [] (fun d => {d with chan := ⟨[(17, {pullUp := true})]⟩})), (17), (3001), by decide, by decide⟩,
  ⟨(runSt [(CH_STAT_OPEN, 17, 1), (CH_CFG_OLMODE, 17, 1)] (fun d => {d with chan := ⟨[(17, {pullUp := true})]⟩})), (17), (3000), by decide, by decide⟩,
  ⟨(runSt [] (fun d => {d with chan := ⟨[(17, {compare := true})]⟩})), (17), (2999), by decide, by decide⟩,
  ⟨(runSt [(BANK_CFG_VCLASS, 1, 1)] (fun d => {d with chan := ⟨[(17, {compare := true})]⟩})), (17), (12000), by decide, by decide⟩,
  ⟨(runSt [(KEY_LC_STATE, 0, lcSERVICE), (CH_OWNER, 17, 1)] id), (0), (17), (1), by decide, by decide, by decide, by decide⟩,
  ⟨(runSt [(CH_OWNER, 17, 1)] id), (0), (17), (1), by decide, by decide, by decide, by decide⟩⟩


/-- The hypotheses of CanBufferCommands can be met. -/
theorem wit_CanBufferCommands : (∃ (s : State) (c : Nat) (f : CanFrame), ((s.dev.rdi CAN_STAT_STATE c = 2 ∨ s.dev.rdi CAN_STAT_STATE c = 3)) ∧ (s.dev.canCtl c).ignore = false ∧ (s.dev.canCtl c).leaving = false ∧ f.res = false ∧ f.form = 0 ∧ f.err = none) ∧
  (∃ (s : State) (c : Nat) (n : Nat) (f : CanFrame), ((s.dev.rdi CAN_STAT_STATE c = 2 ∨ s.dev.rdi CAN_STAT_STATE c = 3)) ∧ (s.dev.canCtl c).ignore = false ∧ (s.dev.canCtl c).leaving = false ∧ f.res = false ∧ f.form = 0 ∧ f.err = some n ∧ s.dev.flagi CAN_MODE_LOM c = false ∧ s.dev.rdi CAN_ERRCNT_REC c + 1 + 8 * n ≤ 127 ∧ s.dev.rdi CAN_ERRCNT_TEC c ≤ 127 ∧ s.dev.rdi CAN_STAT_STATE c = 2) ∧
  (∃ (s : State) (c : Nat) (f : CanFrame), ((s.dev.rdi CAN_STAT_STATE c = 2 ∨ s.dev.rdi CAN_STAT_STATE c = 3)) ∧ (s.dev.canCtl c).ignore = false ∧ (s.dev.canCtl c).leaving = false ∧ f.form = 1 ∧ s.dev.flagi CAN_MODE_FDOE c = false) ∧
  (∃ (s : State) (init : Nat) (c : Nat) (mask : Nat), s.dev.portOpen init = true ∧ s.dev.domainOn 13 = true ∧ s.dev.ctxBarred (s.dev.tag init) = false ∧ ((∀ b, b ∈ bufsOf mask → s.dev.canSoftware (s.dev.tag init) c b = true)) ∧ s.dev.flagi CAN_MODE_LOM c = false) ∧
  (∃ (s : State) (init : Nat) (c : Nat) (mask : Nat) (b : Nat), s.dev.portOpen init = true ∧ s.dev.domainOn 13 = true ∧ s.dev.ctxBarred (s.dev.tag init) = false ∧ b ∈ bufsOf mask ∧ s.dev.canSoftware (s.dev.tag init) c b = false ∧ s.dev.flagi CAN_MODE_LOM c = false) ∧
  (∃ (s : State) (init : Nat) (c : Nat) (mask : Nat), s.dev.portOpen init = true ∧ s.dev.domainOn 13 = true ∧ s.dev.ctxBarred (s.dev.tag init) = false ∧ ((∀ b, b ∈ bufsOf mask → s.dev.canSoftware (s.dev.tag init) c b = true))) ∧
  (∃ (s : State) (init : Nat) (c : Nat) (mask : Nat) (b : Nat), s.dev.portOpen init = true ∧ s.dev.domainOn 13 = true ∧ s.dev.ctxBarred (s.dev.tag init) = false ∧ b ∈ bufsOf mask ∧ s.dev.canSoftware (s.dev.tag init) c b = false) ∧
  (∃ (s : State) (init : Nat) (c : Nat) (k : Nat) (off : Nat) (data : List Byte), s.dev.portOpen init = true ∧ s.dev.domainOn 13 = true ∧ s.dev.ctxBarred (s.dev.tag init) = false ∧ s.dev.canSoftware (s.dev.tag init) c k = true ∧ (s.dev.canBuf c k).st = .idle) ∧
  (∃ (s : State) (init : Nat) (c : Nat) (k : Nat) (off : Nat) (data : List Byte), s.dev.portOpen init = true ∧ s.dev.domainOn 13 = true ∧ ((s.dev.canSoftware (s.dev.tag init) c k = false ∨ (s.dev.canBuf c k).st ≠ .idle))) :=
  ⟨⟨(canSt [(CAN_ERRCNT_REC, 3, 9)] {}), (3), ({ ident := 0x123, data := [1, 2] }), by decide, by decide, by decide, by decide, by decide, by decide⟩,
  ⟨(canSt [(CAN_ERRCNT_REC, 3, 9)] {}), (3), (2), ({ ident := 0x123, err := some 2 }), by decide, by decide, by decide, by decide, by decide, by decide, by decide, by decide, by decide, by decide⟩,
  ⟨(canSt [(CAN_MODE_FDOE, 3, 0)] {}), (3), ({ form := 1 }), by decide, by decide, by decide, by decide, by decide⟩,
  ⟨(canOwnSt {}), (0), (3), (4), by decide, by decide, by decide, by decide, by decide⟩,
  ⟨(canOwnSt {}), (0), (3), (12), (3), by decide, by decide, by decide, by decide, by decide, by decide⟩,
  ⟨(canOwnSt { bufs := ⟨[(2, { st := .pending })]⟩ }), (0), (3), (4), by decide, by decide, by decide, by decide⟩,
  ⟨(canOwnSt { bufs := ⟨[(2, { st := .pending })]⟩ }), (0), (3), (12), (3), by decide, by decide, by decide, by decide, by decide⟩,
  ⟨(canOwnSt {}), (0), (3), (2), (4), ([7, 8, 9, 10]), by decide, by decide, by decide, by decide, by decide⟩,
  ⟨(canOwnSt { bufs := ⟨[(2, { st := .pending })]⟩ }), (0), (3), (2), (4), ([7, 8, 9, 10]), by decide, by decide, by decide⟩⟩

/-- The hypotheses of CanFrameCommands can be met. -/
theorem wit_CanFrameCommands : (∃ (s : State) (c : Nat) (b : Nat) (delay : Nat), s.dev.canRefuses c = false ∧ s.dev.canFirst c = some b ∧ (s.dev.canCtl c).ignore = false ∧ ((s.dev.canCtl c).bufs.items.any fun e => e.2.st == .onBus) = false ∧ s.dev.rdi CAN_TDC_TDCE c = 0) ∧
  (∃ (s : State) (c : Nat) (b : Nat) (delay : Nat), s.dev.canRefuses c = false ∧ s.dev.canFirst c = some b ∧ (s.dev.canCtl c).ignore = false ∧ ((s.dev.canCtl c).bufs.items.any fun e => e.2.st == .onBus) = false ∧ s.dev.rdi CAN_TDC_TDCE c = 1 ∧ s.dev.rdi CAN_TXCFG_FORM (c * 32 + b) = 4 ∧ delay < 256 ∧ max delay (s.dev.rdi CAN_TDC_TDCF c) + s.dev.rdi CAN_TDC_TDCO c ≤ 3 * s.dev.canDataBit c) ∧
  (∃ (s : State) (c : Nat) (b : Nat), (s.dev.canBuf c b).st = .onBus) ∧
  (∃ (s : State) (c : Nat) (b : Nat), (s.dev.canBuf c b).st = .onBus ∧ (s.dev.canCtl c).leaving = false) ∧
  (∃ (s : State) (c : Nat) (b : Nat) (ref : Bool), (s.dev.canBuf c b).st = .onBus) ∧
  (∃ (s : State) (c : Nat) (b : Nat) (ref : Bool), (s.dev.canBuf c b).st = .onBus ∧ (s.dev.canCtl c).leaving = false ∧ s.dev.rdi CAN_ERRCNT_TEC c ≤ 247) ∧
  (∃ (s : State) (c : Nat) (b : Nat), (s.dev.canBuf c b).st = .onBus ∧ c < 26 ∧ (s.dev.canCtl c).leaving = false) ∧
  (∃ (s : State) (c : Nat) (b : Nat), (s.dev.canBuf c b).st = .onBus ∧ s.dev.rdi CAN_STAT_STATE c = 3 ∧ s.dev.rdi CAN_NOPART_THRESH c = 0) ∧
  (∃ (s : State) (c : Nat) (b : Nat) (dom : Bool), (s.dev.canBuf c b).st = .onBus ∧ b < 32 ∧ c < 26 ∧ s.dev.rdi CAN_STAT_STATE c = 2 ∧ s.dev.rdi CAN_ERRCNT_TEC c ≤ 247 ∧ (s.dev.canCtl c).leaving = false ∧ s.dev.rdi CAN_NOPART_THRESH c ≠ 0 ∧ s.dev.rdi CAN_STAT_NOPART c = 0 ∧ s.dev.fwFires (.noPartner c) (s.dev.rdi CAN_NOPART_THRESH c) = true ∧ (s.dev.canCtl c).ackAt ≠ some s.dev.now) ∧
  (∃ (s : State) (c : Nat) (b : Nat) (dom : Bool), (s.dev.canBuf c b).st = .onBus ∧ c < 26 ∧ s.dev.rdi CAN_STAT_STATE c = 2 ∧ s.dev.rdi CAN_ERRCNT_TEC c ≤ 247 ∧ (s.dev.canCtl c).leaving = false ∧ (s.dev.canCtl c).ackAt = some s.dev.now) ∧
  (∃ (s : State) (c : Nat), s.dev.rdi CAN_STAT_STATE c = 4) ∧
  (∃ (s : State) (c : Nat), s.dev.rdi CAN_STAT_STATE c ≠ 4) ∧
  (∃ (s : State) (c : Nat), s.dev.rdi CAN_STAT_STATE c = 5 ∧ c < 26) :=
  ⟨⟨(canSt [(CAN_TXLEN_LEN, 98, 4)] { bufs := ⟨[(2, { st := .pending })]⟩ }), (3), (2), (0), by decide, by decide, by decide, by decide, by decide⟩,
  ⟨(canSt [(CAN_TXLEN_LEN, 98, 4), (CAN_TDC_TDCE, 3, 1), (CAN_TXCFG_FORM, 98, 4), (CAN_DBT_TSEG1, 3, 20), (CAN_TDC_TDCO, 3, 9)] { bufs := ⟨[(2, { st := .pending })]⟩ }), (3), (2), (30), by decide, by decide, by decide, by decide, by decide, by decide, by decide, by decide⟩,
  ⟨(canSt [] { bufs := ⟨[(2, { st := .onBus })]⟩ }), (3), (2), by decide⟩,
  ⟨(canSt [] { bufs := ⟨[(2, { st := .onBus }), (5, { st := .pending })]⟩ }), (3), (2), by decide, by decide⟩,
  ⟨(canSt [] { bufs := ⟨[(2, { st := .onBus })]⟩ }), (3), (2), (true), by decide⟩,
  ⟨(canSt [(CAN_ERRCNT_TEC, 3, 120)] { bufs := ⟨[(2, { st := .onBus })]⟩ }), (3), (2), (true), by decide, by decide, by decide⟩,
  ⟨(canSt [(CAN_ERRCNT_TEC, 3, 17)] { bufs := ⟨[(2, { st := .onBus, resend := true })]⟩ }), (3), (2), by decide, by decide, by decide⟩,
  ⟨(runSt [(CAN_STAT_STATE, 3, 3), (CAN_NOPART_THRESH, 3, 0)] (fun d => { d with can := { d.can with ctl := ⟨[(3, { bufs := ⟨[(2, { st := .onBus })]⟩ })]⟩ } })), (3), (2), by decide, by decide, by decide⟩,
  ⟨(canSt [(CAN_NOPART_THRESH, 3, 1), (CAN_NOPART_STOP, 3, 1)] { bufs := ⟨[(2, { st := .onBus })]⟩ }), (3), (2), default, by decide, by decide, by decide, by decide, by decide, by decide, by decide, by decide, by decide, by decide⟩,
  ⟨(canSt [(CAN_NOPART_THRESH, 3, 1), (CAN_NOPART_STOP, 3, 1)] { bufs := ⟨[(2, { st := .onBus })]⟩, ackAt := some 0 }), (3), (2), default, by decide, by decide, by decide, by decide, by decide, by decide⟩,
  ⟨(runSt [(CAN_STAT_STATE, 3, 4)] id), (3), by decide⟩,
  ⟨(runSt [(CAN_STAT_STATE, 3, 2)] id), (3), by decide⟩,
  ⟨(runSt [(CAN_STAT_STATE, 3, 5), (CAN_ERRCNT_TEC, 3, 5)] id), (3), by decide, by decide⟩⟩

/-- The hypotheses of TimeTriggeredCommands can be met. -/
theorem wit_TimeTriggeredCommands : (∃ (s : State) (t : Nat) (slot : Nat) (start : Nat) (til : Nat) (d : Dev), s.dev.rdi TT_STAT_STATE t = 2 ∧ (s.dev.ttCtl t).leaving = false ∧ d = s.dev.ttAt t slot) ∧
  (∃ (s : State) (t : Nat) (slot : Nat) (start : Nat) (til : Nat) (d : Dev), s.dev.rdi TT_STAT_STATE t = 3 ∧ (s.dev.ttCtl t).leaving = false ∧ d = s.dev.ttAt t slot ∧ ((∀ k, k < 256 → d.rdi TT_BUFCFG_KIND (t * 256 + k) = 1 → d.rdi TT_BUFSLOT_SLOT (t * 256 + k) = slot → d.rdi TT_BUFCFG_STARTUP (t * 256 + k) = 0))) ∧
  (∃ (s : State) (t : Nat) (slot : Nat) (start : Nat) (til : Nat), s.dev.rdi TT_STAT_STATE t = 4 ∧ (s.dev.ttCtl t).leaving = false) ∧
  (∃ (s : State) (t : Nat) (slot : Nat) (start : Nat) (til : Nat), ((s.dev.rdi TT_STAT_STATE t = 2 ∨ s.dev.rdi TT_STAT_STATE t = 3 ∨ s.dev.rdi TT_STAT_STATE t = 4)) ∧ (s.dev.ttCtl t).leaving = true) ∧
  (∃ (s : State) (t : Nat) (f : TtFrame), ((s.dev.rdi TT_STAT_STATE t = 2 ∨ s.dev.rdi TT_STAT_STATE t = 3 ∨ s.dev.rdi TT_STAT_STATE t = 4)) ∧ (s.dev.ttCtl t).leaving = false ∧ f.a = none ∧ f.b = none) ∧
  (∃ (s : State) (t : Nat) (f : TtFrame), ((s.dev.rdi TT_STAT_STATE t = 2 ∨ s.dev.rdi TT_STAT_STATE t = 3 ∨ s.dev.rdi TT_STAT_STATE t = 4)) ∧ (s.dev.ttCtl t).leaving = false ∧ ((f.a.isSome = true ∨ f.b.isSome = true))) ∧
  (∃ (s : State) (t : Nat) (k : Nat) (mini : Nat), s.dev.rdi TT_STAT_STATE t = 3 ∧ (s.dev.ttCtl t).leaving = false ∧ s.dev.rdi TT_BUFCFG_KIND (t * 256 + k) = 3 ∧ (s.dev.ttCtl t).pending.contains k = true ∧ s.dev.ttAdmitted t k (s.dev.rdi TT_STAT_CYCLE t) = true ∧ s.dev.ttLatest t < mini) ∧
  (∃ (s : State) (t : Nat) (k : Nat) (mini : Nat), s.dev.rdi TT_STAT_STATE t = 3 ∧ (s.dev.ttCtl t).leaving = false ∧ s.dev.rdi TT_BUFCFG_KIND (t * 256 + k) = 3 ∧ (s.dev.ttCtl t).pending.contains k = true ∧ s.dev.ttAdmitted t k (s.dev.rdi TT_STAT_CYCLE t) = true ∧ mini ≤ s.dev.ttLatest t ∧ s.dev.ttPassive t = 0 ∧ ((s.dev.rdi TT_BUFSLOT_CHMASK (t * 256 + k) = 1 ∨ s.dev.rdi TT_BUFSLOT_CHMASK (t * 256 + k) = 2))) ∧
  (∃ (s : State) (t : Nat), s.dev.rdi TT_STAT_STATE t = 1 ∧ s.dev.unitAsleep 2 t = false) ∧
  (∃ (s : State) (t : Nat), s.dev.rdi TT_STAT_STATE t = 1 ∧ s.dev.sleepClusters 2 t = []) ∧
  (∃ (s : State) (t : Nat), s.dev.unitAsleep 2 t = true) ∧
  (∃ (s : State) (t : Nat) (silent : Nat), s.dev.rdi TT_STAT_STATE t = 2 ∧ (s.dev.ttCtl t).phase = .listening ∧ 0 < s.dev.rdi TT_STAT_ATTLEFT t ∧ 2 * (s.dev.rdi TT_CYCLE_MACROS t * s.dev.rdi TT_CYCLE_UPM t + (s.dev.rdi TT_CYCLE_MACROS t * s.dev.rdi TT_CYCLE_UPM t * 3 + 999) / 1000) ≤ silent) ∧
  (∃ (s : State) (t : Nat), s.dev.rdi TT_STAT_STATE t = 2 ∧ (s.dev.ttCtl t).joined = true ∧ (s.dev.ttCtl t).leaving = false ∧ s.dev.ttPassive t = 0 ∧ t < 2) ∧
  (∃ (s : State) (t : Nat), (((s.dev.ttCtl t).phase = .symbol ∨ (s.dev.ttCtl t).phase = .resolving))) ∧
  (∃ (s : State) (t : Nat), s.dev.rdi TT_STAT_STATE t = 2 ∧ (((s.dev.ttCtl t).phase = .listening ∨ (s.dev.ttCtl t).phase = .symbol ∨ (s.dev.ttCtl t).phase = .resolving))) ∧
  (∃ (s : State) (t : Nat), (((s.dev.ttCtl t).phase = .integrating ∨ (s.dev.ttCtl t).phase = .checking))) ∧
  (∃ (s : State) (t : Nat), s.dev.rdi TT_STAT_STATE t = 2 ∧ s.dev.flagi TT_COLD_CSEN t = true ∧ s.dev.rdi TT_STAT_ATTLEFT t = 0 ∧ (s.dev.ttCtl t).phase = .listening) :=
  ⟨⟨(ttSt 2 [(TT_BUFCFG_STARTUP, 261, 1), (TT_BUFCFG_KIND, 261, 1), (TT_BUFSLOT_SLOT, 261, 7), (TT_BUFSLOT_CHMASK, 261, 3)] {}), (1), (7), default, default, _, by decide, by decide, rfl⟩,
  ⟨(ttSt 3 [(TT_BUFCFG_KIND, 261, 1), (TT_BUFSLOT_SLOT, 261, 7), (TT_BUFSLOT_CHMASK, 261, 3)] { windowsClosed := false }), (1), (7), default, default, _, by decide, by decide, rfl, by decide +kernel⟩,
  ⟨(ttSt 4 [(TT_SLOTCFG_NSTATIC, 1, 20)] {}), (1), (7), default, default, by decide, by decide⟩,
  ⟨(ttSt 3 [(TT_SLOTCFG_NSTATIC, 1, 20)] { leaving := true, rejoin := true, pending := [3] }), (1), (7), default, default, by decide, by decide⟩,
  ⟨(ttSt 3 [] {}), (1), ({ slot := 4 }), by decide, by decide, by decide, by decide⟩,
  ⟨(ttSt 3 [(TT_BUFCFG_KIND, 261, 2), (TT_BUFSLOT_SLOT, 261, 1), (TT_BUFSLOT_CHMASK, 261, 3)] {}), (1), ({ a := some { data := [1, 2] }, b := some { data := [3, 4] } }), by decide, by decide, by decide⟩,
  ⟨(ttSt 3 [(TT_BUFCFG_KIND, 261, 3)] { pending := [5] }), (1), (5), (1), by decide, by decide, by decide, by decide, by decide, by decide⟩,
  ⟨(ttSt 3 [(TT_BUFCFG_KIND, 261, 3), (TT_BUFSLOT_SLOT, 261, 40), (TT_BUFSLOT_CHMASK, 261, 1), (TT_BUFCFG_PLEN, 261, 2), (TT_COLD_NMINI, 1, 60), (TT_COLD_MINILEN, 1, 40), (TT_CYCLE_UPM, 1, 40)] { pending := [5, 9] }), (1), (5), (3), by decide, by decide, by decide, by decide, by decide, by decide, by decide, by decide⟩,
  ⟨(ttSt 1 [(TT_COLD_ATTEMPTS, 1, 5), (TT_STAT_PASSA, 1, 1)] { missing := 2 }), (1), by decide, by decide⟩,
  ⟨(ttSt 1 [(TT_COLD_ATTEMPTS, 1, 5), (TT_COLD_CSEN, 1, 1), (TT_STAT_PASSA, 1, 1)] { missing := 2 }), (1), by decide, by decide⟩,
  ⟨(ttSleepSt), (1), by decide⟩,
  ⟨(ttSt 2 [(TT_COLD_CSEN, 1, 1), (TT_STAT_ATTLEFT, 1, 4)] { phase := .listening }), (1), (10), by decide, by decide, by decide, by decide⟩,
  ⟨(ttSt 2 [] { phase := .checking, heardEven := true, heardOdd := true }), (1), by decide, by decide, by decide, by decide, by decide⟩,
  ⟨(ttSt 2 [] { phase := .resolving }), (1), by decide⟩,
  ⟨(ttSt 2 [(TT_COLD_CSEN, 1, 1)] { phase := .symbol }), (1), by decide, by decide⟩,
  ⟨(ttSt 2 [(TT_COLD_CSEN, 1, 1)] { phase := .checking }), (1), by decide⟩,
  ⟨(ttSt 2 [(TT_COLD_CSEN, 1, 1)] { phase := .listening }), (1), by decide, by decide, by decide, by decide⟩⟩

/-- The hypotheses of TimeTriggeredGuardians can be met. -/
theorem wit_TimeTriggeredGuardians : (∃ (s : State) (t : Nat), ((s.dev.rdi TT_STAT_STATE t = 3 ∨ s.dev.rdi TT_STAT_STATE t = 4)) ∧ 3 ≤ (s.dev.ttCtl t).missing ∧ t < 2) ∧
  (∃ (s : State) (t : Nat), s.dev.rdi TT_STAT_STATE t = 3 ∧ (s.dev.ttCtl t).missing = 1 ∧ t < 2) ∧
  (∃ (s : State) (t : Nat), ((s.dev.rdi TT_STAT_STATE t = 3 ∨ s.dev.rdi TT_STAT_STATE t = 4)) ∧ (s.dev.ttCtl t).missing = 0) ∧
  (∃ (s : State) (t : Nat) (rates : List Int) (offsets : List Int), s.dev.rdi TT_STAT_STATE t = 3 ∧ rates ≠ [] ∧ offsets ≠ []) ∧
  (∃ (s : State) (t : Nat) (rates : List Int) (offsets : List Int), s.dev.rdi TT_STAT_STATE t = 4 ∧ rates ≠ [] ∧ offsets ≠ [] ∧ t < 2 ∧ 1 ≤ (s.dev.ttCtl t).regained ∧ s.dev.ttConnected t &&& (3 - s.dev.ttPassive t) ≠ 0) ∧
  (∃ (s : State) (t : Nat), s.dev.rdi TT_STAT_STATE t = 5 ∧ s.dev.flt.busHeld = false) ∧
  (∃ (s : State) (t : Nat), s.dev.rdi TT_STAT_STATE t ≠ 5) ∧
  (∃ (s : State) (t : Nat) (cycle : Nat) (len : Nat), s.dev.rdi TT_STAT_STATE t = 3 ∧ (s.dev.ttCtl t).leaving = false ∧ (s.dev.ttCtl t).phase = .integrating ∧ (s.dev.ttCtl t).activeCycle = false ∧ (s.dev.ttCtl t).marked = false) ∧
  (∃ (s : State) (t : Nat) (cycle : Nat) (len : Nat), ((s.dev.rdi TT_STAT_STATE t = 2 ∨ s.dev.rdi TT_STAT_STATE t = 3 ∨ s.dev.rdi TT_STAT_STATE t = 4)) ∧ (s.dev.ttCtl t).leaving = false ∧ (s.dev.ttCtl t).marked = true ∧ s.dev.ttMarkOk t len = true) ∧
  (∃ (s : State) (t : Nat), (s.dev.ttCtl t).marked = true) ∧
  (∃ (s : State) (t : Nat), (s.dev.ttCtl t).marked = true ∧ t < 2) ∧
  (∃ (s : State) (t : Nat) (ch : Nat) (start : Nat) (til : Nat), s.dev.ttCut t ch start til = false) ∧
  (∃ (s : State) (t : Nat) (start : Nat) (til : Nat), s.dev.ttCut t 0 start til = true ∧ s.dev.fwFires (.truncation t 0) (s.dev.rdi TT_GUARD_THRESH t) = false) ∧
  (∃ (s : State) (t : Nat) (start : Nat) (til : Nat), s.dev.ttCut t 1 start til = true ∧ s.dev.fwFires (.truncation t 1) (s.dev.rdi TT_GUARD_THRESH t) = true ∧ s.dev.rdi TT_STAT_STATE t ≠ 3) :=
  ⟨⟨(ttSt 4 [(TT_STAT_SLOT, 1, 3)] { missing := 3, slot := 3 }), (1), by decide, by decide, by decide⟩,
  ⟨(ttSt 3 [] { missing := 1, slot := 3 }), (1), by decide, by decide, by decide⟩,
  ⟨(ttSt 3 [] { regained := 1 }), (1), by decide, by decide⟩,
  ⟨(ttSt 3 [(TT_CYCLE_MACROS, 1, 1000), (TT_CYCLE_UPM, 1, 40)] { missing := 1 }), (1), ([5, -6, 9]), ([-50, 3]), by decide, by decide, by decide⟩,
  ⟨(ttSt 4 [(TT_CYCLE_MACROS, 1, 1000), (TT_CYCLE_UPM, 1, 40)] { regained := 1 } |> fun s => ⟨s.dev.withDeck [(2, 0, .lands [⟨2, 2, 0, 0⟩])], []⟩), (1), ([5, -6, 9]), ([-50, 3]), by decide, by decide, by decide, by decide, by decide, by decide⟩,
  ⟨(ttSt 5 [(TT_STAT_SLOT, 1, 9)] { missing := 4, pending := [4], rejoin := true }), (1), by decide, by decide⟩,
  ⟨(ttSt 3 [] {}), (1), by decide⟩,
  ⟨(ttSt 3 [(TT_CYCLE_CCMAX, 1, 63), (TT_STAT_CYCLE, 1, 63)] {}), (1), (63), (5000000), by decide, by decide, by decide, by decide, by decide⟩,
  ⟨(ttSt 3 [(TT_CYCLE_MACROS, 1, 1000), (TT_CYCLE_UPM, 1, 40)] { marked := true, lastLen := 1000000 }), (1), (63), (1002000), by decide, by decide, by decide, by decide⟩,
  ⟨(ttSt 3 [] { marked := true, windowsClosed := true }), (1), by decide⟩,
  ⟨(ttSt 3 [] { marked := true, windowsClosed := false }), (1), by decide, by decide⟩,
  ⟨(ttSt 3 [(TT_CYCLE_MACROS, 1, 1000), (TT_CYCLE_UPM, 1, 40), (TT_SLOTCFG_SLOTLEN, 1, 20), (TT_BUFCFG_KIND, 261, 1), (TT_BUFSLOT_SLOT, 261, 2), (TT_BUFSLOT_CHMASK, 261, 1)] { windowsClosed := false }), (1), (0), (20000), (40000), by decide⟩,
  ⟨(ttSt 3 [(TT_GUARD_THRESH, 1, 3)] {}), (1), default, default, by decide, by decide⟩,
  ⟨(ttSt 4 [(TT_GUARD_THRESH, 1, 1)] {}), (1), default, default, by decide, by decide, by decide⟩⟩


/-- The hypotheses of SwitchFrameCommands can be met. -/
theorem wit_SwitchFrameCommands : (∃ (s : State) (p : Nat) (t : Nat) (f : EthFrame) (x : SecIn), s.dev.linkUp p = true ∧ s.dev.swx.portReset.contains p = false ∧ ((2000 < f.len ∨ f.fcsOk = false ∧ s.dev.deck.running = none))) ∧
  (∃ (s : State) (p : Nat) (t : Nat) (f : EthFrame) (x : SecIn) (d : Dev), s.dev.linkUp p = true ∧ s.dev.swx.portReset.contains p = false ∧ f.len ≤ 2000 ∧ f.fcsOk = true ∧ (s.dev.inci SWXP_RXFRAMES_COUNT p).secOn p = false ∧ d = (s.dev.inci SWXP_RXFRAMES_COUNT p).evidenceOf (fun r => r.kind == 3 && r.unit == p && r.key == f.smac % 2 ^ 32) ∧ f.dmac / 16 = 0x0180C200000) ∧
  (∃ (s : State) (p : Nat) (t : Nat) (f : EthFrame) (g : EthFrame) (x : SecIn) (d : Dev), s.dev.linkUp p = true ∧ s.dev.swx.portReset.contains p = false ∧ f.len ≤ 2000 ∧ f.fcsOk = true ∧ (s.dev.inci SWXP_RXFRAMES_COUNT p).secOn p = false ∧ d = (s.dev.inci SWXP_RXFRAMES_COUNT p).evidenceOf (fun r => r.kind == 3 && r.unit == p && r.key == f.smac % 2 ^ 32) ∧ f.dmac / 16 ≠ 0x0180C200000 ∧ d.deck.running.isNone = false ∧ d.swxTag p f = some g) ∧
  (∃ (s : State) (p : Nat) (t : Nat) (q : Nat) (f : QFrame) (rest : List QFrame) (d : Dev), p ≤ 21 ∧ s.dev.rdi SWXP_STAT_LSTATE p = 2 ∧ s.dev.swx.portReset.contains p = false ∧ s.dev.sendingAt p t = false ∧ d = s.dev.each (List.range 8) (fun d q => d.swxAge (p * 8 + q) t) ∧ d.swxPick p t = some q ∧ d.queue (p * 8 + q) = f :: rest) ∧
  (∃ (s : State) (p : Nat) (t : Nat), p ≤ 21 ∧ s.dev.rdi SWXP_STAT_LSTATE p ≠ 2 ∧ s.dev.swx.portReset.contains p = false ∧ s.dev.sendingAt p t = false) ∧
  (∃ (s : State) (p : Nat) (t : Nat), s.dev.sendingAt p t = true) ∧
  (∃ (s : State) (p : Nat) (t : Nat) (a : Nat), ((p = 22 ∨ p = 23)) ∧ a = s.dev.rdi SWXP_CFG2_TXSLOT p * 2 ^ 23 + s.dev.rdi SWXP_CFG2_GOFF p + s.dev.swx.ringIdx.get ((p - 22) * 2 + 1) 0 * 16 ∧ leVal (s.dev.peek (a + 6) 2) % 2 = 1 ∧ ¬ 0x20000000 ≤ leVal (s.dev.peek a 4)) ∧
  (∃ (s : State) (p : Nat) (t : Nat) (a : Nat) (r : Map Nat) (d : Dev), ((p = 22 ∨ p = 23)) ∧ a = s.dev.rdi SWXP_CFG2_TXSLOT p * 2 ^ 23 + s.dev.rdi SWXP_CFG2_GOFF p + s.dev.swx.ringIdx.get ((p - 22) * 2 + 1) 0 * 16 ∧ leVal (s.dev.peek (a + 6) 2) % 2 = 1 ∧ 0x20000000 ≤ leVal (s.dev.peek a 4) ∧ leVal (s.dev.peek a 4) + 2048 ≤ 0x20A00000 ∧ r = s.dev.swx.ringIdx.set ((p - 22) * 2 + 1) ((s.dev.swx.ringIdx.get ((p - 22) * 2 + 1) 0 + 1) % 64) ∧ d = { s.dev with swx := { s.dev.swx with ringIdx := r } }) :=
  ⟨⟨(swSt [] id), (3), (0), ({ len := 2001 }), ({}), by decide, by decide, by decide⟩,
  ⟨(swSt [] id), (3), (0), ({ dmac := 0x0180C200000E }), ({}), _, by decide, by decide, by decide, by decide, by decide, rfl, by decide⟩,
  ⟨(swSt [] id), (3), (0), ({ dmac := 0xFFFFFFFFFFFF, vid := 5, tagged := true }), ({ dmac := 0xFFFFFFFFFFFF, vid := 5, tagged := true }), ({}), _, by decide, by decide, by decide, by decide, by decide, rfl, by decide, by decide, by decide⟩,
  ⟨(swSt [(SWXP_STAT_GATES, 3, 255)] (fun d => {d with swx := {d.swx with queues := ⟨[(30, [⟨{}, 1, 0, 0, 27⟩])]⟩}})), (3), (0), (6), (⟨{}, 1, 0, 0, 27⟩), ([]), _, by decide, by decide, by decide, by decide, rfl, by decide, by decide⟩,
  ⟨(swSt [] id), (4), (0), by decide, by decide, by decide, by decide⟩,
  ⟨(swSt [] (fun d => {d with swx := {d.swx with sending := ⟨[(3, 9)]⟩}})), (3), (5), by decide⟩,
  ⟨(swSt [(SWXP_CFG2_TXSLOT, 22, 64), (SWXP_CFG2_GOFF, 22, 0x1000)] (fun d => d.poke 0x20001006 [1, 0])), (22), (9), _, by decide, rfl, by decide, by decide⟩,
  ⟨(swSt [(SWXP_CFG2_TXSLOT, 22, 64), (SWXP_CFG2_GOFF, 22, 0x1000)] (fun d => d.poke 0x20001000 [0, 0x20, 0, 0x20, 64, 0, 1, 0])), (22), (9), _, _, _, by decide, rfl, by decide, by decide, by decide, rfl, rfl⟩⟩

/-- The hypotheses of SwitchLinkCommands can be met. -/
theorem wit_SwitchLinkCommands : (∃ (s : State) (p : Nat) (t : Nat), p ≤ 21 ∧ s.dev.rdi SWXP_STAT_LSTATE p = 2 ∧ ((∀ q, q < 8 → s.dev.queue (p * 8 + q) = [])) ∧ s.dev.sendingAt p t = false) ∧
  (∃ (s : State) (p : Nat) (t : Nat), p ≤ 21 ∧ s.dev.rdi SWXP_STAT_LSTATE p = 2 ∧ s.dev.queue (p * 8) ≠ [] ∧ s.dev.rdi SWXP_CFG0_LINKHOLD p ≠ 0 ∧ s.dev.sendingAt p t = true) ∧
  (∃ (s : State) (p : Nat) (rate : Nat), 5 < p ∧ p ≤ 21 ∧ s.dev.portEnabled p = true ∧ s.dev.rdi SWXP_STAT_LSTATE p ≠ 2) ∧
  (∃ (s : State) (p : Nat) (rate : Nat), p ≤ 5 ∧ s.dev.portEnabled p = true ∧ s.dev.rdi SWXP_STAT_LSTATE p ≠ 2) ∧
  (∃ (s : State) (p : Nat), p ≤ 21 ∧ s.dev.rdi SWXP_STAT_LSTATE p = 1) ∧
  (∃ (s : State) (p : Nat) (pos : Nat) (i : Nat), p ≤ 21 ∧ s.dev.rdi SWXP_CFG1_GSRC p = 1 ∧ pos < s.dev.rdi SWXP_CFG1_GLEN p ∧ ((pos = 0 ∨ (s.dev.swx.gatePos.find p).isSome = true)) ∧ i < 256 ∧ ((∀ j, j < 256 → ((s.dev.rdi SWX_GL_INTV_INTERVAL j ≠ 0 ∧ s.dev.rdi SWX_GL_CTL_PORT j = p ∧ s.dev.rdi SWX_GL_CTL_POS j = pos) ↔ j = i)))) ∧
  (∃ (s : State) (p : Nat), p ≤ 13 ∧ s.dev.rd BEAT_CFG_SOURCE ≠ 0 ∧ s.dev.rd SWX_GPTP_STATE ≠ 1) ∧
  (∃ (s : State) (p : Nat), p ≤ 13 ∧ s.dev.rd BEAT_CFG_SOURCE ≠ 0 ∧ s.dev.rd SWX_GPTP_STATE = 1) ∧
  (∃ (s : State), s.dev.rd SWX_GPTP_STATE = 1) ∧
  (∃ (s : State), s.dev.rd SWX_GPTP_STATE = 1 ∧ s.dev.rd BEAT_CFG_SOURCE ≠ 0) ∧
  (∃ (s : State) (ns : Nat), (s.dev.rdeck.lands.any fun r => r.kind == 6 && r.unit == 0) = true) ∧
  (∃ (s : State), (s.dev.rdeck.lands.any fun r => r.kind == 6 && r.unit == 1) = true) ∧
  (∃ (s : State) (r : Nat), (s.dev.swx.frer.get r {}).active = true) :=
  ⟨⟨(swSt [] id), (3), (5), by decide, by decide, by decide, by decide⟩,
  ⟨(swSt [(SWXP_CFG0_LINKHOLD, 3, 20)] (fun d => {d with swx := {d.swx with sending := ⟨[(3, 9)]⟩, queues := ⟨[(24, [⟨{}, 1, 0, 0, 27⟩])]⟩}})), (3), (5), by decide, by decide, by decide, by decide, by decide⟩,
  ⟨(swSt [(SWXP_STAT_LSTATE, 8, 1), (SWXP_STAT_LINK, 3, 0)] id), (8), default, by decide, by decide, by decide, by decide⟩,
  ⟨(swSt [(SWXP_STAT_LSTATE, 3, 1), (SWXP_STAT_LINK, 3, 0)] id), (3), (2500), by decide, by decide, by decide⟩,
  ⟨(swSt [(SWXP_STAT_LSTATE, 3, 1), (SWXP_STAT_HOLDLEFT, 3, 1)] (fun d => {d with swx := {d.swx with queues := ⟨[(24, [⟨{}, 1, 0, 0, 27⟩])]⟩}})), (3), by decide, by decide⟩,
  ⟨(swSt [(SWXP_CFG1_GSRC, 3, 1), (SWXP_CFG1_GLEN, 3, 2), (SWX_GL_INTV_INTERVAL, 9, 500), (SWX_GL_CTL_PORT, 9, 3), (SWX_GL_CTL_POS, 9, 1), (SWX_GL_CTL_STATES, 9, 0x0F)] (fun d => {d with swx := {d.swx with gatePos := ⟨[(3, 0)]⟩}})), (3), (1), (9), by decide, by decide, by decide, by decide, by decide, by decide +kernel⟩,
  ⟨(swSt [(BEAT_CFG_SOURCE, 0, 1), (SWX_GPTP_STATE, 0, 2)] id), (3), by decide, by decide, by decide⟩,
  ⟨(swSt [(BEAT_CFG_SOURCE, 0, 1), (SWX_GPTP_STATE, 0, 1)] id), (3), by decide, by decide, by decide⟩,
  ⟨(swSt [(BEAT_CFG_SOURCE, 0, 1), (SWX_GPTP_STATE, 0, 1)] id), by decide⟩,
  ⟨(swSt [(BEAT_CFG_SOURCE, 0, 1), (SWX_GPTP_STATE, 0, 1)] id), by decide, by decide⟩,
  ⟨(swSt [] id), (1000000007), by decide⟩,
  ⟨(swSt [] id), by decide⟩,
  ⟨(swSt [] (fun d => {d with swx := {d.swx with frer := ⟨[(4, {active := true})]⟩}})), (4), by decide⟩⟩


/-- The hypotheses of BridgeAccessCommands can be met. -/
theorem wit_BridgeAccessCommands : (∃ (s : State) (init : Nat) (w : Nat) (off : Nat) (size : Nat) (data : Nat), s.dev.portOpen init = true ∧ s.dev.winAccess init w off size true = none ∧ s.dev.winHalted w = false ∧ s.dev.winRoom w = true) ∧
  (∃ (s : State) (init : Nat) (w : Nat) (off : Nat) (size : Nat) (data : Nat), s.dev.portOpen init = true ∧ s.dev.winAccess init w off size true = none ∧ s.dev.winHalted w = false ∧ s.dev.winRoom w = false) ∧
  (∃ (s : State) (init : Nat) (w : Nat) (off : Nat) (size : Nat) (data : Nat), s.dev.portOpen init = true ∧ s.dev.winAccess init w off size true = none ∧ s.dev.winHalted w = true) ∧
  (∃ (s : State) (init : Nat) (w : Nat) (off : Nat) (size : Nat), s.dev.portOpen init = true ∧ s.dev.winAccess init w off size false = none ∧ s.dev.winHalted w = false) ∧
  (∃ (s : State) (init : Nat) (w : Nat) (off : Nat) (size : Nat), s.dev.portOpen init = true ∧ s.dev.winAccess init w off size false = none ∧ s.dev.winHalted w = true) ∧
  (∃ (s : State) (h : Nat) (w : Nat) (k : Work), s.dev.stalledRead h = some (w, k) ∧ s.dev.slotPick = none) ∧
  (∃ (s : State) (h : Nat) (w : Nat) (q : Nat) (k : Work), s.dev.stalledRead h = some (w, k) ∧ s.dev.slotPick = some q) ∧
  (∃ (s : State) (h : Nat) (w : Nat) (x : Nat × Nat × Nat), s.dev.brg.writeStall.find? (·.1 == h) = some (h, w, x)) :=
  ⟨⟨(brgSt 1 [] {}), (0), (2), (8), (2), (0x12345678), by decide, by decide, by decide, by decide⟩,
  ⟨(brgSt 1 [(BRG_STAT_ENTRIES, 0, 256)] {}), (0), (2), (8), (2), (0x12345678), by decide, by decide, by decide, by decide⟩,
  ⟨(brgSt 2 [] {}), (0), (2), (8), (2), (0x12345678), by decide, by decide, by decide⟩,
  ⟨(brgSt 1 [] {}), (0), (2), (8), (2), by decide, by decide, by decide +kernel⟩,
  ⟨(brgSt 2 [] {}), (0), (2), (8), (2), by decide, by decide, by decide⟩,
  ⟨(brgSt 1 [] { win := ⟨[(2, { work := [{ kind := .read, addr := 8, size := 2, hart := 3, stalled := true }] })]⟩, slots := ⟨(List.range 256).map fun k => (k, {})⟩ }), (3), (2), ({ kind := .read, addr := 8, size := 2, hart := 3, stalled := true }), by decide, by decide +kernel⟩,
  ⟨(brgSt 1 [] { win := ⟨[(2, { work := [{ kind := .read, addr := 8, size := 2, hart := 3, ctx := 1, stalled := true }] })]⟩ }), (3), (2), (0), ({ kind := .read, addr := 8, size := 2, hart := 3, ctx := 1, stalled := true }), by decide, by decide⟩,
  ⟨(brgSt 1 [] { writeStall := [(3, (2, 8, 2, 77))] }), (3), (2), ((8, 2, 77)), by decide⟩⟩

/-- The hypotheses of BridgeCollectCommands can be met. -/
theorem wit_BridgeCollectCommands : (∃ (s : State) (init : Nat) (q : Nat) (x : Collect), s.dev.portOpen init = true ∧ s.dev.domainOn 2 = true ∧ s.dev.undeclared (s.dev.tag init) = false ∧ s.dev.brg.slots.find q = some x ∧ x.owner = s.dev.tag init ∧ s.dev.flagi BRG_CSTAT_DONE q = true) ∧
  (∃ (s : State) (init : Nat) (q : Nat) (x : Collect), s.dev.portOpen init = true ∧ s.dev.domainOn 2 = true ∧ s.dev.undeclared (s.dev.tag init) = false ∧ s.dev.brg.slots.find q = some x ∧ ((x.owner ≠ s.dev.tag init ∨ s.dev.flagi BRG_CSTAT_DONE q = false))) ∧
  (∃ (s : State) (q : Nat), (s.dev.brg.slots.find q).isSome = true ∧ s.dev.flagi BRG_CSTAT_DONE q = true) ∧
  (∃ (s : State) (init : Nat) (q : Nat) (w : Nat) (x : Collect), s.dev.portOpen init = true ∧ s.dev.domainOn 2 = true ∧ s.dev.ctxBarred (s.dev.tag init) = false ∧ s.dev.brg.slots.find q = some x ∧ x.owner = s.dev.tag init ∧ s.dev.flagi BRG_CSTAT_DONE q = false ∧ w = s.dev.rdi BRG_CSTAT_WIN q) ∧
  (∃ (s : State) (init : Nat) (q : Nat), s.dev.portOpen init = true ∧ s.dev.domainOn 2 = true ∧ s.dev.ctxBarred (s.dev.tag init) = false ∧ s.dev.flagi BRG_CSTAT_DONE q = true) ∧
  (∃ (s : State) (init : Nat) (q : Nat), s.dev.portOpen init = true ∧ s.dev.domainOn 2 = true ∧ s.dev.ctxBarred (s.dev.tag init) = true) ∧
  (∃ (s : State) (init : Nat) (q : Nat), s.dev.portOpen init = true ∧ s.dev.domainOn 2 = true ∧ s.dev.undeclared (s.dev.tag init) = true) ∧
  (∃ (s : State) (init : Nat) (w : Nat), s.dev.portOpen init = true ∧ s.dev.domainOn 2 = true ∧ s.dev.tag init = s.dev.winOwner w ∧ s.dev.tag init ≠ 0xFFFF ∧ s.dev.ctxBarred (s.dev.tag init) = false ∧ s.dev.winHalted w = true) ∧
  (∃ (s : State) (init : Nat) (w : Nat) (d : Dev), s.dev.portOpen init = true ∧ s.dev.domainOn 2 = true ∧ s.dev.tag init = s.dev.winOwner w ∧ s.dev.tag init ≠ 0xFFFF ∧ s.dev.ctxBarred (s.dev.tag init) = false ∧ s.dev.winHalted w = true ∧ d = (s.dev.answered 0).wri BRG_WSTATE_STATE w 1) ∧
  (∃ (s : State) (init : Nat) (w : Nat), s.dev.portOpen init = true ∧ s.dev.domainOn 2 = true ∧ s.dev.tag init ≠ s.dev.winOwner w) :=
  ⟨⟨(brgSt 1 [(BRG_CSTAT_DONE, 7, 1), (BRG_CSTAT_BUSY, 7, 1), (BRG_CDATA_DATA, 7, 99)] { slots := ⟨[(7, { owner := 1 })]⟩ }), (0), (7), ({ owner := 1 }), by decide, by decide, by decide, by decide, by decide, by decide⟩,
  ⟨(brgSt 1 [(BRG_CSTAT_BUSY, 7, 1)] { slots := ⟨[(7, { owner := 1 })]⟩ }), (0), (7), ({ owner := 1 }), by decide, by decide, by decide, by decide, by decide⟩,
  ⟨(brgSt 1 [(BRG_CSTAT_DONE, 7, 1), (BRG_CDATA_DATA, 7, 99)] { slots := ⟨[(7, { owner := 1 })]⟩ }), (7), by decide, by decide⟩,
  ⟨(brgSt 1 [(BRG_CSTAT_BUSY, 7, 1), (BRG_CSTAT_WIN, 7, 2)] { win := ⟨[(2, { work := [{ kind := .read, addr := 8, size := 2, deferred := true, num := 7 }] })]⟩, slots := ⟨[(7, { owner := 1 })]⟩ }), (0), (7), _, ({ owner := 1 }), by decide, by decide, by decide, by decide, by decide, by decide, rfl⟩,
  ⟨(brgSt 1 [(BRG_CSTAT_DONE, 7, 1)] { slots := ⟨[(7, { owner := 1 })]⟩ }), (0), (7), by decide, by decide, by decide, by decide⟩,
  ⟨(brgSt 1 [(CTXN_STAT_STATE, 1, 2)] {}), (0), (7), by decide, by decide, by decide⟩,
  ⟨(brgSt 1 [(CTX_HART_CTX, 0, 9)] {}), (0), (7), by decide, by decide, by decide⟩,
  ⟨(brgSt 2 [] {}), (0), (2), by decide, by decide, by decide, by decide, by decide, by decide⟩,
  ⟨(brgSt 2 [] { win := ⟨[(2, { work := [{ kind := .write, addr := 8, size := 2 }, { kind := .poll, addr := 4, size := 2 }] })]⟩ }), (0), (2), _, by decide, by decide, by decide, by decide, by decide, by decide, rfl⟩,
  ⟨(brgSt 1 [] {}), (1), (2), by decide, by decide, by decide⟩⟩

/-- The hypotheses of BridgeBusCommands can be met. -/
theorem wit_BridgeBusCommands : (∃ (s : State) (w : Nat) (k : Work) (rest : List Work) (o : Outstanding), s.dev.winUp w = true ∧ s.dev.winHalted w = false ∧ (s.dev.win w).sent = none ∧ (s.dev.win w).probeDue = false ∧ (s.dev.win w).work = k :: rest ∧ o = { work := k, seq := (s.dev.win w).nextSeq }) ∧
  (∃ (s : State) (w : Nat) (o : Outstanding), s.dev.winUp w = true ∧ (s.dev.win w).sent = none ∧ (s.dev.win w).probeDue = true ∧ o = { work := { kind := .probe, addr := 0xFFFC, size := 2 }, seq := (s.dev.win w).nextSeq }) ∧
  (∃ (s : State) (w : Nat), s.dev.winUp w = true ∧ (s.dev.win w).sent.isSome = true) ∧
  (∃ (s : State) (w : Nat) (k : Work) (rest : List Work), s.dev.winUp w = true ∧ s.dev.winHalted w = false ∧ (s.dev.win w).sent = none ∧ (s.dev.win w).probeDue = false ∧ (s.dev.win w).work = k :: rest) ∧
  (∃ (s : State) (w : Nat) (data : Nat) (o : Outstanding), s.dev.winUp w = true ∧ (s.dev.win w).sent = some o ∧ o.work.kind = .write) ∧
  (∃ (s : State) (w : Nat) (data : Nat) (o : Outstanding), s.dev.winUp w = true ∧ (s.dev.win w).sent = some o ∧ o.work.kind = .read) ∧
  (∃ (s : State) (w : Nat) (data : Nat) (o : Outstanding), s.dev.winUp w = true ∧ (s.dev.win w).sent = some o ∧ o.work.kind = .read ∧ o.work.stalled = true ∧ o.work.dropped = false) ∧
  (∃ (s : State) (w : Nat) (o : Outstanding), s.dev.winUp w = true ∧ (s.dev.win w).sent = some o) ∧
  (∃ (s : State) (w : Nat) (seq : Nat) (addr : Nat) (type : Nat) (data : Nat) (o : Outstanding), s.dev.winUp w = true ∧ (s.dev.win w).sent = some o ∧ o.seq ≠ seq ∧ ((type = 3 ∨ type = 4 ∨ type = 5))) ∧
  (∃ (s : State) (w : Nat) (o : Outstanding), (s.dev.win w).sent = some o ∧ o.resends < s.dev.rdi BRG_WPOLL_RETRIES w) ∧
  (∃ (s : State) (w : Nat) (o : Outstanding), (s.dev.win w).sent = some o ∧ ¬ o.resends < s.dev.rdi BRG_WPOLL_RETRIES w) ∧
  (∃ (s : State) (w : Nat) (o : Outstanding), (s.dev.win w).sent = some o ∧ o.resends < s.dev.rdi BRG_WPOLL_RETRIES w) ∧
  (∃ (s : State) (w : Nat), (s.dev.win w).sent = none) ∧
  (∃ (s : State) (bus : Nat) (unit : Nat) (node : Nat) (seq : Nat) (size : Nat) (addr : Nat) (data : Value), s.dev.winOf bus unit node = none) ∧
  (∃ (s : State) (bus : Nat) (unit : Nat) (node : Nat) (seq : Nat) (size : Nat) (addr : Nat) (data : Value), s.dev.winOf bus unit node = none) ∧
  (∃ (s : State) (w : Nat) (bus : Nat) (unit : Nat) (node : Nat) (seq : Nat) (size : Nat) (addr : Nat) (data : Value), s.dev.winOf bus unit node = some w ∧ 32 ≤ s.dev.iwritesWaiting) ∧
  (∃ (s : State) (w : Nat) (bus : Nat) (unit : Nat) (node : Nat) (seq : Nat) (size : Nat) (addr : Nat) (data : Value) (ins : List Nat), s.dev.winOf bus unit node = some w ∧ s.dev.iwritesWaiting < 32 ∧ (s.dev.win w).lastIn = none ∧ ins = ((s.dev.rdeck.bridgeRecs.filter fun r => r.kind == 2).map fun r => r.index).filter (fun i => s.dev.rdi BRG_INCFG_BUS i == bus && s.dev.rdi BRG_INCFG_UNIT i == unit && s.dev.rdi BRG_INCFG_NODE i == node)) ∧
  (∃ (s : State) (w : Nat) (code : Nat) (bus : Nat) (unit : Nat) (node : Nat) (seq : Nat) (size : Nat) (addr : Nat) (data : Value), s.dev.winOf bus unit node = some w ∧ s.dev.iwritesWaiting < 32 ∧ (s.dev.win w).lastIn = some (seq, code)) ∧
  (∃ (s : State) (w : Nat), s.dev.rdi BRG_WSTATE_STATE w = 1 ∧ s.dev.rdi BRG_WPOLL_POLLMS w ≠ 0) ∧
  (∃ (s : State) (w : Nat), s.dev.rdi BRG_WSTATE_STATE w = 1 ∧ s.dev.rdi BRG_WPOLL_POLLMS w ≠ 0) ∧
  (∃ (s : State) (w : Nat), s.dev.winHalted w = true) ∧
  (∃ (s : State) (w : Nat), s.dev.winUp w = true) ∧
  (∃ (s : State) (w : Nat), s.dev.winUp w = true) ∧
  (∃ (s : State) (w : Nat), s.dev.winUp w = false) :=
  ⟨⟨(brgSt 1 [] { win := ⟨[(2, { work := [{ kind := .write, addr := 8, size := 2, data := 5 }] })]⟩ }), (2), ({ kind := .write, addr := 8, size := 2, data := 5 }), ([]), _, by decide, by decide, by decide, by decide, by decide, rfl⟩,
  ⟨(brgSt 1 [] { win := ⟨[(2, { probeDue := true, nextSeq := 255 })]⟩ }), (2), _, by decide, by decide, by decide, rfl⟩,
  ⟨(brgSt 1 [] { win := ⟨[(2, { sent := some ⟨{ kind := .write, addr := 8, size := 2 }, 3, 0, false⟩ })]⟩ }), (2), by decide, by decide⟩,
  ⟨(brgSt 1 [] { win := ⟨[(2, { work := [{ kind := .write, addr := 8, size := 2, data := 5 }] })]⟩ }), (2), ({ kind := .write, addr := 8, size := 2, data := 5 }), ([]), by decide, by decide, by decide, by decide, by decide⟩,
  ⟨(brgSt 1 [] { win := ⟨[(2, { sent := some ⟨{ kind := .write, addr := 8, size := 2 }, 3, 0, false⟩ })]⟩ }), (2), (0), (⟨{ kind := .write, addr := 8, size := 2 }, 3, 0, false⟩), by decide, by decide, by decide⟩,
  ⟨(brgSt 1 [] { win := ⟨[(2, { sent := some ⟨{ kind := .read, addr := 8, size := 2, hart := 0, stalled := true }, 3, 0, false⟩ })]⟩ }), (2), (55), (⟨{ kind := .read, addr := 8, size := 2, hart := 0, stalled := true }, 3, 0, false⟩), by decide, by decide, by decide⟩,
  ⟨(brgSt 1 [] { win := ⟨[(2, { sent := some ⟨{ kind := .read, addr := 8, size := 2, hart := 0, stalled := true }, 3, 0, false⟩ })]⟩ }), (2), (55), (⟨{ kind := .read, addr := 8, size := 2, hart := 0, stalled := true }, 3, 0, false⟩), by decide, by decide, by decide, by decide, by decide⟩,
  ⟨(brgSt 1 [(BRG_WPOLL_RETRIES, 2, 3)] { win := ⟨[(2, { sent := some ⟨{ kind := .write, addr := 8, size := 2 }, 3, 0, false⟩ })]⟩ }), (2), (⟨{ kind := .write, addr := 8, size := 2 }, 3, 0, false⟩), by decide, by decide⟩,
  ⟨(brgSt 1 [] { win := ⟨[(2, { sent := some ⟨{ kind := .write, addr := 8, size := 2 }, 3, 0, false⟩ })]⟩ }), (2), (4), (8), (3), (0), (⟨{ kind := .write, addr := 8, size := 2 }, 3, 0, false⟩), by decide, by decide, by decide, by decide⟩,
  ⟨(brgSt 1 [(BRG_WPOLL_RETRIES, 2, 3)] { win := ⟨[(2, { sent := some ⟨{ kind := .write, addr := 8, size := 2 }, 3, 0, false⟩ })]⟩ }), (2), (⟨{ kind := .write, addr := 8, size := 2 }, 3, 0, false⟩), by decide, by decide⟩,
  ⟨(brgSt 1 [(BRG_WPOLL_RETRIES, 2, 0)] { win := ⟨[(2, { sent := some ⟨{ kind := .write, addr := 8, size := 2 }, 3, 0, true⟩ })]⟩ }), (2), (⟨{ kind := .write, addr := 8, size := 2 }, 3, 0, true⟩), by decide, by decide⟩,
  ⟨(brgSt 1 [(BRG_WPOLL_RETRIES, 2, 3)] { win := ⟨[(2, { sent := some ⟨{ kind := .write, addr := 8, size := 2 }, 3, 0, false⟩ })]⟩ }), (2), (⟨{ kind := .write, addr := 8, size := 2 }, 3, 0, false⟩), by decide, by decide⟩,
  ⟨(brgSt 1 [] {}), (2), by decide⟩,
  ⟨(brgSt 1 [] {}), (3), (1), (4), (0), (2), (0), (0), by decide⟩,
  ⟨(brgSt 1 [] {}), (3), (1), (4), (0), (2), (0), (0), by decide⟩,
  ⟨(brgSt 1 [(BRG_WCFG_BUS, 2, 1), (BRG_WCFG_UNIT, 2, 3), (BRG_WCFG_NODE, 2, 9)] { arrived := List.replicate 32 { etype := 0x88B5, payload := [1, 0, 0x60] } }), (2), (1), (3), (9), (0), (2), (4), (5), by decide, by decide⟩,
  ⟨(brgSt 1 [(BRG_WCFG_BUS, 2, 1), (BRG_WCFG_UNIT, 2, 3), (BRG_WCFG_NODE, 2, 9)] {}), (2), (1), (3), (9), (0), (2), (4), (5), _, by decide, by decide, by decide, rfl⟩,
  ⟨(brgSt 1 [(BRG_WCFG_BUS, 2, 1), (BRG_WCFG_UNIT, 2, 3), (BRG_WCFG_NODE, 2, 9)] { win := ⟨[(2, { lastIn := some (7, 2) })]⟩ }), (2), (2), (1), (3), (9), (7), (2), (4), (5), by decide, by decide, by decide⟩,
  ⟨(brgSt 1 [(BRG_WPOLL_POLLMS, 2, 10), (BRG_WSTAT_STATADDR, 2, 0x40)] {}), (2), by decide, by decide⟩,
  ⟨(brgSt 1 [(BRG_WPOLL_POLLMS, 2, 10), (BRG_WSTAT_STATADDR, 2, 0x40)] {}), (2), by decide, by decide⟩,
  ⟨(brgSt 2 [] {}), (2), by decide⟩,
  ⟨(brgSt 1 [] {}), (2), by decide⟩,
  ⟨(brgSt 1 [] {}), (2), by decide⟩,
  ⟨(brgSt 0 [] {}), (2), by decide⟩⟩


/-- The hypotheses of SleepClusterCommands can be met. -/
theorem wit_SleepClusterCommands : (∃ (s : State) (init : Nat) (k : Nat) (reason : Nat), s.dev.portOpen init = true ∧ s.dev.tag init ≠ 0xFFFD ∧ s.dev.tag init ≠ 0xFFFF ∧ s.dev.ctxBarred (s.dev.tag init) = false ∧ s.dev.bit NMW_STAT_DECL 0 k = true) ∧
  (∃ (s : State) (init : Nat) (k : Nat), s.dev.portOpen init = true ∧ s.dev.tag init ≠ 0xFFFD ∧ s.dev.tag init ≠ 0xFFFF ∧ s.dev.ctxBarred (s.dev.tag init) = false ∧ s.dev.bit NMW_STAT_DECL 0 k = true) ∧
  (∃ (s : State) (init : Nat) (k : Nat) (reason : Nat), s.dev.portOpen init = true ∧ ((s.dev.tag init = 0xFFFD ∨ s.dev.tag init = 0xFFFF))) ∧
  (∃ (s : State) (k : Nat), s.dev.clState k = 2 ∧ s.dev.clRequested k = true) ∧
  (∃ (s : State) (k : Nat) (m : KaMsg), s.dev.kaCluster m = some k ∧ s.dev.kaValid m = true ∧ m.awake = true ∧ ((s.dev.clState k = 1 ∨ s.dev.clState k = 2))) ∧
  (∃ (s : State) (k : Nat) (m : KaMsg), s.dev.kaCluster m = some k ∧ s.dev.kaValid m = true ∧ m.awake = true ∧ ((s.dev.clState k = 1 ∨ s.dev.clState k = 2))) ∧
  (∃ (s : State) (k : Nat) (c : Nat) (ident : Nat) (p : List Byte), s.dev.kaCluster (.can c ident p) = some k ∧ (((p.getD 0 0).toNat / 16 ≠ 1 ∨ ident % 64 ≠ beVal ((p.drop 2).take 2) % 64))) ∧
  (∃ (s : State) (k : Nat), k < 16 ∧ s.dev.clState k = 2 ∧ s.dev.clRequested k = false) ∧
  (∃ (s : State) (k : Nat), s.dev.clRequested k = true) ∧
  (∃ (s : State) (k : Nat), k < 16 ∧ s.dev.clState k = 3 ∧ s.dev.clUnits k 1 = [] ∧ s.dev.clUnits k 2 = []) ∧
  (∃ (s : State) (k : Nat), k < 16 ∧ s.dev.clState k = 4 ∧ (s.dev.cl k).held = none ∧ (s.dev.cl k).step < 4) ∧
  (∃ (s : State) (k : Nat) (h : Nat × Nat), s.dev.clState k = 4 ∧ (s.dev.cl k).held = some h ∧ (s.dev.cl k).step ≠ 3) ∧
  (∃ (s : State) (k : Nat), s.dev.clState k = 4 ∧ (s.dev.cl k).held = none ∧ (s.dev.cl k).step ≠ 3) ∧
  (∃ (s : State) (k : Nat), s.dev.clState k = 4 ∧ (s.dev.cl k).held = none ∧ (s.dev.cl k).step = 3) ∧
  (∃ (s : State) (k : Nat) (cause : Nat) (unit : Nat) (node : Nat), s.dev.wakeAllowed k cause unit = true ∧ cause ≠ 3 ∧ cause ≠ 6) ∧
  (∃ (s : State) (k : Nat) (unit : Nat) (node : Nat), s.dev.bit NMW_CL_WAKEIN k unit = true) ∧
  (∃ (s : State) (k : Nat) (unit : Nat) (node : Nat), s.dev.wakeAllowed k 6 unit = true) ∧
  (∃ (s : State) (k : Nat) (cause : Nat) (unit : Nat) (node : Nat), s.dev.clState k = 2 ∧ cause ≠ 3) :=
  ⟨⟨(memSt 5 1 [] {}), (0), (15), (0x107), by decide, by decide, by decide, by decide, by decide⟩,
  ⟨(memSt 2 1 [] { reqs := ⟨[(1, 7)]⟩ }), (0), (15), by decide, by decide, by decide, by decide, by decide⟩,
  ⟨(memSt 2 1 [] {}), (1), (15), (0), by decide, by decide⟩,
  ⟨(memSt 2 1 [] { reqs := ⟨[(1, 7)]⟩ }), (15), by decide, by decide⟩,
  ⟨(memSt 2 1 [] {}), (15), (.can 3 0x105 [0x11, 15, 0, 5, 0, 0, 0, 0]), by decide, by decide, by decide, by decide⟩,
  ⟨(memSt 2 1 [(NMW_TIMES_SWAIT, 0, 9)] {}), (15), (.can 3 0x105 [0x11, 15, 0, 5, 0, 0, 0, 0]), by decide, by decide, by decide, by decide⟩,
  ⟨(memSt 2 1 [] {}), (15), (3), (0x106), ([0x11, 15, 0, 5, 0, 0, 0, 0]), by decide, by decide⟩,
  ⟨(memSt 2 1 [(NMW_TIMES_PREP, 0, 3)] {}), (15), by decide, by decide, by decide⟩,
  ⟨(memSt 2 1 [] { hostReq := true }), (15), by decide⟩,
  ⟨(nmSt 3 [] {} id), (15), by decide, by decide, by decide, by decide⟩,
  ⟨(memSt 4 1 [(CAN_STAT_STATE, 3, 2)] {}), (15), by decide, by decide, by decide, by decide⟩,
  ⟨(memSt 4 1 [] { held := some (2, 3) }), (15), ((2, 3)), by decide, by decide, by decide⟩,
  ⟨(memSt 4 1 [] { step := 2 }), (15), by decide, by decide, by decide⟩,
  ⟨(memSt 4 0 [] { step := 3 }), (15), by decide, by decide, by decide⟩,
  ⟨(memSt 5 0 [] {}), (15), (5), (3), default, by decide, by decide, by decide⟩,
  ⟨(memSt 5 1 [(NMW_CL_WAKEIN, 15, 0x80)] {}), (15), (7), default, by decide⟩,
  ⟨(memSt 5 1 [] {}), (15), (3), (9), by decide⟩,
  ⟨(memSt 2 1 [] {}), (15), (2), (3), default, by decide, by decide⟩⟩

/-- The hypotheses of SleepLimitCommands can be met. -/
theorem wit_SleepLimitCommands : (∃ (s : State) (c : Nat) (k : Nat), s.dev.sleepClusters 1 c = [k] ∧ s.dev.wakeMode k 1 c = some 1 ∧ s.dev.trxStandby k = true) ∧
  (∃ (s : State) (c : Nat) (k : Nat), k < 16 ∧ s.dev.sleepClusters 1 c = [k] ∧ s.dev.wakeMode k 1 c = some 1 ∧ s.dev.trxStandby k = true) ∧
  (∃ (s : State) (k : Nat) (n : Nat), k < 16 ∧ (s.dev.cl k).stretch = some n ∧ s.dev.rdi NMW_CL_AWLIM k ≠ 0 ∧ (s.dev.cl k).limitSeen = false) ∧
  (∃ (s : State) (k : Nat), (s.dev.cl k).stretch = none) ∧
  (∃ (s : State) (k : Nat) (dur : Nat), k < 16 ∧ (s.dev.cl k).limitSeen = true ∧ (s.dev.cl k).stretch = none) ∧
  (∃ (s : State) (k : Nat) (node : Nat), (s.dev.cl k).holders.contains node = true) ∧
  (∃ (s : State) (k : Nat) (node : Nat), (s.dev.cl k).holders.contains node = true) ∧
  (∃ (s : State) (t : Nat), s.dev.rdi TT_STAT_STATE t = 1 ∧ s.dev.ttConnected t = 3 ∧ s.dev.ttPassive t = 0) ∧
  (∃ (s : State) (t : Nat), s.dev.rdi TT_STAT_STATE t ≠ 1) ∧
  (∃ (s : State) (c : Nat), s.dev.rdi CAN_STAT_STATE c = 1 ∧ s.dev.can.joining.find c = none ∧ s.dev.sleepClusters 1 c = []) ∧
  (∃ (s : State) (c : Nat) (u : Nat), s.dev.rdi CAN_STAT_STATE c = 1 ∧ s.dev.can.joining.find c = some u ∧ s.dev.sleepClusters 1 c = []) ∧
  (∃ (s : State) (c : Nat), s.dev.rdi CAN_STAT_STATE c ≠ 1) :=
  ⟨⟨(memSt 5 1 [] {}), (3), (15), by decide, by decide, by decide⟩,
  ⟨(memSt 4 1 [] { step := 4 }), (3), (15), by decide, by decide, by decide, by decide⟩,
  ⟨(memSt 2 1 [(NMW_CL_AWLIM, 15, 6)] { holders := [5], stretch := some 5 }), (15), (5), by decide, by decide, by decide, by decide⟩,
  ⟨(memSt 2 1 [(NMW_CL_AWLIM, 15, 6)] {}), (15), by decide⟩,
  ⟨(memSt 2 1 [(NMW_CL_AWLIM, 15, 6)] { limitSeen := true }), (15), (70000), by decide, by decide, by decide⟩,
  ⟨(memSt 2 1 [] { holders := [5, 6] }), (15), (5), by decide⟩,
  ⟨(memSt 2 1 [] { holders := [5, 6], reqs := ⟨[(1, 7)]⟩ }), (15), (5), by decide⟩,
  ⟨(runSt [(TT_STAT_STATE, 1, 1)] (fun d => d.withDeck [(2, 0, .lands [⟨2, 2, 0, 0⟩, ⟨2, 3, 0, 0⟩])])), (1), by decide, by decide, by decide⟩,
  ⟨(runSt [(TT_STAT_STATE, 1, 3)] id), (1), by decide⟩,
  ⟨(runSt [(CAN_STAT_STATE, 3, 1), (CAN_ERRCNT_TEC, 3, 128)] id), (3), by decide, by decide, by decide⟩,
  ⟨(runSt [(CAN_STAT_STATE, 3, 1)] (fun d => { d with can := { d.can with joining := ⟨[(3, 9)]⟩ } })), (3), (9), by decide, by decide, by decide⟩,
  ⟨(runSt [(CAN_STAT_STATE, 3, 2)] id), (3), by decide⟩⟩


/-- The hypotheses of KeyStartCommands can be met. -/
theorem wit_KeyStartCommands : (∃ (s : State) (init : Nat) (n : Nat) (slot : Nat) (op : Nat) (irq : Bool) (i : Instr) (d : Dev), s.dev.portOpen init = true ∧ (op, i) ∈ [(0x01, Instr.gcmEnc init n slot irq), (0x02, .gcmDec init n slot irq), (0x03, .cmac init n slot irq), (0x04, .cmacVer init n slot irq), (0x05, .hmac init n slot irq), (0x06, .hmacVer init n slot irq), (0x07, .sign init n slot irq), (0x08, .verify init n slot irq), (0x09, .ecdh init n slot irq), (0x0A, .kdf init n slot irq), (0x0B, .hkdf init n slot irq), (0x0C, .chal init n slot irq), (0x10, .load init n slot irq)] ∧ s.dev.domainOn 2 = true ∧ (s.dev.ctxRec (s.dev.tag init)).isNone = false ∧ s.dev.ctxBarred (s.dev.tag init) = false ∧ s.dev.rdi KEY_OP_STAT_STATE n = 0 ∧ d = (((((((s.dev.answered 0).wri KEY_OP_CTL_OP n op).wri KEY_OP_CTL_SLOT n slot).wri KEY_OP_CTL_IRQ n (b2n irq)).setKeyChan n { op := op, slot := slot, irq := irq }).wri KEY_OP_STAT_CTX n (s.dev.tag init)).wri KEY_OP_STAT_DONE n 0).wri KEY_OP_OUTLEN_B n 0) ∧
  (∃ (s : State) (init : Nat) (n : Nat) (op : Nat) (irq : Bool) (i : Instr) (d : Dev), s.dev.portOpen init = true ∧ (op, i) ∈ [(0x11, Instr.commit init n irq), (0x12, .inval init n irq), (0x18, .sha256 init n irq), (0x19, .sha384 init n irq)] ∧ s.dev.domainOn 2 = true ∧ (s.dev.ctxRec (s.dev.tag init)).isNone = false ∧ s.dev.ctxBarred (s.dev.tag init) = false ∧ s.dev.rdi KEY_OP_STAT_STATE n = 0 ∧ d = (((((((s.dev.answered 0).wri KEY_OP_CTL_OP n op).wri KEY_OP_CTL_SLOT n 0).wri KEY_OP_CTL_IRQ n (b2n irq)).setKeyChan n { op := op, slot := 0, irq := irq }).wri KEY_OP_STAT_CTX n (s.dev.tag init)).wri KEY_OP_STAT_DONE n 0).wri KEY_OP_OUTLEN_B n 0) ∧
  (∃ (s : State) (init : Nat) (n : Nat) (slot : Nat) (irq : Bool), s.dev.portOpen init = true ∧ s.dev.domainOn 2 = true ∧ (s.dev.ctxRec (s.dev.tag init)).isNone = true) ∧
  (∃ (s : State) (init : Nat) (n : Nat) (slot : Nat), s.dev.portOpen init = true ∧ s.dev.domainOn 2 = true ∧ (s.dev.ctxRec (s.dev.tag init)).isNone = false ∧ s.dev.ctxBarred (s.dev.tag init) = false ∧ s.dev.rdi KEY_OP_STAT_STATE n = 1 ∧ s.dev.rdi KEY_OP_STAT_CTX n = s.dev.tag init) :=
  ⟨⟨(keySt [(KEY_OP_DESC_ADDR, 2, 0x20000100)] {}), (0), (2), (9), (1), (true), (.gcmEnc 0 2 9 true), _, by decide, by decide, by decide, by decide, by decide, by decide, rfl⟩,
  ⟨(keySt [(KEY_OP_DESC_ADDR, 2, 0x20000100)] {}), (0), (2), (0x18), (true), (.sha256 0 2 true), _, by decide, by decide, by decide, by decide, by decide, by decide, rfl⟩,
  ⟨(keySt [] {}), (1), (2), (9), (true), by decide, by decide, by decide⟩,
  ⟨(keySt [(KEY_OP_STAT_STATE, 2, 1), (KEY_OP_STAT_CTX, 2, 1)] { op := 3 }), (0), (2), (9), by decide, by decide, by decide, by decide, by decide, by decide⟩⟩

/-- The hypotheses of KeyEndCommands can be met. -/
theorem wit_KeyEndCommands : (∃ (s : State) (n : Nat), s.dev.rdi KEY_OP_STAT_STATE n = 1 ∧ (s.dev.keyChan n).op = 0x03 ∧ (s.dev.keyChan n).outLen = 16 ∧ (s.dev.keyChan n).irq = false ∧ n < 16 ∧ (s.dev.keyChan n).slot < 480 ∧ 1 < s.dev.rdi KEY_SLOTSTAT_INUSE (s.dev.keyChan n).slot ∧ s.dev.rdi KEY_SLOTSTAT_INUSE (s.dev.keyChan n).slot ≤ 2 ^ KEY_SLOTSTAT_INUSE.width) ∧
  (∃ (s : State) (n : Nat), s.dev.rdi KEY_OP_STAT_STATE n = 1 ∧ (((s.dev.keyChan n).op = 0x02 ∨ (s.dev.keyChan n).op = 0x08))) ∧
  (∃ (s : State) (n : Nat), s.dev.rdi KEY_OP_STAT_STATE n = 1 ∧ (s.dev.keyChan n).op = 0x04 ∧ s.dev.peek (s.dev.keyChan n).aux 16 ≠ beOf 16 (Config.aesCmac (s.dev.keyChan n).key (s.dev.peek (s.dev.keyChan n).inp (s.dev.keyChan n).inLen)).toNat) ∧
  (∃ (s : State) (n : Nat), s.dev.rdi KEY_OP_STAT_STATE n = 1 ∧ (((s.dev.keyChan n).op = 0x08 ∨ (s.dev.keyChan n).op = 0x09))) ∧
  (∃ (s : State) (n : Nat), s.dev.rdi KEY_OP_STAT_STATE n = 1 ∧ (s.dev.keyChan n).op = 0x07) ∧
  (∃ (s : State) (n : Nat), s.dev.rdi KEY_OP_STAT_STATE n = 1 ∧ (s.dev.keyChan n).op = 0x10) ∧
  (∃ (s : State) (n : Nat) (l : List Byte), s.dev.rdi KEY_OP_STAT_STATE n = 1 ∧ (s.dev.keyChan n).op = 0x10 ∧ beVal (l.take 4) ≤ s.dev.rdi KEY_KVER (s.dev.keyChan n).target) ∧
  (∃ (s : State) (n : Nat) (l : List Byte), s.dev.rdi KEY_OP_STAT_STATE n = 1 ∧ (s.dev.keyChan n).op = 0x10 ∧ s.dev.rdi KEY_KVER (s.dev.keyChan n).target < beVal (l.take 4)) ∧
  (∃ (s : State) (n : Nat) (t : Nat) (l : List Byte), s.dev.rdi KEY_OP_STAT_STATE n = 1 ∧ (s.dev.keyChan n).op = 0x10 ∧ n < 16 ∧ t = (s.dev.keyChan n).target ∧ t < 496 ∧ (s.dev.keyChan n).slot < 496 ∧ (s.dev.keyChan n).slot ≠ t ∧ s.dev.rdi KEY_SLOTSTAT_PEND t = 1 ∧ s.dev.rdi KEY_KVER t < beVal (l.take 4)) ∧
  (∃ (s : State) (n : Nat) (f : KeyFinding), s.dev.rdi KEY_OP_STAT_STATE n ≠ 1) ∧
  (∃ (s : State) (init : Nat) (n : Nat), s.dev.portOpen init = true ∧ s.dev.domainOn 2 = true ∧ s.dev.keyHeld init n = true ∧ s.dev.rdi KEY_OP_STAT_STATE n = 1) ∧
  (∃ (s : State) (init : Nat) (n : Nat), s.dev.portOpen init = true ∧ s.dev.domainOn 2 = true ∧ s.dev.keyHeld init n = true ∧ s.dev.rdi KEY_OP_STAT_STATE n = 2) ∧
  (∃ (s : State) (init : Nat) (n : Nat), s.dev.portOpen init = true ∧ s.dev.domainOn 2 = true ∧ s.dev.keyHeld init n = false) :=
  ⟨⟨(keySt [(KEY_OP_STAT_STATE, 2, 1), (KEY_OP_STAT_CTX, 2, 1), (KEY_SLOTSTAT_INUSE, 9, 2)] { op := 3, slot := 9, out := 0x20000200, outLen := 16 }), (2), by decide, by decide, by decide, by decide, by decide, by decide, by decide, by decide⟩,
  ⟨(keySt [(KEY_OP_STAT_STATE, 2, 1), (KEY_OP_STAT_CTX, 2, 1)] { op := 2, slot := 9 }), (2), by decide, by decide⟩,
  if h : beOf 16 (Config.aesCmac [] []).toNat = List.replicate 16 0 then
    ⟨(let s := keySt [(KEY_OP_STAT_STATE, 2, 1), (KEY_OP_STAT_CTX, 2, 1)] { op := 4, slot := 9, aux := 0x20000000 }; { s with dev := s.dev.poke 0x20000000 [1] }), 2, by decide, by decide,
      fun e => absurd ((show List.replicate 16 (0 : Byte) = _ from h.symm).trans e.symm) (by decide)⟩
  else ⟨keySt [(KEY_OP_STAT_STATE, 2, 1), (KEY_OP_STAT_CTX, 2, 1)] { op := 4, slot := 9, aux := 0x20000000 }, 2, by decide, by decide, fun e => h (e.symm.trans (by decide))⟩,
  ⟨(keySt [(KEY_OP_STAT_STATE, 2, 1), (KEY_OP_STAT_CTX, 2, 1)] { op := 9, slot := 9, target := 12 }), (2), by decide, by decide⟩,
  ⟨(keySt [(KEY_OP_STAT_STATE, 2, 1), (KEY_OP_STAT_CTX, 2, 1)] { op := 7, slot := 9 }), (2), by decide, by decide⟩,
  ⟨(keySt [(KEY_OP_STAT_STATE, 2, 1), (KEY_OP_STAT_CTX, 2, 1)] { op := 16, slot := 9, target := 12 }), (2), by decide, by decide⟩,
  ⟨(keySt [(KEY_OP_STAT_STATE, 2, 1), (KEY_OP_STAT_CTX, 2, 1), (KEY_KVER, 12, 7)] { op := 16, slot := 9, target := 12 }), (2), ([0, 0, 0, 7, 9]), by decide, by decide, by decide⟩,
  ⟨(keySt [(KEY_OP_STAT_STATE, 2, 1), (KEY_OP_STAT_CTX, 2, 1), (KEY_KVER, 12, 7)] { op := 16, slot := 9, target := 12 }), (2), ([0, 0, 0, 8, 9]), by decide, by decide, by decide⟩,
  ⟨(keySt [(KEY_OP_STAT_STATE, 2, 1), (KEY_OP_STAT_CTX, 2, 1), (KEY_KVER, 12, 7), (KEY_SLOTSTAT_PEND, 12, 1), (KEY_ATTR_ALG, 12, 1)] { op := 16, slot := 9, target := 12 }), (2), _, ([0, 0, 0, 8, 9]), by decide, by decide, by decide, rfl, by decide, by decide, by decide, by decide, by decide⟩,
  ⟨(keySt [(KEY_OP_STAT_STATE, 2, 2)] { op := 16, slot := 9, target := 12 }), (2), (.done), by decide⟩,
  ⟨(keySt [(KEY_OP_STAT_STATE, 2, 1), (KEY_OP_STAT_CTX, 2, 1)] { op := 3, slot := 9 }), (0), (2), by decide, by decide, by decide, by decide⟩,
  ⟨(keySt [(KEY_OP_STAT_STATE, 2, 2), (KEY_OP_STAT_CTX, 2, 1), (KEY_OP_STAT_DONE, 2, 1)] { op := 3, slot := 9 }), (0), (2), by decide, by decide, by decide, by decide⟩,
  ⟨(keySt [(KEY_OP_STAT_STATE, 2, 1), (KEY_OP_STAT_CTX, 2, 2)] { op := 3, slot := 9 }), (0), (2), by decide, by decide, by decide⟩⟩


/-- The hypotheses of ShuttleArrivals can be met. -/
theorem wit_ShuttleArrivals : (∃ (s : State) (m : Msg) (k : Nat) (on : Nat) (target : Nat) (late : Bool) (i : Instr) (r : Request), (i, r) ∈ [(Instr.ping m, Request.ping), (.bye m, .bye), (.subscribe m on, .subscribe on), (.abort m target late, .abort target late)] ∧ s.dev.shtUp = true ∧ s.dev.sessionOf m.session = some k ∧ m.check = .good ∧ (s.dev.session k).accepts m.seq = true) ∧
  (∃ (s : State) (m : Msg) (k : Nat) (a : Nat) (b : Nat) (c : Nat) (e : Nat) (l : List Byte) (x : BlockFind) (v : KeyFinding) (w : Value) (i : Instr) (r : Request) (d : Dev) (p : Dev × Ran), (i, r) ∈ [(Instr.restart m, Request.restart), (.updOpen m a b c, .updOpen a b c), (.updBlock m a b l x, .updBlock a b l x), (.updClose m a, .updClose a), (.updActivate m a b c e, .updActivate a b c e), (.updStatus m, .updStatus), (.invGet m, .invGet), (.presGet m a b, .presGet a b), (.recRead m a b, .recRead a b), (.recClear m, .recClear), (.keyLoad m a b c v, .keyLoad a b c v), (.keyCommit m a, .keyCommit a), (.keyInval m a, .keyInval a), (.outChal m a b, .outChal a b), (.lcChange m a l, .lcChange a l), (.sigRead m a b, .sigRead a b), (.sigForce m a w, .sigForce a w), (.sigRelease m a, .sigRelease a), (.chMan m a b c, .chMan a b c), (.sleepReq m a b, .sleepReq a b), (.ctxReset m a, .ctxReset a), (.ctxStop m a, .ctxStop a), (.ctxRestart m a, .ctxRestart a), (.ctxStat m a, .ctxStat a), (.trdIdle m, .trdIdle), (.trdRelease m, .trdRelease)] ∧ s.dev.shtUp = true ∧ s.dev.sessionOf m.session = some k ∧ m.check = .good ∧ (s.dev.session k).accepts m.seq = true ∧ (s.dev.session k).executing = none ∧ d = s.dev.setSession k ((s.dev.session k).see m.seq) ∧ r.roleIn (s.dev.rdi SHT_SESS_ROLES k) = true ∧ (d.lcMask r).testBit d.lcColumn = true ∧ p = d.carry (s.dev.rdi SHT_SESS_HOST k) (s.dev.rdi SHT_SID_SESSION k) m.seq r) ∧
  (∃ (s : State) (m : Msg) (k : Nat) (a : Nat) (d : Dev) (t : Dev) (p : Dev × Reply), s.dev.shtUp = true ∧ s.dev.sessionOf m.session = some k ∧ m.check = .good ∧ (s.dev.session k).accepts m.seq = true ∧ (s.dev.session k).executing = none ∧ Request.roleIn (.updCancel a) (s.dev.rdi SHT_SESS_ROLES k) = true ∧ d = s.dev.setSession k ((s.dev.session k).see m.seq) ∧ (d.lcMask (.updCancel a)).testBit d.lcColumn = true ∧ p = d.updCancelReq (s.dev.rdi SHT_SESS_HOST k) a ∧ t = Dev.drain 9 (p.1.replyTo k 0x0205 m.seq p.2.1 p.2.2) k) ∧
  (∃ (s : State) (m : Msg) (k : Nat) (a : Nat) (e : Nat × Request), s.dev.shtUp = true ∧ s.dev.sessionOf m.session = some k ∧ m.check = .good ∧ (s.dev.session k).accepts m.seq = true ∧ (s.dev.session k).executing = some e ∧ (s.dev.session k).waiting.length < 8) ∧
  (∃ (s : State) (m : Msg) (k : Nat) (a : Nat) (e : Nat × Request), s.dev.shtUp = true ∧ s.dev.sessionOf m.session = some k ∧ m.check = .good ∧ (s.dev.session k).accepts m.seq = true ∧ (s.dev.session k).executing = some e ∧ 8 ≤ (s.dev.session k).waiting.length) ∧
  (∃ (s : State) (m : Msg) (k : Nat) (r : KeptReply), s.dev.shtUp = true ∧ s.dev.sessionOf m.session = some k ∧ m.check = .good ∧ (s.dev.session k).accepts m.seq = false ∧ ((s.dev.session k).replies.find? fun r => r.answers == m.seq) = some r) ∧
  (∃ (s : State) (m : Msg) (k : Nat) (st : Nat), s.dev.shtUp = true ∧ s.dev.sessionOf m.session = some k ∧ (m.check, st) ∈ [(MsgCheck.unknownCmd, 0x0012), (.badField, 0x0013)] ∧ (s.dev.session k).accepts m.seq = true ∧ (s.dev.session k).executing = none ∧ (s.dev.session k).waiting = [] ∧ s.dev.lcColumn < 6) ∧
  (∃ (s : State) (m : Msg), s.dev.shtUp = true ∧ s.dev.sessionOf m.session = none) ∧
  (∃ (s : State) (m : Msg) (k : Nat), s.dev.shtUp = true ∧ s.dev.sessionOf m.session = some k ∧ m.check = .badTag) :=
  ⟨⟨(shSt [] { high := 4 } id), (⟨77, 5, .good⟩), (0), (0), (0), (false), (.ping ⟨77, 5, .good⟩), (.ping), by decide, by decide, by decide, by decide, by decide⟩,
  ⟨(shSt [] { high := 4 } id), (⟨77, 5, .good⟩), (0), (1), (0), (0), (0), ([]), ({}), (.done), (0), (.ctxStat ⟨77, 5, .good⟩ 1), (.ctxStat 1), _, _, by decide, by decide, by decide, by decide, by decide, by decide, rfl, by decide, by decide, rfl⟩,
  ⟨(shSt [] { high := 4 } (fun d => {d with upd := {d.upd with lock := some (3, 77), item := some { xfer := 6, ikind := 2, totalLen := 4096 }}})), (⟨77, 5, .good⟩), (0), (6), _, _, _, by decide, by decide, by decide, by decide, by decide, by decide, rfl, by decide, rfl, rfl⟩,
  ⟨(shSt [] { high := 4, executing := some (3, .updClose 6) } id), (⟨77, 5, .good⟩), (0), (1), ((3, .updClose 6)), by decide, by decide, by decide, by decide, by decide, by decide⟩,
  ⟨(shSt [] { high := 4, executing := some (3, .updClose 6), waiting := (List.range 8).map fun i => (i, .trdIdle) } id), (⟨77, 5, .good⟩), (0), (1), ((3, .updClose 6)), by decide, by decide, by decide, by decide, by decide, by decide⟩,
  ⟨(shSt [] { high := 5, replies := [⟨5, 9, 0x10, 0, [1]⟩] } id), (⟨77, 5, .good⟩), (0), (⟨5, 9, 0x10, 0, [1]⟩), by decide, by decide, by decide, by decide, by decide⟩,
  ⟨(shSt [] { high := 4 } id), (⟨77, 5, .badField⟩), (0), (0x13), by decide, by decide, by decide, by decide, by decide, by decide, by decide⟩,
  ⟨(shSt [] {} id), (⟨78, 5, .good⟩), by decide, by decide⟩,
  ⟨(shSt [] {} id), (⟨77, 5, .badTag⟩), (0), by decide, by decide, by decide⟩⟩

/-- The hypotheses of ShuttleRoles can be met. -/
theorem wit_ShuttleRoles : (∃ (s : State) (m : Msg) (k : Nat) (r : Request) (i : Instr) (d : Dev) (a : Nat) (b : Nat) (c : Nat) (w : Value), (i, r) ∈ [(Instr.restart m, Request.restart), (.updOpen m a b c, .updOpen a b c), (.keyCommit m a, .keyCommit a), (.sigForce m a w, .sigForce a w), (.chMan m a b c, .chMan a b c), (.ctxStop m a, .ctxStop a), (.recClear m, .recClear), (.trdIdle m, .trdIdle)] ∧ s.dev.shtUp = true ∧ s.dev.sessionOf m.session = some k ∧ m.check = .good ∧ (s.dev.session k).accepts m.seq = true ∧ (s.dev.session k).executing = none ∧ (s.dev.session k).waiting = [] ∧ (s.dev.session k).nextSeq < 0xFFFFFFFF ∧ d = s.dev.setSession k ((s.dev.session k).see m.seq)) :=
  ⟨(shSt [(SHT_SESS_ROLES, 0, 1)] { high := 4 } id), (⟨77, 5, .good⟩), (0), (.trdIdle), (.trdIdle ⟨77, 5, .good⟩), _, (0), (0), (0), (0), by decide, by decide, by decide, by decide, by decide, by decide, by decide, by decide, rfl⟩

/-- The hypotheses of ShuttleOrders can be met. -/
theorem wit_ShuttleOrders : (∃ (d : Dev) (h : Nat) (n : Nat) (q : Nat) (c : Nat), (d.ctxRec c).isNone = false ∧ d.ctxState c ≠ 4) ∧
  (∃ (d : Dev) (h : Nat) (n : Nat) (q : Nat) (c : Nat), (d.ctxRec c).isNone = false ∧ d.ctxState c = 4) ∧
  (∃ (d : Dev) (h : Nat) (n : Nat) (q : Nat) (c : Nat) (r : Request), (d.ctxRec c).isNone = true ∧ r ∈ [Request.ctxReset c, .ctxStop c, .ctxRestart c, .ctxStat c]) ∧
  (∃ (d : Dev) (h : Nat) (n : Nat) (q : Nat) (x : Nat) (v : Value) (r : SigRec), d.sigRec x = some r) ∧
  (∃ (d : Dev) (h : Nat) (n : Nat) (q : Nat) (x : Nat) (v : Value), d.sigRec x = none) ∧
  (∃ (d : Dev) (h : Nat) (n : Nat) (q : Nat) (m : Nat) (en : Nat) (cmd : Nat), m ≤ 63 ∧ en ≤ 1 ∧ d.bankFitted (bankOf m) = true ∧ d.chUsed m = true) ∧
  (∃ (d : Dev) (h : Nat) (n : Nat) (q : Nat) (k : Nat), k ≤ 15 ∧ d.bit NMW_STAT_DECL 0 k = true) ∧
  (∃ (d : Dev) (h : Nat) (n : Nat) (q : Nat) (slot : Nat), d.slotDeclared slot = true) ∧
  (∃ (d : Dev) (h : Nat) (n : Nat) (q : Nat) (dst : Nat) (l : List Byte), d.flag KEY_STAT_LCBUSY = false ∧ d.lcAllowed dst = false) ∧
  (∃ (d : Dev) (h : Nat) (n : Nat) (q : Nat) (dst : Nat) (l : List Byte), d.flag KEY_STAT_LCBUSY = false ∧ d.lcAllowed dst = true ∧ d.authOk dst (d.nonceOf n) l = false) ∧
  (∃ (d : Dev) (h : Nat) (n : Nat) (q : Nat) (kind : Nat) (total : Nat) (x : Nat), 1 ≤ kind ∧ kind ≤ 3 ∧ d.updState ≠ 4 ∧ d.upd.lock = none) ∧
  (∃ (d : Dev) (h : Nat) (n : Nat) (q : Nat) (kind : Nat) (total : Nat) (x : Nat) (l : Nat × Nat), 1 ≤ kind ∧ kind ≤ 3 ∧ d.updState ≠ 4 ∧ d.upd.lock = some l ∧ l.1 ≠ h) ∧
  (∃ (d : Dev) (h : Nat) (n : Nat) (q : Nat) (x : Nat) (i : UpdItem), d.updItemOf h x = some i ∧ d.updState = 1 ∧ d.upd.closing = none ∧ i.streamBlocks ≤ i.blocks.length) ∧
  (∃ (d : Dev) (h : Nat) (n : Nat) (q : Nat) (x : Nat) (i : UpdItem) (k : Deck), d.updItemOf h x = some i ∧ d.updState = 2 ∧ i.deck = some k) :=
  ⟨⟨((shSt [(CTXN_STAT_STATE, 1, 1)] {} id).dev), (3), (77), (5), (1), by decide, by decide⟩,
  ⟨((shSt [(CTXN_STAT_STATE, 1, 4)] {} id).dev), (3), (77), (5), (1), by decide, by decide⟩,
  ⟨((shSt [] {} id).dev), (3), (77), (5), (2), (.ctxStat 2), by decide, by decide⟩,
  ⟨((shSt [] {} id).dev), (3), (77), (5), (7), (9), (⟨7, 4, 0, 0xFFFF, 1, 0, 255, 0⟩), by decide⟩,
  ⟨((shSt [] {} id).dev), (3), (77), (5), (8), (9), by decide⟩,
  ⟨((shSt [(CH_OWNER, 17, 1)] {} id).dev), (3), (77), (5), (17), (1), (1), by decide, by decide, by decide, by decide⟩,
  ⟨((shSt [(NMW_STAT_DECL, 0, 0x8000)] {} id).dev), (3), (77), (5), (15), by decide, by decide⟩,
  ⟨((shSt [(KEY_ATTR_ALG, 9, 1), (KEY_STAT_KEYLESS, 0, 0), (KEY_SLOTSTAT_PEND, 9, 1)] {} id).dev), (3), (77), (5), (9), by decide⟩,
  ⟨((shSt [] {} id).dev), (3), (77), (5), (1), ([]), by decide, by decide⟩,
  ⟨((shSt [] {} id).dev), (3), (77), (5), (3), ([]), by decide, by decide, by decide⟩,
  ⟨((shSt [] {} id).dev), (3), (77), (5), (2), (8192), (6), by decide, by decide, by decide, by decide⟩,
  ⟨((shSt [] {} (fun d => {d with upd := {d.upd with lock := some (4, 78)}})).dev), (3), (77), (5), (2), (8192), (6), ((4, 78)), by decide, by decide, by decide, by decide, by decide⟩,
  ⟨((shSt [(UPD_STAT_STATE, 0, 1)] {} (fun d => {d with upd := {d.upd with lock := some (3, 77), item := some { xfer := 6, ikind := 2, totalLen := 4096, blocks := [0] }}})).dev), (3), (77), (5), (6), ({ xfer := 6, ikind := 2, totalLen := 4096, blocks := [0] }), by decide, by decide, by decide, by decide⟩,
  ⟨((shSt [(UPD_STAT_STATE, 0, 2)] {} (fun d => {d with upd := {d.upd with lock := some (3, 77), item := some { xfer := 6, ikind := 2, totalLen := 4096, deck := some (deckOf []) }}})).dev), (3), (77), (5), (6), ({ xfer := 6, ikind := 2, totalLen := 4096, deck := some (deckOf []) }), (deckOf []), by decide, by decide, by decide⟩⟩

/-- The hypotheses of ShuttleSessions can be met. -/
theorem wit_ShuttleSessions : (∃ (s : State) (host : Nat) (number : Nat) (nonce : Nat) (epub : Nat) (x : HalfOpen), s.dev.shtUp = true ∧ s.dev.sht.locked = false ∧ s.dev.rd SHT_STAT_OPEN < 4 ∧ s.dev.sht.half = [] ∧ s.dev.flag KEY_STAT_LCBUSY = false ∧ (s.dev.hostRoles host).isSome = true ∧ s.dev.freeSlot = some 0 ∧ x = ⟨s.dev.sessionNumber number, host, some 0, nonce, s.dev.freeVal 128, epub, s.dev.fresh.freeVal 256⟩) ∧
  (∃ (s : State) (host : Nat) (number : Nat) (nonce : Nat) (epub : Nat), s.dev.shtUp = true ∧ s.dev.sht.locked = true) ∧
  (∃ (s : State) (m : Msg) (x : HalfOpen) (resp : List Byte), s.dev.shtUp = true ∧ (s.dev.sht.half.find? fun x => x.number == m.session) = some x ∧ m.check = .good) ∧
  (∃ (s : State), s.dev.sht.locked = true) ∧
  (∃ (s : State) (number : Nat) (x : HalfOpen), (s.dev.sht.half.find? fun x => x.number == number) = some x ∧ x.slot = none) ∧
  (∃ (s : State) (number : Nat) (k : Nat), s.dev.sessionOf number = some k) ∧
  (∃ (s : State) (m : Msg) (notice : Nat) (k : Nat), s.dev.shtUp = true ∧ s.dev.sessionOf m.session = some k ∧ m.check = .good) ∧
  (∃ (s : State) (number : Nat) (notice : Nat) (k : Nat) (n : Unacked), s.dev.sessionOf number = some k ∧ ((s.dev.session k).unacked.find? fun n => n.seq == notice) = some n ∧ n.resends < 8) ∧
  (∃ (s : State) (number : Nat) (notice : Nat) (k : Nat) (n : Unacked), s.dev.sessionOf number = some k ∧ ((s.dev.session k).unacked.find? fun n => n.seq == notice) = some n ∧ 8 ≤ n.resends) ∧
  (∃ (s : State) (src : Nat), s.dev.shtUp = true) ∧
  (∃ (s : State) (src : Nat) (ident : Nat) (seq : Nat) (data : List Nat), s.dev.shtUp = true) ∧
  (∃ (s : State) (c : Nat × Nat) (i : UpdItem) (x : CloseIn) (p : Dev × Reply), s.dev.upd.closing = some c ∧ s.dev.upd.item = some i ∧ s.dev.closeEnd i x = some p) ∧
  (∃ (s : State) (dst : Nat) (number : Nat) (seq : Nat) (d : Dev), s.dev.key.lcTarget = some (dst, number, seq) ∧ d = (s.dev.lcCarry dst).finish number seq 0 (beBytes [(1, (s.dev.lcCarry dst).lifeState), (3, 0)])) ∧
  (∃ (s : State) (p : Nat × Nat), s.dev.flag REC_STAT_CLEARING = true ∧ s.dev.clearing = some p) :=
  ⟨⟨(runSt [(KEY_LC_STATE, 0, 1), (KEY_STAT_KEYLESS, 0, 0)] id), (15), (9), (5), (6), _, by decide, by decide, by decide, by decide, by decide, by decide, by decide, rfl⟩,
  ⟨(shSt [] {} (fun d => {d with sht := {d.sht with locked := true}})), (3), (9), (5), (6), by decide, by decide⟩,
  ⟨(shSt [(SHT_SESS_STATE, 1, 1)] {} (fun d => {d with sht := {d.sht with half := [⟨80, 4, some 1, 0, 0, 0, 0⟩]}})), (⟨80, 1, .good⟩), (⟨80, 4, some 1, 0, 0, 0, 0⟩), ([]), by decide, by decide, by decide⟩,
  ⟨(shSt [(SHT_STAT_LOCKOUT, 0, 1)] {} (fun d => {d with sht := {d.sht with locked := true}})), by decide⟩,
  ⟨(shSt [(SHT_STAT_HALFOPEN, 0, 1)] {} (fun d => {d with sht := {d.sht with half := [⟨80, 4, none, 0, 0, 0, 0⟩]}})), (80), (⟨80, 4, none, 0, 0, 0, 0⟩), by decide, by decide⟩,
  ⟨(shSt [] {} id), (77), (0), by decide⟩,
  ⟨(shSt [] { unacked := [⟨3, 0x81, [1], 2⟩] } id), (⟨77, 6, .good⟩), (3), (0), by decide, by decide, by decide⟩,
  ⟨(shSt [] { unacked := [⟨3, 0x81, [1], 2⟩] } id), (77), (3), (0), (⟨3, 0x81, [1], 2⟩), by decide, by decide, by decide⟩,
  ⟨(shSt [] { unacked := [⟨3, 0x81, [1], 8⟩] } id), (77), (3), (0), (⟨3, 0x81, [1], 8⟩), by decide, by decide, by decide⟩,
  ⟨(shSt [] {} id), (5), by decide⟩,
  ⟨(shSt [] {} id), (5), (1), (2), ([3]), by decide⟩,
  ⟨(shSt [(UPD_STAT_STATE, 0, 1)] { executing := some (5, .updClose 6) } (fun d => {d with upd := {d.upd with lock := some (3, 77), closing := some (77, 5), item := some { xfer := 6, ikind := 1, totalLen := 4096, blocks := [0], man := some {} }}})), ((77, 5)), ({ xfer := 6, ikind := 1, totalLen := 4096, blocks := [0], man := some {} }), (.image (some 0)), ((((((shSt [(UPD_STAT_STATE, 0, 1)] { executing := some (5, .updClose 6) } (fun d => {d with upd := {d.upd with lock := some (3, 77), closing := some (77, 5), item := some { xfer := 6, ikind := 1, totalLen := 4096, blocks := [0], man := some {} }}})).dev.setUpd { (shSt [(UPD_STAT_STATE, 0, 1)] { executing := some (5, .updClose 6) } (fun d => {d with upd := {d.upd with lock := some (3, 77), closing := some (77, 5), item := some { xfer := 6, ikind := 1, totalLen := 4096, blocks := [0], man := some {} }}})).dev.upd with item := some { xfer := 6, ikind := 1, totalLen := 4096, man := some {} }, closing := none }).updShow).updVerify 0), 0x0035, [0, 0, 0, 0])), by decide, by decide, by decide +kernel⟩,
  ⟨(shSt [] { executing := some (5, .lcChange 3 []) } (fun d => {d with key := {d.key with lcTarget := some (3, 77, 5)}})), (3), (77), (5), _, by decide, rfl⟩,
  ⟨(shSt [(REC_STAT_CLEARING, 0, 1)] { executing := some (5, .recClear) } id), ((77, 5)), by decide, by decide⟩⟩


/-- The hypotheses of FaultCommands can be met. -/
theorem wit_FaultCommands : (∃ (s : State) (n : Nat), s.dev.fwCount (.nor n) = 1) ∧
  (∃ (s : State) (c : CounterId), s.dev.threshOf c ≤ s.dev.fwCount c) ∧
  (∃ (s : State) (addr : Nat), s.dev.coreRuns = true) ∧
  (∃ (s : State) (j : Nat) (n : Nat), s.dev.coreRuns = true ∧ j < 5 ∧ s.dev.coreIndex j = some n ∧ s.dev.joiningOf 1 j = none ∧ s.dev.fwFires (.core j) 3 = false) ∧
  (∃ (s : State) (j : Nat) (n : Nat) (d : Dev), s.dev.coreRuns = true ∧ j < 5 ∧ s.dev.coreIndex j = some n ∧ s.dev.joiningOf 1 j = none ∧ s.dev.fwFires (.core j) 3 = true ∧ d = s.dev.fwEvent (.core j) 3) ∧
  (∃ (s : State) (j : Nat) (n : Nat), s.dev.coreRuns = true ∧ j < 5 ∧ s.dev.pairPart j = some n ∧ s.dev.joiningOf 2 j = none ∧ s.dev.fwFires (.pair j) 3 = false) ∧
  (∃ (s : State) (j : Nat) (n : Nat) (d : Dev), s.dev.coreRuns = true ∧ j < 5 ∧ s.dev.pairPart j = some n ∧ s.dev.joiningOf 2 j = none ∧ s.dev.fwFires (.pair j) 3 = true ∧ d = s.dev.fwEvent (.pair j) 3) ∧
  (∃ (s : State) (j : Nat) (n : Nat) (e : Nat × Nat × Nat × Nat), s.dev.coreRuns = true ∧ j < 5 ∧ s.dev.coreIndex j = some n ∧ s.dev.joiningOf 1 j = some e) ∧
  (∃ (s : State) (j : Nat) (n : Nat) (e : Nat × Nat × Nat × Nat), s.dev.coreRuns = true ∧ j < 5 ∧ s.dev.pairPart j = some n ∧ s.dev.joiningOf 2 j = some e) ∧
  (∃ (s : State) (j : Nat) (n : Nat), s.dev.coreRuns = true ∧ j < 5 ∧ s.dev.coreIndex j = some n ∧ s.dev.joiningOf 1 j = none ∧ s.dev.fwCount (.core j) = 2 ∧ s.dev.idleSpare s.dev.appKind = none) ∧
  (∃ (s : State) (j : Nat) (n : Nat) (p : Nat), s.dev.coreRuns = true ∧ j < 5 ∧ s.dev.pairPart j = some n ∧ s.dev.joiningOf 2 j = none ∧ s.dev.fwCount (.pair j) = 2 ∧ s.dev.idleSpare s.dev.rtKind = some p) ∧
  (∃ (s : State) (addr : Nat) (n : Nat), inSram addr = true ∧ s.dev.coreRuns = true) ∧
  (∃ (s : State) (addr : Nat) (n : Nat), inSram addr = true ∧ s.dev.coreRuns = true) ∧
  (∃ (s : State) (a : Nat), s.dev.coreRuns = true ∧ 0x20000000 ≤ a ∧ a < 0x20A00000) ∧
  (∃ (s : State) (u : Nat), s.dev.coreRuns = true ∧ u < 24 ∧ s.dev.servedBy u = some u ∧ s.dev.fwFires (.can u) 3 = false) ∧
  (∃ (s : State) (u : Nat), s.dev.coreRuns = true ∧ u < 24 ∧ s.dev.servedBy u = some u ∧ s.dev.fwFires (.can u) 3 = true) ∧
  (∃ (s : State) (n : Nat), s.dev.coreRuns = true ∧ n < 2048 ∧ s.dev.fwCount (.nor n) = 0) ∧
  (∃ (s : State) (n : Nat), s.dev.coreRuns = true ∧ n < 2048 ∧ s.dev.fwFires (.nor n) 2 = false) ∧
  (∃ (s : State) (n : Nat), s.dev.coreRuns = true ∧ n < 2048 ∧ s.dev.fwFires (.nor n) 2 = true ∧ (s.dev.fwEvent (.nor n) 2).rd FLT_STAT_NORSP = 0) ∧
  (∃ (s : State), s.dev.coreRuns = true ∧ s.dev.flt.busHeld = false ∧ s.dev.fwFires .busLink 16 = false) ∧
  (∃ (s : State), s.dev.coreRuns = true ∧ s.dev.flt.busHeld = false ∧ s.dev.fwFires .busLink 16 = true ∧ (s.dev.fwEvent .busLink 16).fwFires .busReset 3 = true) :=
  ⟨⟨(runSt [] (fun d => {d with fw := ⟨[(CounterId.key (.nor 5), {count := 1})]⟩})), (5), by decide⟩,
  ⟨(runSt [] (fun d => {d with fw := ⟨[(CounterId.key (.nor 5), {count := 2})]⟩})), (.nor 5), by decide⟩,
  ⟨(runSt [] id), (0x20000040), by decide⟩,
  ⟨(runSt [] (fun d => d.withDeck [(1, 0, .system 0 0x0F 3 1 1 1 10)])), (0), (0), by decide, by decide, by decide, by decide, by decide⟩,
  ⟨(runSt [(FLT_CORECNT_COUNT, 0, 2)] (fun d => d.withDeck [(1, 0, .system 0 0x0F 3 1 1 1 10)])), (0), (0), _, by decide, by decide, by decide, by decide, by decide, rfl⟩,
  ⟨(runSt [] (fun d => d.withDeck [(1, 0, .system 0 0x0F 3 1 1 1 10)])), (0), (0), by decide, by decide, by decide, by decide, by decide⟩,
  ⟨(runSt [(FLT_PAIRCNT_COUNT, 0, 2)] (fun d => d.withDeck [(1, 0, .system 0 0x0F 3 1 1 1 10)])), (0), (0), _, by decide, by decide, by decide, by decide, by decide, rfl⟩,
  ⟨(runSt [] (fun d => ({d with flt := {d.flt with joining := [(1, 1, 4, 0)]}} : Dev).withDeck [(1, 0, .system 0 0x0F 3 1 1 1 10)])), (0), (0), ((1, 1, 4, 0)), by decide, by decide, by decide, by decide⟩,
  ⟨(runSt [] (fun d => ({d with flt := {d.flt with joining := [(2, 1, 4, 0)]}} : Dev).withDeck [(1, 0, .system 0 0x0F 3 1 1 1 10)])), (0), (0), ((2, 1, 4, 0)), by decide, by decide, by decide, by decide⟩,
  ⟨(runSt [(FLT_CORECNT_COUNT, 0, 2), (SYSCTL_CPUMAP_SPARES, 0, 0)] (fun d => d.withDeck [(1, 0, .system 0 0x0F 3 1 1 1 10)])), (0), (0), by decide, by decide, by decide, by decide, by decide, by decide⟩,
  ⟨(runSt [(FLT_PAIRCNT_COUNT, 0, 2), (SYSCTL_CPUMAP_SPARES, 0, 1)] (fun d => d.withDeck [(1, 0, .system 0 0x0F 3 1 1 1 10)])), (0), (0), (2), by decide, by decide, by decide, by decide, by decide, by decide⟩,
  ⟨(runSt [] id), (0x20000040), (4), by decide, by decide⟩,
  ⟨(runSt [] id), (0x20000040), (4), by decide, by decide⟩,
  ⟨(runSt [] id), (0x20000040), by decide, by decide, by decide⟩,
  ⟨(runSt [] id), (5), by decide, by decide, by decide, by decide⟩,
  ⟨(runSt [(FLT_CANCNT_COUNT, 5, 2)] id), (5), by decide, by decide, by decide, by decide⟩,
  ⟨(runSt [] id), (5), by decide, by decide, by decide⟩,
  ⟨(runSt [] id), (5), by decide, by decide, by decide⟩,
  ⟨(runSt [(FLT_STAT_NORSP, 0, 0)] (fun d => {d with fw := ⟨[(CounterId.key (.nor 5), {count := 1})]⟩})), (5), by decide, by decide, by decide, by decide⟩,
  ⟨(runSt [] id), by decide, by decide, by decide⟩,
  ⟨(runSt [(FLT_BUSCNT_COUNT, 0, 15)] (fun d => {d with fw := ⟨[(CounterId.key .busReset, {count := 2})]⟩})), by decide, by decide, by decide, by decide⟩⟩

/-- The hypotheses of RecorderCommands can be met. -/
theorem wit_RecorderCommands : (∃ (s : State) (init : Nat) (code : Nat), s.dev.domainOn 2 = true ∧ init < 10 ∧ s.dev.mayTrigger (s.dev.tag init) code = true) ∧
  (∃ (s : State) (init : Nat) (code : Nat), s.dev.portOpen init = true ∧ s.dev.domainOn 2 = true ∧ s.dev.mayTrigger (s.dev.tag init) code = false) ∧
  (∃ (s : State) (b : Nat), s.dev.deck.running.isNone = false ∧ b < 512 ∧ s.dev.flagi REC_BKT_CODE_EN b = true ∧ s.dev.rdi REC_BKT_FILL b ≠ 0) ∧
  (∃ (s : State), s.dev.deck.running.isNone = false ∧ s.dev.rd REC_CFG_DFILL ≠ 0) ∧
  (∃ (s : State) (r : Staged) (rest : List Staged), s.dev.flag REC_STAT_READY = true ∧ s.dev.flag REC_STAT_CLEARING = false ∧ s.dev.recd.staged = r :: rest ∧ s.dev.rd REC_STAT_HEADSLOT < 16384 ∧ s.dev.rd REC_HEAD_SEQ < 2 ^ 32) ∧
  (∃ (s : State), ((s.dev.flag REC_STAT_READY = false ∨ s.dev.recd.staged = []))) ∧
  (∃ (s : State) (init : Nat) (seq : Nat) (r : RingRec), s.dev.domainOn 2 = true ∧ init < 10 ∧ s.dev.ctxBarred (s.dev.tag init) = false ∧ s.dev.flag REC_STAT_CLEARING = false ∧ s.dev.recd.ring.find (s.dev.slotOf seq) = some r ∧ r.crc = r.calcCrc) ∧
  (∃ (s : State) (init : Nat) (seq : Nat) (r : RingRec), s.dev.domainOn 2 = true ∧ init < 10 ∧ s.dev.ctxBarred (s.dev.tag init) = false ∧ s.dev.flag REC_STAT_CLEARING = false ∧ s.dev.recd.ring.find (s.dev.slotOf seq) = some r ∧ r.crc ≠ r.calcCrc) ∧
  (∃ (s : State), ((s.dev.pwr.state = .run ∨ s.dev.pwr.state = .doze)) ∧ s.dev.rd REC_OPTIMEH_OPTIME < 256 ∧ s.dev.rd REC_OPTIMEL_OPTIME < 2 ^ 32 ∧ s.dev.optime + 1 < 2 ^ 40) ∧
  (∃ (s : State), ((s.dev.pwr.state = .run ∨ s.dev.pwr.state = .doze))) ∧
  (∃ (s : State), s.dev.pwr.state ≠ .run ∧ s.dev.pwr.state ≠ .doze) :=
  ⟨⟨(runSt [(REC_RNG_CODES_LO, 1, 0x1000), (REC_RNG_CODES_HI, 1, 0x10FF), (REC_RNG_CTL_OWNER, 1, 1), (REC_RNG_CTL_EN, 1, 1)] id), (0), (0x1005), by decide, by decide, by decide⟩,
  ⟨(runSt [] id), (0), (0x0410), by decide, by decide, by decide⟩,
  ⟨(runSt [(REC_BKT_CODE_EN, 4, 1), (REC_BKT_FILL, 4, 10), (REC_BKT_FILL_DEPTH, 4, 5), (REC_BKT_STATE_TOKENS, 4, 5)] (fun d => d.withDeck [])), (4), by decide, by decide, by decide, by decide⟩,
  ⟨(runSt [(REC_CFG_DFILL, 0, 3), (REC_CFG_DDEPTH, 0, 9)] (fun d => d.withDeck [])), by decide, by decide⟩,
  ⟨(runSt [(REC_STAT_READY, 0, 1), (REC_STAT_STAGED, 0, 1), (REC_HEAD_SEQ, 0, 0xFFFFFFFF), (REC_STAT_HEADSLOT, 0, 16383)] (fun d => {d with recd := {d.recd with staged := [⟨0x0410, 9, 1, 0, 0, [1,2,3]⟩]}})), (⟨0x0410, 9, 1, 0, 0, [1,2,3]⟩), ([]), by decide, by decide, by decide, by decide, by decide⟩,
  ⟨(runSt [(REC_STAT_READY, 0, 1)] id), by decide⟩,
  ⟨(runSt [(REC_HEAD_SEQ, 0, 1), (REC_STAT_HEADSLOT, 0, 0)] (fun d => {d with recd := {d.recd with ring := ⟨[(0, ⟨1, 0x0410, 9, 1, 0, 0, [1], RingRec.calcCrc ⟨1, 0x0410, 9, 1, 0, 0, [1], 0⟩⟩)]⟩}})), (0), (1), (⟨1, 0x0410, 9, 1, 0, 0, [1], RingRec.calcCrc ⟨1, 0x0410, 9, 1, 0, 0, [1], 0⟩⟩), by decide, by decide, by decide, by decide +kernel, by decide +kernel, by decide +kernel⟩,
  ⟨(runSt [(REC_HEAD_SEQ, 0, 1), (REC_STAT_HEADSLOT, 0, 0)] (fun d => {d with recd := {d.recd with ring := ⟨[(0, ⟨1, 0x0410, 9, 1, 0, 0, [1], 5⟩)]⟩}})), (0), (1), (⟨1, 0x0410, 9, 1, 0, 0, [1], 5⟩), by decide, by decide, by decide, by decide, by decide +kernel, by decide +kernel⟩,
  ⟨(runSt [(REC_OPTIMEL_OPTIME, 0, 0xFFFFFFFF)] id), by decide, by decide, by decide, by decide⟩,
  ⟨(runSt [(REC_OPTIMEL_OPTIME, 0, 0xFFFFFFFF)] id), by decide⟩,
  ⟨(regSt []), by decide, by decide⟩⟩


/-- The hypotheses of TapScans can be met. -/
theorem wit_TapScans : (∃ (s : State) (lands : List Nat) (i : Instr) (ir : Nat) (data : List Nat), (i, ir, data) ∈ [ (Instr.idcode, 0x01, [0x10000000 + s.dev.rd SYSCTL_PARTID_PART * 4096 + 0xCB7]), (.samplePreload lands, 0x02, lands), (.dtmcs, 0x10, []), (.bypass, 0x1F, []), (.wakereq false, 0x17, [])] ∧ s.dev.pwr.state ≠ .off ∧ s.dev.dbg.extest = false ∧ s.dev.tck.tapAllows ir = true) ∧
  (∃ (s : State) (x : Dev), s.dev.pwr.state ≠ .off ∧ s.dev.dbg.extest = false ∧ x = { s.dev.tck with dbg := { s.dev.dbg with ir := 0x16, tck := s.dev.now } }) ∧
  (∃ (s : State) (lands : List Nat), ((s.dev.pwr.state = .run ∨ s.dev.pwr.state = .doze)) ∧ s.dev.rd DBG_STAT_LEVEL = 2 ∧ s.dev.dbg.extest = false ∧ ((∀ b, b < 4 → (s.dev.bk b).keeperOn = false))) ∧
  (∃ (s : State) (lands : List Nat), s.dev.pwr.state ≠ .off ∧ s.dev.dbg.extest = false ∧ s.dev.rd DBG_STAT_LEVEL = 1) ∧
  (∃ (s : State), s.dev.pwr.state = .standby ∧ s.dev.dbg.extest = false ∧ s.dev.lifeState ≠ 5) ∧
  (∃ (s : State) (o : DmiOp), s.dev.pwr.state ≠ .off ∧ s.dev.dbg.extest = false ∧ s.dev.tck.tapAllows 0x11 = true ∧ s.dev.flag KEY_STAT_LCBUSY = false) ∧
  (∃ (s : State) (h : Nat), s.dev.pwr.state ≠ .off ∧ s.dev.dbg.extest = false ∧ s.dev.flag KEY_STAT_LCBUSY = true) ∧
  (∃ (s : State) (o : DmiOp) (lands : List Nat) (level : Nat) (nonce : Nat) (resp : List Byte) (b : Bool) (i : Instr), i ∈ [Instr.idcode, .samplePreload lands, .extest lands, .dtmcs, .dmi o, .dbgchal level nonce, .dbgresp resp, .dbgstat, .wakereq b, .bypass, .ntrst] ∧ s.dev.pwr.state = .off) :=
  ⟨⟨(runSt [(DBG_STAT_LEVEL, 0, 2), (KEY_LC_STATE, 0, 2)] id), ([1]), (.idcode), (1), ([0x10000000 + 0x8840 * 4096 + 0xCB7]), by decide, by decide, by decide, by decide⟩,
  ⟨(runSt [(DBG_STAT_LEVEL, 0, 2), (KEY_LC_STATE, 0, 2)] id), _, by decide, by decide, rfl⟩,
  ⟨(runSt [(DBG_STAT_LEVEL, 0, 2), (KEY_LC_STATE, 0, 2), (TRD_STAT_STATE, 0, 1)] id), ([1, 2]), by decide, by decide, by decide, by decide⟩,
  ⟨(runSt [(DBG_STAT_LEVEL, 0, 1), (KEY_LC_STATE, 0, 2), (TRD_STAT_STATE, 0, 1)] id), ([1, 2]), by decide, by decide, by decide⟩,
  ⟨(devSt [(KEY_LC_STATE, 0, 2), (PWR_STAT_DOMON, 0, 3)] (fun d => {d with pwr := {d.pwr with state := .standby}})), by decide, by decide, by decide⟩,
  ⟨(runSt [(DBG_STAT_LEVEL, 0, 2), (KEY_LC_STATE, 0, 2)] id), (.halt 1), by decide, by decide, by decide, by decide⟩,
  ⟨(runSt [(DBG_STAT_LEVEL, 0, 2), (KEY_LC_STATE, 0, 2), (KEY_STAT_LCBUSY, 0, 1)] id), (1), by decide, by decide, by decide⟩,
  ⟨(devSt [] (fun d => {d with pwr := {d.pwr with state := .off}})), (.halt 0), ([]), (1), (0), ([]), (true), (.ntrst), by decide, by decide⟩⟩

/-- The hypotheses of DebugLevels can be met. -/
theorem wit_DebugLevels : (∃ (s : State) (level : Nat) (nonce : Nat), ((s.dev.pwr.state = .run ∨ s.dev.pwr.state = .doze)) ∧ s.dev.dbg.extest = false ∧ s.dev.rd DBG_STAT_LEVEL ≤ level ∧ s.dev.dbg.locked = false) ∧
  (∃ (s : State) (level : Nat) (nonce : Nat), ((s.dev.pwr.state = .run ∨ s.dev.pwr.state = .doze)) ∧ s.dev.dbg.extest = false ∧ s.dev.rd DBG_STAT_LEVEL ≤ level ∧ s.dev.dbg.locked = true) ∧
  (∃ (s : State) (level : Nat) (nonce : Nat) (resp : List Byte), ((s.dev.pwr.state = .run ∨ s.dev.pwr.state = .doze)) ∧ s.dev.dbg.extest = false ∧ s.dev.dbg.nonce = some (level, nonce) ∧ s.dev.levelAllowed level = true ∧ s.dev.unlockOk level nonce resp = true) ∧
  (∃ (s : State) (resp : List Byte), ((s.dev.pwr.state = .run ∨ s.dev.pwr.state = .doze)) ∧ s.dev.dbg.extest = false ∧ s.dev.dbg.nonce = none ∧ s.dev.fwFires .unlock 3 = false) ∧
  (∃ (s : State) (resp : List Byte), ((s.dev.pwr.state = .run ∨ s.dev.pwr.state = .doze)) ∧ s.dev.dbg.extest = false ∧ s.dev.dbg.nonce = none ∧ s.dev.fwFires .unlock 3 = true) ∧
  (∃ (s : State) (level : Nat) (nonce : Nat) (resp : List Byte), ((s.dev.pwr.state = .run ∨ s.dev.pwr.state = .doze)) ∧ s.dev.dbg.extest = false ∧ s.dev.dbg.nonce = some (level, nonce) ∧ ((s.dev.levelAllowed level = false ∨ s.dev.unlockOk level nonce resp = false)) ∧ s.dev.fwFires .unlock 3 = false) ∧
  (∃ (s : State), s.dev.dbg.locked = true) ∧
  (∃ (s : State) (init : Nat), s.dev.portOpen init = true ∧ s.dev.domainOn 0 = true ∧ s.dev.pwr.state ≠ .off ∧ s.dev.ctxBarred (s.dev.tag init) = false) ∧
  (∃ (s : State), s.dev.pwr.state ≠ .off ∧ s.dev.dbg.extest = false ∧ 1 ≤ s.dev.rd DBG_STAT_LEVEL) :=
  ⟨⟨(runSt [(KEY_LC_STATE, 0, 0)] id), (2), (5), by decide, by decide, by decide, by decide⟩,
  ⟨(runSt [(KEY_LC_STATE, 0, 2)] (fun d => {d with dbg := {d.dbg with locked := true}})), (2), (5), by decide, by decide, by decide, by decide⟩,
  ⟨runSt [(KEY_LC_STATE, 0, 0)] fun d => { d with dbg := { d.dbg with nonce := some (2, 5) } }, 2, 5, hmac factoryKey (beBytes [(1, 2), (1, lsBLANK), (16, 5)] ++ (runSt [(KEY_LC_STATE, 0, 0)] fun d => { d with dbg := { d.dbg with nonce := some (2, 5) } }).dev.moduleId),
    by decide, by decide, by decide, by decide, unlock_blank _ 2 5 (by decide +kernel)⟩,
  ⟨(runSt [(KEY_LC_STATE, 0, 2)] id), ([]), by decide, by decide, by decide, by decide⟩,
  ⟨(runSt [(KEY_LC_STATE, 0, 2)] (fun d => {d with fw := ⟨[(CounterId.key .unlock, {count := 2})]⟩})), ([]), by decide, by decide, by decide, by decide⟩,
  ⟨(runSt [(KEY_LC_STATE, 0, 0)] (fun d => {d with dbg := {d.dbg with nonce := some (2, 5)}})), (2), (5), ([]), by decide, by decide, by decide, by decide +kernel, by decide⟩,
  ⟨(runSt [(DBG_STAT_LOCKLEFT, 0, 300)] (fun d => {d with dbg := {d.dbg with locked := true}, fw := ⟨[(CounterId.key .unlock, {count := 3})]⟩})), by decide⟩,
  ⟨(runSt [(DBG_STAT_LEVEL, 0, 2)] id), (0), by decide, by decide, by decide, by decide⟩,
  ⟨(runSt [(DBG_STAT_LEVEL, 0, 2), (DBG_STAT_HALTED, 0, 5)] (fun d => {d with dbg := {d.dbg with triggers := ⟨[(0, 1)]⟩}})), by decide, by decide, by decide⟩⟩


/-- The hypotheses of PowerStates can be met. -/
theorem wit_PowerStates : (∃ (s : State) (x : BootIn), s.dev.pwr.ordered = true ∧ s.dev.warmOk = true) ∧
  (∃ (s : State) (x : BootIn) (d : Dev), s.dev.pwr.state = .start ∧ s.dev.pwr.sysOn = true ∧ s.dev.pwr.heldReset = false ∧ s.dev.pwr.inRom = false ∧ s.dev.pwr.ordered = false ∧ s.dev.pwr.retries < 3 ∧ d = (s.dev.coreStop true false).wr PWR_STAT_LASTRST 8) ∧
  (∃ (s : State) (x : BootIn) (d : Dev), s.dev.pwr.state = .start ∧ s.dev.pwr.sysOn = true ∧ s.dev.pwr.heldReset = false ∧ s.dev.pwr.inRom = false ∧ s.dev.pwr.ordered = false ∧ 3 ≤ s.dev.pwr.retries ∧ d = (s.dev.coreStop true false).wr PWR_STAT_LASTRST 8) ∧
  (∃ (s : State), s.dev.sysPowered = true) ∧
  (∃ (s : State) (x : BootIn), s.dev.warmOk = true) ∧
  (∃ (s : State) (x : BootIn), s.dev.pwr.state = .start ∧ s.dev.pwr.sysOn = false ∧ s.dev.pwr.heldReset = false) ∧
  (∃ (s : State) (init : Nat), s.dev.portOpen init = true ∧ s.dev.c0Tag init = true ∧ s.dev.pwr.state = .run) ∧
  (∃ (s : State) (init : Nat), s.dev.portOpen init = true ∧ s.dev.c0Tag init = true ∧ s.dev.pwr.state = .doze) ∧
  (∃ (s : State) (init : Nat), s.dev.portOpen init = true ∧ s.dev.c0Tag init = false) ∧
  (∃ (s : State), s.dev.flag NMW_STAT_ALLSLEEP = true ∧ ((s.dev.pwr.state = .run ∨ s.dev.pwr.state = .doze)) ∧ s.dev.flag PWR_STAT_PEND = false ∧ s.dev.debugHold = false) ∧
  (∃ (s : State), s.dev.flag PWR_STAT_PEND = true ∧ ((s.dev.pwr.state = .run ∨ s.dev.pwr.state = .doze)) ∧ s.dev.commitHeld = true) ∧
  (∃ (s : State), s.dev.flag PWR_STAT_PEND = true ∧ ((s.dev.pwr.state = .run ∨ s.dev.pwr.state = .doze)) ∧ s.dev.commitHeld = false) ∧
  (∃ (s : State), s.dev.pwr.state = .standbyEntry ∧ s.dev.pwr.wakeLatched = none) ∧
  (∃ (s : State), s.dev.pwr.state = .standby ∧ s.dev.rd PWR_CFG_HIBAFTER ≠ 0) ∧
  (∃ (s : State) (cause : Nat) (cluster : Nat) (unit : Nat) (rising : Bool), ((s.dev.pwr.state = .standby ∨ s.dev.pwr.state = .hibernate)) ∧ s.dev.wakeSeen cause cluster unit rising = true) ∧
  (∃ (s : State) (cause : Nat) (cluster : Nat) (unit : Nat) (rising : Bool), s.dev.wakeSeen cause cluster unit rising = false) ∧
  (∃ (s : State) (cause : Nat) (mv : Int) (ns : Nat) (x : BootIn), s.dev.tamperArmed cause = true ∧ cause ≤ 1) ∧
  (∃ (s : State) (diff : Int) (ns : Nat) (x : BootIn), s.dev.tamperArmed 2 = true) ∧
  (∃ (s : State) (ns : Nat) (x : BootIn), s.dev.tamperArmed 4 = true) ∧
  (∃ (s : State) (ps : Int) (ns : Nat) (x : BootIn), s.dev.tamperArmed 4 = true ∧ s.dev.pwr.sysOn = true ∧ 0 < ps) ∧
  (∃ (s : State) (mv : Int) (ns : Nat) (x : BootIn), s.dev.tamperArmed 5 = true ∧ s.dev.pwr.sysOn = true) ∧
  (∃ (s : State) (deg : Int) (ns : Nat) (x : BootIn), s.dev.tamperArmed 6 = true) ∧
  (∃ (s : State) (cause : Nat) (value : Int) (ns : Nat) (x : BootIn), s.dev.tamperArmed cause = false) ∧
  (∃ (s : State) (mv : Nat) (ns : Nat) (x : BootIn), s.dev.noAnchor = true ∧ mv < 1800 ∧ 10000 ≤ ns) ∧
  (∃ (s : State) (mv : Nat) (ns : Nat) (x : BootIn), ((1800 ≤ mv ∨ ns < 10000))) ∧
  (∃ (s : State) (mv : Nat) (ns : Nat) (x : BootIn), s.dev.noAnchor = false ∧ mv < 1800 ∧ 10000 ≤ ns) :=
  ⟨⟨(runSt [] (fun d => {d with pwr := {d.pwr with ordered := true, sysOn := true}})), ({}), by decide, by decide⟩,
  ⟨(devSt [] (fun d => {d with pwr := {d.pwr with sysOn := true, retries := 2}})), ({}), _, by decide, by decide, by decide, by decide, by decide, by decide, rfl⟩,
  ⟨(devSt [] (fun d => {d with pwr := {d.pwr with sysOn := true, retries := 3}})), ({}), _, by decide, by decide, by decide, by decide, by decide, by decide, rfl⟩,
  ⟨(runSt [] (fun d => {d with pwr := {d.pwr with sysOn := true}})), by decide⟩,
  ⟨(runSt [] (fun d => {d with pwr := {d.pwr with sysOn := true}})), ({}), by decide⟩,
  ⟨(regSt []), ({}), by decide, by decide, by decide⟩,
  ⟨(runSt [] (fun d => d.withDeck [(6, 0, .contexts [] [⟨1, 0, 0, 1, 0xFFFF, [1]⟩])])), (0), by decide, by decide, by decide⟩,
  ⟨(runSt [(PWR_STAT_STATE, 0, 1)] (fun d => ({d with pwr := {d.pwr with state := .doze}} : Dev).withDeck [(6, 0, .contexts [] [⟨1, 0, 0, 1, 0xFFFF, [1]⟩])])), (0), by decide, by decide, by decide⟩,
  ⟨(runSt [] id), (0), by decide, by decide⟩,
  ⟨(runSt [(NMW_STAT_ALLSLEEP, 0, 1)] id), by decide, by decide, by decide, by decide⟩,
  ⟨(runSt [(PWR_STAT_PEND, 0, 1)] (fun d => {d with pwr := {d.pwr with leases := [1]}})), by decide, by decide, by decide⟩,
  ⟨(runSt [(PWR_STAT_PEND, 0, 1), (SHT_SESS_STATE, 2, 2), (NMW_STAT_ALLSLEEP, 0, 1)] id), by decide, by decide, by decide⟩,
  ⟨(devSt [] (fun d => {d with pwr := {d.pwr with state := .standbyEntry}})), by decide, by decide⟩,
  ⟨(devSt [(PWR_CFG_HIBAFTER, 0, 5)] (fun d => {d with pwr := {d.pwr with state := .standby}})), by decide, by decide⟩,
  ⟨(devSt [] (fun d => {d with pwr := {d.pwr with state := .standby, wakeSrcs := [⟨0, 1, 15, 7⟩]}})), (3), (15), (7), (true), by decide, by decide⟩,
  ⟨(runSt [] id), (3), (15), (7), (true), by decide⟩,
  ⟨(runSt [(KEY_POLICY_TAMPEN, 0, 31), (KEY_LC_STATE, 0, 2)] (fun d => {d with key := {d.key with keepTampen := 31}, pwr := {d.pwr with sysOn := true}})), (1), (2001), (100000), ({}), by decide, by decide⟩,
  ⟨(runSt [(KEY_POLICY_TAMPEN, 0, 31), (KEY_LC_STATE, 0, 2)] (fun d => {d with key := {d.key with keepTampen := 31}, pwr := {d.pwr with sysOn := true}})), (1), (0), ({}), by decide⟩,
  ⟨(runSt [(KEY_POLICY_TAMPEN, 0, 31), (KEY_LC_STATE, 0, 2)] (fun d => {d with key := {d.key with keepTampen := 31}, pwr := {d.pwr with sysOn := true}})), (100000), ({}), by decide⟩,
  ⟨(runSt [(KEY_POLICY_TAMPEN, 0, 31), (KEY_LC_STATE, 0, 2)] (fun d => {d with key := {d.key with keepTampen := 31}, pwr := {d.pwr with sysOn := true}})), (29999), (0), ({}), by decide, by decide, by decide⟩,
  ⟨(runSt [(KEY_POLICY_TAMPEN, 0, 31), (KEY_LC_STATE, 0, 2)] (fun d => {d with key := {d.key with keepTampen := 31}, pwr := {d.pwr with sysOn := true}})), (951), (21), ({}), by decide, by decide⟩,
  ⟨(runSt [(KEY_POLICY_TAMPEN, 0, 31), (KEY_LC_STATE, 0, 2)] (fun d => {d with key := {d.key with keepTampen := 31}, pwr := {d.pwr with sysOn := true}})), (-51), (10000000), ({}), by decide⟩,
  ⟨(regSt []), (1), (3000), (100000), ({}), by decide⟩,
  ⟨(runSt [(KEY_LC_STATE, 0, 0)] id), (1799), (10000), ({}), by decide, by decide, by decide⟩,
  ⟨(regSt []), (1800), (10000), ({}), by decide⟩,
  ⟨(runSt [(KEY_LC_STATE, 0, 2)] (fun d => {d with key := {d.key with anchor := true, keepMarker := true}})), (1799), (10000), ({}), by decide, by decide, by decide⟩⟩

/-- The hypotheses of PowerEvents can be met. -/
theorem wit_PowerEvents : (∃ (s : State), s.dev.sysPowered = true ∧ s.dev.coreRuns = true) ∧
  (∃ (s : State), s.dev.sysPowered = true) ∧
  (∃ (s : State), s.dev.sysPowered = false) ∧
  (∃ (s : State) (ppm : Int), s.dev.sysPowered = true) ∧
  (∃ (s : State) (init : Nat), s.dev.portOpen init = true ∧ s.dev.ctxRuns (s.dev.tag init) = true ∧ ((s.dev.pwr.state = .run ∨ s.dev.pwr.state = .doze)) ∧ s.dev.pwr.leases.contains (s.dev.tag init) = false) ∧
  (∃ (s : State) (init : Nat), s.dev.portOpen init = true ∧ s.dev.ctxRuns (s.dev.tag init) = true) ∧
  (∃ (s : State) (init : Nat), s.dev.portOpen init = true ∧ s.dev.ctxRuns (s.dev.tag init) = false) ∧
  (∃ (s : State) (init : Nat) (k : Nat), s.dev.portOpen init = true ∧ 3 ≤ k ∧ k ≤ 15 ∧ s.dev.ctxBarred (s.dev.tag init) = false) ∧
  (∃ (s : State) (init : Nat) (k : Nat), s.dev.portOpen init = true ∧ k < 3) ∧
  (∃ (s : State) (k : Nat), s.dev.pwr.resetting.contains k = true ∧ k = 15) ∧
  (∃ (s : State) (k : Nat), s.dev.pwr.resetting.contains k = false) ∧
  (∃ (s : State), s.dev.sysPowered = true) ∧
  (∃ (s : State) (h : Nat), s.dev.ctxBarred (s.dev.tag h) = false) ∧
  (∃ (s : State) (init : Nat) (h : Nat) (key : Nat), s.dev.portOpen init = true ∧ init ≠ h) ∧
  (∃ (s : State) (h : Nat), s.dev.dogRuns h = true ∧ s.dev.pwr.warned.contains h = false) ∧
  (∃ (s : State) (h : Nat) (k : Nat) (x : BootIn) (d : Dev), s.dev.dogRuns h = true ∧ d = (s.dev.trig 0x0604 [h]).inc PWR_CNT_WDRESETS ∧ d.flagi PWR_WDCFG_ACTION h = false ∧ d.hartDomain h = some k) ∧
  (∃ (s : State) (h : Nat) (x : BootIn) (d : Dev), s.dev.dogRuns h = true ∧ d = (s.dev.trig 0x0604 [h]).inc PWR_CNT_WDRESETS ∧ d.flagi PWR_WDCFG_ACTION h = true) :=
  ⟨⟨(runSt [] (fun d => {d with pwr := {d.pwr with sysOn := true}})), by decide, by decide⟩,
  ⟨(runSt [] (fun d => {d with pwr := {d.pwr with sysOn := true}})), by decide⟩,
  ⟨(devSt [] (fun d => {d with pwr := {d.pwr with state := .off}})), by decide⟩,
  ⟨(runSt [] (fun d => {d with pwr := {d.pwr with sysOn := true}})), (-3001), by decide⟩,
  ⟨(runSt [] id), (0), by decide, by decide, by decide, by decide⟩,
  ⟨(runSt [(PWR_HOLD_HOLDERS, 0, 2)] (fun d => {d with pwr := {d.pwr with leases := [1, 2]}})), (0), by decide, by decide⟩,
  ⟨(runSt [] id), (1), by decide, by decide⟩,
  ⟨(runSt [] id), (0), (15), by decide, by decide, by decide, by decide⟩,
  ⟨(runSt [] id), (0), (2), by decide, by decide⟩,
  ⟨(runSt [(PWR_STAT_DOMON, 0, 7)] (fun d => {d with pwr := {d.pwr with resetting := [15]}})), (15), by decide, by decide⟩,
  ⟨(runSt [] id), (15), by decide⟩,
  ⟨(runSt [] (fun d => {d with pwr := {d.pwr with sysOn := true}})), by decide⟩,
  ⟨(runSt [] (fun d => {d with pwr := {d.pwr with warned := [0, 1]}})), (0), by decide +kernel⟩,
  ⟨(runSt [] id), (0), (1), (0x4B49434B), by decide +kernel, by decide⟩,
  ⟨(runSt [(PWR_WDCFG_EN, 0, 1)] id), (0), by decide +kernel, by decide⟩,
  ⟨(runSt [(PWR_WDCFG_EN, 0, 1)] (fun d => d.withDeck [(1, 0, .system 0 0x0F 3 1 1 1 10)])), (0), (3), ({}), _, by decide, rfl, by decide +kernel, by decide +kernel⟩,
  ⟨(runSt [(PWR_WDCFG_EN, 0, 1), (PWR_WDCFG_ACTION, 0, 1)] (fun d => d.withDeck [(1, 0, .system 0 0x0F 3 1 1 1 10)])), (0), ({}), _, by decide, rfl, by decide +kernel⟩⟩

/-- The hypotheses of UpdateEvents can be met. -/
theorem wit_UpdateEvents : (∃ (s : State) (l : Nat × Nat), s.dev.upd.lock = some l ∧ ((s.dev.updState = 1 ∨ s.dev.updState = 2)) ∧ s.dev.upd.closing = none) ∧
  (∃ (s : State) (l : Nat × Nat), s.dev.upd.lock = some l ∧ ((s.dev.updState = 3 ∨ s.dev.upd.closing.isSome = true))) ∧
  (∃ (s : State) (i : UpdItem) (ok : Bool), s.dev.upd.item = some i ∧ s.dev.updState = 3 ∧ s.dev.notReady i ok = 0) ∧
  (∃ (s : State) (i : UpdItem) (ok : Bool), s.dev.upd.item = some i ∧ s.dev.updState = 3 ∧ s.dev.notReady i ok ≠ 0) ∧
  (∃ (s : State) (i : UpdItem) (ok : Bool), s.dev.upd.item = some i ∧ s.dev.updState ≠ 3) ∧
  (∃ (s : State) (init : Nat), s.dev.portOpen init = true ∧ s.dev.domainOn 2 = true ∧ s.dev.c0Tag init = true ∧ s.dev.updState = 4 ∧ s.dev.mayConfirm = true) ∧
  (∃ (s : State) (init : Nat) (key : Nat), s.dev.portOpen init = true ∧ s.dev.domainOn 2 = true ∧ key ≠ 0x434F4E46) ∧
  (∃ (s : State), s.dev.coreRuns = true ∧ s.dev.updState = 4 ∧ s.dev.upd.boot.try_ = true) :=
  ⟨⟨(runSt [(UPD_STAT_STATE, 0, 1)] (fun d => {d with upd := {d.upd with lock := some (3, 77), item := some {}}})), ((3, 77)), by decide, by decide, by decide⟩,
  ⟨(runSt [(UPD_STAT_STATE, 0, 3)] (fun d => {d with upd := {d.upd with lock := some (3, 77), item := some {}}})), ((3, 77)), by decide, by decide⟩,
  ⟨(runSt [(UPD_STAT_STATE, 0, 3)] (fun d => {d with upd := {d.upd with lock := some (3, 77), item := some { ikind := 2, deck := some (deckOf []) }, armed := some (77, 5)}})), ({ ikind := 2, deck := some (deckOf []) }), (true), by decide, by decide, by decide⟩,
  ⟨(runSt [(UPD_STAT_STATE, 0, 3)] (fun d => {d with upd := {d.upd with lock := some (3, 77), item := some { ikind := 2, deck := some (deckOf []) }, armed := some (77, 5)}})), ({ ikind := 2, deck := some (deckOf []) }), (false), by decide, by decide, by decide⟩,
  ⟨(runSt [(UPD_STAT_STATE, 0, 1)] (fun d => {d with upd := {d.upd with item := some {}}})), ({}), (true), by decide, by decide⟩,
  ⟨(runSt [(UPD_STAT_STATE, 0, 4)] (fun d => ({d with upd := {d.upd with boot := {d.upd.boot with try_ := true, probDeck := true}}} : Dev).withDeck [(6, 0, .contexts [] [⟨1, 0, 0, 1, 0xFFFF, [1]⟩])])), (0), by decide, by decide, by decide, by decide, by decide⟩,
  ⟨(runSt [] id), (0), (1), by decide, by decide, by decide⟩,
  ⟨(runSt [(UPD_STAT_STATE, 0, 4)] (fun d => {d with upd := {d.upd with boot := {d.upd.boot with try_ := true}}})), by decide, by decide, by decide⟩⟩

end Sys2Proof.Tests
end

section
/-! SUPPORT. Further laws of the sparse store, of memory and of the register file, and what a write does to a field by its access
code (R10, R780). -/

namespace Sys2Proof.Machine

variable {α : Type}

/-! ### The sparse store: equal contents are equal data, and what a range that is forgotten leaves -/

/-- Two stores in canonical form that list the same value at every index are the same list: the lower of two different first
indices would be listed in one store alone. -/
theorem rising_ext : ∀ (lo lo' : Nat) (l l' : List (Nat × α)), risingFrom lo l = true → risingFrom lo' l' = true →
    (∀ k, lookupList k l = lookupList k l') → l = l'
  | _, _, [], [], _, _, _ => rfl
  | _, _, [], (j, u) :: rest, _, _, h => by simpa [lookupList] using h j
  | _, _, (j, u) :: rest, [], _, _, h => by simpa [lookupList] using h j
  | lo, lo', (j, u) :: rest, (k, v) :: rest', hl, hl', h => by
    simp only [risingFrom, Bool.and_eq_true, decide_eq_true_eq] at hl hl'
    obtain ⟨-, hr⟩ := hl
    obtain ⟨-, hr'⟩ := hl'
    rcases lt_trichotomy j k with hjk | rfl | hkj
    · simpa [lookupList, hjk, hjk.ne] using h j
    · have huv : u = v := by simpa [lookupList] using h j
      have hrest : ∀ i, lookupList i rest = lookupList i rest' := fun i => by
        rcases lt_or_ge j i with hi | hi
        · simpa [lookupList, hi.ne', hi.not_gt] using h i
        · rw [lookup_below (j + 1) i rest hr (by omega), lookup_below (j + 1) i rest' hr' (by omega)]
      rw [huv, rising_ext (j + 1) (j + 1) rest rest' hr hr' hrest]
    · simpa [lookupList, hkj, hkj.ne] using h k

theorem Map.ext_find {m n : Map α} (hm : m.wf = true) (hn : n.wf = true) (h : ∀ k, m.find k = n.find k) : m = n := by
  cases m; cases n
  exact congrArg Map.mk (rising_ext 0 0 _ _ hm hn h)

theorem lookup_filter (p : Nat → Bool) (k : Nat) : ∀ (lo : Nat) (l : List (Nat × α)), risingFrom lo l = true →
    lookupList k (l.filter fun e => p e.1) = if p k then lookupList k l else none
  | _, [], _ => by simp [lookupList]
  | lo, (j, u) :: rest, hl => by
    simp only [risingFrom, Bool.and_eq_true, decide_eq_true_eq] at hl
    obtain ⟨-, hr⟩ := hl
    have ih := lookup_filter p k (j + 1) rest hr
    have hlow : k ≤ j → lookupList k rest = none := fun h => lookup_below (j + 1) k rest hr (by omega)
    cases hj : p j
    · rw [List.filter_cons_of_neg (by simp [hj]), ih]
      rcases lt_trichotomy k j with h | rfl | h
      · simp [lookupList, h, h.ne, hlow h.le]
      · simp [hj]
      · simp [lookupList, h.ne', h.not_gt]
    · rw [List.filter_cons_of_pos (by simp [hj])]
      simp only [lookupList, ih]
      rcases lt_trichotomy k j with h | rfl | h
      · simp [h, h.ne]
      · simp [hj]
      · simp [h.ne', h.not_gt]

theorem Map.find_keep (m : Map α) (p : Nat → Bool) (k : Nat) (h : m.wf = true) :
    (m.keep p).find k = if p k then m.find k else none := lookup_filter p k 0 m.items h

/-- A register of a range that is forgotten reads its reset value, any other register as before. -/
theorem Dev.rdi_resetRange (d : Dev) (lo hi : Nat) (f : Field) (i : Nat) (h : d.regs.wf = true) :
    (d.resetRange lo hi).rdi f i =
      if lo * 32 ≤ f.key i % 2 ^ 37 ∧ f.key i % 2 ^ 37 < hi * 32 then f.resetVal i else d.rdi f i := by
  simp only [Dev.rdi, Dev.resetRange, Map.get, Map.find_keep _ _ _ h, ← Bool.decide_and, Bool.not_eq_true', decide_eq_false_iff_not,
    ite_not]
  split_ifs <;> rfl

/-! ### Memory -/

theorem mem_of_lookup {k : Nat} {v : α} : ∀ {l : List (Nat × α)}, lookupList k l = some v → (k, v) ∈ l
  | [], h => nomatch h
  | (j, u) :: rest, h => by
    simp only [lookupList] at h
    split_ifs at h with hk
    · obtain rfl := Option.some.inj h
      exact hk ▸ List.mem_cons_self
    · exact List.mem_cons_of_mem _ (mem_of_lookup h)

/-- Canonical memories that read the same hold the same: a byte that is listed never reads as an unlisted one does. -/
theorem mem_ext_read {m n : List Host.Cell} (hm : memWf m = true) (hn : memWf n = true)
    (h : ∀ a, memRead m a = memRead n a) : m = n := by
  obtain ⟨hmr, hmd⟩ := (memWf_iff m).mp hm
  obtain ⟨hnr, hnd⟩ := (memWf_iff n).mp hn
  refine rising_ext 0 0 m n hmr hnr fun a => ?_
  have ha : (lookupList a m).getD memDefault = (lookupList a n).getD memDefault := h a
  cases hM : lookupList a m <;> cases hN : lookupList a n
  case none.none => rfl
  case none.some b => rw [hM, hN] at ha; exact absurd ha.symm (hnd _ (mem_of_lookup hN))
  case some.none b => rw [hM, hN] at ha; exact absurd ha (hmd _ (mem_of_lookup hM))
  case some.some b c => rw [hM, hN] at ha; exact congrArg some ha

theorem memRead_writeList (b : Nat) : ∀ (l : List Byte) (a : Nat) (m : List Host.Cell), memWf m = true →
    memRead (memWriteList l a m) b = if a ≤ b ∧ b < a + l.length then l.getD (b - a) 0 else memRead m b
  | [], a, m, _ => by rw [if_neg (by simp)]; rfl
  | x :: rest, a, m, h => by
    rw [memWriteList, memRead_writeList b rest (a + 1) _ (memWf_write m a x h), memRead_write m a b x h, List.length_cons]
    rcases lt_trichotomy b a with hb | rfl | hb
    · rw [if_neg (by omega), if_neg (by omega), if_neg (by omega)]
    · rw [if_neg (by omega), if_pos rfl, if_pos (by omega), Nat.sub_self]; rfl
    · obtain ⟨k, rfl⟩ : ∃ k, b = a + 1 + k := ⟨b - (a + 1), by omega⟩
      have hk : a + 1 + k - a = k + 1 := by omega
      rw [if_neg (by omega : a + 1 + k ≠ a), hk, Nat.add_sub_cancel_left, List.getD_cons_succ]
      exact if_congr (by omega) rfl rfl

@[simp] theorem leOf_length : ∀ n v : Nat, (leOf n v).length = n
  | 0, _ => rfl
  | n + 1, v => congrArg (· + 1) (leOf_length n (v / 256))

theorem leVal_leOf : ∀ n v : Nat, v < 256 ^ n → leVal (leOf n v) = v
  | 0, v, h => (Nat.lt_one_iff.mp h).symm
  | n + 1, v, h => by
    have hv : v / 256 < 256 ^ n := Nat.div_lt_of_lt_mul (by rwa [Nat.mul_comm, ← Nat.pow_succ])
    rw [leOf, leVal, leVal_leOf n _ hv, BitVec.toNat_ofNat]
    omega

/-- The bytes written from an address are the bytes read from it. -/
theorem Dev.peek_poke (d : Dev) (a : Nat) (l : List Byte) (h : memWf d.mem = true) : (d.poke a l).peek a l.length = l := by
  refine List.ext_getElem (by simp [Dev.peek, memReadList]) fun k _ hk => ?_
  have hread : memRead (memWriteList l a d.mem) (a + k) = l.getD k 0 := by
    rw [memRead_writeList _ l a _ h, if_pos (by omega), Nat.add_sub_cancel_left]
  simpa [Dev.peek, memReadList, Dev.poke, hk] using hread

/-! ### The access codes (R10, R780) -/

@[simp] theorem mix_testBit (old new mask b : Nat) :
    (mix old new mask).testBit b = if mask.testBit b then new.testBit b else old.testBit b := by
  cases h : mask.testBit b <;> simp [mix, h]

/-- The part of a word that falls on a field, bit by bit. -/
theorem bits_testBit {width b : Nat} (h : b < width) (w lsb : Nat) :
    (bits w (lsb + width - 1) lsb).testBit b = w.testBit (lsb + b) := by
  have hw : lsb + width - 1 + 1 - lsb = width := by omega
  rw [bits, hw, Nat.testBit_mod_two_pow, Nat.testBit_div_two_pow, decide_eq_true h, Bool.true_and, Nat.add_comm]

theorem Dev.wri_testBit (d : Dev) {f : Field} {b : Nat} (h : b < f.width) (i v : Nat) :
    ((d.wri f i v).rdi f i).testBit b = v.testBit b := by
  rw [Dev.rdi_wri, if_pos rfl, Nat.testBit_mod_two_pow, decide_eq_true h, Bool.true_and]

theorem Dev.onlyRegs_wri (d : Dev) (f : Field) (i v : Nat) : d.onlyRegs (d.wri f i v) [(f, i)] :=
  ⟨rfl, fun g j h => by rw [Dev.rdi_wri, if_neg (h _ List.mem_cons_self)]⟩

theorem Dev.onlyRegs_self (d : Dev) (l : List (Field × Nat)) : d.onlyRegs d l := ⟨rfl, fun _ _ _ => rfl⟩

/-- What a write does to a field, one equation per access code. -/
theorem Dev.putField_rw {f : Field} (h : f.acc = .rw ∨ f.acc = .rwl) (d : Dev) (x : RegWrite) (i : Nat) :
    d.putField x f i = d.wri f i (mix (d.rdi f i) (x.at f).1 (x.at f).2) := by
  rcases h with h | h <;> simp [Dev.putField, h]

theorem Dev.putField_w1c {f : Field} (h : f.acc = .w1c) (d : Dev) (x : RegWrite) (i : Nat) :
    d.putField x f i = d.wri f i (mix (d.rdi f i) 0 ((x.at f).1 &&& (x.at f).2)) := by
  simp [Dev.putField, h]

theorem Dev.putField_w1s {f : Field} (h : f.acc = .w1s) (d : Dev) (x : RegWrite) (i : Nat) :
    d.putField x f i = d.wri f i (d.rdi f i ||| ((x.at f).1 &&& (x.at f).2)) := by
  simp [Dev.putField, h]

theorem Dev.putField_kept {f : Field} (h : f.acc = .ro ∨ f.acc = .wo ∨ f.acc = .rc) (d : Dev) (x : RegWrite) (i : Nat) :
    d.putField x f i = d := by
  rcases h with h | h | h <;> simp [Dev.putField, h]

/-- A write changes no field but its own, whatever its access code. -/
theorem Dev.putField_onlyRegs (d : Dev) (x : RegWrite) (f : Field) (i : Nat) : d.onlyRegs (d.putField x f i) [(f, i)] := by
  cases h : f.acc
  case rw => rw [Dev.putField_rw (.inl h)]; exact d.onlyRegs_wri ..
  case rwl => rw [Dev.putField_rw (.inr h)]; exact d.onlyRegs_wri ..
  case w1c => rw [Dev.putField_w1c h]; exact d.onlyRegs_wri ..
  case w1s => rw [Dev.putField_w1s h]; exact d.onlyRegs_wri ..
  case ro => rw [Dev.putField_kept (.inl h)]; exact d.onlyRegs_self _
  case wo => rw [Dev.putField_kept (.inr (.inl h))]; exact d.onlyRegs_self _
  case rc => rw [Dev.putField_kept (.inr (.inr h))]; exact d.onlyRegs_self _

end Sys2Proof.Machine
end

section
/-! SUPPORT. Accesses to the address space: where an address lies, what REGISTER_WRITE and RC_FIELD_READ give, and the places at
which a register is read and written as its fields say. -/

namespace Sys2Proof.Machine

/-! ### Regions (R26, R28, R29) -/

theorem regionOf_sram {a : Nat} (lo : 0x20000000 ≤ a) (hi : a < 0x20A00000) : regionOf a = .sram := by
  unfold regionOf
  iterate 13 rw [if_neg (by omega)]
  rw [if_pos hi]

theorem regionOf_block {a : Nat} (lo : 0x40000000 ≤ a) (h : inBlock a = true) : regionOf a = .block := by
  unfold regionOf
  iterate 16 rw [if_neg (by omega)]
  rw [if_pos h]

/-- REC and UPD are in domain 2 (R29). -/
theorem domainOf_upd {a : Nat} (lo : 0x40900000 ≤ a) (hi : a < 0x40B00000) : domainOf a = 2 := by
  unfold domainOf
  iterate 12 rw [if_neg (by omega)]
  rw [if_pos hi]

/-! ### The result of an access is no part of what the block decides by -/

section
variable (d : Dev) (v : Nat)
@[simp] theorem Dev.answered_answered (u : Nat) : (d.answered v).answered u = d.answered u := rfl
@[simp] theorem Dev.answered_rdi (f : Field) (i : Nat) : (d.answered v).rdi f i = d.rdi f i := rfl
@[simp] theorem Dev.answered_wordAt (a hart : Nat) : (d.answered v).wordAt a hart = d.wordAt a hart := rfl
@[simp] theorem Dev.answered_domainOn (k : Nat) : (d.answered v).domainOn k = d.domainOn k := rfl
@[simp] theorem Dev.answered_tag (init : Nat) : (d.answered v).tag init = d.tag init := rfl
@[simp] theorem Dev.answered_ctxBarred (c : Nat) : (d.answered v).ctxBarred c = d.ctxBarred c := rfl
end

/-! ### What REGISTER_WRITE and RC_FIELD_READ give -/

theorem exec_registerWrite (init a w v : Nat) (s : State) :
    exec (.registerWrite init a w v) s = onDev (fun d => if d.canAccess init then d.writeAt init a w v else d) s := rfl

theorem exec_rcFieldRead (init a w : Nat) (s : State) :
    exec (.rcFieldRead init a w) s = onDev (fun d =>
      if !d.canAccess init then d
      else if d.undeclared (d.tag init) then d.ctxTurnedAway (d.tag init)
      else d.readAt init a w) s := rfl

section
variable {s : State} {init : Nat}

theorem gives_registerWrite (h : s.dev.canAccess init = true) (a w v : Nat) :
    Gives (.registerWrite init a w v) s (s.dev.writeAt init a w v) := by
  rw [Gives, exec_registerWrite, onDev_eq, if_pos h]

theorem gives_rcFieldRead (h : s.dev.canAccess init = true) (hu : s.dev.undeclared (s.dev.tag init) = false) (a w : Nat) :
    Gives (.rcFieldRead init a w) s (s.dev.readAt init a w) := by
  rw [Gives, exec_rcFieldRead, onDev_eq, h, hu]; rfl

/-- A read that carries the number of no declared context is turned away, whatever it reads (R203). -/
theorem gives_rcFieldRead_undeclared (h : s.dev.canAccess init = true) (hu : s.dev.undeclared (s.dev.tag init) = true) (a w : Nat) :
    Gives (.rcFieldRead init a w) s ((s.dev.countRefused (s.dev.tag init)).answered 0) := by
  rw [Gives, exec_rcFieldRead, onDev_eq, h, hu]; rfl

/-- An initiator that can make no access changes nothing (R619). -/
theorem gives_registerWrite_closed (h : s.dev.canAccess init = false) (a w v : Nat) : Gives (.registerWrite init a w v) s s.dev := by
  rw [Gives, exec_registerWrite, onDev_eq, h]; rfl

theorem gives_rcFieldRead_closed (h : s.dev.canAccess init = false) (a w : Nat) : Gives (.rcFieldRead init a w) s s.dev := by
  rw [Gives, exec_rcFieldRead, onDev_eq, h]; rfl

end

/-! ### An access, region by region (R28, R35) -/

section
variable {d : Dev} {init a w : Nat}

theorem Dev.writeAt_hidden (h : regionOf a = .hidden) (v : Nat) : d.writeAt init a w v = (d.answered 0).faulted := by
  simp only [Dev.writeAt, h]

theorem Dev.readAt_hidden (h : regionOf a = .hidden) : d.readAt init a w = (d.answered 0).faulted := by
  simp only [Dev.readAt, h]

theorem Dev.writeAt_sram (h : regionOf a = .sram) (hc : d.ctxBarred (d.tag init) = false) (v : Nat) :
    d.writeAt init a w v = (d.answered 0).memStore a (leOf (w / 8) v) := by
  simp only [Dev.writeAt, h, Dev.storeBy, Dev.answered_tag, Dev.answered_ctxBarred, hc, Bool.false_eq_true, if_false]

theorem Dev.readAt_sram (h : regionOf a = .sram) : d.readAt init a w = (d.answered 0).memLoad a (w / 8) := by
  simp only [Dev.readAt, h]

theorem Dev.writeAt_block (h : regionOf a = .block) (hw : w ≤ 32) (hd : d.domainOn (domainOf a) = true) (v : Nat) :
    d.writeAt init a w v = (d.answered 0).blockWrite init (a / 4 * 4) (regWriteOf a w v) := by
  simp only [Dev.writeAt, h, hw, if_true, Dev.regWrite, Dev.answered_domainOn, hd, Bool.not_true, Bool.false_eq_true, if_false]

theorem Dev.readAt_block (h : regionOf a = .block) (hw : w ≤ 32) (hd : d.domainOn (domainOf a) = true) :
    d.readAt init a w = (d.answered 0).blockRead init a w := by
  simp only [Dev.readAt, h, hw, if_true, Dev.regRead, Dev.answered_domainOn, hd, Bool.not_true, Bool.false_eq_true, if_false]

end

/-! ### Memory without an uncorrectable word -/

/-- A store where no word is marked changes the bytes alone (R28, R734). -/
theorem Dev.memStore_unmarked {d : Dev} (h : d.cpu.marked = []) (a : Nat) (l : List Byte) :
    d.memStore a l = (d.poke a l).answered 0 := by
  have hcpu : d.cpu = { marked := [] } := congrArg CpuState.mk h
  simp only [Dev.memStore, Dev.poke, Dev.answered, hcpu, List.filter_nil]

theorem Dev.memLoad_unmarked {d : Dev} (h : d.cpu.marked = []) (a n : Nat) : d.memLoad a n = d.answered (leVal (d.peek a n)) := by
  have hword : d.markedWord a n = false := by rw [Dev.markedWord, h, List.any_nil]
  rw [Dev.memLoad, hword, if_neg Bool.false_ne_true]

/-! ### Registers that refuse nobody

Above the recorder's window no read is refused, and every register is read as it stands (R234, R613, R658). -/

theorem noticeBind_above {base : Nat} (h : 0x40300000 ≤ base) : noticeBind base = none := by
  unfold noticeBind
  rw [if_neg (by omega), if_neg (by omega), if_neg (by omega)]

theorem aplicAt_above {base : Nat} (h : 0x40300000 ≤ base) : aplicAt base = none := by
  unfold aplicAt
  rw [if_neg (by omega)]

theorem Dev.unfitted_above (d : Dev) {base : Nat} (h : 0x40340000 ≤ base) : d.unfitted base = false := by
  simp [Dev.unfitted, h]

theorem Dev.readRefused_above (d : Dev) (init : Nat) {base : Nat} (h : 0x40900000 ≤ base) : d.readRefused init base = none := by
  simp only [Dev.readRefused, noticeBind_above (show 0x40300000 ≤ base by omega)]
  rw [if_neg (by omega)]

theorem Dev.regValue_above (d : Dev) (init : Nat) {base : Nat} (h : 0x40900100 ≤ base) :
    d.regValue init base = d.wordAt base (recPort init) := by
  unfold Dev.regValue
  rw [if_neg (by omega), if_neg (by omega), if_neg (by omega), if_neg (by omega), if_neg (by omega), if_neg (by omega)]

/-- A read above the recorder's window of a register that is not measured returns its word and clears its RC fields (R10). -/
theorem Dev.blockRead_plain {d : Dev} (init : Nat) {a : Nat} (w : Nat) (h : 0x40900100 ≤ a / 4 * 4) (hm : d.measured (a / 4 * 4) = none) :
    d.blockRead init a w = (d.clearRead (a / 4 * 4) (recPort init) (regWriteOf a w 0)).answered
      (readPart a w (d.wordAt (a / 4 * 4) (recPort init))) := by
  have hwin : ¬ (0x40708000 ≤ a / 4 * 4 ∧ a / 4 * 4 < 0x40709000) := by omega
  simp only [Dev.blockRead, d.unfitted_above (show 0x40340000 ≤ a / 4 * 4 by omega), aplicAt_above (show 0x40300000 ≤ a / 4 * 4 by omega),
    d.readRefused_above init (show 0x40900000 ≤ a / 4 * 4 by omega), hm, noticeBind_above (show 0x40300000 ≤ a / 4 * 4 by omega),
    d.regValue_above init h, if_neg hwin, Option.isSome_none, Bool.false_eq_true, false_and, if_false]

/-- A measured register reads a free value (R724, log entry 11). -/
theorem Dev.blockRead_measured {d : Dev} (init : Nat) {a v : Nat} (w : Nat) (h : 0x40900000 ≤ a / 4 * 4)
    (hm : d.measured (a / 4 * 4) = some v) : d.blockRead init a w = d.fresh.answered (readPart a w v) := by
  simp only [Dev.blockRead, d.unfitted_above (show 0x40340000 ≤ a / 4 * 4 by omega), aplicAt_above (show 0x40300000 ≤ a / 4 * 4 by omega),
    d.readRefused_above init h, hm, Bool.false_eq_true, if_false]

/-- No rule of its own judges a write of initiator `init` to the register at `base`: the write goes to the fields of the register
(R10). -/
structure PlainPlace (init base : Nat) : Prop where
  aplic : aplicAt base = none
  event : ¬ (0x40230000 ≤ base ∧ base < 0x40230200 ∧ (base - 0x40230000) % 0x10 = 0)
  canId : ¬ (0x40400000 ≤ base ∧ base < 0x4041A000 ∧ 0x180 ≤ base % 0x1000 ∧ base % 0x1000 < 0x200)
  keyOp : ¬ (0x40800100 ≤ base ∧ base < 0x40800300)
  dog : ¬ (0x40B00040 ≤ base ∧ base < 0x40B00090 ∧ (base - 0x40B00040) % 8 = 0)
  pwrCfg : base ≠ 0x40B0000C
  row : ownRow (regFields base (recPort init)) = false

theorem Dev.blockWrite_plain {d : Dev} {init base : Nat} (hu : d.unfitted base = false) (hc : d.ctxBarred (d.tag init) = false)
    (h : PlainPlace init base) (x : RegWrite) : d.blockWrite init base x = d.plainWrite base (recPort init) x := by
  obtain ⟨haplic, hevent, hcan, hkey, hdog, hpwr, hrow⟩ := h
  simp only [Dev.blockWrite, hu, hc, haplic, if_neg hevent, if_neg hcan, if_neg hkey, if_neg hdog, if_neg hpwr, hrow,
    Bool.false_eq_true, if_false]

theorem recPort_hart {init : Nat} (h : init < 10) : recPort init = init := if_pos h

/-! ### The registers of UPD -/

section
variable {d : Dev} {init a : Nat}

theorem plainPlace_upd {base : Nat} (h : init < 10) (lo : 0x40A00000 ≤ base) (hi : base < 0x40B00000)
    (hrow : ownRow (regFields base init) = false) : PlainPlace init base where
  aplic := aplicAt_above (by omega)
  event := by omega
  canId := by omega
  keyOp := by omega
  dog := by omega
  pwrCfg := by omega
  row := by rwa [recPort_hart h]

theorem Dev.measured_upd (d : Dev) {base : Nat} (hi : base < 0x40B00000) : d.measured base = none := by
  have hvsup : base ≠ PWR_VSUP_VSUP_LOG.base := (show base < 0x40B00018 by omega).ne
  have htemp : base ≠ PWR_TEMP_TJ.base := (show base < 0x40B0001C by omega).ne
  rw [Dev.measured, if_neg hvsup, if_neg htemp]

variable (hi : init < 10) (hb : regionOf a = .block) (lo : 0x40A00000 ≤ a) (up : a < 0x40B00000) (hd : d.domainOn 2 = true)
include hi hb lo up hd

theorem Dev.writeAt_upd {w : Nat} (hw : w ≤ 32) (hc : d.ctxBarred (d.tag init) = false)
    (hrow : ownRow (regFields (a / 4 * 4) init) = false) (v : Nat) :
    d.writeAt init a w v = (d.answered 0).plainWrite (a / 4 * 4) init (regWriteOf a w v) := by
  have hp : PlainPlace init (a / 4 * 4) := plainPlace_upd hi (by omega) (by omega) hrow
  rw [Dev.writeAt_block hb hw (by rwa [domainOf_upd (by omega) up]),
    Dev.blockWrite_plain (d := d.answered 0) (Dev.unfitted_above _ (by omega)) hc hp, recPort_hart hi]

theorem Dev.readAt_upd {w : Nat} (hw : w ≤ 32) :
    d.readAt init a w = ((d.answered 0).clearRead (a / 4 * 4) init (regWriteOf a w 0)).answered
      (readPart a w (d.wordAt (a / 4 * 4) init)) := by
  rw [Dev.readAt_block hb hw (by rwa [domainOf_upd (by omega) up]),
    Dev.blockRead_plain init w (by omega) (Dev.measured_upd _ (by omega)), recPort_hart hi, Dev.answered_wordAt]

end

theorem regionOf_upd {a : Nat} (lo : 0x40A00000 ≤ a) (hi : a < 0x40A10000) : regionOf a = .block :=
  regionOf_block (by omega) (by simp [inBlock]; omega)

/-! ### Registers without a field (R15) -/

section
variable (d : Dev) {base hart : Nat} (h : regFields base hart = [])
include h

theorem Dev.wordAt_unassigned : d.wordAt base hart = 0 := by rw [Dev.wordAt, h]; rfl

theorem Dev.plainWrite_unassigned (x : RegWrite) : d.plainWrite base hart x = d := by simp [Dev.plainWrite, h]

theorem Dev.clearRead_unassigned (x : RegWrite) : d.clearRead base hart x = d := by rw [Dev.clearRead, h]; rfl

end

end Sys2Proof.Machine
end

section
/-! SUPPORT. The register table: where the fields of a register lie, and that the registers which the deck commit locks lie apart
from those whose writes are judged by a rule of their own (R13). -/

namespace Sys2Proof.Machine

/-! ### Where a field lies

A field is repeated by group and by place in its group. What a register access needs of that is kept to two facts: its places
lie between a first and a last address, and these addresses leave few remainders by the distance at which the module repeats
a block or a channel. -/

/-- The distance of two groups at one address each: the copies of a hart's own register share their address. -/
def Field.groupGap (f : Field) : Nat := if 2 ^ 32 ≤ f.gstride then 0 else f.gstride

/-- The last address at which a field lies. -/
def Field.last (f : Field) : Nat := f.base + (f.count - 1) / f.group * f.groupGap + (f.group - 1) * f.stride

/-- Bounds of the remainders by `p` of the addresses at which a field lies. -/
def Field.window (f : Field) (p : Nat) : Nat × Nat :=
  if f.groupGap % p = 0 ∧ f.stride % p = 0 then (f.base % p, f.base % p)
  else if f.groupGap % p = 0 ∧ f.base % p + (f.group - 1) * f.stride < p then (f.base % p, f.base % p + (f.group - 1) * f.stride)
  else (0, p - 1)

/-- A distance is the whole steps in it and what they leave; with no step it is all left. -/
theorem whole_steps (off step : Nat) :
    off = (if step = 0 then 0 else off / step) * step + (if step = 0 then off else off % step) := by
  split_ifs with h
  · simp
  · exact (Nat.div_add_mod' off step).symm

/-- A field is found at an address only as one of its places in one of its groups. -/
theorem Field.addr_of_instAt {f : Field} {a hart i : Nat} (h : f.instAt a hart = some i) :
    ∃ x y, a = f.base + x * f.groupGap + y * f.stride ∧ x ≤ (f.count - 1) / f.group ∧ y ≤ f.group - 1 := by
  unfold Field.instAt at h
  unfold Field.groupGap
  by_cases hhart : 2 ^ 32 ≤ f.gstride
  case pos =>
    rw [if_pos hhart] at h ⊢
    by_cases hbase : f.base ≤ a
    · by_cases hs : f.stride = 0
      · have hoff : a - f.base = 0 := by simp_all
        exact ⟨0, 0, by omega, Nat.zero_le _, Nat.zero_le _⟩
      · simp only [hbase, hs, if_true, if_false, Option.ite_none_right_eq_some] at h
        obtain ⟨⟨hmod, hlt⟩, -⟩ := h
        have hoff := Nat.div_add_mod' (a - f.base) f.stride
        exact ⟨0, (a - f.base) / f.stride, by omega, Nat.zero_le _, by omega⟩
    · simp [hbase] at h
  case neg =>
    rw [if_neg hhart] at h ⊢
    simp only [Option.ite_none_left_eq_some, Option.ite_none_right_eq_some] at h
    obtain ⟨hbase, ⟨hplace, hgroup, hcount⟩, -⟩ := h
    have hoff := whole_steps (a - f.base) f.gstride
    have hlo := whole_steps (if f.gstride = 0 then a - f.base else (a - f.base) % f.gstride) f.stride
    generalize (if f.gstride = 0 then 0 else (a - f.base) / f.gstride) = x at hoff hcount
    generalize (if f.gstride = 0 then a - f.base else (a - f.base) % f.gstride) = lo at hoff hlo hplace hgroup hcount
    generalize (if f.stride = 0 then 0 else lo / f.stride) = y at hlo hgroup hcount
    have hrest : (if f.stride = 0 then lo else lo % f.stride) = 0 := by
      rcases hplace with ⟨hs, h0⟩ | ⟨hs, h0⟩
      · rwa [if_pos hs]
      · rwa [if_neg hs]
    exact ⟨x, y, by omega, (Nat.le_div_iff_mul_le (by omega)).mpr (by omega), by omega⟩

theorem Field.bounds_of_instAt {f : Field} {a hart i : Nat} (h : f.instAt a hart = some i) : f.base ≤ a ∧ a ≤ f.last := by
  obtain ⟨x, y, ha, hx, hy⟩ := Field.addr_of_instAt h
  have hgroups : x * f.groupGap ≤ (f.count - 1) / f.group * f.groupGap := Nat.mul_le_mul_right _ hx
  have hplaces : y * f.stride ≤ (f.group - 1) * f.stride := Nat.mul_le_mul_right _ hy
  unfold Field.last
  omega

theorem Field.window_of_instAt {f : Field} {a hart i : Nat} (h : f.instAt a hart = some i) {p : Nat} (hp : 0 < p) :
    (f.window p).1 ≤ a % p ∧ a % p ≤ (f.window p).2 := by
  obtain ⟨x, y, ha, -, hy⟩ := Field.addr_of_instAt h
  have hgroups : f.groupGap % p = 0 → a % p = (f.base + y * f.stride) % p := fun hgap => by
    obtain ⟨k, hk⟩ := Nat.dvd_of_mod_eq_zero hgap
    rw [ha, hk, Nat.add_right_comm, show x * (p * k) = p * (x * k) by ring, Nat.add_mul_mod_self_left]
  unfold Field.window
  split_ifs with hfix hrun
  · obtain ⟨hgap, hstride⟩ := hfix
    obtain ⟨k, hk⟩ := Nat.dvd_of_mod_eq_zero hstride
    rw [hgroups hgap, hk, show y * (p * k) = p * (y * k) by ring, Nat.add_mul_mod_self_left]
    exact ⟨le_rfl, le_rfl⟩
  · obtain ⟨hgap, hfit⟩ := hrun
    have hplaces : y * f.stride ≤ (f.group - 1) * f.stride := Nat.mul_le_mul_right _ hy
    have hmod : (f.base + y * f.stride) % p = f.base % p + y * f.stride := by
      rw [Nat.add_mod_eq_ite, Nat.mod_eq_of_lt (a := y * f.stride) (by omega), if_neg (by omega)]
    rw [hgroups hgap, hmod]
    omega
  · have := Nat.mod_lt a hp
    omega

/-! ### The registers that the deck commit locks

The addresses of the registers with an RWL field, as a short list of spans. The registers whose writes are judged by a rule of
their own (`PlainPlace`) lie outside them. -/

/-- The addresses from `lo` to `hi` whose remainder by `period` lies from `first` to `last`. -/
structure Span where
  lo : Nat
  hi : Nat
  period : Nat := 1
  first : Nat := 0
  last : Nat := 0

def Span.has (s : Span) (a : Nat) : Prop := (s.lo ≤ a ∧ a ≤ s.hi) ∧ s.first ≤ a % s.period ∧ a % s.period ≤ s.last

/-- The field lies in the span alone. -/
def Span.covers (s : Span) (f : Field) : Bool :=
  decide (s.lo ≤ f.base) && decide (f.last ≤ s.hi) && decide (0 < s.period) &&
    decide (s.first ≤ (f.window s.period).1) && decide ((f.window s.period).2 ≤ s.last)

/-- The field lies nowhere in the span. -/
def Span.misses (s : Span) (f : Field) : Bool :=
  decide (s.hi < f.base) || decide (f.last < s.lo) ||
    decide (0 < s.period) && (decide (s.last < (f.window s.period).1) || decide ((f.window s.period).2 < s.first))

theorem Span.has_of_covers {s : Span} {f : Field} (h : s.covers f = true) {a hart i : Nat} (ha : f.instAt a hart = some i) :
    s.has a := by
  simp only [Span.covers, Bool.and_eq_true, decide_eq_true_eq] at h
  obtain ⟨⟨⟨⟨hlo, hhi⟩, hp⟩, hfirst⟩, hlast⟩ := h
  have hb := Field.bounds_of_instAt ha
  have hw := Field.window_of_instAt ha hp
  unfold Span.has
  omega

theorem Span.not_has_of_misses {s : Span} {f : Field} (h : s.misses f = true) {a hart i : Nat} (ha : f.instAt a hart = some i) :
    ¬ s.has a := by
  simp only [Span.misses, Bool.or_eq_true, Bool.and_eq_true, decide_eq_true_eq] at h
  have hb := Field.bounds_of_instAt ha
  unfold Span.has
  rcases h with (h | h) | ⟨hp, h⟩
  · omega
  · omega
  · have hw := Field.window_of_instAt ha hp
    omega

/-- The spans of the registers with an RWL field. -/
def lockedSpans : List Span := [
  { lo := 0x40010000, hi := 0x4001FFFF },
  { lo := 0x40300000, hi := 0x403FFFFF, period := 0x80, first := 0, last := 0x1F },
  { lo := 0x40400000, hi := 0x404FFFFF, period := 0x1000, first := 0, last := 0x17 },
  { lo := 0x40400000, hi := 0x404FFFFF, period := 0x1000, first := 0x100, last := 0x17F },
  { lo := 0x40400000, hi := 0x404FFFFF, period := 0x1000, first := 0x200, last := 0x5FF },
  { lo := 0x40500000, hi := 0x40700003 },
  { lo := 0x40701000, hi := 0x40702FFF, period := 0x40, first := 0, last := 0xB },
  { lo := 0x40710000, hi := 0x40710007 },
  { lo := 0x40710040, hi := 0x4071007F },
  { lo := 0x4080000C, hi := 0x4080000F },
  { lo := 0x40801000, hi := 0x40803FFF },
  { lo := 0x40810004, hi := 0x40810007 },
  { lo := 0x40900000, hi := 0x40900003 },
  { lo := 0x40900400, hi := 0x4090FFFF }]

def lockedPlace (a : Nat) : Prop := ∃ s ∈ lockedSpans, s.has a

/-- What the register table says of a field: an RWL field lies in a locked span, a WO field in none. -/
def Field.sorted (f : Field) : Bool :=
  match f.acc with
  | .rwl => lockedSpans.any fun s => s.covers f
  | .wo => lockedSpans.all fun s => s.misses f
  | _ => true

/-- The fields at an address are those of one of the blocks, whose lists are checked one by one. -/
theorem fieldsAt_sorted (a : Nat) : (fieldsAt a).all Field.sorted = true := by
  have block : ∀ {c : Prop} [Decidable c] {l m : List Field}, l.all Field.sorted = true → m.all Field.sorted = true →
      (if c then l else m).all Field.sorted = true := fun hl hm => by split <;> assumption
  unfold fieldsAt
  iterate 16 refine block (by decide) ?_
  decide

theorem rowFields_miss : (rowFields.all fun f => lockedSpans.all fun s => s.misses f) = true := by decide

theorem mem_regFields {a hart : Nat} {p : Field × Nat} (h : p ∈ regFields a hart) :
    p.1 ∈ fieldsAt a ∧ p.1.instAt a hart = some p.2 := by
  obtain ⟨f, hf, hp⟩ := List.mem_filterMap.mp h
  obtain ⟨i, hi, rfl⟩ := Option.map_eq_some_iff.mp hp
  exact ⟨hf, hi⟩

theorem sorted_of_mem_regFields {a hart : Nat} {p : Field × Nat} (h : p ∈ regFields a hart) : p.1.sorted = true :=
  List.all_eq_true.mp (fieldsAt_sorted a) _ (mem_regFields h).1

/-- A register with an RWL field lies in a locked span. -/
theorem lockedPlace_of_rwl {a hart : Nat} (h : ((regFields a hart).any fun p => p.1.acc == .rwl) = true) : lockedPlace a := by
  obtain ⟨p, hp, hacc⟩ := List.any_eq_true.mp h
  have hs := sorted_of_mem_regFields hp
  rw [Field.sorted, eq_of_beq hacc] at hs
  obtain ⟨s, hs, hcov⟩ := List.any_eq_true.mp hs
  exact ⟨s, hs, Span.has_of_covers hcov (mem_regFields hp).2⟩

/-- No register in a locked span is one whose write is a command of its own (log entry 41). -/
theorem ownRow_of_lockedPlace {a : Nat} (h : lockedPlace a) (hart : Nat) : ownRow (regFields a hart) = false := by
  obtain ⟨s, hs, hin⟩ := h
  refine List.any_eq_false.mpr fun p hp hrow => ?_
  have hmiss : (lockedSpans.all fun s => s.misses p.1) = true := by
    rcases Bool.or_eq_true_iff.mp hrow with hwo | hown
    · have hsort := sorted_of_mem_regFields hp
      rwa [Field.sorted, eq_of_beq hwo] at hsort
    · exact List.all_eq_true.mp rowFields_miss p.1 (List.contains_iff_mem.mp hown)
  exact Span.not_has_of_misses (List.all_eq_true.mp hmiss s hs) (mem_regFields hp).2 hin

theorem plainPlace_of_lockedPlace {a : Nat} (h : lockedPlace a) (init : Nat) : PlainPlace init a := by
  have hrow := ownRow_of_lockedPlace h (recPort init)
  simp only [lockedPlace, lockedSpans, List.mem_cons, List.not_mem_nil, or_false, exists_eq_or_imp, exists_eq_left, Span.has] at h
  refine ⟨?aplic, ?event, ?canId, ?keyOp, ?dog, ?pwrCfg, hrow⟩
  case aplic => rw [aplicAt, if_neg (by omega)]
  all_goals omega

/-! ### A write to a locked register (R13) -/

theorem Dev.plainWrite_locked {d : Dev} {base hart : Nat} (h : d.locked = true)
    (hrwl : ((regFields base hart).any fun p => p.1.acc == .rwl) = true) (x : RegWrite) :
    d.plainWrite base hart x = d.inci (accErr base).1 (accErr base).2 := if_pos ⟨h, hrwl⟩

theorem Dev.onlyRegs_inci (d : Dev) (f : Field) (i : Nat) : d.onlyRegs (d.inci f i) [(f, i)] := d.onlyRegs_wri ..

end Sys2Proof.Machine
end

section
/-! CERTIFICATES. The statements of the scope family that are settled. -/

namespace Sys2Proof.Proofs

open Sys2Proof.Machine

/-- Settles O5: the reset state lists no register, no memory and no output (R16, R715). -/
theorem resetCanonical : Obligations.ResetCanonical := ⟨⟨rfl, rfl⟩, rfl, rfl, rfl⟩

/-- Settles O8, by induction on the bytes written, and on the first listed addresses of two memories that read the same. -/
theorem memoryReadsBack : Obligations.MemoryReadsBack := by
  refine ⟨fun d a l b h => memRead_writeList b l a d.mem h, fun d a n v hv h => ?_, fun d a n v hv h => ?_,
    fun m n hm hn hread => mem_ext_read hm hn hread⟩
  · have hback := d.peek_poke a (leOf n v) h
    rw [leOf_length] at hback
    rw [hback, leVal_leOf n v hv]
  · have hback := d.peek_poke a (beOf n v) h
    rw [beOf, List.length_reverse, leOf_length] at hback
    rw [beOf, hback, beVal, List.reverse_reverse, leVal_leOf n v hv]

/-- Settles O9: the register file is a sparse store under the keys of its fields. -/
theorem registersReadBack : Obligations.RegistersReadBack :=
  ⟨Dev.rdi_wri, fun d f i lo hi h => d.rdi_resetRange lo hi f i h, fun _ _ hm hn h => Map.ext_find hm hn h⟩

/-- Settles O12, one access code after the other, each bit of the write taken at its place in the register. -/
theorem accessCodeEffects : Obligations.AccessCodeEffects := by
  intro d x f i b hb
  have hword : (x.at f).1.testBit b = x.word.testBit (f.lsb + b) := bits_testBit hb x.word f.lsb
  have hmask : (x.at f).2.testBit b = x.mask.testBit (f.lsb + b) := bits_testBit hb x.mask f.lsb
  refine ⟨fun h => ?_, fun h => ?_, fun h => ?_, fun h => d.putField_kept h x i, d.putField_onlyRegs x f i⟩
  · rw [Dev.putField_rw h, Dev.wri_testBit d hb, mix_testBit, hword, hmask]
  · rw [Dev.putField_w1c h, Dev.wri_testBit d hb, mix_testBit, Nat.testBit_and, hword, hmask, Nat.zero_testBit, Bool.and_comm]
    split_ifs with hset <;> simp [hset]
  · rw [Dev.putField_w1s h, Dev.wri_testBit d hb, Nat.testBit_or, Nat.testBit_and, hword, hmask, Bool.and_comm (x.word.testBit _)]

/-- Settles O11, access by access: the region, then the register that lies at the address. -/
theorem addressSpaceAccesses : Obligations.AddressSpaceAccesses := by
  refine ⟨?sramWrite, ?sramRead, ?hidden, ?updWrite, ?updRead, ?unassigned, ?undeclared, ?closed, ?measured⟩
  case sramWrite =>
    intro s init a w v ha lo hi hc hm
    refine ⟨_, gives_registerWrite ha a w v, ?_⟩
    rw [Dev.writeAt_sram (regionOf_sram lo hi) hc, Dev.memStore_unmarked (d := s.dev.answered 0) hm]
    exact ⟨rfl, rfl, rfl⟩
  case sramRead =>
    intro s init a w ha hu lo hi hm
    have hload : s.dev.readAt init a w = s.dev.answered (leVal (s.dev.peek a (w / 8))) := by
      rw [Dev.readAt_sram (regionOf_sram lo hi), Dev.memLoad_unmarked (d := s.dev.answered 0) hm]; rfl
    exact hload ▸ gives_rcFieldRead ha hu a w
  case hidden =>
    intro s init a w v ha hu hr
    exact ⟨Dev.writeAt_hidden hr v ▸ gives_registerWrite ha a w v, Dev.readAt_hidden hr ▸ gives_rcFieldRead ha hu a w⟩
  case updWrite =>
    intro s init a w v ha hi hb lo up hw hd hc hrow
    exact Dev.writeAt_upd hi hb lo up hd hw hc hrow v ▸ gives_registerWrite ha a w v
  case updRead =>
    intro s init a w ha hi hb lo up hw hd hu
    exact Dev.readAt_upd hi hb lo up hd hw ▸ gives_rcFieldRead ha hu a w
  case unassigned =>
    intro s init a v ha hi lo up h4 hf hd hc hu
    have hb : regionOf a = .block := regionOf_upd lo up
    have hbase : a / 4 * 4 = a := by omega
    have hread := Dev.readAt_upd hi hb lo (by omega) hd (le_refl 32)
    have hwrite := Dev.writeAt_upd hi hb lo (by omega) hd (le_refl 32) hc (by rw [hbase, hf]; rfl) v
    rw [hbase, Dev.clearRead_unassigned _ hf, Dev.wordAt_unassigned _ hf, readPart, Nat.zero_div, Nat.zero_mod,
      Dev.answered_answered] at hread
    rw [hbase, Dev.plainWrite_unassigned _ hf] at hwrite
    exact ⟨hread ▸ gives_rcFieldRead ha hu a 32, hwrite ▸ gives_registerWrite ha a 32 v⟩
  case undeclared =>
    intro s init a w ha hu
    exact gives_rcFieldRead_undeclared ha hu a w
  case closed =>
    intro s init a w v ha
    exact ⟨gives_registerWrite_closed ha a w v, gives_rcFieldRead_closed ha a w⟩
  case measured =>
    intro s init w ha hu hw hd
    have hread : s.dev.readAt init PWR_VSUP_VSUP_LOG.base w =
        (s.dev.answered 0).fresh.answered (readPart PWR_VSUP_VSUP_LOG.base w (s.dev.freeVal 12)) := by
      rw [Dev.readAt_block (by decide) hw hd, Dev.blockRead_measured init w (by decide) (v := s.dev.freeVal 12) rfl]
    exact hread ▸ gives_rcFieldRead ha hu PWR_VSUP_VSUP_LOG.base w

/-- Settles O13: a register with an RWL field lies in a locked span, so that no rule but the deck's lock judges the write. -/
theorem lockedRegisters : Obligations.LockedRegisters := by
  intro s init a w v ha hi hb hw hd hu hc hlock hrwl
  have hplain : PlainPlace init (a / 4 * 4) := plainPlace_of_lockedPlace (lockedPlace_of_rwl hrwl) init
  refine ⟨_, gives_registerWrite ha a w v, ?_⟩
  rw [Dev.writeAt_block hb hw hd, Dev.blockWrite_plain (d := s.dev.answered 0) hu hc hplain, recPort_hart hi,
    Dev.plainWrite_locked (d := s.dev.answered 0) hlock hrwl]
  refine ⟨?_, rfl, rfl, fun g j hg => ?_⟩
  · rw [Dev.rdi_inci, if_pos rfl, Dev.answered_rdi]
  · exact (Dev.onlyRegs_inci (s.dev.answered 0) _ _).2 g j hg

end Sys2Proof.Proofs
end

section
/-! SUPPORT. What a command can do to the block, said once: every meaning is made of a few primitive changes (`Dev.Leads`), each
operation of the model by one rule that follows its text. Whatever the primitive changes keep, every command keeps. -/

namespace Sys2Proof.Machine

/-- The parts of the block that the primitive changes speak of: registers, memory, what has been sent, and the two counts. -/
def Dev.core (d : Dev) : Map Nat × List Host.Cell × List Out × Nat × Nat := (d.regs, d.mem, d.out, d.free, d.now)

/-- The block `d` leads to another by primitive changes: a field is written, registers are forgotten, bytes are written or
forgotten, something is sent, free values are drawn, or the core is left as it is. -/
inductive Dev.Leads (d : Dev) : Dev → Prop
  | refl : d.Leads d
  | wri {e : Dev} {f : Field} {i v : Nat} : d.Leads e → d.Leads (e.wri f i v)
  | keepRegs {e : Dev} {p : Nat → Bool} : d.Leads e → d.Leads { e with regs := e.regs.keep p }
  | poke {e : Dev} {a : Nat} {l : List Byte} : d.Leads e → d.Leads (e.poke a l)
  | keepMem {e : Dev} {p : Host.Cell → Bool} : d.Leads e → d.Leads { e with mem := e.mem.filter p }
  | sends {e : Dev} {l : List Out} : d.Leads e → d.Leads { e with out := e.out ++ l }
  | draws {e : Dev} {n : Nat} : d.Leads e → d.Leads { e with free := e.free + n }
  | sameCore {e e' : Dev} : d.Leads e → e'.core = e.core → d.Leads e'

namespace Dev

/-! ### What the primitive changes keep -/

variable {d₀ d : Dev}

theorem core_eq (h : d.core = d₀.core) :
    d.regs = d₀.regs ∧ d.mem = d₀.mem ∧ d.out = d₀.out ∧ d.free = d₀.free ∧ d.now = d₀.now := by
  simpa only [core, Prod.mk.injEq] using h

theorem Leads.canonical (h : d₀.Leads d) (hc : d₀.canonical) : d.canonical := by
  induction h with
  | refl => exact hc
  | wri _ ih => exact ⟨Map.wf_set _ _ _ ih.1, ih.2⟩
  | keepRegs _ ih => exact ⟨Map.wf_keep _ _ ih.1, ih.2⟩
  | poke _ ih => exact ⟨ih.1, memWf_writeList _ _ _ ih.2⟩
  | keepMem _ ih => exact ⟨ih.1, memWf_filter _ _ ih.2⟩
  | sends _ ih => exact ih
  | draws _ ih => exact ih
  | sameCore _ same ih =>
    obtain ⟨hregs, hmem, -⟩ := core_eq same
    exact ⟨hregs ▸ ih.1, hmem ▸ ih.2⟩

/-- What is sent stays sent, and the count of free values does not fall. -/
theorem Leads.grows (h : d₀.Leads d) : d₀.grows d := by
  induction h with
  | refl => exact ⟨List.prefix_refl _, le_rfl⟩
  | wri _ ih => exact ih
  | keepRegs _ ih => exact ih
  | poke _ ih => exact ih
  | keepMem _ ih => exact ih
  | sends _ ih => exact ⟨ih.1.trans (List.prefix_append _ _), ih.2⟩
  | draws _ ih => exact ⟨ih.1, ih.2.trans (Nat.le_add_right _ _)⟩
  | sameCore _ same ih =>
    obtain ⟨-, -, hout, hfree, -⟩ := core_eq same
    exact ⟨hout ▸ ih.1, hfree ▸ ih.2⟩

/-- No command passes time. -/
theorem Leads.now_eq (h : d₀.Leads d) : d.now = d₀.now := by
  induction h with
  | refl => rfl
  | sameCore _ same ih => exact (core_eq same).2.2.2.2.trans ih
  | wri _ ih | keepRegs _ ih | poke _ ih | keepMem _ ih | sends _ ih | draws _ ih => exact ih

/-! ### How the rules are put together -/

section
variable (h : d₀.Leads d)
include h

/-- A change of parts outside the core alone. -/
theorem Leads.but {access fw recd deck beat trd sig ctx chan bank can tt swx brg nmw sht cpu key dbg upd pwr flt} :
    d₀.Leads ⟨d.regs, d.mem, d.out, access, d.free, d.now, fw, recd, deck, beat, trd, sig, ctx, chan, bank, can, tt, swx, brg, nmw,
      sht, cpu, key, dbg, upd, pwr, flt⟩ := h.sameCore rfl

theorem Leads.ite {c : Prop} [Decidable c] {a b : Dev} (ha : d₀.Leads d → d₀.Leads a) (hb : d₀.Leads d → d₀.Leads b) :
    d₀.Leads (if c then a else b) := by
  split
  · exact ha h
  · exact hb h

theorem Leads.iteFst {α : Type} {c : Prop} [Decidable c] {a b : Dev × α} (ha : d₀.Leads d → d₀.Leads a.1)
    (hb : d₀.Leads d → d₀.Leads b.1) : d₀.Leads (if c then a else b).1 := by
  split
  · exact ha h
  · exact hb h

theorem Leads.each {α : Type} {l : List α} {f : Dev → α → Dev} (hf : ∀ {e : Dev} {x : α}, d₀.Leads e → d₀.Leads (f e x)) :
    d₀.Leads (d.each l f) := by
  induction l generalizing d with
  | nil => exact h
  | cons x l ih => exact ih (hf h)

omit h in
theorem Leads.pair {α : Type} {e : Dev} {x : α} (h : d₀.Leads e) : d₀.Leads (e, x).1 := h

theorem Leads.eachFst {α β : Type} {l : List α} {b : β} {f : Dev × β → α → Dev × β}
    (hf : ∀ {p : Dev × β} {x : α}, d₀.Leads p.1 → d₀.Leads (f p x).1) : d₀.Leads (l.foldl f (d, b)).1 := by
  suffices hl : ∀ p : Dev × β, d₀.Leads p.1 → d₀.Leads (l.foldl f p).1 from hl _ h
  induction l with
  | nil => exact fun _ h => h
  | cons x l ih => exact fun _ h => ih _ (hf h)

/-! ### Ops -/

theorem Leads.wr {f v} : d₀.Leads (d.wr f v) := h.wri
theorem Leads.addi {f i n} : d₀.Leads (d.addi f i n) := h.wri
theorem Leads.inc {f} : d₀.Leads (d.inc f) := h.addi
theorem Leads.inci {f i} : d₀.Leads (d.inci f i) := h.addi
theorem Leads.setBit {f i n} : d₀.Leads (d.setBit f i n) := h.wri
theorem Leads.clrBit {f i n} : d₀.Leads (d.clrBit f i n) := h.wri
theorem Leads.resetRange {lo hi} : d₀.Leads (d.resetRange lo hi) := h.keepRegs
theorem Leads.when {c f} (hf : ∀ {e}, d₀.Leads e → d₀.Leads (f e)) : d₀.Leads (d.when c f) := h.ite (fun h => hf h) id
theorem Leads.send {o} : d₀.Leads (d.send o) := h.sends
theorem Leads.fresh : d₀.Leads d.fresh := h.draws
theorem Leads.image {addr w} : d₀.Leads (d.image addr w) := h.each (·.ite (·.wri) id)

theorem Leads.fwLeft {c count} : d₀.Leads (d.fwLeft c count) := by
  dsimp only [Dev.fwLeft]
  split
  · exact h.ite (·.wri) (·.ite (·.wri) id)
  · exact h

theorem Leads.fwSet {c count reached} : d₀.Leads (d.fwSet c count reached) := by
  dsimp only [Dev.fwSet]
  split
  · exact h.fwLeft.wri.wri
  · exact h.fwLeft.wri
  · exact h.fwLeft.but

theorem Leads.fwEvent {c thresh} : d₀.Leads (d.fwEvent c thresh) := h.ite id (·.fwSet)
theorem Leads.fwClear {c} : d₀.Leads (d.fwClear c) := h.fwSet
theorem Leads.memForget {lo hi} : d₀.Leads (d.memForget lo hi) := h.keepMem

/-! ### Flags -/

theorem Leads.announce {old} : d₀.Leads (d.announce old) := h.ite (·.sends) id
theorem Leads.announceCore {n} : d₀.Leads (d.announceCore n) := h.sends
theorem Leads.announceAgain {addr} : d₀.Leads (d.announceAgain addr) := h.ite (·.sends) id

/-! ### Trigger -/

theorem Leads.setTokens {code n} : d₀.Leads (d.setTokens code n) := by
  dsimp only [Dev.setTokens]
  split
  · exact h.wri
  · exact h.wr

theorem Leads.setSuppCnt {code n} : d₀.Leads (d.setSuppCnt code n) := by
  dsimp only [Dev.setSuppCnt]
  split
  · exact h.wri
  · exact h.wr

theorem Leads.stage {r} : d₀.Leads (d.stage r) := h.ite (·.but.wr) (·.but.inc.wr)
theorem Leads.accept {code args flags optime} : d₀.Leads (d.accept code args flags optime) := h.setSuppCnt.stage

theorem Leads.trigWith {code args flags optime} : d₀.Leads (d.trigWith code args flags optime) :=
  h.ite (·.ite (·.setSuppCnt.inc.wr) (·.setTokens.accept)) (·.accept)

theorem Leads.trig {code args} : d₀.Leads (d.trig code args) := h.trigWith

theorem Leads.noticeShow {b} : d₀.Leads (d.noticeShow b) := by
  dsimp only [Dev.noticeShow]
  split
  · exact h.wri.wri.wri
  · exact h.wri.wri.wri

theorem Leads.noticeTo {b n} : d₀.Leads (d.noticeTo b n) := h.ite (·.but.noticeShow) (·.inci.wr)

theorem Leads.notice {c kind cls detail} : d₀.Leads (d.notice c kind cls detail) := by
  dsimp only [Dev.notice]
  split
  · exact h.noticeTo
  · exact h

theorem Leads.c0Conflict {c kind} : d₀.Leads (d.c0Conflict c kind) := h.wr.inc.but.notice.trig

theorem Leads.breach {kind owner cls noticeKind detail code args} :
    d₀.Leads (d.breach kind owner cls noticeKind detail code args) :=
  h.inci.wr.notice.trig.ite (·.c0Conflict) id

theorem Leads.lastingBy {write kind action unit} (hwrite : ∀ {e a1 a2}, d₀.Leads e → d₀.Leads (write e a1 a2)) :
    d₀.Leads (d.lastingBy write kind action unit) :=
  hwrite (h.setBit.wr.wr.wr)

theorem Leads.lasting {kind action unit} : d₀.Leads (d.lasting kind action unit) := h.lastingBy (·.trig)

/-! ### BeatOps -/

theorem Leads.idleCause {f} : d₀.Leads (d.idleCause f) := h.wr.but
theorem Leads.lock : d₀.Leads d.lock := h.wr.wr.wr.wr.wr.but
theorem Leads.beatIdle : d₀.Leads d.beatIdle := h.wr.wr.wr.but.wr.trig.idleCause
theorem Leads.qualRef {src} : d₀.Leads (d.qualRef src) := h.ite (·.inc.but) id
theorem Leads.qualBreak {src} : d₀.Leads (d.qualBreak src) := h.ite (·.but) id

theorem Leads.sourceLoss : d₀.Leads d.sourceLoss :=
  h.ite id (·.wr.but.ite id (·.but.wr.inc.trig.ite (·.ite (·.beatIdle) (·.wr.wr.wr.but)) (·.ite (·.beatIdle) id)))

theorem Leads.lossOf {src unit} : d₀.Leads (d.lossOf src unit) := h.ite (·.sourceLoss) id

/-! ### BridgeOps -/

theorem Leads.showWrites {w} : d₀.Leads (d.showWrites w) := h.wri.wri.wr
theorem Leads.readEnds {x st code slot value} : d₀.Leads (d.readEnds x st code slot value) := h.wri.wri.wri.but
theorem Leads.slotFree {s} : d₀.Leads (d.slotFree s) := h.wri.wri.but.wr
theorem Leads.endRead {k} : d₀.Leads (d.endRead k) := h.ite (·.readEnds) (·.ite (·.wri.slotFree) id)

theorem Leads.endReadsIn {c w} : d₀.Leads (d.endReadsIn c w) := by
  unfold Dev.endReadsIn
  extract_lets x mine d₁ d₂
  have h₁ : d₀.Leads d₁ := h.each (·.endRead)
  have h₂ : d₀.Leads d₂ := by
    unfold d₂
    split
    · exact h₁.ite (·.endRead) id
    · exact h₁
  exact h₂.but

theorem Leads.bridgeEndReads {c} : d₀.Leads (d.bridgeEndReads c) := (h.each (·.endReadsIn)).each (·.wri.slotFree)

/-! ### KeyOps -/

theorem Leads.secShow : d₀.Leads d.secShow := h.each (·.wri)
theorem Leads.keyDropPending {k} : d₀.Leads (d.keyDropPending k) := h.wri.ite id (·.but)
theorem Leads.factoryIdentity : d₀.Leads d.factoryIdentity := h.resetRange.resetRange
theorem Leads.keyClear {k code} : d₀.Leads (d.keyClear k code) := (h.but.wri.wri.wri.ite (·.factoryIdentity) id).trig
theorem Leads.keyClearIdle {k} : d₀.Leads (d.keyClearIdle k) := h.ite (·.ite (·.keyClear) (·.ite (·.keyClear) id)) id

theorem Leads.orphanFrom {fuel k} : d₀.Leads (orphanFrom fuel d k) := by
  induction fuel generalizing d k with
  | zero => exact h
  | succ fuel ih =>
    exact h.each fun h => h.ite (·.ite (fun h => (ih h.wri.keyDropPending.wr.trig).keyClearIdle) (·.keyDropPending)) id

theorem Leads.orphanChildren {k} : d₀.Leads (d.orphanChildren k) := h.orphanFrom.secShow
theorem Leads.keyInvalidate {k} : d₀.Leads (d.keyInvalidate k) := h.ite id (·.wri.orphanChildren.keyClearIdle)
theorem Leads.moduleAttrs : d₀.Leads d.moduleAttrs := h.each (·.wri.wri.wri.wri)

theorem Leads.macsecSwitch {k had} : d₀.Leads (d.macsecSwitch k had) :=
  h.each (·.ite (·.ite (·.but.wri.trig) (·.ite (·.but.wri.trig) id)) id)

theorem Leads.identity : d₀.Leads d.identity := (h.each (·.wri)).wr.wr
theorem Leads.keyCommit {k} : d₀.Leads (d.keyCommit k) := h.but.wri.wri.wri.wr.trig.orphanChildren.macsecSwitch.ite (·.identity) id
theorem Leads.keyCount {code} : d₀.Leads (d.keyCount code) := h.ite id (·.ite (·.inc) (·.inc))
theorem Leads.keyDone {n code} : d₀.Leads (d.keyDone n code) := h.wri.wri.wri.clrBit.keyCount.ite (·.ite (·.wr) (·.wr)) id
theorem Leads.keyCountOut {k} : d₀.Leads (d.keyCountOut k) := h.wri.keyClearIdle
theorem Leads.pokeFree {a n} : d₀.Leads (d.pokeFree a n) := h.poke.draws

theorem Leads.keyFail {n code} : d₀.Leads (d.keyFail n code) :=
  h.ite (fun h => (h.ite (·.keyDropPending) (·.ite (·.pokeFree) id)).keyDone.ite (·.keyCountOut) id) id

theorem Leads.keyAbortOf {c} : d₀.Leads (d.keyAbortOf c) := h.each (·.ite (·.keyFail) id)
theorem Leads.keyDestroy {k} : d₀.Leads (d.keyDestroy k) := h.keyInvalidate

/-! ### SignalOps -/

theorem Leads.watchChange {r} : d₀.Leads (d.watchChange r) := h.ite (·.wri.wri) id
theorem Leads.watchStale {r} : d₀.Leads (d.watchStale r) := h.ite (·.wri.wri) id

theorem Leads.sigWrite {r v marks} : d₀.Leads (d.sigWrite r v marks) :=
  h.ite (·.inc) (·.ite (·.but.but) (·.but.ite id (·.watchChange)))

theorem Leads.flipMember {r} : d₀.Leads (d.flipMember r) := h.ite (·.but.but.but.ite id (·.watchChange)) id
theorem Leads.sigPut {init r v} : d₀.Leads (d.sigPut init r v) := h.ite (·.but) (·.sigWrite.ite (·.but) id)
theorem Leads.releaseStalled {g} : d₀.Leads (d.releaseStalled g) := h.but.each (fun h => by split; exacts [h.sigWrite.but, h])
theorem Leads.flipGroup {g} : d₀.Leads (d.flipGroup g) := (h.ite (fun h => (h.each (·.flipMember)).wri) id).wri.releaseStalled

theorem Leads.judge {n} : d₀.Leads (d.judge n) := by
  dsimp only [Dev.judge]
  split
  · exact h
  · exact h.ite id (·.but.inc.watchStale.ite (·.trig) id)

theorem Leads.holdSignal {n} : d₀.Leads (d.holdSignal n) := h.ite id (·.but)
theorem Leads.resetSignal {r} : d₀.Leads (d.resetSignal r) := h.holdSignal.ite (·.but.but) id
theorem Leads.resetSignals {c} : d₀.Leads (d.resetSignals c) := h.each (·.resetSignal)

/-! ### CtxOps -/

theorem Leads.bobPut {q kind payload} : d₀.Leads (d.bobPut q kind payload) := h.ite (·.but) (·.ite (·.but.wri.wri.wr) (·.but.wri))
theorem Leads.bobReturn {q rest n} : d₀.Leads (d.bobReturn q rest n) := h.but.wri.wri.wr

theorem Leads.bobPop {q} : d₀.Leads (d.bobPop q) := by
  dsimp only [Dev.bobPop]
  split
  · exact h
  · exact h.bobReturn

theorem Leads.bobDropNewest {q} : d₀.Leads (d.bobDropNewest q) := by
  dsimp only [Dev.bobDropNewest]
  split
  · exact h
  · exact h.bobReturn.but

theorem Leads.bobEmpty {q} : d₀.Leads (d.bobEmpty q) := h.wr.but.wri.wri.wri.wri
theorem Leads.reclaim {q} : d₀.Leads (d.reclaim q) := h.each (·.ite (·.bobDropNewest) id)

theorem Leads.shrinkDepth {q cls owner} : d₀.Leads (d.shrinkDepth q cls owner) :=
  h.ite id (fun h => (h.wri.wr.each (·.ite (·.bobDropNewest) id)).wri.breach)

theorem Leads.poolFit : d₀.Leads d.poolFit := (h.each (·.reclaim)).each (·.shrinkDepth)

theorem Leads.resetEffects {r} : d₀.Leads (d.resetEffects r) :=
  (h.keyAbortOf.bridgeEndReads.each (·.bobEmpty)).resetSignals.ite (·.but) id

theorem Leads.ctxReset {c cause} : d₀.Leads (d.ctxReset c cause) := by
  dsimp only [Dev.ctxReset]
  split
  · exact h
  · exact h.ite (fun h => ((h.ite (·.fwEvent) id).ite (·.fwClear) id).wri.wri.but.resetEffects) (·.ite (·.but) id)

theorem Leads.resetBound {p} : d₀.Leads (d.resetBound p) := h.each (·.ctxReset)

theorem Leads.countRefused {c} : d₀.Leads (d.countRefused c) := by
  dsimp only [Dev.countRefused]
  split
  · exact h.ite (·.inc) id
  · exact h.inci.ite id (·.ite (·.fwEvent.ctxReset) (·.fwEvent))

theorem Leads.refuse {c f i} : d₀.Leads (d.refuse c f i) := h.ite (·.countRefused) (·.inci.countRefused)
theorem Leads.ctxTurnedAway {c} : d₀.Leads (d.ctxTurnedAway c) := h.countRefused.but
theorem Leads.showBinds : d₀.Leads d.showBinds := h.each (·.wri)

/-! ### ShuttleOps -/

theorem Leads.countOpen : d₀.Leads d.countOpen := h.wr
theorem Leads.sessionEnd {s reason} : d₀.Leads (d.sessionEnd s reason) := h.ite (·.wri.wri.wri.wri.wri.countOpen.but.wr.trig) id

theorem Leads.sendSeq {s' kind cmd seq answers status payload} : d₀.Leads (d.sendSeq s' kind cmd seq answers status payload) :=
  h.send

theorem Leads.sendTo {s' kind cmd answers status payload} : d₀.Leads (d.sendTo s' kind cmd answers status payload) :=
  h.ite (·.sessionEnd) (·.but.sendSeq)

theorem Leads.ackTo {s cmd seq} : d₀.Leads (d.ackTo s cmd seq) := h.sendTo
theorem Leads.replyTo {s cmd seq status payload} : d₀.Leads (d.replyTo s cmd seq status payload) := h.but.sendTo
theorem Leads.noteLost {host} : d₀.Leads (d.noteLost host) := h.inc.wr.trig

theorem Leads.hostNotice {code fields} : d₀.Leads (d.hostNotice code fields) :=
  h.each (·.ite (·.ite (·.but.sendTo) (·.noteLost)) id)

/-! ### Presence -/

theorem Leads.presenceSet {r st} : d₀.Leads (d.presenceSet r st) := h.but.wr.notice.hostNotice

theorem Leads.evidence {r} : d₀.Leads (d.evidence r) := by
  dsimp only [Dev.evidence]
  split
  · exact h.presenceSet
  · exact h
  · exact h.presenceSet.trig

theorem Leads.evidenceOf {p} : d₀.Leads (d.evidenceOf p) := h.each (·.evidence)
theorem Leads.noPartner {c} : d₀.Leads (d.noPartner c) := h.each (·.presenceSet)

/-! ### CanOps -/

theorem Leads.setCanBuf {c b x} : d₀.Leads (d.setCanBuf c b x) := h.but.ite (·.clrBit) (·.setBit)

theorem Leads.canStart {c b} : d₀.Leads (d.canStart c b) := by
  dsimp only [Dev.canStart]
  split
  · exact h.ite (·.setCanBuf) id
  · exact h.inci
  · exact h.setCanBuf.inci

theorem Leads.canAbandon {c b} : d₀.Leads (d.canAbandon c b) := h.setCanBuf.setBit.wri

theorem Leads.canCancel {c b} : d₀.Leads (d.canCancel c b) := by
  dsimp only [Dev.canCancel]
  split
  · exact h
  · exact h.canAbandon
  · exact h.setBit.wri

theorem Leads.canAbandonAll {c} : d₀.Leads (d.canAbandonAll c) := h.each (·.canAbandon)
theorem Leads.canErrState {c} : d₀.Leads (d.canErrState c) := h.ite (·.wri.wri.trig) (·.ite (·.wri.wri) id)
theorem Leads.canRxError {c more} : d₀.Leads (d.canRxError c more) := h.ite id (·.wri.canErrState)
theorem Leads.canBusOff {c} : d₀.Leads (d.canBusOff c) := h.wri.wri.inci.trig.canAbandonAll
theorem Leads.canTecUp {c} : d₀.Leads (d.canTecUp c) := h.wri.ite (·.canBusOff) (·.canErrState)
theorem Leads.canIntegrate {c} : d₀.Leads (d.canIntegrate c) := h.but.but.fwClear.wri.wri.wri.wri.wri.wri.wri.wri.ite (·.wri) id
theorem Leads.canRestart {c} : d₀.Leads (d.canRestart c) := h.but.canIntegrate
theorem Leads.canLeave {c} : d₀.Leads (d.canLeave c) := h.ite (fun h => (h.each (·.setCanBuf)).but.but) (·.canRestart)
theorem Leads.canAfterFrame {c} : d₀.Leads (d.canAfterFrame c) := h.ite (·.canRestart) id
theorem Leads.canTxFail {c b} : d₀.Leads (d.canTxFail c b) := h.setCanBuf.canTecUp.canAfterFrame

/-! ### SwitchOps -/

theorem Leads.cellsIn {k n} : d₀.Leads (d.cellsIn k n) := h.wri.wr
theorem Leads.cellsOut {k n} : d₀.Leads (d.cellsOut k n) := h.wri.wr
theorem Leads.swxFlush {p} : d₀.Leads (d.swxFlush p) := (h.each (·.cellsOut.but)).addi.wri.wr.trig
theorem Leads.swxHoldEnd {p} : d₀.Leads (d.swxHoldEnd p) := h.swxFlush.wri.wri
theorem Leads.swxHold {p} : d₀.Leads (d.swxHold p) := h.wri.wri.ite (·.swxHoldEnd) id

theorem Leads.swxEnqueue {p f colour t src} : d₀.Leads (d.swxEnqueue p f colour t src) := by
  dsimp only [Dev.swxEnqueue]
  split
  · exact h.fresh.inci
  · exact h.fresh.inci
  · exact h.fresh.inci
  · exact h.fresh.cellsIn.but.ite (·.swxHold) id

theorem Leads.swxMeter {i len colour t} : d₀.Leads (d.swxMeter i len colour t).1 := h.but.ite (·.inci) (·.ite (·.inci) id)

theorem Leads.frerTake {r seq} : d₀.Leads (d.frerTake r seq).1 :=
  h.iteFst (·.but) (·.iteFst (·.but.addi) (·.iteFst (·.but) (·.inci)))

theorem Leads.swxFit : d₀.Leads d.swxFit := h.but.each (·.ite id (·.wri.wr.wr.breach))

theorem Leads.swxRelease {o} : d₀.Leads (d.swxRelease o) := by
  dsimp only [Dev.swxRelease]
  split
  · exact h
  · exact ((h.ite (·.but) id).ite (·.swxEnqueue) id).ite (·.swxEnqueue) id

/-! ### Switch -/

theorem Leads.secDrop {p} : d₀.Leads (d.secDrop p) := h.inci.wri

theorem Leads.secIngress {p x} : d₀.Leads (d.secIngress p x).1 :=
  h.iteFst id (·.wri.iteFst (·.secDrop) (·.iteFst (·.but) (·.iteFst (·.but) (·.secDrop.trig))))

theorem Leads.swxLine {e f colour sec} : d₀.Leads (d.swxLine e f colour sec) := h.inci.send
theorem Leads.bridgeFrame {f} : d₀.Leads (d.bridgeFrame f) := h.ite (·.inc) (·.ite (·.inc) (·.but))
theorem Leads.heardAt {p f} : d₀.Leads (d.heardAt p f) := h.ite (·.but) id
theorem Leads.fragmentIn {f} : d₀.Leads (d.fragmentIn f) := h.ite id (·.but)

theorem Leads.swxOut {p f} : d₀.Leads (d.swxOut p f) := by
  unfold Dev.swxOut
  extract_lets d₁ d₂ m d₃ d₄
  have h₁ : d₀.Leads d₁ := h.ite (·.bridgeFrame) (·.ite (·.fragmentIn.heardAt) id)
  have h₂ : d₀.Leads d₂ := h₁.wri
  have h₄ : d₀.Leads d₄ := h₂.but.ite (·.wri.trig) id
  exact h₁.ite (·.swxLine) fun _ => h₂.ite (·.secDrop) (·.ite (·.inci) fun _ => h₄.swxLine)

theorem Leads.swxCut {e f colour t} : d₀.Leads (d.swxCut e f colour t) := by
  dsimp only [Dev.swxCut]
  split
  · exact h.fresh.inci
  · exact h.fresh.inci
  · exact h.fresh.inci
  · exact h.fresh.but.swxOut

theorem Leads.swxFiltered {p fl f t} : d₀.Leads (d.swxFiltered p fl f t) := by
  unfold Dev.swxFiltered
  extract_lets d₁ c pol m colour d₂ r g d₃ x outs
  have h₂ : d₀.Leads d₂ := h.inci.iteFst id (·.swxMeter)
  have h₃ : d₀.Leads d₃ := h₂.iteFst id fun h => by split; exacts [h.inci, h.frerTake]
  refine h₂.ite (·.wr) fun _ => h₃.ite id (·.ite (·.but) fun h => ?_)
  clear_value outs
  split
  · exact h.ite (·.swxCut) (·.swxEnqueue)
  · exact h.each (·.swxEnqueue)

theorem Leads.swxForward {p f t} : d₀.Leads (d.swxForward p f t) := by
  refine h.ite (fun h => ?_) (fun h => ?_)
  · exact h.swxEnqueue
  · split
    · exact h.swxFiltered
    · split
      · exact h.ite (·.each (·.swxEnqueue)) (·.inc.wr)
      · exact h.inc.wr

theorem Leads.swxDeckless {p f} : d₀.Leads (d.swxDeckless p f) := h.ite (·.but.fragmentIn) id

theorem Leads.swxBadFcs {p f t} : d₀.Leads (d.swxBadFcs p f t) := by
  dsimp only [Dev.swxBadFcs]
  split
  · exact h.inci
  · split
    · exact h.inci
    · split
      · exact h.inci
      · split
        · exact h.inci
        · split
          · exact h.inci.ite (·.inci.swxCut) id
          · exact h.inci

theorem Leads.swxIngress {p f x t} : d₀.Leads (d.swxIngress p f x t) := by
  unfold Dev.swxIngress
  extract_lets d₁ s d₂ d₃
  have h₂ : d₀.Leads d₂ := h.inci.secIngress
  have h₃ : d₀.Leads d₃ := h₂.evidenceOf
  refine h.ite (·.inci) (·.ite (·.swxBadFcs) fun _ => h₂.ite id fun _ => h₃.ite id (·.ite (·.swxDeckless) fun h => ?_))
  split
  · exact h.inci
  · exact h.swxForward

theorem Leads.swxAge {k t} : d₀.Leads (d.swxAge k t) := h.ite id (fun h => (h.each (·.cellsOut)).but.addi)

theorem Leads.swxRing {p q t r} (hr : d.swxRing p q t = some r) : d₀.Leads r := by
  dsimp only [Dev.swxRing] at hr
  split_ifs at hr
  · exact Option.some.inj hr ▸ h.but.poke.poke.wri
  · exact Option.some.inj hr ▸ h.but.poke.wri

theorem Leads.swxLinkLost {p t} : d₀.Leads (d.swxLinkLost p t) :=
  h.ite (fun h => (h.but.ite (·.inci.wri.trig) id).wri.wri.trig.ite (·.swxHold) (·.wri)) id

/-! ### Bridge -/

theorem Leads.farSend {bus unit node buf pdu} : d₀.Leads (d.farSend bus unit node buf pdu) :=
  h.ite (·.but.wri.ite id (·.canStart)) (·.swxIngress)

theorem Leads.farRequest {w o} : d₀.Leads (d.farRequest w o) := h.farSend
theorem Leads.winAccept {w off size data} : d₀.Leads (d.winAccept w off size data) := h.wri.but.showWrites
theorem Leads.winUnstall : d₀.Leads d.winUnstall := h.each (·.ite (·.winAccept.but.but) id)
theorem Leads.winRefuse {w} : d₀.Leads (d.winRefuse w) := h.inci.but

theorem Leads.readResult {w k code value} : d₀.Leads (d.readResult w k code value) :=
  h.ite id (·.ite (·.ite (·.readEnds) (·.readEnds)) (·.ite (·.wri.wri.wri.wri) id))

theorem Leads.readFails {w k code} : d₀.Leads (d.readFails w k code) := h.ite id (·.readResult.wri.trig)
theorem Leads.winHalt {w} : d₀.Leads (d.winHalt w) := ((h.but.wri.wri.each (·.readResult)).each (·.but.winRefuse)).showWrites

theorem Leads.farEnds {w o code value} : d₀.Leads (d.farEnds w o code value) := by
  dsimp only [Dev.farEnds]
  split
  · exact h.but.ite (·.showWrites.winUnstall) (·.wri.wri.wri.wri.winHalt.trig.winUnstall)
  · exact h.but.ite (·.readResult) (·.readFails)
  · exact h.but.ite (·.wri) (·.ite (·.but.wri) (·.ite id (·.wri.wri)))
  · split
    · exact h.but
    · split
      · exact h.but.wri.ite (·.evidence) (·.wri.trig)
      · exact h.but.wri.wri.trig

theorem Leads.farAgain {w o busy} : d₀.Leads (d.farAgain w o busy) := h.ite (·.but.inci.farRequest) (·.farEnds)
theorem Leads.winStart {w} : d₀.Leads (d.winStart w) := h.but.wri.showWrites

theorem Leads.winAccess {init w off size write r} (hr : d.winAccess init w off size write = some r) : d₀.Leads r := by
  dsimp only [Dev.winAccess] at hr
  split_ifs at hr
  · exact Option.some.inj hr ▸ h.inc.but
  · exact Option.some.inj hr ▸ h.refuse.but
  · exact Option.some.inj hr ▸ h.inc.but

theorem Leads.farAnswer {w type seq addr data} : d₀.Leads (d.farAnswer w type seq addr data) := by
  refine h.ite (fun h => ?_) (fun h => ?_)
  · exact h.inc
  · refine h.ite id fun h => ?_
    split
    · exact h.inci
    · exact h.ite (·.inci) (·.ite (·.farAgain) (·.ite (·.farEnds) (·.farEnds)))

theorem Leads.winAck {init w f} (hf : ∀ {e}, d₀.Leads e → d₀.Leads (f e)) : d₀.Leads (d.winAck init w f) :=
  h.ite (·.refuse.but) (·.ite (·.inc.but) (fun h => (hf (h.wri)).showWrites.trig.winUnstall.but))

theorem Leads.farIack {w seq size addr code inw} : d₀.Leads (d.farIack w seq size addr code inw) := by
  dsimp only [Dev.farIack]
  split
  · exact h.but.farSend
  · exact h.but.ite (·.farSend) id

theorem Leads.iwriteNew {w ins inw seq size addr data} : d₀.Leads (d.iwriteNew w ins inw seq size addr data) := by
  dsimp only [Dev.iwriteNew]
  split
  · exact h.farIack
  · split
    · exact h.farIack
    · exact h.ite (·.farIack) (·.ite (·.inci.farIack) (·.sigPut.inci.farIack))

theorem Leads.farIwrite {bus unit node seq size addr data} : d₀.Leads (d.farIwrite bus unit node seq size addr data) := by
  dsimp only [Dev.farIwrite]
  split
  · exact h.inc.trig
  · split
    · exact h.ite (·.farIack) (·.iwriteNew)
    · exact h.iwriteNew

theorem Leads.farArrive {bus unit node pdu} : d₀.Leads (d.farArrive bus unit node pdu) := by
  refine h.ite (fun h => ?_) (fun h => ?_)
  · exact h.farIwrite
  · split
    · exact h.inc
    · exact h.farAnswer

theorem Leads.farCan {c f} : d₀.Leads (d.farCan c f) := h.farArrive
theorem Leads.farEth {f} : d₀.Leads (d.farEth f) := h.farArrive
theorem Leads.farDrain : d₀.Leads d.farDrain := h.but.each (·.farEth)

/-! ### TimeTriggered -/

theorem Leads.ttInactive {t} : d₀.Leads (d.ttInactive t) := h.ite (·.but.lossOf) id
theorem Leads.ttAt {t slot} : d₀.Leads (d.ttAt t slot) := h.but.wri
theorem Leads.ttState {t st code} : d₀.Leads (d.ttState t st code) := ((h.ite id (·.ttInactive)).ite (·.ttAt) id).wri.wri.trig
theorem Leads.ttReady {t} : d₀.Leads (d.ttReady t) := h.ttInactive.but.wri.wri
theorem Leads.ttRestart {t} : d₀.Leads (d.ttRestart t) := h.ite id (·.ttReady)
theorem Leads.ttLeave {t} : d₀.Leads (d.ttLeave t) := h.ite (·.ite (·.ttReady) (·.but)) id
theorem Leads.ttSwap {t} : d₀.Leads (d.ttSwap t) := h.ite (·.ttReady) (·.but.ite (·.ttReady) (·.ttLeave))
theorem Leads.ttSleep {t} : d₀.Leads (d.ttSleep t) := h.ite (·.ttReady) (·.ttLeave)
theorem Leads.ttSend {t slot start til k} : d₀.Leads (d.ttSend t slot start til k) := (h.ite id (·.send)).but
theorem Leads.ttBobbin {t i slot x} : d₀.Leads (d.ttBobbin t i slot x) := h.bobPut.ite (·.wri) (·.trig)
theorem Leads.ttTake {t f k} : d₀.Leads (d.ttTake t f k) := h.ite (·.ite (·.inci) id) (·.each (·.ite (·.ttBobbin) (·.but)))
theorem Leads.ttHear {t f} : d₀.Leads (d.ttHear t f) := h.ite (·.ite (·.but) (·.but)) id
theorem Leads.ttAwake {t} : d₀.Leads (d.ttAwake t) := h.wri.wri.wri.wri.fwClear.fwClear.but
theorem Leads.ttMarkError {t} : d₀.Leads (d.ttMarkError t) := h.but.inci.wri.trig
theorem Leads.ttCycle {t cycle} : d₀.Leads (d.ttCycle t cycle) := (h.wri.wri.ite (·.qualRef) id).but

/-! ### SleepOps -/

theorem Leads.standbyCancel : d₀.Leads d.standbyCancel := h.ite (·.wr.wr.trig.but) id
theorem Leads.sleepShow : d₀.Leads d.sleepShow := h.wr.ite id (·.standbyCancel)
theorem Leads.setClState {k st} : d₀.Leads (d.setClState k st) := h.wri.wri.sleepShow

theorem Leads.stretch {k} : d₀.Leads (d.stretch k) := by
  dsimp only [Dev.stretch]
  split
  · exact h.wri.but
  · exact h.wri.but

theorem Leads.holderAdd {k node} : d₀.Leads (d.holderAdd k node) := h.but.stretch
theorem Leads.sleepWait {k} : d₀.Leads (d.sleepWait k) := h.wri

theorem Leads.kaSend {k awake} : d₀.Leads (d.kaSend k awake) :=
  h.ite id (fun h => ((h.but.each (·.but.wri.canStart)).ite (·.swxIngress) id).ite (·.sleepWait) id)

theorem Leads.clAwake {k} : d₀.Leads (d.clAwake k) := h.setClState.sleepWait.ite (·.kaSend) id
theorem Leads.clStarted {k} : d₀.Leads (d.clStarted k) := h.ite (·.clAwake) id

theorem Leads.membersStart {k} : d₀.Leads (d.membersStart k) :=
  (h.each (·.ite (·.canIntegrate) (·.ite (·.wri) id))).setClState.clStarted

theorem Leads.membersStandby {k} : d₀.Leads (d.membersStandby k) := (h.each (·.but.ite id (·.wri))).each (·.swxLinkLost)

theorem Leads.wake {k cause unit} : d₀.Leads (d.wake k cause unit) :=
  h.ite (·.wri.wri.but.inc.trig.clAwake) (·.ite (·.wri.wri.but.wri.trig.but) (·.ite (·.wri.wri.but.wri.trig.membersStart) id))

theorem Leads.wakeEdge {n} : d₀.Leads (d.wakeEdge n) := h.setBit.each (·.wake)

theorem Leads.requestChange {k cause unit had} : d₀.Leads (d.requestChange k cause unit had) :=
  h.stretch.ite (·.ite id (·.ite (·.kaSend) (·.wake))) (·.ite (fun h => (h.ite (·.kaSend) id).sleepWait) id)

theorem Leads.sleepStart {k} : d₀.Leads (d.sleepStart k) := h.setBit.wri.wri.but.membersStart

/-! ### Sleep -/

theorem Leads.kaHeard {k m} : d₀.Leads (d.kaHeard k m) :=
  h.ite id (·.ite (·.ite id (·.holderAdd.wake.sleepWait)) (·.ite (·.holderAdd.wake) (·.ite (·.holderAdd.sleepWait) id)))

theorem Leads.kaReceived {m} : d₀.Leads (d.kaReceived m) := by
  dsimp only [Dev.kaReceived]
  split
  · exact h.ite (·.kaHeard) (·.inc)
  · exact h
  · exact h.inc

theorem Leads.kaDrain : d₀.Leads d.kaDrain := h.but.each (·.kaReceived)
theorem Leads.wakeFrame {k unit node} : d₀.Leads (d.wakeFrame k unit node) := h.holderAdd.wake.sleepWait
theorem Leads.wakeOverflow {k c} : d₀.Leads (d.wakeOverflow k c) := h.but.wri.trig.wake

theorem Leads.sleepBus {c f} : d₀.Leads (d.sleepBus c f) :=
  h.each (fun h => by split; exacts [h.wake, h.ite id (·.ite (·.ite (·.wakeOverflow) (·.but)) (·.ite (·.wakeFrame) id)), h])

/-! ### Can -/

theorem Leads.canQ0 {c k f} : d₀.Leads (d.canQ0 c k f) := h.ite (·.but.inci) (·.ite (·.but) (·.inci.wri.trig))
theorem Leads.canQ1 {c k f} : d₀.Leads (d.canQ1 c k f) := h.ite (·.but) (·.inci.wri.trig)
theorem Leads.canQ1Write {w} : d₀.Leads (d.canQ1Write w) := h.bobPut.ite (·.wri) id
theorem Leads.canQ1Drain : d₀.Leads d.canQ1Drain := h.but.each (·.canQ1Write)
theorem Leads.canReference {c f} : d₀.Leads (d.canReference c f) := h.ite (·.ite (·.but.wri.ite (·.wri.wri.trig) id) id) id
theorem Leads.canRecDown {c} : d₀.Leads (d.canRecDown c) := h.ite id (·.ite (·.wri) (·.wri.fresh.canErrState))
theorem Leads.canException {c f} : d₀.Leads (d.canException c f) := h.ite (·.canRxError) (·.wri.wri.inci.trig)
theorem Leads.canGlobal {c k f} : d₀.Leads (d.canGlobal c k f) := h.ite (·.but.qualRef) id

theorem Leads.canTake {c f} : d₀.Leads (d.canTake c f) := by
  dsimp only [Dev.canTake]
  split
  · exact h.inci
  · exact (h.ite (·.farCan) (·.ite (·.kaReceived) (·.ite (·.canQ1) (·.canQ0.canGlobal)))).ite (·.evidenceOf) id

theorem Leads.canMask {ctx c mask act} (hact : ∀ {e a1}, d₀.Leads e → d₀.Leads (act e a1)) : d₀.Leads (d.canMask ctx c mask act) :=
  h.ite (·.refuse.but) (fun h => ((h.each hact).ite id (·.refuse)).but)

/-! ### ChanOps -/

theorem Leads.bankRec {b code args} : d₀.Leads (d.bankRec b code args) := h.ite (·.ite (·.but) (·.inci)) (·.trig)
theorem Leads.shortEvent {b} : d₀.Leads (d.shortEvent b) := h.wri
theorem Leads.periodPast {m} : d₀.Leads (d.periodPast m) := h.ite (·.but.but) id
theorem Leads.chOnEdge {m} : d₀.Leads (d.chOnEdge m) := h.but.ite (·.but.ite (·.wri.but) id) id

theorem Leads.periodBegin {m} : d₀.Leads (d.periodBegin m) := by
  refine ite (but ?_) (·.but.wri) (·.chOnEdge)
  split
  · exact h.periodPast.wri.wri
  · exact h.periodPast

theorem Leads.setPwm {m f} : d₀.Leads (d.setPwm m f) := h.ite id (·.ite (·.but) (·.ite id (·.ite (·.but) (·.but.wri.wri))))

theorem Leads.periodDrop {m} : d₀.Leads (d.periodDrop m) := by
  refine but ?_
  split
  · exact (h.ite (·.but) id).wri.wri
  · exact h.ite (·.but) id

theorem Leads.chOff {m st} : d₀.Leads (d.chOff m st) := h.periodDrop.but.wri.wri.but
theorem Leads.chOn {m} : d₀.Leads (d.chOn m) := h.wri.wri.wri.but.ite (·.periodBegin) (·.chOnEdge)
theorem Leads.unwait {l} : d₀.Leads (d.unwait l) := h.but.each (·.clrBit)
theorem Leads.startNow {l} : d₀.Leads (d.startNow l) := h.but.unwait.each (·.chOn)
theorem Leads.startDue {l} : d₀.Leads (d.startDue l) := h.ite (·.startNow) (·.but.each (·.wri.setBit.but))
theorem Leads.groupOff {l st} : d₀.Leads (d.groupOff l st) := h.unwait.each (·.chOff)

theorem Leads.obey {l w restart} : d₀.Leads (d.obey l w restart) := by
  dsimp only [Dev.obey]
  split
  · exact ((h.each (·.wri)).ite (·.each (·.wri)) id).ite (·.groupOff) id
  · exact (h.each (·.wri)).ite (·.ite id (·.startDue)) (·.ite (·.ite (·.each (·.periodDrop.chOnEdge)) (·.each (·.but))) id)

theorem Leads.command {l w restart} : d₀.Leads (d.command l w restart) := h.ite (fun h => (h.each (·.wri)).bankRec.obey) (·.obey)
theorem Leads.failState {l} : d₀.Leads (d.failState l) := h.ite (·.command) (·.ite (·.command) (·.command))

theorem Leads.chTrip {m cause pin} : d₀.Leads (d.chTrip m cause pin) :=
  ((h.fwEvent.each (·.chOff.wri.wri.inci.ite (·.wri.inci) id)).but.bankRec.ite (·.bankRec) id).ite id (·.shortEvent)

theorem Leads.tjIdle {m} : d₀.Leads (d.tjIdle m) :=
  (((h.ite (·.groupOff) id).each (·.wri)).wri.inci.ite id (·.but)).bankRec.shortEvent

theorem Leads.holdFail {l} : d₀.Leads (d.holdFail l) := (h.but.each (·.clrBit.setBit)).failState.wri.bankRec
theorem Leads.holdEnd {l} : d₀.Leads (d.holdEnd l) := h.but.each (·.clrBit.clrBit)

theorem Leads.handOver {b} : d₀.Leads (d.handOver b) :=
  h.ite id (·.wri.wri.but.bankRec.each (·.ite (·.ite (·.holdFail) (·.but.each (·.setBit))) id))

theorem Leads.handOverEnd {b} : d₀.Leads (d.handOverEnd b) := h.ite (·.but.wri.bankRec) id

theorem Leads.shedBreach {m logged} : d₀.Leads (d.shedBreach m logged) := by
  unfold Dev.shedBreach
  extract_lets o cls d₁ d₂ d₃
  have h₂ : d₀.Leads d₂ := h.inci.wr.notice
  have h₃ : d₀.Leads d₃ := by
    unfold d₃
    split
    · exact h₂.trigWith
    · exact h₂.trig
  exact h₃.ite (·.c0Conflict) id

theorem Leads.tripLive {p} : d₀.Leads (d.tripLive p) := h.ite (·.chTrip) id
theorem Leads.shed {m} : d₀.Leads (d.shed m) := (h.each (·.setBit)).obey.wri.inci.ite (·.bankRec) (·.shedBreach)

theorem Leads.cellAct {write code m k} (hwrite : ∀ {e a1 a2}, d₀.Leads e → d₀.Leads (write e a1 a2)) :
    d₀.Leads (d.cellAct write code m k) :=
  h.ite (fun h => hwrite ((h.lastingBy hwrite).wr)) (fun h => hwrite ((hwrite ((h.lastingBy hwrite).wr)).wr))

theorem Leads.cellRec {code m k} : d₀.Leads (d.cellRec code m k) := h.ite (·.bankRec) (fun h => (h.cellAct (·.trig)).trig)

theorem Leads.readEvent {x} : d₀.Leads (d.readEvent x) :=
  h.ite (·.shedBreach) (·.ite (fun h => (h.cellAct (·.trigWith)).trigWith) (·.trigWith))

theorem Leads.readLog {b} : d₀.Leads (d.readLog b) := h.but.each (·.readEvent)
theorem Leads.manEnd {l} : d₀.Leads (d.manEnd l) := h.ite (fun h => (h.each (·.but.wri.wri.wri)).but.bankRec.command) id
theorem Leads.manOn {l cmd} : d₀.Leads (d.manOn l cmd) := (h.ite id (fun h => (h.each (·.but.wri)).but.bankRec)).command
theorem Leads.manEndAll : d₀.Leads d.manEndAll := h.each (·.manEnd)
theorem Leads.manWrite {m en cmd} : d₀.Leads (d.manWrite m en cmd) := h.wri.wri.ite (·.manOn) (·.manEnd)

theorem Leads.bankLock {b why recorded} : d₀.Leads (d.bankLock b why recorded) :=
  (h.wri.wri.each (·.unwait.chOff)).wri.ite (·.bankRec) id

theorem Leads.bankUnlock {b} : d₀.Leads (d.bankUnlock b) := (h.each (·.ite (·.wri.wri.but) id)).ite (·.wri) id
theorem Leads.checkStart {b} : d₀.Leads (d.checkStart b) := h.wri.wri.but
theorem Leads.writeOrder {b} : d₀.Leads (d.writeOrder b) := h.wri.wri.wri
theorem Leads.imageChan {b r} : d₀.Leads (d.imageChan b r) := h.each (·.image)
theorem Leads.clearImages {b} : d₀.Leads (d.clearImages b) := h.resetRange.each (·.resetRange)
theorem Leads.dropUnused {m} : d₀.Leads (d.dropUnused m) := h.ite (·.but) (·.unwait.but.clrBit.clrBit.ite (·.chOff) (·.but))

theorem Leads.commitBank {b} : d₀.Leads (d.commitBank b) := by
  unfold Dev.commitBank
  extract_lets d₁ st
  have h₁ : d₀.Leads d₁ := h.clearImages
  refine h.ite id fun _ => ?_
  split
  · extract_lets d₂ d₃ d₄ d₅ differs
    have h₅ : d₀.Leads d₅ := ((h₁.image.image.image.each (·.imageChan)).each (·.dropUnused)).writeOrder
    exact h₅.ite (·.checkStart) (·.ite (fun h => (h.each (·.unwait.chOff)).checkStart)
      (·.ite (·.checkStart) (·.ite (·.checkStart) id)))
  · exact (h₁.each (·.dropUnused)).writeOrder.ite (·.wri) (·.bankLock)

theorem Leads.setCellMap {m ret} : d₀.Leads (d.setCellMap m ret) := (h.ite (·.wri) (·.wri)).wri.but.but
theorem Leads.restoreCells {b} : d₀.Leads (d.restoreCells b) := h.ite (·.setCellMap.setCellMap) id
theorem Leads.keeperReset {b} : d₀.Leads (d.keeperReset b) := ((h.resetRange.each (·.but)).each (·.each (·.fwClear))).but
theorem Leads.keeperReport {b} : d₀.Leads (d.keeperReport b) := h.but.setBit.trig
theorem Leads.keeperRewrite {b} : d₀.Leads (d.keeperRewrite b) := (h.ite (·.commitBank) id).restoreCells.ite (·.keeperReport) id

/-! ### Channels -/

theorem Leads.olTest {l req} : d₀.Leads (d.olTest l req) := h.but.ite (·.but) id

theorem Leads.takeSlot {m f} : d₀.Leads (d.takeSlot m f) :=
  h.ite id (fun h => (((h.ite (·.holdEnd) id).ite (·.each (·.clrBit)) id).ite id (·.each (·.setPwm))).command.olTest)

theorem Leads.takeFrame {b slots} : d₀.Leads (d.takeFrame b slots) := h.each (·.takeSlot)

theorem Leads.frameLost {b} : d₀.Leads (d.frameLost b) :=
  h.inci.fwEvent.ite id (·.ite (·.fwEvent.lasting.fwClear.wri.but.trig.wr.trig) (·.fresh.fwEvent.lasting.trig.fwClear))

theorem Leads.deferStart {m} : d₀.Leads (d.deferStart m) := h.wri.inci.bankRec.startNow

theorem Leads.keeperPick {b} : d₀.Leads (d.keeperPick b) := by
  refine each (h.but.ite (fun h => each ?_ (·.but)) id) (·.ite (·.periodBegin) id)
  split
  · exact (h.each (·.but)).each (·.deferStart)
  · exact ((h.each (·.but)).each (·.deferStart)).ite (·.startNow) id

theorem Leads.returnSense {b} : d₀.Leads (d.returnSense b) := (h.each (·.but)).but

theorem Leads.takeSense {b atMark atMid case vsup} : d₀.Leads (d.takeSense b atMark atMid case vsup) :=
  (h.each (·.wri.wri.wri.wri)).fresh.wri.wri.but

theorem Leads.convert {b ns atMark atMid case vsup} : d₀.Leads (d.convert b ns atMark atMid case vsup) :=
  h.returnSense.ite (·.takeSense.ite (·.returnSense) id) (·.but)

theorem Leads.highEnd {m} : d₀.Leads (d.highEnd m) := h.but.but.wri

theorem Leads.restartPwm {m} : d₀.Leads (d.restartPwm m) := by
  dsimp only [Dev.restartPwm]
  split
  · exact h
  · exact h.periodPast.but.wri.wri.ite (·.periodBegin) id

/-! ### Banks -/

theorem Leads.shedAmong {pick trips} : d₀.Leads (d.shedAmong pick trips) := by
  dsimp only [Dev.shedAmong]
  split
  · exact (h.each (·.tripLive)).shed
  · exact h.each (·.tripLive)

theorem Leads.thermalShed {b broken cur trips} : d₀.Leads (d.thermalShed b broken cur trips) := h.shedAmong.ite (·.but) id
theorem Leads.thermShow {b} : d₀.Leads (d.thermShow b) := h.wri

theorem Leads.retire {m k spareOk} : d₀.Leads (d.retire m k spareOk) :=
  h.ite (·.setCellMap.wri.cellRec) (·.setCellMap.ite (·.wri.cellRec.obey) (·.wri.cellRec))

/-! ### Contexts -/

theorem Leads.routedClear {init value n src f} : d₀.Leads (d.routedClear init value n src f) := h.ite (·.wr) id
theorem Leads.routedRefuse {init value srcs f} : d₀.Leads (d.routedRefuse init value srcs f) := h.ite (·.refuse) id
theorem Leads.ctxRefuse {init} : d₀.Leads (d.ctxRefuse init) := h.refuse

theorem Leads.ownOrder {init ctx f} (hf : ∀ {e}, d₀.Leads e → d₀.Leads (f e)) : d₀.Leads (d.ownOrder init ctx f) :=
  h.ite (fun h => hf h) (·.ctxRefuse)

theorem Leads.stateChanged {c} : d₀.Leads (d.stateChanged c) := h.wr.hostNotice
theorem Leads.timerLoad {k} : d₀.Leads (d.timerLoad k) := h.wri.but
theorem Leads.timerExpire {k} : d₀.Leads (d.timerExpire k) := h.wri.wri.but.ite (·.timerLoad) id
theorem Leads.timerPicks {n} : d₀.Leads (d.timerPicks n) := h.each (·.ite (·.timerExpire) (·.wri))

/-! ### TreadleOps -/

theorem Leads.setHalf {x} : d₀.Leads (d.setHalf x) := h.ite (·.but) (·.but)
theorem Leads.dropEntry {idx n} : d₀.Leads (d.dropEntry idx n) := h.but.inci.wr.wr.wr.ite (·.wr.idleCause) id
theorem Leads.shedCheck : d₀.Leads d.shedCheck := h.each (·.ite (fun h => by split; exacts [h.dropEntry, h]) id)
theorem Leads.dropRecord : d₀.Leads d.dropRecord := h.ite id (·.addi.wr.notice.trig)

theorem Leads.sendFrames : d₀.Leads d.sendFrames :=
  (h.each (·.ite (·.but) (·.ite (·.but) id))).but.each (·.ite (·.but.send.each (·.ite (·.but) id)) id)

theorem Leads.releaseObjects : d₀.Leads d.releaseObjects := h.ite (·.each (·.swxRelease)) (·.each (·.swxRelease.but))

theorem Leads.finishPick : d₀.Leads d.finishPick :=
  h.ite id (fun h => ((h.each (·.flipGroup)).releaseObjects.sendFrames.wr.ite (·.wr.wr) id).dropRecord)

theorem Leads.weftEnd : d₀.Leads d.weftEnd := h.ite id (·.each (·.flipGroup))
theorem Leads.entryTaken {idx op} : d₀.Leads (d.entryTaken idx op) := h.but.wr

theorem Leads.entryDone {idx op e ran} : d₀.Leads (d.entryDone idx op e ran) :=
  ((h.ite (·.wr.wr.wr) id).ite id (·.weftEnd)).ite (·.finishPick) id

theorem Leads.runEntry {idx op f} (hf : ∀ {e a1}, d₀.Leads e → d₀.Leads (f e a1).1) : d₀.Leads (d.runEntry idx op f) := by
  dsimp only [Dev.runEntry]
  split
  · exact h.ite (fun h => (hf (h.entryTaken)).entryDone) id
  · exact h

theorem Leads.readSource {n e} : d₀.Leads (d.readSource n e).1 := by
  dsimp only [Dev.readSource]
  split
  · split
    · split
      · exact h.judge.inc
      · exact h.judge
    · exact h.judge
  · exact h.judge

theorem Leads.setLastVer {idx v} : d₀.Leads (d.setLastVer idx v) := h.setHalf
theorem Leads.fresh? {idx v e} : d₀.Leads (d.fresh? idx v e).1 := h.iteFst (·.iteFst (·.inc) (·.setLastVer)) id

theorem Leads.entryWrite {n v marks} : d₀.Leads (d.entryWrite n v marks) := by
  dsimp only [Dev.entryWrite]
  split
  · exact h.sigWrite
  · exact h

theorem Leads.saturate {sat e} : d₀.Leads (d.saturate sat e) := h.ite (·.inc.ite (·.wr) id) id
theorem Leads.refuseEntry : d₀.Leads d.refuseEntry := h.inc.wr
theorem Leads.canKick {c b} : d₀.Leads (d.canKick c b) := h.ite (·.ite (·.but.wri.wri.trig) (·.but)) (·.canStart)

theorem Leads.kick {o} : d₀.Leads (d.kick o).1 := by
  refine h.iteFst (fun h => ?_) (fun h => ?_)
  · exact h.iteFst (·.refuseEntry) (·.iteFst (·.canKick) (·.inc))
  · exact h.iteFst (·.refuseEntry) (·.iteFst (·.ite id (·.but)) (·.inc))

theorem Leads.idleRecord {r} : d₀.Leads (d.idleRecord r) :=
  h.ite (·.but) (·.ite (·.but) (·.ite (·.ite (·.wri) id) (·.but.ite (·.canAbandon) id)))

theorem Leads.idleEnter : d₀.Leads d.idleEnter := (h.wr.wr.but.ite (·.trig) id).each (·.idleRecord)
theorem Leads.idleLeave : d₀.Leads d.idleLeave := (h.wr.wr.ite (·.trig) id).setHalf.but
theorem Leads.showBudget {b} : d₀.Leads (d.showBudget b) := h.ite (·.wr) (·.fresh.wr)

theorem Leads.startPick {len gptp localNs} : d₀.Leads (d.startPick len gptp localNs) :=
  h.ite (·.showBudget.wr.but.shedCheck.ite (·.finishPick) id) (·.but)

/-! ### DeckOps -/

theorem Leads.clearImage {lo hi} : d₀.Leads (d.clearImage lo hi) := h.keepRegs

theorem Leads.commitBeat : d₀.Leads d.commitBeat := by
  dsimp only [Dev.commitBeat]
  split
  · exact h.clearImage.wr.wr.wr.wr.wr.wr.wr.wr.each (·.ite (·.wri.wri.wri) (·.ite (·.wri.wri.wri) (·.wri.wri.wri)))
  · exact h

theorem Leads.commitSecurity : d₀.Leads d.commitSecurity := by
  dsimp only [Dev.commitSecurity]
  split
  · exact (h.clearImage.image.image.each (·.wri.image)).moduleAttrs.but.each fun h =>
      (h.ite (·.keyDropPending) id).ite (·.keyDestroy) id
  · exact h

theorem Leads.showHalf : d₀.Leads d.showHalf := h.wr.wr
theorem Leads.loadQueue {s} : d₀.Leads (d.loadQueue s) := h.but.wri.wri.wri.wri.wri
theorem Leads.layQueues : d₀.Leads d.layQueues := (h.eachFst (·.wri.each (·.wri))).wr
theorem Leads.showCtx {r} : d₀.Leads (d.showCtx r) := h.wri.wri.wri
theorem Leads.commitContexts : d₀.Leads d.commitContexts := (h.layQueues.each (·.showCtx.wri)).showBinds.wr
theorem Leads.dropCtx {c} : d₀.Leads (d.dropCtx c) := h.wri.wri.wri.wri.wri.wri.fwClear.but

theorem Leads.swapContexts {new} : d₀.Leads (d.swapContexts new) :=
  have dropped := ((h.each (·.ctxReset)).each (·.wri.wri.wri.wri.wri)).but.but.each (·.dropCtx)
  (((dropped.layQueues.each (·.showCtx)).each (·.wri)).each (·.loadQueue)).wr

theorem Leads.imageLen {c b} : d₀.Leads (d.imageLen c b) := h.ite (·.wri) id

theorem Leads.imageCan {c} : d₀.Leads (d.imageCan c) := by
  dsimp only [Dev.imageCan]
  split
  · exact h.clearImage.image.image.image.image.image.image.each (·.ite (·.image.image) (·.image.imageLen))
  · exact h.clearImage

theorem Leads.imageLens {c} : d₀.Leads (d.imageLens c) := h.each (·.imageLen)
theorem Leads.commitCan {c} : d₀.Leads (d.commitCan c) := h.imageCan.ite (·.canRestart) id

theorem Leads.imageTt {t} : d₀.Leads (d.imageTt t) := by
  dsimp only [Dev.imageTt]
  split
  · exact h.clearImage.image.image.image.image.each (·.image.wri.wri)
  · exact h.clearImage

theorem Leads.commitTt {t} : d₀.Leads (d.commitTt t) := h.imageTt.ite (·.ttReady) id

theorem Leads.imageSwitch : d₀.Leads d.imageSwitch := by
  dsimp only [Dev.imageSwitch]
  split
  · exact h.clearImage.image.image.each (·.image.image.ite id (·.image))
  · exact h.clearImage

theorem Leads.startPool {queues} : d₀.Leads (d.startPool queues) := (h.each (·.wri)).but.swxFit
theorem Leads.commitSwitch : d₀.Leads d.commitSwitch := h.imageSwitch.startPool.secShow

theorem Leads.imageBridge : d₀.Leads d.imageBridge := by
  dsimp only [Dev.imageBridge]
  split
  · exact h.clearImage.image.each (·.image.image.image)
  · exact h.clearImage

theorem Leads.commitBridge : d₀.Leads d.commitBridge := h.imageBridge.each (·.winStart)

theorem Leads.imageSleep : d₀.Leads d.imageSleep := by
  dsimp only [Dev.imageSleep]
  split
  · exact h.clearImage.image.image.each (·.image)
  · exact h.clearImage

theorem Leads.commitSleep : d₀.Leads d.commitSleep := h.imageSleep.each (·.sleepStart)

theorem Leads.commitRecorder : d₀.Leads d.commitRecorder := by
  dsimp only [Dev.commitRecorder]
  split
  · exact (h.clearImage.image.each (·.ite (·.image.image) (·.ite (·.wri.wri.wri) (·.image.image.wri.wri)))).wr.wr
  · exact h.clearImage.wr.wr

theorem Leads.deckCommit {k n} : d₀.Leads (d.deckCommit k n) :=
  have signals := h.but.wr.wr.wr.wr.wr.commitBeat.but.wr.showHalf.each (·.but)
  have buses := ((signals.commitContexts.each (·.commitBank)).each (·.commitCan)).each (·.commitTt)
  buses.commitSwitch.poolFit.commitBridge.commitRecorder.commitSecurity.commitSleep.wr.ite (·.but) id

theorem Leads.setDeckSlot {n s} : d₀.Leads (d.setDeckSlot n s) := h.ite (·.but) (·.but)
theorem Leads.slotCommit {n} : d₀.Leads (d.slotCommit n) := h.setDeckSlot.setDeckSlot
theorem Leads.slotStage {k} : d₀.Leads (d.slotStage k) := h.setDeckSlot.fresh
theorem Leads.slotDrop : d₀.Leads d.slotDrop := h.setDeckSlot
theorem Leads.swapArm {m changed} : d₀.Leads (d.swapArm m changed) := (h.fresh.fresh.slotStage.but.ite (·.but) (·.but)).wr

theorem Leads.swapBlocks {old changed} : d₀.Leads (d.swapBlocks old changed) :=
  have buses := (((h.each (·.commitBank)).each (·.imageCan.canLeave)).ite (·.each (·.imageLens)) id).each (·.imageTt.ttSwap)
  have switch := buses.ite (fun h => (h.each (·.swxFlush)).imageSwitch.startPool.secShow.but) id
  have bridge := switch.ite (·.imageBridge.each (·.ite (·.winStart) (·.but.wri.showWrites))) id
  have sleep := bridge.ite (·.imageSleep.each (·.ite (·.sleepStart) (·.clrBit.wri.sleepShow))) id
  sleep.ite (·.commitRecorder) id

theorem Leads.swapInventory {old} : d₀.Leads (d.swapInventory old) := h.each (fun h => (h.but.ite (·.but) id).ite (·.evidence) id)

theorem Leads.swapEffect {new stamp} : d₀.Leads (d.swapEffect new stamp) :=
  have blocks := ((h.ite (·.swapContexts) (·.but)).wr.showHalf.each (·.but)).swapBlocks
  have fitted := (blocks.when (·.each (·.ite (·.writeOrder) id))).when (·.poolFit)
  fitted.swapInventory.wr.wr.slotCommit.wr.wr.wr.but.wr.trig.hostNotice

theorem Leads.swapIfDue {stamp} : d₀.Leads (d.swapIfDue stamp) := by
  dsimp only [Dev.swapIfDue]
  split
  · exact h.ite id (·.ite (·.but) (·.swapEffect))
  · exact h

/-! ### Beat -/

theorem Leads.latchLine {k sample} : d₀.Leads (d.latchLine k sample).1 := h.but
theorem Leads.putBit {f n v} : d₀.Leads (d.putBit f n v) := h.ite (·.setBit) (·.clrBit)
theorem Leads.debounce {k deb level now} : d₀.Leads (d.debounce k deb level now).1 := h.iteFst (·.but) (·.iteFst (·.but) (·.but))
theorem Leads.latchSw {x n} : d₀.Leads (d.latchSw x n) := h.latchLine.wri.putBit.debounce.ite (·.putBit.setBit) id
theorem Leads.latchAin {x n} : d₀.Leads (d.latchAin x n) := h.latchLine.wri.ite id (·.ite (·.but.ite (·.setBit) id) (·.but))
theorem Leads.latchWake {x n} : d₀.Leads (d.latchWake x n) := h.ite id (·.latchLine.debounce.ite (·.putBit.ite (·.wakeEdge) id) id)
theorem Leads.latchInputs {x} : d₀.Leads (d.latchInputs x) := ((h.each (·.latchSw)).each (·.latchAin)).each (·.latchWake)
theorem Leads.flipPending : d₀.Leads d.flipPending := h.each (·.flipGroup)

theorem Leads.boundaryTurn {pick rep repeatEnd} : d₀.Leads (d.boundaryTurn pick rep repeatEnd) :=
  h.ite (·.idleEnter) (fun h => (h.ite (·.idleLeave) id).ite (·.flipPending.swapIfDue) id)

theorem Leads.slewPick {x} : d₀.Leads (d.slewPick x) := (h.ite id (·.wr)).ite (·.wr) id

theorem Leads.beginPick {pick rep passed repeatEnd x} : d₀.Leads (d.beginPick pick rep passed repeatEnd x) := by
  unfold Dev.beginPick
  extract_lets d₁ d₂ d₃ ctx swx d₄ d₅ deck d₆ len beat d₇
  have h₅ : d₀.Leads d₅ := h.finishPick.wr.wr.latchInputs.but.boundaryTurn
  have h₆ : d₀.Leads d₆ := h₅.ite (·.but) id
  have h₇ : d₀.Leads d₇ := h₆.slewPick.but
  exact h₇.timerPicks.startPick

theorem Leads.stepMark : d₀.Leads d.stepMark := h.inc.wr.trig
theorem Leads.indexEnd {x} : d₀.Leads (d.indexEnd x) := (h.ite id (·.stepMark)).beginPick.but

theorem Leads.nextPick {x} : d₀.Leads (d.nextPick x) :=
  h.ite (·.beginPick) (·.ite (·.beginPick) (fun h => (h.ite (·.wr.inc.trig) id).beginPick))

theorem Leads.quadError : d₀.Leads d.quadError := h.inc.wr.qualBreak.but.ite (·.sourceLoss) id
theorem Leads.edgeEnd {ns x} : d₀.Leads (d.edgeEnd ns x) := h.nextPick.ite (·.wr.sourceLoss) id

/-! ### DeckCheck -/

theorem Leads.deckReject {code} : d₀.Leads (d.deckReject code) := h.wr.trig

/-! ### LifeOps -/

theorem Leads.sigForce {r v} : d₀.Leads (d.sigForce r v) := (h.but.ite (·.but) id).but.ite id (·.watchChange)
theorem Leads.sigRelease {n} : d₀.Leads (d.sigRelease n) := h.ite (·.but.ite (·.but) id) id
theorem Leads.forcesEnd : d₀.Leads d.forcesEnd := h.each (·.sigRelease)
theorem Leads.nonceEnd : d₀.Leads d.nonceEnd := h.but.wr
theorem Leads.holdShow : d₀.Leads d.holdShow := h.wr.ite (·.but.wr.trig) id
theorem Leads.dbgLower {level cause} : d₀.Leads (d.dbgLower level cause) := h.ite (·.wr.wr.nonceEnd.but.wr.trig.holdShow) id
theorem Leads.updNotice {ev detail} : d₀.Leads (d.updNotice ev detail) := h.ite (·.hostNotice) (·.but)
theorem Leads.updRelease : d₀.Leads d.updRelease := h.but.each (·.hostNotice)

theorem Leads.lcWipe : d₀.Leads d.lcWipe :=
  ((h.but.but.each (·.ite id (·.keyDestroy))).but.wr.memForget.memForget.memForget.memForget.but.wr.but.each (·.but)).but

theorem Leads.lcMaskDestroy {state} : d₀.Leads (d.lcMaskDestroy state) := h.each (·.ite (·.keyDestroy) id)

theorem Leads.lcCarry {dst} : d₀.Leads (d.lcCarry dst) :=
  have marked := ((h.ite (·.setBit) id).ite (·.setBit) id).ite (·.setBit) id
  have destroyed := (((marked.ite (·.lcWipe) id).ite (·.keyDestroy) id).ite (·.lcMaskDestroy) id).ite (·.lcMaskDestroy) id
  ((destroyed.ite (·.forcesEnd.manEndAll) id).ite (·.fresh.but.wr) id).wr.wr.but.wr.wr.trig

/-! ### Recorder -/

theorem Leads.ringWrite {r} : d₀.Leads (d.ringWrite r) := ((h.but.wr.wr.wr.ite (·.wr) id).ite (·.wr) id).but
theorem Leads.ringErased : d₀.Leads d.ringErased := h.but.wr.wr.ringWrite

theorem Leads.ringScan : d₀.Leads d.ringScan := by
  unfold Dev.ringScan
  split
  · exact h.wr.wr.wr.wr
  · refine wr ?_
    split
    · exact h.but.wr.wr.wr.trig
    · exact h.but.wr.wr.wr

/-! ### ResetOps -/

theorem Leads.itemDrop : d₀.Leads d.itemDrop := by
  dsimp only [Dev.itemDrop]
  split
  · exact h.ite (·.slotDrop) id
  · exact h

theorem Leads.openFault {init} : d₀.Leads (d.openFault init) := h.ite (·.but.send) id
theorem Leads.openSignals : d₀.Leads d.openSignals := (h.each (·.openFault)).but
theorem Leads.openBridge : d₀.Leads d.openBridge := h.each (·.openFault)

theorem Leads.coreStop {warm powerOn} : d₀.Leads (d.coreStop warm powerOn) :=
  ((((h.openSignals.openBridge.each (·.sessionEnd)).manEndAll.each (·.ite (·.handOver) id)).itemDrop.keepRegs.but).ite
    (·.wr) (·.memForget)).wr

theorem Leads.captureRecord {seq} : d₀.Leads (d.captureRecord seq) := (h.ite (·.but) (·.but)).wr
theorem Leads.captureFull : d₀.Leads d.captureFull := h.but.captureRecord
theorem Leads.captureShort : d₀.Leads d.captureShort := h.captureRecord
theorem Leads.repairShow : d₀.Leads d.repairShow := (h.wr.wr.wr.wr.each (·.wri)).wr.wr
theorem Leads.optimeLoad : d₀.Leads d.optimeLoad := h.wr.wr.but
theorem Leads.powerCycle : d₀.Leads d.powerCycle := h.but.wr
theorem Leads.fusesRule : d₀.Leads d.fusesRule := h.ite (·.wr) (·.ite (·.wr) (·.ite (·.wr) id))
theorem Leads.deviceSecret {random} : d₀.Leads (d.deviceSecret random) := h.ite (·.ite (·.fresh.but.trig) (·.wr.trig)) id
theorem Leads.keylessFound : d₀.Leads d.keylessFound := h.wr.wr.trig.factoryIdentity
theorem Leads.markerCheck : d₀.Leads d.markerCheck := h.ite (·.but.but.setBit) id
theorem Leads.tamperReport : d₀.Leads d.tamperReport := (h.ite (·.wr.trig) id).but
theorem Leads.transportKey : d₀.Leads d.transportKey := h.ite (·.wri.but) id

theorem Leads.keyBoot {random} : d₀.Leads (d.keyBoot random) :=
  (((h.moduleAttrs.each (·.keyClearIdle)).markerCheck.ite id (·.deviceSecret)).wr.ite id (·.keylessFound)).tamperReport.transportKey

theorem Leads.fallback {reason} : d₀.Leads (d.fallback reason) :=
  (h.ite (·.setDeckSlot.setDeckSlot) id).but.wr.wr.wr.wr.inc.wr.trig.updNotice.but

theorem Leads.bootShow : d₀.Leads d.bootShow := h.wr.wr.wr.wr.wr.wr.wr.wr.wr

theorem Leads.bootPick {x} : d₀.Leads (d.bootPick x).1 := by
  unfold Dev.bootPick
  extract_lets b bootOk fwOk slot d₁ upd d₂ fw
  have h₁ : d₀.Leads d₁ := h.ite id (·.trig)
  have h₂ : d₀.Leads d₂ := h₁.ite (·.but) id
  exact h.iteFst id fun _ => h₁.iteFst id (·.iteFst (·.fallback) (·.iteFst (·.fallback) fun _ =>
    h₂.iteFst id (·.iteFst (·.fallback) id)))

theorem Leads.loadFrom {x failing l} : d₀.Leads (d.loadFrom x failing l) := by
  induction l generalizing d failing with
  | nil => exact h.wr
  | cons n rest ih =>
    dsimp only [Dev.loadFrom]
    split
    · exact ih h
    · refine h.ite (fun h => ?_) (fun h => ih h.deckReject)
      split
      · exact h.trig.deckCommit
      · exact h.deckCommit

theorem Leads.deckLoad {x} : d₀.Leads (d.deckLoad x) := h.wr.wr.ite (·.wr) (·.loadFrom)
theorem Leads.bankRestore {b valid} : d₀.Leads (d.bankRestore b valid) := h.ite id (·.ite (·.each (·.but)) (·.each (·.idleRecord)))
theorem Leads.notUsed {part reason} : d₀.Leads (d.notUsed part reason) := h.trig

theorem Leads.signalRestore {n} : d₀.Leads (d.signalRestore n) := by
  dsimp only [Dev.signalRestore]
  split
  · exact h.ite id (·.but)
  · exact h

theorem Leads.restorePresence : d₀.Leads d.restorePresence := by
  dsimp only [Dev.restorePresence]
  split
  · exact h.each (·.but)
  · exact h

theorem Leads.restore : d₀.Leads d.restore := by
  unfold Dev.restore
  extract_lets p valid seq d₁ d₂ d₃ d₄ why
  have h₃ : d₀.Leads d₃ := h.wr.wr.ite (fun h => (h.ite (·.wr) id).wr.restorePresence) (·.notUsed)
  have h₄ : d₀.Leads d₄ := h₃.each fun h => (h.ite (·.restoreCells) id).bankRestore
  exact h₄.ite (·.wr.each (·.signalRestore)) (·.wr.notUsed)

theorem Leads.trdReload : d₀.Leads d.trdReload := h.wr.wr.but.but.showHalf
theorem Leads.beatStart : d₀.Leads d.beatStart := (h.wr.wr.wr.ite (·.wr) id).but

theorem Leads.treadleStart : d₀.Leads d.treadleStart :=
  h.ite (fun h => (h.trdReload.wr.beatStart.each (·.but)).ite (·.lock.trig) id) id

theorem Leads.dbgFall {level cause} : d₀.Leads (d.dbgFall level cause) := h.dbgLower.ite (·.treadleStart) id

theorem Leads.startFinish {x} : d₀.Leads (d.startFinish x) := by
  unfold Dev.startFinish
  extract_lets d₁ d₂ d₃ d₄ pwr d₅ d₆ d₇ d₈ pwr' d₉ last d₁₀
  have h₂ : d₀.Leads d₂ := h.deckLoad.restore.ite (fun h => by split; exacts [h.wr, h.wr.fresh]) id
  have h₄ : d₀.Leads d₄ := (h₂.ite (·.wr) id).wr.treadleStart
  have h₆ : d₀.Leads d₆ := h₄.but.each (·.ite (·.keeperReport) id)
  have h₉ : d₀.Leads d₉ := h₆.wr.trig.ite (·.but.trig) id
  exact h₉.ite (·.wr.ite (·.trig) id) id

theorem Leads.startUp {x cold} : d₀.Leads (d.startUp x cold) := by
  unfold Dev.startUp
  extract_lets pwr d₁ d₂ d₃ d₄ d₅ p upd d₆ pwr' d₇ d₈ d₉
  have h₃ : d₀.Leads d₃ := (h.but.wr.repairShow.ite (·.optimeLoad) id).ringScan
  have h₄ : d₀.Leads d₄ := by
    unfold d₄
    split
    · exact h₃.lcCarry
    · exact h₃
  have hp : d₀.Leads p.1 := h₄.fusesRule.keyBoot.bootShow.bootPick
  split
  · exact hp
  · exact hp.but.but
  · exact hp.ite (fun h => (h.ite (·.but.trig) id).startFinish) id

theorem Leads.warmReset {kind capture x} : d₀.Leads (d.warmReset kind capture x) := by
  unfold Dev.warmReset
  exact (h.ite (·.captureFull) id).coreStop.wr.startUp

/-! ### PowerOps -/

theorem Leads.domainStop {k} : d₀.Leads (d.domainStop k) := by
  refine h.ite (fun h => ?_) (fun h => ?_)
  · exact h.resetBound
  · refine h.ite (fun h => ?_) (fun h => ?_)
    · exact h.openSignals.wr.each (·.ite (·.handOver) id)
    · exact h.ite (fun h => (h.each (·.swxFlush)).wr.lossOf) (·.ite (·.each (·.swxLinkLost)) id)

theorem Leads.domainReset {k} : d₀.Leads (d.domainReset k) := h.ite (·.but.domainStop.clrBit) id

theorem Leads.domainStart {k} : d₀.Leads (d.domainStart k) :=
  h.ite (·.treadleStart) (·.ite (·.commitSwitch) (·.ite (·.each (·.ite (·.canRestart) id)) id))

theorem Leads.domainDone {k} : d₀.Leads (d.domainDone k) := h.ite (·.but.setBit.domainStart.wr.trig) id

theorem Leads.busDieParts : d₀.Leads d.busDieParts := by
  unfold Dev.busDieParts
  exact (((h.each (·.ite id (·.canRestart))).each (·.ttRestart)).each (·.swxLinkLost)).but.ite (·.sourceLoss) id

theorem Leads.busDieReset : d₀.Leads d.busDieReset := by
  unfold Dev.busDieReset
  exact h.ite id (·.fwEvent.fwClear.but.busDieParts.wr.trig.ite (·.wr.wr.trig) id)

theorem Leads.pwrRefuse {init} : d₀.Leads (d.pwrRefuse init) := h.refuse.but

/-! ### Power -/

theorem Leads.wakeBegin {kind cause cluster unit} : d₀.Leads (d.wakeBegin kind cause cluster unit) := h.wr.wr.wr.wr.but

theorem Leads.moduleWake {cause cluster unit} : d₀.Leads (d.moduleWake cause cluster unit) := by
  dsimp only [Dev.moduleWake]
  split
  · exact h.ite id (·.but)
  · exact h.wakeBegin
  · exact h.wakeBegin
  · exact h.ite (·.wakeBegin) id
  · exact h

theorem Leads.setLeases {l} : d₀.Leads (d.setLeases l) := h.but.wr

/-! ### Debug -/

theorem Leads.tck : d₀.Leads d.tck := h.but.wr
theorem Leads.extestEnd : d₀.Leads d.extestEnd := h.ite (·.but.ite (·.treadleStart) id) id

theorem Leads.tapScan {ir f} (hf : ∀ {e}, d₀.Leads e → d₀.Leads (f e)) : d₀.Leads (d.tapScan ir f) :=
  h.ite id (fun h => (h.tck.ite id (·.extestEnd)).ite (fun h => hf (h.but)) (·.but.send))

theorem Leads.haltHart {x} : d₀.Leads (d.haltHart x) := h.ite (·.setBit.holdShow) id

theorem Leads.dmi {o} : d₀.Leads (d.dmi o) := by
  dsimp only [Dev.dmi]
  split
  · exact h
  · exact h.haltHart
  · exact h.ite (·.clrBit.holdShow) id
  · exact h.ite (·.but) id
  · exact h.ite (·.but) id
  · exact h.wr.holdShow
  · exact h.wr

theorem Leads.unlockFail : d₀.Leads d.unlockFail := h.wr.inc.trig.fwEvent.ite (·.but.wr.wr.trig) id

/-! ### Faults -/

theorem Leads.restartLast {kind unit} : d₀.Leads (d.restartLast kind unit) := h.wr.wr.wr
theorem Leads.exhausted {unit} : d₀.Leads (d.exhausted unit) := h.wr.trig
theorem Leads.latchOff {unit} : d₀.Leads (d.latchOff unit) := h.wr.trig

theorem Leads.follow {r} : d₀.Leads (d.follow r) := by
  refine h.ite id fun h => ?_
  refine h.ite (fun h => ?_) (fun h => ?_)
  · exact h.but
  · split
    · exact h.fwClear.but
    · exact h

theorem Leads.rowRepair {r} : d₀.Leads (d.rowRepair r) := h.fresh.lasting.fwClear.but.repairShow.inc.wr.trig

theorem Leads.rowExhausted {r} : d₀.Leads (d.rowExhausted r) := by
  unfold Dev.rowExhausted
  exact h.fresh.lasting.exhausted.ite (·.but.repairShow.poolFit.trig) (·.ite (·.but.repairShow.swxFit.trig) id)

theorem Leads.rowEvent {a n} : d₀.Leads (d.rowEvent a n) := by
  unfold Dev.rowEvent
  exact h.ite id (fun h => (h.wr.follow.each (·.fwEvent)).ite (·.ite (·.rowRepair) (·.rowExhausted)) id)

theorem Leads.hartGone {k n j} : d₀.Leads (d.hartGone k n j) := h.but.exhausted.latchOff

theorem Leads.hartLasting {k j n} : d₀.Leads (d.hartLasting k j n) := by
  dsimp only [Dev.hartLasting]
  split
  · exact (h.lasting.resetBound.setBit.wr.clrBit.ite (·.resetRange.memForget.showBinds) id).but.setBit.but
  · exact h.lasting.resetBound.setBit.wr.hartGone

theorem Leads.hartJoined {e} : d₀.Leads (d.hartJoined e) := (h.send.ite (·.announceCore) id).wr.trig
theorem Leads.hartsJoin : d₀.Leads d.hartsJoin := h.but.each (·.hartJoined)
theorem Leads.spareFails {k e} : d₀.Leads (d.spareFails k e) := h.but.lasting.setBit.wr.hartGone

theorem Leads.pairEvent {j n} : d₀.Leads (d.pairEvent j n) := by
  dsimp only [Dev.pairEvent]
  split
  · exact h.spareFails
  · exact h.fwEvent.ite (·.hartLasting) (·.resetBound.restartLast)

theorem Leads.sramCorrected {a} : d₀.Leads (d.sramCorrected a) := h.inc.rowEvent

theorem Leads.sramUncorrectable {a} : d₀.Leads (d.sramUncorrectable a) := by
  unfold Dev.sramUncorrectable
  extract_lets w cpu d₁ d₂
  have h₂ : d₀.Leads d₂ := (h.ite id (·.but)).inc.wr.rowEvent
  split
  · exact h₂.pairEvent
  · exact h₂

theorem Leads.canFailed {u} : d₀.Leads (d.canFailed u) := h.but.wri
theorem Leads.canExhausted {c u} : d₀.Leads (d.canExhausted c u) := h.lasting.canFailed.exhausted.latchOff.but.canRestart.repairShow

theorem Leads.canLasting {c u} : d₀.Leads (d.canLasting c u) := by
  dsimp only [Dev.canLasting]
  split
  · exact h.lasting.canFailed.but.canRestart.repairShow
  · exact h.canExhausted

/-! ### Keys -/

theorem Leads.keyBegin {n op slot k} : d₀.Leads (d.keyBegin n op slot k) := (h.wri.setBit.but.ite (·.wri) id).ite (·.wri.but) id

theorem Leads.keyStart {init n slot op irq} : d₀.Leads (d.keyStart init n slot op irq) := by
  refine h.ite (fun h => ?_) (fun h => ?_)
  · exact h.refuse.but
  · refine h.ite (fun h => ?_) (fun h => ?_)
    · exact (h.wri.keyCount.ite (·.wr) id).but
    · exact (h.wri.wri.wri.but.wri.wri.wri.ite (·.keyBegin) (·.keyDone)).but

theorem Leads.keySucceed {n f} : d₀.Leads (d.keySucceed n f) := by
  unfold Dev.keySucceed
  exact (((h.ite (·.fresh) id).ite (·.ite (·.wri.but) id) (·.ite (·.keyCommit) (·.ite (·.keyInvalidate) id))).ite id
    (·.poke.wri)).keyDone.ite (·.keyCountOut) id

theorem Leads.keyComplete {n f} : d₀.Leads (d.keyComplete n f) :=
  h.ite (·.ite (fun h => (h.ite (·.trig) id).keyFail) (·.ite (·.keyFail) (·.keySucceed))) id

theorem Leads.keyRefuse {init} : d₀.Leads (d.keyRefuse init) := h.refuse.but
theorem Leads.keyAbort {init n} : d₀.Leads (d.keyAbort init n) := h.ite (·.keyFail.but) (·.keyRefuse)
theorem Leads.keyRelease {init n} : d₀.Leads (d.keyRelease init n) := h.ite (fun h => (h.ite (·.wri.wri.wri) id).but) (·.keyRefuse)

/-! ### Signals -/

theorem Leads.refuseSignal {init n commit} : d₀.Leads (d.refuseSignal init n commit) := h.inc.wr.wr.wr.trig.countRefused.but

/-! ### UpdateOps -/

theorem Leads.updShow : d₀.Leads d.updShow := by
  unfold Dev.updShow
  extract_lets d₁
  have h₁ : d₀.Leads d₁ := by
    unfold d₁
    split
    · exact h.wr.wr
    · exact h.wr.wr
  split
  · exact h₁.wr.wr.wr.wr
  · exact h₁.wr.wr.wr.wr

theorem Leads.updFree : d₀.Leads d.updFree := h.but.wr

theorem Leads.updDiscard : d₀.Leads d.updDiscard := by
  unfold Dev.updDiscard
  exact h.itemDrop.but.updFree.wr.updShow

theorem Leads.updVerify {block} : d₀.Leads (d.updVerify block) := h.wr.trig.updNotice
theorem Leads.updFail : d₀.Leads d.updFail := h.updDiscard.trig

theorem Leads.updOpen {x number ikind total xfer} : d₀.Leads (d.updOpen x number ikind total xfer).1 := by
  refine h.iteFst id (·.iteFst id fun h => ?_)
  split
  · exact h.iteFst id (·.trig.pair)
  · exact h.but.but.wr.wr.updShow.trig.pair

theorem Leads.updKeep {i n} : d₀.Leads (d.updKeep i n).1 := h.but.updShow

theorem Leads.updManifest {i data verified} : d₀.Leads (d.updManifest i data verified).1 := by
  unfold Dev.updManifest
  exact h.iteFst (·.updVerify.updFail.pair) (·.iteFst (·.updFail.pair) (·.iteFst id (·.updKeep)))

theorem Leads.updBody {i m n plain} : d₀.Leads (d.updBody i m n plain).1 := (h.ite (·.but) id).updKeep

theorem Leads.updStream {i m n data x} : d₀.Leads (d.updStream i m n data x).1 := by
  unfold Dev.updStream
  exact h.iteFst (·.iteFst id (·.iteFst (·.updVerify.updFail.pair) (·.updKeep)))
    (·.iteFst id (·.iteFst (·.updBody) (·.updVerify.inc.pair)))

theorem Leads.updDeckBlock {i n data} : d₀.Leads (d.updDeckBlock i n data).1 := (h.ite id (·.setDeckSlot)).updKeep

theorem Leads.updBlock {x xfer offset data y} : d₀.Leads (d.updBlock x xfer offset data y).1 := by
  dsimp only [Dev.updBlock]
  split
  · exact h
  · refine h.iteFst (fun h => ?_) (fun h => ?_)
    · exact h
    · refine h.iteFst (fun h => ?_) (fun h => ?_)
      · exact h
      · refine h.iteFst (fun h => ?_) (fun h => ?_)
        · exact h
        · refine h.iteFst (fun h => ?_) (fun h => ?_)
          · exact h.updDeckBlock
          · split
            · exact h.iteFst (·.updManifest) id
            · exact h.updStream

theorem Leads.updClose {x number seq xfer} : d₀.Leads (d.updClose x number seq xfer).1 := by
  dsimp only [Dev.updClose]
  split
  · exact h
  · exact h.iteFst id (·.iteFst id (·.but))

theorem Leads.imageKey {k} : d₀.Leads (d.imageKey k) := h.but.fresh.fresh.keyCommit

theorem Leads.closeImage {i m} : d₀.Leads (d.closeImage i m).1 := by
  unfold Dev.closeImage
  refine pair (updNotice (trig ?_))
  exact (h.ite (·.imageKey) (·.ite (·.imageKey) id)).but.ite (·.wr.wr.updShow) (·.but.updFree.wr.updShow)

theorem Leads.closeDeck {i k} : d₀.Leads (d.closeDeck i k).1 := by
  unfold Dev.closeDeck
  exact h.iteFst (·.swapArm.but.updFree.wr.updShow.pair) (·.slotStage.but.wr.wr.updShow.pair)

theorem Leads.closeReject {k code} : d₀.Leads (d.closeReject k code).1 := by
  unfold Dev.closeReject
  exact (h.deckReject.ite id (·.slotDrop)).updFail.pair

theorem Leads.closeEnd {i x r} (hr : d.closeEnd i x = some r) : d₀.Leads r.1 := by
  unfold Dev.closeEnd at hr
  split at hr
  · exact Option.some.inj hr ▸ h.but.updShow.updVerify.pair
  · exact Option.some.inj hr ▸ h.closeImage
  · cases hr
  · split at hr
    · cases hr
    · exact Option.some.inj hr ▸ h.iteFst (·.closeDeck) (·.closeReject)

theorem Leads.updActivate {x number seq xfer when_ at_ now} : d₀.Leads (d.updActivate x number seq xfer when_ at_ now).1 := by
  dsimp only [Dev.updActivate]
  split
  · exact h
  · exact h.iteFst id (·.iteFst id (·.iteFst id (·.but.wr)))

theorem Leads.tryImage {m} : d₀.Leads (d.tryImage m) := h.but.ite (·.memForget) id
theorem Leads.tryDeck : d₀.Leads d.tryDeck := h.slotCommit.but

theorem Leads.activate {i} : d₀.Leads (d.activate i) := by
  unfold Dev.activate
  refine but (trig (wr (wr (wr (wr (wr (updFree (but ?_))))))))
  split
  · exact h.tryDeck
  · exact h.tryImage
  · exact h

theorem Leads.deckFloor : d₀.Leads d.deckFloor := by
  dsimp only [Dev.deckFloor]
  split
  · exact h.ite (·.but.wr) id
  · exact h

theorem Leads.imageFloor {m} : d₀.Leads (d.imageFloor m) := h.ite (·.but.wr) id

theorem Leads.confirm : d₀.Leads d.confirm := by
  unfold Dev.confirm
  extract_lets b man upd d₁ d₂ d₃ d₄
  have h₁ : d₀.Leads d₁ := h.but
  have h₂ : d₀.Leads d₂ := by
    refine h₁.ite (·.deckFloor) fun h => ?_
    clear_value man
    split
    · exact h.imageFloor
    · exact h
  have h₄ : d₀.Leads d₄ := h₂.wr.bootShow.wr.trig
  clear_value man
  split
  · exact h₄.updNotice
  · exact h₄.fresh.updNotice

/-! ### ShuttleReq -/

theorem Leads.hostKeyEnd {code} : d₀.Leads (d.hostKeyEnd code).1 := h.keyCount

theorem Leads.keyLoadReq {slot wrap len f} : d₀.Leads (d.keyLoadReq slot wrap len f).1 := by
  refine h.iteFst (fun h => ?_) (fun h => ?_)
  · exact h
  · exact h.iteFst (·.hostKeyEnd) (·.iteFst (·.trig.hostKeyEnd) (·.iteFst (·.hostKeyEnd) (·.iteFst (·.hostKeyEnd) (·.wri.but))))

theorem Leads.keyCommitReq {slot} : d₀.Leads (d.keyCommitReq slot).1 := h.iteFst id (·.iteFst (·.hostKeyEnd) (·.keyCommit))
theorem Leads.keyInvalReq {slot} : d₀.Leads (d.keyInvalReq slot).1 := h.iteFst id (·.iteFst (·.hostKeyEnd) (·.keyInvalidate))
theorem Leads.outChalReq {slot nonce} : d₀.Leads (d.outChalReq slot nonce).1 := h.iteFst id (·.iteFst (·.hostKeyEnd) id)

theorem Leads.lcChange {number seq dst auth} : d₀.Leads (d.lcChange number seq dst auth).1 := by
  unfold Dev.lcChange
  exact h.iteFst id (·.iteFst id (·.iteFst (·.trig.pair) (·.iteFst id (·.wr.wr.but.trig.dbgFall.pair))))

theorem Leads.signalsReq {first count} : d₀.Leads (d.signalsReq first count).1 := h.iteFst id (·.each (·.judge))

theorem Leads.forceReq {n v} : d₀.Leads (d.forceReq n v).1 := by
  dsimp only [Dev.forceReq]
  split
  · exact h.sigForce
  · exact h

theorem Leads.releaseReq {n} : d₀.Leads (d.releaseReq n).1 := by
  dsimp only [Dev.releaseReq]
  split
  · exact h.sigRelease
  · exact h

theorem Leads.manReq {m en cmd} : d₀.Leads (d.manReq m en cmd).1 := h.iteFst id (·.iteFst id (·.manWrite))
theorem Leads.sleepReq {k on} : d₀.Leads (d.sleepReq k on).1 := h.iteFst id (·.iteFst id (·.but.requestChange))
theorem Leads.ctxOrderReq {c cause} : d₀.Leads (d.ctxOrderReq c cause).1 := h.iteFst id (·.iteFst id (·.ctxReset))

theorem Leads.ctxRestartReq {c} : d₀.Leads (d.ctxRestartReq c).1 := by
  unfold Dev.ctxRestartReq
  exact h.iteFst id (·.iteFst id (·.fwClear.wri.notice.stateChanged.pair))

theorem Leads.trdIdleOrder : d₀.Leads d.trdIdleOrder := h.idleCause
theorem Leads.trdRelease : d₀.Leads d.trdRelease.1 := h.wr.wr.wr

theorem Leads.updCancelReq {x xfer} : d₀.Leads (d.updCancelReq x xfer).1 := by
  refine h.iteFst id fun h => ?_
  split
  · exact h
  · exact h.updDiscard.trig.pair

omit h in
theorem Leads.ranOf {p : Dev × Reply} (h : d₀.Leads p.1) : d₀.Leads (ranOf p).1 := h

omit h in
theorem Leads.ranLong {p : Dev × Option Reply} {on : Ran} (h : d₀.Leads p.1) : d₀.Leads (ranLong p on).1 := by
  unfold Machine.ranLong
  split
  · exact h
  · exact h

theorem Leads.carry {x number seq r} : d₀.Leads (d.carry x number seq r).1 := by
  dsimp only [Dev.carry]
  split
  · exact h
  · exact h
  · exact h
  · exact h
  · exact h
  · exact h.but
  · exact h.updOpen.ranOf
  · exact h.updBlock.ranOf
  · exact h.updClose.ranLong
  · exact h.updActivate.ranLong
  · exact h.updCancelReq.ranOf
  · exact h.ranOf
  · exact h.ranOf
  · exact h.ranOf
  · exact h.ranOf
  · exact h.wr.but
  · exact h.keyLoadReq.ranOf
  · exact h.keyCommitReq.ranOf
  · exact h.keyInvalReq.ranOf
  · exact h.outChalReq.ranOf
  · exact h.lcChange.ranLong
  · exact h.signalsReq.ranOf
  · exact h.forceReq.ranOf
  · exact h.releaseReq.ranOf
  · exact h.manReq.ranOf
  · exact h.sleepReq.ranOf
  · exact h.ctxOrderReq.ranOf
  · exact h.ctxOrderReq.ranOf
  · exact h.ctxRestartReq.ranOf
  · exact h.ranOf
  · exact h.trdIdleOrder
  · exact h.trdRelease.ranOf

theorem Leads.runRequest {x number roles seq r} : d₀.Leads (d.runRequest x number roles seq r).1 :=
  h.iteFst id (·.iteFst id (·.carry))

/-! ### Shuttle -/

theorem Leads.malformed : d₀.Leads d.malformed := h.inc
theorem Leads.tagError : d₀.Leads d.tagError := h.inc.wr
theorem Leads.clearError {session status} : d₀.Leads (d.clearError session status) := h.send
theorem Leads.noSession {session} : d₀.Leads (d.noSession session) := h.inc.clearError
theorem Leads.setHalfOpen {l} : d₀.Leads (d.setHalfOpen l) := h.but.wr

theorem Leads.halfDrop {x} : d₀.Leads (d.halfDrop x) := by
  dsimp only [Dev.halfDrop]
  split
  · exact h.setHalfOpen.wri.wri.wri
  · exact h.setHalfOpen

theorem Leads.proofFail {x} : d₀.Leads (d.proofFail x) := h.halfDrop.clearError.inc.wr.trig.fwEvent.ite (·.but.wr.wr.trig) id

theorem Leads.sessionReplace {s} : d₀.Leads (d.sessionReplace s) := by
  refine sessionEnd ?_
  split
  · exact h.but
  · exact h

theorem Leads.lockPass {x number} : d₀.Leads (d.lockPass x number) := by
  dsimp only [Dev.lockPass]
  split
  · exact h.ite (·.but) id
  · exact h

theorem Leads.establish {x} : d₀.Leads (d.establish x) := by
  unfold Dev.establish
  extract_lets d₁ d₂
  have h₂ : d₀.Leads d₂ := by
    unfold d₂
    split
    · exact h.halfDrop.sessionReplace
    · exact h.halfDrop
  split
  · exact h₂.clearError
  · exact h₂.wri.wri.wri.wri.wri.countOpen.but.lockPass.wr.trig.sendTo

theorem Leads.sessionRan {s seq r acked x} : d₀.Leads (d.sessionRan s seq r acked x) := by
  dsimp only [Dev.sessionRan]
  split
  · exact h.replyTo
  · exact h.but.ite id (·.ackTo)
  · exact h.ite id (·.ackTo)

theorem Leads.execute {s seq r acked} : d₀.Leads (d.execute s seq r acked) := h.runRequest.sessionRan

theorem Leads.drain {n s} : d₀.Leads (Dev.drain n d s) := by
  induction n generalizing d with
  | zero => exact h
  | succ n ih =>
    dsimp only [Dev.drain]
    split
    · exact ih h.but.execute
    · exact h

theorem Leads.drainOld {o n l} : d₀.Leads (d.drainOld o n l) := by
  induction n generalizing d l with
  | zero => exact h
  | succ n ih =>
    cases l with
    | nil => exact h.but
    | cons p rest => exact h.runRequest.ite (·.but) (ih ·)

theorem Leads.finish {number seq status payload} : d₀.Leads (d.finish number seq status payload) := by
  dsimp only [Dev.finish]
  split
  · split
    · exact h.ite (·.but.replyTo.drain) id
    · exact h
  · split
    · exact h.drainOld
    · exact h

theorem Leads.finishArmed {a status} : d₀.Leads (d.finishArmed a status) := by
  dsimp only [Dev.finishArmed]
  split
  · split
    · exact h.replyTo
    · exact h
  · exact h

theorem Leads.abortArmed : d₀.Leads d.abortArmed := h.but.wr.finishArmed

theorem Leads.stopLong {x} : d₀.Leads (d.stopLong x) := by
  dsimp only [Dev.stopLong]
  split
  · exact h.but
  · exact h.wr
  · exact h

theorem Leads.abortReq {s seq target late} : d₀.Leads (d.abortReq s seq target late) := by
  dsimp only [Dev.abortReq]
  split
  · exact h.but.replyTo.replyTo
  · refine h.ite (fun h => ?_) (fun h => ?_)
    · exact h.ite (·.replyTo) (·.abortArmed.replyTo)
    · split
      · exact h.ite (·.ite (·.replyTo) (·.stopLong.finish.replyTo)) (·.ite (·.replyTo) (·.replyTo))
      · exact h.ite (·.replyTo) (·.replyTo)

theorem Leads.atOnce {s seq r} : d₀.Leads (d.atOnce s seq r) := by
  refine h.ite (fun h => ?_) (fun h => ?_)
  · exact h.replyTo
  · refine h.ite (fun h => ?_) (fun h => ?_)
    · exact h.replyTo
    · split
      · exact h.replyTo.sessionEnd
      · exact h.ite (·.replyTo) (·.wri.replyTo.ite (·.updRelease) id)
      · exact h.abortReq
      · exact h.replyTo

theorem Leads.take {s seq r} : d₀.Leads (d.take s seq r) := by
  refine h.ite (fun h => ?_) (fun h => ?_)
  · exact h.but.atOnce
  · split
    · exact h.but.execute.drain
    · exact h.ite (·.sendTo) (·.but.ite (·.ackTo) id)

theorem Leads.takeAgain {s seq r} : d₀.Leads (d.takeAgain s seq r) := by
  dsimp only [Dev.takeAgain]
  split
  · exact h.sendSeq
  · exact h.ite (·.ackTo) (·.inc.wr)

theorem Leads.request {m r} : d₀.Leads (d.request m r) := by
  refine h.ite id fun h => ?_
  split
  · exact h.noSession
  · exact h.ite (·.tagError) (·.ite (·.malformed) (·.ite (·.take) (·.takeAgain)))

/-! ### Update -/

theorem Leads.activateNot {reason} : d₀.Leads (d.activateNot reason) := h.but.wr.wr.trig.finishArmed.updNotice

/-! ### Access -/

theorem Leads.outside : d₀.Leads d.outside := h.trig.but
theorem Leads.memLoad {a n} : d₀.Leads (d.memLoad a n) := h.ite (·.sramUncorrectable.but) (·.but)
theorem Leads.freeLoad {n} : d₀.Leads (d.freeLoad n) := h.fresh.but
theorem Leads.norLoad {r off n} : d₀.Leads (d.norLoad r off n) := h.fresh.but
theorem Leads.memStore {a l} : d₀.Leads (d.memStore a l) := h.poke.but.but
theorem Leads.claim {p} : d₀.Leads (d.claim p).1 := h.ite (·.wri) id
theorem Leads.aplicRefuse : d₀.Leads d.aplicRefuse := h.inc.but

theorem Leads.putField {x f i} : d₀.Leads (d.putField x f i) := by
  dsimp only [Dev.putField]
  split
  · exact h.wri
  · exact h.wri
  · exact h.wri
  · exact h.wri
  · exact h
  · exact h
  · exact h

theorem Leads.plainWrite {base hart x} : d₀.Leads (d.plainWrite base hart x) :=
  h.ite (·.inci) (fun h => (h.each (·.putField)).ite (·.announceAgain) id)

theorem Leads.keyWrite {init base x} : d₀.Leads (d.keyWrite init base x) := by
  unfold Dev.keyWrite
  exact h.ite (·.keyStart) (·.ite (·.keyAbort) (·.ite (·.keyRelease) (·.ite (·.keyRefuse) (·.plainWrite))))

theorem Leads.dogWrite {init x base y} : d₀.Leads (d.dogWrite init x base y) :=
  h.ite (·.pwrRefuse) (·.ite id (·.ite (·.pwrRefuse) (·.plainWrite)))

theorem Leads.blockWrite {init base x} : d₀.Leads (d.blockWrite init base x) := by
  refine h.ite id fun h => ?_
  refine h.ite (fun h => ?_) (fun h => ?_)
  · exact h.refuse
  · split
    · exact h.ite (·.aplicRefuse) (·.ite (·.plainWrite) (·.plainWrite))
    · refine h.ite (fun h => ?_) (fun h => ?_)
      · exact h.ite (·.plainWrite) (·.ctxRefuse)
      · refine h.ite (fun h => ?_) (fun h => ?_)
        · exact h.ite (·.plainWrite) (·.refuse)
        · exact h.ite (·.keyWrite) (·.ite (·.dogWrite) (·.ite (·.ite (·.plainWrite) (·.pwrRefuse)) (·.ite id (·.plainWrite))))

theorem Leads.regWrite {init a width v} : d₀.Leads (d.regWrite init a width v) := h.ite (·.but) (·.blockWrite)
theorem Leads.storeBy {init a l} : d₀.Leads (d.storeBy init a l) := h.ite (·.ctxTurnedAway) (·.memStore)

theorem Leads.writeAt {init a width v} : d₀.Leads (d.writeAt init a width v) := by
  dsimp only [Dev.writeAt]
  split
  · exact h.but.outside
  · exact h.but.but
  · exact h.but.but
  · exact h.but.but
  · exact h.but.but
  · exact h.but.ite (·.storeBy) (·.but)
  · exact h.but.storeBy
  · exact h.but.ite (·.storeBy) (·.but)
  · exact h.but
  · exact h.but.ite (·.regWrite) (·.regWrite.regWrite)

theorem Leads.readRefused {init base r} (hr : d.readRefused init base = some r) : d₀.Leads r := by
  unfold Dev.readRefused at hr
  split at hr <;> split_ifs at hr
  · exact Option.some.inj hr ▸ h.ctxRefuse
  · exact Option.some.inj hr ▸ h.keyRefuse

theorem Leads.clearRead {base hart x} : d₀.Leads (d.clearRead base hart x) := h.each (·.ite (·.wri) id)

theorem Leads.blockRead {init a width} : d₀.Leads (d.blockRead init a width) := by
  refine h.ite id fun h => ?_
  split
  · exact h.ite (·.aplicRefuse) (·.ite (·.but) (·.ite (·.claim.but) (·.but)))
  · split
    · exact h.readRefused ‹_›
    · exact h.fresh.but
    · exact h.ite id fun h => (h.ite id (·.clearRead)).but

theorem Leads.regRead {init a width} : d₀.Leads (d.regRead init a width) := h.ite (·.but) (·.blockRead)

theorem Leads.readAt {init a width} : d₀.Leads (d.readAt init a width) := by
  dsimp only [Dev.readAt]
  split
  · exact h.but.outside
  · exact h.but.but
  · exact h.but.freeLoad
  · exact h.but.but
  · exact h.but.ite id (·.norLoad)
  · exact h.but.ite (·.memLoad) (·.but)
  · exact h.but.memLoad
  · exact h.but.ite (·.memLoad) (·.but)
  · exact h.but
  · exact h.but.ite (·.regRead) (·.regRead.regRead.but)

/-! ### Tamper -/

theorem Leads.tamper {cause x} : d₀.Leads (d.tamper cause x) := h.but.but.setBit.dbgLower.ite (·.warmReset) id

/-! ### Treadle -/

theorem Leads.takeEffect {idx e} : d₀.Leads (d.takeEffect idx e).1 :=
  h.iteFst id (·.fresh?.iteFst id (·.iteFst (·.inc.trig) (·.entryWrite)))

theorem Leads.oneSource {idx e f} (hf : ∀ {e a1 a2}, d₀.Leads e → d₀.Leads (f e a1 a2)) : d₀.Leads (d.oneSource idx e f).1 :=
  h.fresh?.iteFst id (fun h => hf (h.readSource))

theorem Leads.packSources {e l} : d₀.Leads (d.packSources e l).1 := by
  induction l generalizing d with
  | nil => exact h
  | cons i rest ih => exact ih h.readSource

theorem Leads.sendEffect {e v marks} : d₀.Leads (d.sendEffect e v marks) := h.but.but.saturate

end

end Dev

end Sys2Proof.Machine
end

section
/-! SUPPORT. What each command can do: it answers a next state with the queue as it was, and its block is led to by the primitive
changes alone. -/

namespace Sys2Proof.Machine

/-- The outcome is a next state whose queue is that of `s` and whose block is one that the block of `s` leads to. -/
def Answers (s : State) (o : Host.Outcome State Fault Refusal) : Prop := ∃ d, o = .next { s with dev := d } ∧ s.dev.Leads d

variable {s : State}

theorem Answers.onDev {f} (hf : ∀ {d}, s.dev.Leads d → s.dev.Leads (f d)) : Answers s (onDev f s) := ⟨_, rfl, (hf .refl).announce⟩

theorem Answers.onDevBy {init f} (hf : ∀ {d}, s.dev.Leads d → s.dev.Leads (f d)) : Answers s (onDevBy init f s) :=
  .onDev (·.ite hf id)

theorem Answers.onBlockBy {init a f} (hf : ∀ {d}, s.dev.Leads d → s.dev.Leads (f d)) : Answers s (onBlockBy init a f s) :=
  .onDevBy (·.ite (fun h => hf h.but) (·.but))

/-! ### Presence -/

theorem answers_execPresenceEvidence {partner} : Answers s (execPresenceEvidence partner s) :=
  .onDev fun h => by
    split
    · exact h.evidence
    · exact h

theorem answers_execDiscoverExpiry {partner tie} : Answers s (execDiscoverExpiry partner tie s) :=
  .onDev fun h => by
    split
    · exact h.ite (·.evidence) (·.ite (·.presenceSet) id)
    · exact h

theorem answers_execLossExpiry {partner tie} : Answers s (execLossExpiry partner tie s) :=
  .onDev fun h => by
    split
    · exact h.ite (·.presenceSet.trig) id
    · exact h

/-! ### Switch -/

theorem answers_execSwxFrameIngress {p f x t} : Answers s (execSwxFrameIngress p f x t s) := .onDev (·.ite (·.swxIngress) id)

theorem answers_execSwxFrameEgress {p t} : Answers s (execSwxFrameEgress p t s) :=
  .onDev fun h => by
    refine h.ite (fun h => ?_) id
    extract_lets d₁
    have h₁ : s.dev.Leads d₁ := h.each (·.swxAge)
    clear_value d₁
    refine h₁.ite id fun _ => ?_
    split
    · exact h₁
    · extract_lets k
      split
      · exact h₁
      · extract_lets gone
        have hgone {d} (h : s.dev.Leads d) : s.dev.Leads (gone d) := h.cellsOut.but.but
        clear_value gone
        refine h₁.ite (fun _ => ?_) fun _ => (hgone h₁).swxOut
        split
        · exact h₁
        · exact (hgone (h₁.swxRing ‹_›)).inci

theorem answers_execSwxRingTransmit {p t} : Answers s (execSwxRingTransmit p t s) :=
  .onDev (·.ite (·.ite id (·.but.ite (·.swxIngress.poke.wri) (·.poke.wri))) id)

theorem answers_execSwxLinkLost {p t} : Answers s (execSwxLinkLost p t s) := .onDev (·.swxLinkLost)

theorem answers_execSwxLinkReturn {p rate} : Answers s (execSwxLinkReturn p rate s) :=
  .onDev (·.ite (fun h => (h.wri.wri.wri.wri.trig.ite (·.but) id).evidenceOf) id)

theorem answers_execSwxLinkHoldExpiry {p} : Answers s (execSwxLinkHoldExpiry p s) := .onDev (·.ite (·.swxHoldEnd) id)

theorem answers_execSwxGateEntry {p pos} : Answers s (execSwxGateEntry p pos s) :=
  .onDev fun h => by
    refine h.ite (fun h => ?_) (fun h => ?_)
    · split
      · exact h.wri.but
      · exact h
    · exact h

theorem answers_execGptpSync {p} : Answers s (execGptpSync p s) := .onDev (·.ite (·.qualRef.wr.ite id (·.wr.wr.trig)) id)
theorem answers_execGptpSyncTimeout : Answers s (execGptpSyncTimeout s) := .onDev (·.ite (·.wr.wr.wr.wr.trig.lossOf) id)
theorem answers_execGptpClockStep : Answers s (execGptpClockStep s) := .onDev (fun h => (h.each (·.wri.but)).wr)
theorem answers_execPpsInEdge {ns} : Answers s (execPpsInEdge ns s) := .onDev (·.ite (·.wr) id)
theorem answers_execPpsOutPulse : Answers s (execPpsOutPulse s) := .onDev (·.ite (·.send) id)
theorem answers_execFrerReset {r} : Answers s (execFrerReset r s) := .onDev (·.ite (·.but.wr.trig) id)
theorem answers_execMacsecOldKeyExpiry {p} : Answers s (execMacsecOldKeyExpiry p s) := .onDev (·.but)

/-! ### Bridge -/

theorem answers_execBrgWindowWrite {init w off size data} : Answers s (execBrgWindowWrite init w off size data s) :=
  .onDevBy fun h => by
    split
    · exact h.winAccess ‹_›
    · exact h.ite (·.winRefuse) (·.ite (·.winAccept.but) (·.but))

theorem answers_execBrgWindowRead {init w off size} : Answers s (execBrgWindowRead init w off size s) :=
  .onDevBy fun h => by
    split
    · exact h.winAccess ‹_›
    · exact h.ite (·.readEnds) (·.but.but)

theorem answers_execBrgReadStallEnd {x} : Answers s (execBrgReadStallEnd x s) :=
  .onDev fun h => by
    split
    · exact h
    · split
      · exact h.but.but.wri.wri.wri.wri.wri.wr.readEnds
      · exact h.but.inc.readEnds

theorem answers_execBrgWriteStallEnd {x} : Answers s (execBrgWriteStallEnd x s) :=
  .onDev fun h => by
    split
    · exact h.but.wri.but
    · exact h

theorem answers_execBrgRequestSend {w} : Answers s (execBrgRequestSend w s) :=
  .onDev fun h => by
    refine h.ite id (·.ite (·.but.farRequest) (·.ite id fun h => ?_))
    split
    · exact h
    · exact h.but.farRequest

theorem answers_execBrgAnswer {w type seq addr data} : Answers s (execBrgAnswer w type seq addr data s) := .onDev (·.farAnswer)

theorem answers_execBrgResponseTimeout {w} : Answers s (execBrgResponseTimeout w s) :=
  .onDev fun h => by
    split
    · exact h.farAgain
    · exact h

theorem answers_execBrgCollectRead {init q} : Answers s (execBrgCollectRead init q s) :=
  .onBlockBy fun h => by
    refine h.ite (fun h => ?_) (fun h => ?_)
    · exact h.ctxTurnedAway
    · split
      · exact h.ite (·.ite (·.slotFree.wri.but) (·.but)) (·.but)
      · exact h.but

theorem answers_execBrgCollectExpiry {q} : Answers s (execBrgCollectExpiry q s) := .onDev (·.ite (·.slotFree.wri.inc.trig) id)

theorem answers_execBrgCabort {init q} : Answers s (execBrgCabort init q s) :=
  .onBlockBy (·.ite (·.refuse.but) (·.ite (·.but.wri.slotFree.but) (·.but)))

theorem answers_execBrgWackResume {init w} : Answers s (execBrgWackResume init w s) := .onBlockBy (·.winAck id)
theorem answers_execBrgWackDiscard {init w} : Answers s (execBrgWackDiscard init w s) := .onBlockBy (·.winAck (·.but.addi))

theorem answers_execBrgIwrite {bus unit node seq size addr data} : Answers s (execBrgIwrite bus unit node seq size addr data s) :=
  .onDev (·.ite (·.inc) (·.farIwrite))

theorem answers_execBrgPollDue {w} : Answers s (execBrgPollDue w s) := .onDev (·.ite (·.but) id)
theorem answers_execBrgProbeDue {w} : Answers s (execBrgProbeDue w s) := .onDev (·.ite (·.but) id)

/-! ### TimeTriggered -/

theorem answers_execTtSlotStart {t slot start til} : Answers s (execTtSlotStart t slot start til s) :=
  .onDev (·.ite (·.ite (·.ttReady) (·.ttAt.each (·.ttSend))) id)

theorem answers_execTtFrameReceived {t f} : Answers s (execTtFrameReceived t f s) :=
  .onDev (·.ite (·.ite (·.ttReady) (fun h => (h.ttAt.ttHear.each (·.ttTake)).ite (·.evidenceOf) id)) id)

theorem answers_execTtDynamicSend {t k mini} : Answers s (execTtDynamicSend t k mini s) :=
  .onDev (·.ite (·.ttReady) (·.ite (·.ttAt.ite (·.inci) (·.ite id (·.send.but.but.wri))) id))

theorem answers_execTtListenTimeout {t silent} : Answers s (execTtListenTimeout t silent s) := .onDev (·.ite (·.wri.but) id)

theorem answers_execTtStartupComplete {t} : Answers s (execTtStartupComplete t s) :=
  .onDev (·.ite (·.but.ttState.ite (·.ttState) id) id)

theorem answers_execTtColdstartAbandon {t} : Answers s (execTtColdstartAbandon t s) := .onDev (·.ite (·.but.trig) id)
theorem answers_execTtColdstartExhausted {t} : Answers s (execTtColdstartExhausted t s) := .onDev (·.ite (·.but.wri.trig) id)

theorem answers_execTtClockCorrectionMissing {t} : Answers s (execTtClockCorrectionMissing t s) :=
  .onDev (·.ite (·.but.ite (·.ttState) (·.ite (·.ttState) id)) id)

theorem answers_execTtClockCorrectionRegained {t rates offsets} : Answers s (execTtClockCorrectionRegained t rates offsets s) :=
  .onDev (·.ite (·.wri.wri.but.ite (·.but.ttState) id) id)

theorem answers_execTtHaltExpiry {t} : Answers s (execTtHaltExpiry t s) := .onDev (·.ite (·.ttReady.inci) id)

theorem answers_execGuardianCycleMark {t cycle len} : Answers s (execGuardianCycleMark t cycle len s) :=
  .onDev (·.ite (·.ite (·.ttReady) (·.ttCycle.ite (·.but) (·.ite (·.but) (·.ttMarkError)))) id)

theorem answers_execGuardianMarkTimeout {t} : Answers s (execGuardianMarkTimeout t s) := .onDev (·.ite (·.ttMarkError) id)

theorem answers_execTtTruncation {t ch start til} : Answers s (execTtTruncation t ch start til s) :=
  .onDev (·.ite id fun h => (h.ite (·.inci.wri) (·.inci.wri)).fwEvent.ite
    (fun h => ((h.ite (·.wri.wri) (·.wri.wri)).ite (·.ttState) id).trig.trig) (·.trig))

/-! ### Sleep -/

theorem answers_execNmwReqSet {init k reason} : Answers s (execNmwReqSet init k reason s) :=
  .onDevBy (·.ite (·.refuse.but) (·.ite (·.but.requestChange.but) (·.but)))

theorem answers_execNmwReqRelease {init k} : Answers s (execNmwReqRelease init k s) :=
  .onDevBy (·.ite (·.refuse.but) (·.ite (·.but.requestChange.but) (·.but)))

theorem answers_execKeepAwakeSend {k} : Answers s (execKeepAwakeSend k s) := .onDev (·.ite (·.kaSend) id)
theorem answers_execKeepAwakeReceived {m} : Answers s (execKeepAwakeReceived m s) := .onDev (·.kaReceived)
theorem answers_execSleepWaitExpiry {k} : Answers s (execSleepWaitExpiry k s) := .onDev (·.ite (·.setClState.wri.wri.trig) id)

theorem answers_execPrepareExpiry {k} : Answers s (execPrepareExpiry k s) :=
  .onDev (·.ite (fun h => (h.setClState.wri.wri.trig.but.each (·.each (·.canAbandon))).each (·.ttSleep)) id)

theorem answers_execSleepCommitComplete {k} : Answers s (execSleepCommitComplete k s) :=
  .onDev (·.ite (fun h => (h.ite id (·.membersStandby)).but.setClState) id)

theorem answers_execSleepCommitStepEnd {k} : Answers s (execSleepCommitStepEnd k s) :=
  .onDev (·.ite (fun h => (h.ite (·.membersStandby) id).ite (·.but.membersStart) (·.but)) id)

theorem answers_execWakeEvent {k cause unit node} : Answers s (execWakeEvent k cause unit node s) :=
  .onDev (·.ite (·.ite (·.wakeFrame) (fun h => (h.ite (·.setBit) id).wake)) id)

theorem answers_execSelectiveWakeOverflow {c} : Answers s (execSelectiveWakeOverflow c s) := .onDev (·.each (·.wakeOverflow))

theorem answers_execAwakeLimitReached {k} : Answers s (execAwakeLimitReached k s) :=
  .onDev fun h => by
    split
    · exact h.ite (·.but.wri.wri.wri.trig) id
    · exact h

theorem answers_execAwakeStretchEnd {k dur} : Answers s (execAwakeStretchEnd k dur s) := .onDev (·.ite (·.but.wri.trig) id)
theorem answers_execHolderExpiry {k node} : Answers s (execHolderExpiry k node s) := .onDev (·.ite (·.but.stretch) id)
theorem answers_execTtClusterAwake {t} : Answers s (execTtClusterAwake t s) := .onDev (·.ite (·.ttAwake.each (·.clStarted)) id)
theorem answers_execTtWakeFrames {t} : Answers s (execTtWakeFrames t s) := .onDev (·.ite (·.each (·.each (·.send))) id)

theorem answers_execBusIntegrationComplete {c} : Answers s (execBusIntegrationComplete c s) :=
  .onDev fun h => by
    refine h.ite (fun h => Dev.Leads.each ?_ (·.clStarted)) id
    split
    · exact h.wri.but.but.wr.trig
    · exact h.wri.but

/-! ### Can -/

theorem answers_execCanFrameReceived {c f} : Answers s (execCanFrameReceived c f s) :=
  .onDev (·.ite (·.ite (·.canException) (·.ite (·.canRxError) (·.canRecDown.canReference.canTake))) (·.sleepBus))

theorem answers_execCanTxstart {init c mask} : Answers s (execCanTxstart init c mask s) :=
  .onBlockBy (·.ite (·.inci.but) (·.canMask (·.ite id (·.canStart))))

theorem answers_execCanTxcan {init c mask} : Answers s (execCanTxcan init c mask s) := .onBlockBy (·.canMask (·.canCancel))

theorem answers_execCanBufferWrite {init c k off data} : Answers s (execCanBufferWrite init c k off data s) :=
  .onBlockBy (·.ite (·.refuse.but) (·.but.but))

theorem answers_execCanArbitrationWon {c b delay} : Answers s (execCanArbitrationWon c b delay s) :=
  .onDev (·.ite (fun h => (h.setCanBuf.ite (·.wri) id).but.send.ite (·.canTxFail) id) id)

theorem answers_execCanTxError {c b lost ref} : Answers s (execCanTxError c b lost ref s) :=
  .onDev (·.ite (·.ite (·.canTxFail) (fun h => (h.setCanBuf.ite (·.but.canAbandon.ite (·.wri.wri.trig) id) id).canAfterFrame)) id)

theorem answers_execCanFrameAcked {c b} : Answers s (execCanFrameAcked c b s) :=
  .onDev (·.ite (fun h => ((h.setCanBuf.setBit.wri.but.wri.canErrState.ite (·.wri.wri.fwClear) id).ite (·.wri)
    id).evidenceOf.canAfterFrame) id)

theorem answers_execCanAckError {c b dominant} : Answers s (execCanAckError c b dominant s) :=
  .onDev (·.ite (fun h => ((h.setCanBuf.ite id (·.canTecUp)).ite id (·.fwEvent.ite (·.fwClear)
    (·.ite (·.wri.wri.wri.noPartner.trig.ite (·.canAbandon) id) id))).canAfterFrame) id)

theorem answers_execBusOffDelayEnd {c} : Answers s (execBusOffDelayEnd c s) := .onDev (·.ite (·.wri) id)
theorem answers_execBusOffRecovered {c} : Answers s (execBusOffRecovered c s) := .onDev (·.ite (·.wri.wri.wri.wri.trig) id)

/-! ### Channels -/

theorem answers_execCommandFrameReceived {b good} : Answers s (execCommandFrameReceived b good s) :=
  .onDev (·.ite id (·.ite (fun h => (h.ite (·.wri.readLog) id).takeFrame.handOverEnd) (·.frameLost)))

theorem answers_execLinkHeartbeat {x} : Answers s (execLinkHeartbeat x s) := .onDev id
theorem answers_execLinkSilence {b} : Answers s (execLinkSilence b s) := .onDev (·.ite (·.handOver) id)
theorem answers_execHoldExpiry {m} : Answers s (execHoldExpiry m s) := .onDev (·.ite (·.holdFail) id)

theorem answers_execPickMark {b ns atMark atMid case vsup} : Answers s (execPickMark b ns atMark atMid case vsup s) :=
  .onDev (·.ite (·.convert.keeperPick) id)

theorem answers_execOwnOscillatorPick {b} : Answers s (execOwnOscillatorPick b s) := .onDev (·.ite (·.keeperPick) id)
theorem answers_execPwmPeriodStart {m} : Answers s (execPwmPeriodStart m s) := .onDev (·.ite (·.each (·.periodBegin)) id)
theorem answers_execPwmHighTimeEnd {m} : Answers s (execPwmHighTimeEnd m s) := .onDev (·.ite (·.each (·.highEnd)) id)
theorem answers_execPwmRestart {m} : Answers s (execPwmRestart m s) := .onDev (·.ite (·.each (·.restartPwm)) id)

theorem answers_execInrushWindowEnd {m} : Answers s (execInrushWindowEnd m s) :=
  .onDev (·.ite (·.wri.but.ite (·.but.shortEvent) id) id)

theorem answers_execLimiterRegulate {m cur} : Answers s (execLimiterRegulate m cur s) :=
  .onDev (·.ite (·.wri.but.ite (·.but.shortEvent) id) id)

theorem answers_execRegulationEnd {m cur} : Answers s (execRegulationEnd m cur s) := .onDev (·.ite (·.but.wri) id)
theorem answers_execDwellTrip {m run same} : Answers s (execDwellTrip m run same s) := .onDev (·.ite (·.chTrip) id)
theorem answers_execDtTrip {m d0 d1 d2 same} : Answers s (execDtTrip m d0 d1 d2 same s) := .onDev (·.ite (·.chTrip) id)

theorem answers_execTjTrip {m t0 t1 t2 same} : Answers s (execTjTrip m t0 t1 t2 same s) :=
  .onDev (·.ite id (·.ite (·.chTrip) (·.ite (·.tjIdle) id)))

theorem answers_execWireModelUpdate {m cur same} : Answers s (execWireModelUpdate m cur same s) :=
  .onDev (fun h => (h.fresh.fresh.fresh.fresh.but.wri.wri.ite (·.wri.wri) (·.ite (·.wri) id)).ite (·.chTrip) id)

theorem answers_execCoolRecovery {m ms tj dt} : Answers s (execCoolRecovery m ms tj dt s) :=
  .onDev (·.ite (·.but.ite (·.startDue) (·.each (·.wri.but))) id)

theorem answers_execLatchClear {init m value} : Answers s (execLatchClear init m value s) :=
  .onBlockBy (·.ite (·.but) (·.ite (·.refuse.but) (·.ite (fun h => (h.fwClear.each (·.wri.wri)).bankRec.but) (·.but))))

theorem answers_execOpenLoadFilterEnd {m mv} : Answers s (execOpenLoadFilterEnd m mv s) :=
  .onDev (·.ite (·.ite (·.but) (·.wri.wri.but)) id)

theorem answers_execOpenLoadCompare {m mv} : Answers s (execOpenLoadCompare m mv s) :=
  .onDev (·.ite (·.but.ite (·.wri.wri.bankRec) (·.wri.wri.bankRec)) id)

theorem answers_execManualDrive {init m cmd} : Answers s (execManualDrive init m cmd s) :=
  .onBlockBy (·.ite (·.but) (·.ite (·.manWrite.but) (·.refuse.but)))

theorem answers_execManualDriveEnd {init m cmd} : Answers s (execManualDriveEnd init m cmd s) :=
  .onBlockBy (·.ite (·.but) (·.ite (·.manWrite.but) (·.refuse.but)))

theorem answers_execManualLeaseExpiry {m tie} : Answers s (execManualLeaseExpiry m tie s) := .onDev (·.ite id (·.manEnd))

/-! ### Banks -/

theorem answers_execClassCheckEnd {b lo hi} : Answers s (execClassCheckEnd b lo hi s) :=
  .onDev (·.ite id (·.ite (·.bankUnlock.wri.wri) (·.ite (·.bankLock) id)))

theorem answers_execOvervoltageLock {b lo us} : Answers s (execOvervoltageLock b lo us s) := .onDev (·.ite (·.bankLock) id)
theorem answers_execUndervoltageLock {b hi us} : Answers s (execUndervoltageLock b hi us s) := .onDev (·.ite (·.bankLock) id)

theorem answers_execSupplyUnlock {b lo hi us} : Answers s (execSupplyUnlock b lo hi us s) :=
  .onDev (·.ite (·.bankUnlock.wri.wri.bankRec) id)

theorem answers_execKeeperReset {b hi us} : Answers s (execKeeperReset b hi us s) := .onDev (·.ite (·.keeperReset) id)

theorem answers_execKeeperStart {b lo us} : Answers s (execKeeperStart b lo us s) :=
  .onDev (·.ite (·.but.ite (·.keeperRewrite) (·.but)) id)

theorem answers_execBudgetSample {b cur trips} : Answers s (execBudgetSample b cur trips s) :=
  .onDev (·.wri.but.wri.shedAmong.ite (·.but) id)

theorem answers_execDissipationEstimate {b cur tj trips} : Answers s (execDissipationEstimate b cur tj trips s) :=
  .onDev (fun h => ((h.fresh.but.fresh.fresh.wri.wri.but.thermShow.ite (·.wri) id).ite (·.bankRec) id).thermalShed)

theorem answers_execCaseLimit {b t1 t2 cur trips} : Answers s (execCaseLimit b t1 t2 cur trips s) :=
  .onDev (fun h => ((h.but.thermShow.ite (·.wri) id).ite (·.bankRec) id).thermalShed)

theorem answers_execThermalShed {b cur trips} : Answers s (execThermalShed b cur trips s) := .onDev (·.but.thermalShed)
theorem answers_execShortEventEnd {b} : Answers s (execShortEventEnd b s) := .onDev (·.ite id (·.wri))

theorem answers_execCellTest {m cells spare} : Answers s (execCellTest m cells spare s) :=
  .onDev (·.ite (·.each (·.ite id (·.fwEvent.ite (·.retire) id))) id)

/-! ### Contexts -/

theorem answers_execSysctlEvtClear {init value} : Answers s (execSysctlEvtClear init value s) :=
  .onBlockBy (·.routedRefuse.routedClear.routedClear.routedClear)

theorem answers_execCtxEvtClear {init value} : Answers s (execCtxEvtClear init value s) :=
  .onBlockBy (·.routedRefuse.routedClear.routedClear.routedClear)

theorem answers_execCtxHartWrite {init x valid bind ctx} : Answers s (execCtxHartWrite init x valid bind ctx s) :=
  .onBlockBy (·.ite (·.ctxRefuse) (·.ite (·.ctxRefuse.but) (·.wri.wri.wri.but)))

theorem answers_execResetSelf {init ctx} : Answers s (execResetSelf init ctx s) := .onBlockBy (·.ownOrder (·.ctxReset))
theorem answers_execRunSelf {init ctx} : Answers s (execRunSelf init ctx s) := .onBlockBy (·.ownOrder (·.ite (·.wri.but) id))

theorem answers_execContextResetComplete {c} : Answers s (execContextResetComplete c s) :=
  .onDev fun h => by
    split
    · exact h
    · exact h.ite id (·.ite (·.but.fwClear.wri.notice.stateChanged.trig) (·.wri.notice.stateChanged.trig))

theorem answers_execBobbinWrite {q kind payload} : Answers s (execBobbinWrite q kind payload s) :=
  .onDev fun h => by
    split
    · exact h.bobPut
    · exact h

theorem answers_execBobbinPop {init x} : Answers s (execBobbinPop init x s) :=
  .onBlockBy fun h => by
    refine h.ite (fun h => ?_) (fun h => ?_)
    · exact h.ctxRefuse
    · split
      · exact h.bobPop
      · exact h

theorem answers_execTimerConfig {init k exp unit mode} : Answers s (execTimerConfig init k exp unit mode s) :=
  .onBlockBy (·.ite (fun h => (h.ite (·.wri) id).wri.wri.ite (·.timerLoad) (·.but)) (·.ctxRefuse))

theorem answers_execTimerExpiry {k} : Answers s (execTimerExpiry k s) := .onDev (·.ite (·.timerExpire) id)

theorem answers_execDoorbellRing {init b data} : Answers s (execDoorbellRing init b data s) :=
  .onBlockBy (·.ite (fun h => (h.ite (·.wri) id).wri.wri.wri) (·.ctxRefuse))

theorem answers_execNoticePop {init b} : Answers s (execNoticePop init b s) :=
  .onBlockBy (·.ite (·.but.but.noticeShow) (·.ctxRefuse))

/-! ### Beat -/

theorem answers_execPickBoundary {x} : Answers s (execPickBoundary x s) :=
  .onDev (·.ite id (·.ite (·.finishPick) (·.ite (·.indexEnd) (·.nextPick))))

theorem answers_execCardSwap : Answers s (execCardSwap s) := .onDev (·.ite (·.flipPending.swapIfDue) id)
theorem answers_execSwapAbandon : Answers s (execSwapAbandon s) := .onDev (·.ite (·.slotDrop.but.wr.wr.wr.hostNotice) id)

theorem answers_execSourceQualify {phErr} : Answers s (execSourceQualify phErr s) :=
  .onDev (·.ite id (·.ite (·.lock.trig) (·.ite (·.wr.ite (·.lock.trig) (·.but)) (·.but))))

theorem answers_execAlignment {pick x} : Answers s (execAlignment pick x s) :=
  .onDev (·.ite id (fun h => ((h.finishPick.ite (·.stepMark) id).ite (·.but) (·.ite (·.lock.wr.trig) (·.lock.trig))).beginPick))

theorem answers_execSourceLoss : Answers s (execSourceLoss s) := .onDev (·.ite (·.sourceLoss) id)
theorem answers_execHoldoverExpiry {tie} : Answers s (execHoldoverExpiry tie s) := .onDev (·.ite id (·.ite (·.wr.but) (·.beatIdle)))
theorem answers_execPhaseStep {phErr} : Answers s (execPhaseStep phErr s) := .onDev (·.ite (·.wr.ite (·.but) id) id)

theorem answers_execPositionEdge {a b gap ns index x} : Answers s (execPositionEdge a b gap ns index x s) :=
  .onDev (·.ite id fun h => (h.but.ite (·.quadError) id).ite (·.quadError) fun h => (h.wr.ite id (·.qualRef)).but.ite
    (·.ite (·.but.indexEnd) (·.edgeEnd)) id)

theorem answers_execIndexAccepted {ns x} : Answers s (execIndexAccepted ns x s) :=
  .onDev (·.ite (·.but.ite (·.but.ite (·.but) (·.ite (·.but) (·.indexEnd))) id) id)

theorem answers_execZeroCrossing {t x} : Answers s (execZeroCrossing t x s) :=
  .onDev (·.ite id (·.wr.ite id (·.ite (·.wr.sourceLoss) fun h =>
    ((h.ite id (·.fresh)).wr.ite id (·.qualBreak)).qualRef.wr.ite (·.but) id)))

/-! ### Recorder -/

theorem answers_execRecTrig {init code} : Answers s (execRecTrig init code s) := .onBlockBy (·.ite (·.trigWith) (·.refuse))

theorem answers_execBucketToken {b} : Answers s (execBucketToken b s) :=
  .onDev (·.ite id (·.ite (·.ite (·.wri) id) (·.ite (·.wr) id)))

theorem answers_execOptimeTick : Answers s (execOptimeTick s) := .onDev (·.ite (·.wr.wr) id)
theorem answers_execOptimeSave : Answers s (execOptimeSave s) := .onDev (·.ite (·.but) id)

theorem answers_execRecRingWrite : Answers s (execRecRingWrite s) :=
  .onDev fun h => by
    refine h.ite (fun h => ?_) (fun h => ?_)
    · split
      · exact h.but.wr.ringWrite
      · exact h
    · exact h

theorem answers_execRecCursor {init seq} : Answers s (execRecCursor init seq s) :=
  .onBlockBy fun h => by
    refine h.ite (·.refuse) (·.wri.wri.wri.ite id fun h => ?_)
    split
    · exact h.wri.ite id (·.wri.wr)
    · exact h

/-! ### Power -/

theorem answers_execOrderedRestart {x} : Answers s (execOrderedRestart x s) := .onDev (·.ite (·.warmReset) id)
theorem answers_execPowerOnReset : Answers s (execPowerOnReset s) := .onDev (·.coreStop.but.but.powerCycle)

theorem answers_execStartupTimeout {x} : Answers s (execStartupTimeout x s) :=
  .onDev (·.ite (·.coreStop.wr.ite (·.but.startUp) (·.but)) id)

theorem answers_execBrownOut : Answers s (execBrownOut s) := .onDev (·.ite (·.coreStop.wr.inc.but) id)

theorem answers_execNrst {x} : Answers s (execNrst x s) :=
  .onDev (·.ite (·.but.warmReset) (·.ite (·.but.ite (·.warmReset) (·.wr)) id))

theorem answers_execPowerOff : Answers s (execPowerOff s) := .onDev (·.coreStop.but.but)
theorem answers_execVsupLogGood {x} : Answers s (execVsupLogGood x s) := .onDev (·.ite (·.startUp) id)
theorem answers_execVsupLow : Answers s (execVsupLow s) := .onDev (·.ite (·.wr.trig.but.ite (·.captureShort) id) id)
theorem answers_execVsupHigh : Answers s (execVsupHigh s) := .onDev (·.ite (·.wr.trig) id)
theorem answers_execVkeepLow : Answers s (execVkeepLow s) := .onDev (·.ite (·.wr.trig) id)
theorem answers_execCoreTempHigh : Answers s (execCoreTempHigh s) := .onDev (·.ite (·.wr.trig) id)
theorem answers_execClockCheck {ppm} : Answers s (execClockCheck ppm s) := .onDev (·.ite (·.wr.trig) id)

theorem answers_execDozeEnter {init} : Answers s (execDozeEnter init s) :=
  .onDevBy (·.ite (·.pwrRefuse) (·.ite (·.but.wr.but) (·.but)))

theorem answers_execDozeExit {init} : Answers s (execDozeExit init s) :=
  .onDevBy (·.ite (·.pwrRefuse) (·.ite (·.but.wr.but) (·.but)))

theorem answers_execStandbyRequest : Answers s (execStandbyRequest s) := .onDev (·.ite (·.wr.wr.but.holdShow) id)

theorem answers_execStandbyCommit : Answers s (execStandbyCommit s) :=
  .onDev (·.ite (·.ite (·.holdShow) (fun h => (h.but.trig.but.each (·.sessionEnd)).but.dbgLower.but)) id)

theorem answers_execStandbyCaptureDone : Answers s (execStandbyCaptureDone s) :=
  .onDev fun h => by
    refine h.ite (fun h => ?_) id
    dsimp only
    split
    · exact h.captureRecord.coreStop.but.wakeBegin
    · exact h.captureRecord.coreStop.but

theorem answers_execHibernateEntry : Answers s (execHibernateEntry s) := .onDev (·.ite (·.but) id)

theorem answers_execWakeFromStandby {cause cluster unit rising} : Answers s (execWakeFromStandby cause cluster unit rising s) :=
  .onDev (·.ite (·.moduleWake) id)

theorem answers_execPwrHoldTake {init} : Answers s (execPwrHoldTake init s) :=
  .onDevBy (·.ite (fun h => (h.ite (·.setLeases) id).but) (·.pwrRefuse))

theorem answers_execPwrHoldRelease {init} : Answers s (execPwrHoldRelease init s) :=
  .onDevBy (·.ite (·.setLeases.but) (·.pwrRefuse))

theorem answers_execPwrLeaseLapse {c} : Answers s (execPwrLeaseLapse c s) := .onDev (·.setLeases)

theorem answers_execDomainReset {init k} : Answers s (execDomainReset init k s) :=
  .onDevBy (·.ite (·.pwrRefuse) (·.domainReset.but))

theorem answers_execDomainResetDone {k} : Answers s (execDomainResetDone k s) := .onDev (·.domainDone)
theorem answers_execBusDieReset : Answers s (execBusDieReset s) := .onDev (·.ite (·.busDieReset) id)

theorem answers_execWatchdogKick {init x key} : Answers s (execWatchdogKick init x key s) :=
  .onDevBy (·.ite (·.pwrRefuse) (·.ite (·.but.but) (·.but)))

theorem answers_execWatchdogWarning {x} : Answers s (execWatchdogWarning x s) := .onDev (·.ite (·.wr.but) id)

theorem answers_execWatchdogExpiry {x y} : Answers s (execWatchdogExpiry x y s) :=
  .onDev fun h => by
    refine h.ite (·.trig.inc.but.ite (·.warmReset) fun h => ?_) id
    split
    · exact h.domainReset
    · exact h

/-! ### Debug -/

theorem answers_execIdcode : Answers s (execIdcode s) := .onDev (·.tapScan (·.send))
theorem answers_execSamplePreload {lands} : Answers s (execSamplePreload lands s) := .onDev (·.tapScan (·.send))

theorem answers_execExtest {lands} : Answers s (execExtest lands s) :=
  .onDev (·.tapScan (fun h => (h.ite id (·.but.wr.each (·.ite (·.handOver) id))).send))

theorem answers_execDtmcs : Answers s (execDtmcs s) := .onDev (·.tapScan (·.send))
theorem answers_execDbgstat : Answers s (execDbgstat s) := .onDev (·.tapScan (·.send))
theorem answers_execBypass : Answers s (execBypass s) := .onDev (·.tapScan (·.send))
theorem answers_execWakereq {bit} : Answers s (execWakereq bit s) := .onDev (·.tapScan (·.send.ite (·.moduleWake) id))
theorem answers_execNtrst : Answers s (execNtrst s) := .onDev (·.ite id (·.extestEnd.dbgFall.but))

theorem answers_execDmi {o} : Answers s (execDmi o s) :=
  .onDev fun h => by
    refine Dev.Leads.tapScan ?_ fun h => (h.ite id (·.dmi)).send
    split
    · exact h.ite (·.inc) id
    · exact h

theorem answers_execDbgchal {level nonce} : Answers s (execDbgchal level nonce s) :=
  .onDev (·.tapScan (·.nonceEnd.ite (·.dbgFall.send) (·.ite (·.send) (·.but.wr.send))))

theorem answers_execDbgresp {resp} : Answers s (execDbgresp resp s) :=
  .onDev (·.tapScan fun h => by
    dsimp only
    split
    · exact h.nonceEnd.send.ite (·.wr.wr.trig) (·.unlockFail)
    · exact h.nonceEnd.send.unlockFail)

theorem answers_execNonceExpiry : Answers s (execNonceExpiry s) := .onDev (·.nonceEnd)
theorem answers_execDbgLockoutEnd : Answers s (execDbgLockoutEnd s) := .onDev (·.ite (·.but.wr.fwClear) id)
theorem answers_execDbgClose {init} : Answers s (execDbgClose init s) := .onBlockBy (·.ite id (·.ite (·.refuse) (·.dbgFall)))

/-! ### Faults -/

theorem answers_execFaultWindowClose {c} : Answers s (execFaultWindowClose c s) :=
  .onDev fun h => by
    refine h.ite id fun h => ?_
    split
    · exact h.fwClear.but
    · exact h.fwClear

theorem answers_execMemoryRowFail {addr unc} : Answers s (execMemoryRowFail addr unc s) := .onDev (·.ite (·.rowEvent) id)

theorem answers_execCoreError {j} : Answers s (execCoreError j s) :=
  .onDev fun h => by
    refine h.ite (fun h => ?_) (fun h => ?_)
    · split
      · split
        · exact h.spareFails
        · exact h.fwEvent.ite (·.hartLasting) (·.domainReset.restartLast)
      · exact h
    · exact h

theorem answers_execLockstepMismatch {j} : Answers s (execLockstepMismatch j s) :=
  .onDev fun h => by
    refine h.ite (fun h => ?_) (fun h => ?_)
    · split
      · exact h.pairEvent
      · exact h
    · exact h

theorem answers_execSramEccRead {addr n unc} : Answers s (execSramEccRead addr n unc s) :=
  .onDev (·.ite (·.ite (·.sramUncorrectable.but) (·.sramCorrected.but)) id)

theorem answers_execSramScrub {cor unc} : Answers s (execSramScrub cor unc s) :=
  .onDev (·.ite (fun h => (h.each (·.sramCorrected)).each (·.sramUncorrectable)) id)

theorem answers_execCanControllerError {u} : Answers s (execCanControllerError u s) :=
  .onDev fun h => by
    refine h.ite id fun h => ?_
    split
    · exact h
    · exact h.ite (·.canExhausted) (·.fwEvent.ite (·.canLasting) (·.imageCan.canLeave.restartLast))

theorem answers_execNorVerifyFail {n} : Answers s (execNorVerifyFail n s) :=
  .onDev (·.ite id (·.fwEvent.ite id (·.ite (·.lasting.fwClear.but.repairShow.inc.wr.trig) (·.lasting.exhausted.latchOff))))

theorem answers_execBusLinkCrcError : Answers s (execBusLinkCrcError s) :=
  .onDev (·.ite id (·.fwEvent.ite id (·.ite (·.lasting.busDieReset) (·.fresh.lasting.busDieReset))))

/-! ### Keys -/

theorem answers_execGcmEnc {init n slot irq} : Answers s (execGcmEnc init n slot irq s) := .onBlockBy (·.keyStart)
theorem answers_execGcmDec {init n slot irq} : Answers s (execGcmDec init n slot irq s) := .onBlockBy (·.keyStart)
theorem answers_execCmac {init n slot irq} : Answers s (execCmac init n slot irq s) := .onBlockBy (·.keyStart)
theorem answers_execCmacVer {init n slot irq} : Answers s (execCmacVer init n slot irq s) := .onBlockBy (·.keyStart)
theorem answers_execHmac {init n slot irq} : Answers s (execHmac init n slot irq s) := .onBlockBy (·.keyStart)
theorem answers_execHmacVer {init n slot irq} : Answers s (execHmacVer init n slot irq s) := .onBlockBy (·.keyStart)
theorem answers_execSign {init n slot irq} : Answers s (execSign init n slot irq s) := .onBlockBy (·.keyStart)
theorem answers_execVerify {init n slot irq} : Answers s (execVerify init n slot irq s) := .onBlockBy (·.keyStart)
theorem answers_execEcdh {init n slot irq} : Answers s (execEcdh init n slot irq s) := .onBlockBy (·.keyStart)
theorem answers_execKdf {init n slot irq} : Answers s (execKdf init n slot irq s) := .onBlockBy (·.keyStart)
theorem answers_execHkdf {init n slot irq} : Answers s (execHkdf init n slot irq s) := .onBlockBy (·.keyStart)
theorem answers_execChal {init n slot irq} : Answers s (execChal init n slot irq s) := .onBlockBy (·.keyStart)
theorem answers_execLoad {init n slot irq} : Answers s (execLoad init n slot irq s) := .onBlockBy (·.keyStart)
theorem answers_execCommit {init n irq} : Answers s (execCommit init n irq s) := .onBlockBy (·.keyStart)
theorem answers_execInval {init n irq} : Answers s (execInval init n irq s) := .onBlockBy (·.keyStart)
theorem answers_execSha256 {init n irq} : Answers s (execSha256 init n irq s) := .onBlockBy (·.keyStart)
theorem answers_execSha384 {init n irq} : Answers s (execSha384 init n irq s) := .onBlockBy (·.keyStart)
theorem answers_execKeyOpAbort {init n} : Answers s (execKeyOpAbort init n s) := .onBlockBy (·.keyAbort)
theorem answers_execKeyOpComplete {n found} : Answers s (execKeyOpComplete n found s) := .onDev (·.keyComplete)
theorem answers_execKeyOpRelease {init n} : Answers s (execKeyOpRelease init n s) := .onBlockBy (·.keyRelease)

/-! ### Signals -/

theorem answers_execGroupCommit {init g} : Answers s (execGroupCommit init g s) :=
  .onBlockBy fun h => by
    split
    · exact h.refuseSignal
    · exact h.ite (·.but.ite id (·.but.wri.ite id (·.flipGroup))) (·.refuseSignal)

theorem answers_execGroupFlip {g} : Answers s (execGroupFlip g s) := .onDev (·.ite (·.flipGroup) id)

theorem answers_execSignalWrite {init n off width value} : Answers s (execSignalWrite init n off width value s) :=
  .onBlockBy fun h => by
    split
    · exact h.refuseSignal
    · refine h.ite (fun h => ?_) (fun h => ?_)
      · exact h.refuseSignal
      · refine h.ite (fun h => ?_) (fun h => ?_)
        · exact h.but.sigPut
        · refine h.ite (fun h => ?_) (fun h => ?_)
          · exact h.but.but
          · refine h.ite (fun h => ?_) (fun h => ?_)
            · split
              · exact h.but.sigPut
              · exact h.refuseSignal
            · exact h.refuseSignal

theorem answers_execSignalRead {init n off width} : Answers s (execSignalRead init n off width s) :=
  .onBlockBy (·.ite (·.ctxTurnedAway) (·.judge.ite (·.but.but) (·.but)))

theorem answers_execStaleSweep {n} : Answers s (execStaleSweep n s) := .onDev (·.judge)
theorem answers_execQ0Move : Answers s (execQ0Move s) := .onDev (·.ite (·.each (·.but.each (·.but))) id)
theorem answers_execTtRxMove : Answers s (execTtRxMove s) := .onDev (·.ite (·.each (·.but.each (·.but))) id)
theorem answers_execI2ObjectMove : Answers s (execI2ObjectMove s) := .onDev (·.ite (·.but.each (·.ite (·.but) (·.inc.trig))) id)

/-! ### Shuttle -/

theorem answers_execHello {check host number nonce epub} : Answers s (execHello check host number nonce epub s) :=
  .onDev fun h => by
    refine h.ite id (·.ite (·.clearError) (·.ite (·.malformed) (·.ite (·.clearError) (·.ite (·.clearError) (·.ite (·.clearError)
      fun h => ?_)))))
    refine Dev.Leads.send ?_
    split
    · exact h.fresh.fresh.setHalfOpen.wri.wri.wri
    · exact h.fresh.fresh.setHalfOpen

theorem answers_execProof {m resp} : Answers s (execProof m resp s) :=
  .onDev fun h => by
    refine h.ite id fun h => ?_
    split
    · exact h.noSession
    · exact h.ite (·.malformed) (·.ite (·.establish) (·.proofFail))

theorem answers_execLockoutEnd : Answers s (execLockoutEnd s) := .onDev (·.ite (·.but.wr.fwClear) id)

theorem answers_execHalfOpenTimeout {number} : Answers s (execHalfOpenTimeout number s) :=
  .onDev fun h => by
    split
    · exact h.halfDrop
    · exact h

theorem answers_execSessionIdleTimeout {number} : Answers s (execSessionIdleTimeout number s) :=
  .onDev fun h => by
    split
    · exact h.sessionEnd
    · exact h

theorem answers_execPing {m} : Answers s (execPing m s) := .onDev (·.request)
theorem answers_execBye {m} : Answers s (execBye m s) := .onDev (·.request)
theorem answers_execSubscribe {m on} : Answers s (execSubscribe m on s) := .onDev (·.request)
theorem answers_execAbort {m target late} : Answers s (execAbort m target late s) := .onDev (·.request)
theorem answers_execRestart {m} : Answers s (execRestart m s) := .onDev (·.request)
theorem answers_execUpdOpen {m ikind total xfer} : Answers s (execUpdOpen m ikind total xfer s) := .onDev (·.request)
theorem answers_execUpdBlock {m xfer offset data found} : Answers s (execUpdBlock m xfer offset data found s) := .onDev (·.request)
theorem answers_execUpdClose {m xfer} : Answers s (execUpdClose m xfer s) := .onDev (·.request)
theorem answers_execUpdActivate {m xfer when_ at_ now} : Answers s (execUpdActivate m xfer when_ at_ now s) := .onDev (·.request)
theorem answers_execUpdCancel {m xfer} : Answers s (execUpdCancel m xfer s) := .onDev (·.request.ite (·.finishArmed) id)
theorem answers_execUpdStatus {m} : Answers s (execUpdStatus m s) := .onDev (·.request)
theorem answers_execInvGet {m} : Answers s (execInvGet m s) := .onDev (·.request)
theorem answers_execPresGet {m first count} : Answers s (execPresGet m first count s) := .onDev (·.request)
theorem answers_execRecRead {m fromSeq count} : Answers s (execRecRead m fromSeq count s) := .onDev (·.request)
theorem answers_execRecClear {m} : Answers s (execRecClear m s) := .onDev (·.request)
theorem answers_execKeyLoad {m slot wrap len found} : Answers s (execKeyLoad m slot wrap len found s) := .onDev (·.request)
theorem answers_execKeyCommit {m slot} : Answers s (execKeyCommit m slot s) := .onDev (·.request)
theorem answers_execKeyInval {m slot} : Answers s (execKeyInval m slot s) := .onDev (·.request)
theorem answers_execOutChal {m slot nonce} : Answers s (execOutChal m slot nonce s) := .onDev (·.request)
theorem answers_execLcChange {m target auth} : Answers s (execLcChange m target auth s) := .onDev (·.request)
theorem answers_execSigRead {m first count} : Answers s (execSigRead m first count s) := .onDev (·.request)
theorem answers_execSigForce {m signal value} : Answers s (execSigForce m signal value s) := .onDev (·.request)
theorem answers_execSigRelease {m signal} : Answers s (execSigRelease m signal s) := .onDev (·.request)
theorem answers_execChMan {m channel en cmd} : Answers s (execChMan m channel en cmd s) := .onDev (·.request)
theorem answers_execSleepReq {m cluster on} : Answers s (execSleepReq m cluster on s) := .onDev (·.request)
theorem answers_execCtxReset {m c} : Answers s (execCtxReset m c s) := .onDev (·.request)
theorem answers_execCtxStop {m c} : Answers s (execCtxStop m c s) := .onDev (·.request)
theorem answers_execCtxRestart {m c} : Answers s (execCtxRestart m c s) := .onDev (·.request)
theorem answers_execCtxStat {m c} : Answers s (execCtxStat m c s) := .onDev (·.request)
theorem answers_execTrdIdle {m} : Answers s (execTrdIdle m s) := .onDev (·.request)
theorem answers_execTrdRelease {m} : Answers s (execTrdRelease m s) := .onDev (·.request)

theorem answers_execNoticeAck {m notice} : Answers s (execNoticeAck m notice s) :=
  .onDev fun h => by
    refine h.ite id fun h => ?_
    split
    · exact h.noSession
    · exact h.ite (·.tagError) (·.ite (·.malformed) (·.but))

theorem answers_execNoticeResend {number notice} : Answers s (execNoticeResend number notice s) :=
  .onDev fun h => by
    split
    · exact h
    · dsimp only
      split
      · exact h
      · exact h.ite (·.but.sendSeq) (·.but.noteLost)

theorem answers_execNeighborSolicitation {own src} : Answers s (execNeighborSolicitation own src s) := .onDev (·.ite (·.send) id)

theorem answers_execIcmpv6Echo {own src ident seq data} : Answers s (execIcmpv6Echo own src ident seq data s) :=
  .onDev (·.ite (·.send) id)

theorem answers_execReassemblyTimeout {src ident} : Answers s (execReassemblyTimeout src ident s) := .onDev (·.but)

theorem answers_execUpdCloseComplete {x} : Answers s (execUpdCloseComplete x s) :=
  .onDev fun h => by
    split
    · split
      · exact (h.closeEnd ‹_›).finish
      · exact h
    · exact h

theorem answers_execLcTransitionComplete : Answers s (execLcTransitionComplete s) :=
  .onDev fun h => by
    split
    · exact h.lcCarry.finish.but
    · exact h

theorem answers_execRingEraseComplete : Answers s (execRingEraseComplete s) :=
  .onDev fun h => by
    refine h.ite (fun h => ?_) id
    dsimp only
    split
    · exact h.ringErased.finish
    · exact h.ringErased

/-! ### Update -/

theorem answers_execStagingLockLapse : Answers s (execStagingLockLapse s) :=
  .onDev fun h => by
    split
    · exact h.ite (·.updDiscard.trig.updNotice) id
    · exact h

theorem answers_execActivationTime {supplyOk} : Answers s (execActivationTime supplyOk s) :=
  .onDev fun h => by
    split
    · exact h.ite id (·.ite (·.activateNot) (·.activate.finishArmed.updNotice))
    · exact h

theorem answers_execUpdConfirm {init key} : Answers s (execUpdConfirm init key s) :=
  .onBlockBy (·.ite (·.but) (·.ite (·.refuse.but) (·.ite (·.inc.but) (·.confirm.but))))

theorem answers_execConfirmExpiry : Answers s (execConfirmExpiry s) := .onDev (·.ite (·.fallback) id)

/-! ### Access -/

theorem answers_execRegisterWrite {init addr width value} : Answers s (execRegisterWrite init addr width value s) :=
  .onDev (·.ite (·.writeAt) id)

theorem answers_execRcFieldRead {init addr width} : Answers s (execRcFieldRead init addr width s) :=
  .onDev (·.ite id (·.ite (·.ctxTurnedAway) (·.readAt)))

/-! ### Tamper -/

theorem answers_execTamper {cause value ns x} : Answers s (execTamper cause value ns x s) := .onDev (·.ite (·.tamper) id)
theorem answers_execVkeepLoss {mv ns x} : Answers s (execVkeepLoss mv ns x s) := .onDev (·.ite id (·.but.but.ite (·.tamper) id))

/-! ### Treadle -/

theorem answers_execNop {idx} : Answers s (execNop idx s) := .onDev (·.runEntry id)
theorem answers_execTake {idx} : Answers s (execTake idx s) := .onDev (·.runEntry (·.takeEffect))
theorem answers_execSample {idx} : Answers s (execSample idx s) := .onDev (·.runEntry (·.entryWrite))
theorem answers_execStamp {idx} : Answers s (execStamp idx s) := .onDev (·.runEntry (·.entryWrite))
theorem answers_execMove {idx} : Answers s (execMove idx s) := .onDev (·.runEntry (·.oneSource (·.entryWrite)))
theorem answers_execScale {idx} : Answers s (execScale idx s) := .onDev (·.runEntry (·.oneSource (·.entryWrite.saturate)))
theorem answers_execPack {idx} : Answers s (execPack idx s) := .onDev (·.runEntry (·.packSources.entryWrite))
theorem answers_execUnpack {idx} : Answers s (execUnpack idx s) := .onDev (·.runEntry (·.oneSource (·.entryWrite)))

theorem answers_execSend {idx} : Answers s (execSend idx s) :=
  .onDev (·.runEntry (·.iteFst id (·.iteFst (·.refuseEntry) (·.oneSource (·.sendEffect)))))

theorem answers_execDrive {idx} : Answers s (execDrive idx s) :=
  .onDev (·.runEntry (·.iteFst id (·.iteFst (·.refuseEntry) (·.oneSource (·.but)))))

theorem answers_execPwmset {idx} : Answers s (execPwmset idx s) :=
  .onDev (·.runEntry (·.iteFst id (·.iteFst (·.refuseEntry) (·.oneSource (·.but)))))

theorem answers_execGate {idx} : Answers s (execGate idx s) := .onDev (·.runEntry (·.iteFst id (·.iteFst (·.refuseEntry) (·.wri))))
theorem answers_execKick {idx} : Answers s (execKick idx s) := .onDev (·.runEntry (·.iteFst id (·.kick)))
theorem answers_execMark {idx} : Answers s (execMark idx s) := .onDev (·.runEntry (·.wri.setBit))

theorem answers_execTableReadCorrected {idx} : Answers s (execTableReadCorrected idx s) :=
  .onDev (·.ite (·.inc.wr.trig.but.shedCheck.weftEnd.ite (·.finishPick) id) id)

theorem answers_execUncorrectableTableRead {idx} : Answers s (execUncorrectableTableRead idx s) :=
  .onDev (·.ite (fun h => (h.inc.wr.trig.dropEntry.ite (·.weftEnd) id).ite (·.finishPick) id) id)

/-! ### The dispatcher -/

theorem answers_exec (c : Instr) (s : State) : Answers s (exec c s) := by
  cases c with
  | pickBoundary => exact answers_execPickBoundary
  | cardSwap => exact answers_execCardSwap
  | swapAbandon => exact answers_execSwapAbandon
  | sourceQualify => exact answers_execSourceQualify
  | alignment => exact answers_execAlignment
  | sourceLoss => exact answers_execSourceLoss
  | holdoverExpiry => exact answers_execHoldoverExpiry
  | phaseStep => exact answers_execPhaseStep
  | positionEdge => exact answers_execPositionEdge
  | indexAccepted => exact answers_execIndexAccepted
  | zeroCrossing => exact answers_execZeroCrossing
  | tableReadCorrected => exact answers_execTableReadCorrected
  | nop => exact answers_execNop
  | take => exact answers_execTake
  | sample => exact answers_execSample
  | stamp => exact answers_execStamp
  | move => exact answers_execMove
  | scale => exact answers_execScale
  | pack => exact answers_execPack
  | unpack => exact answers_execUnpack
  | send => exact answers_execSend
  | drive => exact answers_execDrive
  | pwmset => exact answers_execPwmset
  | gate => exact answers_execGate
  | kick => exact answers_execKick
  | mark => exact answers_execMark
  | groupCommit => exact answers_execGroupCommit
  | groupFlip => exact answers_execGroupFlip
  | signalWrite => exact answers_execSignalWrite
  | signalRead => exact answers_execSignalRead
  | staleSweep => exact answers_execStaleSweep
  | q0Move => exact answers_execQ0Move
  | ttRxMove => exact answers_execTtRxMove
  | i2ObjectMove => exact answers_execI2ObjectMove
  | presenceEvidence => exact answers_execPresenceEvidence
  | discoverExpiry => exact answers_execDiscoverExpiry
  | lossExpiry => exact answers_execLossExpiry
  | sysctlEvtClear => exact answers_execSysctlEvtClear
  | ctxEvtClear => exact answers_execCtxEvtClear
  | ctxHartWrite => exact answers_execCtxHartWrite
  | resetSelf => exact answers_execResetSelf
  | runSelf => exact answers_execRunSelf
  | contextResetComplete => exact answers_execContextResetComplete
  | bobbinWrite => exact answers_execBobbinWrite
  | bobbinPop => exact answers_execBobbinPop
  | timerConfig => exact answers_execTimerConfig
  | timerExpiry => exact answers_execTimerExpiry
  | doorbellRing => exact answers_execDoorbellRing
  | noticePop => exact answers_execNoticePop
  | commandFrameReceived => exact answers_execCommandFrameReceived
  | linkHeartbeat b => exact answers_execLinkHeartbeat (x := b)
  | linkSilence => exact answers_execLinkSilence
  | holdExpiry => exact answers_execHoldExpiry
  | pickMark => exact answers_execPickMark
  | pwmPeriodStart => exact answers_execPwmPeriodStart
  | pwmHighTimeEnd => exact answers_execPwmHighTimeEnd
  | pwmRestart => exact answers_execPwmRestart
  | inrushWindowEnd => exact answers_execInrushWindowEnd
  | limiterRegulate => exact answers_execLimiterRegulate
  | dwellTrip => exact answers_execDwellTrip
  | dtTrip => exact answers_execDtTrip
  | tjTrip => exact answers_execTjTrip
  | wireModelUpdate => exact answers_execWireModelUpdate
  | coolRecovery => exact answers_execCoolRecovery
  | latchClear => exact answers_execLatchClear
  | openLoadFilterEnd => exact answers_execOpenLoadFilterEnd
  | openLoadCompare => exact answers_execOpenLoadCompare
  | manualDrive => exact answers_execManualDrive
  | manualDriveEnd => exact answers_execManualDriveEnd
  | manualLeaseExpiry => exact answers_execManualLeaseExpiry
  | classCheckEnd => exact answers_execClassCheckEnd
  | overvoltageLock => exact answers_execOvervoltageLock
  | undervoltageLock => exact answers_execUndervoltageLock
  | supplyUnlock => exact answers_execSupplyUnlock
  | keeperReset => exact answers_execKeeperReset
  | keeperStart => exact answers_execKeeperStart
  | budgetSample => exact answers_execBudgetSample
  | dissipationEstimate => exact answers_execDissipationEstimate
  | caseLimit => exact answers_execCaseLimit
  | thermalShed => exact answers_execThermalShed
  | shortEventEnd => exact answers_execShortEventEnd
  | cellTest => exact answers_execCellTest
  | canFrameReceived => exact answers_execCanFrameReceived
  | canTxstart => exact answers_execCanTxstart
  | canTxcan => exact answers_execCanTxcan
  | canBufferWrite => exact answers_execCanBufferWrite
  | canArbitrationWon => exact answers_execCanArbitrationWon
  | canTxError => exact answers_execCanTxError
  | canFrameAcked => exact answers_execCanFrameAcked
  | canAckError => exact answers_execCanAckError
  | busOffDelayEnd => exact answers_execBusOffDelayEnd
  | busOffRecovered => exact answers_execBusOffRecovered
  | ttSlotStart => exact answers_execTtSlotStart
  | ttFrameReceived => exact answers_execTtFrameReceived
  | ttDynamicSend => exact answers_execTtDynamicSend
  | ttClusterAwake => exact answers_execTtClusterAwake
  | ttListenTimeout => exact answers_execTtListenTimeout
  | ttStartupComplete => exact answers_execTtStartupComplete
  | ttColdstartAbandon => exact answers_execTtColdstartAbandon
  | ttColdstartExhausted => exact answers_execTtColdstartExhausted
  | ttClockCorrectionMissing => exact answers_execTtClockCorrectionMissing
  | ttClockCorrectionRegained => exact answers_execTtClockCorrectionRegained
  | ttHaltExpiry => exact answers_execTtHaltExpiry
  | guardianCycleMark => exact answers_execGuardianCycleMark
  | guardianMarkTimeout => exact answers_execGuardianMarkTimeout
  | ttTruncation => exact answers_execTtTruncation
  | ttWakeFrames => exact answers_execTtWakeFrames
  | swxFrameIngress => exact answers_execSwxFrameIngress
  | swxFrameEgress => exact answers_execSwxFrameEgress
  | swxRingTransmit => exact answers_execSwxRingTransmit
  | swxLinkLost => exact answers_execSwxLinkLost
  | swxLinkReturn => exact answers_execSwxLinkReturn
  | swxLinkHoldExpiry => exact answers_execSwxLinkHoldExpiry
  | swxGateEntry => exact answers_execSwxGateEntry
  | gptpSync => exact answers_execGptpSync
  | gptpSyncTimeout => exact answers_execGptpSyncTimeout
  | gptpClockStep => exact answers_execGptpClockStep
  | ppsInEdge => exact answers_execPpsInEdge
  | ppsOutPulse => exact answers_execPpsOutPulse
  | frerReset => exact answers_execFrerReset
  | macsecOldKeyExpiry => exact answers_execMacsecOldKeyExpiry
  | brgWindowWrite => exact answers_execBrgWindowWrite
  | brgWindowRead => exact answers_execBrgWindowRead
  | brgReadStallEnd => exact answers_execBrgReadStallEnd
  | brgRequestSend => exact answers_execBrgRequestSend
  | brgAnswer => exact answers_execBrgAnswer
  | brgResponseTimeout => exact answers_execBrgResponseTimeout
  | brgCollectRead => exact answers_execBrgCollectRead
  | brgCollectExpiry => exact answers_execBrgCollectExpiry
  | brgCabort => exact answers_execBrgCabort
  | brgWackResume => exact answers_execBrgWackResume
  | brgWackDiscard => exact answers_execBrgWackDiscard
  | brgIwrite => exact answers_execBrgIwrite
  | brgPollDue => exact answers_execBrgPollDue
  | brgProbeDue => exact answers_execBrgProbeDue
  | nmwReqSet => exact answers_execNmwReqSet
  | nmwReqRelease => exact answers_execNmwReqRelease
  | keepAwakeSend => exact answers_execKeepAwakeSend
  | keepAwakeReceived => exact answers_execKeepAwakeReceived
  | sleepWaitExpiry => exact answers_execSleepWaitExpiry
  | prepareExpiry => exact answers_execPrepareExpiry
  | sleepCommitComplete => exact answers_execSleepCommitComplete
  | wakeEvent => exact answers_execWakeEvent
  | selectiveWakeOverflow => exact answers_execSelectiveWakeOverflow
  | awakeLimitReached => exact answers_execAwakeLimitReached
  | awakeStretchEnd => exact answers_execAwakeStretchEnd
  | hello => exact answers_execHello
  | proof => exact answers_execProof
  | lockoutEnd => exact answers_execLockoutEnd
  | halfOpenTimeout => exact answers_execHalfOpenTimeout
  | sessionIdleTimeout => exact answers_execSessionIdleTimeout
  | ping => exact answers_execPing
  | bye => exact answers_execBye
  | subscribe => exact answers_execSubscribe
  | abort => exact answers_execAbort
  | restart => exact answers_execRestart
  | updOpen => exact answers_execUpdOpen
  | updBlock => exact answers_execUpdBlock
  | updClose => exact answers_execUpdClose
  | updActivate => exact answers_execUpdActivate
  | updCancel => exact answers_execUpdCancel
  | updStatus => exact answers_execUpdStatus
  | invGet => exact answers_execInvGet
  | presGet => exact answers_execPresGet
  | recRead => exact answers_execRecRead
  | recClear => exact answers_execRecClear
  | keyLoad => exact answers_execKeyLoad
  | keyCommit => exact answers_execKeyCommit
  | keyInval => exact answers_execKeyInval
  | outChal => exact answers_execOutChal
  | lcChange => exact answers_execLcChange
  | sigRead => exact answers_execSigRead
  | sigForce => exact answers_execSigForce
  | sigRelease => exact answers_execSigRelease
  | chMan => exact answers_execChMan
  | sleepReq => exact answers_execSleepReq
  | ctxReset => exact answers_execCtxReset
  | ctxStop => exact answers_execCtxStop
  | ctxRestart => exact answers_execCtxRestart
  | ctxStat => exact answers_execCtxStat
  | trdIdle => exact answers_execTrdIdle
  | trdRelease => exact answers_execTrdRelease
  | noticeAck => exact answers_execNoticeAck
  | noticeResend => exact answers_execNoticeResend
  | neighborSolicitation => exact answers_execNeighborSolicitation
  | icmpv6Echo => exact answers_execIcmpv6Echo
  | reassemblyTimeout => exact answers_execReassemblyTimeout
  | lockstepMismatch => exact answers_execLockstepMismatch
  | sramEccRead => exact answers_execSramEccRead
  | sramScrub => exact answers_execSramScrub
  | gcmEnc => exact answers_execGcmEnc
  | gcmDec => exact answers_execGcmDec
  | cmac => exact answers_execCmac
  | cmacVer => exact answers_execCmacVer
  | hmac => exact answers_execHmac
  | hmacVer => exact answers_execHmacVer
  | sign => exact answers_execSign
  | verify => exact answers_execVerify
  | ecdh => exact answers_execEcdh
  | kdf => exact answers_execKdf
  | hkdf => exact answers_execHkdf
  | chal => exact answers_execChal
  | load => exact answers_execLoad
  | commit => exact answers_execCommit
  | inval => exact answers_execInval
  | sha256 => exact answers_execSha256
  | sha384 => exact answers_execSha384
  | keyOpAbort => exact answers_execKeyOpAbort
  | keyOpComplete => exact answers_execKeyOpComplete
  | keyOpRelease => exact answers_execKeyOpRelease
  | tamper => exact answers_execTamper
  | vkeepLoss => exact answers_execVkeepLoss
  | idcode => exact answers_execIdcode
  | samplePreload => exact answers_execSamplePreload
  | extest => exact answers_execExtest
  | dtmcs => exact answers_execDtmcs
  | dmi => exact answers_execDmi
  | dbgchal => exact answers_execDbgchal
  | dbgresp => exact answers_execDbgresp
  | dbgstat => exact answers_execDbgstat
  | wakereq => exact answers_execWakereq
  | bypass => exact answers_execBypass
  | ntrst => exact answers_execNtrst
  | nonceExpiry => exact answers_execNonceExpiry
  | dbgLockoutEnd => exact answers_execDbgLockoutEnd
  | dbgClose => exact answers_execDbgClose
  | recTrig => exact answers_execRecTrig
  | bucketToken => exact answers_execBucketToken
  | recRingWrite => exact answers_execRecRingWrite
  | recCursor => exact answers_execRecCursor
  | optimeTick => exact answers_execOptimeTick
  | optimeSave => exact answers_execOptimeSave
  | stagingLockLapse => exact answers_execStagingLockLapse
  | activationTime => exact answers_execActivationTime
  | updConfirm => exact answers_execUpdConfirm
  | confirmExpiry => exact answers_execConfirmExpiry
  | orderedRestart => exact answers_execOrderedRestart
  | powerOnReset => exact answers_execPowerOnReset
  | startupTimeout => exact answers_execStartupTimeout
  | brownOut => exact answers_execBrownOut
  | nrst => exact answers_execNrst
  | powerOff => exact answers_execPowerOff
  | vsupLow => exact answers_execVsupLow
  | vsupHigh => exact answers_execVsupHigh
  | vkeepLow => exact answers_execVkeepLow
  | coreTempHigh => exact answers_execCoreTempHigh
  | clockCheck => exact answers_execClockCheck
  | dozeEnter => exact answers_execDozeEnter
  | dozeExit => exact answers_execDozeExit
  | standbyRequest => exact answers_execStandbyRequest
  | standbyCommit => exact answers_execStandbyCommit
  | standbyCaptureDone => exact answers_execStandbyCaptureDone
  | hibernateEntry => exact answers_execHibernateEntry
  | wakeFromStandby => exact answers_execWakeFromStandby
  | pwrHoldTake => exact answers_execPwrHoldTake
  | pwrHoldRelease => exact answers_execPwrHoldRelease
  | pwrLeaseLapse => exact answers_execPwrLeaseLapse
  | domainReset => exact answers_execDomainReset
  | busDieReset => exact answers_execBusDieReset
  | watchdogKick => exact answers_execWatchdogKick
  | watchdogWarning => exact answers_execWatchdogWarning
  | watchdogExpiry => exact answers_execWatchdogExpiry
  | faultWindowClose => exact answers_execFaultWindowClose
  | memoryRowFail => exact answers_execMemoryRowFail
  | coreError => exact answers_execCoreError
  | canControllerError => exact answers_execCanControllerError
  | norVerifyFail => exact answers_execNorVerifyFail
  | busLinkCrcError => exact answers_execBusLinkCrcError
  | registerWrite => exact answers_execRegisterWrite
  | rcFieldRead => exact answers_execRcFieldRead
  | regulationEnd => exact answers_execRegulationEnd
  | ownOscillatorPick => exact answers_execOwnOscillatorPick
  | busIntegrationComplete => exact answers_execBusIntegrationComplete
  | holderExpiry => exact answers_execHolderExpiry
  | sleepCommitStepEnd => exact answers_execSleepCommitStepEnd
  | brgWriteStallEnd => exact answers_execBrgWriteStallEnd
  | vsupLogGood => exact answers_execVsupLogGood
  | updCloseComplete => exact answers_execUpdCloseComplete
  | lcTransitionComplete => exact answers_execLcTransitionComplete
  | ringEraseComplete => exact answers_execRingEraseComplete
  | domainResetDone => exact answers_execDomainResetDone
  | uncorrectableTableRead => exact answers_execUncorrectableTableRead

theorem Dev.Leads.tick (d : Dev) : Dev.Leads { d with now := d.now + 1 } d.tick :=
  Dev.Leads.refl.canQ1Drain.farDrain.kaDrain.hartsJoin.ite (·.wr) id

end Sys2Proof.Machine
end

section
/-! SUPPORT. Accesses that fault: outside every region and block (R27), and to a block whose power domain is off (R35). -/

namespace Sys2Proof.Machine

/-- The gaps between the regions of R26, and between the blocks of R29 within the peripheral region. -/
def inGap (a : Nat) : Prop :=
  (0x10000 ≤ a ∧ a < 0x08000000) ∨ (0x08800000 ≤ a ∧ a < 0x10000000) ∨ (0x18000000 ≤ a ∧ a < 0x20000000) ∨
    (0x21800000 ≤ a ∧ a < 0x50000000 ∧ inBlock a = false) ∨ 0x50400000 ≤ a

theorem inBlock_false_above {a : Nat} (h : 0x40D00000 ≤ a) : inBlock a = false := by
  simp only [inBlock, Bool.or_eq_false_iff, Bool.and_eq_false_iff, decide_eq_false_iff_not]
  omega

theorem regionOf_gap {a : Nat} (h : inGap a) : regionOf a = .outside := by
  unfold regionOf
  rcases h with ⟨lo, hi⟩ | ⟨lo, hi⟩ | ⟨lo, hi⟩ | ⟨lo, hi, hb⟩ | lo
  · rw [if_neg (by omega), if_pos hi]
  · iterate 7 rw [if_neg (by omega)]
    rw [if_pos hi]
  · iterate 12 rw [if_neg (by omega)]
    rw [if_pos hi]
  · iterate 16 rw [if_neg (by omega)]
    rw [hb, if_neg Bool.false_ne_true, if_pos hi]
  · iterate 16 rw [if_neg (by omega)]
    rw [inBlock_false_above (by omega), if_neg Bool.false_ne_true, if_neg (by omega), if_neg (by omega)]

section
variable {d : Dev} {init a w : Nat}

theorem Dev.writeAt_outside (h : regionOf a = .outside) (v : Nat) :
    d.writeAt init a w v = ((d.answered 0).trig 0x0010 []).faulted := by
  simp only [Dev.writeAt, h, Dev.outside]

theorem Dev.readAt_outside (h : regionOf a = .outside) : d.readAt init a w = ((d.answered 0).trig 0x0010 []).faulted := by
  simp only [Dev.readAt, h, Dev.outside]

/-! ### A block without power -/

theorem Dev.regWrite_off (h : d.domainOn (domainOf a) = false) (v : Nat) : d.regWrite init a w v = d.faulted := by
  rw [Dev.regWrite, h]; rfl

theorem Dev.regRead_off (h : d.domainOn (domainOf a) = false) : d.regRead init a w = d.faulted := by
  rw [Dev.regRead, h]; rfl

variable (hr : regionOf a = .block) (hw : w ≤ 32 ∨ domainOf (a + 4) = domainOf a) (h : d.domainOn (domainOf a) = false)
include hr hw h

theorem Dev.writeAt_off (v : Nat) : d.writeAt init a w v = d.faulted := by
  have first (x u : Nat) : (d.answered 0).regWrite init a x u = d.faulted := Dev.regWrite_off (d := d.answered 0) h u
  simp only [Dev.writeAt, hr, first]
  split
  · rfl
  · next wide =>
    have hsame := hw.resolve_left wide
    exact Dev.regWrite_off (d := d.faulted) (hsame ▸ h) _

theorem Dev.readAt_off : d.readAt init a w = d.faulted := by
  have first (x : Nat) : (d.answered 0).regRead init a x = d.faulted := Dev.regRead_off (d := d.answered 0) h
  simp only [Dev.readAt, hr, first]
  split
  · rfl
  · next wide =>
    have second : d.faulted.regRead init (a + 4) 32 = d.faulted := Dev.regRead_off (d := d.faulted) (hw.resolve_left wide ▸ h)
    rw [second]
    simp only [Dev.faulted, Nat.zero_mul, Nat.zero_add, Bool.or_self]

end

/-- The command is an access by the initiator `init` to a block of the power domain `k`. -/
def AccessesDomain (c : Instr) (init k : Nat) : Prop := ∀ s, ∃ a f, exec c s = onBlockBy init a f s ∧ domainOf a = k

theorem gives_faulted {c : Instr} {init k : Nat} (hc : AccessesDomain c init k) {s : State} (hp : s.dev.portOpen init = true)
    (hk : s.dev.domainOn k = false) : Gives c s s.dev.faulted := by
  obtain ⟨a, f, he, rfl⟩ := hc s
  simp only [Gives, he, onBlockBy, onDevBy, onDev, hp, hk, Bool.false_eq_true, if_true, if_false]

end Sys2Proof.Machine
end

section
/-! SUPPORT. A state in which a one-bit field holds a number beyond its width: no write stores one (`Dev.wri` cuts the value to the
width), yet the statements speak of every state. -/

namespace Sys2Proof.Machine

/-- The keeper of bank 0 runs, and BANK0_STAT.LINK holds 2: not 1, so no hand-over is in progress (R326), and not 0. -/
def linkOfTwo : State where
  dev := { regs := ⟨[(BANK_STAT_LINK.key 0, 2)]⟩, bank := ⟨[(0, { keeperOn := true })]⟩ }

theorem Dev.takeSlot_unasserted (d : Dev) (m : Nat) {f : FrameSlot} (h : f.assert = false) : d.takeSlot m f = d := by
  rw [Dev.takeSlot, if_pos (.inr (.inr (by rw [h]; rfl)))]

theorem Dev.takeFrame_empty (d : Dev) (b : Nat) : d.takeFrame b [] = d :=
  List.foldl_fixed' (fun m => d.takeSlot_unasserted m rfl) _

theorem Dev.handOverEnd_resumed (d : Dev) {b : Nat} (h : (d.bk b).resumed = true) : d.handOverEnd b = d := by
  rw [Dev.handOverEnd, h, if_neg (fun hnot => Bool.false_ne_true hnot.1)]

/-- A good frame finds no hand-over in progress, and with no slot asserted it changes nothing. -/
theorem exec_commandFrameReceived_linkOfTwo : exec (.commandFrameReceived 0 true) linkOfTwo = .next linkOfTwo := by
  have hrun : ¬ ((!linkOfTwo.dev.bankFitted 0) = true ∨ (!(linkOfTwo.dev.bk 0).keeperOn) = true) := by decide
  have hlink : linkOfTwo.dev.flagi BANK_STAT_LINK 0 = false := by decide
  have hframe : (linkOfTwo.dev.takeFrame 0 (linkOfTwo.dev.bk 0).lastFrame).handOverEnd 0 = linkOfTwo.dev := by
    rw [show (linkOfTwo.dev.bk 0).lastFrame = [] from rfl, Dev.takeFrame_empty]
    exact Dev.handOverEnd_resumed _ rfl
  show execCommandFrameReceived 0 true linkOfTwo = _
  rw [execCommandFrameReceived, onDev_eq, if_neg hrun]
  simp only [hlink, Bool.false_eq_true, if_false, if_true, hframe]
  rfl

end Sys2Proof.Machine
end

section
/-! CERTIFICATES. The statements of the module architecture family that are settled. -/

namespace Sys2Proof.Proofs
open Sys2Proof.Machine

/-- Settles O4: every meaning is made of primitive changes, each of which keeps the canonical form, the model's own form (log entries 1
and 6). -/
theorem canonicalKept : Obligations.CanonicalKept := by
  intro s t hs hstep
  cases hp : s.pending with
  | nil =>
    simp only [step, hp, Host.Outcome.next.injEq] at hstep
    exact hstep ▸ (Dev.Leads.tick s.dev).announce.canonical hs
  | cons c rest =>
    obtain ⟨d, he, hd⟩ := answers_exec c { s with pending := rest }
    simp only [step, hp, he, Host.Outcome.next.injEq] at hstep
    exact hstep ▸ hd.canonical hs

/-- Settles O14: an address outside the regions and blocks that are listed lies in a gap. -/
theorem accessOutside : Obligations.AccessOutside := by
  intro s init a w v hacc hdecl hout
  simp only [List.forall_mem_cons, List.not_mem_nil, false_imp_iff, implies_true, and_true] at hout
  have hgap : inGap a := by
    have hblock : a < 0x50000000 → inBlock a = false := by
      intro _
      simp only [inBlock, Bool.or_eq_false_iff, Bool.and_eq_false_iff, decide_eq_false_iff_not]
      omega
    by_cases hperiph : 0x21800000 ≤ a ∧ a < 0x50000000
    · exact .inr (.inr (.inr (.inl ⟨hperiph.1, hperiph.2, hblock hperiph.2⟩)))
    · unfold inGap
      omega
  have hr := regionOf_gap hgap
  refine ⟨?_, ?_, rfl⟩
  · exact Dev.writeAt_outside hr v ▸ gives_registerWrite hacc a w v
  · exact Dev.readAt_outside hr ▸ gives_rcFieldRead hacc hdecl a w

/-- Settles O15: a register access finds its block's domain off before anything else, and so does each command on a block. -/
theorem unpoweredAccess : Obligations.UnpoweredAccess := by
  refine ⟨?register, ?_, ?_, ?_, ?_, ?_⟩
  case register =>
    intro s init a w v hacc hdecl hr hw hoff
    exact ⟨Dev.writeAt_off hr hw hoff v ▸ gives_registerWrite hacc a w v,
      Dev.readAt_off hr hw hoff ▸ gives_rcFieldRead hacc hdecl a w⟩
  all_goals
    intros
    refine gives_faulted (fun s => ?_) (by assumption) (by assumption)
    rename_i hc
    fin_cases hc <;> dsimp only [exec] <;> exact ⟨_, _, rfl, rfl⟩

/-- Refutes O32: its fourth clause has LINK read 0 after every good frame, but the model clears LINK only where it reads 1, and the
state `linkOfTwo`, in which it holds 2, is left as it is. -/
theorem not_keeperLinkCommands : ¬ Obligations.KeeperLinkCommands := by
  unfold Obligations.KeeperLinkCommands
  rintro ⟨-, -, -, hframe, -⟩
  obtain ⟨d, hgives, hlink, -⟩ := hframe linkOfTwo 0 rfl rfl
  rw [Gives, exec_commandFrameReceived_linkOfTwo, Host.Outcome.next.injEq] at hgives
  have hdev : linkOfTwo.dev = d.announce linkOfTwo.dev := congrArg State.dev hgives
  have hregs : d.regs = linkOfTwo.dev.regs := by
    rw [hdev, Dev.announce]
    split
    · rfl
    · rfl
  rw [Dev.rdi, hregs] at hlink
  exact absurd hlink (by decide)

end Sys2Proof.Proofs
end

section
/-! SUPPORT. A write to a routed event register (R57, R784, R785): who a source is routed to does not rest on the event registers,
so that the bits of one write are judged alike, and each clears its own field alone. -/

namespace Sys2Proof.Machine

/-! ### A field outside the registers that say who runs where -/

theorem Field.base_le_key (f : Field) (i : Nat) : f.base * 32 ≤ f.key i := by
  unfold Field.key Field.addr
  omega

/-- The field lies below the registers that say who runs where: CTX_HART, CTXN_STAT and DBG_STAT. -/
abbrev Field.belowHarts (f : Field) : Prop := f.key 0 < CTX_HART_CTX.base * 32

theorem Dev.rdi_wr_belowHarts (d : Dev) {f g : Field} (hf : f.belowHarts) (hg : CTX_HART_CTX.base ≤ g.base) (j v : Nat) :
    (d.wr f v).rdi g j = d.rdi g j := by
  have hkey := g.base_le_key j
  rw [Field.belowHarts] at hf
  rw [Dev.rdi_wr, if_neg (by omega)]

theorem Dev.tag_wr (d : Dev) {f : Field} (hf : f.belowHarts) (v init : Nat) : (d.wr f v).tag init = d.tag init := by
  simp only [Dev.tag, Dev.bit, Dev.flagi, d.rdi_wr_belowHarts hf (g := DBG_STAT_HALTED) (by decide),
    d.rdi_wr_belowHarts hf (g := CTX_HART_VALID) (by decide), d.rdi_wr_belowHarts hf (g := CTX_HART_CTX) (by decide)]
  rfl

theorem Dev.ctxRuns_wr (d : Dev) {f : Field} (hf : f.belowHarts) (v c : Nat) : (d.wr f v).ctxRuns c = d.ctxRuns c := by
  simp only [Dev.ctxRuns, Dev.ctxState, d.rdi_wr_belowHarts hf (g := CTXN_STAT_STATE) (by decide)]

theorem Dev.routedTo_wr (d : Dev) {f : Field} (hf : f.belowHarts) (v init src : Nat) :
    (d.wr f v).routedTo init src = d.routedTo init src := by
  rw [Dev.routedTo, d.tag_wr hf, d.ctxRuns_wr hf, Dev.routedTo]
  rfl

/-! ### Differing in a few registers -/

theorem Dev.onlyRegs.trans {a b c : Dev} {l m : List (Field × Nat)} (h : a.onlyRegs b l) (h' : b.onlyRegs c m) :
    a.onlyRegs c (l ++ m) := by
  obtain ⟨hrest, hregs⟩ := h
  obtain ⟨hrest', hregs'⟩ := h'
  refine ⟨?_, fun g j hg => ?_⟩
  · rw [← hrest, ← hrest']
  · rw [hregs' g j fun p hp => hg p (List.mem_append_right l hp), hregs g j fun p hp => hg p (List.mem_append_left m hp)]

/-! ### One bit of the write -/

section
variable (d : Dev) (init value n src : Nat) (f : Field)

theorem Dev.routedClear_foreign (h : d.routedTo init src = false) : d.routedClear init value n src f = d := by
  rw [Dev.routedClear, h, if_neg (fun hset => Bool.false_ne_true hset.2)]

theorem Dev.routedClear_routed (h : d.routedTo init src = true) :
    d.routedClear init value n src f = if value.testBit n then d.wr f 0 else d := by
  rw [Dev.routedClear, h]
  simp only [and_true]

theorem Dev.rd_routedClear_self (h : d.routedTo init src = true) :
    (d.routedClear init value n src f).rd f = if value.testBit n then 0 else d.rd f := by
  rw [d.routedClear_routed init value n src f h]
  split
  · rw [Dev.rd_wr, if_pos rfl, Nat.zero_mod]
  · rfl

theorem Dev.routedClear_onlyRegs : d.onlyRegs (d.routedClear init value n src f) [(f, 0)] := by
  rw [Dev.routedClear]
  split
  · exact d.onlyRegs_wri f 0 0
  · exact d.onlyRegs_self _

theorem Dev.rd_routedClear_ne {g : Field} (hg : g.key 0 ≠ f.key 0) : (d.routedClear init value n src f).rd g = d.rd g :=
  (d.routedClear_onlyRegs init value n src f).2 g 0 fun _ hp => List.mem_singleton.mp hp ▸ hg

theorem Dev.routedTo_routedClear (hf : f.belowHarts) (i s : Nat) :
    (d.routedClear init value n src f).routedTo i s = d.routedTo i s := by
  rw [Dev.routedClear]
  split
  · exact d.routedTo_wr hf 0 i s
  · rfl

end

/-! ### The three bits of a routed event register -/

/-- Bits 0, 1 and 2 of the written value, each a field and the source to which it belongs. -/
def Dev.clearBits (d : Dev) (init value : Nat) (a b c : Field × Nat) : Dev :=
  ((d.routedClear init value 0 a.2 a.1).routedClear init value 1 b.2 b.1).routedClear init value 2 c.2 c.1

/-- An access to a block with power, by an initiator that can make it, completes with its meaning (R35, R619). -/
theorem gives_onBlockBy {i : Instr} {s : State} {init a : Nat} {f : Dev → Dev} (he : exec i s = onBlockBy init a f s)
    (hp : s.dev.portOpen init = true) (hk : s.dev.domainOn (domainOf a) = true) : Gives i s (f (s.dev.answered 0)) := by
  simp only [Gives, he, onBlockBy, onDevBy, onDev, hp, hk, if_true]

section
variable (d : Dev) (init value : Nat) {a b c : Field × Nat}

theorem Dev.clearBits_onlyRegs : d.onlyRegs (d.clearBits init value a b c) [(a.1, 0), (b.1, 0), (c.1, 0)] :=
  ((d.routedClear_onlyRegs ..).trans (Dev.routedClear_onlyRegs ..)).trans (Dev.routedClear_onlyRegs ..)

/-- Who routes to the writer is the same for all three bits, since no clearing of one tells on the next. -/
theorem Dev.clearBits_rd (ha : d.routedTo init a.2 = true) (hb : d.routedTo init b.2 = true) (hc : d.routedTo init c.2 = true)
    (la : a.1.belowHarts) (lb : b.1.belowHarts) (hab : a.1.key 0 ≠ b.1.key 0) (hac : a.1.key 0 ≠ c.1.key 0)
    (hbc : b.1.key 0 ≠ c.1.key 0) :
    (d.clearBits init value a b c).rd a.1 = (if value.testBit 0 then 0 else d.rd a.1) ∧
    (d.clearBits init value a b c).rd b.1 = (if value.testBit 1 then 0 else d.rd b.1) ∧
    (d.clearBits init value a b c).rd c.1 = (if value.testBit 2 then 0 else d.rd c.1) := by
  have hb' : (d.routedClear init value 0 a.2 a.1).routedTo init b.2 = true := by rwa [Dev.routedTo_routedClear _ _ _ _ _ _ la]
  have hc' : ((d.routedClear init value 0 a.2 a.1).routedClear init value 1 b.2 b.1).routedTo init c.2 = true := by
    rwa [Dev.routedTo_routedClear _ _ _ _ _ _ lb, Dev.routedTo_routedClear _ _ _ _ _ _ la]
  refine ⟨?_, ?_, ?_⟩
  · rw [Dev.clearBits, Dev.rd_routedClear_ne _ _ _ _ _ _ hac, Dev.rd_routedClear_ne _ _ _ _ _ _ hab,
      Dev.rd_routedClear_self _ _ _ _ _ _ ha]
  · rw [Dev.clearBits, Dev.rd_routedClear_ne _ _ _ _ _ _ hbc, Dev.rd_routedClear_self _ _ _ _ _ _ hb',
      Dev.rd_routedClear_ne _ _ _ _ _ _ hab.symm]
  · rw [Dev.clearBits, Dev.rd_routedClear_self _ _ _ _ _ _ hc', Dev.rd_routedClear_ne _ _ _ _ _ _ hbc.symm,
      Dev.rd_routedClear_ne _ _ _ _ _ _ hac.symm]

theorem Dev.clearBits_foreign (h : ∀ src, d.routedTo init src = false) : d.clearBits init value a b c = d := by
  simp only [Dev.clearBits, Dev.routedClear_foreign, h]

/-! ### The refusal of the bits that are routed elsewhere -/

theorem Dev.routedRefuse_own {srcs : List (Nat × Nat)} (h : ∀ p ∈ srcs, d.routedTo init p.2 = true) (f : Field) :
    d.routedRefuse init value srcs f = d := by
  have hnone : (srcs.any fun p => value.testBit p.1 && !d.routedTo init p.2) = false :=
    List.any_eq_false.mpr fun p hp => by simp [h p hp]
  rw [Dev.routedRefuse, hnone, if_neg Bool.false_ne_true]

/-- A written bit among the three that no source routes to the writer is refused. -/
theorem Dev.routedRefuse_foreign (h : ∀ src, d.routedTo init src = false) (hv : value % 8 ≠ 0) (p q r : Nat) (f : Field) :
    d.routedRefuse init value [(0, p), (1, q), (2, r)] f = d.refuse (d.tag init) f 0 := by
  have hbit : (value.testBit 0 || value.testBit 1 || value.testBit 2) = true := by
    simp only [Nat.testBit_eq_decide_div_mod_eq, Bool.or_eq_true, decide_eq_true_eq]
    omega
  have hany : ([(0, p), (1, q), (2, r)].any fun x => value.testBit x.1 && !d.routedTo init x.2) = true := by
    simpa only [List.any_cons, List.any_nil, h, Bool.not_false, Bool.and_true, Bool.or_false, Bool.or_assoc] using hbit
  rw [Dev.routedRefuse, if_pos hany]

/-- A context number beyond 2047 is no context's: no context runs under it, so that no source is routed to it (R57, R203). -/
theorem Dev.routedTo_noContext (h : 2048 ≤ d.tag init) (src : Nat) : d.routedTo init src = false := by
  have hruns : d.ctxRuns (d.tag init) = false := by rw [Dev.ctxRuns, Dev.ctxState, if_neg (by omega)]; rfl
  rw [Dev.routedTo, hruns, Bool.and_false]

/-- The refusal of an access under no context's number is counted by the block alone (R203). -/
theorem Dev.refuse_noContext {k : Nat} (hk : 2048 ≤ k) (hr : d.ctxRec k = none) (f : Field) (i : Nat) :
    d.refuse k f i = d.inci f i := by
  have hrec : (d.inci f i).ctxRec k = none := hr
  rw [Dev.refuse, if_neg (by omega), Dev.countRefused, hrec]
  exact if_neg (by omega)

/-- A write under no context's number: its bits are refused and counted once, and clear nothing. -/
theorem Dev.clearBits_noContext {e : Field} {p q r : Nat} (ht : 2048 ≤ d.tag init) (hr : d.ctxRec (d.tag init) = none)
    (hv : value % 8 ≠ 0) (he : e.belowHarts) :
    (d.routedRefuse init value [(0, p), (1, q), (2, r)] e).clearBits init value a b c = d.inc e := by
  have hforeign := d.routedTo_noContext init ht
  rw [d.routedRefuse_foreign init value hforeign hv, d.refuse_noContext ht hr]
  exact Dev.clearBits_foreign _ _ _ fun src => (d.routedTo_wr he _ init src).trans (hforeign src)

end

/-! ### SYSCTL_EVT_CLEAR and CTX_EVT_CLEAR -/

/-- The meaning that the two commands share: the bits routed elsewhere are refused in `e`, then the writer's own clear. -/
def Dev.eventClear (init value : Nat) (e : Field) (a b c : Field × Nat) (d : Dev) : Dev :=
  (d.routedRefuse init value [(0, a.2), (1, b.2), (2, c.2)] e).clearBits init value a b c

theorem exec_sysctlEvtClear (init value : Nat) (s : State) :
    exec (.sysctlEvtClear init value) s = onBlockBy init 0x40000000 (Dev.eventClear init value SYSCTL_ACCERR_ACC_ERR
      (SYSCTL_EVT_SWAPDONE, 376) (SYSCTL_EVT_PRESENCE, 377) (SYSCTL_EVT_SWAPABN, 376)) s := rfl

theorem exec_ctxEvtClear (init value : Nat) (s : State) :
    exec (.ctxEvtClear init value) s = onBlockBy init 0x40200000 (Dev.eventClear init value CTX_ACCERR_ACC_ERR
      (CTX_EVT_STATECHG, 432) (CTX_EVT_BREACH, 433) (CTX_EVT_NQLOST, 434)) s := rfl

section
variable {i : Instr} {s : State} {init value addr : Nat} {e : Field} {a b c : Field × Nat}
  (hexec : exec i s = onBlockBy init addr (Dev.eventClear init value e a b c) s)
  (hport : s.dev.portOpen init = true) (hdom : s.dev.domainOn (domainOf addr) = true)
include hexec hport hdom

/-- With all three sources routed to the writer, each written bit clears its field, and nothing else changes. -/
theorem ends_eventClear_routed (ha : s.dev.routedTo init a.2 = true) (hb : s.dev.routedTo init b.2 = true)
    (hc : s.dev.routedTo init c.2 = true) (la : a.1.belowHarts) (lb : b.1.belowHarts) (hab : a.1.key 0 ≠ b.1.key 0)
    (hac : a.1.key 0 ≠ c.1.key 0) (hbc : b.1.key 0 ≠ c.1.key 0) :
    Ends i s fun d =>
      d.rd a.1 = (if value.testBit 0 then 0 else s.dev.rd a.1) ∧
      d.rd b.1 = (if value.testBit 1 then 0 else s.dev.rd b.1) ∧
      d.rd c.1 = (if value.testBit 2 then 0 else s.dev.rd c.1) ∧
      { d with regs := s.dev.regs, access := s.dev.access } = s.dev ∧ d.access = {} ∧
      s.dev.regsBut d [(a.1, 0), (b.1, 0), (c.1, 0)] := by
  have hown : ∀ p ∈ [(0, a.2), (1, b.2), (2, c.2)], (s.dev.answered 0).routedTo init p.2 = true := by
    simpa using ⟨ha, hb, hc⟩
  have hgives := gives_onBlockBy hexec hport hdom
  rw [Dev.eventClear, Dev.routedRefuse_own _ _ _ hown] at hgives
  obtain ⟨hrest, hregs⟩ := (s.dev.answered 0).clearBits_onlyRegs init value (a := a) (b := b) (c := c)
  obtain ⟨h0, h1, h2⟩ := (s.dev.answered 0).clearBits_rd init value ha hb hc la lb hab hac hbc
  exact ⟨_, hgives, h0, h1, h2, congrArg (fun d : Dev => { d with access := s.dev.access }) hrest, congrArg Dev.access hrest, hregs⟩

/-- A write that no context makes is counted, and clears nothing. -/
theorem ends_eventClear_noContext (ht : s.dev.tag init = 0xFFFF) (hr : s.dev.ctxRec 0xFFFF = none) (hv : value % 8 ≠ 0)
    (he : e.belowHarts) :
    Ends i s fun d => d.rd e = min (s.dev.rd e + 1) (2 ^ e.width - 1) ∧ (s.dev.answered 0).onlyRegs d [(e, 0)] := by
  have hcount : (s.dev.answered 0).eventClear init value e a b c = (s.dev.answered 0).inc e :=
    Dev.clearBits_noContext _ init value (by rw [Dev.answered_tag, ht]; decide) (by rw [Dev.answered_tag, ht]; exact hr) hv he
  refine ⟨_, gives_onBlockBy hexec hport hdom, ?_⟩
  rw [hcount]
  exact ⟨by rw [Dev.rd_inc, if_pos rfl]; rfl, Dev.onlyRegs_inci _ e 0⟩

end

end Sys2Proof.Machine
end

section
/-! SUPPORT. What the notice to the hosts leaves as it was (R542), and the block that an abandoned swap leaves (R72). -/

namespace Sys2Proof.Machine

/-! ### The shuttle's side -/

/-- A register outside the shuttle's block. -/
def outsideShuttle (k : Nat) : Prop := k < 0x40720000 * 32 ∨ 0x40730000 * 32 ≤ k

/-- The field lies in the shuttle's block, in one group. -/
def Field.inShuttle (f : Field) : Bool :=
  decide (0x40720000 ≤ f.base) && decide (f.base + (f.group - 1) * f.stride < 0x40730000) && decide (0 < f.group) &&
    decide (f.gstride = 0) && decide (f.lsb < 32)

theorem Field.key_inShuttle {f : Field} (h : f.inShuttle = true) (i : Nat) : ¬ outsideShuttle (f.key i) := by
  simp only [Field.inShuttle, Bool.and_eq_true, decide_eq_true_eq] at h
  obtain ⟨⟨⟨⟨hlo, hhi⟩, hgroup⟩, hgap⟩, hlsb⟩ := h
  have hplace : i % f.group * f.stride ≤ (f.group - 1) * f.stride :=
    Nat.mul_le_mul_right _ (Nat.le_sub_one_of_lt (Nat.mod_lt i hgroup))
  rw [Field.key, Field.addr, hgap, Nat.mul_zero, outsideShuttle]
  omega

/-- From `d` to `d'` only the shuttle's side changes: its sessions and registers, what is sent, and what the recorder holds. -/
structure Dev.ShuttleOnly (d d' : Dev) : Prop where
  rest : { d' with regs := d.regs, recd := d.recd, sht := d.sht, out := d.out } = d
  rdi : ∀ (g : Field) (j : Nat), outsideShuttle (g.key j) → outsideRec (g.key j) → d'.rdi g j = d.rdi g j

namespace Dev.ShuttleOnly

variable {d e : Dev}

theorem refl (d : Dev) : d.ShuttleOnly d := ⟨rfl, fun _ _ _ _ => rfl⟩

theorem trans {d' : Dev} (h : d.ShuttleOnly e) (h' : e.ShuttleOnly d') : d.ShuttleOnly d' :=
  ⟨by rw [← h.rest, ← h'.rest], fun g j hs hr => (h'.rdi g j hs hr).trans (h.rdi g j hs hr)⟩

theorem deck (h : d.ShuttleOnly e) : e.deck = d.deck := by have hdeck := congrArg Dev.deck h.rest; exact hdeck
theorem mem (h : d.ShuttleOnly e) : e.mem = d.mem := by have hmem := congrArg Dev.mem h.rest; exact hmem

/-- A register of the system controller, like any below the shuttle's block, reads as before. -/
theorem rd_below (h : d.ShuttleOnly e) {g : Field} (hg : g.key 0 < 0x40720000 * 32) : e.rd g = d.rd g :=
  h.rdi g 0 (.inl hg) (.inl (by omega))

variable (h : d.ShuttleOnly e)
include h

theorem wri {f : Field} (hf : f.inShuttle = true) (i v : Nat) : d.ShuttleOnly (e.wri f i v) :=
  h.trans ⟨rfl, fun g j hg _ => by rw [Dev.rdi_wri, if_neg fun (heq : g.key j = f.key i) => Field.key_inShuttle hf i (heq ▸ hg)]⟩

theorem wr {f : Field} (hf : f.inShuttle = true) (v : Nat) : d.ShuttleOnly (e.wr f v) := h.wri hf 0 v

theorem trig (code : Nat) (args : List Nat) : d.ShuttleOnly (e.trig code args) :=
  h.trans ⟨congrArg (fun b : Dev => { b with sht := e.sht, out := e.out }) (e.trig_frame code args),
    fun g j _ hg => e.trig_rdi code args g j hg⟩

theorem send (o : Out) : d.ShuttleOnly (e.send o) := h.trans ⟨rfl, fun _ _ _ _ => rfl⟩

theorem setSht (x : ShtState) : d.ShuttleOnly { e with sht := x } := h.trans ⟨rfl, fun _ _ _ _ => rfl⟩

theorem each {α : Type} {l : List α} {f : Dev → α → Dev} (hf : ∀ {e : Dev} {x : α}, d.ShuttleOnly e → d.ShuttleOnly (f e x)) :
    d.ShuttleOnly (e.each l f) :=
  List.foldlRecOn l f h fun _ he _ _ => hf he

/-! ### The shuttle's operations -/

theorem sessionEnd (n reason : Nat) : d.ShuttleOnly (e.sessionEnd n reason) := by
  rw [Dev.sessionEnd]
  split
  · exact ((((((((h.wri rfl n 0).wri rfl n 0).wri rfl n 0).wri rfl n 0).wri rfl n 0).wr rfl _).setSht _).wr rfl 1).trig _ _
  · exact h

theorem sendTo (n kind cmd answers status : Nat) (payload : List Byte) :
    d.ShuttleOnly (e.sendTo n kind cmd answers status payload) := by
  rw [Dev.sendTo]
  split
  · exact h.sessionEnd n 4
  · exact (h.setSht _).send _

theorem noteLost (host : Nat) : d.ShuttleOnly (e.noteLost host) := ((h.wr rfl _).wr rfl 1).trig _ _

theorem hostNotice (code : Nat) (fields : List (Nat × Nat)) : d.ShuttleOnly (e.hostNotice code fields) := by
  refine h.each fun {c n} hc => ?_
  dsimp only
  split
  · split
    · exact (hc.setSht _).sendTo ..
    · exact hc.noteLost _
  · exact hc

end Dev.ShuttleOnly

/-! ### An abandoned swap -/

@[simp] theorem Dev.setDeckSlot_mem (d : Dev) (n : Nat) (r : DeckSlot) : (d.setDeckSlot n r).mem = d.mem := by
  rw [Dev.setDeckSlot]
  split <;> rfl

@[simp] theorem Dev.setDeckSlot_running (d : Dev) (n : Nat) (r : DeckSlot) :
    (d.setDeckSlot n r).deck.running = d.deck.running := by
  rw [Dev.setDeckSlot]
  split <;> rfl

@[simp] theorem Dev.slotDrop_mem (d : Dev) : d.slotDrop.mem = d.mem := d.setDeckSlot_mem _ _

@[simp] theorem Dev.slotDrop_running (d : Dev) : d.slotDrop.deck.running = d.deck.running := d.setDeckSlot_running _ _

/-- The block once a swap is abandoned, before the hosts are told: nothing is armed, and the reason stands in DECKSTAT (R72). -/
def Dev.disarmed (d : Dev) : Dev :=
  (((d.slotDrop.setDeck { d.slotDrop.deck with
    armed := none, changed := [], picksSinceArm := 0, bridgeWaits := 0, waitedAt := none }).wr
    SYSCTL_DECKSTAT_SWAP_ARMED 0).wr SYSCTL_DECKSTAT_REJ_CODE 0x0506).wr SYSCTL_EVT_SWAPABN 1

theorem Dev.disarmed_swapArmed (d : Dev) : d.disarmed.rd SYSCTL_DECKSTAT_SWAP_ARMED = 0 := by
  rw [Dev.disarmed, Dev.rd_wr, if_neg (by decide), Dev.rd_wr, if_neg (by decide), Dev.rd_wr, if_pos rfl, Nat.zero_mod]

theorem Dev.disarmed_rejCode (d : Dev) : d.disarmed.rd SYSCTL_DECKSTAT_REJ_CODE = 0x0506 := by
  rw [Dev.disarmed, Dev.rd_wr, if_neg (by decide), Dev.rd_wr, if_pos rfl]
  rfl

theorem Dev.disarmed_swapAbn (d : Dev) : d.disarmed.rd SYSCTL_EVT_SWAPABN = 1 := by
  rw [Dev.disarmed, Dev.rd_wr, if_pos rfl]
  rfl

/-- The abandonment as the hosts are told of it, with the deck that goes on running (R543). -/
def Dev.swapAbandoned (d : Dev) : Dev :=
  d.disarmed.hostNotice 0x0280 [(1, 2), (1, 0), (2, 0x0506), (4, d.disarmed.rd SYSCTL_DECKID_DECK_ID),
    (4, d.disarmed.rd SYSCTL_DECKVER_DECK_VER)]

theorem Dev.swapAbandoned_shuttleOnly (d : Dev) : d.disarmed.ShuttleOnly d.swapAbandoned :=
  (Dev.ShuttleOnly.refl _).hostNotice _ _

theorem gives_swapAbandon {s : State} (harmed : s.dev.deck.armed ≠ none) (hwaits : 16 ≤ s.dev.deck.bridgeWaits) :
    Gives .swapAbandon s s.dev.swapAbandoned := by
  show execSwapAbandon s = _
  rw [execSwapAbandon, onDev_eq, if_pos ⟨Option.isSome_iff_ne_none.mpr harmed, hwaits⟩]
  rfl

end Sys2Proof.Machine
end

section
/-! SUPPORT. Which pick a boundary begins (R85, R94, R100, R156), and the swap at a repeat boundary (R69). -/

namespace Sys2Proof.Machine

variable {s : State} {x : PickIn}

/-! ### PICK_BOUNDARY while the Treadle runs -/

theorem gives_pickBoundary_due (hrun : s.dev.trdRuns = true) (hdue : s.dev.beat.alignPending = true ∨ s.dev.beat.stepPending = true) :
    Gives (.pickBoundary x) s s.dev.finishPick := by
  show execPickBoundary x s = _
  rw [execPickBoundary, onDev_eq, hrun, if_neg (by decide), if_pos hdue]

section
variable (hrun : s.dev.trdRuns = true) (halign : s.dev.beat.alignPending = false) (hstep : s.dev.beat.stepPending = false)
include hrun halign hstep

theorem gives_pickBoundary_index (hindex : s.dev.beat.indexPending = true) : Gives (.pickBoundary x) s (s.dev.indexEnd x) := by
  show execPickBoundary x s = _
  rw [execPickBoundary, onDev_eq, hrun, halign, hstep, hindex, if_neg (by decide), if_neg (by decide), if_pos rfl]

theorem gives_pickBoundary_next (hindex : s.dev.beat.indexPending = false) : Gives (.pickBoundary x) s (s.dev.nextPick x) := by
  show execPickBoundary x s = _
  rw [execPickBoundary, onDev_eq, hrun, halign, hstep, hindex, if_neg (by decide), if_neg (by decide), if_neg (by decide)]

end

/-! ### The next pick -/

section
variable {d : Dev}

theorem Dev.nextPick_first (h : d.beat.picksBegun = 0) : d.nextPick x = d.beginPick 0 (d.rd BEAT_REPCNT) 0 false x := by
  rw [Dev.nextPick, if_pos h]

variable (hbegun : d.beat.picksBegun ≠ 0)
include hbegun

theorem Dev.nextPick_within (h : d.rd BEAT_PICK + 1 < d.rd BEAT_REPLEN_REPEAT_LEN) :
    d.nextPick x = d.beginPick (d.rd BEAT_PICK + 1) (d.rd BEAT_REPCNT) 0 false x := by
  rw [Dev.nextPick, if_neg hbegun, if_pos h]

/-- Off a position source a repeat ends with no index to miss. -/
theorem Dev.nextPick_repeat (h : d.rd BEAT_REPLEN_REPEAT_LEN ≤ d.rd BEAT_PICK + 1) (hpos : d.lockedOn 3 = false) :
    d.nextPick x = d.beginPick 0 (d.nextRep x) 0 true x := by
  rw [Dev.nextPick, if_neg hbegun, if_neg (Nat.not_lt.mpr h), hpos]
  rfl

end

theorem Dev.lockedOn_unique {d : Dev} {a b : Nat} (h : d.lockedOn a = true) (hab : a ≠ b) : d.lockedOn b = false := by
  simp only [Dev.lockedOn, Bool.and_eq_true, beq_iff_eq] at h
  obtain ⟨-, hsrc⟩ := h
  rw [Dev.lockedOn, hsrc, beq_false_of_ne hab, Bool.and_false]

theorem Dev.nextRep_network {d : Dev} (h : d.lockedOn 0 = true) :
    d.nextRep x = x.gptp / (d.rd BEAT_PICKNS_PICK_NS * d.rd BEAT_REPLEN_REPEAT_LEN) % 2 ^ 32 := if_pos h

theorem Dev.nextRep_counted {d : Dev} (h : d.lockedOn 0 = false) : d.nextRep x = d.rd BEAT_REPCNT + 1 := by
  rw [Dev.nextRep, h, if_neg Bool.false_ne_true]

/-! ### CARD_SWAP -/

theorem gives_cardSwap (hrun : s.dev.rd TRD_STAT_STATE = 1) (hidle : s.dev.trd.idlePending = false) (hdue : s.dev.swapDue = true)
    (htodo : s.dev.trd.todo = []) (hend : s.dev.rd BEAT_REPLEN_REPEAT_LEN ≤ s.dev.rd BEAT_PICK + 1)
    (halign : s.dev.beat.alignPending = false) (hstep : s.dev.beat.stepPending = false) :
    Gives .cardSwap s (s.dev.flipPending.swapIfDue ((s.dev.rd BEAT_REPCNT + 1) % 65536 * 65536)) := by
  show execCardSwap s = _
  rw [execCardSwap, onDev_eq, hidle, htodo, halign, hstep, if_pos ⟨hrun, rfl, hdue, rfl, hend, rfl, rfl⟩]

end Sys2Proof.Machine
end

section
/-! CERTIFICATES. The statements of the pattern and deck family that are settled. -/

namespace Sys2Proof.Proofs
open Sys2Proof.Machine

/-- Settles O20: the pending flags and the pick number choose the branch, and an abandoned swap tells the hosts, which changes the
shuttle's side alone. -/
theorem boundaryCommandsComplete : Obligations.BoundaryCommandsComplete := by
  refine ⟨fun s x hrun hdue => gives_pickBoundary_due hrun hdue,
    fun s x hrun halign hstep hindex => gives_pickBoundary_index hrun halign hstep hindex, ?first, ?within, ?counted, ?network,
    fun s => gives_cardSwap, ?abandon⟩
  case first =>
    intro s x hrun halign hstep hindex hbegun
    exact Dev.nextPick_first hbegun ▸ gives_pickBoundary_next hrun halign hstep hindex
  case within =>
    intro s x hrun halign hstep hindex hbegun hpick
    exact Dev.nextPick_within hbegun hpick ▸ gives_pickBoundary_next hrun halign hstep hindex
  case counted =>
    intro s x hrun halign hstep hindex hbegun hend hpos hnet
    have hnext := Dev.nextPick_repeat (x := x) hbegun hend hpos
    rw [Dev.nextRep_counted hnet] at hnext
    exact hnext ▸ gives_pickBoundary_next hrun halign hstep hindex
  case network =>
    intro s x hrun halign hstep hindex hbegun hend hnet
    have hnext := Dev.nextPick_repeat (x := x) hbegun hend (Dev.lockedOn_unique hnet (by decide))
    rw [Dev.nextRep_network hnet] at hnext
    exact hnext ▸ gives_pickBoundary_next hrun halign hstep hindex
  case abandon =>
    intro s harmed hwaits
    have hnotice := s.dev.swapAbandoned_shuttleOnly
    refine ⟨_, gives_swapAbandon harmed hwaits, ?_, ?_, ?_, ?_, ?_, ?_⟩
    · rw [hnotice.deck]; rfl
    · exact (congrArg DeckState.running hnotice.deck).trans s.dev.slotDrop_running
    · exact (hnotice.rd_below (by decide)).trans s.dev.disarmed_swapArmed
    · exact (hnotice.rd_below (by decide)).trans s.dev.disarmed_rejCode
    · exact (hnotice.rd_below (by decide)).trans s.dev.disarmed_swapAbn
    · exact hnotice.mem.trans s.dev.slotDrop_mem

/-- Settles O26: the three bits are judged alike, and each clears its own field alone (`clearBits_rd`). -/
theorem routedEventClears : Obligations.RoutedEventClears := by
  refine ⟨?sysctl, ?ctx, Dev.routedClear_foreign, ?sysctlRefused, ?ctxRefused⟩
  case sysctl =>
    intro s init value hport hdom h376 h377
    exact (ends_eventClear_routed (exec_sysctlEvtClear init value s) hport hdom h376 h377 h376
      (by decide) (by decide) (by decide) (by decide) (by decide) :)
  case ctx =>
    intro s init value hport hdom h432 h433 h434
    exact (ends_eventClear_routed (exec_ctxEvtClear init value s) hport hdom h432 h433 h434
      (by decide) (by decide) (by decide) (by decide) (by decide) :)
  case sysctlRefused =>
    intro s init value hport hdom htag hrec hvalue
    exact (ends_eventClear_noContext (exec_sysctlEvtClear init value s) hport hdom htag hrec hvalue (by decide) :)
  case ctxRefused =>
    intro s init value hport hdom htag hrec hvalue
    exact (ends_eventClear_noContext (exec_ctxEvtClear init value s) hport hdom htag hrec hvalue (by decide) :)

end Sys2Proof.Proofs
end

section
/-! SUPPORT. The beat unit's operations that its commands share: changes that stay within the unit, and what a qualification, a loss and
the entry into IDLE leave in its registers and state (R97 to R99, R103, R783). -/

namespace Sys2Proof.Machine

/-! ### A register after the write of one register, and after a trigger -/

theorem Dev.rd_wr_self (d : Dev) (f : Field) (v : Nat) : (d.wr f v).rd f = v % 2 ^ f.width := by rw [Dev.rd_wr, if_pos rfl]

theorem Dev.rd_wr_ne (d : Dev) {f g : Field} (h : g.key 0 ≠ f.key 0) (v : Nat) : (d.wr f v).rd g = d.rd g := by
  rw [Dev.rd_wr, if_neg h]

theorem Dev.rd_inc_ne (d : Dev) {f g : Field} (h : g.key 0 ≠ f.key 0) : (d.inc f).rd g = d.rd g := by rw [Dev.rd_inc, if_neg h]

theorem Dev.trig_rd_below (d : Dev) (code : Nat) (args : List Nat) {g : Field} (h : g.key 0 < 0x40900000 * 32) :
    (d.trig code args).rd g = d.rd g := d.trig_rd code args g (.inl h)

/-- BEAT_PHERR holds a phase error in its 32 bits of two's complement (R117). -/
theorem Dev.rd_wr_phErr (d : Dev) (e : Int) : (d.wr BEAT_PHERR (sword e)).rd BEAT_PHERR = sword e := by
  rw [Dev.rd_wr_self]
  exact Nat.mod_eq_of_lt (BitVec.isLt _)

/-! ### References of the source that the beat card names (R98) -/

section
variable {d : Dev} {src : Nat} (h : d.rd BEAT_CFG_SOURCE = src)
include h

theorem Dev.qualRef_named :
    d.qualRef src = (d.inc BEAT_STAT_QUAL_CNT).setBeat { d.beat with refs := d.beat.refs + 1 } := if_pos h

theorem Dev.qualRef_beat : (d.qualRef src).beat = { d.beat with refs := d.beat.refs + 1 } :=
  congrArg Dev.beat (Dev.qualRef_named h)

theorem Dev.qualBreak_named : d.qualBreak src = d.setBeat { d.beat with refs := 0 } := if_pos h

end

/-! ### Changes within the beat unit -/

/-- From `d` to `d'` only the registers of `l` and the beat unit's own state change. -/
def Dev.onlyBeat (d d' : Dev) (l : List (Field × Nat)) : Prop := { d' with regs := d.regs, beat := d.beat } = d ∧ d.regsBut d' l

namespace Dev.onlyBeat

variable {d e : Dev} {l : List (Field × Nat)}

theorem refl (d : Dev) (l : List (Field × Nat)) : d.onlyBeat d l := ⟨rfl, fun _ _ _ => rfl⟩

section
variable (h : d.onlyBeat e l)
include h

theorem wr {f : Field} (hf : (f, 0) ∈ l) (v : Nat) : d.onlyBeat (e.wr f v) l :=
  ⟨h.1, fun g j hg => by rw [Dev.rdi_wr, if_neg (hg _ hf), h.2 g j hg]⟩

theorem inc {f : Field} (hf : (f, 0) ∈ l) : d.onlyBeat (e.inc f) l := h.wr hf _

theorem setBeat (b : BeatState) : d.onlyBeat (e.setBeat b) l := h

theorem qualRef (hl : (BEAT_STAT_QUAL_CNT, 0) ∈ l) (src : Nat) : d.onlyBeat (e.qualRef src) l := by
  rw [Dev.qualRef]
  split
  · exact (h.inc hl).setBeat _
  · exact h

theorem qualBreak (src : Nat) : d.onlyBeat (e.qualBreak src) l := by
  rw [Dev.qualBreak]
  split
  · exact h.setBeat _
  · exact h

/-- A register outside the list reads as before. -/
theorem rd {g : Field} (hg : ∀ p ∈ l, g.key 0 ≠ p.1.key p.2) : e.rd g = d.rd g := h.2 g 0 hg

theorem trdRuns (hl : ∀ p ∈ l, TRD_STAT_STATE.key 0 ≠ p.1.key p.2) : e.trdRuns = d.trdRuns := by
  rw [Dev.trdRuns, h.rd hl, Dev.trdRuns]

end

end Dev.onlyBeat

/-- A step that falls due beside those that are due already (R100). -/
theorem Dev.setBeat_stepPending (d : Dev) (p : Prop) [Decidable p] :
    (if p then d.setBeat { d.beat with stepPending := true } else d) =
      d.setBeat { d.beat with stepPending := d.beat.stepPending || decide p } := by
  by_cases h : p
  · rw [if_pos h, decide_eq_true h, Bool.or_true]
  · rw [if_neg h, decide_eq_false h, Bool.or_false]; rfl

/-! ### Qualification (R99) -/

/-- The source is in force and its qualification recorded. -/
def Dev.acquired (d : Dev) : Dev := d.lock.trig 0x0301 []

section
variable (d : Dev)

theorem Dev.acquired_reads : d.acquired.rd BEAT_STAT_STATE = 1 ∧ d.acquired.rd BEAT_STAT_RUN_SRC = d.rd BEAT_CFG_SOURCE % 8 ∧
    d.acquired.rd BEAT_EVT_ACQ = 1 ∧ d.acquired.rd BEAT_HOLDLEFT_LEFT_MS = 0 ∧ d.acquired.rd BEAT_PHERR = d.rd BEAT_PHERR := by
  simp (disch := decide) only [Dev.acquired, Dev.lock, Dev.trig_rd_below, Dev.setBeat_rd, Dev.rd_wr_ne, Dev.rd_wr_self, and_true]
  exact ⟨rfl, rfl, rfl, rfl⟩

theorem Dev.acquired_beat : d.acquired.beat = { d.beat with
    alignPending := false, stepPending := false, holdRunning := false, holdExpired := false } := by
  rw [Dev.acquired, Dev.trig_beat]; rfl

theorem Dev.acquired_mem : d.acquired.mem = d.mem := by rw [Dev.acquired, Dev.trig_mem]; rfl

/-! ### The entry into IDLE (R99, R151) -/

theorem Dev.beatIdle_reads : d.beatIdle.rd BEAT_STAT_STATE = 3 ∧ d.beatIdle.rd BEAT_EVT_IDLE_IN = 1 ∧
    d.beatIdle.rd TRD_STAT_IDLE_BEAT = 1 ∧ d.beatIdle.rd BEAT_EVT_LOSS = d.rd BEAT_EVT_LOSS := by
  simp (disch := decide) only [Dev.beatIdle, Dev.idleCause, Dev.setTrd_rd, Dev.trig_rd_below, Dev.setBeat_rd, Dev.rd_wr_ne,
    Dev.rd_wr_self, and_true]
  exact ⟨rfl, rfl, rfl⟩

theorem Dev.beatIdle_idlePending : d.beatIdle.trd.idlePending = true := rfl

theorem Dev.beatIdle_holdRunning : d.beatIdle.beat.holdRunning = false := by
  rw [Dev.beatIdle, Dev.idleCause, Dev.setTrd_beat, Dev.wr_beat, Dev.trig_beat]; rfl

theorem Dev.beatIdle_mem : d.beatIdle.mem = d.mem := by
  rw [Dev.beatIdle, Dev.idleCause, Dev.setTrd_mem, Dev.wr_mem, Dev.trig_mem]; rfl

/-! ### The loss of the source in force (R98, R99, R103) -/

/-- The loss of the source in force is counted and recorded, and its qualification starts again. -/
def Dev.lossMarked (d : Dev) : Dev :=
  ((((d.wr BEAT_STAT_QUAL_CNT 0).setBeat { d.beat with
    refs := 0, indexOk := false, quadErrs := 0, alignPending := false, stepPending := false }).wr BEAT_EVT_LOSS 1).inc
    BEAT_CNT0_LOSS_CNT).trig 0x0300 []

/-- The picks go on without a source, for HOLDOVER_MS at most. -/
def Dev.holdover (d : Dev) : Dev :=
  (((d.wr BEAT_STAT_STATE 2).wr BEAT_STAT_RUN_SRC 5).wr BEAT_HOLDLEFT_LEFT_MS (d.rd BEAT_HOLDMS_HOLDOVER_MS)).setBeat
    { d.beat with holdRunning := true, holdExpired := false }

theorem Dev.lossMarked_reads : d.lossMarked.rd BEAT_EVT_LOSS = 1 ∧ d.lossMarked.rd BEAT_STAT_QUAL_CNT = 0 ∧
    d.lossMarked.rd BEAT_HOLDMS_HOLDOVER_MS = d.rd BEAT_HOLDMS_HOLDOVER_MS := by
  simp (disch := decide) only [Dev.lossMarked, Dev.trig_rd_below, Dev.setBeat_rd, Dev.rd_inc_ne, Dev.rd_wr_ne, Dev.rd_wr_self, and_true]
  exact ⟨rfl, rfl⟩

theorem Dev.lossMarked_beat : d.lossMarked.beat = { d.beat with
    refs := 0, indexOk := false, quadErrs := 0, alignPending := false, stepPending := false } := by
  rw [Dev.lossMarked, Dev.trig_beat]; rfl

theorem Dev.lossMarked_mem : d.lossMarked.mem = d.mem := by rw [Dev.lossMarked, Dev.trig_mem]; rfl

theorem Dev.holdover_reads : d.holdover.rd BEAT_STAT_STATE = 2 ∧ d.holdover.rd BEAT_STAT_RUN_SRC = 5 ∧
    d.holdover.rd BEAT_HOLDLEFT_LEFT_MS = d.rd BEAT_HOLDMS_HOLDOVER_MS % 2 ^ 14 ∧
    d.holdover.rd BEAT_EVT_LOSS = d.rd BEAT_EVT_LOSS ∧ d.holdover.rd BEAT_STAT_QUAL_CNT = d.rd BEAT_STAT_QUAL_CNT := by
  simp (disch := decide) only [Dev.holdover, Dev.setBeat_rd, Dev.rd_wr_ne, Dev.rd_wr_self, and_true]
  exact ⟨rfl, rfl, rfl⟩

end

/-- A source in force that is lost: holdover where the beat card grants it, else the idle card. -/
theorem Dev.sourceLoss_locked {d : Dev} (hrun : d.trdRuns = true) (hsrc : d.rd BEAT_CFG_SOURCE ≠ 5)
    (hlocked : d.rd BEAT_STAT_STATE = 1) :
    d.sourceLoss = if d.rd BEAT_HOLDMS_HOLDOVER_MS = 0 then d.lossMarked.beatIdle else d.lossMarked.holdover := by
  obtain ⟨-, -, hms⟩ := d.lossMarked_reads
  have hcounts : ¬ ((!(d.wr BEAT_STAT_QUAL_CNT 0).trdRuns) = true ∨
      d.rd BEAT_STAT_STATE ≠ 1 ∧ (!(d.beat.alignPending || d.beat.stepPending)) = true) := by
    have hruns : (d.wr BEAT_STAT_QUAL_CNT 0).trdRuns = true := by rw [Dev.trdRuns, Dev.rd_wr_ne _ (by decide)]; exact hrun
    simp [hruns, hlocked]
  calc d.sourceLoss
    _ = _ := (if_neg hsrc).trans ((if_neg hcounts).trans (if_pos hlocked))
    _ = if d.lossMarked.rd BEAT_HOLDMS_HOLDOVER_MS = 0 then d.lossMarked.beatIdle else d.lossMarked.holdover := rfl
    _ = _ := by rw [hms]

/-- A command whose meaning is an effect on the block completes with that effect. -/
theorem gives_onDev {c : Instr} {s : State} {f : Dev → Dev} {d : Dev} (he : exec c s = onDev f s) (h : f s.dev = d) :
    Gives c s d := by
  rw [Gives, he, onDev_eq, h]

end Sys2Proof.Machine
end

section
/-! SUPPORT. SOURCE_QUALIFY, SOURCE_LOSS, HOLDOVER_EXPIRY and PHASE_STEP: the block with which each completes (R88, R98 to R104,
R783). -/

namespace Sys2Proof.Machine

theorem exec_sourceQualify (e : Int) (s : State) : exec (.sourceQualify e) s = execSourceQualify e s := rfl
theorem exec_sourceLoss (s : State) : exec .sourceLoss s = execSourceLoss s := rfl
theorem exec_holdoverExpiry (tie : Bool) (s : State) : exec (.holdoverExpiry tie) s = execHoldoverExpiry tie s := rfl
theorem exec_phaseStep (e : Int) (s : State) : exec (.phaseStep e) s = execPhaseStep e s := rfl

/-- Writing the phase error leaves its bound as it was. -/
theorem Dev.rd_stepBound (d : Dev) (v : Nat) : (d.wr BEAT_PHERR v).rd BEAT_STEPB_STEP_BOUND_NS = d.rd BEAT_STEPB_STEP_BOUND_NS :=
  Dev.rd_wr_ne _ (by decide) _

variable {s : State}

/-! ### SOURCE_QUALIFY -/

section
variable {e : Int} (hrun : s.dev.trdRuns = true)
include hrun

theorem sourceQualify_counts (hlocked : s.dev.rd BEAT_STAT_STATE ≠ 1) (hready : s.dev.sourceReady = true) :
    ¬ ((!s.dev.trdRuns) = true ∨ s.dev.rd BEAT_STAT_STATE = 1 ∨ (!s.dev.sourceReady) = true) := by
  simp [hrun, hlocked, hready]

/-- The module's own clock is in force at once: it needs no reference. -/
theorem gives_sourceQualify_own (hlocked : s.dev.rd BEAT_STAT_STATE ≠ 1) (hsrc : s.dev.rd BEAT_CFG_SOURCE = 5) :
    Gives (.sourceQualify e) s s.dev.acquired := by
  have hready : s.dev.sourceReady = true := by simp [Dev.sourceReady, hsrc, qualRefs]
  refine gives_onDev (exec_sourceQualify _ _) ?_
  exact (if_neg (sourceQualify_counts hrun hlocked hready)).trans (if_pos hsrc)

variable (hsrc : s.dev.rd BEAT_CFG_SOURCE ≠ 5) (hready : s.dev.sourceReady = true)
include hsrc hready

/-- Out of ACQUIRE or IDLE the source's next boundary is waited for. -/
theorem gives_sourceQualify_align (hstate : s.dev.rd BEAT_STAT_STATE = 0 ∨ s.dev.rd BEAT_STAT_STATE = 3) :
    Gives (.sourceQualify e) s (s.dev.setBeat { s.dev.beat with alignPending := true }) := by
  have hlocked : s.dev.rd BEAT_STAT_STATE ≠ 1 := by omega
  have hhold : s.dev.rd BEAT_STAT_STATE ≠ 2 := by omega
  refine gives_onDev (exec_sourceQualify _ _) ?_
  exact (if_neg (sourceQualify_counts hrun hlocked hready)).trans ((if_neg hsrc).trans (if_neg hhold))

/-- Out of HOLDOVER the phase error decides: within the bound it is left to slewing, beyond it a step is due. -/
theorem gives_sourceQualify_holdover (hstate : s.dev.rd BEAT_STAT_STATE = 2) {f : Int}
    (hf : f = if s.dev.rd BEAT_CFG_SOURCE = 4 then toSigned 32 (s.dev.rd BEAT_PHERR) else e) :
    Gives (.sourceQualify e) s (
      if f.natAbs ≤ s.dev.rd BEAT_STEPB_STEP_BOUND_NS then (s.dev.wr BEAT_PHERR (sword f)).acquired
      else (s.dev.wr BEAT_PHERR (sword f)).setBeat { s.dev.beat with stepPending := true }) := by
  have hlocked : s.dev.rd BEAT_STAT_STATE ≠ 1 := by omega
  rw [← s.dev.rd_stepBound (sword f), hf]
  refine gives_onDev (exec_sourceQualify _ _) ?_
  exact (if_neg (sourceQualify_counts hrun hlocked hready)).trans ((if_neg hsrc).trans (if_pos hstate))

end

/-! ### SOURCE_LOSS -/

theorem gives_sourceLoss_none (h : s.dev.lossHolds = false) : Gives .sourceLoss s s.dev :=
  gives_onDev (exec_sourceLoss _) (if_neg (by rw [h]; exact Bool.false_ne_true))

theorem gives_sourceLoss_locked (hrun : s.dev.trdRuns = true) (hsrc : s.dev.rd BEAT_CFG_SOURCE ≠ 5) (h : s.dev.lossHolds = true)
    (hlocked : s.dev.rd BEAT_STAT_STATE = 1) :
    Gives .sourceLoss s
      (if s.dev.rd BEAT_HOLDMS_HOLDOVER_MS = 0 then s.dev.lossMarked.beatIdle else s.dev.lossMarked.holdover) :=
  gives_onDev (exec_sourceLoss _) ((if_pos h).trans (Dev.sourceLoss_locked hrun hsrc hlocked))

/-! ### HOLDOVER_EXPIRY -/

/-- The end of holdover brings the idle card, unless the source qualifies in the same cycle or its next boundary is awaited. -/
theorem gives_holdoverExpiry (hrun : s.dev.trdRuns = true) (hhold : s.dev.beat.holdRunning = true)
    (hstate : s.dev.rd BEAT_STAT_STATE = 0 ∨ s.dev.rd BEAT_STAT_STATE = 2) (tie : Bool) :
    Gives (.holdoverExpiry tie) s (
      if tie ∧ s.dev.sourceReady ∨ s.dev.beat.alignPending ∨ s.dev.beat.stepPending then
        (s.dev.wr BEAT_HOLDLEFT_LEFT_MS 0).setBeat { s.dev.beat with holdRunning := false, holdExpired := true }
      else s.dev.beatIdle) := by
  have hcounts : ¬ ((!s.dev.trdRuns) = true ∨ (!s.dev.beat.holdRunning) = true ∨
      (!(s.dev.rd BEAT_STAT_STATE == 0 || s.dev.rd BEAT_STAT_STATE == 2)) = true) := by
    rcases hstate with h | h <;> simp [hrun, hhold, h]
  refine gives_onDev (exec_holdoverExpiry _ _) ?_
  exact if_neg hcounts

/-! ### PHASE_STEP -/

theorem gives_phaseStep (hrun : s.dev.trdRuns = true) (hlocked : s.dev.rd BEAT_STAT_STATE = 1)
    (hsrc : s.dev.rd BEAT_CFG_SOURCE ≤ 2) (e : Int) :
    Gives (.phaseStep e) s ((s.dev.wr BEAT_PHERR (sword e)).setBeat { s.dev.beat with
      stepPending := s.dev.beat.stepPending || decide (s.dev.rd BEAT_STEPB_STEP_BOUND_NS < e.natAbs) }) := by
  rw [← s.dev.rd_stepBound (sword e)]
  refine gives_onDev (exec_phaseStep _ _) ?_
  exact (if_pos ⟨hrun, hlocked, hsrc⟩).trans (Dev.setBeat_stepPending _ _)

end Sys2Proof.Machine
end

section
/-! SUPPORT. ALIGNMENT, and the edges, index marks and crossings of the position and line-cycle stages: the block with which each
completes (R90 to R97, R100, R101). -/

namespace Sys2Proof.Machine

theorem exec_alignment (pick : Nat) (x : PickIn) (s : State) : exec (.alignment pick x) s = execAlignment pick x s := rfl
theorem exec_positionEdge (a b : Bool) (gap ns : Nat) (index : Bool) (x : PickIn) (s : State) :
    exec (.positionEdge a b gap ns index x) s = execPositionEdge a b gap ns index x s := rfl
theorem exec_indexAccepted (ns : Nat) (x : PickIn) (s : State) : exec (.indexAccepted ns x) s = execIndexAccepted ns x s := rfl
theorem exec_zeroCrossing (t x : Nat) (s : State) : exec (.zeroCrossing t x) s = execZeroCrossing t x s := rfl

variable {s : State}

/-! ### ALIGNMENT -/

/-- In ACQUIRE the alignment puts the source in force and begins the pick that the source gives (R101). -/
theorem gives_alignment_acquire {pick : Nat} {x : PickIn} {d : Dev} (hrun : s.dev.trdRuns = true)
    (halign : s.dev.beat.alignPending = true) (hstep : s.dev.finishPick.beat.stepPending = false)
    (hstate : s.dev.finishPick.rd BEAT_STAT_STATE = 0) (hd : d = s.dev.finishPick.acquired) :
    Gives (.alignment pick x) s (d.beginPick pick (d.stepRep x) (d.passedBy pick) true x) := by
  have hdue : ¬ ((!s.dev.trdRuns) = true ∨ (!(s.dev.beat.alignPending || s.dev.beat.stepPending)) = true) := by
    simp [hrun, halign]
  refine gives_onDev (exec_alignment _ _ _) ((if_neg hdue).trans ?_)
  simp only [hstep, hstate, Bool.false_eq_true, if_false, OfNat.zero_ne_ofNat, zero_ne_one, hd, Dev.acquired]

/-! ### The position stage (R90, R91, R98) -/

/-- An error that is not the 16th of its repeat is counted and breaks the run of legal edges. -/
theorem Dev.quadError_counted {d : Dev} (hsrc : d.rd BEAT_CFG_SOURCE = 3) (hfew : d.beat.quadErrs ≠ 15) :
    d.quadError = ((d.inc BEAT_CNT1_QUAD_CNT).wr BEAT_EVT_QUAD_ERR 1).setBeat
      { d.beat with refs := 0, quadErrs := d.beat.quadErrs + 1 } := by
  have hnamed : ((d.inc BEAT_CNT1_QUAD_CNT).wr BEAT_EVT_QUAD_ERR 1).rd BEAT_CFG_SOURCE = 3 := by
    rwa [Dev.rd_wr_ne _ (by decide), Dev.rd_inc_ne _ (by decide)]
  rw [Dev.quadError, Dev.qualBreak_named hnamed]
  exact if_neg fun hlast => hfew (Nat.succ.inj hlast.2)

theorem Dev.quadError_leaves {d : Dev} (hsrc : d.rd BEAT_CFG_SOURCE = 3) (hfew : d.beat.quadErrs ≠ 15) :
    d.quadError.beat = { d.beat with refs := 0, quadErrs := d.beat.quadErrs + 1 } ∧ d.quadError.mem = d.mem ∧
    d.quadError.rd BEAT_EVT_QUAD_ERR = 1 ∧ d.quadError.rd BEAT_POSCNT = d.rd BEAT_POSCNT := by
  rw [Dev.quadError_counted hsrc hfew]
  simp (disch := decide) only [Dev.setBeat_rd, Dev.rd_wr_ne, Dev.rd_wr_self, Dev.rd_inc_ne, and_true]
  exact ⟨rfl, rfl, rfl⟩

/-- A change of A leads B where it takes A away from B's level. -/
theorem quadDir_ofA {a b a' : Bool} (h : a' ≠ a) : quadDir a b a' b = if a' = b then -1 else 1 := by
  rw [quadDir, if_pos h, ite_not]

/-- An edge is counted: on the position, as a reference, and towards the end of the pick. -/
def Dev.edgeCounted (d : Dev) (n : Int) : Dev :=
  let d := (d.wr BEAT_POSCNT ((d.rd BEAT_POSCNT + (if n = 1 then 1 else 2 ^ 32 - 1)) % 2 ^ 32)).qualRef 3
  d.setBeat { d.beat with netEdges := d.beat.netEdges + n }

/-- The levels of A and B and an edge change within the beat unit POSCNT and QUAL_CNT alone. -/
theorem Dev.edgeCounted_onlyBeat (d : Dev) (b : BeatState) (n : Int) :
    d.onlyBeat ((d.setBeat b).edgeCounted n) [(BEAT_POSCNT, 0), (BEAT_STAT_QUAL_CNT, 0)] :=
  ((((Dev.onlyBeat.refl _ _).setBeat b).wr (by simp) _).qualRef (by simp) 3).setBeat _

theorem Dev.edgeCounted_posCnt (d : Dev) (n : Int) :
    (d.edgeCounted n).rd BEAT_POSCNT = (d.rd BEAT_POSCNT + (if n = 1 then 1 else 2 ^ 32 - 1)) % 2 ^ 32 := by
  have hkept (e : Dev) : (e.qualRef 3).rd BEAT_POSCNT = e.rd BEAT_POSCNT :=
    ((Dev.onlyBeat.refl e [(BEAT_STAT_QUAL_CNT, 0)]).qualRef List.mem_cons_self 3).rd (by decide)
  rw [Dev.edgeCounted, Dev.setBeat_rd, hkept, Dev.rd_wr_self]
  exact Nat.mod_mod _ _

theorem Dev.edgeCounted_beat {d : Dev} (hsrc : d.rd BEAT_CFG_SOURCE = 3) (n : Int) : (d.edgeCounted n).beat =
    { d.beat with refs := d.beat.refs + 1, netEdges := d.beat.netEdges + n } := by
  have hnamed (v : Nat) : (d.wr BEAT_POSCNT v).rd BEAT_CFG_SOURCE = 3 := by rwa [Dev.rd_wr_ne _ (by decide)]
  rw [Dev.edgeCounted, Dev.setBeat_self, Dev.qualRef_named (hnamed _)]
  rfl

/-! ### POSITION_EDGE -/

section
variable {a b index : Bool} {gap ns : Nat} {x : PickIn}

/-- A stage without its land, or levels that do not change, make no edge. -/
theorem gives_positionEdge_none (h : s.dev.timingLand 2 = false ∨ a = s.dev.beat.posA ∧ b = s.dev.beat.posB) :
    Gives (.positionEdge a b gap ns index x) s s.dev :=
  gives_onDev (exec_positionEdge _ _ _ _ _ _ _) (if_pos (h.imp_left fun hland => by rw [hland]; rfl))

variable (hland : s.dev.timingLand 2 = true) (hgap : 400 ≤ gap)
include hland hgap

/-- Both levels change at once: no legal edge (R91). -/
theorem gives_positionEdge_illegal (ha : a ≠ s.dev.beat.posA) (hb : b ≠ s.dev.beat.posB) :
    Gives (.positionEdge a b gap ns index x) s (s.dev.setBeat { s.dev.beat with posA := a, posB := b }).quadError := by
  have hedge : ¬ ((!s.dev.timingLand 2) = true ∨ a = s.dev.beat.posA ∧ b = s.dev.beat.posB) := by simp [hland, ha]
  refine gives_onDev (exec_positionEdge _ _ _ _ _ _ _) ((if_neg hedge).trans ((if_pos ⟨ha, hb⟩).trans ?_))
  rw [if_neg (Nat.not_lt.mpr hgap)]

/-- A legal edge outside LOCKED is counted and ends no pick (R90). -/
theorem gives_positionEdge_legal (hmoved : ¬ (a = s.dev.beat.posA ∧ b = s.dev.beat.posB))
    (hone : ¬ (a ≠ s.dev.beat.posA ∧ b ≠ s.dev.beat.posB)) (hfree : s.dev.rd BEAT_STAT_STATE ≠ 1) :
    Gives (.positionEdge a b gap ns index x) s
      ((s.dev.setBeat { s.dev.beat with posA := a, posB := b }).edgeCounted (quadDir s.dev.beat.posA s.dev.beat.posB a b)) := by
  have hedge : ¬ ((!s.dev.timingLand 2) = true ∨ a = s.dev.beat.posA ∧ b = s.dev.beat.posB) := by simp [hland, hmoved]
  have hslow := Nat.not_lt.mpr hgap
  refine gives_onDev (exec_positionEdge _ _ _ _ _ _ _) ((if_neg hedge).trans ?_)
  extract_lets was moved spaced n shown counted src ended
  have hended : ended = moved.edgeCounted n := by
    have hspaced : spaced = moved := if_neg hslow
    have hcounted : counted = shown.qualRef 3 := if_neg hslow
    simp only [ended, src, hcounted, shown, hspaced, Dev.edgeCounted]
  have hlast : ¬ (ended.trdRuns = true ∧ ended.lockedOn 3 = true ∧ (!ended.beat.indexPending) = true ∧
      (ended.rd BEAT_CFG_PER_CYCLE : Int) ≤ ended.beat.netEdges) := by
    rintro ⟨-, hlocked, -⟩
    have hstate : ended.rd BEAT_STAT_STATE = s.dev.rd BEAT_STAT_STATE :=
      hended ▸ (s.dev.edgeCounted_onlyBeat _ n).rd (by decide)
    rw [Dev.lockedOn, hstate, beq_false_of_ne hfree, Bool.false_and] at hlocked
    exact Bool.false_ne_true hlocked
  exact (if_neg hone).trans ((if_neg hlast).trans hended)

end

/-! ### INDEX_ACCEPTED -/

section
variable {ns : Nat} {x : PickIn} (hland : s.dev.timingLand 2 = true) (hsrc : s.dev.rd BEAT_CFG_SOURCE = 3)
  (ha : s.dev.beat.posA = true) (hb : s.dev.beat.posB = true) (hrun : s.dev.trdRuns = true) (hlocked : s.dev.rd BEAT_STAT_STATE = 1)
include hland hsrc ha hb hrun hlocked

/-- An index in pick 0 only starts the edge count again (R93). -/
theorem gives_indexAccepted_first (hpick : s.dev.rd BEAT_PICK = 0) (hlen : s.dev.rd BEAT_REPLEN_REPEAT_LEN ≠ 1) :
    Gives (.indexAccepted ns x) s
      (s.dev.setBeat { s.dev.beat with indexOk := true, netEdges := 0, stepPending := false, indexSeen := true }) := by
  refine gives_onDev (exec_indexAccepted _ _ _) ((if_pos ⟨hsrc, hland, ha, hb⟩).trans ?_)
  exact (if_pos ⟨hrun, hlocked⟩).trans (if_pos ⟨hpick, hlen⟩)

/-- An index in another pick ends it, at once or once it has lasted its minimum (R92). -/
theorem gives_indexAccepted_later (hpick : s.dev.rd BEAT_PICK ≠ 0) :
    Gives (.indexAccepted ns x) s
      (if ns < s.dev.rd BEAT_MINPICK_MIN_NS then
        s.dev.setBeat { s.dev.beat with indexOk := true, netEdges := 0, stepPending := false, indexPending := true }
      else (s.dev.setBeat { s.dev.beat with indexOk := true, netEdges := 0, stepPending := false }).indexEnd x) := by
  refine gives_onDev (exec_indexAccepted _ _ _) ((if_pos ⟨hsrc, hland, ha, hb⟩).trans ?_)
  exact (if_pos ⟨hrun, hlocked⟩).trans (if_neg fun hfirst => hpick hfirst.1)

end

/-! ### The line-cycle stage (R95, R96, R98) -/

/-- A crossing as a reference, `t` ns after the one before, where `l` is the line period before. -/
def Dev.lineRef (d : Dev) (l t : Nat) : Dev := (if d.beat.refs = 0 ∨ lineSteady l t then d else d.qualBreak 4).qualRef 4

theorem Dev.onlyBeat.lineRef {d e : Dev} {m : List (Field × Nat)} (h : d.onlyBeat e m) (hm : (BEAT_STAT_QUAL_CNT, 0) ∈ m) (l t : Nat) :
    d.onlyBeat (e.lineRef l t) m := by
  refine Dev.onlyBeat.qualRef ?_ hm 4
  split
  · exact h
  · exact h.qualBreak 4

theorem Dev.lineRef_beat {d : Dev} (hsrc : d.rd BEAT_CFG_SOURCE = 4) (l t : Nat) : (d.lineRef l t).beat = { d.beat with
    refs := (if d.beat.refs = 0 ∨ lineSteady l t = true then d.beat.refs else 0) + 1 } := by
  rw [Dev.lineRef]
  split
  · exact Dev.qualRef_beat hsrc
  · rw [Dev.qualBreak_named hsrc]
    exact Dev.qualRef_beat (d := d.setBeat { d.beat with refs := 0 }) hsrc

/-- A crossing is measured: the line period, the period of the next cycle's picks, the reference that it is and the phase error,
for a period that divides into whole 1/16 ns. -/
def Dev.crossingMeasured (d : Dev) (t x : Nat) : Dev :=
  (((d.wr BEAT_LINEPER_LINE_NS t).wr BEAT_PERIOD (t * 16 / d.rd BEAT_CFG_PER_CYCLE)).lineRef (d.rd BEAT_LINEPER_LINE_NS) t).wr
    BEAT_PHERR (sword (lineError (d.rd BEAT_LINEPER_LINE_NS) x))

section
variable (d : Dev) (t x : Nat)

theorem Dev.crossingMeasured_onlyBeat : d.onlyBeat (d.crossingMeasured t x)
    [(BEAT_LINEPER_LINE_NS, 0), (BEAT_PERIOD, 0), (BEAT_STAT_QUAL_CNT, 0), (BEAT_PHERR, 0)] :=
  ((((Dev.onlyBeat.refl _ _).wr (by simp) _).wr (by simp) _).lineRef (by simp) _ _).wr (by simp) _

theorem Dev.crossingMeasured_reads : (d.crossingMeasured t x).rd BEAT_LINEPER_LINE_NS = t % 2 ^ 32 ∧
    (d.crossingMeasured t x).rd BEAT_PERIOD = t * 16 / d.rd BEAT_CFG_PER_CYCLE % 2 ^ 32 ∧
    (d.crossingMeasured t x).rd BEAT_PHERR = sword (lineError (d.rd BEAT_LINEPER_LINE_NS) x) := by
  have hkept (e : Dev) (l : Nat) {g : Field} (hg : ∀ p ∈ [(BEAT_STAT_QUAL_CNT, 0)], g.key 0 ≠ p.1.key p.2) :
      (e.lineRef l t).rd g = e.rd g :=
    ((Dev.onlyBeat.refl e _).lineRef List.mem_cons_self l t).rd hg
  refine ⟨?line, ?period, Dev.rd_wr_phErr _ _⟩
  case line =>
    rw [Dev.crossingMeasured, Dev.rd_wr_ne _ (by decide), hkept _ _ (by decide), Dev.rd_wr_ne _ (by decide), Dev.rd_wr_self]
    rfl
  case period =>
    rw [Dev.crossingMeasured, Dev.rd_wr_ne _ (by decide), hkept _ _ (by decide), Dev.rd_wr_self]
    rfl

theorem Dev.crossingMeasured_beat (hsrc : d.rd BEAT_CFG_SOURCE = 4) : (d.crossingMeasured t x).beat = { d.beat with
    refs := (if d.beat.refs = 0 ∨ lineSteady (d.rd BEAT_LINEPER_LINE_NS) t = true then d.beat.refs else 0) + 1 } := by
  rw [Dev.crossingMeasured, Dev.wr_beat, Dev.lineRef_beat]
  · rfl
  · rwa [Dev.rd_wr_ne _ (by decide), Dev.rd_wr_ne _ (by decide)]

end

/-! ### ZERO_CROSSING -/

/-- Writing the line period leaves what its range rests on as it was (R97). -/
theorem Dev.lineOutOfRange_wr (d : Dev) (t u : Nat) : (d.wr BEAT_LINEPER_LINE_NS t).lineOutOfRange u = d.lineOutOfRange u := by
  rw [Dev.lineOutOfRange, Dev.rd_wr_ne _ (by decide), Dev.rd_wr_ne _ (by decide), Dev.lineOutOfRange]

theorem Dev.wr_linePer_named {d : Dev} (h : d.rd BEAT_CFG_SOURCE = 4) (t : Nat) :
    ¬ (d.wr BEAT_LINEPER_LINE_NS t).rd BEAT_CFG_SOURCE ≠ 4 := by
  rw [Dev.rd_wr_ne _ (by decide)]
  exact not_not.mpr h

section
variable {t x : Nat} (hland : s.dev.timingLand 3 = true) (hsrc : s.dev.rd BEAT_CFG_SOURCE = 4)

include hland hsrc

/-- A period out of range loses the source (R97). -/
theorem gives_zeroCrossing_outOfRange (hrange : s.dev.lineOutOfRange t = true) :
    Gives (.zeroCrossing t x) s ((s.dev.wr BEAT_LINEPER_LINE_NS t).wr BEAT_EVT_RANGE 1).sourceLoss := by
  refine gives_onDev (exec_zeroCrossing _ _ _) ((if_neg (by rw [hland]; decide)).trans ?_)
  exact (if_neg (Dev.wr_linePer_named hsrc t)).trans (if_pos ((s.dev.lineOutOfRange_wr t t).trans hrange))

/-- A period in range is measured, and while LOCKED a phase error beyond the bound makes a step due (R95, R96, R100). -/
theorem gives_zeroCrossing_inRange (hrange : s.dev.lineOutOfRange t = false) (hexact : t * 16 % s.dev.rd BEAT_CFG_PER_CYCLE = 0) :
    Gives (.zeroCrossing t x) s ((s.dev.crossingMeasured t x).setBeat { (s.dev.crossingMeasured t x).beat with
      stepPending := (s.dev.crossingMeasured t x).beat.stepPending || s.dev.trdRuns && s.dev.rd BEAT_STAT_STATE == 1 &&
          decide (s.dev.rd BEAT_STEPB_STEP_BOUND_NS < (lineError (s.dev.rd BEAT_LINEPER_LINE_NS) x).natAbs) }) := by
  have hin : ¬ (s.dev.wr BEAT_LINEPER_LINE_NS t).lineOutOfRange t = true := by
    rw [Dev.lineOutOfRange_wr, hrange]
    exact Bool.false_ne_true
  refine gives_onDev (exec_zeroCrossing _ _ _) ((if_neg (by rw [hland]; decide)).trans ?_)
  refine (if_neg (Dev.wr_linePer_named hsrc t)).trans ((if_neg hin).trans ?_)
  extract_lets q isExact timed counted e measured src goal
  have hmeasured : measured = s.dev.crossingMeasured t x := by
    have hper : (s.dev.wr BEAT_LINEPER_LINE_NS t).rd BEAT_CFG_PER_CYCLE = s.dev.rd BEAT_CFG_PER_CYCLE := Dev.rd_wr_ne _ (by decide) _
    have hisExact : isExact := (congrArg (t * 16 % ·) hper).trans hexact
    have hq : q = t * 16 / s.dev.rd BEAT_CFG_PER_CYCLE := by
      simp only [q, Dev.quot, hper, hexact, if_true, Nat.add_zero]
    have htimed : timed = (s.dev.wr BEAT_LINEPER_LINE_NS t).wr BEAT_PERIOD (t * 16 / s.dev.rd BEAT_CFG_PER_CYCLE) :=
      hq ▸ congrArg (fun d : Dev => d.wr BEAT_PERIOD q) (if_pos hisExact)
    simp only [measured, counted, htimed, e, Dev.crossingMeasured, Dev.lineRef]
  have hframe := s.dev.crossingMeasured_onlyBeat t x
  have hdue : decide (measured.trdRuns = true ∧ measured.rd BEAT_STAT_STATE = 1 ∧ measured.rd BEAT_STEPB_STEP_BOUND_NS < e.natAbs) =
      (s.dev.trdRuns && s.dev.rd BEAT_STAT_STATE == 1 && decide (s.dev.rd BEAT_STEPB_STEP_BOUND_NS < e.natAbs)) := by
    rw [hmeasured, hframe.trdRuns (by decide), hframe.rd (g := BEAT_STAT_STATE) (by decide),
      hframe.rd (g := BEAT_STEPB_STEP_BOUND_NS) (by decide)]
    simp only [Bool.decide_and, Bool.decide_eq_true, Bool.and_assoc, beq_eq_decide]
  refine (Dev.setBeat_stepPending measured _).trans ?_
  rw [hdue, hmeasured]

end

end Sys2Proof.Machine
end

section
/-! CERTIFICATES. The statements of the beat unit and inputs family that are settled. -/

namespace Sys2Proof.Proofs
open Sys2Proof.Machine

/-- Settles O21: each condition picks one branch of its command, and what the branch leaves in the beat unit is said once for all
commands (`acquired_reads`, `beatIdle_reads`, `lossMarked_reads`, `holdover_reads`). -/
theorem pickSourceCommands : Obligations.PickSourceCommands := by
  refine ⟨?own, fun s e hrun hstate hsrc hready => gives_sourceQualify_align hrun hsrc hready hstate, ?bounded, ?beyond, ?phase,
    ?lossHold, ?lossIdle, fun s => gives_sourceLoss_none, ?expiry, ?expiryWaits⟩
  case own =>
    intro s e hrun hlocked hsrc
    obtain ⟨hstate, hrunSrc, hacq, hleft, -⟩ := s.dev.acquired_reads
    rw [hsrc] at hrunSrc
    exact ⟨_, gives_sourceQualify_own hrun hlocked hsrc, hstate, hrunSrc, hacq, hleft, s.dev.acquired_beat, s.dev.acquired_mem⟩
  case bounded =>
    intro s e f hf hrun hstate hsrc hready hbound
    have hgives := gives_sourceQualify_holdover hrun hsrc hready hstate hf
    rw [if_pos hbound] at hgives
    obtain ⟨hlocked, hrunSrc, hacq, -, hphErr⟩ := (s.dev.wr BEAT_PHERR (sword f)).acquired_reads
    rw [Dev.rd_wr_ne _ (by decide)] at hrunSrc
    rw [Dev.rd_wr_phErr] at hphErr
    exact ⟨_, hgives, hlocked, hrunSrc, hacq, hphErr, Dev.acquired_beat _, Dev.acquired_mem _⟩
  case beyond =>
    intro s e f hf hrun hstate hsrc hready hbound
    have hgives := gives_sourceQualify_holdover hrun hsrc hready hstate hf
    rw [if_neg hbound] at hgives
    exact ⟨_, hgives, s.dev.rd_wr_phErr f, rfl, ((Dev.onlyBeat.refl _ _).wr List.mem_cons_self _).setBeat _⟩
  case phase =>
    intro s e hrun hlocked hsrc
    exact ⟨_, gives_phaseStep hrun hlocked hsrc e, s.dev.rd_wr_phErr e, rfl,
      ((Dev.onlyBeat.refl _ _).wr List.mem_cons_self _).setBeat _⟩
  case lossHold =>
    intro s hrun hsrc hloss hlocked hms
    have hgives := gives_sourceLoss_locked hrun hsrc hloss hlocked
    rw [if_neg hms] at hgives
    obtain ⟨hevent, hqual, hgranted⟩ := s.dev.lossMarked_reads
    obtain ⟨hstate, hrunSrc, hleft, hkeptEvent, hkeptQual⟩ := s.dev.lossMarked.holdover_reads
    refine ⟨_, hgives, hstate, hrunSrc, hkeptEvent.trans hevent, hgranted ▸ hleft, hkeptQual.trans hqual, ?_, s.dev.lossMarked_mem⟩
    rw [Dev.holdover, Dev.setBeat_self, Dev.lossMarked_beat]
  case lossIdle =>
    intro s hrun hsrc hloss hlocked hms
    have hgives := gives_sourceLoss_locked hrun hsrc hloss hlocked
    rw [if_pos hms] at hgives
    obtain ⟨hevent, -, -⟩ := s.dev.lossMarked_reads
    obtain ⟨hstate, hidleIn, hidleBeat, hkeptEvent⟩ := s.dev.lossMarked.beatIdle_reads
    exact ⟨_, hgives, hstate, hkeptEvent.trans hevent, hidleIn, hidleBeat, Dev.beatIdle_idlePending _,
      (Dev.beatIdle_mem _).trans s.dev.lossMarked_mem⟩
  case expiry =>
    intro s tie hrun hhold hstate htie halign hstep
    have hgives := gives_holdoverExpiry hrun hhold hstate tie
    have hidle : ¬ ((tie = true ∧ s.dev.sourceReady = true) ∨ s.dev.beat.alignPending = true ∨ s.dev.beat.stepPending = true) := by
      rcases htie with h | h <;> simp [h, halign, hstep]
    rw [if_neg hidle] at hgives
    obtain ⟨hstate, hidleIn, hidleBeat, -⟩ := s.dev.beatIdle_reads
    exact ⟨_, hgives, hstate, hidleIn, hidleBeat, Dev.beatIdle_holdRunning _, Dev.beatIdle_idlePending _, Dev.beatIdle_mem _⟩
  case expiryWaits =>
    intro s tie hrun hhold hstate hwaits
    have hgives := gives_holdoverExpiry hrun hhold hstate tie
    rw [if_pos hwaits] at hgives
    exact ⟨_, hgives, rfl, ((Dev.onlyBeat.refl _ _).wr List.mem_cons_self _).setBeat _⟩

/-- Settles O22: an edge or a crossing in range is one named change of the beat unit (`quadError_counted`, `edgeCounted`,
`crossingMeasured`), which leaves the registers that the rest of its command decides by as they were. -/
theorem positionAndLineCommands : Obligations.PositionAndLineCommands := by
  refine ⟨fun s pick x d => gives_alignment_acquire, ?illegal, ?legal, fun s a b index gap ns x => gives_positionEdge_none,
    fun s ns x => gives_indexAccepted_first, fun s ns x => gives_indexAccepted_later, fun s t x => gives_zeroCrossing_outOfRange,
    ?crossing⟩
  case illegal =>
    intro s a b index gap ns x hland hsrc ha hb hgap hfew
    obtain ⟨hbeat, hmem, hevent, hpos⟩ :=
      Dev.quadError_leaves (d := s.dev.setBeat { s.dev.beat with posA := a, posB := b }) hsrc hfew
    exact ⟨_, gives_positionEdge_illegal hland hgap ha hb, hevent, hpos, hbeat, hmem⟩
  case legal =>
    intro s a b index gap ns x hland hsrc ha hb hgap hfree
    subst hb
    have hgives := gives_positionEdge_legal (ns := ns) (index := index) (x := x) hland hgap (fun h => ha h.1) (fun h => h.2 rfl) hfree
    rw [quadDir_ofA ha] at hgives
    refine ⟨_, hgives, ?_, Dev.edgeCounted_beat (d := s.dev.setBeat { s.dev.beat with posA := a }) hsrc _,
      s.dev.edgeCounted_onlyBeat _ _⟩
    rw [Dev.edgeCounted_posCnt]
    split <;> rfl
  case crossing =>
    intro s t x hland hsrc hrange hexact
    obtain ⟨hline, hperiod, hphErr⟩ := s.dev.crossingMeasured_reads t x
    refine ⟨_, gives_zeroCrossing_inRange hland hsrc hrange hexact, hline, hperiod, hphErr, ?_,
      (s.dev.crossingMeasured_onlyBeat t x).setBeat _⟩
    rw [Dev.setBeat_self, s.dev.crossingMeasured_beat t x hsrc]

end Sys2Proof.Proofs
end

section
/-! SUPPORT. One table entry's turn: what it reads of the table, and the block with which the command of an entry completes, by the
shape of its effect (R126, R137, R138, R141, R154). -/

namespace Sys2Proof.Machine

/-- The entry whose turn it is stands at its index of the table in force and holds the operation of its command. -/
theorem Dev.turnOf_holds {d : Dev} {idx op : Nat} {e : Entry} (hturn : d.turnOf idx op e = true) :
    d.entry idx = some e ∧ e.op = op := by
  simp only [Dev.turnOf, Bool.and_eq_true, beq_iff_eq] at hturn
  obtain ⟨⟨⟨-, hentry⟩, hop⟩, -⟩ := hturn
  exact ⟨hentry, hop⟩

theorem Dev.runEntry_turn {d : Dev} {idx op : Nat} {e : Entry} (hturn : d.turnOf idx op e = true) (f : Dev → Entry → Dev × Bool) :
    d.runEntry idx op f = (f (d.entryTaken idx op) e).1.entryDone idx op e (f (d.entryTaken idx op) e).2 := by
  obtain ⟨hentry, -⟩ := Dev.turnOf_holds hturn
  simp only [Dev.runEntry, hentry, if_pos hturn]

/-- An entry with a fresh source does its effect on what it reads there. -/
theorem Dev.oneSource_fresh {d : Dev} {idx op : Nat} {e : Entry} (hturn : d.turnOf idx op e = true)
    (hfresh : (d.entryFresh idx op e).2 = false) (f : Dev → Value → Nat → Dev) :
    (d.entryTaken idx op).oneSource idx e f =
      (f (d.entrySource idx op e).1 (d.entrySource idx op e).2.1 (d.entrySource idx op e).2.2, true) := by
  obtain ⟨-, rfl⟩ := Dev.turnOf_holds hturn
  exact if_neg (ne_true_of_eq_false hfresh)

section
variable {c : Instr} {s : State} {idx op : Nat} {e : Entry} (hturn : s.dev.turnOf idx op e = true)
include hturn

/-- The command of an entry completes, in the entry's turn, with what its effect leaves. -/
theorem gives_runEntry {f : Dev → Entry → Dev × Bool} {d : Dev} {ran : Bool} (he : exec c s = onDev (·.runEntry idx op f) s)
    (hf : f (s.dev.entryTaken idx op) e = (d, ran)) : Gives c s (d.entryDone idx op e ran) :=
  gives_onDev he (by rw [Dev.runEntry_turn hturn, hf])

variable (hfresh : (s.dev.entryFresh idx op e).2 = false)
include hfresh

theorem gives_oneSource {f : Entry → Dev → Value → Nat → Dev}
    (he : exec c s = onDev (·.runEntry idx op fun d e => d.oneSource idx e (f e)) s) :
    Gives c s ((f e (s.dev.entrySource idx op e).1 (s.dev.entrySource idx op e).2.1 (s.dev.entrySource idx op e).2.2).entryDone
      idx op e true) :=
  gives_runEntry hturn he (Dev.oneSource_fresh hturn hfresh (f e))

/-- A warp entry of one source outside the idle card whose target does not refuse it. -/
theorem gives_accepted {refuses : Dev → Nat → Bool} {f : Entry → Dev → Value → Nat → Dev}
    (he : exec c s = onDev (·.runEntry idx op fun d e =>
      if d.trdIdle then (d, false) else if refuses d e.dst then (d.refuseEntry, false) else d.oneSource idx e (f e)) s)
    (hidle : (s.dev.entryTaken idx op).trdIdle = false) (haccepts : refuses (s.dev.entryTaken idx op) e.dst = false) :
    Gives c s ((f e (s.dev.entrySource idx op e).1 (s.dev.entrySource idx op e).2.1 (s.dev.entrySource idx op e).2.2).entryDone
      idx op e true) :=
  gives_runEntry hturn he ((if_neg (ne_true_of_eq_false hidle)).trans
    ((if_neg (ne_true_of_eq_false haccepts)).trans (Dev.oneSource_fresh hturn hfresh (f e))))

end

end Sys2Proof.Machine
end

section
/-! SUPPORT. The commands of the table entries, their own effects, and the two error reads (R125, R130, R131, R139, R150). -/

namespace Sys2Proof.Machine

theorem exec_nop (idx : Nat) (s : State) : exec (.nop idx) s = execNop idx s := rfl
theorem exec_take (idx : Nat) (s : State) : exec (.take idx) s = execTake idx s := rfl
theorem exec_sample (idx : Nat) (s : State) : exec (.sample idx) s = execSample idx s := rfl
theorem exec_stamp (idx : Nat) (s : State) : exec (.stamp idx) s = execStamp idx s := rfl
theorem exec_move (idx : Nat) (s : State) : exec (.move idx) s = execMove idx s := rfl
theorem exec_scale (idx : Nat) (s : State) : exec (.scale idx) s = execScale idx s := rfl
theorem exec_pack (idx : Nat) (s : State) : exec (.pack idx) s = execPack idx s := rfl
theorem exec_unpack (idx : Nat) (s : State) : exec (.unpack idx) s = execUnpack idx s := rfl
theorem exec_send (idx : Nat) (s : State) : exec (.send idx) s = execSend idx s := rfl
theorem exec_drive (idx : Nat) (s : State) : exec (.drive idx) s = execDrive idx s := rfl
theorem exec_pwmset (idx : Nat) (s : State) : exec (.pwmset idx) s = execPwmset idx s := rfl
theorem exec_gate (idx : Nat) (s : State) : exec (.gate idx) s = execGate idx s := rfl
theorem exec_kick (idx : Nat) (s : State) : exec (.kick idx) s = execKick idx s := rfl
theorem exec_mark (idx : Nat) (s : State) : exec (.mark idx) s = execMark idx s := rfl
theorem exec_tableReadCorrected (idx : Nat) (s : State) : exec (.tableReadCorrected idx) s = execTableReadCorrected idx s := rfl
theorem exec_uncorrectableTableRead (idx : Nat) (s : State) :
    exec (.uncorrectableTableRead idx) s = execUncorrectableTableRead idx s := rfl

/-! ### Effects of single entries -/

/-- A TAKE of a fresh frame that is long enough for its field (R131, R140). -/
theorem Dev.takeEffect_field {d : Dev} {idx : Nat} {e : Entry} (hheld : (d.trd.rxObj.get e.src {}).held = true)
    (hfresh : (d.fresh? idx ((d.trd.rxObj.get e.src {}).count % 65536) e).2 = false)
    (hfits : (fieldArg e.arg).start + (fieldArg e.arg).width ≤ (d.trd.rxObj.get e.src {}).payload.length * 8) :
    d.takeEffect idx e =
      ((d.fresh? idx ((d.trd.rxObj.get e.src {}).count % 65536) e).1.entryWrite e.dst
        (extendBits (fieldArg e.arg).width (fieldGet (d.trd.rxObj.get e.src {}).payload (fieldArg e.arg)) (fieldArg e.arg).signed) 0,
      true) := by
  simp only [Dev.takeEffect, hheld, hfresh, if_neg (Nat.not_lt.mpr hfits), Bool.not_true, Bool.false_eq_true, if_false]

/-- A KICK of a CAN object that holds a payload (R139). -/
theorem Dev.kick_can {d : Dev} {o : Nat} (hcan : o < 0x1000) (haccepts : d.canRefuses (o / 32) = false)
    (hheld : (d.txObj o).held = true) : d.kick o = (d.canKick (o / 32) (o % 32), true) :=
  (if_pos hcan).trans ((if_neg (ne_true_of_eq_false haccepts)).trans (if_pos hheld))

/-! ### Error reads -/

/-- What is read of the table depends on the Treadle's state and on the half in force alone (R122). -/
theorem Dev.entry_congr {d d' : Dev} (htrd : d'.trd = d.trd) (hhalf : d'.rd TRD_STAT_ACT_HALF = d.rd TRD_STAT_ACT_HALF) (idx : Nat) :
    d'.entry idx = d.entry idx := by
  have hflag : d'.flag TRD_STAT_ACT_HALF = d.flag TRD_STAT_ACT_HALF := by rw [Dev.flag, Dev.flag, hhalf]
  rw [Dev.entry, Dev.entry, Dev.half, Dev.half, hflag, htrd]

theorem Dev.entry_eccUncorrected (d : Dev) (idx : Nat) :
    (((d.inc TRD_ECCCNT_UNC).wr TRD_EVT_ECC_UNC 1).trig 0x0314 []).entry idx = d.entry idx := by
  refine Dev.entry_congr (by rw [Dev.trig_trd, Dev.wr_trd, Dev.inc_trd]) ?_ idx
  rw [Dev.trig_rd_below _ _ _ (by decide), Dev.rd_wr_ne _ (by decide), Dev.rd_inc_ne _ (by decide)]

section
variable {s : State} {idx : Nat} (htodo : s.dev.trd.todo.contains idx = true)
include htodo

/-- A corrected read charges its entry, which may shed others, the lane's last ones among them (R125, R148). -/
theorem gives_tableReadCorrected {d : Dev} (hd : d = ((((s.dev.inc TRD_ECCCNT_COR).wr TRD_EVT_ECC_COR 1).trig 0x0315 []).setTrd
      { s.dev.trd with charged := s.dev.trd.charged ++ [idx] }).shedCheck.weftEnd) :
    Gives (.tableReadCorrected idx) s (if d.trd.todo.isEmpty then d.finishPick else d) := by
  have htrd : (((s.dev.inc TRD_ECCCNT_COR).wr TRD_EVT_ECC_COR 1).trig 0x0315 []).trd = s.dev.trd := by
    rw [Dev.trig_trd, Dev.wr_trd, Dev.inc_trd]
  subst hd
  refine gives_onDev (exec_tableReadCorrected _ _) ((if_pos htodo).trans ?_)
  simp only [htrd]

/-- An uncorrectable read drops its entry as one of class 0; the lane's end is looked for when the entry is one of the weft lane. -/
theorem gives_uncorrectableTableRead {e : Entry} (hentry : s.dev.entry idx = some e) {d : Dev}
    (hd : d = if opWarp e.op then (((s.dev.inc TRD_ECCCNT_UNC).wr TRD_EVT_ECC_UNC 1).trig 0x0314 []).dropEntry idx 0
      else ((((s.dev.inc TRD_ECCCNT_UNC).wr TRD_EVT_ECC_UNC 1).trig 0x0314 []).dropEntry idx 0).weftEnd) :
    Gives (.uncorrectableTableRead idx) s (if d.trd.todo.isEmpty then d.finishPick else d) := by
  subst hd
  refine gives_onDev (exec_uncorrectableTableRead _ _) ((if_pos htodo).trans ?_)
  simp only [Dev.entry_eccUncorrected, hentry]
  cases opWarp e.op <;> rfl

end

end Sys2Proof.Machine
end

section
/-! SUPPORT. Evidence and timeouts of a declared partner (R79, R80, R82), and the moves of waiting frames (R137, R351, R392,
R422). -/

namespace Sys2Proof.Machine

theorem exec_q0Move (s : State) : exec .q0Move s = execQ0Move s := rfl
theorem exec_ttRxMove (s : State) : exec .ttRxMove s = execTtRxMove s := rfl
theorem exec_i2ObjectMove (s : State) : exec .i2ObjectMove s = execI2ObjectMove s := rfl
theorem exec_presenceEvidence (p : Nat) (s : State) : exec (.presenceEvidence p) s = execPresenceEvidence p s := rfl
theorem exec_discoverExpiry (p : Nat) (tie : Bool) (s : State) : exec (.discoverExpiry p tie) s = execDiscoverExpiry p tie s := rfl
theorem exec_lossExpiry (p : Nat) (tie : Bool) (s : State) : exec (.lossExpiry p tie) s = execLossExpiry p tie s := rfl

theorem Dev.evidence_unknown {d : Dev} {r : InvRec} (h : d.presenceOf r.partner = .unknown) :
    d.evidence r = d.presenceSet r .present := by simp only [Dev.evidence, h]

theorem Dev.evidence_present {d : Dev} {r : InvRec} (h : d.presenceOf r.partner = .present) : d.evidence r = d := by
  simp only [Dev.evidence, h]

theorem Dev.evidence_absent {d : Dev} {r : InvRec} (h : d.presenceOf r.partner = .absent) :
    d.evidence r = (d.presenceSet r .present).trig 0x0203 [r.partner] := by simp only [Dev.evidence, h]

section
variable {s : State} {p : Nat} {r : InvRec} (hr : s.dev.partner p = some r)
include hr

theorem gives_presenceEvidence : Gives (.presenceEvidence p) s (s.dev.evidence r) :=
  gives_onDev (exec_presenceEvidence _ _) (by simp only [hr])

theorem gives_discoverExpiry (tie : Bool) : Gives (.discoverExpiry p tie) s (
    if s.dev.standing r then s.dev.evidence r
    else if !tie ∧ s.dev.presenceOf p = .unknown then s.dev.presenceSet r .absent else s.dev) :=
  gives_onDev (exec_discoverExpiry _ _ _) (by simp only [hr])

theorem gives_lossExpiry (tie : Bool) : Gives (.lossExpiry p tie) s (
    if !tie ∧ !s.dev.standing r ∧ s.dev.presenceOf p = .present then (s.dev.presenceSet r .absent).trig 0x0203 [p] else s.dev) :=
  gives_onDev (exec_lossExpiry _ _ _) (by simp only [hr])

end

end Sys2Proof.Machine
end

section
/-! CERTIFICATES. The statements of the Treadle family that are settled. -/

namespace Sys2Proof.Proofs
open Sys2Proof.Machine

/-- Settles O17: each entry is in its turn, and its effect is that of a fresh source (`gives_oneSource`) or its own. -/
theorem weftEntriesComplete : Obligations.WeftEntriesComplete := by
  refine ⟨?nop, ?take, ?sample, ?stamp, ?move, ?scale, ?pack, ?unpack⟩
  case nop => exact fun s idx e hturn => (gives_runEntry hturn (exec_nop _ _) rfl :)
  case take =>
    intro s idx e hturn hheld hfresh hfits
    exact gives_runEntry hturn (exec_take _ _) (Dev.takeEffect_field hheld hfresh hfits)
  case sample => exact fun s idx e hturn => (gives_runEntry hturn (exec_sample _ _) rfl :)
  case stamp =>
    intro s idx e hturn hkind
    have hvalue : (s.dev.entryTaken idx 0x03).stampValue (bits e.arg 1 0) = s.dev.trd.gptpNs := by rw [hkind]; rfl
    exact hvalue ▸ gives_runEntry hturn (exec_stamp _ _) rfl
  case move => exact fun s idx e hturn hfresh => (gives_oneSource hturn hfresh (exec_move _ _) :)
  case scale => exact fun s idx e hturn hfresh => (gives_oneSource hturn hfresh (exec_scale _ _) :)
  case pack => exact fun s idx e hturn => (gives_runEntry hturn (exec_pack _ _) rfl :)
  case unpack => exact fun s idx e hturn hfresh => (gives_oneSource hturn hfresh (exec_unpack _ _) :)

/-- Settles O18: outside the idle card an entry that its target accepts does its effect on a fresh source (`gives_accepted`); GATE, KICK
and MARK read no source. -/
theorem warpEntriesComplete : Obligations.WarpEntriesComplete := by
  refine ⟨?send, ?drive, ?pwmset, ?gate, ?kick, ?mark⟩
  case send => exact fun s idx e hturn hidle haccepts hfresh => (gives_accepted hturn hfresh (exec_send _ _) hidle haccepts :)
  case drive => exact fun s idx e hturn hidle haccepts hfresh => (gives_accepted hturn hfresh (exec_drive _ _) hidle haccepts :)
  case pwmset => exact fun s idx e hturn hidle haccepts hfresh => (gives_accepted hturn hfresh (exec_pwmset _ _) hidle haccepts :)
  case gate =>
    intro s idx e hturn hidle hport
    exact gives_runEntry hturn (exec_gate _ _)
      ((if_neg (ne_true_of_eq_false hidle)).trans (if_neg (ne_true_of_eq_false hport)))
  case kick =>
    intro s idx e hturn hidle hcan haccepts hheld
    exact gives_runEntry hturn (exec_kick _ _)
      ((if_neg fun h => ne_true_of_eq_false hidle h.1).trans (Dev.kick_can hcan haccepts hheld))
  case mark => exact fun s idx e hturn => (gives_runEntry hturn (exec_mark _ _) rfl :)

/-- Settles O19: the trigger of an error read leaves the table as it was, so that the entry's lane is the one it had. -/
theorem tableReadErrors : Obligations.TableReadErrors := by
  refine ⟨fun s idx d htodo hd => gives_tableReadCorrected htodo hd, ?warp, ?weft⟩
  case warp =>
    intro s idx e d htodo hentry hd hwarp
    exact gives_uncorrectableTableRead htodo hentry (by rw [if_pos hwarp, hd])
  case weft =>
    intro s idx e d htodo hentry hd hweft
    exact gives_uncorrectableTableRead htodo hentry (by rw [if_neg (ne_true_of_eq_false hweft), hd])

/-- Settles O25: the moves wait for a free lane; a partner's state, the tie and a link that stands choose the branch of the rest. -/
theorem movesAndPresence : Obligations.MovesAndPresence := by
  refine ⟨fun s hfree => gives_onDev (exec_q0Move _) (if_pos hfree), fun s hfree => gives_onDev (exec_ttRxMove _) (if_pos hfree),
    fun s hfree => gives_onDev (exec_i2ObjectMove _) (if_pos hfree), ?unknown, ?absent, ?present, ?discover, ?loss, ?tie, ?standing⟩
  case unknown => exact fun s p r hr hstate => Dev.evidence_unknown hstate ▸ gives_presenceEvidence hr
  case absent => exact fun s p r hr hstate => Dev.evidence_absent hstate ▸ gives_presenceEvidence hr
  case present =>
    intro s p r hr hstate
    have hgives := gives_presenceEvidence hr
    rwa [Dev.evidence_present hstate] at hgives
  case discover =>
    intro s p r hr hstands hstate
    simpa [hstands, hstate] using gives_discoverExpiry hr false
  case loss =>
    intro s p r hr hstands hstate
    simpa [hstands, hstate] using gives_lossExpiry hr false
  case tie =>
    intro s p r hr hstands
    exact ⟨by simpa [hstands] using gives_discoverExpiry hr true, by simpa using gives_lossExpiry hr true⟩
  case standing =>
    intro s p r tie hr hstands
    exact ⟨by simpa [hstands] using gives_discoverExpiry hr tie, by simpa [hstands] using gives_lossExpiry hr tie⟩

end Sys2Proof.Proofs
end

section
/-! SUPPORT. What the commands of the signal store give, by the branch of their meaning (R174 to R176, R181 to R183, R187, R188,
R203), and what a refused write leaves (R178, R179). -/

namespace Sys2Proof.Machine

theorem exec_groupCommit (init g : Nat) (s : State) : exec (.groupCommit init g) s = execGroupCommit init g s := rfl
theorem exec_groupFlip (g : Nat) (s : State) : exec (.groupFlip g) s = execGroupFlip g s := rfl
theorem exec_signalWrite (init n off width value : Nat) (s : State) :
    exec (.signalWrite init n off width value) s = execSignalWrite init n off width value s := rfl
theorem exec_signalRead (init n off width : Nat) (s : State) :
    exec (.signalRead init n off width) s = execSignalRead init n off width s := rfl
theorem exec_staleSweep (n : Nat) (s : State) : exec (.staleSweep n) s = execStaleSweep n s := rfl

/-- A hart can always make accesses (R619). -/
theorem Dev.portOpen_hart (d : Dev) {init : Nat} (h : init < 10) : d.portOpen init = true := by
  rw [Dev.portOpen, decide_eq_true h, Bool.true_or]

/-- An access to the signal store, which domain 11 powers, by an initiator that can make it (R29, R35). -/
theorem gives_onSignalStore {i : Instr} {s : State} {init : Nat} {f : Dev → Dev} {d : Dev}
    (he : exec i s = onBlockBy init 0x40100000 f s) (hport : s.dev.portOpen init = true) (hdom : s.dev.domainOn 11 = true)
    (h : f (s.dev.answered 0) = d) : Gives i s d :=
  h ▸ gives_onBlockBy he hport hdom

/-! ### Commits and flips of groups (R181 to R183) -/

/-- A commit claims the members of its group that have been written (R182, R186). -/
def Dev.claimGroup (d : Dev) (g : Nat) : Dev :=
  { d with sig := { d.sig with claimed := d.sig.claimed ++
    ((d.groupMembers g).map fun m => m.signal).filter fun n => d.sig.written.contains n } }

/-- A commit that is not refused: merged with a pending one, or the flip's request, which a stopped Treadle meets at once. -/
def Dev.commitGroup (d : Dev) (g : Nat) : Dev :=
  if d.flagi TRD_GVER_PEND g then d
  else if ((d.claimGroup g).wri TRD_GVER_PEND g 1).trdRuns then (d.claimGroup g).wri TRD_GVER_PEND g 1
  else ((d.claimGroup g).wri TRD_GVER_PEND g 1).flipGroup g

/-- The flag of a pending commit lies apart from the Treadle's state. -/
theorem Dev.trdRuns_wri_pend (d : Dev) (g v : Nat) : (d.wri TRD_GVER_PEND g v).trdRuns = d.trdRuns := by
  have hkey : TRD_STAT_STATE.key 0 ≠ TRD_GVER_PEND.key g := by
    simp only [Field.key, Field.addr, TRD_STAT_STATE, TRD_GVER_PEND]
    omega
  rw [Dev.trdRuns, Dev.rd_wri, if_neg hkey, Dev.trdRuns]

theorem Dev.commitGroup_merged {d : Dev} {g : Nat} (hpend : d.flagi TRD_GVER_PEND g = true) : d.commitGroup g = d := if_pos hpend

theorem Dev.commitGroup_waits {d : Dev} {g : Nat} (hpend : d.flagi TRD_GVER_PEND g = false) (hrun : d.trdRuns = true) :
    d.commitGroup g = (d.claimGroup g).wri TRD_GVER_PEND g 1 :=
  (if_neg (ne_true_of_eq_false hpend)).trans (if_pos (((d.claimGroup g).trdRuns_wri_pend g 1).trans hrun))

theorem gives_groupCommit {s : State} {init g : Nat} {r : SigRec} {l : List SigRec} (hport : s.dev.portOpen init = true)
    (hdom : s.dev.domainOn 11 = true) (hmembers : s.dev.groupMembers g = r :: l) (hg : g < 0x1000)
    (hmay : s.dev.mayWrite init r.writer = true) : Gives (.groupCommit init g) s ((s.dev.answered 0).commitGroup g) := by
  refine gives_onSignalStore (exec_groupCommit _ _ _) hport hdom ?_
  split
  next hnone => exact absurd (hmembers.symm.trans hnone) (List.cons_ne_nil r l)
  next r' l' hsome =>
    obtain ⟨rfl, rfl⟩ := List.cons.inj (hmembers.symm.trans hsome)
    exact if_pos ⟨hg, hmay⟩

/-! ### Writes through the window (R175, R176, R178, R179) -/

/-- A write by the signal's writer, by the bytes that it covers: the value, its low half, or the high half to one that is held. -/
def Dev.slotWrite (d : Dev) (init n off width value : Nat) (r : SigRec) : Dev :=
  if off = 0 ∧ typeWidth r.type ≤ width then (d.dropHeld init).sigPut init r (BitVec.ofNat 64 value)
  else if typeWidth r.type = 64 ∧ width = 32 ∧ off = 0 then (d.setHeld init n (value % 2 ^ 32)).answered 0
  else if typeWidth r.type = 64 ∧ width = 32 ∧ off = 4 then
    match d.heldHalf init n with
    | some low => (d.dropHeld init).sigPut init r (BitVec.ofNat 64 (low + value % 2 ^ 32 * 2 ^ 32))
    | none => d.refuseSignal init n false
  else d.refuseSignal init n false

section
variable {d : Dev} {r : SigRec} (init n value : Nat)

theorem Dev.slotWrite_whole {width : Nat} (hwidth : typeWidth r.type ≤ width) :
    d.slotWrite init n 0 width value r = (d.dropHeld init).sigPut init r (BitVec.ofNat 64 value) := if_pos ⟨rfl, hwidth⟩

theorem Dev.slotWrite_low (hwide : typeWidth r.type = 64) :
    d.slotWrite init n 0 32 value r = (d.setHeld init n (value % 2 ^ 32)).answered 0 :=
  (if_neg (by omega)).trans (if_pos ⟨hwide, rfl, rfl⟩)

theorem Dev.slotWrite_high {init n : Nat} (hwide : typeWidth r.type = 64) {low : Nat} (hheld : d.heldHalf init n = some low) :
    d.slotWrite init n 4 32 value r =
      (d.dropHeld init).sigPut init r (BitVec.ofNat 64 (low + value % 2 ^ 32 * 2 ^ 32)) := by
  rw [Dev.slotWrite, if_neg (by omega), if_neg (by omega), if_pos ⟨hwide, rfl, rfl⟩, hheld]

end

section
variable {s : State} {init n : Nat} (hport : s.dev.portOpen init = true) (hdom : s.dev.domainOn 11 = true)
include hport hdom

theorem gives_signalWrite_undeclared (hr : s.dev.sigRec n = none) (off width value : Nat) :
    Gives (.signalWrite init n off width value) s ((s.dev.answered 0).refuseSignal init n false) := by
  refine gives_onSignalStore (exec_signalWrite _ _ _ _ _ _) hport hdom ?_
  have hr' : (s.dev.answered 0).sigRec n = none := hr
  simp only [hr']

theorem gives_signalWrite_declared {r : SigRec} (hr : s.dev.sigRec n = some r) (off width value : Nat) :
    Gives (.signalWrite init n off width value) s (if s.dev.mayWrite init r.writer
      then (s.dev.answered 0).slotWrite init n off width value r else (s.dev.answered 0).refuseSignal init n false) := by
  refine gives_onSignalStore (exec_signalWrite _ _ _ _ _ _) hport hdom ?_
  have hr' : (s.dev.answered 0).sigRec n = some r := hr
  have hwriter : (s.dev.answered 0).mayWrite init r.writer = s.dev.mayWrite init r.writer := rfl
  simp only [hr', hwriter]
  cases s.dev.mayWrite init r.writer <;> rfl

variable {r : SigRec} (hr : s.dev.sigRec n = some r)
include hr

theorem gives_signalWrite_foreign (hmay : s.dev.mayWrite init r.writer = false) (off width value : Nat) :
    Gives (.signalWrite init n off width value) s ((s.dev.answered 0).refuseSignal init n false) := by
  have hgives := gives_signalWrite_declared hport hdom hr off width value
  rwa [if_neg (ne_true_of_eq_false hmay)] at hgives

theorem gives_signalWrite_own (hmay : s.dev.mayWrite init r.writer = true) (off width value : Nat) :
    Gives (.signalWrite init n off width value) s ((s.dev.answered 0).slotWrite init n off width value r) := by
  have hgives := gives_signalWrite_declared hport hdom hr off width value
  rwa [if_pos hmay] at hgives

end

/-! ### A refused write (R179, R203) -/

theorem Dev.countRefused_undeclared {d : Dev} {c : Nat} (h : d.ctxRec c = none) :
    d.countRefused c = if c < 2048 then d.inc CTX_ACCERR_ACC_ERR else d := by rw [Dev.countRefused, h]

/-- The result of an access says nothing of how a refusal under an undeclared number counts. -/
theorem Dev.answered_countRefused_undeclared {d : Dev} {c : Nat} (h : d.ctxRec c = none) (u v : Nat) :
    ((d.answered u).countRefused c).answered v = (d.countRefused c).answered v := by
  rw [Dev.countRefused_undeclared (d := d.answered u) h, Dev.countRefused_undeclared h]
  split <;> rfl

/-- The registers that name the refused write: its count, its signal or group, its context, its kind (R179). -/
def Dev.refusalNamed (d : Dev) (init n : Nat) (commit : Bool) : Dev :=
  (((d.inc TRD_SIGWERR_COUNT).wr TRD_SIGWLAST_SIGNAL n).wr TRD_SIGWLAST_CTX (d.tag init)).wr TRD_SIGWKIND_GCOMMIT (b2n commit)

section
variable (d : Dev) (init n : Nat) (commit : Bool)

theorem Dev.refusalNamed_reads : (d.refusalNamed init n commit).rd TRD_SIGWERR_COUNT = min (d.rd TRD_SIGWERR_COUNT + 1) (2 ^ 32 - 1) ∧
    (d.refusalNamed init n commit).rd TRD_SIGWLAST_SIGNAL = n % 2 ^ 16 ∧
    (d.refusalNamed init n commit).rd TRD_SIGWLAST_CTX = d.tag init % 2 ^ 16 := by
  refine ⟨?count, ?signal, ?ctx⟩ <;> rw [Dev.refusalNamed, Dev.rd_wr_ne _ (by decide)]
  case count => rw [Dev.rd_wr_ne _ (by decide), Dev.rd_wr_ne _ (by decide), Dev.rd_inc, if_pos rfl]; rfl
  case signal => rw [Dev.rd_wr_ne _ (by decide), Dev.rd_wr_self]; rfl
  case ctx => rw [Dev.rd_wr_self]; rfl

variable {d init} (h : d.ctxRec (d.tag init) = none)
include h

/-- Under an undeclared number a refusal resets no context: a trigger and a count follow the naming. -/
theorem Dev.refuseSignal_undeclared : d.refuseSignal init n commit =
    (if d.tag init < 2048 then
      ((d.refusalNamed init n commit).trig 0x0320 [n, d.tag init, b2n commit]).inc CTX_ACCERR_ACC_ERR
    else (d.refusalNamed init n commit).trig 0x0320 [n, d.tag init, b2n commit]).faulted := by
  have hrec : ((d.refusalNamed init n commit).trig 0x0320 [n, d.tag init, b2n commit]).ctxRec (d.tag init) = none := by
    rw [Dev.ctxRec, Dev.rdeck, Dev.trig_deck]; exact h
  exact congrArg Dev.faulted (Dev.countRefused_undeclared hrec)

theorem Dev.refuseSignal_sig : (d.refuseSignal init n commit).sig = d.sig := by
  have htrig : ((d.refusalNamed init n commit).trig 0x0320 [n, d.tag init, b2n commit]).sig = d.sig := Dev.trig_sig _ _ _
  rw [Dev.refuseSignal_undeclared n commit h]
  split <;> exact htrig

/-- A register below the block of the contexts, in which the refusal is counted, reads what the naming left in it. -/
theorem Dev.refuseSignal_rd {f : Field} (hf : f.key 0 < CTX_ACCERR_ACC_ERR.key 0) :
    (d.refuseSignal init n commit).rd f = (d.refusalNamed init n commit).rd f := by
  have htrig : ((d.refusalNamed init n commit).trig 0x0320 [n, d.tag init, b2n commit]).rd f = (d.refusalNamed init n commit).rd f :=
    Dev.trig_rd_below _ _ _ (hf.trans (by decide))
  rw [Dev.refuseSignal_undeclared n commit h]
  split
  · exact (Dev.rd_inc_ne _ hf.ne).trans htrig
  · exact htrig

end

/-! ### Reads through the window (R174, R188, R203) -/

section
variable {s : State} {init n off width : Nat} (hport : s.dev.portOpen init = true) (hdom : s.dev.domainOn 11 = true)
include hport hdom

theorem gives_signalRead_undeclared (hu : s.dev.undeclared (s.dev.tag init) = true) :
    Gives (.signalRead init n off width) s ((s.dev.countRefused (s.dev.tag init)).answered 0) := by
  have hrec : s.dev.ctxRec (s.dev.tag init) = none := by
    rw [Dev.undeclared, Bool.and_eq_true, Option.isNone_iff_eq_none] at hu
    exact hu.2
  exact gives_onSignalStore (exec_signalRead _ _ _ _ _) hport hdom
    ((if_pos hu).trans (Dev.answered_countRefused_undeclared hrec 0 0))

variable (hu : s.dev.undeclared (s.dev.tag init) = false)
include hu

/-- A hart's read of the first bytes of a slot copies the slot, once it has been judged (R174, R188). -/
theorem gives_signalRead_latches (hhart : init < 10) {d : Dev} (hd : d = (s.dev.answered 0).judge n) :
    Gives (.signalRead init n 0 width) s
      (({ d with sig := { d.sig with latch := d.sig.latch.set init (n, d.slotWord n) } } : Dev).answered
        (slotPart (d.slotWord n) 0 width)) := by
  subst hd
  exact gives_onSignalStore (exec_signalRead _ _ _ _ _) hport hdom
    ((if_neg (ne_true_of_eq_false hu)).trans (if_pos ⟨hhart, rfl⟩))

/-- The later bytes of a slot come from the copy (R174). -/
theorem gives_signalRead_latched (hoff : off = 4 ∨ off = 8 ∨ off = 12) {w : Nat}
    (hlatch : ((s.dev.answered 0).judge n).sig.latch.find init = some (n, w)) :
    Gives (.signalRead init n off width) s (((s.dev.answered 0).judge n).answered (slotPart w off width)) := by
  refine gives_onSignalStore (exec_signalRead _ _ _ _ _) hport hdom ((if_neg (ne_true_of_eq_false hu)).trans ?_)
  have hlater : ¬ (init < 10 ∧ off = 0) := by omega
  rw [if_neg hlater, hlatch]
  simp only [hoff, and_self, if_true]

end

/-! ### The judgement of an old signal (R187, R188) -/

theorem Dev.watchStale_unwatched {r : SigRec} (h : r.watch < 244) (d : Dev) : d.watchStale r = d := if_neg (by omega)

/-- A signal that outlives its limit becomes STALE and is counted; without a watch and a C0 writer no more follows (R188). -/
theorem Dev.judge_old {d : Dev} {n : Nat} {r : SigRec} (hr : d.sigRec n = some r) (hlimit : r.ageLimit ≠ 0)
    (hfresh : (d.front n).stale = false) (hforced : (d.front n).forced = false) (hage : ¬ d.ageOf (d.front n) ≤ r.ageLimit)
    (hwriter : d.c0Writer r = false) (hwatch : r.watch < 244) :
    d.judge n = (d.setFront n { d.front n with status := (d.front n).status + stSTALE }).inc TRD_SIGSTALE_COUNT := by
  have hjudged : ¬ (r.ageLimit = 0 ∨ (d.front n).stale = true ∨ (d.front n).forced = true ∨ d.ageOf (d.front n) ≤ r.ageLimit) := by
    simp [hlimit, hfresh, hforced, hage]
  simp only [Dev.judge, hr, if_neg hjudged, Dev.watchStale_unwatched hwatch]
  exact if_neg (ne_true_of_eq_false hwriter)

/-- The sweep visits a signal, and judges it. -/
theorem gives_staleSweep (s : State) (n : Nat) : Gives (.staleSweep n) s (s.dev.judge n) := gives_onDev (exec_staleSweep _ _) rfl

end Sys2Proof.Machine
end

section
/-! CERTIFICATES. The statements of the signal store family that are settled. -/

namespace Sys2Proof.Proofs
open Sys2Proof.Machine

/-- Settles O23, command by command: what the branch taken leaves is said by the laws of `commitGroup`, `slotWrite`, the latch and
`judge`. -/
theorem signalStoreCommands : Obligations.SignalStoreCommands := by
  refine ⟨?commit, ?merged, fun s g hpend hfree => gives_onDev (exec_groupFlip _ _) (if_pos ⟨hpend, hfree⟩), ?whole, ?low, ?high,
    fun s init n off width => gives_signalRead_undeclared, ?latches,
    fun s init n off width w hport hdom hu hoff => gives_signalRead_latched hport hdom hu hoff, ?sweep⟩
  case commit =>
    intro s init g r l hport hdom hmembers hg hmay hpend hrun
    have hgives := gives_groupCommit hport hdom hmembers hg hmay
    have hmembers' : (s.dev.answered 0).groupMembers g = r :: l := hmembers
    rwa [Dev.commitGroup_waits (d := s.dev.answered 0) hpend hrun, Dev.claimGroup, hmembers'] at hgives
  case merged =>
    intro s init g r l hport hdom hmembers hg hmay hpend
    have hgives := gives_groupCommit hport hdom hmembers hg hmay
    rwa [Dev.commitGroup_merged (d := s.dev.answered 0) hpend] at hgives
  case whole =>
    intro s init n width value r hport hdom hr hmay hwidth
    exact Dev.slotWrite_whole init n value hwidth ▸ gives_signalWrite_own hport hdom hr hmay 0 width value
  case low =>
    intro s init n value r hport hdom hr hmay hwide
    exact Dev.slotWrite_low init n value hwide ▸ gives_signalWrite_own hport hdom hr hmay 0 32 value
  case high =>
    intro s init n value low r hport hdom hr hmay hwide hheld
    have hgives := gives_signalWrite_own hport hdom hr hmay 4 32 value
    rwa [Dev.slotWrite_high (d := s.dev.answered 0) value hwide hheld] at hgives
  case latches =>
    intro s init n width hdom hu hhart
    exact ⟨_, gives_signalRead_latches (s.dev.portOpen_hart hhart) hdom hu hhart rfl, rfl, (Map.find_set ..).trans (if_pos rfl)⟩
  case sweep =>
    intro s n r hr hlimit hfresh hforced hage hwriter hwatch
    refine ⟨_, gives_staleSweep s n, ?_⟩
    rw [Dev.judge_old hr hlimit hfresh hforced hage hwriter hwatch]
    refine ⟨?own, fun m hm => ?others, rfl, fun f i hf => ?regs⟩
    case own => exact (Dev.front_setFront ..).trans (if_pos rfl)
    case others => exact (Dev.front_setFront ..).trans (if_neg hm)
    case regs => rw [Dev.rdi_inc, if_neg (hf _ List.mem_cons_self)]; rfl

/-- Settles O24: a refused write ends in `refuseSignal`, which names it in registers and, under a number that no context bears, resets
no context, so that the store is as it was (`refuseSignal_undeclared`). -/
theorem signalWriteRefused : Obligations.SignalWriteRefused := by
  refine ⟨fun s init n off width value hport hdom hr => gives_signalWrite_undeclared hport hdom hr off width value,
    fun s init n off width value r hport hdom hr hmay => gives_signalWrite_foreign hport hdom hr hmay off width value, ?named⟩
  intro d init n b h
  obtain ⟨hcount, hsignal, hctx⟩ := d.refusalNamed_reads init n b
  exact ⟨rfl, Dev.refuseSignal_sig n b h, (Dev.refuseSignal_rd n b h (by decide)).trans hcount,
    (Dev.refuseSignal_rd n b h (by decide)).trans hsignal, (Dev.refuseSignal_rd n b h (by decide)).trans hctx⟩

end Sys2Proof.Proofs
end

section
/-! SUPPORT. The contexts' commands: the context that a hart names, the orders of a context to itself, and the end of its reset
(R206, R207, R212, R216, R217). -/

namespace Sys2Proof.Machine

theorem exec_ctxHartWrite (init h valid bind ctx : Nat) (s : State) :
    exec (.ctxHartWrite init h valid bind ctx) s = execCtxHartWrite init h valid bind ctx s := rfl
theorem exec_resetSelf (init ctx : Nat) (s : State) : exec (.resetSelf init ctx) s = execResetSelf init ctx s := rfl
theorem exec_runSelf (init ctx : Nat) (s : State) : exec (.runSelf init ctx) s = execRunSelf init ctx s := rfl
theorem exec_contextResetComplete (c : Nat) (s : State) :
    exec (.contextResetComplete c) s = execContextResetComplete c s := rfl

/-- An access to the context manager, which domain 2 powers, by an initiator that can make it (R29, R35). -/
theorem gives_onContexts {i : Instr} {s : State} {init : Nat} {f : Dev → Dev} {d : Dev}
    (he : exec i s = onBlockBy init 0x40200000 f s) (hport : s.dev.portOpen init = true) (hdom : s.dev.domainOn 2 = true)
    (h : f (s.dev.answered 0) = d) : Gives i s d :=
  h ▸ gives_onBlockBy he hport hdom

/-! ### Writes to the registers of a list -/

theorem Dev.rdi_wri_self (d : Dev) (f : Field) (i v : Nat) : (d.wri f i v).rdi f i = v % 2 ^ f.width := by
  rw [Dev.rdi_wri, if_pos rfl]

theorem Dev.rdi_ite_wri_self (d : Dev) (c : Prop) [Decidable c] (f : Field) (i v : Nat) :
    (if c then d.wri f i v else d).rdi f i = if c then v % 2 ^ f.width else d.rdi f i := by
  split
  · exact d.rdi_wri_self f i v
  · rfl

namespace Dev.onlyRegs

variable {d e : Dev} {l : List (Field × Nat)}

section
variable (h : d.onlyRegs e l)
include h

theorem ctx : e.ctx = d.ctx := (congrArg Dev.ctx h.1 :)
theorem mem : e.mem = d.mem := (congrArg Dev.mem h.1 :)
theorem access : e.access = d.access := (congrArg Dev.access h.1 :)

theorem wri {f : Field} {i : Nat} (hf : (f, i) ∈ l) (v : Nat) : d.onlyRegs (e.wri f i v) l :=
  ⟨h.1, fun g j hg => by rw [Dev.rdi_wri, if_neg (hg _ hf), h.2 g j hg]⟩

theorem wri_if (c : Prop) [Decidable c] {f : Field} {i : Nat} (hf : (f, i) ∈ l) (v : Nat) :
    d.onlyRegs (if c then e.wri f i v else e) l := by
  split
  · exact h.wri hf v
  · exact h

end

/-- An access that completes with 0 and writes some registers: what it leaves, seen from the block before it. -/
theorem of_answered (h : (d.answered 0).onlyRegs e l) :
    e.access = {} ∧ { e with regs := d.regs, access := d.access } = d ∧ d.regsBut e l :=
  ⟨h.access, congrArg (fun e : Dev => { e with access := d.access }) h.1, h.2⟩

end Dev.onlyRegs

/-! ### CTX_HART_WRITE (R206, R207) -/

/-- CTX_HARTh as a write leaves it. -/
def Dev.hartNames (d : Dev) (h valid bind ctx : Nat) : Dev :=
  ((d.wri CTX_HART_VALID h valid).wri CTX_HART_CTX h ctx).wri CTX_HART_BIND h bind

section
variable (d : Dev) (h valid bind ctx : Nat)

theorem Dev.hartNames_reads : (d.hartNames h valid bind ctx).rdi CTX_HART_VALID h = valid % 2 ∧
    (d.hartNames h valid bind ctx).rdi CTX_HART_CTX h = ctx % 2048 ∧
    (d.hartNames h valid bind ctx).rdi CTX_HART_BIND h = bind % 128 := by
  simp (disch := decide) only [Dev.hartNames, Dev.rdi_wri_ne, Dev.rdi_wri_self]
  exact ⟨rfl, rfl, rfl⟩

theorem Dev.hartNames_onlyRegs :
    d.onlyRegs (d.hartNames h valid bind ctx) [(CTX_HART_VALID, h), (CTX_HART_CTX, h), (CTX_HART_BIND, h)] :=
  (((d.onlyRegs_self _).wri (by simp) _).wri (by simp) _).wri (by simp) _

end

section
variable {s : State} {h bind ctx : Nat} (hdom : s.dev.domainOn 2 = true) (hh : h < 5)
include hdom hh

/-- An application core names a context with the context's own binding. -/
theorem gives_ctxHartWrite_bound {r : CtxRec} (hr : s.dev.ctxRec (ctx % 2048) = some r) (hbind : r.bind = bind % 128)
    (valid : Nat) : Gives (.ctxHartWrite h h valid bind ctx) s ((s.dev.answered 0).hartNames h valid (bind % 128) ctx) := by
  refine gives_onContexts (exec_ctxHartWrite ..) (s.dev.portOpen_hart (by omega)) hdom ?_
  have hr' : (s.dev.answered 0).ctxRec (ctx % 2048) = some r := hr
  simp only [ne_eq, not_true_eq_false, if_false, hh, if_true, hr', hbind, beq_self_eq_true, Bool.not_true, Bool.false_eq_true,
    and_false, Option.getD_some]
  rfl

/-- A context that the deck does not declare is bound nowhere. -/
theorem gives_ctxHartWrite_undeclared (hr : s.dev.ctxRec (ctx % 2048) = none) :
    Gives (.ctxHartWrite h h 1 bind ctx) s ((s.dev.answered 0).ctxRefuse h).faulted := by
  refine gives_onContexts (exec_ctxHartWrite ..) (s.dev.portOpen_hart (by omega)) hdom ?_
  have hr' : (s.dev.answered 0).ctxRec (ctx % 2048) = none := hr
  simp only [ne_eq, not_true_eq_false, if_false, hr', Bool.not_false, and_self, if_true]

end

/-! ### Orders of a context to itself (R212, R216) -/

theorem Dev.ownOrder_own {d : Dev} {init ctx : Nat} (hhart : init < 10) (htag : d.tag init = ctx) (hruns : d.ctxRuns ctx = true)
    (f : Dev → Dev) : d.ownOrder init ctx f = f d := if_pos ⟨hhart, htag, hruns⟩

theorem Dev.ownOrder_foreign {d : Dev} {init ctx : Nat} (htag : d.tag init ≠ ctx) (f : Dev → Dev) :
    d.ownOrder init ctx f = d.ctxRefuse init := if_neg fun h => htag h.2.1

/-- A context in RESTART is ACTIVE, and its channels accept entries from the next pick (R216). -/
def Dev.ctxActive (d : Dev) (c : Nat) : Dev :=
  { d.wri CTXN_STAT_STATE c 1 with ctx := { d.ctx with runPending := d.ctx.runPending ++ [c] } }

section
variable {s : State} {init ctx : Nat} (hdom : s.dev.domainOn 2 = true)
include hdom

theorem gives_resetSelf_own (hhart : init < 10) (htag : s.dev.tag init = ctx) (hruns : s.dev.ctxRuns ctx = true) :
    Gives (.resetSelf init ctx) s ((s.dev.answered 0).ctxReset ctx 1) :=
  gives_onContexts (exec_resetSelf ..) (s.dev.portOpen_hart hhart) hdom
    (Dev.ownOrder_own (d := s.dev.answered 0) hhart htag hruns _)

theorem gives_runSelf_own (hhart : init < 10) (htag : s.dev.tag init = ctx) (hstate : s.dev.ctxState ctx = 3) :
    Gives (.runSelf init ctx) s ((s.dev.answered 0).ctxActive ctx) := by
  have hruns : s.dev.ctxRuns ctx = true := by rw [Dev.ctxRuns, hstate]; rfl
  exact gives_onContexts (exec_runSelf ..) (s.dev.portOpen_hart hhart) hdom
    ((Dev.ownOrder_own (d := s.dev.answered 0) hhart htag hruns _).trans (if_pos hstate))

variable (hport : s.dev.portOpen init = true) (htag : s.dev.tag init ≠ ctx)
include hport htag

theorem gives_resetSelf_foreign : Gives (.resetSelf init ctx) s ((s.dev.answered 0).ctxRefuse init) :=
  gives_onContexts (exec_resetSelf ..) hport hdom (Dev.ownOrder_foreign (d := s.dev.answered 0) htag _)

theorem gives_runSelf_foreign : Gives (.runSelf init ctx) s ((s.dev.answered 0).ctxRefuse init) :=
  gives_onContexts (exec_runSelf ..) hport hdom (Dev.ownOrder_foreign (d := s.dev.answered 0) htag _)

end

/-! ### CONTEXT_RESET_COMPLETE (R216, R217) -/

/-- A reset that leads to no stop ends in RESTART: the notice, source 432 and the record follow. -/
theorem gives_contextResetComplete_restart {s : State} {c : Nat} {r : CtxRec} (hr : s.dev.ctxRec c = some r)
    (hstate : s.dev.ctxState c = 2) (hstop : s.dev.ctx.stopPending.contains c = false)
    (hthird : s.dev.ctx.atThree.contains c = false) :
    Gives (.contextResetComplete c) s
      ((((s.dev.wri CTXN_STAT_STATE c 3).notice c 0x01 0xFF ((s.dev.wri CTXN_STAT_STATE c 3).rdi CTXN_STAT_CAUSE c)).stateChanged
        c).trig 0x0335 [c]) := by
  refine gives_onDev (exec_contextResetComplete ..) ?_
  have hnostop : ¬ (s.dev.ctx.stopPending.contains c = true ∨ s.dev.ctx.atThree.contains c = true) := by
    rw [hstop, hthird]
    simp
  simp only [hr]
  exact (if_neg (not_not_intro hstate)).trans (if_neg hnostop)

end Sys2Proof.Machine
end

section
/-! SUPPORT. The devices of the contexts: bobbins, timers, doorbells and notices (R208 to R211, R223, R225 to R227, R234). -/

namespace Sys2Proof.Machine

theorem exec_bobbinWrite (q kind : Nat) (payload : List Byte) (s : State) :
    exec (.bobbinWrite q kind payload) s = execBobbinWrite q kind payload s := rfl
theorem exec_bobbinPop (init h : Nat) (s : State) : exec (.bobbinPop init h) s = execBobbinPop init h s := rfl
theorem exec_timerConfig (init k exp unit mode : Nat) (s : State) :
    exec (.timerConfig init k exp unit mode) s = execTimerConfig init k exp unit mode s := rfl
theorem exec_timerExpiry (k : Nat) (s : State) : exec (.timerExpiry k) s = execTimerExpiry k s := rfl
theorem exec_doorbellRing (init b data : Nat) (s : State) :
    exec (.doorbellRing init b data) s = execDoorbellRing init b data s := rfl
theorem exec_noticePop (init b : Nat) (s : State) : exec (.noticePop init b) s = execNoticePop init b s := rfl

/-! ### Bobbins (R208 to R211, R215) -/

/-- A bobbin that takes one record more, which says how many were discarded before it (R208). -/
def Bobbin.joined (b : Bobbin) (kind : Nat) (payload : List Byte) (stamp : Nat) : Bobbin :=
  { b with recs := b.recs ++ [⟨kind, payload, b.lost, stamp⟩], lost := 0 }

/-- A record joins its bobbin, whose registers show its units and records. -/
def Dev.bobJoin (d : Dev) (q kind : Nat) (payload : List Byte) : Dev :=
  ((d.setBob q ((d.bob q).joined kind payload d.stampNow)).wri CTX_Q_USED q (d.rdi CTX_Q_USED q + unitsFor payload.length)).wri
    CTX_Q_RECS q ((d.bob q).recs.length + 1)

/-- A record that borrows no units joins its bobbin: the units borrowed are written as they were (R209). -/
def Dev.bobStored (d : Dev) (q kind : Nat) (payload : List Byte) : Dev :=
  (d.bobJoin q kind payload).wr CTX_POOLBOR_UNITS ((d.bobJoin q kind payload).rd CTX_POOLBOR_UNITS)

section
variable (d : Dev) (q kind : Nat) (payload : List Byte)

theorem Dev.bobStored_bob (k : Nat) : (d.bobStored q kind payload).bob k =
    if k = q then (d.bob q).joined kind payload d.stampNow else d.bob k := by
  rw [Dev.bobStored, Dev.bob_wr, Dev.bobJoin, Dev.bob_wri, Dev.bob_wri, Dev.bob_setBob]

theorem Dev.bobStored_regsBut :
    d.regsBut (d.bobStored q kind payload) [(CTX_Q_USED, q), (CTX_Q_RECS, q), (CTX_POOLBOR_UNITS, 0)] :=
  ((((Dev.onlyRegs_self (d.setBob q _) _).wri (by simp) _).wri (by simp) _).wri (by simp) _).2

variable {d q} {p : CtxRec × Nat} (hq : d.queueOwner q = some p)
include hq

theorem Dev.bobPut_barred (hbarred : d.ctxBarred p.1.ctx = true) : d.bobPut q kind payload = d.bobLose q := by
  simp only [Dev.bobPut, hq, hbarred, if_true]

theorem Dev.bobPut_reserved (hruns : d.ctxBarred p.1.ctx = false) (hborrow : d.borrowFor q (unitsFor payload.length) = 0) :
    d.bobPut q kind payload = d.bobStored q kind payload := by
  have hfits : d.bobFits q (unitsFor payload.length) = true := by rw [Dev.bobFits, hborrow]; rfl
  simp only [Dev.bobPut, hq, hruns, Bool.false_eq_true, if_false, hfits, if_true, hborrow]
  rfl

end

section
variable {s : State} {q : Nat} {p : CtxRec × Nat} (hq : s.dev.queueOwner q = some p) (kind : Nat) (payload : List Byte)
include hq

theorem gives_bobbinWrite : Gives (.bobbinWrite q kind payload) s (s.dev.bobPut q kind payload) :=
  gives_onDev (exec_bobbinWrite ..) (by simp only [hq])

theorem gives_bobbinWrite_barred (hbarred : s.dev.ctxBarred p.1.ctx = true) :
    Gives (.bobbinWrite q kind payload) s (s.dev.bobLose q) :=
  Dev.bobPut_barred kind payload hq hbarred ▸ gives_bobbinWrite hq kind payload

theorem gives_bobbinWrite_reserved (hruns : s.dev.ctxBarred p.1.ctx = false)
    (hborrow : s.dev.borrowFor q (unitsFor payload.length) = 0) :
    Gives (.bobbinWrite q kind payload) s (s.dev.bobStored q kind payload) :=
  Dev.bobPut_reserved kind payload hq hruns hborrow ▸ gives_bobbinWrite hq kind payload

end

theorem gives_bobbinPop {s : State} {init h q : Nat} (hport : s.dev.portOpen init = true) (hdom : s.dev.domainOn 2 = true)
    (hruns : s.dev.ctxBarred (s.dev.tag init) = false) (hq : s.dev.hartQueue h = some q) :
    Gives (.bobbinPop init h) s ((s.dev.answered 0).bobPop q) := by
  refine gives_onContexts (exec_bobbinPop ..) hport hdom ((if_neg (ne_true_of_eq_false hruns)).trans ?_)
  have hq' : (s.dev.answered 0).hartQueue h = some q := hq
  simp only [hq']

/-! ### Timers (R225, R226) -/

/-- CTX_TMRCFGk as a write leaves it: a 1 in EXP clears it. -/
def Dev.timerSet (d : Dev) (k exp unit mode : Nat) : Dev :=
  ((if exp = 1 then d.wri CTX_TMRCFG_EXP k 0 else d).wri CTX_TMRCFG_UNIT k unit).wri CTX_TMRCFG_MODE k mode

/-- Timer k holds no count. -/
def Dev.timerStop (d : Dev) (k : Nat) : Dev :=
  { d with ctx := { d.ctx with timerRunning := d.ctx.timerRunning.erase k } }

/-- Timer k stands at zero, with EXP set. -/
def Dev.timerRunOut (d : Dev) (k : Nat) : Dev := ((d.wri CTX_TMRCNT_CNT k 0).wri CTX_TMRCFG_EXP k 1).timerStop k

section
variable (d : Dev) (k exp unit mode : Nat)

theorem Dev.timerSet_reads :
    (d.timerSet k exp unit mode).rdi CTX_TMRCFG_EXP k = (if exp = 1 then 0 else d.rdi CTX_TMRCFG_EXP k) ∧
    (d.timerSet k exp unit mode).rdi CTX_TMRCFG_UNIT k = unit % 2 ∧
    (d.timerSet k exp unit mode).rdi CTX_TMRCFG_MODE k = mode % 4 := by
  simp (disch := decide) only [Dev.timerSet, Dev.rdi_wri_ne, Dev.rdi_wri_self]
  exact ⟨Dev.rdi_ite_wri_self .., rfl, rfl⟩

theorem Dev.timerSet_onlyRegs :
    d.onlyRegs (d.timerSet k exp unit mode) [(CTX_TMRCFG_EXP, k), (CTX_TMRCFG_UNIT, k), (CTX_TMRCFG_MODE, k)] :=
  (((d.onlyRegs_self _).wri_if (exp = 1) (by simp) 0).wri (by simp) _).wri (by simp) _

theorem Dev.timerRunOut_reads : (d.timerRunOut k).rdi CTX_TMRCNT_CNT k = 0 ∧ (d.timerRunOut k).rdi CTX_TMRCFG_EXP k = 1 :=
  ⟨((d.wri CTX_TMRCNT_CNT k 0).rdi_wri_ne (f := CTX_TMRCFG_EXP) (g := CTX_TMRCNT_CNT) rfl rfl rfl (by decide) k 1).trans
    (Dev.rdi_wri_self ..), Dev.rdi_wri_self ..⟩

theorem Dev.timerRunOut_regsBut : d.regsBut (d.timerRunOut k) [(CTX_TMRCNT_CNT, k), (CTX_TMRCFG_EXP, k)] :=
  (((d.onlyRegs_self _).wri (f := CTX_TMRCNT_CNT) (by simp) 0).wri (f := CTX_TMRCFG_EXP) (by simp) 1).2

/-- A timer that is not periodic does not reload. -/
theorem Dev.timerExpire_once (hmode : d.rdi CTX_TMRCFG_MODE k ≠ 2) : d.timerExpire k = d.timerRunOut k := by
  have hsame : ((d.wri CTX_TMRCNT_CNT k 0).wri CTX_TMRCFG_EXP k 1).rdi CTX_TMRCFG_MODE k = d.rdi CTX_TMRCFG_MODE k := by
    simp (disch := decide) only [Dev.rdi_wri_ne]
  exact if_neg fun h => hmode (hsame.symm.trans h)

end

/-- The context to which the timer's source is routed starts it in mode 1 or 2, and stops it otherwise. -/
theorem gives_timerConfig {s : State} {init k : Nat} (hport : s.dev.portOpen init = true) (hdom : s.dev.domainOn 2 = true)
    (hroute : s.dev.routedTo init (436 + k) = true) (exp unit mode : Nat) :
    Gives (.timerConfig init k exp unit mode) s (
      if mode = 1 ∨ mode = 2 then ((s.dev.answered 0).timerSet k exp unit mode).timerLoad k
      else ((s.dev.answered 0).timerSet k exp unit mode).timerStop k) :=
  gives_onContexts (exec_timerConfig ..) hport hdom (if_pos hroute)

theorem gives_timerExpiry_once {s : State} {k : Nat} (hrun : s.dev.ctx.timerRunning.find k = some 0)
    (hmode : s.dev.rdi CTX_TMRCFG_MODE k ≠ 2) : Gives (.timerExpiry k) s (s.dev.timerRunOut k) :=
  gives_onDev (exec_timerExpiry ..) ((if_pos hrun).trans (s.dev.timerExpire_once k hmode))

/-! ### Doorbells (R227) -/

/-- A ring: OVR where one is pending, who rang and with what, and PEND. -/
def Dev.rung (d : Dev) (b ctx data : Nat) : Dev :=
  (((if d.flagi CTX_DBSTAT_PEND b then d.wri CTX_DBSTAT_OVR b 1 else d).wri CTX_DBSTAT_FROM b ctx).wri CTX_DBSTAT_DATA b data).wri
    CTX_DBSTAT_PEND b 1

section
variable (d : Dev) (b ctx data : Nat)

theorem Dev.rung_reads : (d.rung b ctx data).rdi CTX_DBSTAT_PEND b = 1 ∧ (d.rung b ctx data).rdi CTX_DBSTAT_FROM b = ctx % 2048 ∧
    (d.rung b ctx data).rdi CTX_DBSTAT_DATA b = data % 2 ^ 16 ∧
    (d.rung b ctx data).rdi CTX_DBSTAT_OVR b = (if d.flagi CTX_DBSTAT_PEND b then 1 else d.rdi CTX_DBSTAT_OVR b) := by
  simp (disch := decide) only [Dev.rung, Dev.rdi_wri_ne, Dev.rdi_wri_self]
  exact ⟨rfl, rfl, rfl, Dev.rdi_ite_wri_self ..⟩

theorem Dev.rung_onlyRegs : d.onlyRegs (d.rung b ctx data)
    [(CTX_DBSTAT_PEND, b), (CTX_DBSTAT_FROM, b), (CTX_DBSTAT_DATA, b), (CTX_DBSTAT_OVR, b)] :=
  ((((d.onlyRegs_self _).wri_if _ (by simp) 1).wri (by simp) _).wri (by simp) _).wri (by simp) _

/-- OVR lies apart from the registers that say which context a hart runs. -/
theorem Dev.tag_wri_ovr (init v : Nat) : (d.wri CTX_DBSTAT_OVR b v).tag init = d.tag init := by
  have hhalted : DBG_STAT_HALTED.key 0 ≠ CTX_DBSTAT_OVR.key b := by
    simp only [Field.key, Field.addr, DBG_STAT_HALTED, CTX_DBSTAT_OVR]
    omega
  have hvalid : CTX_HART_VALID.key init ≠ CTX_DBSTAT_OVR.key b := by
    simp only [Field.key, Field.addr, CTX_HART_VALID, CTX_DBSTAT_OVR]
    omega
  have hctx : CTX_HART_CTX.key init ≠ CTX_DBSTAT_OVR.key b := by
    simp only [Field.key, Field.addr, CTX_HART_CTX, CTX_DBSTAT_OVR]
    omega
  simp only [Dev.tag, Dev.bit, Dev.flagi, Dev.rdi_wri, if_neg hhalted, if_neg hvalid, if_neg hctx]
  rfl

end

theorem gives_doorbellRing {s : State} {init : Nat} (hdom : s.dev.domainOn 2 = true) (hhart : init < 10)
    (hruns : s.dev.ctxRuns (s.dev.tag init) = true) (b data : Nat) :
    Gives (.doorbellRing init b data) s ((s.dev.answered 0).rung b (s.dev.tag init) data) := by
  refine gives_onContexts (exec_doorbellRing ..) (s.dev.portOpen_hart hhart) hdom ((if_pos ⟨hhart, hruns⟩).trans ?_)
  have htag : (if (s.dev.answered 0).flagi CTX_DBSTAT_PEND b then (s.dev.answered 0).wri CTX_DBSTAT_OVR b 1
      else s.dev.answered 0).tag init = s.dev.tag init := by
    split
    · exact Dev.tag_wri_ovr _ b init 1
    · rfl
  simp only [htag]
  rfl

/-! ### Notices (R223, R234) -/

/-- The head notice of a binding leaves its queue. -/
def Dev.noticeDrop (d : Dev) (b : Nat) : Dev :=
  { d with ctx := { d.ctx with notices := d.ctx.notices.set b ((d.ctx.notices.get b []).drop 1) } }

theorem Dev.noticeShow_onlyRegs (d : Dev) (b : Nat) :
    d.onlyRegs (d.noticeShow b) [(CTX_NQSTAT_COUNT, b), (CTX_NQLO_BYTES, b), (CTX_NQHI_BYTES, b)] := by
  rw [Dev.noticeShow]
  split <;> exact (((d.onlyRegs_self _).wri (by simp) _).wri (by simp) _).wri (by simp) _

/-- A hart of the binding reads DETAIL of the head notice, and the next one shows. -/
theorem gives_noticePop {s : State} {init b : Nat} (hport : s.dev.portOpen init = true) (hdom : s.dev.domainOn 2 = true)
    (hbind : s.dev.hartBind init = some b) (hdeclared : s.dev.undeclared (s.dev.tag init) = false) :
    Gives (.noticePop init b) s (((s.dev.answered (s.dev.rdi CTX_NQHI_BYTES b)).noticeDrop b).noticeShow b) := by
  have hdeclared' : (!(s.dev.answered 0).undeclared ((s.dev.answered 0).tag init)) = true := congrArg not hdeclared
  exact gives_onContexts (exec_noticePop ..) hport hdom (if_pos ⟨hbind, hdeclared'⟩)

end Sys2Proof.Machine
end

section
/-! CERTIFICATES. The statements of the function contexts family that are settled. -/

namespace Sys2Proof.Proofs
open Sys2Proof.Machine

/-- Settles O27: each clause is the branch of a command that its hypotheses choose; a write to CTX_HARTh leaves that register alone
changed, whatever the state of the context that the hart names before it (log entry 23). -/
theorem contextOrders : Obligations.ContextOrders := by
  refine ⟨?names, fun s h bind ctx hdom hh hr => gives_ctxHartWrite_undeclared hdom hh hr,
    fun s init ctx hdom => gives_resetSelf_own hdom, ?run, fun s c r => gives_contextResetComplete_restart,
    fun s init ctx hport hdom htag => ⟨gives_resetSelf_foreign hdom hport htag, gives_runSelf_foreign hdom hport htag⟩⟩
  case names =>
    intro s h valid bind ctx r hdom hh hr hbind
    obtain ⟨hvalid, hctx, hread⟩ := (s.dev.answered 0).hartNames_reads h valid (bind % 128) ctx
    obtain ⟨haccess, hrest, hregs⟩ := ((s.dev.answered 0).hartNames_onlyRegs h valid (bind % 128) ctx).of_answered
    exact ⟨_, gives_ctxHartWrite_bound hdom hh hr hbind valid, hvalid, hctx, hread.trans (Nat.mod_mod ..), haccess, hrest, hregs⟩
  case run =>
    intro s init ctx hdom hhart htag hstate
    exact ⟨_, gives_runSelf_own hdom hhart htag hstate, Dev.rdi_wri_self .., rfl, rfl, rfl,
      ((s.dev.answered 0).onlyRegs_wri CTXN_STAT_STATE ctx 1).2⟩

/-- Settles O28: a record within the reserved units joins its bobbin (`bobPut_reserved`); a write, an expiry, a ring and a pop change
the registers of one timer, doorbell or notice queue alone. -/
theorem contextDevices : Obligations.ContextDevices := by
  refine ⟨?stored, fun s q kind payload p hq => gives_bobbinWrite_barred hq kind payload,
    fun s init h q => gives_bobbinPop, ?stops, ?loads, ?expires, ?rings, ?pops⟩
  case stored =>
    intro s q kind payload p hq hruns hborrow
    have hbob := s.dev.bobStored_bob q kind payload
    have hown : (s.dev.bobStored q kind payload).bob q = (s.dev.bob q).joined kind payload s.dev.stampNow :=
      (hbob q).trans (if_pos rfl)
    exact ⟨_, gives_bobbinWrite_reserved hq kind payload hruns hborrow, by rw [hown]; rfl, by rw [hown]; rfl, by rw [hown]; rfl,
      fun k hk => (hbob k).trans (if_neg hk), rfl, s.dev.bobStored_regsBut q kind payload⟩
  case stops =>
    intro s init k exp unit mode hport hdom hroute hk hone htwo
    have hgives := gives_timerConfig hport hdom hroute exp unit mode
    rw [if_neg (not_or.mpr ⟨hone, htwo⟩)] at hgives
    obtain ⟨hexp, hunit, hmode⟩ := (s.dev.answered 0).timerSet_reads k exp unit mode
    have hset := (s.dev.answered 0).timerSet_onlyRegs k exp unit mode
    have hctx := congrArg (fun c : CtxState => { c with timerRunning := c.timerRunning.erase k }) hset.ctx
    obtain ⟨hrest, hregs⟩ := hset
    exact ⟨_, hgives, hexp, hunit, hmode, hctx,
      congrArg (fun d : Dev => { d with ctx := s.dev.ctx, access := s.dev.access }) hrest, hregs⟩
  case loads =>
    intro s init k unit mode hport hdom hroute hmode
    have hgives := gives_timerConfig hport hdom hroute 0 unit mode
    rwa [if_pos hmode] at hgives
  case expires =>
    intro s k hrun hk hmode
    obtain ⟨hcnt, hexp⟩ := s.dev.timerRunOut_reads k
    exact ⟨_, gives_timerExpiry_once hrun hmode, hcnt, hexp, rfl, rfl, s.dev.timerRunOut_regsBut k⟩
  case rings =>
    intro s init b data hdom hhart hruns hb
    obtain ⟨hpend, hfrom, hdata, hovr⟩ := (s.dev.answered 0).rung_reads b (s.dev.tag init) data
    obtain ⟨-, hrest, hregs⟩ := ((s.dev.answered 0).rung_onlyRegs b (s.dev.tag init) data).of_answered
    exact ⟨_, gives_doorbellRing hdom hhart hruns b data, hpend, hfrom, hdata, hovr, hrest, hregs⟩
  case pops =>
    intro s init b hport hdom hbind hdeclared
    have hshow := ((s.dev.answered (s.dev.rdi CTX_NQHI_BYTES b)).noticeDrop b).noticeShow_onlyRegs b
    exact ⟨_, gives_noticePop hport hdom hbind hdeclared, hshow.access, hshow.ctx, hshow.mem, hshow.2⟩

end Sys2Proof.Proofs
end

section
/-! SUPPORT. Changes of single load channels: where the registers of channels and banks lie, blocks that differ in some channels
alone, what a fold over the channels of a group leaves of each, and what a keeper's record leaves alone (R292, R329, R335). -/

namespace Sys2Proof.Machine

/-! ### Where the registers of channels and banks lie (R289, R333) -/

/-- A field of a load channel's registers. -/
abbrev Field.ofChannel (f : Field) : Prop :=
  f.group = 16 ∧ f.stride = 0x80 ∧ f.gstride = 0x10000 ∧ 0x40301000 ≤ f.base ∧ f.base < 0x40301080 ∧ f.lsb < 32

/-- A field of a power bank's registers. -/
abbrev Field.ofBank (f : Field) : Prop :=
  f.group = 4 ∧ f.stride = 0x10000 ∧ f.gstride = 0 ∧ 0x40300000 ≤ f.base ∧ f.base < 0x40301000 ∧ f.lsb < 32

/-- The bit of the block at which a field first begins. -/
def Field.place (f : Field) : Nat := f.base * 32 + f.lsb

/-- A channel's field that is none of some channel's fields. -/
abbrev Field.beside (g : Field) (fs : List Field) : Prop := g.ofChannel ∧ ∀ f ∈ fs, f.ofChannel ∧ g.place ≠ f.place

namespace Field

variable {f g : Field}

theorem key_of_channel (hf : f.ofChannel) (m : Nat) : f.key m = (f.base + m / 16 * 0x10000 + m % 16 * 0x80) * 32 + f.lsb := by
  obtain ⟨hgroup, hstride, hgstride, -⟩ := hf
  rw [key, addr, hgroup, hstride, hgstride]

theorem key_of_bank (hf : f.ofBank) (b : Nat) : f.key b = (f.base + b % 4 * 0x10000) * 32 + f.lsb := by
  obtain ⟨hgroup, hstride, hgstride, -⟩ := hf
  rw [key, addr, hgroup, hstride, hgstride, Nat.mul_zero, Nat.add_zero]

theorem key_ne_of_channel_ne (hf : f.ofChannel) (hg : g.ofChannel) {k m : Nat} (h : k ≠ m) : g.key k ≠ f.key m := by
  rw [key_of_channel hf, key_of_channel hg]
  obtain ⟨-, -, -, hflo, hfhi, hfb⟩ := hf
  obtain ⟨-, -, -, hglo, hghi, hgb⟩ := hg
  omega

theorem key_ne_of_place_ne (hf : f.ofChannel) (hg : g.ofChannel) (h : g.place ≠ f.place) (k m : Nat) : g.key k ≠ f.key m := by
  obtain rfl | hkm := eq_or_ne k m
  · rw [key_of_channel hf, key_of_channel hg]
    unfold place at h
    omega
  · exact key_ne_of_channel_ne hf hg hkm

theorem key_channel_ne_bank (hf : f.ofChannel) (hg : g.ofBank) (m b : Nat) : f.key m ≠ g.key b := by
  rw [key_of_channel hf, key_of_bank hg]
  obtain ⟨-, -, -, hflo, hfhi, hfb⟩ := hf
  obtain ⟨-, -, -, hglo, hghi, hgb⟩ := hg
  omega

theorem key_bank_ne_of_place_ne (hf : f.ofBank) (hg : g.ofBank) (h : g.place ≠ f.place) (b c : Nat) : g.key b ≠ f.key c := by
  rw [key_of_bank hf, key_of_bank hg]
  obtain ⟨-, -, -, hflo, hfhi, hfb⟩ := hf
  obtain ⟨-, -, -, hglo, hghi, hgb⟩ := hg
  unfold place at h
  omega

theorem key_bank_lt (hf : f.ofBank) (b : Nat) : f.key b < 0x40900000 * 32 := by
  rw [key_of_bank hf]
  obtain ⟨-, -, -, -, hfhi, hfb⟩ := hf
  omega

end Field

theorem Dev.rdi_wri_beside (d : Dev) {f g : Field} (h : g.beside [f]) (k m v : Nat) : (d.wri f m v).rdi g k = d.rdi g k := by
  obtain ⟨hg, hf⟩ := h
  obtain ⟨hf, hne⟩ := hf f List.mem_cons_self
  rw [Dev.rdi_wri, if_neg (Field.key_ne_of_place_ne hf hg hne k m)]

theorem Dev.rdi_inci_beside (d : Dev) {f g : Field} (h : g.beside [f]) (k m : Nat) : (d.inci f m).rdi g k = d.rdi g k :=
  d.rdi_wri_beside h k m _

namespace Dev.regsBut

variable {d e : Dev} {l : List (Field × Nat)}

theorem refl (d : Dev) (l : List (Field × Nat)) : d.regsBut d l := fun _ _ _ => rfl

theorem wri (h : d.regsBut e l) {f : Field} {i : Nat} (hf : (f, i) ∈ l) (v : Nat) : d.regsBut (e.wri f i v) l :=
  fun g j hg => by rw [Dev.rdi_wri, if_neg (hg _ hf), h g j hg]

theorem setCh (h : d.regsBut e l) (m : Nat) (x : ChanState) : d.regsBut (e.setCh m x) l := h

end Dev.regsBut

theorem Dev.ch_setCh_self (d : Dev) (m : Nat) (x : ChanState) : (d.setCh m x).ch m = x := by rw [Dev.ch_setCh, if_pos rfl]

/-! ### Blocks that differ in some channels alone -/

/-- From `d` to `e` only the channels `ms` change: their own state, and the fields `fs` of their registers. -/
def Dev.onlyChans (d e : Dev) (ms : List Nat) (fs : List Field) : Prop :=
  { e with regs := d.regs, chan := d.chan } = d ∧ (∀ k, k ∉ ms → e.ch k = d.ch k) ∧
    ∀ g j, (∀ f ∈ fs, ∀ k ∈ ms, g.key j ≠ f.key k) → e.rdi g j = d.rdi g j

/-- Channel `k` is the same in `d` and `e`: its own state and all of its registers. -/
def Dev.sameChan (d e : Dev) (k : Nat) : Prop := e.ch k = d.ch k ∧ ∀ g : Field, g.ofChannel → e.rdi g k = d.rdi g k

namespace Dev.onlyChans

variable {d e c : Dev} {ms ns : List Nat} {fs gs : List Field}

theorem refl (d : Dev) (ms : List Nat) (fs : List Field) : d.onlyChans d ms fs := ⟨rfl, fun _ _ => rfl, fun _ _ _ => rfl⟩

section
variable (h : d.onlyChans e ms fs)
include h

theorem wri {f : Field} {m : Nat} (hf : f ∈ fs) (hm : m ∈ ms) (v : Nat) : d.onlyChans (e.wri f m v) ms fs := by
  obtain ⟨hrest, hch, hregs⟩ := h
  exact ⟨hrest, hch, fun g j hg => by rw [Dev.rdi_wri, if_neg (hg f hf m hm), hregs g j hg]⟩

theorem setCh {m : Nat} (hm : m ∈ ms) (x : ChanState) : d.onlyChans (e.setCh m x) ms fs := by
  obtain ⟨hrest, hch, hregs⟩ := h
  exact ⟨hrest, fun k hk => by rw [Dev.ch_setCh, if_neg (ne_of_mem_of_not_mem hm hk).symm, hch k hk], hregs⟩

/-- Another change follows, of channels and fields that are among these. -/
theorem step (h' : e.onlyChans c ns gs) (hns : ∀ k ∈ ns, k ∈ ms) (hgs : ∀ g ∈ gs, g ∈ fs) : d.onlyChans c ms fs := by
  obtain ⟨hrest, hch, hregs⟩ := h
  obtain ⟨hrest', hch', hregs'⟩ := h'
  refine ⟨?_, fun k hk => ?_, fun g j hg => ?_⟩
  · rw [← hrest, ← hrest']
  · rw [hch' k fun hn => hk (hns k hn), hch k hk]
  · rw [hregs' g j fun f hf k hk => hg f (hgs f hf) k (hns k hk), hregs g j hg]

/-- A field of another register keeps its value on every channel. -/
theorem rdi {g : Field} (hg : g.beside fs) (k : Nat) : e.rdi g k = d.rdi g k := by
  obtain ⟨-, -, hregs⟩ := h
  obtain ⟨hg, hfs⟩ := hg
  exact hregs g k fun f hf m _ => Field.key_ne_of_place_ne (hfs f hf).1 hg (hfs f hf).2 k m

theorem rdi_bank {g : Field} (hg : g.ofBank) (hfs : ∀ f ∈ fs, f.ofChannel) (b : Nat) : e.rdi g b = d.rdi g b := by
  obtain ⟨-, -, hregs⟩ := h
  exact hregs g b fun f hf m _ => (Field.key_channel_ne_bank (hfs f hf) hg m b).symm

/-- A channel that is not among them stays the same. -/
theorem same {k : Nat} (hk : k ∉ ms) (hfs : ∀ f ∈ fs, f.ofChannel) : d.sameChan e k := by
  obtain ⟨-, hch, hregs⟩ := h
  exact ⟨hch k hk, fun g hg => hregs g k fun f hf m hm =>
    Field.key_ne_of_channel_ne (hfs f hf) hg (ne_of_mem_of_not_mem hm hk).symm⟩

end

/-- Steps that change one channel each, one after another. -/
theorem each {f : Dev → Nat → Dev} (hf : ∀ (e : Dev) (m : Nat), e.onlyChans (f e m) [m] fs) (d : Dev) (ms : List Nat) :
    d.onlyChans (d.each ms f) ms fs := by
  suffices hsub : ∀ (l : List Nat) (e : Dev), (∀ k ∈ l, k ∈ ms) → d.onlyChans e ms fs → d.onlyChans (e.each l f) ms fs from
    hsub ms d (fun _ h => h) (refl d ms fs)
  intro l
  induction l with
  | nil => exact fun _ _ h => h
  | cons x l ih =>
    intro e hl h
    refine ih _ (fun k hk => hl k (List.mem_cons_of_mem x hk)) (h.step (hf e x) (fun k hk => ?_) fun _ h => h)
    rw [List.mem_singleton.mp hk]
    exact hl x List.mem_cons_self

end Dev.onlyChans

namespace Dev.sameChan

variable {d e c : Dev} {k : Nat}

theorem refl (d : Dev) (k : Nat) : d.sameChan d k := ⟨rfl, fun _ _ => rfl⟩

theorem trans (h : d.sameChan e k) (h' : e.sameChan c k) : d.sameChan c k :=
  ⟨h'.1.trans h.1, fun g hg => (h'.2 g hg).trans (h.2 g hg)⟩

theorem wri_bank (d : Dev) {f : Field} (hf : f.ofBank) (b v k : Nat) : d.sameChan (d.wri f b v) k :=
  ⟨rfl, fun g hg => by rw [Dev.rdi_wri, if_neg (Field.key_channel_ne_bank hg hf k b)]⟩

theorem of_each {α : Type} {f : Dev → α → Dev} (k : Nat) {l : List α}
    (hf : ∀ (e : Dev) (x : α), x ∈ l → e.sameChan (f e x) k) (d : Dev) : d.sameChan (d.each l f) k := by
  induction l generalizing d with
  | nil => exact refl d k
  | cons x l ih =>
    exact (hf d x List.mem_cons_self).trans (ih (fun e y hy => hf e y (List.mem_cons_of_mem x hy)) (f d x))

/-- What a fold over channels leaves of one of them is what the step at that channel leaves, from a block that shows it as the
block before the fold did. -/
theorem each_at {f : Dev → Nat → Dev} (hf : ∀ (e : Dev) (j k : Nat), k ≠ j → e.sameChan (f e j) k) {ms : List Nat}
    (hms : ms.Nodup) {k : Nat} (hk : k ∈ ms) (d : Dev) : ∃ e, d.sameChan e k ∧ (f e k).sameChan (d.each ms f) k := by
  obtain ⟨l, r, rfl⟩ := List.append_of_mem hk
  have hnot : k ∉ l ∧ k ∉ r := by
    rw [List.nodup_middle, List.nodup_cons, List.mem_append] at hms
    exact not_or.mp hms.1
  refine ⟨d.each l f, of_each k (fun e x hx => hf e x k (ne_of_mem_of_not_mem hx hnot.1).symm) d, ?_⟩
  have hfold : d.each (l ++ k :: r) f = (f (d.each l f) k).each r f := List.foldl_append
  rw [hfold]
  exact of_each k (fun e x hx => hf e x k (ne_of_mem_of_not_mem hx hnot.2).symm) _

theorem chState (h : d.sameChan e k) : e.chState k = d.chState k := h.2 CH_STAT_STATE (by decide)

end Dev.sameChan

/-- The same of steps that change one channel each. -/
theorem Dev.onlyChans.each_at {fs : List Field} {f : Dev → Nat → Dev} (hf : ∀ (e : Dev) (m : Nat), e.onlyChans (f e m) [m] fs)
    (hfs : ∀ f ∈ fs, f.ofChannel) {ms : List Nat} (hms : ms.Nodup) {k : Nat} (hk : k ∈ ms) (d : Dev) :
    ∃ e, d.sameChan e k ∧ (f e k).sameChan (d.each ms f) k :=
  Dev.sameChan.each_at (fun e j _ hkj => (hf e j).same (List.mem_singleton.not.mpr hkj) hfs) hms hk d

/-- A field that no step of a fold writes. -/
theorem Dev.rdi_each {α : Type} {f : Dev → α → Dev} {g : Field} {j : Nat} (hf : ∀ (e : Dev) (x : α), (f e x).rdi g j = e.rdi g j)
    (l : List α) (d : Dev) : (d.each l f).rdi g j = d.rdi g j := by
  induction l generalizing d with
  | nil => rfl
  | cons x l ih => exact (ih (f d x)).trans (hf d x)

/-! ### The channels of a bank and of a group -/

theorem bankChans_nodup (b : Nat) : (bankChans b).Nodup :=
  List.nodup_range.map fun _ _ h => Nat.add_left_cancel h

theorem mem_bankChans {m : Nat} : m ∈ bankChans (bankOf m) :=
  List.mem_map.mpr ⟨m % 16, List.mem_range.mpr (Nat.mod_lt m (by decide)), by unfold bankOf; omega⟩

theorem Dev.chMembers_nodup (d : Dev) (l : Nat) : (d.chMembers l).Nodup := (bankChans_nodup _).filter _

theorem Dev.chMembers_congr {d e : Dev} (h : ∀ k, e.rdi CH_CFG_LEAD k = d.rdi CH_CFG_LEAD k) (l : Nat) :
    e.chMembers l = d.chMembers l := by
  simp only [Dev.chMembers, Dev.chLead, h]

/-! ### The records of a keeper (R329) -/

/-- The fields that a trigger of the recorder can write. -/
def triggerFields : List Field :=
  [REC_STAT_STAGED, REC_CNT_LOST, REC_EVT_LOST, REC_CNT_SUPP, REC_EVT_SUPP, REC_DBKT_TOKENS, REC_DBKT_SUPPCNT,
    REC_BKT_STATE_TOKENS, REC_BKT_STATE_SUPPCNT]

section
variable {g : Field} {j : Nat} (hg : ∀ f ∈ triggerFields, ∀ i, g.key j ≠ f.key i)
include hg

theorem Dev.rdi_wri_trigger (d : Dev) {f : Field} (hf : f ∈ triggerFields) (i v : Nat) : (d.wri f i v).rdi g j = d.rdi g j := by
  rw [Dev.rdi_wri, if_neg (hg f hf i)]

theorem Dev.rdi_setSuppCnt (d : Dev) (code n : Nat) : (d.setSuppCnt code n).rdi g j = d.rdi g j := by
  unfold Dev.setSuppCnt
  split <;> exact Dev.rdi_wri_trigger hg d (by simp [triggerFields]) _ _

theorem Dev.rdi_setTokens (d : Dev) (code n : Nat) : (d.setTokens code n).rdi g j = d.rdi g j := by
  unfold Dev.setTokens
  split <;> exact Dev.rdi_wri_trigger hg d (by simp [triggerFields]) _ _

theorem Dev.rdi_stage (d : Dev) (r : Staged) : (d.stage r).rdi g j = d.rdi g j := by
  unfold Dev.stage
  split
  · exact Dev.rdi_wri_trigger hg _ (f := REC_STAT_STAGED) (by simp [triggerFields]) _ _
  · exact (Dev.rdi_wri_trigger hg _ (f := REC_EVT_LOST) (by simp [triggerFields]) _ _).trans
      (Dev.rdi_wri_trigger hg _ (f := REC_CNT_LOST) (by simp [triggerFields]) _ _)

theorem Dev.rdi_accept (d : Dev) (code : Nat) (args : List Nat) (flags optime : Nat) :
    (d.accept code args flags optime).rdi g j = d.rdi g j := by
  rw [Dev.accept, Dev.rdi_stage hg, Dev.rdi_setSuppCnt hg]

theorem Dev.rdi_trig (d : Dev) (code : Nat) (args : List Nat) : (d.trig code args).rdi g j = d.rdi g j := by
  unfold Dev.trig Dev.trigWith
  split
  · split
    · exact (Dev.rdi_wri_trigger hg _ (f := REC_EVT_SUPP) (by simp [triggerFields]) _ _).trans
        ((Dev.rdi_wri_trigger hg _ (f := REC_CNT_SUPP) (by simp [triggerFields]) _ _).trans (Dev.rdi_setSuppCnt hg d _ _))
    · rw [Dev.rdi_accept hg, Dev.rdi_setTokens hg]
  · exact Dev.rdi_accept hg d _ _ _ _

end

/-- The recorder's registers that a trigger writes lie apart from those of every channel, of whatever number: the statements speak
of channels beyond the 64, whose registers would lie in the recorder's block. -/
theorem Field.key_channel_ne_trigger {g : Field} (hg : g.ofChannel) (k : Nat) : ∀ f ∈ triggerFields, ∀ i, g.key k ≠ f.key i := by
  intro f hf i hkey
  have htrigger : f.key i / 32 % 0x10000 < 0x1000 ∨ 0x2000 ≤ f.key i / 32 % 0x10000 := by
    simp only [triggerFields, List.mem_cons, List.not_mem_nil, or_false] at hf
    rcases hf with rfl | rfl | rfl | rfl | rfl | rfl | rfl | rfl | rfl <;>
      · simp only [key, addr, REC_STAT_STAGED, REC_CNT_LOST, REC_EVT_LOST, REC_CNT_SUPP, REC_EVT_SUPP, REC_DBKT_TOKENS,
          REC_DBKT_SUPPCNT, REC_BKT_STATE_TOKENS, REC_BKT_STATE_SUPPCNT]
        omega
  rw [← hkey, key_of_channel hg] at htrigger
  obtain ⟨-, -, -, hglo, hghi, hgb⟩ := hg
  omega

theorem Dev.trig_sameChan (d : Dev) (code : Nat) (args : List Nat) (k : Nat) : d.sameChan (d.trig code args) k :=
  ⟨by rw [Dev.ch, Dev.trig_chan, Dev.ch], fun _ hg => Dev.rdi_trig (Field.key_channel_ne_trigger hg k) d code args⟩

/-- A keeper's record joins its log, is lost to the full log, or is written by the recorder. -/
theorem Dev.bankRec_cases (d : Dev) (b code : Nat) (args : List Nat) : (∃ x, d.bankRec b code args = d.setBk b x) ∨
    d.bankRec b code args = d.inci BANK_LINKERR_LOGLOST b ∨ d.bankRec b code args = d.trig code args := by
  dsimp only [Dev.bankRec]
  split
  · split
    · exact .inl ⟨_, rfl⟩
    · exact .inr (.inl rfl)
  · exact .inr (.inr rfl)

theorem Dev.bankRec_sameChan (d : Dev) (b code : Nat) (args : List Nat) (k : Nat) : d.sameChan (d.bankRec b code args) k := by
  obtain ⟨x, h⟩ | h | h := d.bankRec_cases b code args
  · rw [h]; exact .refl d k
  · rw [h]; exact .wri_bank d (f := BANK_LINKERR_LOGLOST) (by decide) _ _ k
  · rw [h]; exact d.trig_sameChan code args k

/-- Of the registers of a bank, a keeper's record writes the count of lost events alone. -/
theorem Dev.bankRec_rdi_bank (d : Dev) {g : Field} (hg : g.ofBank) (hne : g.place ≠ BANK_LINKERR_LOGLOST.place) (b code : Nat)
    (args : List Nat) (c : Nat) : (d.bankRec b code args).rdi g c = d.rdi g c := by
  obtain ⟨x, h⟩ | h | h := d.bankRec_cases b code args
  · rw [h]; rfl
  · rw [h]; exact (Dev.rdi_wri ..).trans (if_neg (Field.key_bank_ne_of_place_ne (by decide) hg hne c b))
  · rw [h]; exact d.trig_rdi code args g c (.inl (Field.key_bank_lt hg c))

/-! ### Commands that change nothing -/

theorem Dev.announce_self (d : Dev) : d.announce d = d := by
  have hnone : ((List.range 580).filter fun s => d.sourceToVm s && d.asserted s && !d.asserted s) = [] :=
    List.filter_eq_nil_iff.mpr fun s _ => by cases d.asserted s <;> simp
  rw [Dev.announce, hnone, List.map_nil, List.append_nil, ite_self]

theorem exec_of_gives_same {c : Instr} {s : State} (h : Gives c s s.dev) : exec c s = .next s := by
  rw [h, Dev.announce_self]

end Sys2Proof.Machine
end

section
/-! SUPPORT. The output of one load channel: its PWM periods, turning on and off, and what each of these operations leaves of the
channel and of the others (R249 to R253, R257, R258). -/

namespace Sys2Proof.Machine

/-- The setting that waits for a period start takes effect (R249). -/
def Dev.pwmTaken (d : Dev) (m : Nat) : Dev :=
  match (d.ch m).pwmNext with
  | some p => (d.wri CH_CMD_DUTY m p.1).wri CH_PWMPER_PERIOD m p.2
  | none => d

section
variable (d : Dev) (m : Nat)

theorem Dev.pwmTaken_none (h : (d.ch m).pwmNext = none) : d.pwmTaken m = d := by rw [Dev.pwmTaken, h]

theorem Dev.pwmTaken_some {p : Nat × Nat} (h : (d.ch m).pwmNext = some p) :
    d.pwmTaken m = (d.wri CH_CMD_DUTY m p.1).wri CH_PWMPER_PERIOD m p.2 := by rw [Dev.pwmTaken, h]

theorem Dev.pwmTaken_only : d.onlyChans (d.pwmTaken m) [m] [CH_CMD_DUTY, CH_PWMPER_PERIOD] := by
  have hrefl := Dev.onlyChans.refl d [m] [CH_CMD_DUTY, CH_PWMPER_PERIOD]
  cases h : (d.ch m).pwmNext with
  | none => rwa [d.pwmTaken_none m h]
  | some p =>
    rw [d.pwmTaken_some m h]
    exact (hrefl.wri (by decide) (by simp) _).wri (by decide) (by simp) _

theorem Dev.pwmTaken_reads :
    (d.pwmTaken m).rdi CH_CMD_DUTY m = ((d.ch m).pwmNext.map fun p => p.1 % 2 ^ 16).getD (d.rdi CH_CMD_DUTY m) ∧
    (d.pwmTaken m).rdi CH_PWMPER_PERIOD m = ((d.ch m).pwmNext.map fun p => p.2 % 2 ^ 24).getD (d.rdi CH_PWMPER_PERIOD m) := by
  cases h : (d.ch m).pwmNext with
  | none =>
    rw [d.pwmTaken_none m h]
    exact ⟨rfl, rfl⟩
  | some p =>
    rw [d.pwmTaken_some m h, Dev.rdi_wri_beside _ (by decide), Dev.rdi_wri_self, Dev.rdi_wri_self]
    exact ⟨rfl, rfl⟩

/-! ### Periods (R249, R250, R258) -/

theorem Dev.onTimeEnd_only : d.onlyChans (d.onTimeEnd m) [m] [] := (Dev.onlyChans.refl ..).setCh (by simp) _

theorem Dev.periodPast_only : d.onlyChans (d.periodPast m) [m] [] := by
  unfold Dev.periodPast
  split
  · exact (d.onTimeEnd_only m).setCh (by simp) _
  · exact .refl ..

/-- The end of a period leaves the output and the settings that wait. -/
theorem Dev.periodPast_ch : ((d.periodPast m).ch m).pwmNext = (d.ch m).pwmNext ∧
    ((d.periodPast m).ch m).output = (d.ch m).output := by
  unfold Dev.periodPast
  split
  · simp [Dev.onTimeEnd]
  · exact ⟨rfl, rfl⟩

theorem Dev.chOnEdge_only : d.onlyChans (d.chOnEdge m) [m] [CH_STAT_STATE] := by
  have hset (x : ChanState) : d.onlyChans (d.setCh m x) [m] [CH_STAT_STATE] := (Dev.onlyChans.refl ..).setCh (by simp) x
  dsimp only [Dev.chOnEdge]
  split
  · split
    · exact (((hset _).setCh (by simp) _).wri (by decide) (by simp) _).setCh (by simp) _
    · exact (hset _).setCh (by simp) _
  · exact hset _

theorem Dev.chOnEdge_ch : ((d.chOnEdge m).ch m).output = true ∧ ((d.chOnEdge m).ch m).pwmNext = (d.ch m).pwmNext ∧
    ((d.chOnEdge m).ch m).periodOn = (d.ch m).periodOn := by
  dsimp only [Dev.chOnEdge]
  split
  · split <;> simp
  · simp

/-- A period has begun, and its output is not set yet. -/
def Dev.periodOpen (d : Dev) (m : Nat) : Dev :=
  ((d.periodPast m).pwmTaken m).setCh m
    { ((d.periodPast m).pwmTaken m).ch m with pwmNext := none, periodOn := true, periodAtPick := false }

theorem Dev.periodBegin_eq : d.periodBegin m =
    if (d.periodOpen m).chHighNow m = 0 then
      ((d.periodOpen m).setCh m { (d.periodOpen m).ch m with output := false }).wri CH_STAT_LIMITING m 0
    else (d.periodOpen m).chOnEdge m := rfl

theorem Dev.periodOpen_only : d.onlyChans (d.periodOpen m) [m] [CH_CMD_DUTY, CH_PWMPER_PERIOD] :=
  ((Dev.onlyChans.refl d _ _).step (d.periodPast_only m) (fun _ h => h) (by decide)).step
    ((d.periodPast m).pwmTaken_only m) (fun _ h => h) (fun _ h => h) |>.setCh (by simp) _

/-- The fields that a channel's output and its PWM periods write. -/
def outputFields : List Field := [CH_CMD_DUTY, CH_PWMPER_PERIOD, CH_STAT_LIMITING, CH_STAT_STATE]

/-- Once the setting is in force, the output alone is set. -/
theorem Dev.periodOpen_begin : (d.periodOpen m).onlyChans (d.periodBegin m) [m] [CH_STAT_LIMITING, CH_STAT_STATE] := by
  have hrefl := Dev.onlyChans.refl (d.periodOpen m) [m] [CH_STAT_LIMITING, CH_STAT_STATE]
  rw [d.periodBegin_eq m]
  split
  · exact (hrefl.setCh (by simp) _).wri (by decide) (by simp) _
  · exact hrefl.step ((d.periodOpen m).chOnEdge_only m) (fun _ h => h) (by decide)

theorem Dev.periodBegin_only : d.onlyChans (d.periodBegin m) [m] outputFields :=
  ((Dev.onlyChans.refl ..).step (d.periodOpen_only m) (fun _ h => h) (by decide)).step (d.periodOpen_begin m) (fun _ h => h)
    (by decide)

theorem Dev.chHighNow_congr {d e : Dev} {m : Nat} (hduty : e.rdi CH_CMD_DUTY m = d.rdi CH_CMD_DUTY m)
    (hperiod : e.rdi CH_PWMPER_PERIOD m = d.rdi CH_PWMPER_PERIOD m) (hslow : e.rdi CH_CFG_SLOW m = d.rdi CH_CFG_SLOW m) :
    e.chHighNow m = d.chHighNow m := by
  have hmin : e.chTmin m = d.chTmin m := by rw [Dev.chTmin, Dev.flagi, hslow]; rfl
  rw [Dev.chHighNow, hduty, hperiod, Dev.chHigh, hmin]
  rfl

theorem Dev.periodBegin_chHighNow : (d.periodBegin m).chHighNow m = (d.periodOpen m).chHighNow m :=
  have h := d.periodOpen_begin m
  Dev.chHighNow_congr (h.rdi (by decide) m) (h.rdi (by decide) m) (h.rdi (by decide) m)

/-- The period that begins: no setting waits, and the output is on unless the high time is 0. -/
theorem Dev.periodBegin_ch : ((d.periodBegin m).ch m).pwmNext = none ∧ ((d.periodBegin m).ch m).periodOn = true ∧
    (((d.periodBegin m).ch m).output = true ↔ (d.periodBegin m).chHighNow m ≠ 0) := by
  have hnext : ((d.periodOpen m).ch m).pwmNext = none := by rw [Dev.periodOpen, Dev.ch_setCh, if_pos rfl]
  have hon : ((d.periodOpen m).ch m).periodOn = true := by rw [Dev.periodOpen, Dev.ch_setCh, if_pos rfl]
  rw [d.periodBegin_chHighNow m, d.periodBegin_eq m]
  split
  next hzero => simp [hnext, hon, hzero]
  next hhigh =>
    obtain ⟨hout, hnext', hon'⟩ := (d.periodOpen m).chOnEdge_ch m
    exact ⟨hnext'.trans hnext, hon'.trans hon, iff_of_true hout hhigh⟩

theorem Dev.periodBegin_reads :
    (d.periodBegin m).rdi CH_CMD_DUTY m = ((d.ch m).pwmNext.map fun p => p.1 % 2 ^ 16).getD (d.rdi CH_CMD_DUTY m) ∧
    (d.periodBegin m).rdi CH_PWMPER_PERIOD m =
      ((d.ch m).pwmNext.map fun p => p.2 % 2 ^ 24).getD (d.rdi CH_PWMPER_PERIOD m) := by
  have hpast := d.periodPast_only m
  obtain ⟨hduty, hperiod⟩ := (d.periodPast m).pwmTaken_reads m
  rw [(d.periodPast_ch m).1, hpast.rdi (by decide)] at hduty hperiod
  exact ⟨((d.periodOpen_begin m).rdi (by decide) m).trans hduty, ((d.periodOpen_begin m).rdi (by decide) m).trans hperiod⟩

/-! ### The end of a high time (R250, R258) -/

theorem Dev.highEnd_only : d.onlyChans (d.highEnd m) [m] [CH_STAT_LIMITING] :=
  (((Dev.onlyChans.refl d _ _).step (d.onTimeEnd_only m) (fun _ h => h) (by decide)).setCh (by simp) _).wri (by decide) (by simp) _

theorem Dev.highEnd_ch : (d.highEnd m).ch m = { d.ch m with
    output := false, onReg := false, dwellRun := (d.ch m).dwellRun && ((d.ch m).onReg || !(d.ch m).output) } := by
  simp [Dev.highEnd, Dev.onTimeEnd]

/-! ### Restart (R249, R251) -/

/-- A restart's setting is in force, and no period runs. -/
def Dev.restartTaken (d : Dev) (m : Nat) (r : Nat × Nat × Nat) : Dev :=
  (((d.periodPast m).setCh m { (d.periodPast m).ch m with restart := none, pwmNext := none, periodOn := false }).wri
    CH_CMD_DUTY m r.2.1).wri CH_PWMPER_PERIOD m r.2.2

theorem Dev.restartPwm_none (h : (d.ch m).restart = none) : d.restartPwm m = d := by rw [Dev.restartPwm, h]

theorem Dev.restartPwm_some {r : Nat × Nat × Nat} (h : (d.ch m).restart = some r) : d.restartPwm m =
    if (d.restartTaken m r).chMode m = 2 ∧ (d.restartTaken m r).chLive m then (d.restartTaken m r).periodBegin m
    else d.restartTaken m r := by
  simp only [Dev.restartPwm, h]
  rfl

theorem Dev.restartTaken_only (r : Nat × Nat × Nat) : d.onlyChans (d.restartTaken m r) [m] [CH_CMD_DUTY, CH_PWMPER_PERIOD] :=
  ((((Dev.onlyChans.refl d _ _).step (d.periodPast_only m) (fun _ h => h) (by decide)).setCh (by simp) _).wri (by decide) (by simp)
    _).wri (by decide) (by simp) _

theorem Dev.restartPwm_only : d.onlyChans (d.restartPwm m) [m] outputFields := by
  have hrefl := Dev.onlyChans.refl d [m] outputFields
  cases h : (d.ch m).restart with
  | none => rwa [d.restartPwm_none m h]
  | some r =>
    have htaken := hrefl.step (d.restartTaken_only m r) (fun _ h => h) (by decide)
    rw [d.restartPwm_some m h]
    split
    · exact htaken.step ((d.restartTaken m r).periodBegin_only m) (fun _ h => h) (fun _ h => h)
    · exact htaken

/-- Outside MODE 2 no period follows a restart. -/
theorem Dev.restartPwm_idle {r : Nat × Nat × Nat} (h : (d.ch m).restart = some r) (hmode : d.chMode m ≠ 2) :
    d.restartPwm m = d.restartTaken m r := by
  have hmode' : (d.restartTaken m r).chMode m = d.chMode m := by
    rw [Dev.chMode, (d.restartTaken_only m r).rdi (by decide), Dev.chMode]
  rw [d.restartPwm_some m h, if_neg fun hrun => hmode (hmode'.symm.trans hrun.1)]

theorem Dev.restartTaken_reads (phase duty period : Nat) :
    (d.restartTaken m (phase, duty, period)).rdi CH_CMD_DUTY m = duty % 2 ^ 16 ∧
    (d.restartTaken m (phase, duty, period)).rdi CH_PWMPER_PERIOD m = period % 2 ^ 24 :=
  ⟨(Dev.rdi_wri_beside _ (by decide) m m _).trans (Dev.rdi_wri_self ..), Dev.rdi_wri_self ..⟩

theorem Dev.restartTaken_ch (r : Nat × Nat × Nat) : ((d.restartTaken m r).ch m).restart = none ∧
    ((d.restartTaken m r).ch m).pwmNext = none ∧ ((d.restartTaken m r).ch m).periodOn = false ∧
    ((d.restartTaken m r).ch m).output = (d.ch m).output := by
  simp [Dev.restartTaken, d.periodPast_ch m]

/-! ### Turning off (R253) -/

theorem Dev.periodDrop_only : d.onlyChans (d.periodDrop m) [m] [CH_CMD_DUTY, CH_PWMPER_PERIOD] := by
  have hset : d.onlyChans (if (d.ch m).periodOn then d.setCh m { d.ch m with lastHigh := d.chHighNow m } else d) [m]
      [CH_CMD_DUTY, CH_PWMPER_PERIOD] := by
    split
    · exact (Dev.onlyChans.refl ..).setCh (by simp) _
    · exact .refl ..
  exact (hset.step (Dev.pwmTaken_only _ m) (fun _ h => h) (fun _ h => h)).setCh (by simp) _

theorem Dev.chOff_only (st : Nat) : d.onlyChans (d.chOff m st) [m] outputFields :=
  (((((Dev.onlyChans.refl d _ _).step (d.periodDrop_only m) (fun _ h => h) (by decide)).setCh (by simp) _).wri (by decide) (by simp)
    _).wri (by decide) (by simp) _).setCh (by simp) _

theorem Dev.chIdle_chState : (d.chIdle m).chState m = d.chState m := by rw [Dev.chState, Dev.chIdle, Dev.setCh_rdi, Dev.chState]

theorem Dev.chIdle_output : ((d.chIdle m).ch m).output = (d.ch m).output := by rw [Dev.chIdle, Dev.ch_setCh_self]

theorem Dev.chOff_off {st : Nat} (hst : st < 8) : (d.chOff m st).chState m = st ∧ ((d.chOff m st).ch m).output = false := by
  constructor
  · rw [Dev.chOff, Dev.chIdle_chState, Dev.chState, Dev.rdi_wri_self]
    exact Nat.mod_eq_of_lt hst
  · rw [Dev.chOff, Dev.chIdle_output, Dev.ch_wri, Dev.ch_wri, Dev.ch_setCh_self]

end

end Sys2Proof.Machine
end

section
/-! SUPPORT. The commands of a channel's output: PWM periods, the inrush window and the limiter (R242, R249 to R258, R272, R315). -/

namespace Sys2Proof.Machine

theorem exec_pwmPeriodStart (m : Nat) (s : State) : exec (.pwmPeriodStart m) s = execPwmPeriodStart m s := rfl
theorem exec_pwmHighTimeEnd (m : Nat) (s : State) : exec (.pwmHighTimeEnd m) s = execPwmHighTimeEnd m s := rfl
theorem exec_pwmRestart (m : Nat) (s : State) : exec (.pwmRestart m) s = execPwmRestart m s := rfl
theorem exec_inrushWindowEnd (m : Nat) (s : State) : exec (.inrushWindowEnd m) s = execInrushWindowEnd m s := rfl
theorem exec_limiterRegulate (m cur : Nat) (s : State) : exec (.limiterRegulate m cur) s = execLimiterRegulate m cur s := rfl
theorem exec_regulationEnd (m cur : Nat) (s : State) : exec (.regulationEnd m cur) s = execRegulationEnd m cur s := rfl

variable {s : State} {m : Nat}

/-! ### PWM (R249 to R252, R272) -/

theorem gives_pwmPeriodStart (h : s.dev.pwmRuns m = true) :
    Gives (.pwmPeriodStart m) s (s.dev.each (s.dev.chMembers m) Dev.periodBegin) :=
  gives_onDev (exec_pwmPeriodStart ..) (if_pos h)

theorem gives_pwmHighTimeEnd (hruns : s.dev.pwmRuns m = true) (hout : (s.dev.ch m).output = true)
    (hhigh : s.dev.chHighNow m < s.dev.rdi CH_PWMPER_PERIOD m) :
    Gives (.pwmHighTimeEnd m) s (s.dev.each (s.dev.chMembers m) Dev.highEnd) :=
  gives_onDev (exec_pwmHighTimeEnd ..) (if_pos ⟨hruns, hout, hhigh⟩)

theorem gives_pwmRestart (h : s.dev.chLead m = m) :
    Gives (.pwmRestart m) s (s.dev.each (s.dev.chMembers m) Dev.restartPwm) :=
  gives_onDev (exec_pwmRestart ..) (if_pos h)

section
variable (d : Dev) {ms : List Nat} (hms : ms.Nodup) {k : Nat} (hk : k ∈ ms)
include hms hk

/-- Every member's period begins with its own setting, whatever the other members do (R249, R272). -/
theorem Dev.each_periodBegin_at : ((d.each ms Dev.periodBegin).ch k).pwmNext = none ∧
    ((d.each ms Dev.periodBegin).ch k).periodOn = true ∧
    (((d.each ms Dev.periodBegin).ch k).output = true ↔ (d.each ms Dev.periodBegin).chHighNow k ≠ 0) ∧
    (d.each ms Dev.periodBegin).rdi CH_CMD_DUTY k =
      ((d.ch k).pwmNext.map fun p => p.1 % 2 ^ 16).getD (d.rdi CH_CMD_DUTY k) ∧
    (d.each ms Dev.periodBegin).rdi CH_PWMPER_PERIOD k =
      ((d.ch k).pwmNext.map fun p => p.2 % 2 ^ 24).getD (d.rdi CH_PWMPER_PERIOD k) := by
  obtain ⟨e, ⟨hch, hregs⟩, hch', hregs'⟩ := Dev.onlyChans.each_at Dev.periodBegin_only (by decide) hms hk d
  obtain ⟨hnext, hon, hout⟩ := e.periodBegin_ch k
  obtain ⟨hduty, hperiod⟩ := e.periodBegin_reads k
  rw [hch, hregs CH_CMD_DUTY (by decide)] at hduty
  rw [hch, hregs CH_PWMPER_PERIOD (by decide)] at hperiod
  rw [hch', Dev.chHighNow_congr (hregs' _ (by decide)) (hregs' _ (by decide)) (hregs' _ (by decide)),
    hregs' _ (by decide), hregs' _ (by decide)]
  exact ⟨hnext, hon, hout, hduty, hperiod⟩

theorem Dev.each_highEnd_at : (d.each ms Dev.highEnd).rdi CH_STAT_LIMITING k = 0 ∧ (d.each ms Dev.highEnd).ch k =
    { d.ch k with
      output := false, onReg := false, dwellRun := (d.ch k).dwellRun && ((d.ch k).onReg || !(d.ch k).output) } := by
  obtain ⟨e, ⟨hch, -⟩, hch', hregs'⟩ := Dev.onlyChans.each_at Dev.highEnd_only (by decide) hms hk d
  rw [hregs' _ (by decide), hch', e.highEnd_ch k, hch]
  exact ⟨Dev.rdi_wri_self .., rfl⟩

/-- A member outside MODE 2 takes its restart's setting and begins no period (R249, R251). -/
theorem Dev.each_restartPwm_at {phase duty period : Nat} (hrestart : (d.ch k).restart = some (phase, duty, period))
    (hmode : d.chMode k ≠ 2) : (d.each ms Dev.restartPwm).rdi CH_CMD_DUTY k = duty % 2 ^ 16 ∧
    (d.each ms Dev.restartPwm).rdi CH_PWMPER_PERIOD k = period % 2 ^ 24 ∧ ((d.each ms Dev.restartPwm).ch k).restart = none ∧
    ((d.each ms Dev.restartPwm).ch k).pwmNext = none ∧ ((d.each ms Dev.restartPwm).ch k).periodOn = false ∧
    ((d.each ms Dev.restartPwm).ch k).output = (d.ch k).output := by
  obtain ⟨e, ⟨hch, hregs⟩, hch', hregs'⟩ := Dev.onlyChans.each_at Dev.restartPwm_only (by decide) hms hk d
  have hmode' : e.chMode k ≠ 2 := by rwa [Dev.chMode, hregs _ (by decide)]
  rw [hregs' _ (by decide), hregs' _ (by decide), hch', e.restartPwm_idle k (hch ▸ hrestart) hmode', ← hch]
  obtain ⟨hduty, hperiod⟩ := e.restartTaken_reads k phase duty period
  exact ⟨hduty, hperiod, e.restartTaken_ch k _⟩

end

/-! ### The inrush window (R253, R257, R258) -/

/-- The window ends: the channel is ON. -/
def Dev.windowEnded (d : Dev) (m : Nat) : Dev := (d.wri CH_STAT_STATE m 3).setCh m { d.ch m with winOpen := false }

/-- Regulation in progress outside the window counts as dwell, and is a short event of the bank (R258, R315). -/
def Dev.dwellBegun (d : Dev) (m : Nat) : Dev := (d.setCh m { d.ch m with dwellRun := true }).shortEvent (bankOf m)

section
variable (d : Dev) (m : Nat)

theorem Dev.dwellBegun_ch : (d.dwellBegun m).ch m = { d.ch m with dwellRun := true } := d.ch_setCh_self m _

theorem Dev.dwellBegun_rdi {g : Field} (hg : g.ofChannel) (k : Nat) : (d.dwellBegun m).rdi g k = d.rdi g k :=
  (Dev.rdi_wri ..).trans (if_neg (Field.key_channel_ne_bank hg (by decide) k (bankOf m)))

theorem Dev.dwellBegun_shortEvent : (d.dwellBegun m).rdi BANK_STAT_SHORTEV (bankOf m) = 1 := Dev.rdi_wri_self ..

variable {l : List (Field × Nat)}

theorem Dev.windowEnded_regsBut (hl : (CH_STAT_STATE, m) ∈ l) : d.regsBut (d.windowEnded m) l :=
  ((Dev.regsBut.refl d l).wri hl _).setCh m _

variable {d m} in
theorem Dev.regsBut.dwellBegun {e : Dev} (h : d.regsBut e l) (hl : (BANK_STAT_SHORTEV, bankOf m) ∈ l) :
    d.regsBut (e.dwellBegun m) l := (h.setCh m _).wri hl _

end

theorem gives_inrushWindowEnd (hstate : s.dev.chState m = 2) (hwin : (s.dev.ch m).winOpen = true) :
    Gives (.inrushWindowEnd m) s
      (if s.dev.flagi CH_STAT_LIMITING m then (s.dev.windowEnded m).dwellBegun m else s.dev.windowEnded m) := by
  have hlim : (s.dev.windowEnded m).flagi CH_STAT_LIMITING m = s.dev.flagi CH_STAT_LIMITING m := by
    rw [Dev.flagi, Dev.windowEnded, Dev.setCh_rdi, Dev.rdi_wri_beside _ (by decide), Dev.flagi]
  rw [← hlim]
  exact gives_onDev (exec_inrushWindowEnd ..) (if_pos ⟨hstate, hwin⟩)

/-! ### The limiter (R242, R243, R256, R258, R315) -/

/-- The limiter regulates. -/
def Dev.regulating (d : Dev) (m : Nat) : Dev := (d.wri CH_STAT_LIMITING m 1).setCh m { d.ch m with onReg := true }

theorem Dev.regulating_regsBut (d : Dev) (m : Nat) {l : List (Field × Nat)} (hl : (CH_STAT_LIMITING, m) ∈ l) :
    d.regsBut (d.regulating m) l := ((Dev.regsBut.refl d l).wri hl _).setCh m _

theorem Dev.limitNow_on {d : Dev} (hstate : d.chState m = 3) : d.limitNow m = (4 - d.rdi CH_CMD m / 4 % 4) *
    (if d.threeCells m then min (d.rdi CH_LIM_LIMIT m) 300 else d.rdi CH_LIM_LIMIT m) := by
  rw [Dev.limitNow, if_neg fun h => absurd (hstate.symm.trans h.1) (by decide)]

theorem Dev.limitNow_window {d : Dev} (hstate : d.chState m = 2) (hwin : (d.ch m).winOpen = true) : d.limitNow m =
    4 * (if d.threeCells m then min (d.rdi CH_INRUSH_ILIM m) 900 else d.rdi CH_INRUSH_ILIM m) := by
  rw [Dev.limitNow, if_pos ⟨hstate, hwin⟩]

theorem Dev.chLive_iff {d : Dev} : d.chLive m = true ↔ d.chState m = 2 ∨ d.chState m = 3 := by
  simp [Dev.chLive, chINRUSH, chON]

theorem gives_limiterRegulate {cur : Nat} (hlive : s.dev.chState m = 2 ∨ s.dev.chState m = 3)
    (hout : (s.dev.ch m).output = true) (hcur : s.dev.limitNow m * 25 < cur) :
    Gives (.limiterRegulate m cur) s
      (if s.dev.chState m = 3 then (s.dev.regulating m).dwellBegun m else s.dev.regulating m) := by
  have hstate : (s.dev.regulating m).chState m = s.dev.chState m := by
    rw [Dev.chState, Dev.regulating, Dev.setCh_rdi, Dev.rdi_wri_beside _ (by decide), Dev.chState]
  rw [← hstate]
  exact gives_onDev (exec_limiterRegulate ..) (if_pos ⟨Dev.chLive_iff.mpr hlive, hout, hcur⟩)

theorem gives_limiterRegulate_below {cur : Nat} (hcur : cur ≤ s.dev.limitNow m * 25) :
    Gives (.limiterRegulate m cur) s s.dev :=
  gives_onDev (exec_limiterRegulate ..) (if_neg fun h => Nat.not_lt.mpr hcur h.2.2)

theorem gives_regulationEnd {cur : Nat} (hcur : cur < s.dev.limitNow m * 25) :
    Gives (.regulationEnd m cur) s ((s.dev.setCh m
      { s.dev.ch m with dwellRun := (s.dev.ch m).dwellRun && s.dev.chMode m == 2 }).wri CH_STAT_LIMITING m 0) :=
  gives_onDev (exec_regulationEnd ..) (if_pos hcur)

end Sys2Proof.Machine
end

section
/-! SUPPORT. Trips of a load channel: what a trip leaves of every member of its group, and what brings one (R253, R258, R260, R261,
R265, R267, R274). -/

namespace Sys2Proof.Machine

theorem exec_dwellTrip (m run : Nat) (same : List Nat) (s : State) :
    exec (.dwellTrip m run same) s = execDwellTrip m run same s := rfl
theorem exec_dtTrip (m : Nat) (d0 d1 d2 : Int) (same : List Nat) (s : State) :
    exec (.dtTrip m d0 d1 d2 same) s = execDtTrip m d0 d1 d2 same s := rfl
theorem exec_tjTrip (m : Nat) (t0 t1 t2 : Int) (same : List Nat) (s : State) :
    exec (.tjTrip m t0 t1 t2 same) s = execTjTrip m t0 t1 t2 same s := rfl

/-! ### A trip (R253, R265, R274) -/

/-- A member of a group that trips: off in state `st`, with the cause that it shows and one trip counted. -/
def Dev.tripShown (d : Dev) (m cause k st : Nat) : Dev :=
  (((d.chOff k st).wri CH_STAT_CAUSE k (if k = m then cause else 5)).wri CH_EVT_TRIP k 1).inci CH_CNT_TRIPS k

/-- A member of a group that latches: one latch counted. -/
def Dev.latchShown (d : Dev) (k : Nat) : Dev := (d.wri CH_EVT_LATCH k 1).inci CH_CNT_LATCHES k

/-- A member's part in the trip of its group. -/
def Dev.memberTrip (d : Dev) (m cause : Nat) (latch : Bool) (k : Nat) : Dev :=
  if latch then (d.tripShown m cause k (if latch then 5 else 4)).latchShown k
  else d.tripShown m cause k (if latch then 5 else 4)

/-- The fields that show a trip and a latch. -/
def tripFields : List Field := [CH_STAT_CAUSE, CH_EVT_TRIP, CH_CNT_TRIPS, CH_EVT_LATCH, CH_CNT_LATCHES]

section
variable (d : Dev) (m cause k : Nat)

theorem Dev.tripShown_shows (st : Nat) : (d.chOff k st).onlyChans (d.tripShown m cause k st) [k] tripFields :=
  (((Dev.onlyChans.refl ..).wri (f := CH_STAT_CAUSE) (by decide) List.mem_cons_self _).wri (f := CH_EVT_TRIP) (by decide)
    List.mem_cons_self _).wri (f := CH_CNT_TRIPS) (by decide) List.mem_cons_self _

theorem Dev.tripShown_ch (st j : Nat) : (d.tripShown m cause k st).ch j = (d.chOff k st).ch j := by
  rw [Dev.tripShown, Dev.inci, Dev.addi, Dev.ch_wri, Dev.ch_wri, Dev.ch_wri]

theorem Dev.tripShown_reads {st : Nat} (hst : st < 8) : ((d.tripShown m cause k st).ch k).output = false ∧
    (d.tripShown m cause k st).rdi CH_STAT_CAUSE k = (if k = m then cause else 5) % 16 ∧
    (d.tripShown m cause k st).rdi CH_EVT_TRIP k = 1 ∧ (d.tripShown m cause k st).chState k = st := by
  obtain ⟨hstate, hout⟩ := d.chOff_off k hst
  refine ⟨by rw [Dev.tripShown_ch, hout], ?_, ?_, ((d.tripShown_shows m cause k st).rdi (by decide) k).trans hstate⟩
  · simp (disch := decide) only [Dev.tripShown, Dev.rdi_inci_beside, Dev.rdi_wri_beside, Dev.rdi_wri_self]
    rfl
  · simp (disch := decide) only [Dev.tripShown, Dev.rdi_inci_beside, Dev.rdi_wri_self]
    rfl

theorem Dev.latchShown_only : d.onlyChans (d.latchShown k) [k] [CH_EVT_LATCH, CH_CNT_LATCHES] :=
  ((Dev.onlyChans.refl ..).wri (f := CH_EVT_LATCH) (by decide) List.mem_cons_self _).wri (f := CH_CNT_LATCHES) (by decide)
    List.mem_cons_self _

theorem Dev.latchShown_ch (j : Nat) : (d.latchShown k).ch j = d.ch j := by
  rw [Dev.latchShown, Dev.inci, Dev.addi, Dev.ch_wri, Dev.ch_wri]

theorem Dev.memberTrip_latch : d.memberTrip m cause true k = (d.tripShown m cause k 5).latchShown k := by
  rw [Dev.memberTrip, if_pos rfl, if_pos rfl]

theorem Dev.memberTrip_cool : d.memberTrip m cause false k = d.tripShown m cause k 4 := by
  rw [Dev.memberTrip, if_neg Bool.false_ne_true, if_neg Bool.false_ne_true]

theorem Dev.memberTrip_only (latch : Bool) : d.onlyChans (d.memberTrip m cause latch k) [k] (outputFields ++ tripFields) := by
  have hshown (st : Nat) : d.onlyChans (d.tripShown m cause k st) [k] (outputFields ++ tripFields) :=
    ((Dev.onlyChans.refl ..).step (d.chOff_only k st) (fun _ h => h) (by decide)).step (d.tripShown_shows m cause k st)
      (fun _ h => h) (by decide)
  cases latch with
  | true =>
    rw [d.memberTrip_latch]
    exact (hshown 5).step (Dev.latchShown_only _ k) (fun _ h => h) (by decide)
  | false =>
    rw [d.memberTrip_cool]
    exact hshown 4

theorem Dev.memberTrip_reads (latch : Bool) : ((d.memberTrip m cause latch k).ch k).output = false ∧
    (d.memberTrip m cause latch k).rdi CH_STAT_CAUSE k = (if k = m then cause else 5) % 16 ∧
    (d.memberTrip m cause latch k).rdi CH_EVT_TRIP k = 1 ∧
    (d.memberTrip m cause latch k).chState k = (if latch then 5 else 4) := by
  cases latch with
  | true =>
    obtain ⟨hout, hcause, hevt, hstate⟩ := d.tripShown_reads m cause k (st := 5) (by decide)
    have hlatch := (d.tripShown m cause k 5).latchShown_only k
    rw [d.memberTrip_latch, Dev.latchShown_ch]
    exact ⟨hout, (hlatch.rdi (by decide) k).trans hcause,
      (hlatch.rdi (by decide) k).trans hevt, (hlatch.rdi (by decide) k).trans hstate⟩
  | false =>
    rw [d.memberTrip_cool]
    exact d.tripShown_reads m cause k (by decide)

end

/-- Whether a trip of channel `m` brings its group's counter to the threshold. -/
def Dev.tripLatches (d : Dev) (m : Nat) : Bool := d.fwFires (.channel (d.chLead m)) (d.rdi CH_FAULT_THRESH (d.chLead m))

/-- The group's counter counts a trip of channel `m`. -/
def Dev.tripCounted (d : Dev) (m : Nat) : Dev := d.fwEvent (.channel (d.chLead m)) (d.rdi CH_FAULT_THRESH (d.chLead m))

/-- The group of channel `m` is off. -/
def Dev.groupTripped (d : Dev) (m cause : Nat) : Dev :=
  (d.tripCounted m).each ((d.tripCounted m).chMembers (d.chLead m)) fun e k => e.memberTrip m cause (d.tripLatches m) k

/-- RETRY counts for the group of lead `l`. -/
def Dev.retryStarted (d : Dev) (l : Nat) : Dev := d.setCh l { d.ch l with retryRun := true }

section
variable (d : Dev) (m cause : Nat)

/-- A trip is the group's turning off, and what the keeper records of it (R265, R296, R315). -/
theorem Dev.chTrip_eq (pin : Nat) : d.chTrip m cause pin =
    let e := ((d.groupTripped m cause).retryStarted (d.chLead m)).bankRec (bankOf m) (tripCode cause)
      (if cause = 4 then [m, pin] else [m])
    let e := if d.tripLatches m then e.bankRec (bankOf m) 0x0414 [d.chLead m] else e
    if cause = 4 then e else e.shortEvent (bankOf m) := rfl

theorem Dev.fwEvent_channel_rdi {g : Field} (hg : g.beside [CH_STAT_FCNT]) (l th k : Nat) :
    (d.fwEvent (.channel l) th).rdi g k = d.rdi g k := by
  unfold Dev.fwEvent
  split
  · rfl
  · exact d.rdi_wri_beside hg k l _

theorem Dev.tripCounted_members (l : Nat) : (d.tripCounted m).chMembers l = d.chMembers l :=
  Dev.chMembers_congr (d.fwEvent_channel_rdi (by decide) _ _) l

/-- What the keeper records of a trip leaves every channel as it is. -/
theorem Dev.chTrip_same (pin k : Nat) : ((d.groupTripped m cause).retryStarted (d.chLead m)).sameChan (d.chTrip m cause pin) k := by
  rw [Dev.chTrip_eq]
  extract_lets e e'
  have hfirst : ((d.groupTripped m cause).retryStarted (d.chLead m)).sameChan e k := Dev.bankRec_sameChan ..
  have hboth : e.sameChan e' k := by
    unfold e'
    split
    · exact Dev.bankRec_sameChan ..
    · exact .refl ..
  split
  · exact hfirst.trans hboth
  · exact (hfirst.trans hboth).trans (.wri_bank e' (by decide) ..)

theorem Dev.retryStarted_rdi (l : Nat) (g : Field) (k : Nat) : (d.retryStarted l).rdi g k = d.rdi g k := rfl

theorem Dev.retryStarted_output (l k : Nat) : ((d.retryStarted l).ch k).output = (d.ch k).output := by
  rw [Dev.retryStarted, Dev.ch_setCh]
  split
  next h => rw [h]
  next => rfl

/-- Every member of the group is off after a trip, and shows the channel's cause or that of the group. -/
theorem Dev.chTrip_at (pin : Nat) {k : Nat} (hk : k ∈ d.chMembers (d.chLead m)) : ((d.chTrip m cause pin).ch k).output = false ∧
    (d.chTrip m cause pin).rdi CH_STAT_CAUSE k = (if k = m then cause else 5) % 16 ∧
    (d.chTrip m cause pin).rdi CH_EVT_TRIP k = 1 ∧ (d.chTrip m cause pin).chState k = (if d.tripLatches m then 5 else 4) := by
  rw [← d.tripCounted_members m] at hk
  obtain ⟨e, -, hch, hregs⟩ := Dev.onlyChans.each_at (fun e j => e.memberTrip_only m cause j (d.tripLatches m)) (by decide)
    (Dev.chMembers_nodup ..) hk (d.tripCounted m)
  obtain ⟨hch', hregs'⟩ := d.chTrip_same m cause pin k
  obtain ⟨hout, hcause, hevt, hstate⟩ := e.memberTrip_reads m cause k (d.tripLatches m)
  have hread {g : Field} (hg : g.ofChannel) :
      (d.chTrip m cause pin).rdi g k = (e.memberTrip m cause (d.tripLatches m) k).rdi g k := by
    rw [hregs' g hg, Dev.retryStarted_rdi, Dev.groupTripped, hregs g hg]
  refine ⟨?_, (hread (by decide)).trans hcause, (hread (by decide)).trans hevt, (hread (by decide)).trans hstate⟩
  rw [hch', Dev.retryStarted_output, Dev.groupTripped, hch, hout]

end

/-! ### What brings a trip (R258, R260, R261, R267) -/

variable {s : State} {m : Nat}

theorem gives_dwellTrip {run : Nat} (hstate : s.dev.chState m = 3) (hdwell : (s.dev.ch m).dwellRun = true)
    (hrun : s.dev.rdi CH_LIM_DWELL m ≤ run) (same : List Nat) :
    Gives (.dwellTrip m run same) s (s.dev.chTrip m (firstCause 1 same) 0) :=
  gives_onDev (exec_dwellTrip ..) (if_pos ⟨hstate, hdwell, hrun⟩)

theorem gives_dwellTrip_early {run : Nat} (hrun : run < s.dev.rdi CH_LIM_DWELL m) (same : List Nat) :
    Gives (.dwellTrip m run same) s s.dev :=
  gives_onDev (exec_dwellTrip ..) (if_neg fun h => Nat.not_le.mpr hrun h.2.2)

theorem secondOfTwo_eq_true {p : Int → Bool} {x0 x1 x2 : Int} (h0 : p x0 = false) (h1 : p x1 = true) (h2 : p x2 = true) :
    secondOfTwo p x0 x1 x2 = true := by rw [secondOfTwo, h0, h1, h2]; rfl

theorem gives_dtTrip {d0 d1 d2 : Int} (hlive : s.dev.chLive m = true) (h0 : d0 ≤ (s.dev.rdi CH_THERM_DTMAX m * 8 : Nat))
    (h1 : (s.dev.rdi CH_THERM_DTMAX m * 8 : Nat) < d1) (h2 : (s.dev.rdi CH_THERM_DTMAX m * 8 : Nat) < d2) (same : List Nat) :
    Gives (.dtTrip m d0 d1 d2 same) s (s.dev.chTrip m (firstCause 2 same) 0) :=
  gives_onDev (exec_dtTrip ..) (if_pos ⟨hlive, secondOfTwo_eq_true (decide_eq_false (not_lt.mpr h0)) (decide_eq_true h1)
    (decide_eq_true h2)⟩)

theorem gives_dtTrip_off (hlive : s.dev.chLive m = false) (d0 d1 d2 : Int) (same : List Nat) :
    Gives (.dtTrip m d0 d1 d2 same) s s.dev :=
  gives_onDev (exec_dtTrip ..) (if_neg fun h => ne_true_of_eq_false hlive h.1)

/-- TJ comes first among the causes of one clock cycle. -/
theorem firstCause_tj (same : List Nat) : firstCause 3 same = 3 := by
  rw [firstCause, List.find?_cons_of_pos (by simp [trTJ])]
  rfl

section
variable {t0 t1 t2 : Int} (h0 : t0 < 1400) (h1 : 1400 ≤ t1) (h2 : 1400 ≤ t2)
include h0 h1 h2

theorem tjTrip_due : ¬ (!secondOfTwo (fun x => decide (1400 ≤ x)) t0 t1 t2) = true := by
  rw [secondOfTwo_eq_true (decide_eq_false (not_le.mpr h0)) (decide_eq_true h1) (decide_eq_true h2)]
  exact Bool.false_ne_true

theorem gives_tjTrip_live (hlive : s.dev.chLive m = true) (same : List Nat) :
    Gives (.tjTrip m t0 t1 t2 same) s (s.dev.chTrip m 3 0) := by
  rw [← firstCause_tj same]
  exact gives_onDev (exec_tjTrip ..) ((if_neg (tjTrip_due h0 h1 h2)).trans (if_pos hlive))

theorem gives_tjTrip_idle (hstate : s.dev.chState m = 1 ∨ s.dev.chState m = 4 ∨ s.dev.chState m = 5) (same : List Nat) :
    Gives (.tjTrip m t0 t1 t2 same) s (s.dev.tjIdle m) := by
  have hlive : ¬ s.dev.chLive m = true := by
    rw [Dev.chLive_iff]
    omega
  exact gives_onDev (exec_tjTrip ..) ((if_neg (tjTrip_due h0 h1 h2)).trans ((if_neg hlive).trans (if_pos hstate)))

end

section
variable (hstate : s.dev.chState m = 0 ∨ s.dev.chState m = 6)
include hstate

theorem chLive_of_off : s.dev.chLive m = false := by
  rw [← Bool.not_eq_true, Dev.chLive_iff]
  omega

theorem gives_tjTrip_off (t0 t1 t2 : Int) (same : List Nat) : Gives (.tjTrip m t0 t1 t2 same) s s.dev := by
  have hidle : ¬ (s.dev.chState m = chWAIT ∨ s.dev.chState m = chCOOL ∨ s.dev.chState m = chLATCHED) := by
    simp only [chWAIT, chCOOL, chLATCHED]
    omega
  refine gives_onDev (exec_tjTrip ..) ?_
  rw [if_neg (ne_true_of_eq_false (chLive_of_off hstate)), if_neg hidle, ite_self]

end

end Sys2Proof.Machine
end

section
/-! SUPPORT. The wire and pin models of a load channel, and its recovery (R253, R262 to R264, R273). -/

namespace Sys2Proof.Machine

theorem exec_wireModelUpdate (m : Nat) (cur : List (List Nat)) (same : List Nat) (s : State) :
    exec (.wireModelUpdate m cur same) s = execWireModelUpdate m cur same s := rfl
theorem exec_coolRecovery (m ms : Nat) (tj dt : List Int) (s : State) :
    exec (.coolRecovery m ms tj dt) s = execCoolRecovery m ms tj dt s := rfl

/-! ### One step of the models (R262, R263) -/

theorem Dev.quot_exact (d : Dev) {num den : Nat} (h : num % den = 0) : d.quot num den = num / den := by
  rw [Dev.quot, if_pos h, Nat.add_zero]

theorem Dev.modelStep_exact (d : Dev) {w q n : Nat} (h : (w * (n - 1) + q) % n = 0) :
    d.modelStep w q n = min (2 ^ 40 - 1) ((w * (n - 1) + q) / n) := by rw [Dev.modelStep, d.quot_exact h]

theorem Dev.meanSquare_exact (d : Dev) {cur : List Nat} (h : ((cur.map fun i => i * i).sum * 2 ^ 20) % 10 ^ 8 = 0) :
    d.meanSquare cur = ((cur.map fun i => i * i).sum * 2 ^ 20) / 10 ^ 8 := d.quot_exact h

/-- The accumulator of the pin model after 1 ms. -/
def Dev.pinNext (d : Dev) (m : Nat) (cur : List (List Nat)) : Nat :=
  d.fresh.fresh.modelStep (d.ch m).pinW (d.meanSquare (groupSamples cur [m])) 10000

/-- The accumulator of the wire model after 1 ms, which steps for a lead with a wire alone. -/
def Dev.wireNext (d : Dev) (m : Nat) (cur : List (List Nat)) : Nat :=
  if (d.chLead m == m) = true ∧ d.rdi CH_WIRE_TAU m ≠ 0 ∧ d.irated m ≠ 0 then
    d.fresh.fresh.fresh.modelStep (d.ch m).w (d.fresh.meanSquare (groupSamples cur (d.chMembers m))) (100 * d.rdi CH_WIRE_TAU m)
  else (d.ch m).w

/-- LEVEL after 1 ms. -/
def Dev.levelNext (d : Dev) (m : Nat) (cur : List (List Nat)) : Nat :=
  if (d.chLead m == m) = true ∧ d.irated m ≠ 0 then wireLevel (d.wireNext m cur) (d.irated m) else d.rdi CH_WIREST_LEVEL m

/-- Both models after 1 ms, which has drawn the four free values of their roundings (log entry 5). -/
def Dev.modelsStored (d : Dev) (m : Nat) (cur : List (List Nat)) : Dev :=
  ((d.fresh.fresh.fresh.fresh.setCh m { d.ch m with w := d.wireNext m cur, pinW := d.pinNext m cur }).wri CH_WIREST_LEVEL m
    (d.levelNext m cur)).wri CH_WIREST_PINLEVEL m (pinLevel (d.pinNext m cur) (pinCap m))

/-- WARN follows LEVEL, with hysteresis (R262). -/
def Dev.levelWarned (d : Dev) (m level : Nat) : Dev :=
  if 26214 ≤ level ∧ !d.flagi CH_STAT_WARN m then (d.wri CH_STAT_WARN m 1).wri CH_EVT_WARN m 1
  else if level < 24576 then d.wri CH_STAT_WARN m 0 else d

section
variable (d : Dev) (m : Nat) (cur : List (List Nat))

theorem Dev.modelsStored_only : d.fresh.fresh.fresh.fresh.onlyChans (d.modelsStored m cur) [m]
    [CH_WIREST_LEVEL, CH_WIREST_PINLEVEL] :=
  (((Dev.onlyChans.refl ..).setCh List.mem_cons_self _).wri (by decide) List.mem_cons_self _).wri (by decide) List.mem_cons_self _

theorem Dev.modelsStored_ch : (d.modelsStored m cur).ch m = { d.ch m with w := d.wireNext m cur, pinW := d.pinNext m cur } :=
  Dev.ch_setCh_self ..

theorem Dev.modelsStored_level (h : d.levelNext m cur < 65536) :
    (d.modelsStored m cur).rdi CH_WIREST_LEVEL m = d.levelNext m cur :=
  (Dev.rdi_wri_beside _ (by decide) ..).trans ((Dev.rdi_wri_self ..).trans (Nat.mod_eq_of_lt h))

theorem Dev.modelsStored_pinLevel :
    (d.modelsStored m cur).rdi CH_WIREST_PINLEVEL m = pinLevel (d.pinNext m cur) (pinCap m) :=
  (Dev.rdi_wri_self ..).trans (Nat.mod_eq_of_lt ((Nat.min_le_left ..).trans_lt (by decide)))

theorem Dev.levelWarned_only (level : Nat) : d.onlyChans (d.levelWarned m level) [m] [CH_STAT_WARN, CH_EVT_WARN] := by
  have hrefl := Dev.onlyChans.refl d [m] [CH_STAT_WARN, CH_EVT_WARN]
  unfold Dev.levelWarned
  split
  · exact (hrefl.wri (by decide) List.mem_cons_self _).wri (by decide) List.mem_cons_self _
  · split
    · exact hrefl.wri (by decide) List.mem_cons_self _
    · exact hrefl

theorem Dev.levelWarned_ch (level k : Nat) : (d.levelWarned m level).ch k = d.ch k := by
  unfold Dev.levelWarned
  split
  · rfl
  · split <;> rfl

/-- Below the hysteresis no warning stands. -/
theorem Dev.levelWarned_low {level : Nat} (h : level < 24576) : d.levelWarned m level = d.wri CH_STAT_WARN m 0 :=
  (if_neg fun hhigh => absurd hhigh.1 (by omega)).trans (if_pos h)

theorem Dev.levelNext_follower (hlead : d.chLead m ≠ m) : d.levelNext m cur = d.rdi CH_WIREST_LEVEL m :=
  if_neg fun h => hlead (beq_iff_eq.mp h.1)

theorem Dev.wireNext_follower (hlead : d.chLead m ≠ m) : d.wireNext m cur = (d.ch m).w :=
  if_neg fun h => hlead (beq_iff_eq.mp h.1)

variable {d m} in
theorem Dev.levelNext_lead (hlead : d.chLead m = m) (hrated : d.irated m ≠ 0) :
    d.levelNext m cur = wireLevel (d.wireNext m cur) (d.irated m) := if_pos ⟨beq_iff_eq.mpr hlead, hrated⟩

variable {d m} in
theorem Dev.wireNext_lead (hlead : d.chLead m = m) (htau : d.rdi CH_WIRE_TAU m ≠ 0) (hrated : d.irated m ≠ 0) :
    d.wireNext m cur = d.fresh.fresh.fresh.modelStep (d.ch m).w (d.fresh.meanSquare (groupSamples cur (d.chMembers m)))
      (100 * d.rdi CH_WIRE_TAU m) := if_pos ⟨beq_iff_eq.mpr hlead, htau, hrated⟩

/-- The models leave the channel's state. -/
theorem Dev.modelled_chState (level : Nat) : ((d.modelsStored m cur).levelWarned m level).chState m = d.chState m := by
  rw [Dev.chState, (Dev.levelWarned_only _ m level).rdi (by decide), (d.modelsStored_only m cur).rdi (by decide)]
  rfl

end

variable {s : State} {m : Nat}

/-- A channel that is not turned on does not trip by its models. -/
theorem gives_wireModelUpdate_off (hlive : s.dev.chLive m = false) (cur : List (List Nat)) (same : List Nat) :
    Gives (.wireModelUpdate m cur same) s ((s.dev.modelsStored m cur).levelWarned m (s.dev.levelNext m cur)) := by
  have hlive' : ¬ ((s.dev.modelsStored m cur).levelWarned m (s.dev.levelNext m cur)).chLive m = true := by
    rw [Dev.chLive, Dev.modelled_chState]
    exact ne_true_of_eq_false hlive
  exact gives_onDev (exec_wireModelUpdate ..) (if_neg fun h => hlive' h.1)

/-! ### Recovery (R253, R264) -/

section
variable {l ms : Nat} {tj dt : List Int} (hl : l = s.dev.chLead m) (hstate : s.dev.chState l = 4)
  (hms : s.dev.rdi CH_FAULT_RETRY l ≤ ms)
  (hall : (s.dev.chMembers l).all (fun k => s.dev.recovered k (tj.getD (k % 16) 0) (dt.getD (k % 16) 0)) = true)
include hl hstate hms hall

theorem gives_coolRecovery : Gives (.coolRecovery m ms tj dt) s
    (if s.dev.chMode l ≠ 0 ∧ !s.dev.flagi CH_STAT_NEEDOFF l then
      (s.dev.setCh l { s.dev.ch l with retryRun := false }).startDue l
    else (s.dev.setCh l { s.dev.ch l with retryRun := false }).each (s.dev.chMembers l) fun d k =>
      (d.wri CH_STAT_STATE k 0).chIdle k) := by
  subst hl
  exact gives_onDev (exec_coolRecovery ..) (if_pos ⟨hstate, hms, hall⟩)

theorem gives_coolRecovery_start (hmode : s.dev.chMode l ≠ 0) (hoff : s.dev.flagi CH_STAT_NEEDOFF l = false) :
    Gives (.coolRecovery m ms tj dt) s ((s.dev.setCh l { s.dev.ch l with retryRun := false }).startDue l) := by
  have hgives := gives_coolRecovery hl hstate hms hall
  rwa [if_pos ⟨hmode, by rw [hoff]; rfl⟩] at hgives

theorem gives_coolRecovery_off (hmode : s.dev.chMode l = 0) : Gives (.coolRecovery m ms tj dt) s
    ((s.dev.setCh l { s.dev.ch l with retryRun := false }).each (s.dev.chMembers l) fun d k =>
      (d.wri CH_STAT_STATE k 0).chIdle k) := by
  have hgives := gives_coolRecovery hl hstate hms hall
  rwa [if_neg fun h => h.1 hmode] at hgives

end

theorem gives_coolRecovery_early {ms : Nat} (hms : ms < s.dev.rdi CH_FAULT_RETRY (s.dev.chLead m)) (tj dt : List Int) :
    Gives (.coolRecovery m ms tj dt) s s.dev :=
  gives_onDev (exec_coolRecovery ..) (if_neg fun h => Nat.not_le.mpr hms h.2.1)

end Sys2Proof.Machine
end

section
/-! SUPPORT. The owner's commands of a load channel: the latch clear, the open-load test, and manual drive (R2, R253, R269, R279 to
R281, R294). -/

namespace Sys2Proof.Machine

theorem exec_latchClear (init m value : Nat) (s : State) :
    exec (.latchClear init m value) s = execLatchClear init m value s := rfl
theorem exec_manualDrive (init m cmd : Nat) (s : State) : exec (.manualDrive init m cmd) s = execManualDrive init m cmd s := rfl
theorem exec_manualDriveEnd (init m cmd : Nat) (s : State) :
    exec (.manualDriveEnd init m cmd) s = execManualDriveEnd init m cmd s := rfl
theorem exec_openLoadFilterEnd (m mv : Nat) (s : State) : exec (.openLoadFilterEnd m mv) s = execOpenLoadFilterEnd m mv s := rfl
theorem exec_openLoadCompare (m mv : Nat) (s : State) : exec (.openLoadCompare m mv) s = execOpenLoadCompare m mv s := rfl
theorem exec_manualLeaseExpiry (m : Nat) (tie : Bool) (s : State) :
    exec (.manualLeaseExpiry m tie) s = execManualLeaseExpiry m tie s := rfl

/-- An access to the load channels, which domain 2 powers, by an initiator that can make it (R29, R35). -/
theorem gives_onChannels {i : Instr} {s : State} {init : Nat} {f : Dev → Dev} {d : Dev}
    (he : exec i s = onBlockBy init 0x40300000 f s) (hport : s.dev.portOpen init = true) (hdom : s.dev.domainOn 2 = true)
    (h : f (s.dev.answered 0) = d) : Gives i s d :=
  h ▸ gives_onBlockBy he hport hdom

variable {s : State} {m : Nat}

section
variable {init : Nat} (hport : s.dev.portOpen init = true) (hdom : s.dev.domainOn 2 = true)
include hport hdom

/-! ### Banks that the variant does not fit (R2) -/

section
variable (hfit : s.dev.bankFitted (bankOf m) = false)
include hfit

omit hport hdom in
theorem bank_unfitted : (!(s.dev.answered 0).bankFitted (bankOf m)) = true := congrArg not hfit

theorem gives_latchClear_unfitted (value : Nat) : Gives (.latchClear init m value) s (s.dev.answered 0) :=
  gives_onChannels (exec_latchClear ..) hport hdom (if_pos (bank_unfitted hfit))

theorem gives_manualDrive_unfitted (cmd : Nat) : Gives (.manualDrive init m cmd) s (s.dev.answered 0) ∧
    Gives (.manualDriveEnd init m cmd) s (s.dev.answered 0) :=
  ⟨gives_onChannels (exec_manualDrive ..) hport hdom (if_pos (bank_unfitted hfit)),
    gives_onChannels (exec_manualDriveEnd ..) hport hdom (if_pos (bank_unfitted hfit))⟩

end

section
variable (hfit : s.dev.bankFitted (bankOf m) = true)
include hfit

omit hport hdom in
theorem bank_not_unfitted : ¬ (!(s.dev.answered 0).bankFitted (bankOf m)) = true := by
  rw [Bool.not_eq_true]
  exact congrArg not hfit

/-! ### The latch clear (R253, R294) -/

theorem gives_latchClear_refused (howner : s.dev.tag init ≠ s.dev.rdi CH_OWNER m ∨ s.dev.tag init = 0xFFFF ∨
    s.dev.ctxBarred (s.dev.tag init) = true) (value : Nat) :
    Gives (.latchClear init m value) s (((s.dev.answered 0).refuse (s.dev.tag init) BANK_ACCERR_ACC_ERR (bankOf m)).answered 0) :=
  gives_onChannels (exec_latchClear ..) hport hdom ((if_neg (bank_not_unfitted hfit)).trans (if_pos howner))

/-- The group of a latch passes to COOL with NEEDOFF, its counter at 0 (R253). -/
def Dev.latchCleared (d : Dev) (l : Nat) : Dev :=
  (d.fwClear (.channel l)).each ((d.fwClear (.channel l)).chMembers l) fun d k =>
    (d.wri CH_STAT_NEEDOFF k 1).wri CH_STAT_STATE k 4

theorem gives_latchClear_owner {value l : Nat} (howner : s.dev.tag init = s.dev.rdi CH_OWNER m)
    (hdeclared : s.dev.tag init ≠ 0xFFFF) (hbarred : s.dev.ctxBarred (s.dev.tag init) = false) (hl : l = s.dev.chLead m)
    (hvalue : value % 2 = 1) (hstate : s.dev.chState l = 5) : Gives (.latchClear init m value) s
      ((((s.dev.answered 0).latchCleared l).bankRec (bankOf m) 0x0415 [l]).answered 0) := by
  subst hl
  have hallowed : ¬ (s.dev.tag init ≠ s.dev.rdi CH_OWNER m ∨ s.dev.tag init = 0xFFFF ∨
      s.dev.ctxBarred (s.dev.tag init) = true) := by
    simp [← howner, hdeclared, hbarred]
  exact gives_onChannels (exec_latchClear ..) hport hdom
    ((if_neg (bank_not_unfitted hfit)).trans ((if_neg hallowed).trans (if_pos ⟨hvalue, hstate⟩)))

/-! ### Manual drive (R279 to R281) -/

theorem gives_manualDrive_allowed (hallowed : s.dev.manAllowed (s.dev.tag init) m = true) (cmd : Nat) :
    Gives (.manualDrive init m cmd) s (((s.dev.answered 0).manWrite m 1 cmd).answered 0) ∧
    Gives (.manualDriveEnd init m cmd) s (((s.dev.answered 0).manWrite m 0 cmd).answered 0) :=
  ⟨gives_onChannels (exec_manualDrive ..) hport hdom ((if_neg (bank_not_unfitted hfit)).trans (if_pos hallowed)),
    gives_onChannels (exec_manualDriveEnd ..) hport hdom ((if_neg (bank_not_unfitted hfit)).trans (if_pos hallowed))⟩

theorem gives_manualDrive_refused (hrefused : s.dev.manAllowed (s.dev.tag init) m = false) (cmd : Nat) :
    Gives (.manualDrive init m cmd) s (((s.dev.answered 0).refuse (s.dev.tag init) BANK_ACCERR_ACC_ERR (bankOf m)).answered 0) ∧
    Gives (.manualDriveEnd init m cmd) s
      (((s.dev.answered 0).refuse (s.dev.tag init) BANK_ACCERR_ACC_ERR (bankOf m)).answered 0) := by
  have hrefused' : ¬ (s.dev.answered 0).manAllowed ((s.dev.answered 0).tag init) m = true := ne_true_of_eq_false hrefused
  exact ⟨gives_onChannels (exec_manualDrive ..) hport hdom ((if_neg (bank_not_unfitted hfit)).trans (if_neg hrefused')),
    gives_onChannels (exec_manualDriveEnd ..) hport hdom ((if_neg (bank_not_unfitted hfit)).trans (if_neg hrefused'))⟩

end

end

/-- The lease ends manual drive, unless a write renews it in the same clock cycle (R281, R287). -/
theorem gives_manualLeaseExpiry (tie : Bool) :
    Gives (.manualLeaseExpiry m tie) s (if tie then s.dev else s.dev.manEnd (s.dev.chLead m)) :=
  gives_onDev (exec_manualLeaseExpiry ..) rfl

/-! ### The open-load test (R268, R269) -/

/-- The test ends: the pull-up of OLMODE 1 stays or returns, that of OLMODE 2 does not. -/
def Dev.olFound (d : Dev) (m : Nat) : Dev :=
  ((d.wri CH_STAT_OPEN m 0).wri CH_STAT_STB m 0).setCh m { d.ch m with pullUp := d.rdi CH_CFG_OLMODE m == 1 }

theorem gives_openLoadFilterEnd {mv : Nat} (hpull : (s.dev.ch m).pullUp = true) : Gives (.openLoadFilterEnd m mv) s
    (if s.dev.olThreshold m < mv then s.dev.setCh m { s.dev.ch m with pullUp := false, compare := true }
    else s.dev.olFound m) := by
  have hmode : ((s.dev.wri CH_STAT_OPEN m 0).wri CH_STAT_STB m 0).rdi CH_CFG_OLMODE m = s.dev.rdi CH_CFG_OLMODE m := by
    rw [Dev.rdi_wri_beside _ (by decide), Dev.rdi_wri_beside _ (by decide)]
  rw [Dev.olFound, ← hmode]
  exact gives_onDev (exec_openLoadFilterEnd ..) (if_pos hpull)

theorem Dev.olFound_reads (d : Dev) (m : Nat) : (d.olFound m).rdi CH_STAT_OPEN m = 0 ∧ (d.olFound m).rdi CH_STAT_STB m = 0 ∧
    (d.olFound m).ch m = { d.ch m with pullUp := d.rdi CH_CFG_OLMODE m == 1 } :=
  ⟨(Dev.rdi_wri_beside _ (by decide) ..).trans (Dev.rdi_wri_self ..), Dev.rdi_wri_self .., Dev.ch_setCh_self ..⟩

theorem gives_openLoadCompare {mv : Nat} (hcompare : (s.dev.ch m).compare = true) {d : Dev}
    (hd : d = s.dev.setCh m { s.dev.ch m with compare := false, pullUp := s.dev.rdi CH_CFG_OLMODE m == 1 }) :
    Gives (.openLoadCompare m mv) s
      (if mv < s.dev.olThreshold m then ((d.wri CH_STAT_OPEN m 1).wri CH_EVT_OPEN m 1).bankRec (bankOf m) 0x0416 [m]
      else ((d.wri CH_STAT_STB m 1).wri CH_EVT_STB m 1).bankRec (bankOf m) 0x0417 [m]) := by
  subst hd
  exact gives_onDev (exec_openLoadCompare ..) (if_pos hcompare)

end Sys2Proof.Machine
end

section
/-! SUPPORT. The lock of a bank, and the conditions under which a bank's commands do nothing (R253, R297, R299, R301). -/

namespace Sys2Proof.Machine

theorem exec_overvoltageLock (b lo us : Nat) (s : State) : exec (.overvoltageLock b lo us) s = execOvervoltageLock b lo us s := rfl
theorem exec_undervoltageLock (b hi us : Nat) (s : State) :
    exec (.undervoltageLock b hi us) s = execUndervoltageLock b hi us s := rfl
theorem exec_supplyUnlock (b lo hi us : Nat) (s : State) : exec (.supplyUnlock b lo hi us) s = execSupplyUnlock b lo hi us s := rfl
theorem exec_classCheckEnd (b lo hi : Nat) (s : State) : exec (.classCheckEnd b lo hi) s = execClassCheckEnd b lo hi s := rfl
theorem exec_keeperReset (b hi us : Nat) (s : State) : exec (.keeperReset b hi us) s = execKeeperReset b hi us s := rfl
theorem exec_keeperStart (b lo us : Nat) (s : State) : exec (.keeperStart b lo us) s = execKeeperStart b lo us s := rfl

/-! ### The lock (R253, R299) -/

/-- One channel of a bank that locks. -/
def Dev.lockChan (d : Dev) (m : Nat) : Dev := (d.unwait m).chOff m 6

section
variable (d : Dev) (m : Nat)

theorem Dev.unwait_same {k : Nat} (h : k ≠ m) : d.sameChan (d.unwait m) k :=
  (((Dev.onlyChans.refl d [m] []).setCh List.mem_cons_self _).same (List.mem_singleton.not.mpr h) (by simp)).trans
    (.of_each k (fun e _ _ => .wri_bank e (f := BANK_WAITING_CHANS) (by decide) ..) _)

theorem Dev.unwait_rdi_bank {g : Field} (hg : g.ofBank) (hne : g.place ≠ BANK_WAITING_CHANS.place) (b : Nat) :
    (d.unwait m).rdi g b = d.rdi g b :=
  Dev.rdi_each (fun _ _ => (Dev.rdi_wri ..).trans (if_neg (Field.key_bank_ne_of_place_ne (by decide) hg hne _ _))) _ _

theorem Dev.lockChan_same {k : Nat} (h : k ≠ m) : d.sameChan (d.lockChan m) k :=
  (d.unwait_same m h).trans (((d.unwait m).chOff_only m 6).same (List.mem_singleton.not.mpr h) (by decide))

theorem Dev.lockChan_rdi_bank {g : Field} (hg : g.ofBank) (hne : g.place ≠ BANK_WAITING_CHANS.place) (b : Nat) :
    (d.lockChan m).rdi g b = d.rdi g b :=
  (((d.unwait m).chOff_only m 6).rdi_bank hg (by decide) b).trans (d.unwait_rdi_bank m hg hne b)

end

/-- The lock before it is recorded: the bank's state and reason, its channels, and the event. -/
def Dev.lockShown (d : Dev) (b why : Nat) : Dev :=
  (((d.wri BANK_STAT_STATE b 3).wri BANK_STAT_LOCKWHY b why).each (bankChans b) Dev.lockChan).wri BANK_EVT_LOCK b 1

section
variable (d : Dev) (b why : Nat)

theorem Dev.bankLock_recorded : d.bankLock b why true = (d.lockShown b why).bankRec b 0x0420 [why] := by
  dsimp only [Dev.bankLock, Dev.lockShown]
  rw [if_pos rfl]
  rfl

theorem Dev.lockShown_reads : (d.lockShown b why).rdi BANK_STAT_STATE b = 3 ∧
    (d.lockShown b why).rdi BANK_STAT_LOCKWHY b = why % 8 ∧ (d.lockShown b why).rdi BANK_EVT_LOCK b = 1 := by
  have hkept {g : Field} (hg : g.ofBank) (hevt : g.place ≠ BANK_EVT_LOCK.place) (hwait : g.place ≠ BANK_WAITING_CHANS.place) :
      (d.lockShown b why).rdi g b = ((d.wri BANK_STAT_STATE b 3).wri BANK_STAT_LOCKWHY b why).rdi g b :=
    (Dev.rdi_wri ..).trans ((if_neg (Field.key_bank_ne_of_place_ne (by decide) hg hevt b b)).trans
      (Dev.rdi_each (fun e m => e.lockChan_rdi_bank m hg hwait b) _ _))
  have hstate : ((d.wri BANK_STAT_STATE b 3).wri BANK_STAT_LOCKWHY b why).rdi BANK_STAT_STATE b = 3 := by
    simp (disch := decide) only [Dev.rdi_wri_ne, Dev.rdi_wri_self]
    rfl
  exact ⟨(hkept (by decide) (by decide) (by decide)).trans hstate,
    (hkept (by decide) (by decide) (by decide)).trans (Dev.rdi_wri_self ..), Dev.rdi_wri_self ..⟩

theorem Dev.lockShown_at {m : Nat} (hm : m ∈ bankChans b) :
    (d.lockShown b why).chState m = 6 ∧ ((d.lockShown b why).ch m).output = false := by
  obtain ⟨e, -, hafter⟩ := Dev.sameChan.each_at (fun e j k hkj => e.lockChan_same j hkj) (bankChans_nodup b) hm
    ((d.wri BANK_STAT_STATE b 3).wri BANK_STAT_LOCKWHY b why)
  have hshown := hafter.trans (.wri_bank _ (f := BANK_EVT_LOCK) (by decide) b 1 m)
  obtain ⟨hstate, hout⟩ := (e.unwait m).chOff_off m (st := 6) (by decide)
  exact ⟨hshown.chState.trans hstate, (congrArg ChanState.output hshown.1).trans hout⟩

end

variable {s : State} {b : Nat}

theorem gives_overvoltageLock {lo us : Nat} (hstate : s.dev.rdi BANK_STAT_STATE b = 2) (hvolt : s.dev.overVolt b lo us = true) :
    Gives (.overvoltageLock b lo us) s ((s.dev.lockShown b 3).bankRec b 0x0420 [3]) :=
  s.dev.bankLock_recorded b 3 ▸ gives_onDev (exec_overvoltageLock ..) (if_pos ⟨hstate, hvolt⟩)

/-! ### Conditions that are not met (R297, R299, R301) -/

theorem gives_locks_inactive (h : s.dev.rdi BANK_STAT_STATE b ≠ 2) (v us : Nat) :
    Gives (.overvoltageLock b v us) s s.dev ∧ Gives (.undervoltageLock b v us) s s.dev :=
  ⟨gives_onDev (exec_overvoltageLock ..) (if_neg fun hmet => h hmet.1),
    gives_onDev (exec_undervoltageLock ..) (if_neg fun hmet => h hmet.1)⟩

/-- Up to 36.0 V there is overvoltage in neither class. -/
theorem Dev.overVolt_low (d : Dev) {lo : Nat} (h : lo ≤ 36000) (b us : Nat) : d.overVolt b lo us = false := by
  have h12 : ¬ 36000 < lo := by omega
  have h48 : ¬ 58500 < lo := by omega
  simp [Dev.overVolt, h12, h48]

theorem gives_overvoltageLock_low {lo : Nat} (h : lo ≤ 36000) (us : Nat) : Gives (.overvoltageLock b lo us) s s.dev :=
  gives_onDev (exec_overvoltageLock ..) (if_neg fun hmet => ne_true_of_eq_false (s.dev.overVolt_low h b us) hmet.2)

theorem gives_undervoltageLock_unmet {hi us : Nat} (h : s.dev.rdi BANK_CFG_VCLASS b ≠ 1 ∨ 24000 ≤ hi ∨ us < 1000) :
    Gives (.undervoltageLock b hi us) s s.dev := by
  refine gives_onDev (exec_undervoltageLock ..) (if_neg fun ⟨_, hclass, hvolt, htime⟩ => ?_)
  have hclass : s.dev.rdi BANK_CFG_VCLASS b = 1 := beq_iff_eq.mp hclass
  omega

/-- A lock that waits for a deck ends by no supply voltage, and no lock within 10 ms. -/
theorem Dev.unlockVolt_unmet (d : Dev) {b us : Nat}
    (h : us < 10000 ∨ d.rdi BANK_STAT_LOCKWHY b = 1 ∨ d.rdi BANK_STAT_LOCKWHY b = 2) (lo hi : Nat) :
    d.unlockVolt b lo hi us = false := by
  rcases h with h | h | h
  · rw [Dev.unlockVolt, decide_eq_false (by omega), Bool.false_and]
  · simp [Dev.unlockVolt, h]
  · simp [Dev.unlockVolt, h]

theorem gives_supplyUnlock_unmet {us : Nat}
    (h : us < 10000 ∨ s.dev.rdi BANK_STAT_LOCKWHY b = 1 ∨ s.dev.rdi BANK_STAT_LOCKWHY b = 2) (lo hi : Nat) :
    Gives (.supplyUnlock b lo hi us) s s.dev :=
  gives_onDev (exec_supplyUnlock ..) (if_neg fun hmet => ne_true_of_eq_false (s.dev.unlockVolt_unmet h lo hi) hmet.2)

theorem gives_classCheckEnd_idle (h : s.dev.rdi BANK_STAT_STATE b ≠ 1) (lo hi : Nat) :
    Gives (.classCheckEnd b lo hi) s s.dev :=
  gives_onDev (exec_classCheckEnd ..) (if_pos h)

theorem gives_keeperReset_unmet {v us : Nat} (h : 4000 ≤ v ∨ us < 100) : Gives (.keeperReset b v us) s s.dev :=
  gives_onDev (exec_keeperReset ..) (if_neg fun hmet => by omega)

theorem gives_keeperStart_unmet {v us : Nat} (h : v ≤ 4500 ∨ us < 100) : Gives (.keeperStart b v us) s s.dev :=
  gives_onDev (exec_keeperStart ..) (if_neg fun hmet => by omega)

end Sys2Proof.Machine
end

section
/-! CERTIFICATES. The statements of the load channels family that are settled. -/

namespace Sys2Proof.Proofs
open Sys2Proof.Machine

/-- Settles O30: the channels of a bank lock one by one, each on its own (`Dev.sameChan.each_at`), and the bank's own registers stay
as they are meanwhile; each other clause is a condition that its hypotheses deny, and the command then does nothing (log
entry 10). -/
theorem bankLockState : Obligations.BankLockState := by
  refine ⟨?locks, fun s b v us h => gives_locks_inactive h v us, fun s b lo us h => gives_overvoltageLock_low h us,
    fun s b hi us h => gives_undervoltageLock_unmet h, fun s b lo hi us h => gives_supplyUnlock_unmet h lo hi,
    fun s b lo hi h => gives_classCheckEnd_idle h lo hi, fun s b v us h => gives_keeperReset_unmet h,
    fun s b v us h => gives_keeperStart_unmet h⟩
  intro s b m lo us hb hm hstate hvolt
  obtain ⟨hlocked, hwhy, hevt⟩ := s.dev.lockShown_reads b 3
  have hmem : m ∈ bankChans b := hm ▸ mem_bankChans
  obtain ⟨hchan, hout⟩ := s.dev.lockShown_at b 3 hmem
  have hsame := (s.dev.lockShown b 3).bankRec_sameChan b 0x0420 [3] m
  have hkept {g : Field} (hg : g.ofBank) (hne : g.place ≠ BANK_LINKERR_LOGLOST.place) :=
    (s.dev.lockShown b 3).bankRec_rdi_bank hg hne b 0x0420 [3] b
  exact ⟨_, gives_overvoltageLock hstate hvolt, (hkept (by decide) (by decide)).trans hlocked,
    (hkept (by decide) (by decide)).trans hwhy, (hkept (by decide) (by decide)).trans hevt, hsame.chState.trans hchan,
    (congrArg ChanState.output hsame.1).trans hout⟩

/-- Settles O33: the members of a group act each on its own channel (`Dev.sameChan.each_at`); the window's end and the limiter change
one channel, and outside the window begin a short event of its bank. -/
theorem channelOutputCommands : Obligations.ChannelOutputCommands := by
  refine ⟨fun s m => gives_pwmPeriodStart, ?starts, ?ends, ?restarts, ?window, ?windowRegulating, ?regulates, ?windowRegulates,
    fun s m cur hcur => exec_of_gives_same (gives_limiterRegulate_below hcur), ?regulationEnds⟩
  case starts =>
    intro s m hruns
    exact ⟨_, gives_pwmPeriodStart hruns, fun k hk => s.dev.each_periodBegin_at (s.dev.chMembers_nodup m) hk⟩
  case ends =>
    intro s m hruns hout hhigh
    obtain ⟨hrest, hch, hregs⟩ := Dev.onlyChans.each Dev.highEnd_only s.dev (s.dev.chMembers m)
    refine ⟨_, gives_pwmHighTimeEnd hruns hout hhigh, fun k hk => s.dev.each_highEnd_at (s.dev.chMembers_nodup m) hk, hch, hrest,
      fun g j hg => hregs g j ?_⟩
    intro f hf k hk
    rw [List.mem_singleton.mp hf]
    exact hg (CH_STAT_LIMITING, k) (List.mem_map_of_mem hk)
  case restarts =>
    intro s m k phase duty period hlead hk hrestart hmode
    obtain ⟨-, hch, -⟩ := Dev.onlyChans.each Dev.restartPwm_only s.dev (s.dev.chMembers m)
    obtain ⟨hduty, hperiod, hnone, hnext, hon, hout⟩ :=
      s.dev.each_restartPwm_at (s.dev.chMembers_nodup m) hk hrestart hmode
    exact ⟨_, gives_pwmRestart hlead, hduty, hperiod, hnone, hnext, hon, hout, hch⟩
  case window =>
    intro s m hstate hwin hlim
    have hgives := gives_inrushWindowEnd hstate hwin
    rw [if_neg (ne_true_of_eq_false hlim)] at hgives
    exact ⟨_, hgives, Dev.rdi_wri_self .., Dev.ch_setCh_self .., rfl, s.dev.windowEnded_regsBut m (by simp)⟩
  case windowRegulating =>
    intro s m hstate hwin hlim
    have hgives := gives_inrushWindowEnd hstate hwin
    rw [if_pos hlim] at hgives
    exact ⟨_, hgives, (Dev.dwellBegun_rdi _ m (by decide) m).trans (Dev.rdi_wri_self ..),
      (Dev.dwellBegun_ch ..).trans (by rw [Dev.windowEnded, Dev.ch_setCh_self]), Dev.dwellBegun_shortEvent .., rfl,
      ((s.dev.windowEnded_regsBut m (by simp)).dwellBegun (by simp))⟩
  case regulates =>
    intro s m cur hstate hout hcur
    have hgives := gives_limiterRegulate (.inr hstate) hout (by rwa [Dev.limitNow_on hstate])
    rw [if_pos hstate] at hgives
    exact ⟨_, hgives, (Dev.dwellBegun_rdi _ m (by decide) m).trans (Dev.rdi_wri_self ..), Dev.dwellBegun_shortEvent ..,
      (Dev.dwellBegun_ch ..).trans (by rw [Dev.regulating, Dev.ch_setCh_self]), rfl,
      ((s.dev.regulating_regsBut m (by simp)).dwellBegun (by simp))⟩
  case windowRegulates =>
    intro s m cur hstate hout hwin hcur
    have hgives := gives_limiterRegulate (.inl hstate) hout (by rwa [Dev.limitNow_window hstate hwin])
    rw [if_neg (by rw [hstate]; decide)] at hgives
    exact ⟨_, hgives, Dev.rdi_wri_self .., Dev.ch_setCh_self .., rfl, s.dev.regulating_regsBut m (by simp)⟩
  case regulationEnds =>
    intro s m cur hcur
    exact ⟨_, gives_regulationEnd hcur, Dev.rdi_wri_self .., Dev.ch_setCh_self .., rfl,
      ((Dev.regsBut.refl s.dev _).setCh m _).wri (by simp) _⟩

/-- Settles O34: a trip turns every member of the group off, each with the cause that it shows (`Dev.chTrip_at`); the models step
exactly where the divisions leave nothing to round. -/
theorem channelTripCommands : Obligations.ChannelTripCommands := by
  refine ⟨fun s m run same hstate hdwell hrun => gives_dwellTrip hstate hdwell hrun same, ?members,
    fun s m run same hrun => exec_of_gives_same (gives_dwellTrip_early hrun same),
    fun s m d0 d1 d2 same hlive h0 h1 h2 => gives_dtTrip hlive h0 h1 h2 same,
    fun s m t0 t1 t2 same hlive h0 h1 h2 => gives_tjTrip_live h0 h1 h2 hlive same,
    fun s m t0 t1 t2 same hstate h0 h1 h2 => gives_tjTrip_idle h0 h1 h2 hstate same,
    fun s m t0 t1 t2 d0 d1 d2 same hstate => ⟨gives_tjTrip_off hstate t0 t1 t2 same,
      gives_dtTrip_off (chLive_of_off hstate) d0 d1 d2 same⟩, ?follower, ?lead,
    fun s m l ms tj dt hl hstate hms hall hmode hoff => gives_coolRecovery_start hl hstate hms hall hmode hoff,
    fun s m l ms tj dt hl hstate hms hall hmode => gives_coolRecovery_off hl hstate hms hall hmode,
    fun s m ms tj dt hms => exec_of_gives_same (gives_coolRecovery_early hms tj dt)⟩
  case members =>
    intro s m run hstate hdwell hrun
    refine ⟨_, gives_dwellTrip hstate hdwell hrun [], fun k hk => ?_⟩
    obtain ⟨hout, hcause, hevt, hstate'⟩ := s.dev.chTrip_at m 1 0 hk
    have hshown : (if k = m then 1 else 5) % 16 = if k = m then 1 else 5 := by split <;> rfl
    exact ⟨hout, hcause.trans hshown, hevt, hstate'⟩
  case follower =>
    intro s m q cur same hlead hlevel hlive hsum hq hstep
    have hlevel' : s.dev.levelNext m cur < 24576 := by rwa [s.dev.levelNext_follower m cur hlead]
    have hpin : s.dev.pinNext m cur = min (2 ^ 40 - 1) (((s.dev.ch m).pinW * 9999 + q) / 10000) := by
      rw [Dev.pinNext, s.dev.meanSquare_exact hsum, ← hq]
      exact Dev.modelStep_exact _ hstep
    have hgives := gives_wireModelUpdate_off hlive cur same
    rw [Dev.levelWarned_low _ m hlevel'] at hgives
    have hch := s.dev.modelsStored_ch m cur
    rw [s.dev.wireNext_follower m cur hlead] at hch
    refine ⟨_, hgives, ?_, ?_, ?_, ?_, Dev.rdi_wri_self .., ?_⟩
    · rw [Dev.ch_wri, hch, hpin]
    · rw [Dev.ch_wri, hch]
    · rw [Dev.rdi_wri_beside _ (by decide), s.dev.modelsStored_level m cur (hlevel'.trans (by decide)),
        s.dev.levelNext_follower m cur hlead]
    · rw [Dev.rdi_wri_beside _ (by decide), s.dev.modelsStored_pinLevel m cur, Dev.ch_wri, hch]
    · exact (((Dev.regsBut.refl s.dev.fresh.fresh.fresh.fresh _).setCh m _).wri (by simp) _).wri (by simp) _ |>.wri (by simp) _
  case lead =>
    intro s m q tau cur same hlead hlive htau hne hrated hsum hq hstep
    subst htau
    have hlevel := Dev.levelNext_lead cur hlead hrated
    have hlt : s.dev.levelNext m cur < 65536 := by
      rw [hlevel]
      exact (Nat.min_le_left ..).trans_lt (by decide)
    have hw : s.dev.wireNext m cur =
        min (2 ^ 40 - 1) (((s.dev.ch m).w * (100 * s.dev.rdi CH_WIRE_TAU m - 1) + q) / (100 * s.dev.rdi CH_WIRE_TAU m)) := by
      rw [Dev.wireNext_lead cur hlead hne hrated, Dev.meanSquare_exact _ hsum, ← hq]
      exact Dev.modelStep_exact _ hstep
    have hch : (((s.dev.modelsStored m cur).levelWarned m (s.dev.levelNext m cur)).ch m).w = s.dev.wireNext m cur := by
      rw [Dev.levelWarned_ch, Dev.modelsStored_ch]
    refine ⟨_, gives_wireModelUpdate_off hlive cur same, hch.trans hw, ?_, Dev.modelled_chState ..⟩
    rw [(Dev.levelWarned_only _ m _).rdi (by decide), s.dev.modelsStored_level m cur hlt, hch, hlevel]

/-- Settles O35: each clause is the branch of a command that its hypotheses choose, seen through the access that completes. -/
theorem channelOwnerCommands : Obligations.ChannelOwnerCommands := by
  refine ⟨fun s init m value l hport hdom hfit howner hdeclared hbarred hl hvalue hstate =>
      gives_latchClear_owner hport hdom hfit howner hdeclared hbarred hl hvalue hstate,
    fun s init m value hport hdom hfit howner => gives_latchClear_refused hport hdom hfit howner value,
    fun s init m value cmd hport hdom hfit =>
      ⟨gives_latchClear_unfitted hport hdom hfit value, gives_manualDrive_unfitted hport hdom hfit cmd⟩,
    ?above, ?found, ?opened, ?shorted,
    fun s init m cmd hport hdom hfit hallowed => gives_manualDrive_allowed hport hdom hfit hallowed cmd,
    fun s init m cmd hport hdom hfit hrefused => gives_manualDrive_refused hport hdom hfit hrefused cmd,
    fun s m => ⟨gives_manualLeaseExpiry false, exec_of_gives_same (gives_manualLeaseExpiry true)⟩⟩
  case above =>
    intro s m mv hpull hmv
    have hgives := gives_openLoadFilterEnd (mv := mv) hpull
    rwa [if_pos hmv] at hgives
  case found =>
    intro s m mv hpull hmv
    have hgives := gives_openLoadFilterEnd (mv := mv) hpull
    rw [if_neg (Nat.not_lt.mpr hmv)] at hgives
    obtain ⟨hopen, hstb, hch⟩ := s.dev.olFound_reads m
    exact ⟨_, hgives, hopen, hstb, hch, rfl, (((Dev.regsBut.refl s.dev _).wri (by simp) _).wri (by simp) _).setCh m _⟩
  case opened =>
    intro s m mv hcompare hmv
    have hgives := gives_openLoadCompare (mv := mv) hcompare rfl
    rwa [if_pos hmv] at hgives
  case shorted =>
    intro s m mv hcompare hmv
    have hgives := gives_openLoadCompare (mv := mv) hcompare rfl
    rwa [if_neg (Nat.not_lt.mpr hmv)] at hgives

end Sys2Proof.Proofs
end

section
/-! SUPPORT. The class check, the supply locks and their end, the keeper's start, and the end of a short event (R297 to R301,
R315). -/

namespace Sys2Proof.Machine

theorem exec_shortEventEnd (b : Nat) (s : State) : exec (.shortEventEnd b) s = execShortEventEnd b s := rfl

/-! ### A keeper's own state, stored twice -/

theorem insertList_insertList {α : Type} (k : Nat) (u v : α) (l : List (Nat × α)) :
    insertList k v (insertList k u l) = insertList k v l := by
  induction l with
  | nil => simp [insertList]
  | cons x l ih =>
    rcases Nat.lt_trichotomy k x.1 with hlt | heq | hgt
    · simp [insertList, hlt, hlt.ne]
    · simp [insertList, heq]
    · simp [insertList, hgt.ne', Nat.not_lt.mpr hgt.le, ih]

theorem Dev.setBk_setBk (d : Dev) (b : Nat) (x y : BankState) : (d.setBk b x).setBk b y = d.setBk b y := by
  rw [Dev.setBk, Dev.setBk, Map.set, Map.set, insertList_insertList]
  rfl

theorem Dev.bk_setBk_self (d : Dev) (b : Nat) (x : BankState) : (d.setBk b x).bk b = x := by rw [Dev.bk_setBk, if_pos rfl]

/-! ### The supply against the bank's class (R297) -/

section
variable (d : Dev) (b lo hi us : Nat)

/-- A condition that the bank's class chooses. -/
theorem Dev.ite_class48_iff (p q : Bool) :
    (if d.class48 b then p else q) = true ↔
      d.rdi BANK_CFG_VCLASS b ≠ 1 ∧ q = true ∨ d.rdi BANK_CFG_VCLASS b = 1 ∧ p = true := by
  by_cases h : d.rdi BANK_CFG_VCLASS b = 1 <;> simp [Dev.class48, h]

theorem Dev.classMatch_iff : d.classMatch b lo hi = true ↔ d.rdi BANK_CFG_VCLASS b ≠ 1 ∧ 6000 ≤ lo ∧ hi ≤ 20000 ∨
    d.rdi BANK_CFG_VCLASS b = 1 ∧ 30000 ≤ lo ∧ hi ≤ 58000 := by
  rw [Dev.classMatch, Dev.ite_class48_iff, Bool.and_eq_true, Bool.and_eq_true]
  simp only [decide_eq_true_eq]

theorem Dev.classMismatch_iff : d.classMismatch b lo hi = true ↔ d.rdi BANK_CFG_VCLASS b ≠ 1 ∧ 24000 < lo ∨
    d.rdi BANK_CFG_VCLASS b = 1 ∧ 4000 ≤ lo ∧ hi ≤ 24000 := by
  rw [Dev.classMismatch, Dev.ite_class48_iff, Bool.and_eq_true]
  simp only [decide_eq_true_eq]

theorem Dev.overVolt_iff : d.overVolt b lo us = true ↔ d.rdi BANK_CFG_VCLASS b ≠ 1 ∧ 36000 < lo ∧ 1000 ≤ us ∨
    d.rdi BANK_CFG_VCLASS b = 1 ∧ 58500 < lo ∧ 100 ≤ us := by
  rw [Dev.overVolt, Dev.ite_class48_iff, Bool.and_eq_true, Bool.and_eq_true]
  simp only [decide_eq_true_eq]

theorem Dev.unlockVolt_iff : d.unlockVolt b lo hi us = true ↔ 10000 ≤ us ∧
    (d.rdi BANK_STAT_LOCKWHY b = 3 ∧ hi < (if d.rdi BANK_CFG_VCLASS b = 1 then 56000 else 34000) ∨
      d.rdi BANK_STAT_LOCKWHY b = 4 ∧ 30000 < lo) := by
  by_cases h : d.rdi BANK_STAT_LOCKWHY b = 3 <;> simp [Dev.unlockVolt, Dev.class48, h]

variable {d b lo hi} in
/-- No supply lies in both windows of a class check. -/
theorem Dev.classMatch_of_mismatch (hrange : lo ≤ hi) (h : d.classMismatch b lo hi = true) : ¬ d.classMatch b lo hi = true := by
  rw [Dev.classMismatch_iff] at h
  rw [Dev.classMatch_iff]
  omega

end

/-! ### The class check and the supply locks (R298, R299) -/

variable {s : State} {b : Nat}

theorem gives_classCheckEnd_match {lo hi : Nat} (hstate : s.dev.rdi BANK_STAT_STATE b = 1)
    (hmatch : s.dev.classMatch b lo hi = true) :
    Gives (.classCheckEnd b lo hi) s (((s.dev.bankUnlock b).wri BANK_STAT_STATE b 2).wri BANK_STAT_LOCKWHY b 0) :=
  gives_onDev (exec_classCheckEnd ..) ((if_neg (not_not.mpr hstate)).trans (if_pos hmatch))

theorem gives_classCheckEnd_mismatch {lo hi : Nat} (hstate : s.dev.rdi BANK_STAT_STATE b = 1) (hrange : lo ≤ hi)
    (hmismatch : s.dev.classMismatch b lo hi = true) : Gives (.classCheckEnd b lo hi) s (s.dev.bankLock b 2 true) :=
  gives_onDev (exec_classCheckEnd ..)
    ((if_neg (not_not.mpr hstate)).trans ((if_neg (Dev.classMatch_of_mismatch hrange hmismatch)).trans (if_pos hmismatch)))

theorem gives_undervoltageLock {hi us : Nat} (hstate : s.dev.rdi BANK_STAT_STATE b = 2)
    (hclass : s.dev.rdi BANK_CFG_VCLASS b = 1) (hvolt : hi < 24000) (htime : 1000 ≤ us) :
    Gives (.undervoltageLock b hi us) s (s.dev.bankLock b 4 true) :=
  gives_onDev (exec_undervoltageLock ..) (if_pos ⟨hstate, beq_iff_eq.mpr hclass, hvolt, htime⟩)

theorem gives_supplyUnlock {lo hi us : Nat} (hstate : s.dev.rdi BANK_STAT_STATE b = 3)
    (hvolt : s.dev.unlockVolt b lo hi us = true) : Gives (.supplyUnlock b lo hi us) s
      ((((s.dev.bankUnlock b).wri BANK_STAT_STATE b 2).wri BANK_STAT_LOCKWHY b 0).bankRec b 0x0421 [b]) :=
  gives_onDev (exec_supplyUnlock ..) (if_pos ⟨hstate, hvolt⟩)

/-! ### The keeper's reset and start, and the end of a short event (R301, R315) -/

theorem gives_keeperReset {hi us : Nat} (hfit : s.dev.bankFitted b = true) (hvolt : hi < 4000) (htime : 100 ≤ us) :
    Gives (.keeperReset b hi us) s (s.dev.keeperReset b) :=
  gives_onDev (exec_keeperReset ..) (if_pos ⟨hfit, hvolt, htime⟩)

/-- A keeper that starts: PWR rewrites its bank at once, or, where a reset came before, when the core die runs again. -/
theorem gives_keeperStart {lo us : Nat} (hfit : s.dev.bankFitted b = true) (hoff : (s.dev.bk b).keeperOn = false)
    (hvolt : 4500 < lo) (htime : 100 ≤ us) : Gives (.keeperStart b lo us) s
      (if s.dev.coreRuns then (s.dev.setBk b { s.dev.bk b with keeperOn := true }).keeperRewrite b
        else s.dev.setBk b { s.dev.bk b with keeperOn := true, rewriteDue := (s.dev.bk b).again }) := by
  have hwait := s.dev.setBk_setBk b { s.dev.bk b with keeperOn := true }
    { s.dev.bk b with keeperOn := true, rewriteDue := (s.dev.bk b).again }
  refine gives_onDev (exec_keeperStart ..) ((if_pos ⟨hfit, by rw [hoff]; rfl, hvolt, htime⟩).trans ?_)
  rw [← hwait]
  dsimp only
  rw [Dev.bk_setBk_self]
  rfl

theorem gives_shortEventEnd
    (h : ((bankChans b).any fun m => s.dev.chState m == chON && s.dev.flagi CH_STAT_LIMITING m) = false) :
    Gives (.shortEventEnd b) s (s.dev.wri BANK_STAT_SHORTEV b 0) :=
  gives_onDev (exec_shortEventEnd ..) (if_neg (ne_true_of_eq_false h))

end Sys2Proof.Machine
end

section
/-! SUPPORT. The limits of a bank: a budget that is met, the case and dissipation limits as the thermal manager judges them, and the
test of four active cells (R304, R308 to R310, R318 to R320). -/

namespace Sys2Proof.Machine

theorem exec_budgetSample (b : Nat) (cur : List Nat) (trips : List (Nat × Nat)) (s : State) :
    exec (.budgetSample b cur trips) s = execBudgetSample b cur trips s := rfl
theorem exec_caseLimit (b : Nat) (t1 t2 : Int) (cur : List Nat) (trips : List (Nat × Nat)) (s : State) :
    exec (.caseLimit b t1 t2 cur trips) s = execCaseLimit b t1 t2 cur trips s := rfl
theorem exec_thermalShed (b : Nat) (cur : List Nat) (trips : List (Nat × Nat)) (s : State) :
    exec (.thermalShed b cur trips) s = execThermalShed b cur trips s := rfl
theorem exec_dissipationEstimate (b : Nat) (cur : List (List Nat)) (tj : List Int) (trips : List (Nat × Nat)) (s : State) :
    exec (.dissipationEstimate b cur tj trips) s = execDissipationEstimate b cur tj trips s := rfl
theorem exec_cellTest (m : Nat) (cells : List Nat) (spare : Nat) (s : State) :
    exec (.cellTest m cells spare) s = execCellTest m cells spare s := rfl

theorem Dev.regsBut.setBk {d e : Dev} {l : List (Field × Nat)} (h : d.regsBut e l) (b : Nat) (x : BankState) :
    d.regsBut (e.setBk b x) l := h

variable {s : State} {b : Nat}

/-! ### The budget (R304) -/

/-- A budget count that its 14 bits hold falls by 1. -/
theorem Dev.rdi_budcnt_pred (d : Dev) (h : d.rdi BANK_STAT_BUDCNT b ≤ 16383) :
    (d.wri BANK_STAT_BUDCNT b (d.rdi BANK_STAT_BUDCNT b - 1)).rdi BANK_STAT_BUDCNT b = d.rdi BANK_STAT_BUDCNT b - 1 :=
  (Dev.rdi_wri_self ..).trans (Nat.mod_eq_of_lt (by change _ < 16384; omega))

/-- A sample within both limits of the budget: BUDCNT falls by 1, the run above PEAK is broken, and nothing is shed. -/
def Dev.budgetMet (d : Dev) (b : Nat) : Dev :=
  ((d.wri BANK_STAT_BUDCNT b (d.rdi BANK_STAT_BUDCNT b - 1)).setBk b
    { d.bk b with peakRun := 0, sinceShed := min 5 ((d.bk b).sinceShed + 1) }).wri BANK_STAT_OVERBUD b 0

theorem Dev.budgetMet_count (d : Dev) (b : Nat) (h : d.rdi BANK_STAT_BUDCNT b ≤ 16383) :
    (d.budgetMet b).rdi BANK_STAT_BUDCNT b = d.rdi BANK_STAT_BUDCNT b - 1 := by
  simp (disch := decide) only [Dev.budgetMet, Dev.rdi_wri_ne, Dev.setBk_rdi, d.rdi_budcnt_pred h]

theorem Dev.budgetMet_regsBut (d : Dev) (b : Nat) :
    d.regsBut (d.budgetMet b) [(BANK_STAT_BUDCNT, b), (BANK_STAT_OVERBUD, b)] :=
  (((Dev.regsBut.refl d _).wri (by simp) _).setBk b _).wri (by simp) _

theorem gives_budgetSample_met {cur : List Nat}
    (hcont : (List.range 16).foldl (fun t i => t + cur.getD i 0) 0 ≤ s.dev.rdi BANK_BUDGET_CONT b * 100)
    (hpeak : (List.range 16).foldl (fun t i => t + cur.getD i 0) 0 ≤ s.dev.rdi BANK_BUDGET_PEAK b * 100)
    (hcount : s.dev.rdi BANK_STAT_BUDCNT b - 1 < s.dev.rdi BANK_BUDGET_OVERMS b * 100)
    (hwidth : s.dev.rdi BANK_STAT_BUDCNT b ≤ 16383) : Gives (.budgetSample b cur []) s (s.dev.budgetMet b) := by
  refine gives_onDev (exec_budgetSample ..) ?_
  simp (disch := decide) only [Nat.not_lt.mpr hcont, if_false, Dev.rdi_wri_ne, Nat.not_lt.mpr hpeak, Dev.setBk_rdi,
    Dev.rdi_budcnt_pred _ hwidth, Nat.not_le.mpr hcount]
  rfl

/-! ### The thermal manager (R309, R310) -/

/-- While no limit is broken the thermal manager sheds nothing, and the trips of the cycle take effect. -/
theorem Dev.thermalShed_intact (d : Dev) (b : Nat) (cur : List Nat) (trips : List (Nat × Nat)) :
    d.thermalShed b false cur trips = d.each trips Dev.tripLive := rfl

/-- Both case samples lie above CASEMAX. -/
def Dev.caseAbove (d : Dev) (b : Nat) (t1 t2 : Int) : Bool :=
  decide (((d.rdi BANK_CFG_CASEMAX b * 8 : Nat) : Int) < t1) && decide (((d.rdi BANK_CFG_CASEMAX b * 8 : Nat) : Int) < t2)

theorem Dev.caseAbove_iff (d : Dev) (b : Nat) (t1 t2 : Int) : d.caseAbove b t1 t2 = true ↔
    ((d.rdi BANK_CFG_CASEMAX b * 8 : Nat) : Int) < t1 ∧ ((d.rdi BANK_CFG_CASEMAX b * 8 : Nat) : Int) < t2 := by
  rw [Dev.caseAbove, Bool.and_eq_true, decide_eq_true_eq, decide_eq_true_eq]

/-- The case samples are judged: the limit is broken or not, and its breach is recorded when it begins. -/
def Dev.caseJudged (d : Dev) (b : Nat) (broken : Bool) : Dev :=
  let e := (d.setBk b { d.bk b with caseBroken := broken }).thermShow b
  let e := if broken then e.wri BANK_EVT_CASELIM b 1 else e
  if broken && !(d.bk b).caseBroken then e.bankRec b 0x0429 [b] else e

theorem gives_caseLimit {t1 t2 : Int} {broken : Bool} (h : s.dev.caseAbove b t1 t2 = broken) (cur : List Nat)
    (trips : List (Nat × Nat)) :
    Gives (.caseLimit b t1 t2 cur trips) s ((s.dev.caseJudged b broken).thermalShed b broken cur trips) := by
  subst h
  exact gives_onDev (exec_caseLimit ..) rfl

theorem Dev.caseJudged_first (d : Dev) (h : (d.bk b).caseBroken = false) : d.caseJudged b true =
    (((d.setBk b { d.bk b with caseBroken := true }).thermShow b).wri BANK_EVT_CASELIM b 1).bankRec b 0x0429 [b] := by
  rw [Dev.caseJudged, h]
  rfl

theorem Dev.caseJudged_again (d : Dev) (h : (d.bk b).caseBroken = true) : d.caseJudged b true =
    ((d.setBk b { d.bk b with caseBroken := true }).thermShow b).wri BANK_EVT_CASELIM b 1 := by
  rw [Dev.caseJudged, h]
  rfl

theorem gives_thermalShed {broken : Bool} (h : s.dev.flagi BANK_STAT_THERMLIM b = broken) (cur : List Nat)
    (trips : List (Nat × Nat)) : Gives (.thermalShed b cur trips) s
      ((s.dev.setBk b { s.dev.bk b with thermWait := false }).thermalShed b broken cur trips) := by
  subst h
  exact gives_onDev (exec_thermalShed ..) rfl

/-- The current samples' square sums times the on-resistances of the bank's channels (R309). -/
def Dev.heat (d : Dev) (b : Nat) (cur : List (List Nat)) (tj : List Int) : Int :=
  (List.range 16).foldl (fun (t : Int) i =>
    t + (((cur.getD i []).take 100).map fun x => x * x).sum * d.onResistance (b * 16 + i) (tj.getD i 200)) 0

/-- The estimates of the last 1,000 ms in µW when one more joins them. -/
def Dev.estimates (d : Dev) (b micro : Nat) : List Nat := (micro :: (d.bk b).pRing).take 1000

/-- The sum of 1,000 estimates, where a missing one counts 0.30 W. -/
def estimateSum (ring : List Nat) : Nat := ring.foldl (· + ·) 0 + (1000 - ring.length) * 300000

/-- An estimate joins the others and is shown with their mean, which draws the three free values of the roundings (log entry 5). -/
def Dev.estimated (d : Dev) (b micro : Nat) : Dev :=
  ((d.fresh.fresh.fresh.setBk b { d.bk b with pRing := d.estimates b micro }).wri BANK_PDISS_PMS b
    (min (d.fresh.quot micro 10000) 65535)).wri BANK_PDISS_PMEAN b
    (min (d.fresh.fresh.quot (estimateSum (d.estimates b micro)) 10000000) 65535)

/-- The mean is judged: the limit is broken or not, and its breach is recorded when it begins. -/
def Dev.dissipationJudged (d : Dev) (b : Nat) (broken : Bool) : Dev :=
  let e := (d.setBk b { d.bk b with pdBroken := broken }).thermShow b
  let e := if broken then e.wri BANK_EVT_PDLIM b 1 else e
  if broken && !(d.bk b).pdBroken then e.bankRec b 0x0429 [b] else e

theorem gives_dissipationEstimate {cur : List (List Nat)} {tj : List Int} {micro : Nat} {broken : Bool}
    (hmicro : 300000 + s.dev.quot (s.dev.heat b cur tj).toNat (10 ^ 11) = micro)
    (hbroken : decide (s.dev.rdi BANK_CFG_PDMAX b * 100000 * 1000 < estimateSum (s.dev.estimates b micro)) = broken)
    (trips : List (Nat × Nat)) : Gives (.dissipationEstimate b cur tj trips) s
      (((s.dev.estimated b micro).dissipationJudged b broken).thermalShed b broken (cur.map fun l => l.getD 99 0) trips) := by
  have hlimit : (s.dev.estimated b micro).rdi BANK_CFG_PDMAX b = s.dev.rdi BANK_CFG_PDMAX b := by
    simp (disch := decide) only [Dev.estimated, Dev.rdi_wri_ne, Dev.setBk_rdi, Dev.fresh_rdi]
  rw [← hlimit] at hbroken
  subst hmicro hbroken
  exact gives_onDev (exec_dissipationEstimate ..) rfl

theorem Dev.estimated_bk (d : Dev) (b micro : Nat) : (d.estimated b micro).bk b = { d.bk b with pRing := d.estimates b micro } :=
  Dev.bk_setBk_self ..

section
variable (d : Dev) (b : Nat)

theorem Dev.dissipationJudged_false_bk : (d.dissipationJudged b false).bk b = { d.bk b with pdBroken := false } :=
  Dev.bk_setBk_self ..

/-- Within the dissipation limit THERMLIM shows the case limit alone. -/
theorem Dev.dissipationJudged_false_thermLim :
    (d.dissipationJudged b false).rdi BANK_STAT_THERMLIM b = b2n (d.bk b).caseBroken := by
  have hshown : (d.dissipationJudged b false).rdi BANK_STAT_THERMLIM b = b2n (d.bk b).caseBroken % 2 := by
    refine (Dev.rdi_wri_self ..).trans ?_
    rw [Dev.bk_setBk_self]
    rfl
  rw [hshown]
  cases (d.bk b).caseBroken <;> rfl

end

theorem Dev.estimated_judged_regsBut (d : Dev) (b micro : Nat) : d.regsBut ((d.estimated b micro).dissipationJudged b false)
    [(BANK_PDISS_PMS, b), (BANK_PDISS_PMEAN, b), (BANK_STAT_THERMLIM, b)] :=
  (((((Dev.regsBut.refl d _).setBk (e := d.fresh.fresh.fresh) b _).wri (by simp) _).wri (by simp) _).setBk b _).wri (by simp) _

/-! ### The cell test (R318 to R320) -/

theorem shareOk_iff {i total n : Nat} : shareOk i total n = true ↔ 6 * total ≤ 10 * i * n ∧ 10 * i * n ≤ 14 * total := by
  rw [shareOk, Bool.and_eq_true, decide_eq_true_eq, decide_eq_true_eq]

/-- The test of cell `k`, which carries `i` of `total` mA among `n` cells. -/
def Dev.cellJudged (d : Dev) (m i total n k : Nat) (spareOk : Bool) : Dev :=
  if shareOk i total n then d
  else
    let th := d.rdi BANK_CFG_CELLTH (bankOf m)
    let e := d.fwEvent (.cell m k) th
    if d.fwFires (.cell m k) th then e.retire m k spareOk else e

theorem Dev.cellJudged_pass (d : Dev) {i total n : Nat} (h : shareOk i total n = true) (m k : Nat) (spareOk : Bool) :
    d.cellJudged m i total n k spareOk = d := if_pos h

theorem Dev.cellJudged_fail (d : Dev) {m i total n k : Nat} (h : ¬ shareOk i total n = true)
    (hfires : d.fwFires (.cell m k) (d.rdi BANK_CFG_CELLTH (bankOf m)) = false) (spareOk : Bool) :
    d.cellJudged m i total n k spareOk = d.fwEvent (.cell m k) (d.rdi BANK_CFG_CELLTH (bankOf m)) :=
  (if_neg h).trans (if_neg (ne_true_of_eq_false hfires))

/-- An H channel with no cell retired tests its four active cells, once they carry 8 A. -/
theorem gives_cellTest_four {m i0 i1 i2 i3 : Nat} (hchan : m % 16 < 2) (hstate : s.dev.chState m = chON)
    (hout : (s.dev.ch m).output = true) (hlim : s.dev.flagi CH_STAT_LIMITING m = false) (hmap : s.dev.cellMap m = 0)
    {total : Nat} (htotal : i0 + i1 + i2 + i3 = total) (hmin : 8000 ≤ total) (spare : Nat) :
    Gives (.cellTest m [i0, i1, i2, i3] spare) s (s.dev.each [0, 1, 2, 3] fun d k =>
      d.cellJudged m ([i0, i1, i2, i3].getD k 0) total 4 k (shareOk spare total 4)) := by
  have hsum : [0, 1, 2, 3].foldl (fun t k => t + [i0, i1, i2, i3].getD k 0) 0 = total :=
    (congrArg (· + i1 + i2 + i3) (Nat.zero_add i0)).trans htotal
  refine gives_onDev (exec_cellTest ..) ?_
  rw [hmap]
  dsimp only [cellsOn]
  rw [if_pos rfl, hsum]
  exact if_pos ⟨hchan, hstate, hout, by rw [hlim]; rfl, hmin, by decide⟩

end Sys2Proof.Machine
end

section
/-! CERTIFICATES. The statements of the power banks family that are settled. -/

namespace Sys2Proof.Proofs
open Sys2Proof.Machine

/-- Settles O29: each command acts where the supply meets the condition of the bank's class; the two windows of a class check are
disjoint, and a keeper that starts is rewritten now or when the core die runs (log entry 61). -/
theorem bankStateCommands : Obligations.BankStateCommands := by
  refine ⟨?matched, ?mismatched, ?overvoltage, fun s b hi us => gives_undervoltageLock, ?unlocks,
    fun s b hi us => gives_keeperReset, ?starts, ?waits, ?quiet⟩
  case matched =>
    intro s b lo hi hstate hvolt
    exact gives_classCheckEnd_match hstate ((s.dev.classMatch_iff b lo hi).mpr hvolt)
  case mismatched =>
    intro s b lo hi hstate hrange hvolt
    exact gives_classCheckEnd_mismatch hstate hrange ((s.dev.classMismatch_iff b lo hi).mpr hvolt)
  case overvoltage =>
    intro s b lo us hstate hvolt
    rw [s.dev.bankLock_recorded]
    exact gives_overvoltageLock hstate ((s.dev.overVolt_iff b lo us).mpr hvolt)
  case unlocks =>
    intro s b lo hi us hstate htime hvolt
    exact gives_supplyUnlock hstate ((s.dev.unlockVolt_iff b lo hi us).mpr ⟨htime, hvolt⟩)
  case starts =>
    intro s b lo us hfit hoff hvolt htime hruns
    have hgives := gives_keeperStart hfit hoff hvolt htime
    rwa [if_pos hruns] at hgives
  case waits =>
    intro s b lo us hfit hoff hvolt htime hstopped
    have hgives := gives_keeperStart hfit hoff hvolt htime
    rwa [if_neg (ne_true_of_eq_false hstopped)] at hgives
  case quiet =>
    intro s b hquiet
    exact ⟨_, gives_shortEventEnd hquiet, Dev.rdi_wri_self .., s.dev.onlyRegs_wri ..⟩

/-- Settles O31: a limit that holds sheds nothing (`Dev.thermalShed_intact`), and one that is broken sheds after its record, which
its first breach alone writes; four cells with equal currents pass, and one without current fails. -/
theorem bankLimitCommands : Obligations.BankLimitCommands := by
  refine ⟨?budget, ?caseMet, ?caseAgain, ?caseFirst, fun s b cur trips h => gives_thermalShed h cur trips,
    ?thermalMet, ?dissipation, ?cellsPass, ?cellFails⟩
  case budget =>
    intro s b ib cur hib _ hcont hpeak hcount hwidth
    subst hib
    have hbk : (s.dev.budgetMet b).bk b = _ := Dev.bk_setBk_self ..
    refine ⟨_, gives_budgetSample_met hcont hpeak hcount hwidth, s.dev.budgetMet_count b hwidth, Dev.rdi_wri_self ..,
      congrArg BankState.peakRun hbk, congrArg BankState.sinceShed hbk, s.dev.budgetMet_regsBut b⟩
  case caseMet =>
    intro s b t1 t2 cur trips h1
    have hmet : s.dev.caseAbove b t1 t2 = false :=
      Bool.eq_false_iff.mpr fun h => Int.not_lt.mpr h1 ((s.dev.caseAbove_iff b t1 t2).mp h).1
    have hgives := gives_caseLimit hmet cur trips
    rw [Dev.thermalShed_intact] at hgives
    exact hgives
  case caseAgain =>
    intro s b t1 t2 cur trips h1 h2 hbroken
    rw [← s.dev.caseJudged_again hbroken]
    exact gives_caseLimit ((s.dev.caseAbove_iff b t1 t2).mpr ⟨h1, h2⟩) cur trips
  case caseFirst =>
    intro s b t1 t2 cur trips h1 h2 hbroken
    rw [← s.dev.caseJudged_first hbroken]
    exact gives_caseLimit ((s.dev.caseAbove_iff b t1 t2).mpr ⟨h1, h2⟩) cur trips
  case thermalMet =>
    intro s b cur hmet
    have hgives := gives_thermalShed hmet cur []
    rw [Dev.thermalShed_intact] at hgives
    exact hgives
  case dissipation =>
    intro s b femto cur tj hfemto hexact hlimit
    have hmicro : 300000 + s.dev.quot (s.dev.heat b cur tj).toNat (10 ^ 11) = 300000 + femto / 10 ^ 11 := by
      rw [show s.dev.heat b cur tj = femto from hfemto.symm, Int.toNat_natCast, s.dev.quot_exact hexact]
    have hbk := (s.dev.estimated b (300000 + femto / 10 ^ 11)).dissipationJudged_false_bk b
    rw [Dev.estimated_bk] at hbk
    have hterm := (s.dev.estimated b (300000 + femto / 10 ^ 11)).dissipationJudged_false_thermLim b
    rw [Dev.estimated_bk] at hterm
    have hgives := gives_dissipationEstimate hmicro (decide_eq_false (Nat.not_lt.mpr hlimit)) []
    rw [Dev.thermalShed_intact] at hgives
    exact ⟨_, hgives, congrArg BankState.pRing hbk, congrArg BankState.pdBroken hbk, hterm,
      s.dev.estimated_judged_regsBut b _⟩
  case cellsPass =>
    intro s m k spare hchan hstate hout hlim hmap hk
    have hpass : shareOk k (4 * k) 4 = true := shareOk_iff.mpr (by omega)
    have hgives := gives_cellTest_four hchan hstate hout hlim hmap (show k + k + k + k = 4 * k by omega) (by omega) spare
    have hjudged (d : Dev) (i : Nat) := d.cellJudged_pass hpass m i (shareOk spare (4 * k) 4)
    simpa [Dev.each, hjudged] using hgives
  case cellFails =>
    intro s m k spare hchan hstate hout hlim hmap hk hfires
    have hpass : shareOk k (3 * k) 4 = true := shareOk_iff.mpr (by omega)
    have hfail : ¬ shareOk 0 (3 * k) 4 = true := fun h => by have := shareOk_iff.mp h; omega
    have hgives := gives_cellTest_four hchan hstate hout hlim hmap (show 0 + k + k + k = 3 * k by omega) (by omega) spare
    have hjudged (d : Dev) (i : Nat) := d.cellJudged_pass hpass m i (shareOk spare (3 * k) 4)
    simpa [Dev.each, hjudged, s.dev.cellJudged_fail hfail hfires] using hgives

end Sys2Proof.Proofs
end

section
/-! SUPPORT. The CAN commands: what a controller on the bus receives, and what a context does with its software-fed buffers (R343,
R349, R358, R361, R366, R370, R381). -/

namespace Sys2Proof.Machine

theorem exec_canFrameReceived (c : Nat) (f : CanFrame) (s : State) :
    exec (.canFrameReceived c f) s = execCanFrameReceived c f s := rfl
theorem exec_canTxstart (init c mask : Nat) (s : State) : exec (.canTxstart init c mask) s = execCanTxstart init c mask s := rfl
theorem exec_canTxcan (init c mask : Nat) (s : State) : exec (.canTxcan init c mask) s = execCanTxcan init c mask s := rfl
theorem exec_canBufferWrite (init c k off : Nat) (data : List Byte) (s : State) :
    exec (.canBufferWrite init c k off data) s = execCanBufferWrite init c k off data s := rfl

/-- An access to the CAN controllers, which domain 13 powers, by an initiator that can make it (R29, R35). -/
theorem gives_onCan {i : Instr} {s : State} {init : Nat} {f : Dev → Dev} {d : Dev} (he : exec i s = onBlockBy init 0x40400000 f s)
    (hport : s.dev.portOpen init = true) (hdom : s.dev.domainOn 13 = true) (h : f (s.dev.answered 0) = d) : Gives i s d :=
  h ▸ gives_onBlockBy he hport hdom

/-- Two fields that repeat alike, as those of a controller's own registers do (R376 to R381), at different places. -/
abbrev Field.besideAlike (g f : Field) : Prop :=
  g.group = f.group ∧ g.stride = f.stride ∧ g.gstride = f.gstride ∧ g.place ≠ f.place

theorem Dev.rdi_wri_alike (d : Dev) {f g : Field} (h : g.besideAlike f) (c v : Nat) : (d.wri f c v).rdi g c = d.rdi g c := by
  obtain ⟨hgroup, hstride, hgstride, hplace⟩ := h
  exact d.rdi_wri_ne hgroup hstride hgstride hplace c v

/-! ### Reception (R349, R366, R370) -/

/-- While neither counter is above 127, an active controller stays error active (R366). -/
theorem Dev.canErrState_active {d : Dev} {c : Nat} (hstate : d.rdi CAN_STAT_STATE c = 2) (htec : d.rdi CAN_ERRCNT_TEC c ≤ 127)
    (hrec : d.rdi CAN_ERRCNT_REC c ≤ 127) : d.canErrState c = d := by
  have hbad : (decide (128 ≤ d.rdi CAN_ERRCNT_TEC c) || decide (128 ≤ d.rdi CAN_ERRCNT_REC c)) = false := by
    simp only [Bool.or_eq_false_iff, decide_eq_false_iff_not]
    omega
  simp [Dev.canErrState, hbad, hstate]

/-- Receive errors that leave an active controller error active raise REC and change nothing else. -/
theorem Dev.canRxError_active {d : Dev} {c n : Nat} (hlom : d.flagi CAN_MODE_LOM c = false) (hstate : d.rdi CAN_STAT_STATE c = 2)
    (htec : d.rdi CAN_ERRCNT_TEC c ≤ 127) (hrec : d.rdi CAN_ERRCNT_REC c + 1 + 8 * n ≤ 127) :
    d.canRxError c n = d.wri CAN_ERRCNT_REC c (d.rdi CAN_ERRCNT_REC c + 1 + 8 * n) := by
  have hkept (v : Nat) (hv : v ≤ 127) : (d.wri CAN_ERRCNT_REC c v).canErrState c = d.wri CAN_ERRCNT_REC c v := by
    refine Dev.canErrState_active ?_ ?_ ((Dev.rdi_wri_self ..).trans_le ((Nat.mod_le ..).trans hv))
    · rwa [Dev.rdi_wri_alike _ (by decide)]
    · rwa [Dev.rdi_wri_alike _ (by decide)]
  rw [Dev.canRxError, if_neg (ne_true_of_eq_false hlom), Nat.min_eq_left (by omega), hkept _ hrec]

section
variable {s : State} {c : Nat} {f : CanFrame} (hstate : s.dev.rdi CAN_STAT_STATE c = 2 ∨ s.dev.rdi CAN_STAT_STATE c = 3)
  (hignore : (s.dev.canCtl c).ignore = false) (hleaving : (s.dev.canCtl c).leaving = false)
include hstate hignore hleaving

/-- A controller on the bus, which neither ignores it nor is about to leave it, judges the frame. -/
theorem gives_canFrameReceived : Gives (.canFrameReceived c f) s
    (if f.res ∨ (f.form = 2 ∧ !s.dev.flagi CAN_MODE_XLOE c) ∨ (f.form = 1 ∧ !s.dev.flagi CAN_MODE_FDOE c) then s.dev.canException c f
      else if f.err.isSome then s.dev.canRxError c (f.err.getD 0)
      else ((s.dev.canRecDown c).canReference c f).canTake c f) :=
  gives_onDev (exec_canFrameReceived ..) (if_pos ⟨hstate, by rw [hignore]; rfl, by rw [hleaving]; rfl⟩)

/-- A classical frame breaks no format: it is received, or it ends in errors. -/
theorem gives_canFrameReceived_classical (hres : f.res = false) (hform : f.form = 0) : Gives (.canFrameReceived c f) s
    (if f.err.isSome then s.dev.canRxError c (f.err.getD 0) else ((s.dev.canRecDown c).canReference c f).canTake c f) := by
  have hgives := gives_canFrameReceived (f := f) hstate hignore hleaving
  rwa [if_neg (by simp [hres, hform])] at hgives

/-- An FD frame breaks the format of a controller that does not allow FD. -/
theorem gives_canFrameReceived_fd (hform : f.form = 1) (hfdoe : s.dev.flagi CAN_MODE_FDOE c = false) :
    Gives (.canFrameReceived c f) s (s.dev.canException c f) := by
  have hgives := gives_canFrameReceived (f := f) hstate hignore hleaving
  rwa [if_pos (.inr (.inr ⟨hform, by rw [hfdoe]; rfl⟩))] at hgives

end

/-! ### Starts and cancels of the buffers in a mask (R358, R361, R371, R381) -/

/-- Of the registers of the controllers, a change of a buffer writes TXPEND alone. -/
theorem Dev.setCanBuf_rdi (d : Dev) {g : Field} (hg : g.besideAlike CAN_TXPEND_BUFS) (c b : Nat) (x : CanBuf) :
    (d.setCanBuf c b x).rdi g c = d.rdi g c := by
  unfold Dev.setCanBuf
  dsimp only
  split
  · exact Dev.rdi_wri_alike _ hg _ _
  · exact Dev.rdi_wri_alike _ hg _ _

/-- A start leaves the controller's mode as it is. -/
theorem Dev.canStart_lom (d : Dev) (c b : Nat) : (d.canStart c b).flagi CAN_MODE_LOM c = d.flagi CAN_MODE_LOM c := by
  have hbuf (x : CanBuf) : (d.setCanBuf c b x).rdi CAN_MODE_LOM c = d.rdi CAN_MODE_LOM c :=
    d.setCanBuf_rdi (by decide) c b x
  have hmerged (e : Dev) : (e.inci CAN_TXCNT_MERGED c).rdi CAN_MODE_LOM c = e.rdi CAN_MODE_LOM c :=
    e.rdi_wri_alike (by decide) c _
  suffices h : (d.canStart c b).rdi CAN_MODE_LOM c = d.rdi CAN_MODE_LOM c by rw [Dev.flagi, h, Dev.flagi]
  unfold Dev.canStart
  dsimp only
  split
  case h_1 =>
    split
    · exact hbuf _
    · rfl
  case h_2 => exact hmerged d
  case h_3 => exact (hmerged _).trans (hbuf _)

/-- A controller that is not listen-only starts every buffer of a list. -/
theorem Dev.each_canStart {c : Nat} (l : List Nat) : ∀ {d : Dev}, d.flagi CAN_MODE_LOM c = false →
    (d.each l fun d b => if d.flagi CAN_MODE_LOM c then d else d.canStart c b) = d.each l fun d b => d.canStart c b := by
  induction l with
  | nil => exact fun _ => rfl
  | cons b l ih =>
    intro d hlom
    have hrest := ih ((d.canStart_lom c b).trans hlom)
    simpa only [Dev.each, List.foldl_cons, hlom, Bool.false_eq_true, if_false] using hrest

section
variable {d : Dev} {ctx c mask : Nat} (hctx : d.ctxBarred ctx = false) (act : Dev → Nat → Dev)
include hctx

/-- A mask of software-fed buffers of the context alone. -/
theorem Dev.canMask_own (hown : ∀ b, b ∈ bufsOf mask → d.canSoftware ctx c b = true) :
    d.canMask ctx c mask act = (d.each (bufsOf mask) act).answered 0 := by
  have hmine : (bufsOf mask).filter (fun b => d.canSoftware ctx c b) = bufsOf mask := List.filter_eq_self.mpr hown
  simp only [Dev.canMask, hctx, hmine, Bool.false_eq_true, if_false, if_true]

/-- A mask that names another buffer acts on the context's own, and is refused and counted. -/
theorem Dev.canMask_foreign {b : Nat} (hb : b ∈ bufsOf mask) (hforeign : d.canSoftware ctx c b = false) :
    d.canMask ctx c mask act = ((d.each ((bufsOf mask).filter fun k => d.canSoftware ctx c k) act).refuse ctx
      CAN_ACCERR_ACC_ERR c).answered 0 := by
  have hfewer : ((bufsOf mask).filter fun k => d.canSoftware ctx c k).length ≠ (bufsOf mask).length :=
    (List.length_filter_lt_length_iff_exists.mpr ⟨b, hb, ne_true_of_eq_false hforeign⟩).ne
  simp only [Dev.canMask, hctx, hfewer, Bool.false_eq_true, if_false]

end

section
variable {s : State} {init c : Nat} (hport : s.dev.portOpen init = true) (hdom : s.dev.domainOn 13 = true)
include hport hdom

/-- A controller that is not listen-only takes the mask of a start as any mask. -/
theorem gives_canTxstart (hlom : s.dev.flagi CAN_MODE_LOM c = false) (mask : Nat) : Gives (.canTxstart init c mask) s
    ((s.dev.answered 0).canMask (s.dev.tag init) c mask fun d b => if d.flagi CAN_MODE_LOM c then d else d.canStart c b) :=
  gives_onCan (exec_canTxstart ..) hport hdom (if_neg fun h => ne_true_of_eq_false hlom h.1)

theorem gives_canTxcan (mask : Nat) : Gives (.canTxcan init c mask) s
    ((s.dev.answered 0).canMask (s.dev.tag init) c mask fun d b => d.canCancel c b) :=
  gives_onCan (exec_canTxcan ..) hport hdom rfl

/-! ### CAN_BUFFER_WRITE (R358, R381) -/

/-- A buffer that is not the context's, or whose frame is on its way, is not written. -/
theorem gives_canBufferWrite_refused {k : Nat} (h : s.dev.canSoftware (s.dev.tag init) c k = false ∨ (s.dev.canBuf c k).st ≠ .idle)
    (off : Nat) (data : List Byte) : Gives (.canBufferWrite init c k off data) s
      (((s.dev.answered 0).refuse (s.dev.tag init) CAN_ACCERR_ACC_ERR c).answered 0) := by
  refine gives_onCan (exec_canBufferWrite ..) hport hdom (if_pos (.inr ?_))
  exact h.imp (congrArg not) id

end

/-- The 64 payload bytes of an object with `data` laid over them from byte `off`. -/
def overlaid (old : List Byte) (off : Nat) (data : List Byte) : List Byte :=
  (List.range 64).map fun i => if off ≤ i ∧ i < off + data.length then data.getD (i - off) 0 else (padTo 64 old).getD i 0

theorem overlaid_getD (old : List Byte) (off : Nat) (data : List Byte) {i : Nat} (h : i < 64) : (overlaid old off data).getD i 0 =
    if off ≤ i ∧ i < off + data.length then data.getD (i - off) 0 else (padTo 64 old).getD i 0 := by
  simp [overlaid, h]

/-- The transmit object of a software-fed buffer after a write of its payload. -/
def Dev.canWritten (d : Dev) (c k off : Nat) (data : List Byte) : Dev :=
  d.setTxObj (canObj c k)
    { d.txObj (canObj c k) with payload := overlaid (d.txObj (canObj c k)).payload off data, held := true }

theorem gives_canBufferWrite {s : State} {init c k : Nat} (hport : s.dev.portOpen init = true) (hdom : s.dev.domainOn 13 = true)
    (hctx : s.dev.ctxBarred (s.dev.tag init) = false) (hown : s.dev.canSoftware (s.dev.tag init) c k = true)
    (hidle : (s.dev.canBuf c k).st = .idle) (off : Nat) (data : List Byte) :
    Gives (.canBufferWrite init c k off data) s ((s.dev.answered 0).canWritten c k off data) := by
  refine gives_onCan (exec_canBufferWrite ..) hport hdom (if_neg ?_)
  rintro (h | h | h)
  · exact ne_true_of_eq_false hctx h
  · exact Bool.false_ne_true ((congrArg not hown).symm.trans h)
  · exact h hidle

theorem Dev.txObj_canWritten (d : Dev) (c k off : Nat) (data : List Byte) : (d.canWritten c k off data).txObj (canObj c k) =
    { d.txObj (canObj c k) with payload := overlaid (d.txObj (canObj c k)).payload off data, held := true } :=
  (Dev.txObj_setTxObj ..).trans (if_pos rfl)

end Sys2Proof.Machine
end

section
/-! SUPPORT. The loop delay that TDCVAL holds after an arbitration, in one state (R346, R381). -/

namespace Sys2Proof.Machine

theorem exec_canArbitrationWon (c b delay : Nat) (s : State) :
    exec (.canArbitrationWon c b delay) s = execCanArbitrationWon c b delay s := rfl

/-- What a command gives is determined but for the interrupt messages, so that every register is. -/
theorem Gives.rdi_eq {i : Instr} {s : State} {d e : Dev} (hd : Gives i s d) (he : Gives i s e) (f : Field) (j : Nat) :
    d.rdi f j = e.rdi f j := by
  have hregs (x : Dev) : (x.announce s.dev).regs = x.regs := (congrArg Dev.regs (x.announce_frame s.dev).1 :)
  have hsame : d.announce s.dev = e.announce s.dev := congrArg State.dev (Host.Outcome.next.inj (hd.symm.trans he))
  rw [Dev.rdi, ← hregs, hsame, hregs, Dev.rdi]

/-- Error-active controller 3 compensates the loop delay, its data bit time is 43 mtq, and its buffer 2 is pending with a frame of
form 4, FD with a bit-rate switch. -/
def slowLoop : State where
  dev := {
    regs := ⟨[(CAN_DBT_TSEG1.key 3, 40), (CAN_TDC_TDCE.key 3, 1), (CAN_STAT_STATE.key 3, 2), (CAN_TXCFG_FORM.key 98, 4)]⟩
    can := { ctl := ⟨[(3, { bufs := ⟨[(2, { st := .pending })]⟩ })]⟩ } }

/-- TDCVAL has 7 bits, and holds a loop delay of 128 mtq as 0. -/
theorem slowLoop_tdcval : Ends (.canArbitrationWon 3 2 128) slowLoop fun d => d.rdi CAN_TDCVAL_DELAY 3 = 0 :=
  ⟨_, gives_onDev (exec_canArbitrationWon ..) rfl, by decide⟩

end Sys2Proof.Machine
end

section
/-! CERTIFICATES. The statements of the CAN buses family that are settled. -/

namespace Sys2Proof.Proofs
open Sys2Proof.Machine

/-- Settles O36: a controller on the bus judges a frame by its format and its errors; a mask acts on the context's own buffers and is
refused for any other, whatever state the controller is in (log entry 49); a write of an idle buffer changes its transmit object
alone. -/
theorem canBufferCommands : Obligations.CanBufferCommands := by
  refine ⟨?received, ?errors, fun s c f hstate hignore hleaving => gives_canFrameReceived_fd hstate hignore hleaving, ?start,
    ?startForeign, ?cancel, ?cancelForeign, ?write,
    fun s init c k off data hport hdom h => gives_canBufferWrite_refused hport hdom h off data⟩
  case received =>
    intro s c f hstate hignore hleaving hres hform herr
    have hgives := gives_canFrameReceived_classical hstate hignore hleaving hres hform
    rwa [herr] at hgives
  case errors =>
    intro s c n f hstate hignore hleaving hres hform herr hlom hrec htec hactive
    have hgives := gives_canFrameReceived_classical hstate hignore hleaving hres hform
    rw [herr] at hgives
    refine ⟨_, hgives, ?_⟩
    show (s.dev.canRxError c n).rdi _ _ = _ ∧ s.dev.onlyRegs (s.dev.canRxError c n) _
    rw [Dev.canRxError_active hlom hactive htec hrec]
    exact ⟨(Dev.rdi_wri_self ..).trans (Nat.mod_eq_of_lt (hrec.trans_lt (by decide))), s.dev.onlyRegs_wri ..⟩
  case start =>
    intro s init c mask hport hdom hctx hown hlom
    have hgives := gives_canTxstart hport hdom hlom mask
    rwa [Dev.canMask_own (d := s.dev.answered 0) hctx _ hown, Dev.each_canStart (d := s.dev.answered 0) _ hlom] at hgives
  case startForeign =>
    intro s init c mask b hport hdom hctx hb hforeign hlom
    have hgives := gives_canTxstart hport hdom hlom mask
    rwa [Dev.canMask_foreign (d := s.dev.answered 0) hctx _ hb hforeign, Dev.each_canStart (d := s.dev.answered 0) _ hlom] at hgives
  case cancel =>
    intro s init c mask hport hdom hctx hown
    exact Dev.canMask_own (d := s.dev.answered 0) hctx _ hown ▸ gives_canTxcan hport hdom mask
  case cancelForeign =>
    intro s init c mask b hport hdom hctx hb hforeign
    exact Dev.canMask_foreign (d := s.dev.answered 0) hctx _ hb hforeign ▸ gives_canTxcan hport hdom mask
  case write =>
    intro s init c k off data hport hdom hctx hown hidle
    have hobj := (s.dev.answered 0).txObj_canWritten c k off data
    refine ⟨_, gives_canBufferWrite hport hdom hctx hown hidle off data, rfl, rfl, congrArg TxObj.held hobj, fun i hi => ?_,
      fun o ho => (Dev.txObj_setTxObj ..).trans (if_neg ho)⟩
    rw [hobj]
    exact overlaid_getD _ off data hi

/-- Refutes O37: its second clause has TDCVAL hold any loop delay below 256 mtq, but the register has 7 bits (R381), and in the state
`slowLoop` the delay of 128 mtq, which is less than 3 data bit times, is held as 0. -/
theorem not_canFrameCommands : ¬ Obligations.CanFrameCommands := by
  unfold Obligations.CanFrameCommands
  rintro ⟨-, hdelay, -⟩
  obtain ⟨d, hgives, -, -, hheld, -⟩ := hdelay slowLoop 3 2 128 (by decide) (by decide) (by decide) (by decide) (by decide)
    (by decide) (by decide) (by decide)
  obtain ⟨e, hgives', hzero⟩ := slowLoop_tdcval
  rw [hgives.rdi_eq hgives', hzero] at hheld
  exact absurd hheld (by decide)

end Sys2Proof.Proofs
end

section
/-! SUPPORT. The registers and the operations of the time-triggered controllers: what each leaves in the registers, in the
controller's own state and in what the buffers' card says (R388 to R410). -/

namespace Sys2Proof.Machine

/-! ### Where the registers of controllers and buffers lie (R405 to R409) -/

/-- A field of a controller's own registers. -/
abbrev Field.ofTt (f : Field) : Prop :=
  f.group = 2 ∧ f.stride = 0x8000 ∧ f.gstride = 0 ∧ 0x40500000 ≤ f.base ∧ f.base < 0x40500400 ∧ f.lsb < 32

/-- A field of the registers of a controller's buffers. -/
abbrev Field.ofTtBuf (f : Field) : Prop := f.group = 256 ∧ f.stride = 4 ∧ f.gstride = 0x8000 ∧ 0x40500400 ≤ f.base

namespace Field

variable {f g : Field}

theorem key_of_tt (hf : f.ofTt) (t : Nat) : f.key t = (f.base + t % 2 * 0x8000) * 32 + f.lsb := by
  obtain ⟨hgroup, hstride, hgstride, -⟩ := hf
  rw [key, addr, hgroup, hstride, hgstride, Nat.mul_zero, Nat.add_zero]

theorem key_tt_lt (hf : f.ofTt) (t : Nat) : f.key t < 0x40900000 * 32 := by
  rw [key_of_tt hf]
  obtain ⟨-, -, -, -, hhi, hlsb⟩ := hf
  omega

/-- The registers of a controller's buffers lie above its own. -/
theorem key_tt_lt_buf (hf : f.ofTt) (hg : g.ofTtBuf) (t k : Nat) : f.key t < g.key (t * 256 + k) := by
  rw [key_of_tt hf, key, addr]
  obtain ⟨-, -, -, -, hhi, hlsb⟩ := hf
  obtain ⟨hgroup, hstride, hgstride, hlo⟩ := hg
  rw [hgroup, hstride, hgstride]
  omega

end Field

namespace Dev

variable (d : Dev) (t : Nat)

/-- A write to a controller's own register leaves those of its buffers alone. -/
theorem rdi_wri_ttBuf {f g : Field} (hf : f.ofTt) (hg : g.ofTtBuf) (v k : Nat) :
    (d.wri f t v).rdi g (t * 256 + k) = d.rdi g (t * 256 + k) := by
  rw [rdi_wri, if_neg (Field.key_tt_lt_buf hf hg t k).ne']

theorem rdi_trig_tt {g : Field} (hg : g.ofTt) (code : Nat) (args : List Nat) : (d.trig code args).rdi g t = d.rdi g t :=
  d.trig_rdi code args g t (.inl (Field.key_tt_lt hg t))

theorem rdi_inci_self (f : Field) : (d.inci f t).rdi f t = min (d.rdi f t + 1) (2 ^ f.width - 1) := by rw [rdi_inci, if_pos rfl]

theorem rdi_inci_alike {f g : Field} (h : g.besideAlike f) : (d.inci f t).rdi g t = d.rdi g t := d.rdi_wri_alike h t _

/-! ### A controller's own state -/

theorem ttCtl_setTtCtl_self (x : TtCtl) : (d.setTtCtl t x).ttCtl t = x := by rw [ttCtl_setTtCtl, if_pos rfl]

theorem ttCtl_trig (code : Nat) (args : List Nat) : (d.trig code args).ttCtl t = d.ttCtl t := by
  rw [ttCtl, trig_tt, ttCtl]

theorem regsBut.setTtCtl {d e : Dev} {l : List (Field × Nat)} (h : d.regsBut e l) (t : Nat) (x : TtCtl) :
    d.regsBut (e.setTtCtl t x) l := h

/-- The controller takes part in the cluster: STARTUP, NORMAL_ACTIVE or NORMAL_PASSIVE (R397). -/
abbrev ttRuns : Prop := d.rdi TT_STAT_STATE t = 2 ∨ d.rdi TT_STAT_STATE t = 3 ∨ d.rdi TT_STAT_STATE t = 4

/-! ### The slot in progress (R407) -/

section
variable (slot : Nat)

theorem ttAt_rdi {g : Field} (hg : g.besideAlike TT_STAT_SLOT) : (d.ttAt t slot).rdi g t = d.rdi g t :=
  rdi_wri_alike _ hg t _

theorem ttAt_rdi_buf {g : Field} (hg : g.ofTtBuf) (k : Nat) : (d.ttAt t slot).rdi g (t * 256 + k) = d.rdi g (t * 256 + k) :=
  rdi_wri_ttBuf _ t (by decide) hg _ k

theorem ttAt_shows : (d.ttAt t slot).rdi TT_STAT_SLOT t =
    if slot ≤ d.rdi TT_SLOTCFG_NSTATIC t then slot % 2 ^ TT_STAT_SLOT.width else 0 :=
  (rdi_wri_self ..).trans ((apply_ite (· % 2 ^ TT_STAT_SLOT.width) _ slot 0).trans (by rw [Nat.zero_mod]; rfl))

theorem ttAt_ttCtl : (d.ttAt t slot).ttCtl t = { d.ttCtl t with
    slot := if slot ≤ d.rdi TT_SLOTCFG_NSTATIC t + d.rdi TT_COLD_NMINI t then slot else 0 } :=
  ttCtl_setTtCtl_self ..

theorem ttAt_pending : ((d.ttAt t slot).ttCtl t).pending = (d.ttCtl t).pending :=
  (congrArg TtCtl.pending (d.ttAt_ttCtl t slot) :)

theorem ttAt_regsBut : d.regsBut (d.ttAt t slot) [(TT_STAT_SLOT, t)] :=
  ((regsBut.refl d _).setTtCtl t _).wri List.mem_cons_self _

/-- The slot in progress does not change which buffers take part in a slot and cycle. -/
theorem ttAt_ttAdmitted (k cycle : Nat) : (d.ttAt t slot).ttAdmitted t k cycle = d.ttAdmitted t k cycle := by
  simp (disch := decide) only [ttAdmitted, ttAt_rdi_buf]

theorem ttAt_ttBufs (n cycle : Nat) (kinds : List Nat) : (d.ttAt t slot).ttBufs t n cycle kinds = d.ttBufs t n cycle kinds := by
  simp (disch := decide) only [ttBufs, ttAt_ttAdmitted, ttAt_rdi_buf]

theorem ttAt_ttMinislots (p : Nat) : (d.ttAt t slot).ttMinislots t p = d.ttMinislots t p := by
  simp (disch := decide) only [ttMinislots, ttMacrotick, ttAt_rdi]
  rfl

theorem ttAt_ttLatest : (d.ttAt t slot).ttLatest t = d.ttLatest t := by
  simp (disch := decide) only [ttLatest, ttAt_ttMinislots, ttAt_rdi_buf, ttAt_rdi]

theorem ttAt_ttPassive : (d.ttAt t slot).ttPassive t = d.ttPassive t := by
  simp (disch := decide) only [ttPassive, ttAt_rdi]

end

/-! ### The loss of a pick source, and the state field (R98, R397) -/

theorem beatIdle_tt : d.beatIdle.tt = d.tt := by
  rw [beatIdle, idleCause, setTrd_tt, wr_tt, trig_tt]
  rfl

theorem sourceLoss_tt : d.sourceLoss.tt = d.tt := by
  have hcounted (e : Dev) : (((e.wr BEAT_EVT_LOSS 1).inc BEAT_CNT0_LOSS_CNT).trig 0x0300 []).tt = e.tt := trig_tt ..
  unfold sourceLoss
  dsimp only
  split_ifs <;> simp only [beatIdle_tt, setBeat_tt, wr_tt, hcounted]

theorem ttCtl_lossOf (src unit : Nat) : (d.lossOf src unit).ttCtl t = d.ttCtl t := by
  unfold lossOf
  split
  · rw [ttCtl, sourceLoss_tt, ttCtl]
  · rfl

/-- A controller that leaves NORMAL_ACTIVE forgets at most that its cycle began there. -/
theorem ttInactive_ttCtl : ∃ active, (d.ttInactive t).ttCtl t = { d.ttCtl t with activeCycle := active } := by
  unfold ttInactive
  split
  · exact ⟨false, (ttCtl_lossOf ..).trans (ttCtl_setTtCtl_self ..)⟩
  · exact ⟨_, rfl⟩

section
variable (code : Nat)

theorem ttState_reads {st : Nat} (hst : st < 8) : (d.ttState t st code).rdi TT_STAT_STATE t = st ∧
    (d.ttState t st code).rdi TT_EVT_STATE t = 1 := by
  simp (disch := decide) only [ttState, rdi_trig_tt, rdi_wri_alike, rdi_wri_self]
  exact ⟨Nat.mod_eq_of_lt hst, rfl⟩

theorem ttState_active_ttCtl : (d.ttState t 3 code).ttCtl t = d.ttCtl t := ttCtl_trig ..

theorem ttState_active_rdi {g : Field} (hg : g.ofTt) (hstate : g.besideAlike TT_STAT_STATE) (hevt : g.besideAlike TT_EVT_STATE) :
    (d.ttState t 3 code).rdi g t = d.rdi g t :=
  (rdi_trig_tt _ _ hg _ _).trans ((rdi_wri_alike _ hevt _ _).trans (rdi_wri_alike _ hstate _ _))

theorem ttState_passive_ttCtl : ∃ active, (d.ttState t 4 code).ttCtl t = { d.ttCtl t with activeCycle := active } := by
  obtain ⟨active, h⟩ := d.ttInactive_ttCtl t
  exact ⟨active, (ttCtl_trig ..).trans h⟩

/-- In HALT no slot is in progress. -/
theorem ttState_halt_ttCtl : ∃ active, (d.ttState t 5 code).ttCtl t = { d.ttCtl t with activeCycle := active, slot := 0 } := by
  obtain ⟨active, h⟩ := d.ttInactive_ttCtl t
  refine ⟨active, (ttCtl_trig ..).trans ((ttAt_ttCtl (d.ttInactive t) t 0).trans ?_)⟩
  rw [h, if_pos (Nat.zero_le _)]

theorem ttState_halt_slot : (d.ttState t 5 code).rdi TT_STAT_SLOT t = 0 := by
  have hslot := ttAt_shows (d.ttInactive t) t 0
  rw [if_pos (Nat.zero_le _)] at hslot
  exact (rdi_trig_tt _ _ (by decide) _ _).trans
    ((rdi_wri_alike _ (by decide) _ _).trans ((rdi_wri_alike _ (by decide) _ _).trans hslot))

end

/-! ### The entry into STARTUP (R397, R403) -/

/-- The truncations of a channel are counted in no register. -/
theorem fwClear_truncation_rdi (ch : Nat) (g : Field) (j : Nat) : (d.fwClear (.truncation t ch)).rdi g j = d.rdi g j := rfl

theorem ttAwake_reads : (d.ttAwake t).rdi TT_STAT_STATE t = 2 ∧ (d.ttAwake t).rdi TT_STAT_PASSA t = 0 ∧
    (d.ttAwake t).rdi TT_STAT_PASSB t = 0 ∧
    (d.ttAwake t).rdi TT_STAT_ATTLEFT t = d.rdi TT_COLD_ATTEMPTS t % 2 ^ TT_STAT_ATTLEFT.width := by
  simp (disch := decide) only [ttAwake, setTtCtl_rdi, fwClear_truncation_rdi, rdi_wri_alike, rdi_wri_self, and_true]
  exact ⟨rfl, rfl, rfl⟩

theorem ttAwake_ttCtl : (d.ttAwake t).ttCtl t = { d.ttCtl t with
    phase := if d.rdi TT_COLD_CSEN t = 1 ∧ (d.ttCtl t).integrateOnly = false then .listening else .integrating
    missing := 0
    regained := 0 } := by
  refine (ttCtl_setTtCtl_self ..).trans ?_
  simp (disch := decide) only [flagi, fwClear_truncation_rdi, rdi_wri_alike, beq_iff_eq, Bool.not_eq_eq_eq_not, Bool.not_true]
  rfl

theorem ttAwake_fwCount : (d.ttAwake t).fwCount (.truncation t 0) = 0 := by
  have hkey : (CounterId.truncation t 0).key ≠ (CounterId.truncation t 1).key := by simp [CounterId.key]
  have hfw : (d.ttAwake t).fw =
      (d.fw.set (CounterId.truncation t 0).key ⟨0, false⟩).set (CounterId.truncation t 1).key ⟨0, false⟩ := rfl
  show ((d.ttAwake t).fw.get _ _).count = 0
  rw [hfw, Map.get_set, if_neg hkey, Map.get_set, if_pos rfl]

theorem ttAwake_regsBut :
    d.regsBut (d.ttAwake t) [(TT_STAT_STATE, t), (TT_STAT_PASSA, t), (TT_STAT_PASSB, t), (TT_STAT_ATTLEFT, t)] :=
  ((((regsBut.refl d _).wri (by simp) _).wri (by simp) _).wri (by simp) _).wri (by simp) _

/-! ### The cycle that begins (R98, R386, R399) -/

/-- A reference of the pick source writes no register of a controller. -/
theorem qualRef_rdi_tt {g : Field} (hg : g.ofTt) (src : Nat) : (d.qualRef src).rdi g t = d.rdi g t := by
  have hkey : g.key t ≠ BEAT_STAT_QUAL_CNT.key 0 := by
    rw [Field.key_of_tt hg]
    obtain ⟨-, -, -, hlo, -⟩ := hg
    simp only [Field.key, Field.addr, BEAT_STAT_QUAL_CNT]
    omega
  unfold qualRef
  split
  · rw [setBeat_rdi, rdi_inc, if_neg hkey]
  · rfl

/-- The registers of a controller as a cycle begins, the cycle of count `n`. -/
def ttCycleShown (n : Nat) : Dev := (d.wri TT_STAT_CYCLE t n).wri TT_EVT_CYC t 1

theorem ttCycleShown_reads (n : Nat) : (d.ttCycleShown t n).rdi TT_STAT_CYCLE t = n % 64 ∧
    (d.ttCycleShown t n).rdi TT_EVT_CYC t = 1 := by
  simp (disch := decide) only [ttCycleShown, rdi_wri_alike, rdi_wri_self]
  exact ⟨rfl, rfl⟩

section
variable (cycle : Nat)

theorem ttCycle_ttCtl : ∃ active, (d.ttCycle t cycle).ttCtl t =
    { (d.ttCtl t).attempt (d.ttCycleBegins t cycle) with activeCycle := active } :=
  ⟨_, ttCtl_setTtCtl_self ..⟩

theorem ttCycle_rdi {g : Field} (hg : g.ofTt) :
    (d.ttCycle t cycle).rdi g t = (d.ttCycleShown t (d.ttCycleBegins t cycle)).rdi g t := by
  unfold ttCycle
  dsimp only
  rw [setTtCtl_rdi]
  split
  · exact qualRef_rdi_tt _ t hg 1
  · rfl

theorem ttCycle_rdi_kept {g : Field} (hg : g.ofTt) (hcycle : g.besideAlike TT_STAT_CYCLE) (hevt : g.besideAlike TT_EVT_CYC) :
    (d.ttCycle t cycle).rdi g t = d.rdi g t :=
  (d.ttCycle_rdi t cycle hg).trans ((rdi_wri_alike _ hevt _ _).trans (rdi_wri_alike _ hcycle _ _))

/-- A cycle that does not follow a whole one in NORMAL_ACTIVE is no reference of the pick source. -/
theorem ttCycle_first (h : (d.ttCtl t).activeCycle = false) : d.ttCycle t cycle =
    (d.ttCycleShown t (d.ttCycleBegins t cycle)).setTtCtl t { (d.ttCtl t).attempt (d.ttCycleBegins t cycle) with
      activeCycle := d.rdi TT_STAT_STATE t == 3 } := by
  have hstate : (d.ttCycleShown t (d.ttCycleBegins t cycle)).rdi TT_STAT_STATE t = d.rdi TT_STAT_STATE t :=
    (rdi_wri_alike _ (by decide) _ _).trans (rdi_wri_alike _ (by decide) _ _)
  have hnone (p q : Bool) : ¬ (p && (d.ttCtl t).activeCycle && q) = true := by simp [h]
  rw [← hstate]
  exact congrArg (setTtCtl · t _) (if_neg (hnone _ _))

end

end Dev

end Sys2Proof.Machine
end

section
/-! SUPPORT. The commands of the time-triggered controllers: slots, received frames, dynamic sends and the start-up (R386, R389,
R392, R394, R397, R399, R407). -/

namespace Sys2Proof.Machine

theorem exec_ttSlotStart (t slot start til : Nat) (s : State) :
    exec (.ttSlotStart t slot start til) s = execTtSlotStart t slot start til s := rfl
theorem exec_ttFrameReceived (t : Nat) (f : TtFrame) (s : State) :
    exec (.ttFrameReceived t f) s = execTtFrameReceived t f s := rfl
theorem exec_ttDynamicSend (t k mini : Nat) (s : State) : exec (.ttDynamicSend t k mini) s = execTtDynamicSend t k mini s := rfl
theorem exec_ttClusterAwake (t : Nat) (s : State) : exec (.ttClusterAwake t) s = execTtClusterAwake t s := rfl
theorem exec_ttListenTimeout (t silent : Nat) (s : State) :
    exec (.ttListenTimeout t silent) s = execTtListenTimeout t silent s := rfl
theorem exec_ttStartupComplete (t : Nat) (s : State) : exec (.ttStartupComplete t) s = execTtStartupComplete t s := rfl
theorem exec_ttColdstartAbandon (t : Nat) (s : State) : exec (.ttColdstartAbandon t) s = execTtColdstartAbandon t s := rfl
theorem exec_ttColdstartExhausted (t : Nat) (s : State) :
    exec (.ttColdstartExhausted t) s = execTtColdstartExhausted t s := rfl

variable {s : State} {t : Nat}

/-! ### TT_SLOT_START (R389, R390, R397) -/

/-- The key slot's buffers of a slot (R390). -/
def Dev.ttKeyBufs (d : Dev) (t slot : Nat) : List Nat :=
  (List.range 256).filter fun k => d.flagi TT_BUFCFG_STARTUP (t * 256 + k) && d.rdi TT_BUFCFG_KIND (t * 256 + k) == 1 &&
    d.rdi TT_BUFSLOT_SLOT (t * 256 + k) == slot

/-- The buffers that a controller in state `st` sends in a slot. -/
def Dev.ttSlotBufs (d : Dev) (t slot st : Nat) : List Nat :=
  if st = 2 then d.ttKeyBufs t slot
  else if st = 3 then
    (d.ttBufs t slot (d.rdi TT_STAT_CYCLE t) [1]).filter (fun k => !(d.ttKeyBufs t slot).contains k) ++ d.ttKeyBufs t slot
  else []

theorem Dev.ttKeyBufs_eq_nil {d : Dev} {slot : Nat} (h : ∀ k, k < 256 → d.rdi TT_BUFCFG_KIND (t * 256 + k) = 1 →
    d.rdi TT_BUFSLOT_SLOT (t * 256 + k) = slot → d.rdi TT_BUFCFG_STARTUP (t * 256 + k) = 0) : d.ttKeyBufs t slot = [] := by
  refine List.filter_eq_nil_iff.mpr fun k hk hkey => ?_
  simp only [Dev.flagi, Bool.and_eq_true, beq_iff_eq] at hkey
  obtain ⟨⟨hstartup, hkind⟩, hslot⟩ := hkey
  exact absurd (hstartup.symm.trans (h k (List.mem_range.mp hk) hkind hslot)) Nat.one_ne_zero

/-- A slot without a key slot's buffer: in NORMAL_ACTIVE all of its static transmit buffers are sent. -/
theorem Dev.ttSlotBufs_active {d : Dev} {slot : Nat} (hkey : d.ttKeyBufs t slot = []) :
    d.ttSlotBufs t slot 3 = d.ttBufs t slot (d.rdi TT_STAT_CYCLE t) [1] := by
  simp [Dev.ttSlotBufs, hkey]

section
variable (slot start til : Nat)

theorem gives_ttSlotStart_leaves (hruns : s.dev.ttRuns t) (hleaving : (s.dev.ttCtl t).leaving = true) :
    Gives (.ttSlotStart t slot start til) s (s.dev.ttReady t) :=
  gives_onDev (exec_ttSlotStart ..) ((if_pos hruns).trans (if_pos hleaving))

theorem gives_ttSlotStart (hruns : s.dev.ttRuns t) (hstays : (s.dev.ttCtl t).leaving = false) :
    Gives (.ttSlotStart t slot start til) s ((s.dev.ttAt t slot).each
      ((s.dev.ttAt t slot).ttSlotBufs t slot (s.dev.rdi TT_STAT_STATE t)) fun d k => d.ttSend t slot start til k) :=
  gives_onDev (exec_ttSlotStart ..) ((if_pos hruns).trans (if_neg (ne_true_of_eq_false hstays)))

end

/-! ### TT_FRAME_RECEIVED (R392, R399) -/

/-- What a controller takes from a slot that it hears. -/
def Dev.ttHeard (d : Dev) (t : Nat) (f : TtFrame) : Dev :=
  ((d.ttAt t f.slot).ttHear t f).each (d.ttBufs t f.slot (d.rdi TT_STAT_CYCLE t) [2, 4, 5]) fun d k => d.ttTake t f k

/-- A slot in which nothing valid is heard is no evidence for the consistency check. -/
theorem Dev.ttHear_silent (d : Dev) {f : TtFrame} (ha : f.a = none) (hb : f.b = none) : d.ttHear t f = d := by
  refine if_neg fun h => ?_
  rw [ha, hb] at h
  exact Bool.false_ne_true h.2

/-- The consistency check writes no register. -/
theorem Dev.ttHear_rdi (d : Dev) (f : TtFrame) (g : Field) (j : Nat) : (d.ttHear t f).rdi g j = d.rdi g j := by
  unfold Dev.ttHear
  dsimp only
  split_ifs <;> rfl

theorem Dev.ttHear_ttBufs (d : Dev) (f : TtFrame) (slot cycle : Nat) (kinds : List Nat) :
    (d.ttHear t f).ttBufs t slot cycle kinds = d.ttBufs t slot cycle kinds := by
  simp only [Dev.ttBufs, Dev.ttAdmitted, Dev.ttHear_rdi]

theorem gives_ttFrameReceived {f : TtFrame} (hruns : s.dev.ttRuns t) (hstays : (s.dev.ttCtl t).leaving = false) :
    Gives (.ttFrameReceived t f) s (if f.a.isSome ∨ f.b.isSome then
      (s.dev.ttHeard t f).evidenceOf fun r => r.kind == 2 && r.unit == t && r.key == f.slot else s.dev.ttHeard t f) := by
  have hbufs : ((s.dev.ttAt t f.slot).ttHear t f).ttBufs t f.slot
      (((s.dev.ttAt t f.slot).ttHear t f).rdi TT_STAT_CYCLE t) [2, 4, 5] =
        s.dev.ttBufs t f.slot (s.dev.rdi TT_STAT_CYCLE t) [2, 4, 5] := by
    rw [Dev.ttHear_ttBufs, Dev.ttAt_ttBufs, Dev.ttHear_rdi, Dev.ttAt_rdi _ _ _ (by decide)]
  refine gives_onDev (exec_ttFrameReceived ..)
    ((if_pos hruns).trans ((if_neg fun h => ne_true_of_eq_false hstays h.1).trans ?_))
  dsimp only
  rw [hbufs]
  rfl

/-! ### TT_DYNAMIC_SEND (R394) -/

/-- A dynamic buffer whose frame leaves on the channels `live`: it is no longer pending. -/
def Dev.ttDynamicSent (d : Dev) (t k live : Nat) : Dev :=
  let o := d.txObj (ttObj t k)
  let d' := (d.send (.ttFrame t (d.rdi TT_BUFSLOT_SLOT (t * 256 + k)) (d.rdi TT_STAT_CYCLE t) live false false true
    (padTo (2 * d.rdi TT_BUFCFG_PLEN (t * 256 + k)) o.payload))).setTxObj (ttObj t k) { o with ready := false, stale := false }
  (d'.setTtCtl t { d'.ttCtl t with pending := (d.ttCtl t).pending.filter (· ≠ k) }).wri TT_EVT_DYNDONE t 1

theorem Dev.ttDynamicSent_reads (d : Dev) (k live : Nat) : (d.ttDynamicSent t k live).rdi TT_EVT_DYNDONE t = 1 ∧
    ((d.ttDynamicSent t k live).ttCtl t).pending = (d.ttCtl t).pending.filter (· ≠ k) :=
  ⟨Dev.rdi_wri_self .., congrArg TtCtl.pending (Dev.ttCtl_setTtCtl_self ..)⟩

/-- A mask of one channel, which is not guardian-passive. -/
theorem chMask_one {mask : Nat} (h : mask = 1 ∨ mask = 2) {ok : Nat → Bool} (hok : ∀ ch, ok ch = true) :
    chMask mask ok = mask := by
  rcases h with rfl | rfl <;> simp [chMask, hok, Nat.testBit]

section
variable {k mini : Nat} (hstate : s.dev.rdi TT_STAT_STATE t = 3) (hstays : (s.dev.ttCtl t).leaving = false)
  (hkind : s.dev.rdi TT_BUFCFG_KIND (t * 256 + k) = 3) (hpending : (s.dev.ttCtl t).pending.contains k = true)
  (hadmitted : s.dev.ttAdmitted t k (s.dev.rdi TT_STAT_CYCLE t) = true)
include hstate hstays hkind hpending hadmitted

/-- A pending buffer past pLatestTx waits on, and is counted. -/
theorem gives_ttDynamicSend_late (hlate : s.dev.ttLatest t < mini) : Gives (.ttDynamicSend t k mini) s
    ((s.dev.ttAt t (s.dev.rdi TT_BUFSLOT_SLOT (t * 256 + k))).inci TT_TXCNT_LATE t) :=
  gives_onDev (exec_ttDynamicSend ..) ((if_neg (ne_true_of_eq_false hstays)).trans
    ((if_pos ⟨hstate, hkind, hpending, hadmitted⟩).trans (if_pos (by rwa [Dev.ttAt_ttLatest]))))

theorem gives_ttDynamicSend {live : Nat} (htime : mini ≤ s.dev.ttLatest t)
    (hlive : chMask (s.dev.rdi TT_BUFSLOT_CHMASK (t * 256 + k)) (fun ch => !(s.dev.ttPassive t).testBit ch) = live)
    (hsends : live ≠ 0) : Gives (.ttDynamicSend t k mini) s
      ((s.dev.ttAt t (s.dev.rdi TT_BUFSLOT_SLOT (t * 256 + k))).ttDynamicSent t k live) := by
  have hlate : ¬ (s.dev.ttAt t (s.dev.rdi TT_BUFSLOT_SLOT (t * 256 + k))).ttLatest t < mini := by
    rw [Dev.ttAt_ttLatest]
    exact Nat.not_lt.mpr htime
  refine gives_onDev (exec_ttDynamicSend ..) ((if_neg (ne_true_of_eq_false hstays)).trans
    ((if_pos ⟨hstate, hkind, hpending, hadmitted⟩).trans ((if_neg hlate).trans ?_)))
  simp (disch := decide) only [Dev.ttDynamicSent, Dev.ttAt_ttPassive, Dev.ttAt_rdi_buf, Dev.ttAt_rdi, Dev.ttAt_pending, hlive,
    if_neg hsends]

end

/-! ### TT_CLUSTER_AWAKE and TT_LISTEN_TIMEOUT (R397, R399, R509) -/

theorem gives_ttClusterAwake (hstate : s.dev.rdi TT_STAT_STATE t = 1) (hawake : s.dev.unitAsleep 2 t = false) :
    Gives (.ttClusterAwake t) s ((s.dev.ttAwake t).each (s.dev.sleepClusters 2 t) Dev.clStarted) :=
  gives_onDev (exec_ttClusterAwake ..) (if_pos ⟨hstate, by rw [hawake]; rfl⟩)

theorem gives_ttClusterAwake_asleep (hasleep : s.dev.unitAsleep 2 t = true) : Gives (.ttClusterAwake t) s s.dev :=
  gives_onDev (exec_ttClusterAwake ..) (if_neg fun h => by rw [hasleep] at h; exact Bool.false_ne_true h.2)

/-- A unit of no cluster is never past a sleep commit point. -/
theorem Dev.unitAsleep_alone {d : Dev} {kind : Nat} (h : d.sleepClusters kind t = []) : d.unitAsleep kind t = false := by
  rw [Dev.unitAsleep, h]
  rfl

theorem gives_ttListenTimeout {silent : Nat} (hstate : s.dev.rdi TT_STAT_STATE t = 2)
    (hphase : (s.dev.ttCtl t).phase = .listening) (hleft : 0 < s.dev.rdi TT_STAT_ATTLEFT t) (htime : s.dev.ttListen t ≤ silent) :
    Gives (.ttListenTimeout t silent) s
      ((s.dev.wri TT_STAT_ATTLEFT t (s.dev.rdi TT_STAT_ATTLEFT t - 1)).setTtCtl t { s.dev.ttCtl t with phase := .symbol }) :=
  gives_onDev (exec_ttListenTimeout ..) (if_pos ⟨hstate, hphase, hleft, htime⟩)

/-! ### The end of the start-up (R397, R399) -/

/-- The controller has joined the cluster, before its state shows it. -/
def Dev.ttJoined (d : Dev) (t : Nat) : Dev :=
  d.setTtCtl t { d.ttCtl t with phase := .integrating, missing := 0, regained := 0, activeCycle := false }

/-- While no channel is guardian-passive, a startup that completes ends in NORMAL_ACTIVE. -/
theorem gives_ttStartupComplete (hstate : s.dev.rdi TT_STAT_STATE t = 2) (hjoined : (s.dev.ttCtl t).joined = true)
    (hstays : (s.dev.ttCtl t).leaving = false) (hpassive : s.dev.ttPassive t = 0) :
    Gives (.ttStartupComplete t) s ((s.dev.ttJoined t).ttState t 3 0x0450) := by
  have hopen : ((s.dev.ttJoined t).ttState t 3 0x0450).ttAllPassive t = false := by
    have hkept : ((s.dev.ttJoined t).ttState t 3 0x0450).ttPassive t = s.dev.ttPassive t := by
      simp (disch := decide) only [Dev.ttPassive, Dev.ttState_active_rdi]
      rfl
    rw [Dev.ttAllPassive, hkept, hpassive]
    rfl
  exact gives_onDev (exec_ttStartupComplete ..)
    ((if_pos ⟨hstate, hjoined, by rw [hstays]; rfl⟩).trans (if_neg (ne_true_of_eq_false hopen)))

theorem TtCtl.not_joined {x : TtCtl} (h : x.phase = .symbol ∨ x.phase = .resolving) : x.joined = false := by
  rcases h with h | h <;> rw [TtCtl.joined, h]

theorem gives_ttStartupComplete_early (h : (s.dev.ttCtl t).joined = false) : Gives (.ttStartupComplete t) s s.dev :=
  gives_onDev (exec_ttStartupComplete ..) (if_neg fun hdone => ne_true_of_eq_false h hdone.2.1)

theorem gives_ttColdstartAbandon (hstate : s.dev.rdi TT_STAT_STATE t = 2) (hphase : (s.dev.ttCtl t).phase = .listening ∨
      (s.dev.ttCtl t).phase = .symbol ∨ (s.dev.ttCtl t).phase = .resolving) : Gives (.ttColdstartAbandon t) s
    ((s.dev.setTtCtl t { s.dev.ttCtl t with phase := .listening }).trig 0x0453 [t]) :=
  gives_onDev (exec_ttColdstartAbandon ..) (if_pos ⟨hstate, hphase⟩)

/-- A node that integrates or checks has no attempt to abandon. -/
theorem gives_ttColdstartAbandon_none (h : (s.dev.ttCtl t).phase = .integrating ∨ (s.dev.ttCtl t).phase = .checking) :
    Gives (.ttColdstartAbandon t) s s.dev := by
  refine gives_onDev (exec_ttColdstartAbandon ..) (if_neg ?_)
  rcases h with h | h <;> simp [h]

theorem gives_ttColdstartExhausted (hstate : s.dev.rdi TT_STAT_STATE t = 2) (hnode : s.dev.flagi TT_COLD_CSEN t = true)
    (hleft : s.dev.rdi TT_STAT_ATTLEFT t = 0) (hphase : (s.dev.ttCtl t).phase = .listening) : Gives (.ttColdstartExhausted t) s
      (((s.dev.setTtCtl t { s.dev.ttCtl t with integrateOnly := true, phase := .integrating }).wri TT_EVT_COLDEX t 1).trig
        0x0454 [t]) :=
  gives_onDev (exec_ttColdstartExhausted ..) (if_pos ⟨hstate, hnode, hleft, hphase⟩)

end Sys2Proof.Machine
end

section
/-! SUPPORT. Clock correction, HALT and the bus guardians of the time-triggered controllers (R385, R386, R397, R400 to R404). -/

namespace Sys2Proof.Machine

theorem exec_ttClockCorrectionMissing (t : Nat) (s : State) :
    exec (.ttClockCorrectionMissing t) s = execTtClockCorrectionMissing t s := rfl
theorem exec_ttClockCorrectionRegained (t : Nat) (rates offsets : List Int) (s : State) :
    exec (.ttClockCorrectionRegained t rates offsets) s = execTtClockCorrectionRegained t rates offsets s := rfl
theorem exec_ttHaltExpiry (t : Nat) (s : State) : exec (.ttHaltExpiry t) s = execTtHaltExpiry t s := rfl
theorem exec_guardianCycleMark (t cycle len : Nat) (s : State) :
    exec (.guardianCycleMark t cycle len) s = execGuardianCycleMark t cycle len s := rfl
theorem exec_guardianMarkTimeout (t : Nat) (s : State) : exec (.guardianMarkTimeout t) s = execGuardianMarkTimeout t s := rfl
theorem exec_ttTruncation (t ch start til : Nat) (s : State) :
    exec (.ttTruncation t ch start til) s = execTtTruncation t ch start til s := rfl

variable {s : State} {t : Nat}

/-! ### TT_CLOCK_CORRECTION_MISSING (R386, R397) -/

/-- One more double cycle without clock correction is counted. -/
def Dev.ttMissed (d : Dev) (t : Nat) : Dev := d.setTtCtl t { d.ttCtl t with missing := (d.ttCtl t).missing + 1, regained := 0 }

theorem Dev.ttMissed_ttCtl (d : Dev) :
    (d.ttMissed t).ttCtl t = { d.ttCtl t with missing := (d.ttCtl t).missing + 1, regained := 0 } :=
  Dev.ttCtl_setTtCtl_self ..

/-- A controller that follows the cluster's clock: the fourth double cycle in a row without correction ends in HALT, and in
NORMAL_ACTIVE the second one in NORMAL_PASSIVE. -/
theorem gives_ttClockCorrectionMissing (hstate : s.dev.rdi TT_STAT_STATE t = 3 ∨ s.dev.rdi TT_STAT_STATE t = 4) :
    Gives (.ttClockCorrectionMissing t) s (
      if 4 ≤ (s.dev.ttCtl t).missing + 1 then (s.dev.ttMissed t).ttState t 5 0x0452
      else if s.dev.rdi TT_STAT_STATE t = 3 ∧ 2 ≤ (s.dev.ttCtl t).missing + 1 then (s.dev.ttMissed t).ttState t 4 0x0451
      else s.dev.ttMissed t) :=
  gives_onDev (exec_ttClockCorrectionMissing ..) (if_pos hstate)

/-! ### TT_CLOCK_CORRECTION_REGAINED (R385, R386, R397) -/

theorem bounded_bounds (v : Int) (bound : Nat) : -(bound : Int) ≤ bounded v bound ∧ bounded v bound ≤ bound := by
  unfold bounded
  omega

/-- The corrections in force after a double cycle that gave them. -/
def Dev.ttCorrected (d : Dev) (t : Nat) (rates offsets : List Int) : Dev :=
  ((d.wri TT_CLKCOR_RATE t (BitVec.ofInt 16 (d.ttRate t rates)).toNat).wri TT_CLKCOR_OFFSET t
    (BitVec.ofInt 16 (d.ttOffset t offsets)).toNat).setTtCtl t
      { d.ttCtl t with missing := 0, regained := (d.ttCtl t).regained + 1 }

section
variable (d : Dev) (rates offsets : List Int)

theorem Dev.ttCorrected_reads :
    (d.ttCorrected t rates offsets).rdi TT_CLKCOR_RATE t = (BitVec.ofInt 16 (d.ttRate t rates)).toNat ∧
    (d.ttCorrected t rates offsets).rdi TT_CLKCOR_OFFSET t = (BitVec.ofInt 16 (d.ttOffset t offsets)).toNat := by
  simp (disch := decide) only [Dev.ttCorrected, Dev.setTtCtl_rdi, Dev.rdi_wri_alike, Dev.rdi_wri_self]
  exact ⟨Nat.mod_eq_of_lt (BitVec.isLt _), Nat.mod_eq_of_lt (BitVec.isLt _)⟩

theorem Dev.ttCorrected_ttCtl : (d.ttCorrected t rates offsets).ttCtl t =
    { d.ttCtl t with missing := 0, regained := (d.ttCtl t).regained + 1 } :=
  Dev.ttCtl_setTtCtl_self ..

theorem Dev.ttCorrected_regsBut : d.regsBut (d.ttCorrected t rates offsets) [(TT_CLKCOR_RATE, t), (TT_CLKCOR_OFFSET, t)] :=
  (((Dev.regsBut.refl d _).wri (by simp) _).wri (by simp) _).setTtCtl t _

/-- Clock correction changes neither the channels that the deck connects nor those that are guardian-passive. -/
theorem Dev.ttCorrected_channels :
    (d.ttCorrected t rates offsets).ttConnected t &&& (3 - (d.ttCorrected t rates offsets).ttPassive t) =
      d.ttConnected t &&& (3 - d.ttPassive t) := by
  have hpassive : (d.ttCorrected t rates offsets).ttPassive t = d.ttPassive t := by
    simp (disch := decide) only [Dev.ttPassive, Dev.ttCorrected, Dev.setTtCtl_rdi, Dev.rdi_wri_alike]
  rw [hpassive]
  rfl

end

section
variable {rates offsets : List Int} (hrates : rates ≠ []) (hoffsets : offsets ≠ [])
include hrates hoffsets

theorem gives_ttClockCorrectionRegained_active (hstate : s.dev.rdi TT_STAT_STATE t = 3) :
    Gives (.ttClockCorrectionRegained t rates offsets) s (s.dev.ttCorrected t rates offsets) :=
  gives_onDev (exec_ttClockCorrectionRegained ..) ((if_pos ⟨.inl hstate, hrates, hoffsets⟩).trans
    (if_neg fun h => absurd (hstate.symm.trans h.1) (by decide)))

/-- The second correction in a row takes a controller that may send on a channel back to NORMAL_ACTIVE. -/
theorem gives_ttClockCorrectionRegained_back (hstate : s.dev.rdi TT_STAT_STATE t = 4)
    (hagain : 1 ≤ (s.dev.ttCtl t).regained) (hchan : s.dev.ttConnected t &&& (3 - s.dev.ttPassive t) ≠ 0) :
    Gives (.ttClockCorrectionRegained t rates offsets) s (((s.dev.ttCorrected t rates offsets).setTtCtl t
      { (s.dev.ttCorrected t rates offsets).ttCtl t with activeCycle := false }).ttState t 3 0x0450) :=
  gives_onDev (exec_ttClockCorrectionRegained ..) ((if_pos ⟨.inr hstate, hrates, hoffsets⟩).trans
    (if_pos ⟨hstate, Nat.succ_le_succ hagain, by rwa [← s.dev.ttCorrected_channels rates offsets] at hchan⟩))

end

/-! ### TT_HALT_EXPIRY (R397) -/

/-- What a controller keeps of its own state in READY (R392, R394, R397). -/
def TtCtl.ready (x : TtCtl) : TtCtl := { waiting := x.waiting, pending := x.pending, integrateOnly := x.rejoin }

/-- A controller outside NORMAL_ACTIVE returns to READY while the bus die runs. -/
theorem Dev.ttReady_inactive {d : Dev} (hstate : d.rdi TT_STAT_STATE t ≠ 3) (hbus : d.flt.busHeld = false) :
    d.ttReady t = ((d.setTtCtl t (d.ttCtl t).ready).wri TT_STAT_STATE t 1).wri TT_STAT_SLOT t 0 := by
  have hkept : d.ttInactive t = d := if_neg hstate
  rw [Dev.ttReady, hkept, Dev.setTtCtl_flt, hbus]
  rfl

/-- A controller that HALT has released, and the count of its halts. -/
def Dev.ttReleased (d : Dev) (t : Nat) : Dev :=
  (((d.setTtCtl t (d.ttCtl t).ready).wri TT_STAT_STATE t 1).wri TT_STAT_SLOT t 0).inci TT_GCNT_HALTS t

theorem Dev.ttReleased_reads (d : Dev) : (d.ttReleased t).rdi TT_STAT_STATE t = 1 ∧ (d.ttReleased t).rdi TT_STAT_SLOT t = 0 ∧
    (d.ttReleased t).rdi TT_GCNT_HALTS t = min (d.rdi TT_GCNT_HALTS t + 1) (2 ^ TT_GCNT_HALTS.width - 1) := by
  simp (disch := decide) only [Dev.ttReleased, Dev.rdi_inci_self, Dev.rdi_inci_alike, Dev.rdi_wri_alike, Dev.rdi_wri_self,
    Dev.setTtCtl_rdi, and_true]
  exact ⟨rfl, rfl⟩

theorem gives_ttHaltExpiry (hstate : s.dev.rdi TT_STAT_STATE t = 5) (hbus : s.dev.flt.busHeld = false) :
    Gives (.ttHaltExpiry t) s (s.dev.ttReleased t) := by
  have hinactive : s.dev.rdi TT_STAT_STATE t ≠ 3 := by omega
  refine gives_onDev (exec_ttHaltExpiry ..) ((if_pos hstate).trans ?_)
  rw [Dev.ttReady_inactive hinactive hbus]
  rfl

theorem gives_ttHaltExpiry_none (hstate : s.dev.rdi TT_STAT_STATE t ≠ 5) : Gives (.ttHaltExpiry t) s s.dev :=
  gives_onDev (exec_ttHaltExpiry ..) (if_neg hstate)

/-! ### GUARDIAN_CYCLE_MARK and GUARDIAN_MARK_TIMEOUT (R386, R401) -/

/-- The next cycle of a controller that neither integrates nor has sent its symbol. -/
theorem Dev.ttCycleBegins_next {d : Dev} (cycle : Nat) (hstate : d.rdi TT_STAT_STATE t ≠ 2)
    (hphase : (d.ttCtl t).phase ≠ .symbol) : d.ttCycleBegins t cycle = d.ttNextCycle t (d.rdi TT_STAT_CYCLE t) :=
  (if_neg fun h => hstate h.1).trans (if_neg hphase)

theorem TtCtl.attempt_integrating {x : TtCtl} (h : x.phase = .integrating) (n : Nat) : x.attempt n = x := by
  rw [TtCtl.attempt, h]

/-- A coldstart attempt changes nothing of the guardian. -/
theorem TtCtl.attempt_guardian (x : TtCtl) (n : Nat) : (x.attempt n).marked = x.marked ∧ (x.attempt n).lastLen = x.lastLen := by
  unfold TtCtl.attempt
  split
  case h_1 => exact ⟨rfl, rfl⟩
  case h_2 => split <;> exact ⟨rfl, rfl⟩
  case h_3 => split <;> exact ⟨rfl, rfl⟩
  case h_4 => exact ⟨rfl, rfl⟩
  case h_5 => exact ⟨rfl, rfl⟩

theorem Dev.ttCycle_guardian (d : Dev) (cycle : Nat) : ((d.ttCycle t cycle).ttCtl t).marked = (d.ttCtl t).marked ∧
    ((d.ttCycle t cycle).ttCtl t).lastLen = (d.ttCtl t).lastLen := by
  obtain ⟨active, hctl⟩ := d.ttCycle_ttCtl t cycle
  rw [hctl]
  exact TtCtl.attempt_guardian _ _

/-- The cycle that begins does not change what mark the guardian accepts. -/
theorem Dev.ttCycle_ttMarkOk (d : Dev) (cycle len : Nat) : (d.ttCycle t cycle).ttMarkOk t len = d.ttMarkOk t len := by
  obtain ⟨-, hlast⟩ := d.ttCycle_guardian (t := t) cycle
  have hnominal : (d.ttCycle t cycle).ttNominal t = d.ttNominal t := by
    simp (disch := decide) only [Dev.ttNominal, Dev.ttMacrotick, Dev.ttCycle_rdi_kept]
  unfold Dev.ttMarkOk
  dsimp only
  rw [hlast, hnominal]

section
variable (cycle len : Nat)

/-- The first mark has no prediction: it is accepted whatever its distance. -/
theorem gives_guardianCycleMark_first (hruns : s.dev.ttRuns t) (hstays : (s.dev.ttCtl t).leaving = false)
    (hmarked : (s.dev.ttCtl t).marked = false) : Gives (.guardianCycleMark t cycle len) s ((s.dev.ttCycle t cycle).setTtCtl t
      { (s.dev.ttCycle t cycle).ttCtl t with marked := true, windowsClosed := false }) := by
  obtain ⟨hmark, -⟩ := s.dev.ttCycle_guardian (t := t) cycle
  exact gives_onDev (exec_guardianCycleMark ..) ((if_pos hruns).trans
    ((if_neg (ne_true_of_eq_false hstays)).trans (if_pos (by rw [hmark, hmarked]; rfl))))

theorem gives_guardianCycleMark_accepted (hruns : s.dev.ttRuns t) (hstays : (s.dev.ttCtl t).leaving = false)
    (hmarked : (s.dev.ttCtl t).marked = true) (hok : s.dev.ttMarkOk t len = true) :
    Gives (.guardianCycleMark t cycle len) s ((s.dev.ttCycle t cycle).setTtCtl t
      { (s.dev.ttCycle t cycle).ttCtl t with lastLen := len, windowsClosed := false }) := by
  obtain ⟨hmark, -⟩ := s.dev.ttCycle_guardian (t := t) cycle
  exact gives_onDev (exec_guardianCycleMark ..) ((if_pos hruns).trans
    ((if_neg (ne_true_of_eq_false hstays)).trans
      ((if_neg (by rw [hmark, hmarked]; decide)).trans (if_pos (by rwa [Dev.ttCycle_ttMarkOk])))))

end

theorem gives_guardianMarkTimeout (hmarked : (s.dev.ttCtl t).marked = true) :
    Gives (.guardianMarkTimeout t) s (s.dev.ttMarkError t) :=
  gives_onDev (exec_guardianMarkTimeout ..) (if_pos hmarked)

theorem Dev.ttMarkError_reads (d : Dev) : (d.ttMarkError t).rdi TT_EVT_MARKERR t = 1 ∧
    (d.ttMarkError t).rdi TT_GCNT_MARKERR t = min (d.rdi TT_GCNT_MARKERR t + 1) (2 ^ TT_GCNT_MARKERR.width - 1) := by
  simp (disch := decide) only [Dev.ttMarkError, Dev.rdi_trig_tt, Dev.rdi_wri_self, Dev.rdi_wri_alike, Dev.rdi_inci_self,
    Dev.setTtCtl_rdi, and_true]
  rfl

theorem Dev.ttMarkError_closed (d : Dev) : ((d.ttMarkError t).ttCtl t).windowsClosed = true := by
  simp only [Dev.ttMarkError, Dev.ttCtl_trig, Dev.ttCtl_wri, Dev.inci, Dev.addi, Dev.ttCtl_setTtCtl_self]

/-! ### TT_TRUNCATION (R402 to R404) -/

theorem gives_ttTruncation_none {ch start til : Nat} (hcut : s.dev.ttCut t ch start til = false) :
    Gives (.ttTruncation t ch start til) s s.dev :=
  gives_onDev (exec_ttTruncation ..) (if_pos (by rw [hcut]; rfl))

/-- The truncations of a channel are counted in no register. -/
theorem Dev.fwEvent_truncation_rdi (d : Dev) (ch th : Nat) (g : Field) (j : Nat) :
    (d.fwEvent (.truncation t ch) th).rdi g j = d.rdi g j := by
  unfold Dev.fwEvent
  split <;> rfl

section
variable {start til : Nat}

/-- A truncation on channel A below THRESH is counted and recorded. -/
theorem gives_ttTruncation_counted (hcut : s.dev.ttCut t 0 start til = true)
    (hbelow : s.dev.fwFires (.truncation t 0) (s.dev.rdi TT_GUARD_THRESH t) = false) : Gives (.ttTruncation t 0 start til) s
      ((((s.dev.inci TT_GCNT_TRUNCA t).wri TT_EVT_TRUNCA t 1).fwEvent (.truncation t 0)
        (s.dev.rdi TT_GUARD_THRESH t)).trig 0x0455 [t]) :=
  gives_onDev (exec_ttTruncation ..) ((if_neg (by rw [hcut]; decide)).trans (if_neg (ne_true_of_eq_false hbelow)))

/-- Channel B as the truncation that reaches THRESH leaves it: guardian-passive (R403). -/
def Dev.ttPassiveB (d : Dev) (t : Nat) : Dev :=
  ((((d.inci TT_GCNT_TRUNCB t).wri TT_EVT_TRUNCB t 1).fwEvent (.truncation t 1) (d.rdi TT_GUARD_THRESH t)).wri
    TT_STAT_PASSB t 1).wri TT_EVT_PASSB t 1

theorem Dev.ttPassiveB_state (d : Dev) : (d.ttPassiveB t).rdi TT_STAT_STATE t = d.rdi TT_STAT_STATE t := by
  simp (disch := decide) only [Dev.ttPassiveB, Dev.rdi_wri_alike, Dev.fwEvent_truncation_rdi, Dev.rdi_inci_alike]

/-- Outside NORMAL_ACTIVE the channel becomes guardian-passive, and the state stays. -/
theorem gives_ttTruncation_passive (hcut : s.dev.ttCut t 1 start til = true)
    (hfires : s.dev.fwFires (.truncation t 1) (s.dev.rdi TT_GUARD_THRESH t) = true) (hstate : s.dev.rdi TT_STAT_STATE t ≠ 3) :
    Gives (.ttTruncation t 1 start til) s (((s.dev.ttPassiveB t).trig 0x0455 [t]).trig 0x0456 [t]) := by
  have hstays : ¬ (((s.dev.ttPassiveB t).ttConnected t &&& (3 - (s.dev.ttPassiveB t).ttPassive t) == 0) = true ∧
      (s.dev.ttPassiveB t).rdi TT_STAT_STATE t = 3) := fun h => hstate (s.dev.ttPassiveB_state.symm.trans h.2)
  exact gives_onDev (exec_ttTruncation ..) ((if_neg (by rw [hcut]; decide)).trans ((if_pos hfires).trans
    (congrArg (fun d : Dev => (d.trig 0x0455 [t]).trig 0x0456 [t]) (if_neg hstays))))

end

end Sys2Proof.Machine
end

section
/-! CERTIFICATES. The statements of the time-triggered bus family that are settled. -/

namespace Sys2Proof.Proofs
open Sys2Proof.Machine

/-- Settles O38: each clause is the branch of a command that its hypotheses choose; the slot in progress changes neither the buffers
of a slot (`Dev.ttAt_ttBufs`) nor pLatestTx (`Dev.ttAt_ttLatest`), whose registers lie above the controller's own. -/
theorem timeTriggeredCommands : Obligations.TimeTriggeredCommands := by
  refine ⟨?keySlot, ?slot, ?passiveSlot, fun s t slot start til hruns => gives_ttSlotStart_leaves slot start til hruns, ?silence,
    ?frame, ?late, ?sends, fun s t => gives_ttClusterAwake, ?awake,
    fun s t hasleep => exec_of_gives_same (gives_ttClusterAwake_asleep hasleep), ?symbol, ?completes,
    fun s t hphase => exec_of_gives_same (gives_ttStartupComplete_early (TtCtl.not_joined hphase)),
    fun s t => gives_ttColdstartAbandon, fun s t hphase => exec_of_gives_same (gives_ttColdstartAbandon_none hphase),
    fun s t => gives_ttColdstartExhausted⟩
  case keySlot =>
    intro s t slot start til d hstate hstays hd
    subst hd
    have hgives := gives_ttSlotStart slot start til (.inl hstate) hstays
    rwa [hstate] at hgives
  case slot =>
    intro s t slot start til d hstate hstays hd hkey
    subst hd
    have hgives := gives_ttSlotStart slot start til (.inr (.inl hstate)) hstays
    rwa [hstate, Dev.ttSlotBufs_active (Dev.ttKeyBufs_eq_nil hkey), Dev.ttAt_rdi _ _ _ (by decide)] at hgives
  case passiveSlot =>
    intro s t slot start til hstate hstays
    have hgives := gives_ttSlotStart slot start til (.inr (.inr hstate)) hstays
    rw [hstate] at hgives
    exact ⟨_, hgives, s.dev.ttAt_shows t slot, rfl, s.dev.ttAt_regsBut t slot⟩
  case silence =>
    intro s t f hruns hstays ha hb
    have hgives := gives_ttFrameReceived (f := f) hruns hstays
    rwa [if_neg (by simp [ha, hb]), Dev.ttHeard, Dev.ttHear_silent _ ha hb] at hgives
  case frame =>
    intro s t f hruns hstays hheard
    have hgives := gives_ttFrameReceived (f := f) hruns hstays
    rwa [if_pos hheard] at hgives
  case late =>
    intro s t k mini hstate hstays hkind hpending hadmitted hlate
    have hcount := s.dev.ttAt_rdi t (s.dev.rdi TT_BUFSLOT_SLOT (t * 256 + k)) (g := TT_TXCNT_LATE) (by decide)
    refine ⟨_, gives_ttDynamicSend_late hstate hstays hkind hpending hadmitted hlate, ?_,
      s.dev.ttAt_pending t _, rfl, ?_⟩
    · rw [Dev.rdi_inci_self, hcount]
    · exact (((Dev.regsBut.refl s.dev _).setTtCtl t _).wri (by simp) _).wri (by simp) _
  case sends =>
    intro s t k mini hstate hstays hkind hpending hadmitted htime hpassive hmask
    have hlive := chMask_one hmask (ok := fun ch => !(s.dev.ttPassive t).testBit ch) (by simp [hpassive])
    obtain ⟨hdone, hwaits⟩ := (s.dev.ttAt t (s.dev.rdi TT_BUFSLOT_SLOT (t * 256 + k))).ttDynamicSent_reads (t := t) k
      (s.dev.rdi TT_BUFSLOT_CHMASK (t * 256 + k))
    refine ⟨_, gives_ttDynamicSend hstate hstays hkind hpending hadmitted htime hlive (by omega), hdone, ?_, ?_, ?_⟩
    · rw [hwaits, Dev.ttAt_pending]
    · simp (disch := decide) only [Dev.ttDynamicSent, Dev.ttAt_rdi_buf, Dev.ttAt_rdi]
      rfl
    · exact (((Dev.regsBut.refl s.dev _).setTtCtl t _).wri (by simp) _).wri (by simp) _
  case awake =>
    intro s t hstate halone
    have hgives := gives_ttClusterAwake hstate (Dev.unitAsleep_alone halone)
    rw [halone] at hgives
    obtain ⟨hstarts, hpassA, hpassB, hleft⟩ := s.dev.ttAwake_reads t
    have hctl := s.dev.ttAwake_ttCtl t
    exact ⟨_, hgives, hstarts, hpassA, hpassB, hleft, congrArg TtCtl.missing hctl, congrArg TtCtl.phase hctl,
      s.dev.ttAwake_fwCount t, s.dev.ttAwake_regsBut t⟩
  case symbol =>
    intro s t silent hstate hphase hleft htime
    exact ⟨_, gives_ttListenTimeout hstate hphase hleft htime, Dev.rdi_wri_self .., Dev.ttCtl_setTtCtl_self .., rfl,
      ((Dev.regsBut.refl s.dev _).wri (by simp) _).setTtCtl t _⟩
  case completes =>
    intro s t hstate hjoined hstays hpassive _
    obtain ⟨hactive, hevt⟩ := (s.dev.ttJoined t).ttState_reads t 0x0450 (st := 3) (by decide)
    exact ⟨_, gives_ttStartupComplete hstate hjoined hstays hpassive, hactive, hevt,
      (Dev.ttState_active_ttCtl ..).trans (Dev.ttCtl_setTtCtl_self ..), Dev.trig_mem ..⟩

/-- Settles O39: each clause is the branch of a command that its hypotheses choose; what exceeds the limits of a correction is cut
off there (log entry 62), and a cycle that begins leaves the guardian's prediction alone (`Dev.ttCycle_ttMarkOk`). -/
theorem timeTriggeredGuardians : Obligations.TimeTriggeredGuardians := by
  refine ⟨?halts, ?passive, ?missing, ?corrected, ?back, ?bounds, ?released,
    fun s t hstate => exec_of_gives_same (gives_ttHaltExpiry_none hstate), ?firstMark, ?mark, fun s t => gives_guardianMarkTimeout,
    ?timeout, fun s t ch start til hcut => exec_of_gives_same (gives_ttTruncation_none hcut),
    fun s t start til => gives_ttTruncation_counted, fun s t start til => gives_ttTruncation_passive⟩
  case halts =>
    intro s t hstate hmissing _
    have hgives := gives_ttClockCorrectionMissing hstate
    rw [if_pos (by omega)] at hgives
    obtain ⟨hhalt, hevt⟩ := (s.dev.ttMissed t).ttState_reads t 0x0452 (st := 5) (by decide)
    obtain ⟨active, hctl⟩ := (s.dev.ttMissed t).ttState_halt_ttCtl t 0x0452
    rw [Dev.ttMissed_ttCtl] at hctl
    exact ⟨_, hgives, hhalt, hevt, Dev.ttState_halt_slot .., congrArg TtCtl.missing hctl, congrArg TtCtl.slot hctl⟩
  case passive =>
    intro s t hstate hmissing _
    have hgives := gives_ttClockCorrectionMissing (.inl hstate)
    rw [if_neg (by omega), if_pos (by omega)] at hgives
    obtain ⟨hpassive, hevt⟩ := (s.dev.ttMissed t).ttState_reads t 0x0451 (st := 4) (by decide)
    obtain ⟨active, hctl⟩ := (s.dev.ttMissed t).ttState_passive_ttCtl t 0x0451
    rw [Dev.ttMissed_ttCtl, hmissing] at hctl
    exact ⟨_, hgives, hpassive, hevt, congrArg TtCtl.missing hctl, (congrArg TtCtl.slot hctl :)⟩
  case missing =>
    intro s t hstate hmissing
    have hgives := gives_ttClockCorrectionMissing hstate
    rwa [if_neg (by omega), if_neg (by omega), Dev.ttMissed, hmissing] at hgives
  case corrected =>
    intro s t rates offsets hstate hrates hoffsets
    obtain ⟨hrate, hoffset⟩ := s.dev.ttCorrected_reads rates offsets (t := t)
    exact ⟨_, gives_ttClockCorrectionRegained_active hrates hoffsets hstate, hrate, hoffset, s.dev.ttCorrected_ttCtl rates offsets,
      rfl, s.dev.ttCorrected_regsBut rates offsets⟩
  case back =>
    intro s t rates offsets hstate hrates hoffsets _ hagain hchan
    have hgives := gives_ttClockCorrectionRegained_back hrates hoffsets hstate hagain hchan
    rw [Dev.ttCorrected_ttCtl] at hgives
    obtain ⟨hactive, hevt⟩ := Dev.ttState_reads _ t 0x0450 (st := 3) (by decide)
    exact ⟨_, hgives, hactive, hevt,
      congrArg TtCtl.missing ((Dev.ttState_active_ttCtl ..).trans (Dev.ttCtl_setTtCtl_self ..))⟩
  case bounds =>
    intro d t l
    obtain ⟨hoffsetLo, hoffsetHi⟩ := bounded_bounds (midpoint (d.ttMeasured t l)) (d.rdi TT_CYCLE_UPM t)
    exact ⟨hoffsetLo, hoffsetHi, bounded_bounds _ (d.ttRateOut t)⟩
  case released =>
    intro s t hstate hbus
    obtain ⟨hready, hslot, hhalts⟩ := s.dev.ttReleased_reads (t := t)
    exact ⟨_, gives_ttHaltExpiry hstate hbus, hready, hslot, Dev.ttCtl_setTtCtl_self .., hhalts, rfl,
      ((((Dev.regsBut.refl s.dev _).setTtCtl t _).wri (by simp) _).wri (by simp) _).wri (by simp) _⟩
  case firstMark =>
    intro s t cycle len hstate hstays hphase hactive hmarked
    have hgives := gives_guardianCycleMark_first cycle len (.inr (.inl hstate)) hstays hmarked
    have hnext : s.dev.ttCycleBegins t cycle = s.dev.ttNextCycle t (s.dev.rdi TT_STAT_CYCLE t) :=
      Dev.ttCycleBegins_next cycle (by omega) (by simp [hphase])
    rw [s.dev.ttCycle_first t cycle hactive, TtCtl.attempt_integrating hphase, hnext, hstate, Dev.ttCtl_setTtCtl_self] at hgives
    obtain ⟨hcycle, hevt⟩ := s.dev.ttCycleShown_reads t (s.dev.ttNextCycle t (s.dev.rdi TT_STAT_CYCLE t))
    exact ⟨_, hgives, hcycle, hevt, Dev.ttCtl_setTtCtl_self .., rfl,
      ((((Dev.regsBut.refl s.dev _).wri (by simp) _).wri (by simp) _).setTtCtl t _).setTtCtl t _⟩
  case mark =>
    intro s t cycle len hruns hstays hmarked hok
    have hctl := (s.dev.ttCycle t cycle).ttCtl_setTtCtl_self t
      { (s.dev.ttCycle t cycle).ttCtl t with lastLen := len, windowsClosed := false }
    obtain ⟨-, hevt⟩ := s.dev.ttCycleShown_reads t (s.dev.ttCycleBegins t cycle)
    exact ⟨_, gives_guardianCycleMark_accepted cycle len hruns hstays hmarked hok, congrArg TtCtl.lastLen hctl,
      congrArg TtCtl.windowsClosed hctl, (s.dev.ttCycle_rdi t cycle (by decide)).trans hevt,
      s.dev.ttCycle_rdi_kept t cycle (by decide) (by decide) (by decide)⟩
  case timeout =>
    intro s t hmarked _
    obtain ⟨hevt, hcount⟩ := s.dev.ttMarkError_reads (t := t)
    exact ⟨_, gives_guardianMarkTimeout hmarked, s.dev.ttMarkError_closed, hevt, hcount⟩

end Sys2Proof.Proofs
end

section
/-! SUPPORT. The form of every meaning: an effect on the block alone, which the initiator that makes the command must be able to make
(R619, spec/95). -/

namespace Sys2Proof.Machine

/-- A meaning that is one effect on the block, whatever waits in the queue. -/
def Uniform (m : State → Host.Outcome State Fault Refusal) : Prop := ∃ f, ∀ s, m s = onDev f s

/-- A meaning that is one effect on the block, and none where the initiator can make no access (R619). -/
def Guarded (init : Nat) (m : State → Host.Outcome State Fault Refusal) : Prop :=
  ∃ f, (∀ d : Dev, d.portOpen init = false → f d = d) ∧ ∀ s, m s = onDev f s

theorem Uniform.onDev (f : Dev → Dev) : Uniform (onDev f ·) := ⟨f, fun _ => rfl⟩

theorem Guarded.onDevBy (init : Nat) (f : Dev → Dev) : Guarded init (onDevBy init f ·) :=
  ⟨_, fun d h => by rw [h]; rfl, fun _ => rfl⟩

theorem Guarded.onBlockBy (init a : Nat) (f : Dev → Dev) : Guarded init (onBlockBy init a f ·) := .onDevBy init _

theorem Guarded.uniform {init : Nat} {m : State → Host.Outcome State Fault Refusal} (h : Guarded init m) : Uniform m :=
  let ⟨f, _, hf⟩ := h
  ⟨f, hf⟩

theorem Dev.canAccess_closed {d : Dev} {init : Nat} (h : d.portOpen init = false) : d.canAccess init = false := by
  rw [Dev.canAccess, h, Bool.and_false]

/-- A command that an initiator makes is guarded by the debug port's rule: an order to the power control and the like outside the
blocks of R29, an access to the address space, or an access to a block. -/
theorem guarded_exec {c : Instr} {init : Nat} (h : c.madeBy = some init) : Guarded init (exec c ·) := by
  cases c
  case registerWrite =>
    cases h
    exact ⟨_, fun d hclosed => if_neg (ne_true_of_eq_false (Dev.canAccess_closed hclosed)), exec_registerWrite _ _ _ _⟩
  case rcFieldRead =>
    cases h
    refine ⟨_, fun d hclosed => ?_, exec_rcFieldRead _ _ _⟩
    rw [Dev.canAccess_closed hclosed]; rfl
  case brgWindowWrite | brgWindowRead | nmwReqSet | nmwReqRelease | dozeEnter | dozeExit | pwrHoldTake | pwrHoldRelease | domainReset |
      watchdogKick =>
    cases h
    dsimp only [exec]
    exact .onDevBy ..
  all_goals
    cases h
  all_goals
    dsimp only [exec]
    exact .onBlockBy ..

/-- A command that no initiator makes is an event: an effect on the block. -/
theorem uniform_exec_event {c : Instr} (h : c.madeBy = none) : Uniform (exec c ·) := by
  cases c
  all_goals
    cases h
  all_goals
    dsimp only [exec]
    exact .onDev _

theorem uniform_exec (c : Instr) : Uniform (exec c ·) :=
  match h : c.madeBy with
  | some _ => (guarded_exec h).uniform
  | none => uniform_exec_event h

theorem gives_closed {c : Instr} {init : Nat} (h : c.madeBy = some init) {s : State} (hclosed : s.dev.portOpen init = false) :
    Gives c s s.dev := by
  obtain ⟨f, hf, hexec⟩ := guarded_exec h
  exact gives_onDev (hexec s) (hf s.dev hclosed)

end Sys2Proof.Machine
end

section
/-! SUPPORT. Steps that serve the queue, and the idle step (spec/95, R636). -/

namespace Sys2Proof.Machine

/-! ### Steps in a row -/

/-- What a list's elements are does not matter to a run that only counts them. -/
theorem foldl_bind_cons {σ : Type} (g : σ → Option σ) (n : Nat) (o : Option σ) :
    (List.range (n + 1)).foldl (fun o _ => o.bind g) o = (List.range n).foldl (fun o _ => o.bind g) (o.bind g) := by
  rw [List.range_succ_eq_map, List.foldl_cons, List.foldl_map]

/-- As many steps as commands wait serve the queue in its order, from the effect of each command on the block alone. -/
theorem served_foldl {g : State → Option State} (hg : ∀ s t, step s = .next t → g s = some t) (l : List Instr) (d : Dev) :
    ∃ e, served l d = some e ∧ (List.range l.length).foldl (fun o _ => o.bind g) (some ⟨d, l⟩) = some ⟨e, []⟩ := by
  induction l generalizing d with
  | nil => exact ⟨d, rfl, rfl⟩
  | cons c rest ih =>
    obtain ⟨f, hf⟩ := uniform_exec c
    have hfirst (q : List Instr) : exec c ⟨d, q⟩ = .next ⟨(f d).announce d, q⟩ := hf ⟨d, q⟩
    obtain ⟨e, hserved, hrun⟩ := ih ((f d).announce d)
    refine ⟨e, by rw [served, hfirst]; exact hserved, ?_⟩
    rw [List.length_cons, foldl_bind_cons, Option.bind_some, hg ⟨d, c :: rest⟩ _ (hfirst rest)]
    exact hrun

/-! ### The idle step (R636) -/

theorem Dev.canQ1Drain_nil {d : Dev} (h : d.can.q1 = []) : d.canQ1Drain = d := by
  have hsame : { d.can with q1 := [] } = d.can := by rw [← h]
  rw [Dev.canQ1Drain, hsame, h]; rfl

theorem Dev.farDrain_nil {d : Dev} (h : d.brg.arrived = []) : d.farDrain = d := by
  have hsame : { d.brg with arrived := [] } = d.brg := by rw [← h]
  rw [Dev.farDrain, hsame, h]; rfl

theorem Dev.kaDrain_nil {d : Dev} (h : d.nmw.heard = []) : d.kaDrain = d := by
  have hsame : { d.nmw with heard := [] } = d.nmw := by rw [← h]
  rw [Dev.kaDrain, hsame, h]; rfl

theorem Dev.hartsJoin_nil {d : Dev} (h : d.flt.joining = []) : d.hartsJoin = d := by
  have hsame : { d.flt with joining := [] } = d.flt := by rw [← h]
  rw [Dev.hartsJoin, hsame, h]; rfl

/-- With nothing under way a tick counts the cycle and lets ATTACHED lapse when its second is over. -/
theorem Dev.tick_quiet {d : Dev} (hq1 : d.can.q1 = []) (hfar : d.brg.arrived = [])
    (hheard : d.nmw.heard = []) (hjoin : d.flt.joining = []) :
    d.tick = if d.flag DBG_STAT_ATTACHED ∧ d.dbg.tck + attachedTicks ≤ d.now + 1 then
      ({ d with now := d.now + 1 } : Dev).wr DBG_STAT_ATTACHED 0 else { d with now := d.now + 1 } := by
  rw [Dev.tick, Dev.canQ1Drain_nil (d := { d with now := d.now + 1 }) hq1, Dev.farDrain_nil (d := { d with now := d.now + 1 }) hfar,
    Dev.kaDrain_nil (d := { d with now := d.now + 1 }) hheard, Dev.hartsJoin_nil (d := { d with now := d.now + 1 }) hjoin]
  rfl

/-- No message is due where no source is newly asserted. -/
theorem Dev.announce_quiet {d old : Dev} (h : ∀ s, d.asserted s = true → old.asserted s = true) : d.announce old = d := by
  have hnone : ((List.range 580).filter fun s => d.sourceToVm s && d.asserted s && !old.asserted s) = [] :=
    List.filter_eq_nil_iff.mpr fun s _ => by
      cases hs : d.asserted s
      · simp
      · simp [h s hs]
  rw [Dev.announce, hnone, List.map_nil, List.append_nil, ite_self]

/-! ### The word of a register, and the flags of the sources (R220) -/

/-- A field that lies at an address, seen from hart 0, is the one that the register file holds under that address. -/
theorem Field.addr_of_instAt_zero {f : Field} {a i : Nat} (h : f.instAt a 0 = some i) : f.addr i = a := by
  unfold Field.instAt at h
  unfold Field.addr
  by_cases hhart : 2 ^ 32 ≤ f.gstride
  case pos =>
    simp only [ge_iff_le, hhart, if_true, Nat.zero_mul, Nat.zero_add] at h
    by_cases hs : f.stride = 0
    · simp only [hs, if_true, Option.ite_none_right_eq_some, Option.some.injEq] at h
      obtain ⟨hbase, hoff, rfl⟩ := h
      simp only [hs, Nat.zero_div, Nat.zero_mod]
      omega
    · simp only [hs, if_false, Option.ite_none_right_eq_some, Option.some.injEq] at h
      obtain ⟨hbase, ⟨hmod, hlt⟩, rfl⟩ := h
      have hoff := Nat.div_add_mod' (a - f.base) f.stride
      rw [Nat.div_eq_of_lt hlt, Nat.mod_eq_of_lt hlt]
      omega
  case neg =>
    simp only [ge_iff_le, hhart, if_false, Option.ite_none_left_eq_some, Option.ite_none_right_eq_some, Option.some.injEq] at h
    obtain ⟨hbase, ⟨hplace, hgroup, -⟩, hi⟩ := h
    have hoff := whole_steps (a - f.base) f.gstride
    have hlo := whole_steps (if f.gstride = 0 then a - f.base else (a - f.base) % f.gstride) f.stride
    generalize (if f.gstride = 0 then 0 else (a - f.base) / f.gstride) = x at hoff hi
    generalize (if f.gstride = 0 then a - f.base else (a - f.base) % f.gstride) = lo at hoff hlo hplace hgroup hi
    generalize (if f.stride = 0 then 0 else lo / f.stride) = y at hlo hgroup hi
    have hrest : (if f.stride = 0 then lo else lo % f.stride) = 0 := by
      rcases hplace with ⟨hs, h0⟩ | ⟨hs, h0⟩
      · rwa [if_pos hs]
      · rwa [if_neg hs]
    have hdiv : i / f.group = x := by
      rw [← hi, Nat.add_comm, Nat.add_mul_div_right _ _ (by omega), Nat.div_eq_of_lt hgroup, Nat.zero_add]
    have hmod : i % f.group = y := by
      rw [← hi, Nat.add_comm, Nat.add_mul_mod_self_right, Nat.mod_eq_of_lt hgroup]
    rw [hdiv, hmod]
    omega

/-- Every field lies within the 32 bits of its register. -/
theorem fieldsAt_lsb (a : Nat) : (fieldsAt a).all (fun f => decide (f.lsb < 32)) = true := by
  have block : ∀ {c : Prop} [Decidable c] {l m : List Field}, l.all (fun f => decide (f.lsb < 32)) = true →
      m.all (fun f => decide (f.lsb < 32)) = true → (if c then l else m).all (fun f => decide (f.lsb < 32)) = true :=
    fun hl hm => by split <;> assumption
  unfold fieldsAt
  iterate 16 refine block (by decide) ?_
  decide

theorem key_of_mem_regFields {a : Nat} {p : Field × Nat} (h : p ∈ regFields a 0) : p.1.key p.2 / 32 = a := by
  obtain ⟨hp, hi⟩ := mem_regFields h
  have hlsb : p.1.lsb < 32 := of_decide_eq_true (List.all_eq_true.mp (fieldsAt_lsb a) _ hp)
  rw [Field.key, Field.addr_of_instAt_zero hi]
  omega

/-- A write leaves the word of every other register as it was. -/
theorem Dev.wordAt_wri (d : Dev) {f : Field} {i a : Nat} (h : f.key i / 32 ≠ a) (v : Nat) :
    (d.wri f i v).wordAt a 0 = d.wordAt a 0 := by
  refine List.foldl_ext _ _ _ fun w p hp => ?_
  have hkey : p.1.key p.2 ≠ f.key i := fun hk => h (hk ▸ key_of_mem_regFields hp)
  rw [Dev.rdi_wri, if_neg hkey]

/-- Flags, given by their register and mask, lie in another register than that at `a`. -/
def FlagBeside (a : Nat) (p : Nat × Nat) : Prop := p.1 ≠ a

theorem switchFlags_beside_dbgStat (s : Nat) : FlagBeside 0x40810000 (switchFlags s) := by
  unfold switchFlags
  iterate 6 refine iteInduction (motive := FlagBeside 0x40810000) (fun _ => by simp only [FlagBeside]; omega) fun _ => ?_
  simp only [FlagBeside]; omega

theorem systemFlags_beside_dbgStat (s : Nat) : FlagBeside 0x40810000 (systemFlags s) := by
  unfold systemFlags
  iterate 17 refine iteInduction (motive := FlagBeside 0x40810000) (fun _ => by simp only [FlagBeside]; omega) fun _ => ?_
  simp only [FlagBeside]; omega

/-- No source is asserted by a flag of DBG_STAT (R220). -/
theorem sourceFlags_beside_dbgStat (s : Nat) : ∀ p ∈ sourceFlags s, FlagBeside 0x40810000 p := by
  unfold sourceFlags
  repeat' refine iteInduction (motive := fun l : List (Nat × Nat) => ∀ p ∈ l, FlagBeside 0x40810000 p) (fun _ => ?_) fun _ => ?_
  all_goals simp only [List.forall_mem_singleton, List.forall_mem_map, List.mem_range, List.not_mem_nil, false_imp_iff, implies_true,
    switchFlags_beside_dbgStat, systemFlags_beside_dbgStat]
  all_goals simp only [FlagBeside]
  all_goals
    intros
    omega

/-- The sources are asserted by other registers than DBG_STAT, whose bits ATTACHED is one of. -/
theorem Dev.asserted_wr_attached (d : Dev) (v s : Nat) : (d.wr DBG_STAT_ATTACHED v).asserted s = d.asserted s := by
  have hfitted : (d.wr DBG_STAT_ATTACHED v).sourceFitted s = d.sourceFitted s := by
    have hbanks : (d.wr DBG_STAT_ATTACHED v).rd SYSCTL_PARTID_BANKS = d.rd SYSCTL_PARTID_BANKS := d.rd_wr_ne (by decide) v
    have howner : (d.wr DBG_STAT_ATTACHED v).rdi CH_OWNER s = d.rdi CH_OWNER s := by
      rw [Dev.rdi_wr, if_neg]
      simp only [Field.key, Field.addr, CH_OWNER, DBG_STAT_ATTACHED]
      omega
    rw [Dev.sourceFitted, hbanks, howner, Dev.sourceFitted]
  have hflags : ((sourceFlags s).any fun p => ((d.wr DBG_STAT_ATTACHED v).wordAt p.1 0 &&& p.2) != 0) =
      (sourceFlags s).any fun p => (d.wordAt p.1 0 &&& p.2) != 0 := by
    rw [Bool.eq_iff_iff, List.any_eq_true, List.any_eq_true]
    refine exists_congr fun p => and_congr_right fun hp => ?_
    have hword : (d.wr DBG_STAT_ATTACHED v).wordAt p.1 0 = d.wordAt p.1 0 :=
      d.wordAt_wri (fun h => sourceFlags_beside_dbgStat s p hp h.symm) v
    rw [hword]
  rw [Dev.asserted, hfitted, hflags, Dev.asserted]

end Sys2Proof.Machine
end

section
/-! SUPPORT. The CRC of a record, computed reflected byte by byte, against the division of R641, most significant bit first. -/

namespace Sys2Proof.Machine

/-- One bit of the reflected CRC, on the register as a bit vector. -/
def crcStep (c : BitVec 32) : BitVec 32 := if c.getLsbD 0 then (c >>> 1) ^^^ 0xEDB88320#32 else c >>> 1

theorem crcBit_toNat (c : BitVec 32) : crcBit c.toNat = (crcStep c).toNat := by
  have hodd : c.getLsbD 0 = decide (c.toNat % 2 = 1) := by
    rw [BitVec.getLsbD, Nat.testBit_zero]
  have hhalf : (c >>> 1).toNat = c.toNat / 2 := by
    rw [BitVec.toNat_ushiftRight, Nat.shiftRight_eq_div_pow, Nat.pow_one]
  rw [crcBit, crcStep, hodd]
  by_cases h : c.toNat % 2 = 1
  · rw [if_pos h, if_pos (decide_eq_true h), BitVec.toNat_xor, hhalf]; rfl
  · rw [if_neg h, if_neg (by simp [h]), hhalf]

/-- A number shifted in reverse: the division's step to the left is the reflected step to the right. -/
theorem reverse_shiftLeft_one (r : BitVec 32) : (r <<< 1).reverse = r.reverse >>> 1 := by
  refine BitVec.eq_of_getLsbD_eq fun i hi => ?_
  simp only [BitVec.getLsbD_reverse, BitVec.getMsbD_shiftLeft, BitVec.getLsbD_ushiftRight, Nat.add_comm]

theorem reverse_xor (x y : BitVec 32) : (x ^^^ y).reverse = x.reverse ^^^ y.reverse := by
  refine BitVec.eq_of_getLsbD_eq fun i hi => ?_
  simp only [BitVec.getLsbD_reverse, BitVec.getMsbD_xor, BitVec.getLsbD_xor]

/-- What is entered at the lowest bit is shifted out. -/
theorem xor_bit_shiftRight (x : BitVec 32) (b : Bool) : (x ^^^ (BitVec.ofBool b).setWidth 32) >>> 1 = x >>> 1 := by
  refine BitVec.eq_of_getLsbD_eq fun i hi => ?_
  have hhigh : ((BitVec.ofBool b).setWidth 32).getLsbD (1 + i) = false := by
    rw [BitVec.getLsbD_setWidth, BitVec.getLsbD_of_ge _ _ (by omega), Bool.and_false]
  simp only [BitVec.getLsbD_ushiftRight, BitVec.getLsbD_xor, hhigh, Bool.xor_false]

theorem xor_bit_getLsbD (x : BitVec 32) (b : Bool) : (x ^^^ (BitVec.ofBool b).setWidth 32).getLsbD 0 = (x.getLsbD 0 != b) := by
  rw [BitVec.getLsbD_xor, BitVec.getLsbD_setWidth]
  simp

/-- A bit enters the division at the top, and the reflected register at the bottom. -/
theorem reverse_crcDivideBit (r : BitVec 32) (b : Bool) :
    (crcDivideBit r b).reverse = crcStep (r.reverse ^^^ (BitVec.ofBool b).setWidth 32) := by
  have htop : r.reverse.getLsbD 0 = r.msb := by rw [BitVec.getLsbD_reverse, BitVec.msb_eq_getMsbD_zero]
  have hpoly : (0x04C11DB7#32).reverse = 0xEDB88320#32 := by
    refine BitVec.eq_of_getLsbD_eq fun i hi => ?_
    rw [BitVec.getLsbD_reverse]
    revert i
    decide
  rw [crcStep, xor_bit_getLsbD, xor_bit_shiftRight, htop, crcDivideBit]
  split
  · rw [reverse_xor, reverse_shiftLeft_one, hpoly]
  · rw [reverse_shiftLeft_one]

/-- The reflected step is linear: of what is entered at once, all but the lowest bit is left, one place lower. -/
theorem crcStep_xor (x v : BitVec 32) :
    crcStep (x ^^^ v) = crcStep (x ^^^ (BitVec.ofBool (v.getLsbD 0)).setWidth 32) ^^^ (v >>> 1) := by
  rw [crcStep, crcStep, xor_bit_getLsbD, xor_bit_shiftRight, BitVec.getLsbD_xor, BitVec.ushiftRight_xor_distrib]
  split
  · rw [BitVec.xor_assoc, BitVec.xor_assoc, BitVec.xor_comm (v >>> 1)]
  · rfl

/-- The lowest bits of a number, entered one by one into the division, and the number entered at once into the reflected register: the
bits not yet entered lie at its bottom. -/
theorem crcDivide_bits (r b : BitVec 32) (n : Nat) :
    (((List.range n).map b.getLsbD).foldl crcDivideBit r).reverse ^^^ (b >>> n) = crcStep^[n] (r.reverse ^^^ b) := by
  induction n with
  | zero => simp
  | succ n ih =>
    have hbit : (b >>> n).getLsbD 0 = b.getLsbD n := by rw [BitVec.getLsbD_ushiftRight, Nat.add_zero]
    have hrest : (b >>> n) >>> 1 = b >>> (n + 1) := (BitVec.shiftRight_add ..).symm
    rw [List.range_succ, List.map_append, List.foldl_append, Function.iterate_succ_apply', ← ih, crcStep_xor, hbit, hrest]
    exact congrArg (· ^^^ _) (reverse_crcDivideBit _ _)

/-- One byte: eight steps of the division, and the reflected CRC's byte. -/
theorem crcDivide_byte (r : BitVec 32) {b : Nat} (h : b < 256) :
    (((List.range 8).map fun i => b.testBit i).foldl crcDivideBit r).reverse.toNat = crcByte r.reverse.toNat b := by
  have hbits := crcDivide_bits r (BitVec.ofNat 32 b) 8
  have hnone : BitVec.ofNat 32 b >>> 8 = 0#32 := by
    apply BitVec.eq_of_toNat_eq
    rw [BitVec.toNat_ushiftRight, BitVec.toNat_ofNat, Nat.mod_eq_of_lt (by omega), Nat.shiftRight_eq_div_pow, Nat.div_eq_of_lt h]
    rfl
  have hlist : (List.range 8).map (BitVec.ofNat 32 b).getLsbD = (List.range 8).map fun i => b.testBit i := by
    refine List.map_congr_left fun i hi => ?_
    have hi : i < 32 := (List.mem_range.mp hi).trans (by decide)
    rw [BitVec.getLsbD_ofNat, decide_eq_true hi, Bool.true_and]
  have hstart : (r.reverse ^^^ BitVec.ofNat 32 b).toNat = r.reverse.toNat ^^^ b := by
    rw [BitVec.toNat_xor, BitVec.toNat_ofNat, Nat.mod_eq_of_lt (by omega)]
  rw [hnone, BitVec.xor_zero, hlist] at hbits
  rw [hbits, crcByte, ← hstart]
  simp only [crcBit_toNat]
  rfl

theorem crcDivide_bytes (l : List Nat) (h : ∀ b ∈ l, b < 256) (r : BitVec 32) :
    ((l.flatMap fun b => (List.range 8).map fun i => b.testBit i).foldl crcDivideBit r).reverse.toNat =
      l.foldl crcByte r.reverse.toNat := by
  induction l generalizing r with
  | nil => rfl
  | cons b l ih =>
    obtain ⟨hb, hl⟩ := List.forall_mem_cons.mp h
    rw [List.flatMap_cons, List.foldl_append, ih hl, List.foldl_cons, crcDivide_byte r hb]

/-- The register starts with all ones, which reversal leaves. -/
theorem reverse_allOnes : (0xFFFFFFFF#32).reverse = 0xFFFFFFFF#32 := by
  refine BitVec.eq_of_getLsbD_eq fun i hi => ?_
  rw [BitVec.getLsbD_reverse]
  revert i
  decide

end Sys2Proof.Machine
end

section
/-! CERTIFICATES. The statements of the steps and of the recorder's CRC that are settled. -/

namespace Sys2Proof.Proofs
open Sys2Proof.Machine

/-- Settles O7, by induction on the queue: a command's effect does not rest on what waits behind it. -/
theorem queueServed : Obligations.QueueServed := by
  intro s
  have hg : ∀ s t : State, step s = .next t → (match step s with | .next u => some u | _ => none) = some t :=
    fun s t h => by rw [h]
  exact served_foldl hg s.pending s.dev

/-- Settles O1: the front of the queue is what `step` runs. -/
theorem stepRunsFront : Obligations.StepRunsFront := fun _ _ _ => rfl

/-- Settles O3: every meaning answers, and none of the changes that it is made of passes time. -/
theorem everyCommandAnswers : Obligations.EveryCommandAnswers := by
  intro c s
  obtain ⟨d, hexec, hleads⟩ := answers_exec c s
  exact ⟨d, hexec, hleads.now_eq⟩

/-- Settles O6: each of the changes that a command or a tick is made of only adds to what was sent and used. -/
theorem historyGrows : Obligations.HistoryGrows := by
  intro s t hstep
  cases hp : s.pending with
  | nil =>
    simp only [step, hp, Host.Outcome.next.injEq] at hstep
    exact hstep ▸ (Dev.Leads.tick s.dev).announce.grows
  | cons c rest =>
    obtain ⟨d, hexec, hleads⟩ := answers_exec c { s with pending := rest }
    simp only [step, hp, hexec, Host.Outcome.next.injEq] at hstep
    exact hstep ▸ hleads.grows

/-- Settles O2: an idle step is a tick, and clearing ATTACHED asserts no source. -/
theorem idleTick : Obligations.IdleTick := by
  have htick {s : State} (h : s.pending = []) : step s = .next s.tick := by rw [step, h]
  refine ⟨?counts, ?quiet, ?lapses⟩
  case counts =>
    intro s h
    refine ⟨_, htick h, h, ?_⟩
    exact (Dev.Leads.tick s.dev).announce.now_eq
  case quiet =>
    intro s h hq1 hfar hheard hjoin hattached
    have hdev : s.dev.tick.announce s.dev = { s.dev with now := s.dev.now + 1 } := by
      rw [Dev.tick_quiet hq1 hfar hheard hjoin, attachedTicks, if_neg]
      · exact Dev.announce_quiet fun _ hs => hs
      · rcases hattached with hoff | hsoon
        · simp [hoff]
        · omega
    rw [htick h, State.tick, hdev]
  case lapses =>
    intro s h hq1 hfar hheard hjoin hattached hdue
    have hdev : s.dev.tick.announce s.dev = ({ s.dev with now := s.dev.now + 1 } : Dev).wr DBG_STAT_ATTACHED 0 := by
      rw [Dev.tick_quiet hq1 hfar hheard hjoin, attachedTicks, if_pos ⟨hattached, hdue⟩]
      exact Dev.announce_quiet fun k hk => (Dev.asserted_wr_attached { s.dev with now := s.dev.now + 1 } 0 k).symm.trans hk
    refine ⟨_, htick h, h, ?_⟩
    rw [State.tick, hdev]
    exact ⟨Dev.rd_wr_self .., rfl, rfl, (Dev.onlyRegs_wri { s.dev with now := s.dev.now + 1 } DBG_STAT_ATTACHED 0 0).2⟩

/-- Settles O16: a command that an initiator makes is an effect that only an open port lets through. -/
theorem closedDebugPort : Obligations.ClosedDebugPort := by
  intro s i init hmade hinit hlevel
  have hclosed : s.dev.portOpen init = false := by
    rw [Dev.portOpen, decide_eq_false (by omega), Bool.false_or, beq_eq_false_iff_ne]
    exact hlevel
  exact gives_closed hmade hclosed

/-- Settles O10, byte by byte: a bit that enters the division at the top enters the reflected register at the bottom. -/
theorem recordCrc : Obligations.RecordCrc := by
  refine ⟨fun l hl => ?_, by decide +kernel⟩
  have hbytes := crcDivide_bytes l hl 0xFFFFFFFF#32
  rw [reverse_allOnes] at hbytes
  rw [crcByDivision, BitVec.toNat_xor, hbytes]
  rfl

end Sys2Proof.Proofs
end

section
/-! SUPPORT. Fields that lie apart: from the register table alone, a write of the one is no write of the other, at whatever
places. -/

namespace Sys2Proof.Machine

/-- The last place at which a field lies that repeats by its stride alone. -/
def Field.lastPlace (f : Field) : Nat := f.place + (f.group - 1) * f.stride * 32

/-- The field repeats within bounds: by its stride alone, in a group that is not empty. -/
def Field.bounded (f : Field) : Bool := f.gstride == 0 && f.group != 0

/-- Two fields never meet, at whatever places: both are bounded and the one ends before the other begins, or both repeat at the
same distances from different remainders. -/
def Field.apart (f g : Field) : Bool :=
  (f.bounded && g.bounded && (decide (f.lastPlace < g.place) || decide (g.lastPlace < f.place))) ||
    (f.stride == g.stride && f.gstride % f.stride == 0 && g.gstride % g.stride == 0 &&
      f.place % (f.stride * 32) != g.place % (f.stride * 32))

theorem Field.key_bounds {f : Field} (h : f.bounded = true) (i : Nat) : f.place ≤ f.key i ∧ f.key i ≤ f.lastPlace := by
  simp only [Field.bounded, Bool.and_eq_true, beq_iff_eq, bne_iff_ne, ne_eq] at h
  obtain ⟨hgstride, hgroup⟩ := h
  have hlast : i % f.group * f.stride ≤ (f.group - 1) * f.stride :=
    Nat.mul_le_mul_right _ (Nat.le_sub_one_of_lt (Nat.mod_lt i (Nat.pos_of_ne_zero hgroup)))
  simp only [Field.key, Field.addr, Field.place, Field.lastPlace, hgstride, Nat.mul_zero, Nat.add_zero]
  omega

theorem Field.key_mod {f : Field} (h : f.gstride % f.stride = 0) (i : Nat) :
    f.key i % (f.stride * 32) = f.place % (f.stride * 32) := by
  obtain ⟨k, hk⟩ := Nat.dvd_of_mod_eq_zero h
  have hkey : f.key i = f.place + f.stride * 32 * (i / f.group * k + i % f.group) := by
    rw [Field.key, Field.addr, Field.place, hk]; ring
  rw [hkey, Nat.add_mul_mod_self_left]

theorem Field.key_ne_of_apart {f g : Field} (h : f.apart g = true) (i j : Nat) : f.key i ≠ g.key j := by
  simp only [Field.apart, Bool.or_eq_true, Bool.and_eq_true, decide_eq_true_eq, beq_iff_eq, bne_iff_ne, ne_eq] at h
  rcases h with ⟨⟨hf, hg⟩, hspan⟩ | ⟨⟨⟨hstride, hf⟩, hg⟩, hrest⟩
  · have hf := Field.key_bounds hf i
    have hg := Field.key_bounds hg j
    omega
  · intro hkey
    have hmod := Field.key_mod hf i
    rw [hkey, hstride, Field.key_mod hg j] at hmod
    rw [hstride] at hrest
    exact hrest hmod.symm

/-- A field repeats without meeting itself. -/
theorem Field.key_inj {f : Field} (hgstride : f.gstride = 0) (hstride : f.stride ≠ 0) {i j : Nat}
    (hi : i < f.group) (hj : j < f.group) : f.key i = f.key j ↔ i = j := by
  refine ⟨fun h => ?_, fun h => h ▸ rfl⟩
  simp only [Field.key, Field.addr, hgstride, Nat.mul_zero, Nat.add_zero, Nat.mod_eq_of_lt hi, Nat.mod_eq_of_lt hj] at h
  exact Nat.eq_of_mul_eq_mul_right (Nat.pos_of_ne_zero hstride) (by omega)

namespace Dev

variable (d : Dev) {f g : Field}

section
variable (h : g.apart f = true)
include h

theorem rdi_wri_apart (i j v : Nat) : (d.wri f i v).rdi g j = d.rdi g j := by
  rw [rdi_wri, if_neg (Field.key_ne_of_apart h j i)]

theorem rdi_wr_apart (j v : Nat) : (d.wr f v).rdi g j = d.rdi g j := d.rdi_wri_apart h 0 j v
theorem rd_wri_apart (i v : Nat) : (d.wri f i v).rd g = d.rd g := d.rdi_wri_apart h i 0 v
theorem rd_wr_apart (v : Nat) : (d.wr f v).rd g = d.rd g := d.rdi_wri_apart h 0 0 v
theorem rdi_inc_apart (j : Nat) : (d.inc f).rdi g j = d.rdi g j := d.rdi_wri_apart h 0 j _
theorem rd_inc_apart : (d.inc f).rd g = d.rd g := d.rdi_wri_apart h 0 0 _

end

theorem rd_inc_self (f : Field) : (d.inc f).rd f = min (d.rd f + 1) (2 ^ f.width - 1) := by rw [rd_inc, if_pos rfl]

end Dev

/-! ### Triggers, which write the recorder's registers alone -/

/-- A bounded field outside the recorder's block. -/
def Field.besideRec (g : Field) : Bool :=
  g.bounded && (decide (g.lastPlace < 0x40900000 * 32) || decide (0x40910000 * 32 ≤ g.place))

theorem outsideRec_of_besideRec {g : Field} (h : g.besideRec = true) (j : Nat) : outsideRec (g.key j) := by
  simp only [Field.besideRec, Bool.and_eq_true, Bool.or_eq_true, decide_eq_true_eq] at h
  obtain ⟨hg, hspan⟩ := h
  have hkey := Field.key_bounds hg j
  unfold outsideRec
  omega

theorem Dev.trig_rdi_beside (d : Dev) {g : Field} (h : g.besideRec = true) (code : Nat) (args : List Nat) (j : Nat) :
    (d.trig code args).rdi g j = d.rdi g j := d.trig_rdi code args g j (outsideRec_of_besideRec h j)

theorem Dev.trig_rd_beside (d : Dev) {g : Field} (h : g.besideRec = true) (code : Nat) (args : List Nat) :
    (d.trig code args).rd g = d.rd g := d.trig_rdi_beside h code args 0

end Sys2Proof.Machine
end

section
/-! SUPPORT. The switch: what the operations on its queues leave as it was, and the blocks with which its commands complete (R411,
R415, R417, R423, R427, R429). -/

namespace Sys2Proof.Machine

theorem exec_swxFrameIngress (p : Nat) (f : EthFrame) (x : SecIn) (t : Nat) (s : State) :
    exec (.swxFrameIngress p f x t) s = execSwxFrameIngress p f x t s := rfl
theorem exec_swxFrameEgress (p t : Nat) (s : State) : exec (.swxFrameEgress p t) s = execSwxFrameEgress p t s := rfl
theorem exec_swxRingTransmit (p t : Nat) (s : State) : exec (.swxRingTransmit p t) s = execSwxRingTransmit p t s := rfl
theorem exec_swxLinkLost (p t : Nat) (s : State) : exec (.swxLinkLost p t) s = execSwxLinkLost p t s := rfl

theorem Dev.ShuttleOnly.trd {d e : Dev} (h : d.ShuttleOnly e) : e.trd = d.trd := by
  have htrd := congrArg Dev.trd h.rest; exact htrd

/-! ### What the switch and the CAN controllers leave of the rest when they take a frame (R423, R466, R483) -/

/-- A register that a window of the bridge has, above the lowest bit of its word. -/
def farReg (k : Nat) : Prop := 0x40701000 * 32 ≤ k ∧ k < 0x40708000 * 32 ∧ k % 32 ≠ 0

/-- The field is none of `farReg`: it begins its word, or it lies elsewhere and repeats within bounds. -/
def Field.besideFar (f : Field) : Bool :=
  decide (f.lsb = 0) || (f.bounded && (decide (f.lastPlace < 0x40701000 * 32) || decide (0x40708000 * 32 ≤ f.place)))

theorem Field.not_farReg {f : Field} (h : f.besideFar = true) (i : Nat) : ¬ farReg (f.key i) := by
  simp only [Field.besideFar, Bool.or_eq_true, Bool.and_eq_true, decide_eq_true_eq] at h
  rintro ⟨hlo, hhi, hlow⟩
  rcases h with hlsb | ⟨hf, hspan⟩
  · rw [Field.key, hlsb] at hlow
    omega
  · have hkey := Field.key_bounds hf i
    omega

/-- From `d` to `d'` a frame is taken: the time of the latest pick boundary, the signals and the bridge's windows and their registers
are as before. -/
structure Dev.Takes (d d' : Dev) : Prop where
  gptpNs : d'.trd.gptpNs = d.trd.gptpNs
  localNs : d'.trd.localNs = d.trd.localNs
  sig : d'.sig = d.sig
  win : d'.brg.win = d.brg.win
  rdi : ∀ (g : Field) (j : Nat), farReg (g.key j) → d'.rdi g j = d.rdi g j

namespace Dev.Takes

variable {d₀ d : Dev}

theorem refl (d : Dev) : d.Takes d := ⟨rfl, rfl, rfl, rfl, fun _ _ _ => rfl⟩

variable (h : d₀.Takes d)
include h

theorem trans {e : Dev} (he : d.Takes e) : d₀.Takes e :=
  ⟨he.gptpNs.trans h.gptpNs, he.localNs.trans h.localNs, he.sig.trans h.sig, he.win.trans h.win,
    fun g j hg => (he.rdi g j hg).trans (h.rdi g j hg)⟩

/-- An update that leaves the registers, the time, the signals and the bridge. -/
theorem but {mem out access free now fw recd deck beat ctx chan bank can tt swx nmw sht cpu key dbg upd pwr flt} :
    d₀.Takes ⟨d.regs, mem, out, access, free, now, fw, recd, deck, beat, d.trd, d.sig, ctx, chan, bank, can, tt, swx, d.brg, nmw,
      sht, cpu, key, dbg, upd, pwr, flt⟩ := h.trans ⟨rfl, rfl, rfl, rfl, fun _ _ _ => rfl⟩

theorem ite {c : Prop} [Decidable c] {a b : Dev} (ha : d₀.Takes d → d₀.Takes a) (hb : d₀.Takes d → d₀.Takes b) :
    d₀.Takes (if c then a else b) := by
  split
  · exact ha h
  · exact hb h

theorem iteFst {α : Type} {c : Prop} [Decidable c] {a b : Dev × α} (ha : d₀.Takes d → d₀.Takes a.1)
    (hb : d₀.Takes d → d₀.Takes b.1) : d₀.Takes (if c then a else b).1 := by
  split
  · exact ha h
  · exact hb h

theorem each {α : Type} {l : List α} {f : Dev → α → Dev} (hf : ∀ {e : Dev} {x : α}, d₀.Takes e → d₀.Takes (f e x)) :
    d₀.Takes (d.each l f) :=
  List.foldlRecOn l f h fun _ he _ _ => hf he

theorem wri {f : Field} (hf : f.besideFar = true := by decide) {i v : Nat} : d₀.Takes (d.wri f i v) :=
  h.trans ⟨rfl, rfl, rfl, rfl, fun g j hg => by
    rw [Dev.rdi_wri, if_neg fun (heq : g.key j = f.key i) => Field.not_farReg hf i (heq ▸ hg)]⟩

theorem wr {f : Field} (hf : f.besideFar = true := by decide) {v : Nat} : d₀.Takes (d.wr f v) := h.wri hf
theorem inci {f : Field} (hf : f.besideFar = true := by decide) {i : Nat} : d₀.Takes (d.inci f i) := h.wri hf
theorem inc {f : Field} (hf : f.besideFar = true := by decide) : d₀.Takes (d.inc f) := h.wri hf
theorem addi {f : Field} (hf : f.besideFar = true := by decide) {i n : Nat} : d₀.Takes (d.addi f i n) := h.wri hf

theorem trig {code : Nat} {args : List Nat} : d₀.Takes (d.trig code args) :=
  h.trans ⟨congrArg TrdState.gptpNs (d.trig_trd ..), congrArg TrdState.localNs (d.trig_trd ..), d.trig_sig ..,
    congrArg BrgState.win (d.trig_brg ..), fun g j hg =>
    d.trig_rdi code args g j (Or.inl (by obtain ⟨-, hhi, -⟩ := hg; omega))⟩

/-! ### The shuttle's side, notices and evidence -/

theorem shuttleOnly {e : Dev} (he : d.ShuttleOnly e) : d₀.Takes e :=
  h.trans ⟨congrArg TrdState.gptpNs he.trd, congrArg TrdState.localNs he.trd, by have hsig := congrArg Dev.sig he.rest; exact hsig,
    by have hbrg := congrArg Dev.brg he.rest; exact congrArg BrgState.win hbrg, fun g j hg => by
      obtain ⟨-, hhi, -⟩ := hg
      exact he.rdi g j (Or.inl (by omega)) (Or.inl (by omega))⟩

theorem noticeShow {b : Nat} : d₀.Takes (d.noticeShow b) := by
  dsimp only [Dev.noticeShow]
  split
  · exact h.wri.wri.wri
  · exact h.wri.wri.wri

theorem notice {c kind cls detail : Nat} : d₀.Takes (d.notice c kind cls detail) := by
  dsimp only [Dev.notice]
  split
  · exact h.ite (fun h => h.but.noticeShow) fun h => h.inci.wr
  · exact h

theorem presenceSet {r : InvRec} {st : Presence} : d₀.Takes (d.presenceSet r st) :=
  h.but.wr.notice.shuttleOnly (.hostNotice (.refl _) _ _)

theorem evidence {r : InvRec} : d₀.Takes (d.evidence r) := by
  dsimp only [Dev.evidence]
  split
  · exact h.presenceSet
  · exact h
  · exact h.presenceSet.trig

theorem evidenceOf {p : InvRec → Bool} : d₀.Takes (d.evidenceOf p) := h.each (·.evidence)

/-! ### The switch -/

theorem cellsOut {k n : Nat} : d₀.Takes (d.cellsOut k n) := h.wri.wr

theorem swxHold {p : Nat} : d₀.Takes (d.swxHold p) :=
  h.wri.wri.ite (fun h => (h.each fun h => h.cellsOut.but).addi.wri.wr.trig.wri.wri) id

theorem swxEnqueue {p : Nat} {f : EthFrame} {colour t src : Nat} : d₀.Takes (d.swxEnqueue p f colour t src) := by
  have hfresh : d₀.Takes d.fresh := h.but
  dsimp only [Dev.swxEnqueue]
  split
  · exact hfresh.inci
  · exact hfresh.inci
  · exact hfresh.inci
  · exact hfresh.wri.wr.but.ite (·.swxHold) id

theorem swxMeter {i len colour t : Nat} : d₀.Takes (d.swxMeter i len colour t).1 :=
  h.but.ite (·.inci) (·.ite (·.inci) id)

theorem frerTake {r seq : Nat} : d₀.Takes (d.frerTake r seq).1 :=
  h.iteFst (·.but) (·.iteFst (fun h => h.but.addi) (·.iteFst (·.but) (·.inci)))

theorem secDrop {p : Nat} : d₀.Takes (d.secDrop p) := h.inci.wri

theorem secIngress {p : Nat} {x : SecIn} : d₀.Takes (d.secIngress p x).1 :=
  h.iteFst id fun h => h.wri.iteFst (·.secDrop) (·.iteFst (·.but) (·.iteFst (·.but) (·.secDrop.trig)))

theorem bridgeFrame {f : EthFrame} : d₀.Takes (d.bridgeFrame f) :=
  h.ite (·.inc) (·.ite (·.inc) fun h => h.trans ⟨rfl, rfl, rfl, rfl, fun _ _ _ => rfl⟩)

theorem fragmentIn {f : EthFrame} : d₀.Takes (d.fragmentIn f) := h.ite id (·.but)
theorem heardAt {p : Nat} {f : EthFrame} : d₀.Takes (d.heardAt p f) := h.ite (·.but) id

theorem swxLine {p : Nat} {f : EthFrame} {colour : Nat} {sec : Option (Nat × Nat)} : d₀.Takes (d.swxLine p f colour sec) :=
  h.inci.but

theorem swxOut {p : Nat} {f : QFrame} : d₀.Takes (d.swxOut p f) := by
  unfold Dev.swxOut
  extract_lets d₁ d₂ m d₃ d₄
  have h₁ : d₀.Takes d₁ := h.ite (·.bridgeFrame) (·.ite (·.fragmentIn.heardAt) id)
  have h₂ : d₀.Takes d₂ := h₁.wri
  have h₄ : d₀.Takes d₄ := h₂.but.ite (fun h => h.wri.trig) id
  exact h₁.ite (·.swxLine) fun _ => h₂.ite (·.secDrop) (·.ite (·.inci) fun _ => h₄.swxLine)

theorem swxCut {p : Nat} {f : EthFrame} {colour t : Nat} : d₀.Takes (d.swxCut p f colour t) := by
  have hfresh : d₀.Takes d.fresh := h.but
  dsimp only [Dev.swxCut]
  split
  · exact hfresh.inci
  · exact hfresh.inci
  · exact hfresh.inci
  · exact hfresh.but.swxOut

theorem swxFiltered {p fl : Nat} {f : EthFrame} {t : Nat} : d₀.Takes (d.swxFiltered p fl f t) := by
  unfold Dev.swxFiltered
  extract_lets d₁ c pol m colour d₂ r g d₃ x outs
  have h₁ : d₀.Takes (d.inci SWX_SF_CNT_MATCHES fl) := h.inci
  have h₂ : d₀.Takes d₂ := h₁.iteFst id (·.swxMeter)
  have h₃ : d₀.Takes d₃ := h₂.iteFst id fun h => by
    split
    · exact h.inci (f := SWX_RS_UNTAG_UNTAGGED) (i := r)
    · exact h.frerTake
  refine h₂.ite (·.wr) fun _ => h₃.ite id (·.ite (·.but) fun h => ?_)
  clear_value outs
  split
  · exact h.ite (·.swxCut) (·.swxEnqueue)
  · exact h.each (·.swxEnqueue)

theorem swxForward {p : Nat} {f : EthFrame} {t : Nat} : d₀.Takes (d.swxForward p f t) := by
  refine h.ite (·.swxEnqueue) fun h => ?_
  split
  · exact h.swxFiltered
  · split
    · exact h.ite (·.each (·.swxEnqueue)) fun h => h.inc.wr
    · exact h.inc.wr

theorem swxBadFcs {p : Nat} {f : EthFrame} {t : Nat} : d₀.Takes (d.swxBadFcs p f t) := by
  have hcount := h.inci (f := SWXP_RXERR_COUNT) (i := p)
  dsimp only [Dev.swxBadFcs]
  split
  · exact hcount
  · split
    · exact hcount
    · split
      · exact hcount
      · split
        · exact hcount
        · split
          · exact hcount.ite (·.inci.swxCut) id
          · exact hcount

theorem swxIngress {p : Nat} {f : EthFrame} {x : SecIn} {t : Nat} : d₀.Takes (d.swxIngress p f x t) := by
  unfold Dev.swxIngress
  extract_lets d₁ s d₂ d₃
  have h₂ : d₀.Takes d₂ := h.inci.secIngress
  have h₃ : d₀.Takes d₃ := h₂.evidenceOf
  refine h.ite (·.inci) (·.ite (·.swxBadFcs) fun _ => h₂.ite id fun _ => h₃.ite id
    (·.ite (·.ite (fun h => h.but.fragmentIn) id) fun h => ?_))
  split
  · exact h.inci
  · exact h.swxForward

/-! ### The CAN controllers -/

theorem setCanBuf {c b : Nat} {x : CanBuf} : d₀.Takes (d.setCanBuf c b x) :=
  h.but.ite (·.wri) (·.wri)

theorem canStart {c b : Nat} : d₀.Takes (d.canStart c b) := by
  dsimp only [Dev.canStart]
  split
  · exact h.ite (·.setCanBuf) id
  · exact h.inci
  · exact h.setCanBuf.inci

end Dev.Takes

namespace Dev

variable (d : Dev)

/-- The flag under which an old frame's drop at the head of a queue is decided is no register of the port's link. -/
theorem swxAge_rdi {g : Field} (hused : g.apart SWXQ_STAT_USED = true) (hshared : g.apart SWX_BUF_SHARED = true)
    (haged : g.apart SWXQ_AGED_COUNT = true) (k t j : Nat) : (d.swxAge k t).rdi g j = d.rdi g j := by
  unfold swxAge
  dsimp only
  split
  · rfl
  · exact (rdi_wri_apart _ haged ..).trans
      (rdi_each (fun e f => (rdi_wr_apart _ hshared ..).trans (e.rdi_wri_apart hused ..)) _ d)

end Dev

/-! ### The commands -/

variable {s : State} {p t : Nat}

theorem gives_swxFrameIngress (f : EthFrame) (x : SecIn) (hlink : s.dev.linkUp p = true)
    (hreset : s.dev.swx.portReset.contains p = false) : Gives (.swxFrameIngress p f x t) s (s.dev.swxIngress p f x t) :=
  gives_onDev (exec_swxFrameIngress ..) (if_pos ⟨hlink, congrArg not hreset⟩)

/-- A frame too long, or of a bad check sequence on a deckless module, is an error of its port. -/
theorem swxIngress_bad (d : Dev) (f : EthFrame) (x : SecIn) (h : 2000 < f.len ∨ f.fcsOk = false ∧ d.deck.running = none) :
    d.swxIngress p f x t = d.inci SWXP_RXERR_COUNT p := by
  unfold Dev.swxIngress
  by_cases hlen : f.len > 2000
  · rw [if_pos hlen]
  · obtain ⟨hfcs, hrun⟩ := h.resolve_left hlen
    rw [if_neg hlen, hfcs, Dev.swxBadFcs]
    exact if_pos (Or.inl (by rw [Dev.inci_deck, hrun]; rfl))

/-- A good frame at a port is counted, and is evidence of its sender. -/
def Dev.swxHeard (d : Dev) (p : Nat) (f : EthFrame) : Dev :=
  (d.inci SWXP_RXFRAMES_COUNT p).evidenceOf fun r => r.kind == 3 && r.unit == p && r.key == f.smac % 2 ^ 32

section
variable (d : Dev) {f : EthFrame} (x : SecIn) (hlen : f.len ≤ 2000) (hfcs : f.fcsOk = true)
  (hsec : (d.inci SWXP_RXFRAMES_COUNT p).secOn p = false)
include hlen hfcs hsec

theorem swxIngress_linkLocal (hlocal : f.dmac / 16 = 0x0180C200000) : d.swxIngress p f x t = d.swxHeard p f := by
  have hpass : (d.inci SWXP_RXFRAMES_COUNT p).secIngress p x = (d.inci SWXP_RXFRAMES_COUNT p, true) := if_pos (congrArg not hsec)
  unfold Dev.swxIngress
  rw [if_neg (Nat.not_lt.mpr hlen), hfcs]
  dsimp only
  rw [hpass]
  exact if_pos hlocal

theorem swxIngress_forward {g : EthFrame} (hlocal : f.dmac / 16 ≠ 0x0180C200000)
    (hdeck : (d.swxHeard p f).deck.running.isNone = false) (htag : (d.swxHeard p f).swxTag p f = some g) :
    d.swxIngress p f x t = (d.swxHeard p f).swxForward p g t := by
  have hpass : (d.inci SWXP_RXFRAMES_COUNT p).secIngress p x = (d.inci SWXP_RXFRAMES_COUNT p, true) := if_pos (congrArg not hsec)
  unfold Dev.swxIngress
  rw [if_neg (Nat.not_lt.mpr hlen), hfcs]
  dsimp only
  rw [hpass]
  dsimp only
  rw [← Dev.swxHeard, hdeck, htag]
  exact if_neg hlocal

end

/-- The block in which an external port that is free to send has dropped its old frames. -/
def Dev.swxAged (d : Dev) (p t : Nat) : Dev := d.each (List.range 8) fun d q => d.swxAge (p * 8 + q) t

theorem Dev.swxAged_lstate (d : Dev) : (d.swxAged p t).rdi SWXP_STAT_LSTATE p = d.rdi SWXP_STAT_LSTATE p :=
  Dev.rdi_each (fun e q => e.swxAge_rdi (by decide) (by decide) (by decide) ..) _ d

section
variable (hp : p ≤ 21) (hreset : s.dev.swx.portReset.contains p = false) (hfree : s.dev.sendingAt p t = false)
include hp hreset hfree

theorem gives_swxFrameEgress_down (hlink : s.dev.rdi SWXP_STAT_LSTATE p ≠ 2) :
    Gives (.swxFrameEgress p t) s (s.dev.swxAged p t) := by
  refine gives_onDev (exec_swxFrameEgress ..) ((if_pos ⟨by omega, congrArg not hreset, congrArg not hfree⟩).trans ?_)
  exact if_pos ⟨decide_eq_true hp, (s.dev.swxAged_lstate (t := t)).trans_ne hlink⟩

theorem gives_swxFrameEgress_up {q : Nat} {f : QFrame} {rest : List QFrame} (hlink : s.dev.rdi SWXP_STAT_LSTATE p = 2)
    (hpick : (s.dev.swxAged p t).swxPick p t = some q) (hqueue : (s.dev.swxAged p t).queue (p * 8 + q) = f :: rest) :
    Gives (.swxFrameEgress p t) s
      (((((s.dev.swxAged p t).cellsOut (p * 8 + q) f.cells).setQueue (p * 8 + q) rest).swxBegin p f t).swxOut p f) := by
  refine gives_onDev (exec_swxFrameEgress ..) ((if_pos ⟨by omega, congrArg not hreset, congrArg not hfree⟩).trans ?_)
  refine (if_neg fun h => h.2 ((s.dev.swxAged_lstate (t := t)).trans hlink)).trans ?_
  rw [← Dev.swxAged, hpick]
  dsimp only
  rw [hqueue]
  exact if_neg (by omega)

end

theorem swxFrameEgress_busy (hbusy : s.dev.sendingAt p t = true) : exec (.swxFrameEgress p t) s = .next s :=
  exec_of_gives_same (gives_onDev (exec_swxFrameEgress ..) (if_neg fun h => by rw [hbusy] at h; exact absurd h.2.2 (by decide)))

/-- The address of the next transmit descriptor of ring port `p` (R423). -/
def Dev.txDesc (d : Dev) (p : Nat) : Nat :=
  d.rdi SWXP_CFG2_TXSLOT p * 2 ^ 23 + d.rdi SWXP_CFG2_GOFF p + d.swx.ringIdx.get ((p - 22) * 2 + 1) 0 * 16

/-- The block in which the ring of port `p` has gone on to its next transmit descriptor. -/
def Dev.txNext (d : Dev) (p : Nat) : Dev :=
  { d with swx := { d.swx with ringIdx := d.swx.ringIdx.set ((p - 22) * 2 + 1) ((d.swx.ringIdx.get ((p - 22) * 2 + 1) 0 + 1) % 64) } }

theorem gives_swxRingTransmit (hp : p = 22 ∨ p = 23) (hown : leVal (s.dev.peek (s.dev.txDesc p + 6) 2) % 2 = 1) :
    Gives (.swxRingTransmit p t) s
      (if 0x20000000 ≤ leVal (s.dev.peek (s.dev.txDesc p) 4) ∧ leVal (s.dev.peek (s.dev.txDesc p) 4) + 2048 ≤ 0x20A00000 then
        let e := (s.dev.txNext p).swxIngress p
          (frameOfBytes (s.dev.peek (leVal (s.dev.peek (s.dev.txDesc p) 4)) (leVal (s.dev.peek (s.dev.txDesc p + 4) 2)))) {} t
        (e.poke (s.dev.txDesc p + 6) (leOf 2 0 ++ leOf 8 (e.gptpAt t))).wri SWXP_EVT_TXDONE p 1
      else ((s.dev.txNext p).poke (s.dev.txDesc p + 6) (leOf 2 2)).wri SWXP_EVT_TXDONE p 1) :=
  gives_onDev (exec_swxRingTransmit ..) ((if_pos hp).trans (if_neg (by rw [Dev.txDesc] at hown; omega)))

end Sys2Proof.Machine
end

section
/-! CERTIFICATES. The frames of the switch. -/

namespace Sys2Proof.Proofs

open Sys2Proof.Machine

/-- Settles O40. -/
theorem switchFrameCommands : Obligations.SwitchFrameCommands := by
  unfold Obligations.SwitchFrameCommands
  refine ⟨?bad, ?linkLocal, ?forward, ?send, ?down, ?busy, ?noBuffer, ?transmit⟩
  case bad =>
    intro s p t f x hlink hreset hbad
    have hgives := gives_swxFrameIngress (t := t) f x hlink hreset
    rw [swxIngress_bad _ _ _ hbad] at hgives
    exact ⟨_, hgives, Dev.rdi_inci_self .., Dev.onlyRegs_inci ..⟩
  case linkLocal =>
    intro s p t f x d hlink hreset hlen hfcs hsec (hd : d = s.dev.swxHeard p f) hlocal
    rw [hd, ← swxIngress_linkLocal (t := t) s.dev x hlen hfcs hsec hlocal]
    exact gives_swxFrameIngress f x hlink hreset
  case forward =>
    intro s p t f g x d hlink hreset hlen hfcs hsec (hd : d = s.dev.swxHeard p f) hlocal hdeck htag
    rw [hd] at hdeck htag
    rw [hd, ← swxIngress_forward s.dev x hlen hfcs hsec hlocal hdeck htag]
    exact gives_swxFrameIngress f x hlink hreset
  case send =>
    intro s p t q f rest d hp hlink hreset hfree (hd : d = s.dev.swxAged p t) hpick hqueue
    rw [hd] at hpick hqueue ⊢
    exact gives_swxFrameEgress_up hp hreset hfree hlink hpick hqueue
  case down =>
    intro s p t hp hlink hreset hfree
    exact gives_swxFrameEgress_down hp hreset hfree hlink
  case busy =>
    intro s p t hbusy
    exact swxFrameEgress_busy hbusy
  case noBuffer =>
    rintro s p t a hp rfl hown hbuf
    have hgives := gives_swxRingTransmit (t := t) hp hown
    rw [if_neg fun h => hbuf h.1] at hgives
    refine ⟨_, hgives, ?_, rfl, rfl, rfl, (Dev.onlyRegs_wri _ _ _ _).2⟩
    rw [Dev.rdi_wri_self]
    rfl
  case transmit =>
    rintro s p t a r d hp rfl hown hlow hhigh rfl rfl
    have hgives := gives_swxRingTransmit (t := t) hp hown
    rw [if_pos ⟨hlow, hhigh⟩] at hgives
    have htime : ((s.dev.txNext p).swxIngress p (frameOfBytes (s.dev.peek (leVal (s.dev.peek (s.dev.txDesc p) 4))
        (leVal (s.dev.peek (s.dev.txDesc p + 4) 2)))) {} t).gptpAt t = s.dev.gptpAt t := by
      have htakes := Dev.Takes.swxIngress (.refl (s.dev.txNext p)) (p := p) (f := frameOfBytes (s.dev.peek
        (leVal (s.dev.peek (s.dev.txDesc p) 4)) (leVal (s.dev.peek (s.dev.txDesc p + 4) 2)))) (x := {}) (t := t)
      rw [Dev.gptpAt, htakes.gptpNs, htakes.localNs]
      rfl
    dsimp only at hgives
    rwa [htime] at hgives

end Sys2Proof.Proofs
end

section
/-! SUPPORT. A loss of link that finds the table of the frames under way not in its canonical form (R411, R430). -/

namespace Sys2Proof.Machine

/-- What a command gives is determined but for the interrupt messages. -/
theorem Gives.but_out {i : Instr} {s : State} {d e : Dev} (hd : Gives i s d) (he : Gives i s e) : { d with out := e.out } = e := by
  have hsame : d.announce s.dev = e.announce s.dev := congrArg State.dev (Host.Outcome.next.inj (hd.symm.trans he))
  have hd := (d.announce_frame s.dev).1
  rw [hsame] at hd
  exact (congrArg (fun x : Dev => { x with out := e.out }) hd).symm.trans (e.announce_frame s.dev).1

namespace Dev

variable (d : Dev) {p t : Nat}

theorem each_sending {α : Type} {f : Dev → α → Dev} (hf : ∀ (e : Dev) (x : α), (f e x).swx.sending = e.swx.sending)
    (l : List α) : (d.each l f).swx.sending = d.swx.sending := by
  induction l generalizing d with
  | nil => rfl
  | cons x l ih => exact (ih (f d x)).trans (hf d x)

theorem swxFlush_sending : (d.swxFlush p).swx.sending = d.swx.sending := by
  unfold swxFlush
  rw [trig_swx, wr_swx, wri_swx, addi_swx, each_sending]
  exact fun _ _ => rfl

theorem swxHold_sending : (d.swxHold p).swx.sending = d.swx.sending := by
  unfold swxHold swxHoldEnd
  dsimp only
  split
  · rw [wri_swx, wri_swx, swxFlush_sending, wri_swx, wri_swx]
  · rfl

/-- A loss of link strikes its port from the table of the frames under way, once. -/
theorem swxLinkLost_sending (hp : p ≤ 21) (hup : d.rdi SWXP_STAT_LSTATE p = 2) :
    (d.swxLinkLost p t).swx.sending = d.swx.sending.erase p := by
  unfold swxLinkLost
  rw [if_pos ⟨decide_eq_true hp, hup⟩]
  dsimp only
  generalize he : (ite (d.sendingAt p t = true) _ _ : Dev) = e
  have hsend : e.swx.sending = d.swx.sending.erase p := by
    rw [← he]
    split
    · rw [trig_swx, wri_swx, inci_swx]
    · rfl
  split
  · rw [swxHold_sending, trig_swx, wri_swx, wri_swx, hsend]
  · rw [wri_swx, trig_swx, wri_swx, wri_swx, hsend]

end Dev

/-- Port 0 is up and holds its queues over a loss of link; a frame waits in its first queue, and the table of the frames under way
names the port twice, which is not the table's canonical form. -/
def sendingTwice : State where
  dev := {
    regs := ⟨[(SWXP_STAT_LSTATE.key 0, 2), (SWXP_CFG0_LINKHOLD.key 0, 1)]⟩
    swx := { queues := ⟨[(0, [⟨{}, 1, 0, 0, 27⟩])]⟩, sending := ⟨[(0, 100), (0, 200)]⟩ } }

theorem sendingTwice_lost : Ends (.swxLinkLost 0 50) sendingTwice fun d => d.sendingAt 0 50 = true := by
  refine ⟨_, gives_onDev (exec_swxLinkLost ..) rfl, ?_⟩
  have hsend := sendingTwice.dev.swxLinkLost_sending (p := 0) (t := 50) (by decide) (by decide)
  exact (congrArg (fun m : Map Nat => decide (50 < m.get 0 0)) hsend).trans (by decide)

end Sys2Proof.Machine
end

section
/-! CERTIFICATES. The links of the switch. -/

namespace Sys2Proof.Proofs

open Sys2Proof.Machine

/-- Refutes O41: its second clause has the transmitter of a port whose link is lost free in every state, but a loss of link strikes the
port from the table of the frames under way once, and in the state `sendingTwice` the table names the port a second time. -/
theorem not_switchLinkCommands : ¬ Obligations.SwitchLinkCommands := by
  unfold Obligations.SwitchLinkCommands
  rintro ⟨-, hlost, -⟩
  obtain ⟨d, hgives, -, -, -, -, -, hfree, -⟩ :=
    hlost sendingTwice 0 50 (by decide) (by decide) (by decide) (by decide) (by decide)
  obtain ⟨e, hgives', hbusy⟩ := sendingTwice_lost
  rw [← hgives.but_out hgives'] at hbusy
  exact absurd (hfree.symm.trans hbusy) (by decide)

end Sys2Proof.Proofs
end

section
/-! SUPPORT. The accesses of software to the bridge: windows, collect slots and the acknowledgement of a halt (R456, R469, R471, R472,
R473, R479). -/

namespace Sys2Proof.Machine

theorem exec_brgWindowWrite (init w off size data : Nat) (s : State) :
    exec (.brgWindowWrite init w off size data) s = execBrgWindowWrite init w off size data s := rfl
theorem exec_brgWindowRead (init w off size : Nat) (s : State) :
    exec (.brgWindowRead init w off size) s = execBrgWindowRead init w off size s := rfl
theorem exec_brgReadStallEnd (h : Nat) (s : State) : exec (.brgReadStallEnd h) s = execBrgReadStallEnd h s := rfl
theorem exec_brgWriteStallEnd (h : Nat) (s : State) : exec (.brgWriteStallEnd h) s = execBrgWriteStallEnd h s := rfl
theorem exec_brgCollectRead (init q : Nat) (s : State) : exec (.brgCollectRead init q) s = execBrgCollectRead init q s := rfl
theorem exec_brgCollectExpiry (q : Nat) (s : State) : exec (.brgCollectExpiry q) s = execBrgCollectExpiry q s := rfl
theorem exec_brgCabort (init q : Nat) (s : State) : exec (.brgCabort init q) s = execBrgCabort init q s := rfl

/-- A command that an initiator makes and can make completes with what its meaning gives. -/
theorem gives_onDevBy {i : Instr} {s : State} {init : Nat} {f : Dev → Dev} {d : Dev} (he : exec i s = onDevBy init f s)
    (hport : s.dev.portOpen init = true) (h : f s.dev = d) : Gives i s d :=
  gives_onDev he ((if_pos hport).trans h)

/-- An access to a register of the bridge, whose domain is on. -/
theorem gives_onBridge {i : Instr} {s : State} {init : Nat} {f : Dev → Dev} {d : Dev} (he : exec i s = onBlockBy init 0x40700000 f s)
    (hport : s.dev.portOpen init = true) (hdom : s.dev.domainOn 2 = true) (h : f (s.dev.answered 0) = d) : Gives i s d :=
  h ▸ gives_onBlockBy he hport hdom

/-! ### The outcome of a read that stalls its hart (R471) -/

section
variable (d : Dev) (h st code slot value : Nat)

theorem Dev.readEnds_st : (d.readEnds h st code slot value).rdi BRG_RSTAT_ST h = st % 2 ^ BRG_RSTAT_ST.width :=
  (Dev.rdi_wri_apart _ (by decide) ..).trans ((Dev.rdi_wri_apart _ (by decide) ..).trans (Dev.rdi_wri_self ..))

theorem Dev.readEnds_code : (d.readEnds h st code slot value).rdi BRG_RSTAT_CODE h = code % 2 ^ BRG_RSTAT_CODE.width :=
  (Dev.rdi_wri_apart _ (by decide) ..).trans (Dev.rdi_wri_self ..)

theorem Dev.readEnds_slot : (d.readEnds h st code slot value).rdi BRG_RSTAT_SLOT h = slot % 2 ^ BRG_RSTAT_SLOT.width :=
  Dev.rdi_wri_self ..

theorem Dev.readEnds_regsBut :
    d.regsBut (d.readEnds h st code slot value) [(BRG_RSTAT_ST, h), (BRG_RSTAT_CODE, h), (BRG_RSTAT_SLOT, h)] :=
  (((Dev.regsBut.refl d _).wri (by simp) _).wri (by simp) _).wri (by simp) _

theorem Dev.readEnds_apart {g : Field} (hst : g.apart BRG_RSTAT_ST = true) (hcode : g.apart BRG_RSTAT_CODE = true)
    (hslot : g.apart BRG_RSTAT_SLOT = true) (j : Nat) : (d.readEnds h st code slot value).rdi g j = d.rdi g j :=
  (Dev.rdi_wri_apart _ hslot ..).trans ((Dev.rdi_wri_apart _ hcode ..).trans (Dev.rdi_wri_apart _ hst ..))

end

/-- A slot that is picked is one of the 256. -/
theorem Dev.slotPick_lt {d : Dev} {q : Nat} (h : d.slotPick = some q) : q < 256 :=
  List.mem_range.mp (List.mem_of_find?_eq_some h)

/-! ### Accesses that stall their hart -/

/-- A write that finds no room waits in its turn. -/
def Dev.writeStalls (d : Dev) (init w off size data : Nat) : Dev :=
  { d with
    brg := { d.brg with
      writeStall := (d.brg.writeStall.filter fun e => e.1 != init) ++ [(init, w, off, size, data % 256 ^ farBytes size)] }
    access := { stalled := true } }

/-- A read joins the order of its window. -/
def Dev.readStalls (d : Dev) (init w off size : Nat) : Dev :=
  { d.setWin w { d.win w with work := (d.win w).work ++
      [{ kind := .read, addr := off, size := size, hart := init, ctx := d.tag init, stalled := true }] } with
    access := { stalled := true } }

/-! ### The end of a stalled read -/

/-- The read that stalls hart `h` in window `w` goes on in slot `q`. -/
def Dev.readDeferred (d : Dev) (h w q : Nat) (k : Work) : Dev :=
  let d := d.setWin w ((d.win w).unstall h fun k => { k with stalled := false, deferred := true, num := q })
  let d := { d with brg := { d.brg with slots := d.brg.slots.set q { owner := k.ctx } } }
  let d := ((d.wri BRG_CSTAT_BUSY q 1).wri BRG_CSTAT_DONE q 0).wri BRG_CSTAT_WIN q w
  ((d.wri BRG_CSTAT_CODE q 0).wri BRG_CDATA_DATA q 0).wr BRG_STAT_SLOTS d.brg.slots.items.length

section
variable {s : State} {h w : Nat} {k : Work} (hstalled : s.dev.stalledRead h = some (w, k))
include hstalled

theorem gives_brgReadStallEnd_deferred {q : Nat} (hpick : s.dev.slotPick = some q) :
    Gives (.brgReadStallEnd h) s ((s.dev.readDeferred h w q k).readEnds h 1 0 q 0) :=
  gives_onDev (exec_brgReadStallEnd ..) (by simp only [hstalled, hpick]; rfl)

theorem gives_brgReadStallEnd_noSlot (hpick : s.dev.slotPick = none) :
    Gives (.brgReadStallEnd h) s
      (((s.dev.setWin w ((s.dev.win w).unstall h fun k => { k with stalled := false, dropped := true })).inc
        BRG_CNT_NOSLOT).readEnds h 2 0x11 0 0) :=
  gives_onDev (exec_brgReadStallEnd ..) (by simp only [hstalled, hpick]; rfl)

end

section
variable (d : Dev) (h w q : Nat) (k : Work)

theorem Dev.readDeferred_busy : (d.readDeferred h w q k).rdi BRG_CSTAT_BUSY q = 1 := by
  unfold Dev.readDeferred
  simp (disch := decide) only [Dev.rdi_wr_apart, Dev.rdi_wri_apart, Dev.rdi_wri_self]
  rfl

theorem Dev.readDeferred_done : (d.readDeferred h w q k).rdi BRG_CSTAT_DONE q = 0 := by
  unfold Dev.readDeferred
  simp (disch := decide) only [Dev.rdi_wr_apart, Dev.rdi_wri_apart, Dev.rdi_wri_self]
  rfl

theorem Dev.readDeferred_shownWin : (d.readDeferred h w q k).rdi BRG_CSTAT_WIN q = w % 2 ^ BRG_CSTAT_WIN.width := by
  unfold Dev.readDeferred
  simp (disch := decide) only [Dev.rdi_wr_apart, Dev.rdi_wri_apart, Dev.rdi_wri_self]

end

theorem Dev.readDeferred_win (d : Dev) (h w q : Nat) (k : Work) : (d.readDeferred h w q k).win w =
    (d.win w).unstall h fun k => { k with stalled := false, deferred := true, num := q } :=
  (d.win_setWin ..).trans (if_pos rfl)

end Sys2Proof.Machine
end

section
/-! CERTIFICATES. The accesses of software to the bridge. -/

namespace Sys2Proof.Proofs

open Sys2Proof.Machine

/-- Settles O42. -/
theorem bridgeAccessCommands : Obligations.BridgeAccessCommands := by
  unfold Obligations.BridgeAccessCommands
  refine ⟨?writeRoom, ?writeStalls, ?writeHalted, ?readStalls, ?readHalted, ?noSlot, ?deferred, ?writeFull⟩
  case writeRoom =>
    intro s init w off size data hport haccess hhalt hroom
    exact gives_onDevBy (exec_brgWindowWrite ..) hport (by simp [haccess, hhalt, hroom])
  case writeStalls =>
    intro s init w off size data hport haccess hhalt hroom
    exact ⟨_, gives_onDevBy (d := s.dev.writeStalls init w off size data) (exec_brgWindowWrite ..) hport
      (by simp [haccess, hhalt, hroom, Dev.writeStalls, Dev.stallGone]), rfl, rfl, rfl⟩
  case writeHalted =>
    intro s init w off size data hport haccess hhalt
    refine ⟨_, gives_onDevBy (d := s.dev.winRefuse w) (exec_brgWindowWrite ..) hport (by simp [haccess, hhalt]), rfl,
      Dev.rdi_inci_self .., rfl, (Dev.onlyRegs_inci ..).2⟩
  case readStalls =>
    intro s init w off size hport haccess hhalt
    exact ⟨_, gives_onDevBy (d := s.dev.readStalls init w off size) (exec_brgWindowRead ..) hport
      (by simp [haccess, hhalt, Dev.readStalls]), rfl, congrArg Window.work ((s.dev.win_setWin ..).trans (if_pos rfl)),
      fun v hv => (s.dev.win_setWin ..).trans (if_neg hv), rfl⟩
  case readHalted =>
    intro s init w off size hport haccess hhalt
    exact ⟨_, gives_onDevBy (d := s.dev.readEnds init 2 0x13 0 0) (exec_brgWindowRead ..) hport (by simp [haccess, hhalt, brHALTED]),
      rfl, Dev.readEnds_st .., Dev.readEnds_code .., rfl, Dev.readEnds_regsBut _ _ _ _ _ _⟩
  case noSlot =>
    intro s h w k hstalled hpick
    refine ⟨_, gives_brgReadStallEnd_noSlot hstalled hpick, rfl, Dev.readEnds_st .., Dev.readEnds_code .., ?_, rfl,
      (s.dev.win_setWin ..).trans (if_pos rfl)⟩
    exact (Dev.readEnds_apart _ _ _ _ _ _ (by decide) (by decide) (by decide) 0).trans (Dev.rd_inc_self ..)
  case deferred =>
    intro s h w q k hstalled hpick
    have hslot : q % 2 ^ BRG_RSTAT_SLOT.width = q := Nat.mod_eq_of_lt (Dev.slotPick_lt hpick)
    exact ⟨_, gives_brgReadStallEnd_deferred hstalled hpick, rfl, Dev.readEnds_st .., (Dev.readEnds_slot ..).trans hslot,
      (Dev.readEnds_apart _ _ _ _ _ _ (by decide) (by decide) (by decide) q).trans (s.dev.readDeferred_busy h w q k),
      (Dev.readEnds_apart _ _ _ _ _ _ (by decide) (by decide) (by decide) q).trans (s.dev.readDeferred_done h w q k),
      (Dev.readEnds_apart _ _ _ _ _ _ (by decide) (by decide) (by decide) q).trans (s.dev.readDeferred_shownWin h w q k), rfl,
      s.dev.readDeferred_win h w q k⟩
  case writeFull =>
    intro s h w x hfind
    exact ⟨_, gives_onDev (d := ((s.dev.stallGone h).wri BRG_WEVT_FULL w 1).faulted) (exec_brgWriteStallEnd ..)
      (by simp [hfind]), rfl, Dev.rdi_wri_self .., rfl, rfl, (Dev.onlyRegs_wri _ _ _ _).2⟩

end Sys2Proof.Proofs
end

section
/-! SUPPORT. Collect slots, aborts and acknowledgements (R472, R473, R479, R493). -/

namespace Sys2Proof.Machine

section
variable (d : Dev) (q : Nat)

theorem Dev.slotFree_busy : (d.slotFree q).rdi BRG_CSTAT_BUSY q = 0 := by
  unfold Dev.slotFree
  simp (disch := decide) only [Dev.rdi_wr_apart]
  exact (Dev.rdi_wri_apart _ (by decide) ..).trans (Dev.rdi_wri_self ..)

theorem Dev.slotFree_done : (d.slotFree q).rdi BRG_CSTAT_DONE q = 0 := by
  unfold Dev.slotFree
  simp (disch := decide) only [Dev.rdi_wr_apart]
  exact Dev.rdi_wri_self ..

theorem Dev.slotFree_apart {g : Field} (hbusy : g.apart BRG_CSTAT_BUSY = true) (hdone : g.apart BRG_CSTAT_DONE = true)
    (hslots : g.apart BRG_STAT_SLOTS = true) (j : Nat) : (d.slotFree q).rdi g j = d.rdi g j :=
  (Dev.rdi_wr_apart _ hslots ..).trans ((Dev.rdi_wri_apart _ hdone ..).trans (Dev.rdi_wri_apart _ hbusy ..))

end

/-- The deferred read that fills slot `q`, not given up. -/
def Work.fills (q : Nat) (k : Work) : Bool := k.kind == .read && k.deferred && k.num == q && !k.dropped

/-- The read that fills slot `q` from window `w` is given up, and the slot is free. -/
def Dev.readAborted (d : Dev) (q w : Nat) : Dev :=
  ((d.setWin w { d.win w with
      work := (d.win w).work.filter fun k => !k.fills q
      sent := (d.win w).sent.map fun o =>
        if o.work.fills q then { o with work := { o.work with deferred := false, dropped := true } } else o }).wri
    BRG_CSTAT_CODE q brABORTED).slotFree q

/-- The writes that wait in a halted window are discarded and counted. -/
def Dev.discardWrites (d : Dev) (w : Nat) : Dev :=
  (d.setWin w { d.win w with work := (d.win w).work.filter fun k => k.kind != .write }).addi BRG_WCNT2_DISCARDED w
    ((d.win w).work.filter fun k => k.kind == .write).length

theorem exec_brgWackResume (init w : Nat) (s : State) :
    exec (.brgWackResume init w) s = onBlockBy init 0x40700000 (fun d => d.winAck init w fun d => d) s := rfl
theorem exec_brgWackDiscard (init w : Nat) (s : State) :
    exec (.brgWackDiscard init w) s = onBlockBy init 0x40700000 (fun d => d.winAck init w (·.discardWrites w)) s := rfl

section
variable {s : State} {init : Nat} (hport : s.dev.portOpen init = true) (hdom : s.dev.domainOn 2 = true)
include hport hdom

/-! ### Reads of a slot -/

section
variable {q : Nat} {x : Collect} (hdeclared : s.dev.undeclared (s.dev.tag init) = false) (hfind : s.dev.brg.slots.find q = some x)
include hdeclared hfind

theorem gives_brgCollectRead_own (howner : x.owner = s.dev.tag init) (hdone : s.dev.flagi BRG_CSTAT_DONE q = true) :
    Gives (.brgCollectRead init q) s
      ((((s.dev.answered 0).slotFree q).wri BRG_CDATA_DATA q 0).answered (s.dev.rdi BRG_CDATA_DATA q)) := by
  have hdeclared : (s.dev.answered 0).undeclared (s.dev.tag init) = false := hdeclared
  have hfind : (s.dev.answered 0).brg.slots.find q = some x := hfind
  have hdone : (s.dev.answered 0).flagi BRG_CSTAT_DONE q = true := hdone
  exact gives_onBridge (exec_brgCollectRead ..) hport hdom (by simp [hdeclared, hfind, howner, hdone])

theorem gives_brgCollectRead_other (hother : x.owner ≠ s.dev.tag init ∨ s.dev.flagi BRG_CSTAT_DONE q = false) :
    Gives (.brgCollectRead init q) s (s.dev.answered 0) := by
  have hdeclared : (s.dev.answered 0).undeclared (s.dev.tag init) = false := hdeclared
  have hfind : (s.dev.answered 0).brg.slots.find q = some x := hfind
  refine gives_onBridge (exec_brgCollectRead ..) hport hdom ?_
  simp only [hdeclared, hfind, Dev.answered_answered, Dev.answered_tag]
  by_cases howner : x.owner = s.dev.tag init
  · have hdone : (s.dev.answered 0).flagi BRG_CSTAT_DONE q = false := hother.resolve_left (not_not.mpr howner)
    simp [howner, hdone]
  · simp [howner]

end

theorem gives_brgCollectRead_undeclared {q : Nat} (hundeclared : s.dev.undeclared (s.dev.tag init) = true) :
    Gives (.brgCollectRead init q) s ((s.dev.answered 0).ctxTurnedAway (s.dev.tag init)) :=
  gives_onBridge (exec_brgCollectRead ..) hport hdom (if_pos hundeclared)

/-! ### Aborts -/

theorem gives_brgCabort_barred {q : Nat} (hbarred : s.dev.ctxBarred (s.dev.tag init) = true) :
    Gives (.brgCabort init q) s (((s.dev.answered 0).refuse (s.dev.tag init) BRG_ACCERR_ACC_ERR 0).answered 0) :=
  gives_onBridge (exec_brgCabort ..) hport hdom (if_pos hbarred)

theorem gives_brgCabort_landed {q : Nat} (hbarred : s.dev.ctxBarred (s.dev.tag init) = false)
    (hdone : s.dev.flagi BRG_CSTAT_DONE q = true) : Gives (.brgCabort init q) s (s.dev.answered 0) := by
  have hbarred : ¬ (s.dev.answered 0).ctxBarred ((s.dev.answered 0).tag init) = true := ne_true_of_eq_false hbarred
  have hdone : (s.dev.answered 0).flagi BRG_CSTAT_DONE q = true := hdone
  exact gives_onBridge (exec_brgCabort ..) hport hdom ((if_neg hbarred).trans (if_neg fun h => by simp [hdone] at h))

theorem gives_brgCabort_own {q : Nat} {x : Collect} (hbarred : s.dev.ctxBarred (s.dev.tag init) = false)
    (hfind : s.dev.brg.slots.find q = some x) (howner : x.owner = s.dev.tag init) (hdone : s.dev.flagi BRG_CSTAT_DONE q = false) :
    Gives (.brgCabort init q) s (((s.dev.answered 0).readAborted q (s.dev.rdi BRG_CSTAT_WIN q)).answered 0) := by
  have hbarred : ¬ (s.dev.answered 0).ctxBarred ((s.dev.answered 0).tag init) = true := ne_true_of_eq_false hbarred
  have hfind : (s.dev.answered 0).brg.slots.find q = some x := hfind
  have hdone : (s.dev.answered 0).flagi BRG_CSTAT_DONE q = false := hdone
  refine gives_onBridge (exec_brgCabort ..) hport hdom ((if_neg hbarred).trans (if_pos ?_))
  simp [hfind, howner, hdone]

/-! ### Acknowledgements -/

section
variable {w : Nat}

theorem gives_winAck_refused {i : Instr} {f : Dev → Dev} (he : exec i s = onBlockBy init 0x40700000 (fun d => d.winAck init w f) s)
    (hother : s.dev.tag init ≠ s.dev.winOwner w) :
    Gives i s (((s.dev.answered 0).refuse (s.dev.tag init) BRG_ACCERR_ACC_ERR 0).answered 0) :=
  gives_onBridge he hport hdom (if_pos (Or.inl hother))

theorem gives_winAck {i : Instr} {f : Dev → Dev} (he : exec i s = onBlockBy init 0x40700000 (fun d => d.winAck init w f) s)
    (howner : s.dev.tag init = s.dev.winOwner w) (htag : s.dev.tag init ≠ 0xFFFF)
    (hbarred : s.dev.ctxBarred (s.dev.tag init) = false) (hhalt : s.dev.winHalted w = true) :
    Gives i s (((((f ((s.dev.answered 0).wri BRG_WSTATE_STATE w 1)).showWrites w).trig 0x0471 [w]).winUnstall).answered 0) := by
  have hhalt : ¬ (!(s.dev.answered 0).winHalted w) = true := by
    rw [show (s.dev.answered 0).winHalted w = true from hhalt]
    decide
  refine gives_onBridge he hport hdom ((if_neg ?_).trans (if_neg hhalt))
  rintro (h | h | h)
  · exact h howner
  · exact htag h
  · exact ne_true_of_eq_false hbarred h

end

end

theorem Dev.readAborted_win (d : Dev) (q w v : Nat) : (d.readAborted q w).win v =
    if v = w then { d.win w with
      work := (d.win w).work.filter fun k => !k.fills q
      sent := (d.win w).sent.map fun o =>
        if o.work.fills q then { o with work := { o.work with deferred := false, dropped := true } } else o }
    else d.win v := d.win_setWin ..

end Sys2Proof.Machine
end

section
/-! CERTIFICATES. Collect slots and acknowledgements of the bridge. -/

namespace Sys2Proof.Proofs

open Sys2Proof.Machine

/-- Settles O43. -/
theorem bridgeCollectCommands : Obligations.BridgeCollectCommands := by
  unfold Obligations.BridgeCollectCommands
  refine ⟨?read, ?other, ?expiry, ?abort, ?landed, ?barred, ?undeclared, ?resume, ?discard, ?refused⟩
  case read =>
    intro s init q x hport hdom hdeclared hfind howner hdone
    refine ⟨_, gives_brgCollectRead_own hport hdom hdeclared hfind howner hdone, rfl, Dev.rdi_wri_self .., ?busy, ?done, rfl, rfl⟩
    case busy => exact (Dev.rdi_wri_apart _ (by decide) ..).trans (Dev.slotFree_busy ..)
    case done => exact (Dev.rdi_wri_apart _ (by decide) ..).trans (Dev.slotFree_done ..)
  case other =>
    intro s init q x hport hdom hdeclared hfind hother
    exact gives_brgCollectRead_other hport hdom hdeclared hfind hother
  case expiry =>
    intro s q hfind hdone
    exact gives_onDev (exec_brgCollectExpiry ..) (if_pos ⟨hfind, hdone⟩)
  case abort =>
    rintro s init q w x hport hdom hbarred hfind howner hdone rfl
    have hwin (v : Nat) := (s.dev.answered 0).readAborted_win q (s.dev.rdi BRG_CSTAT_WIN q) v
    refine ⟨_, gives_brgCabort_own hport hdom hbarred hfind howner hdone, rfl, ?code, Dev.slotFree_busy .., rfl,
      congrArg Window.work ((hwin _).trans (if_pos rfl)), fun v hv => (hwin v).trans (if_neg hv)⟩
    case code => exact (Dev.slotFree_apart _ _ (by decide) (by decide) (by decide) q).trans (Dev.rdi_wri_self ..)
  case landed =>
    intro s init q hport hdom hbarred hdone
    exact gives_brgCabort_landed hport hdom hbarred hdone
  case barred =>
    intro s init q hport hdom hbarred
    exact gives_brgCabort_barred hport hdom hbarred
  case undeclared =>
    intro s init q hport hdom hundeclared
    exact gives_brgCollectRead_undeclared hport hdom hundeclared
  case resume =>
    intro s init w hport hdom howner htag hbarred hhalt
    have hgives := gives_winAck hport hdom (exec_brgWackResume init w s) howner htag hbarred hhalt
    exact hgives
  case discard =>
    intro s init w d hport hdom howner htag hbarred hhalt hd
    have hgives := gives_winAck hport hdom (exec_brgWackDiscard init w s) howner htag hbarred hhalt
    rwa [← hd, Dev.discardWrites] at hgives
  case refused =>
    intro s init w hport hdom hother
    exact ⟨gives_winAck_refused hport hdom (exec_brgWackResume init w s) hother,
      gives_winAck_refused hport hdom (exec_brgWackDiscard init w s) hother⟩

end Sys2Proof.Proofs
end

section
/-! SUPPORT. Requests, answers, timeouts, inbound writes, polls and probes of the bridge (R461, R466, R467, R478, R483 to R486). -/

namespace Sys2Proof.Machine

theorem exec_brgRequestSend (w : Nat) (s : State) : exec (.brgRequestSend w) s = execBrgRequestSend w s := rfl
theorem exec_brgAnswer (w type seq addr data : Nat) (s : State) :
    exec (.brgAnswer w type seq addr data) s = onDev (fun d => d.farAnswer w type seq addr data) s := rfl
theorem exec_brgResponseTimeout (w : Nat) (s : State) : exec (.brgResponseTimeout w) s = execBrgResponseTimeout w s := rfl
theorem exec_brgIwrite (bus unit node seq size addr : Nat) (data : Value) (s : State) :
    exec (.brgIwrite bus unit node seq size addr data) s = execBrgIwrite bus unit node seq size addr data s := rfl
theorem exec_brgPollDue (w : Nat) (s : State) : exec (.brgPollDue w) s = execBrgPollDue w s := rfl
theorem exec_brgProbeDue (w : Nat) (s : State) : exec (.brgProbeDue w) s = execBrgProbeDue w s := rfl

/-! ### A PDU that goes out leaves the windows (R411, R466, R467) -/

namespace Dev.Takes

variable {d₀ d : Dev}

theorem setTxObj (h : d₀.Takes d) {o : Nat} {x : TxObj} : d₀.Takes (d.setTxObj o x) :=
  h.trans ⟨rfl, rfl, rfl, rfl, fun _ _ _ => rfl⟩

theorem farSend (h : d₀.Takes d) {bus unit node buf : Nat} {pdu : List Byte} : d₀.Takes (d.farSend bus unit node buf pdu) :=
  h.ite (fun h => (h.setTxObj.wri (f := CAN_TXLEN_LEN)).ite id (·.canStart)) (·.swxIngress)

theorem farRequest (h : d₀.Takes d) {w : Nat} {o : Outstanding} : d₀.Takes (d.farRequest w o) := h.farSend

theorem win_eq (h : d₀.Takes d) (v : Nat) : d.win v = d₀.win v := congrArg (fun m : Map Window => m.get v {}) h.win

/-- The acknowledgement of an inbound write is kept in its window, and goes out. -/
theorem farIack (d : Dev) (w seq size addr code : Nat) (inw : Option Nat) :
    (d.setWin w { d.win w with lastIn := some (seq, code) }).Takes (d.farIack w seq size addr code inw) := by
  dsimp only [Dev.farIack]
  split
  · exact (refl _).farSend
  · exact (refl _).ite (·.farSend) id

end Dev.Takes

theorem farReg_wcntRetries (w : Nat) : farReg (BRG_WCNT_RETRIES.key w) := by
  have hkey := Field.key_bounds (f := BRG_WCNT_RETRIES) (by decide) w
  have hlo : 0x40701000 * 32 ≤ BRG_WCNT_RETRIES.place := by decide
  have hhi : BRG_WCNT_RETRIES.lastPlace < 0x40708000 * 32 := by decide
  refine ⟨by omega, by omega, ?_⟩
  rw [Field.key, show BRG_WCNT_RETRIES.lsb = 16 from rfl]
  omega

variable {s : State} {w : Nat}

/-! ### Requests -/

/-- The window's next work goes out under the next number. -/
def Dev.requestSent (d : Dev) (w : Nat) (k : Work) (x : Window) : Dev :=
  (d.setWin w { x with
    sent := some { work := k, seq := (d.win w).nextSeq }, nextSeq := ((d.win w).nextSeq + 1) % 256 }).farRequest w
    { work := k, seq := (d.win w).nextSeq }

theorem Dev.requestSent_win (d : Dev) (k : Work) (x : Window) (v : Nat) : (d.requestSent w k x).win v =
    if v = w then { x with
      sent := some { work := k, seq := (d.win w).nextSeq }, nextSeq := ((d.win w).nextSeq + 1) % 256 } else d.win v :=
  ((Takes.refl _).farRequest.win_eq v).trans (d.win_setWin ..)

theorem gives_brgRequestSend_busy (hsent : (s.dev.win w).sent.isSome = true) : Gives (.brgRequestSend w) s s.dev :=
  gives_onDev (exec_brgRequestSend ..) (if_pos (Or.inr hsent))

section
variable (hup : s.dev.winUp w = true)
include hup

theorem gives_brgRequestSend_probe (hsent : (s.dev.win w).sent = none) (hdue : (s.dev.win w).probeDue = true) :
    Gives (.brgRequestSend w) s
      (s.dev.requestSent w { kind := .probe, addr := 0xFFFC, size := 2 } { s.dev.win w with probeDue := false }) :=
  gives_onDev (exec_brgRequestSend ..) ((if_neg (by simp [hup, hsent])).trans (if_pos hdue))

theorem gives_brgRequestSend_work {k : Work} {rest : List Work} (hhalt : s.dev.winHalted w = false)
    (hsent : (s.dev.win w).sent = none) (hdue : (s.dev.win w).probeDue = false) (hwork : (s.dev.win w).work = k :: rest) :
    Gives (.brgRequestSend w) s (s.dev.requestSent w k { s.dev.win w with work := rest }) := by
  have hfree : ¬ ((!s.dev.winUp w) = true ∨ (s.dev.win w).sent.isSome = true) := by simp [hup, hsent]
  refine gives_onDev (exec_brgRequestSend ..) ?_
  dsimp only
  rw [if_neg hfree, if_neg (ne_true_of_eq_false hdue), if_neg (ne_true_of_eq_false hhalt), hwork]
  rfl

/-! ### Answers -/

section
variable {o : Outstanding} (hsent : (s.dev.win w).sent = some o)
include hsent

theorem gives_brgAnswer_stray {seq addr type data : Nat} (hseq : o.seq ≠ seq) (htype : type = 3 ∨ type = 4 ∨ type = 5) :
    Gives (.brgAnswer w type seq addr data) s (s.dev.inci BRG_WCNT_STRAY w) := by
  refine gives_onDev (exec_brgAnswer ..) ((if_neg (by omega)).trans ((if_neg (by simp [hup])).trans ?_))
  rw [hsent]
  exact if_pos (Or.inl hseq)

theorem gives_brgAnswer_write {data : Nat} (hkind : o.work.kind = .write) :
    Gives (.brgAnswer w 3 o.seq o.work.addr data) s (s.dev.farEnds w o 0 (data % 256 ^ farBytes o.work.size)) := by
  refine gives_onDev (exec_brgAnswer ..) ?_
  unfold Dev.farAnswer
  simp [hup, hsent, hkind]

theorem gives_brgAnswer_read {data : Nat} (hkind : o.work.kind = .read) :
    Gives (.brgAnswer w 4 o.seq o.work.addr data) s (s.dev.farEnds w o 0 (data % 256 ^ farBytes o.work.size)) := by
  refine gives_onDev (exec_brgAnswer ..) ?_
  unfold Dev.farAnswer
  simp [hup, hsent, hkind]

theorem gives_brgAnswer_again : Gives (.brgAnswer w 5 o.seq o.work.addr 0x04) s (s.dev.farAgain w o true) := by
  refine gives_onDev (exec_brgAnswer ..) ?_
  unfold Dev.farAnswer
  simp [hup, hsent]

end

end

theorem Dev.farEnds_write (d : Dev) {o : Outstanding} (hkind : o.work.kind = .write) (value : Nat) :
    d.farEnds w o 0 value = ((d.setWin w { d.win w with sent := none }).showWrites w).winUnstall := by
  unfold Dev.farEnds
  simp [hkind]

theorem Dev.farEnds_read (d : Dev) {o : Outstanding} (hkind : o.work.kind = .read) (value : Nat) :
    d.farEnds w o 0 value = (d.setWin w { d.win w with sent := none }).readResult w o.work 0 value := by
  unfold Dev.farEnds
  simp [hkind]

theorem Dev.readResult_stalled (d : Dev) {k : Work} (hstalled : k.stalled = true) (hdropped : k.dropped = false) (value : Nat) :
    d.readResult w k 0 value = d.readEnds k.hart 0 0 0 value := by
  unfold Dev.readResult
  simp [hstalled, hdropped]

/-! ### Timeouts -/

section
variable {o : Outstanding} (hsent : (s.dev.win w).sent = some o)
include hsent

theorem gives_brgResponseTimeout : Gives (.brgResponseTimeout w) s (s.dev.farAgain w o o.busy) :=
  gives_onDev (exec_brgResponseTimeout ..) (by simp only [hsent])

/-- The request is sent again, and the resend is counted. -/
def Dev.requestAgain (d : Dev) (w : Nat) (o : Outstanding) : Dev :=
  ((d.setWin w { d.win w with sent := some { o with resends := o.resends + 1 } }).inci BRG_WCNT_RETRIES w).farRequest w
    { o with resends := o.resends + 1 }

theorem gives_brgResponseTimeout_again (hleft : o.resends < s.dev.rdi BRG_WPOLL_RETRIES w) :
    Gives (.brgResponseTimeout w) s (s.dev.requestAgain w o) := by
  have hgives := gives_brgResponseTimeout hsent
  rwa [Dev.farAgain, if_pos hleft] at hgives

theorem gives_brgResponseTimeout_ends (hused : ¬ o.resends < s.dev.rdi BRG_WPOLL_RETRIES w) :
    Gives (.brgResponseTimeout w) s (s.dev.farEnds w o (if o.busy then 0x04 else 0x10) 0) := by
  have hgives := gives_brgResponseTimeout hsent
  rwa [Dev.farAgain, if_neg hused] at hgives

end

theorem Dev.requestAgain_win (d : Dev) (o : Outstanding) (v : Nat) : (d.requestAgain w o).win v =
    if v = w then { d.win w with sent := some { o with resends := o.resends + 1 } } else d.win v :=
  ((Takes.refl _).farRequest.win_eq v).trans (d.win_setWin ..)

theorem Dev.requestAgain_retries (d : Dev) (o : Outstanding) : (d.requestAgain w o).rdi BRG_WCNT_RETRIES w =
    min (d.rdi BRG_WCNT_RETRIES w + 1) (2 ^ BRG_WCNT_RETRIES.width - 1) :=
  ((Takes.refl _).farRequest.rdi _ _ (farReg_wcntRetries w)).trans (Dev.rdi_inci_self ..)

/-! ### Inbound writes -/

section
variable {bus unit node seq size addr : Nat} {data : Value}

theorem gives_brgIwrite_undeclared (hwin : s.dev.winOf bus unit node = none) :
    Gives (.brgIwrite bus unit node seq size addr data) s ((s.dev.inc BRG_INCNT_UNDECL).trig 0x0475 [node]) := by
  refine gives_onDev (exec_brgIwrite ..) ((if_neg (by simp [hwin])).trans ?_)
  simp only [Dev.farIwrite, hwin]

variable (hwin : s.dev.winOf bus unit node = some w)
include hwin

theorem gives_brgIwrite_dropped (hfull : 32 ≤ s.dev.iwritesWaiting) :
    Gives (.brgIwrite bus unit node seq size addr data) s (s.dev.inc BRG_INCNT_DROPPED) :=
  gives_onDev (exec_brgIwrite ..) (if_pos ⟨hfull, by rw [hwin]; rfl⟩)

/-- The inbound windows of a satellite, in the order of their records. -/
def Dev.inboundOf (d : Dev) (bus unit node : Nat) : List Nat :=
  ((d.rdeck.bridgeRecs.filter fun r => r.kind == 2).map fun r => r.index).filter fun i =>
    d.rdi BRG_INCFG_BUS i == bus && d.rdi BRG_INCFG_UNIT i == unit && d.rdi BRG_INCFG_NODE i == node

variable (hroom : s.dev.iwritesWaiting < 32)
include hroom

theorem gives_brgIwrite_new (hlast : (s.dev.win w).lastIn = none) :
    Gives (.brgIwrite bus unit node seq size addr data) s
      (s.dev.iwriteNew w (s.dev.inboundOf bus unit node) (s.dev.inboundOf bus unit node).head? seq size addr data) := by
  refine gives_onDev (exec_brgIwrite ..) ((if_neg (by omega)).trans ?_)
  simp only [Dev.farIwrite, hwin, hlast]
  rfl

theorem gives_brgIwrite_repeat {code : Nat} (hlast : (s.dev.win w).lastIn = some (seq, code)) :
    Gives (.brgIwrite bus unit node seq size addr data) s
      (s.dev.farIack w seq size addr code (s.dev.inboundOf bus unit node).head?) := by
  refine gives_onDev (exec_brgIwrite ..) ((if_neg (by omega)).trans ?_)
  simp only [Dev.farIwrite, hwin, hlast]
  rfl

end

/-! ### Polls and probes -/

/-- A status poll joins the work of its window. -/
def Dev.pollJoins (d : Dev) (w : Nat) : Dev :=
  d.setWin w { d.win w with work := (d.win w).work ++
    [{ kind := .poll, addr := d.rdi BRG_WSTAT_STATADDR w, size := d.rdi BRG_WSTAT_SSIZE w }] }

theorem gives_brgPollDue (hup : s.dev.rdi BRG_WSTATE_STATE w = 1) (hpoll : s.dev.rdi BRG_WPOLL_POLLMS w ≠ 0) :
    Gives (.brgPollDue w) s (s.dev.pollJoins w) :=
  gives_onDev (exec_brgPollDue ..) (if_pos ⟨hup, hpoll⟩)

theorem gives_brgProbeDue (hup : s.dev.winUp w = true) :
    Gives (.brgProbeDue w) s (s.dev.setWin w { s.dev.win w with probeDue := true }) :=
  gives_onDev (exec_brgProbeDue ..) (if_pos hup)

end Sys2Proof.Machine
end

section
/-! CERTIFICATES. The traffic of the bridge. -/

namespace Sys2Proof.Proofs

open Sys2Proof.Machine

/-- Settles O44. -/
theorem bridgeBusCommands : Obligations.BridgeBusCommands := by
  unfold Obligations.BridgeBusCommands
  refine ⟨?work, ?probe, ?busy, ?workWindow, ?written, ?readDone, ?readStalled, ?busyAnswer, ?stray, ?again, ?ends, ?againWindow,
    ?noRequest, ?undeclared, ?undeclaredCount, ?dropped, ?new, ?repeated, ?poll, ?pollWindow, ?pollHalted, ?probeDue, ?probeWindow,
    ?probeDown⟩
  case work =>
    rintro s w k rest o hup hhalt hsent hdue hwork rfl
    exact gives_brgRequestSend_work hup hhalt hsent hdue hwork
  case probe =>
    rintro s w o hup hsent hdue rfl
    exact gives_brgRequestSend_probe hup hsent hdue
  case busy =>
    intro s w hup hsent
    exact gives_brgRequestSend_busy hsent
  case workWindow =>
    intro s w k rest hup hhalt hsent hdue hwork
    have hself := (s.dev.requestSent_win k { s.dev.win w with work := rest } w).trans (if_pos rfl)
    exact ⟨_, gives_brgRequestSend_work hup hhalt hsent hdue hwork, congrArg Window.sent hself, congrArg Window.work hself,
      congrArg Window.nextSeq hself, fun v hv => (Dev.requestSent_win ..).trans (if_neg hv)⟩
  case written =>
    intro s w data o hup hsent hkind
    exact s.dev.farEnds_write hkind _ ▸ gives_brgAnswer_write hup hsent hkind
  case readDone =>
    intro s w data o hup hsent hkind
    exact s.dev.farEnds_read hkind _ ▸ gives_brgAnswer_read hup hsent hkind
  case readStalled =>
    intro s w data o hup hsent hkind hstalled hdropped
    have hgives := gives_brgAnswer_read (data := data) hup hsent hkind
    rw [Dev.farEnds_read _ hkind, Dev.readResult_stalled _ hstalled hdropped] at hgives
    exact ⟨_, hgives, congrArg Window.sent ((s.dev.win_setWin ..).trans (if_pos rfl)), rfl, Dev.readEnds_st ..,
      fun v hv => (s.dev.win_setWin ..).trans (if_neg hv)⟩
  case busyAnswer =>
    intro s w o hup hsent
    exact gives_brgAnswer_again hup hsent
  case stray =>
    intro s w seq addr type data o hup hsent hseq htype
    exact ⟨_, gives_brgAnswer_stray hup hsent hseq htype, Dev.rdi_inci_self .., Dev.onlyRegs_inci ..⟩
  case again =>
    intro s w o hsent hleft
    exact gives_brgResponseTimeout_again hsent hleft
  case ends =>
    intro s w o hsent hused
    exact gives_brgResponseTimeout_ends hsent hused
  case againWindow =>
    intro s w o hsent hleft
    have hself := (s.dev.requestAgain_win o w).trans (if_pos rfl)
    exact ⟨_, gives_brgResponseTimeout_again hsent hleft, congrArg Window.sent hself, s.dev.requestAgain_retries o,
      (congrArg Window.work hself :), fun v hv => (s.dev.requestAgain_win o v).trans (if_neg hv)⟩
  case noRequest =>
    intro s w hsent
    exact exec_of_gives_same (gives_onDev (exec_brgResponseTimeout ..) (by simp only [hsent]))
  case undeclared =>
    intro s bus unit node seq size addr data hwin
    exact gives_brgIwrite_undeclared hwin
  case undeclaredCount =>
    intro s bus unit node seq size addr data hwin
    exact ⟨_, gives_brgIwrite_undeclared hwin, (Dev.trig_rd_beside _ (by decide) ..).trans (Dev.rd_inc_self ..), Dev.trig_brg ..⟩
  case dropped =>
    intro s w bus unit node seq size addr data hwin hfull
    exact ⟨_, gives_brgIwrite_dropped hwin hfull, Dev.rd_inc_self .., Dev.onlyRegs_inci ..⟩
  case new =>
    rintro s w bus unit node seq size addr data ins hwin hroom hlast rfl
    exact gives_brgIwrite_new hwin hroom hlast
  case repeated =>
    intro s w code bus unit node seq size addr data hwin hroom hlast
    have htakes := Dev.Takes.farIack s.dev w seq size addr code (s.dev.inboundOf bus unit node).head?
    exact ⟨_, gives_brgIwrite_repeat hwin hroom hlast,
      congrArg Window.lastIn ((htakes.win_eq w).trans ((s.dev.win_setWin ..).trans (if_pos rfl))), htakes.sig⟩
  case poll =>
    intro s w hup hpoll
    exact gives_brgPollDue hup hpoll
  case pollWindow =>
    intro s w hup hpoll
    exact ⟨_, gives_brgPollDue hup hpoll, congrArg Window.work ((s.dev.win_setWin ..).trans (if_pos rfl)),
      fun v hv => (s.dev.win_setWin ..).trans (if_neg hv), rfl⟩
  case pollHalted =>
    intro s w hhalt
    have hstate : s.dev.rdi BRG_WSTATE_STATE w = 2 := eq_of_beq hhalt
    exact exec_of_gives_same (gives_onDev (exec_brgPollDue ..) (if_neg (by omega)))
  case probeDue =>
    intro s w hup
    exact gives_brgProbeDue hup
  case probeWindow =>
    intro s w hup
    have hself := (s.dev.win_setWin w w { s.dev.win w with probeDue := true }).trans (if_pos rfl)
    exact ⟨_, gives_brgProbeDue hup, congrArg Window.probeDue hself, (congrArg Window.work hself :),
      fun v hv => (s.dev.win_setWin ..).trans (if_neg hv), rfl⟩
  case probeDown =>
    intro s w hup
    exact exec_of_gives_same (gives_onDev (exec_brgProbeDue ..) (if_neg (ne_true_of_eq_false hup)))

end Sys2Proof.Proofs
end

section
/-! SUPPORT. The end of bus integration with a table of joining spares that is not in its canonical form (R375, R560). -/

namespace Sys2Proof.Machine

theorem exec_busIntegrationComplete (c : Nat) (s : State) :
    exec (.busIntegrationComplete c) s = execBusIntegrationComplete c s := rfl

/-- The end of integration of a controller that joins as a spare strikes it from the table of the joining spares, once. -/
theorem busIntegrationComplete_joining {s : State} {c u : Nat} (hstate : s.dev.rdi CAN_STAT_STATE c = 1)
    (hjoin : s.dev.can.joining.find c = some u) (hclusters : s.dev.sleepClusters 1 c = []) :
    Ends (.busIntegrationComplete c) s fun d => d.can.joining = s.dev.can.joining.erase c := by
  refine ⟨_, gives_onDev (exec_busIntegrationComplete ..) (if_pos hstate), ?_⟩
  dsimp only
  simp only [Dev.setCanCtl, Dev.wri_can, hjoin]
  rw [show ∀ e : Dev, e.deck = s.dev.deck → e.sleepClusters 1 c = [] from fun e he => by
    rw [Dev.sleepClusters, Dev.rdeck, he]; exact hclusters]
  · exact congrArg CanState.joining (Dev.trig_can ..)
  · exact Dev.trig_deck ..

/-- Controller 0 integrates as the spare of controller 5, and the table of the joining spares names it twice, which is not the table's
canonical form. -/
def joiningTwice : State where
  dev := { regs := ⟨[(CAN_STAT_STATE.key 0, 1)]⟩, can := { joining := ⟨[(0, 5), (0, 5)]⟩ } }

end Sys2Proof.Machine
end

section
/-! CERTIFICATES. The limits of network sleep. -/

namespace Sys2Proof.Proofs

open Sys2Proof.Machine

/-- Refutes O46: its clause on the substitution of a spare has the table of the joining spares name the controller no longer in every
state, but the end of integration strikes it from the table once, and in the state `joiningTwice` the table names it a second time. -/
theorem not_sleepLimitCommands : ¬ Obligations.SleepLimitCommands := by
  unfold Obligations.SleepLimitCommands
  rintro ⟨-, -, -, -, -, -, -, -, -, -, hjoined, -⟩
  obtain ⟨d, hgives, -, hgone, -⟩ := hjoined joiningTwice 0 5 (by decide) (by decide) (by decide)
  obtain ⟨e, hgives', hstruck⟩ :=
    busIntegrationComplete_joining (s := joiningTwice) (c := 0) (u := 5) (by decide) (by decide) (by decide)
  rw [← hgives.but_out hgives'] at hstruck
  rw [show d.can.joining = _ from hstruck] at hgone
  exact absurd hgone (by decide)

end Sys2Proof.Proofs
end

section
/-! SUPPORT. Sleep clusters: what a change of state, a holder and the members' stand-by leave as they were (R502 to R516). -/

namespace Sys2Proof.Machine

theorem exec_nmwReqSet (init k reason : Nat) (s : State) : exec (.nmwReqSet init k reason) s = execNmwReqSet init k reason s := rfl
theorem exec_nmwReqRelease (init k : Nat) (s : State) : exec (.nmwReqRelease init k) s = execNmwReqRelease init k s := rfl
theorem exec_keepAwakeSend (k : Nat) (s : State) : exec (.keepAwakeSend k) s = execKeepAwakeSend k s := rfl
theorem exec_keepAwakeReceived (m : KaMsg) (s : State) : exec (.keepAwakeReceived m) s = onDev (·.kaReceived m) s := rfl
theorem exec_sleepCommitComplete (k : Nat) (s : State) : exec (.sleepCommitComplete k) s = execSleepCommitComplete k s := rfl
theorem exec_sleepCommitStepEnd (k : Nat) (s : State) : exec (.sleepCommitStepEnd k) s = execSleepCommitStepEnd k s := rfl
theorem exec_wakeEvent (k cause unit node : Nat) (s : State) :
    exec (.wakeEvent k cause unit node) s = execWakeEvent k cause unit node s := rfl

/-! ### A change of state (R514, R519, R702) -/

/-- A register outside those that a change of state shows and the STANDBY request's. -/
def Field.besideSleep (g : Field) : Bool :=
  g.apart NMW_STAT_ALLSLEEP && g.apart PWR_STAT_PEND && g.apart DBG_STAT_PWRHELD && g.besideRec

namespace Dev

variable (d : Dev) (k st : Nat)

theorem standbyCancel_frame : { d.standbyCancel with regs := d.regs, recd := d.recd, pwr := d.pwr } = d := by
  unfold standbyCancel
  split
  · have htrig := ((d.wr PWR_STAT_PEND 0).wr DBG_STAT_PWRHELD 0).trig_frame 0x0601 []
    exact congrArg (fun e : Dev => { e with regs := d.regs, recd := d.recd, pwr := d.pwr }) htrig
  · rfl

theorem sleepShow_frame : { d.sleepShow with regs := d.regs, recd := d.recd, pwr := d.pwr } = d := by
  unfold sleepShow
  dsimp only
  split
  · rfl
  · exact congrArg (fun e : Dev => { e with regs := d.regs }) (standbyCancel_frame _)

theorem setClState_frame : { d.setClState k st with regs := d.regs, recd := d.recd, pwr := d.pwr } = d :=
  congrArg (fun e : Dev => { e with regs := d.regs }) (sleepShow_frame ((d.wri NMW_CLSTAT_STATE k st).wri NMW_EVT_STATE k 1))

theorem setClState_nmw : (d.setClState k st).nmw = d.nmw := (congrArg Dev.nmw (d.setClState_frame k st) :)
theorem setClState_mem : (d.setClState k st).mem = d.mem := (congrArg Dev.mem (d.setClState_frame k st) :)
theorem setClState_can : (d.setClState k st).can = d.can := (congrArg Dev.can (d.setClState_frame k st) :)
theorem setClState_deck : (d.setClState k st).deck = d.deck := (congrArg Dev.deck (d.setClState_frame k st) :)

theorem sleepShow_rdi {g : Field} (hg : g.besideSleep = true) (j : Nat) : d.sleepShow.rdi g j = d.rdi g j := by
  simp only [Field.besideSleep, Bool.and_eq_true] at hg
  obtain ⟨⟨⟨hall, hpend⟩, hheld⟩, hrec⟩ := hg
  unfold sleepShow standbyCancel
  dsimp only
  split
  · exact rdi_wr_apart _ hall ..
  · split
    · refine (trig_rdi_beside _ hrec ..).trans ((rdi_wr_apart _ hheld ..).trans ?_)
      exact (rdi_wr_apart _ hpend ..).trans (rdi_wr_apart _ hall ..)
    · exact rdi_wr_apart _ hall ..

theorem setClState_clState : (d.setClState k st).clState k = st % 2 ^ NMW_CLSTAT_STATE.width :=
  (sleepShow_rdi _ (by decide) k).trans ((rdi_wri_apart _ (by decide) ..).trans (rdi_wri_self ..))

theorem setClState_evt : (d.setClState k st).rdi NMW_EVT_STATE k = 1 := (sleepShow_rdi _ (by decide) k).trans (rdi_wri_self ..)

theorem setClState_rdi {g : Field} (hg : g.besideSleep = true) (hstate : g.apart NMW_CLSTAT_STATE = true)
    (hevt : g.apart NMW_EVT_STATE = true) (j : Nat) : (d.setClState k st).rdi g j = d.rdi g j :=
  (sleepShow_rdi _ hg j).trans ((rdi_wri_apart _ hevt ..).trans (rdi_wri_apart _ hstate ..))

theorem canState_setClState (x : Cluster) (c : Nat) :
    ((d.setCl k x).setClState k st).rdi CAN_STAT_STATE c = d.rdi CAN_STAT_STATE c :=
  setClState_rdi _ k st (by decide) (by decide) (by decide) c

theorem canCtl_setClState (x : Cluster) (c : Nat) : ((d.setCl k x).setClState k st).canCtl c = d.canCtl c := by
  rw [canCtl, setClState_can]
  rfl

/-! ### Holders (R516) -/

theorem stretch_cl (j : Nat) : (d.stretch k).cl j =
    if j = k then { d.cl k with stretch := if (d.holders k).length = 1 then (d.holders k).head? else none } else d.cl j := by
  unfold stretch
  dsimp only
  split
  · next n hn =>
    rw [hn]
    exact cl_setCl ..
  · next hs hn =>
    have hlen : (d.holders k).length ≠ 1 := fun hlen => by
      obtain ⟨n, hone⟩ := List.length_eq_one_iff.mp hlen
      exact hn n hone
    rw [if_neg hlen]
    exact cl_setCl ..

theorem stretch_regs : (d.stretch k).regs = (d.wri NMW_CLSTAT_HOLDERS k (min (d.holders k).length 255)).regs := by
  unfold stretch
  dsimp only
  split <;> rfl

theorem stretch_rdi {g : Field} (hg : g.apart NMW_CLSTAT_HOLDERS = true) (j : Nat) : (d.stretch k).rdi g j = d.rdi g j := by
  rw [rdi, stretch_regs, ← rdi]
  exact d.rdi_wri_apart hg ..

theorem holderAdd_holders (node : Nat) : ((d.holderAdd k node).cl k).holders.contains node = true := by
  unfold holderAdd
  rw [stretch_cl, if_pos rfl, cl_setCl, if_pos rfl]
  dsimp only
  split
  · assumption
  · simp

theorem holderAdd_rdi (node : Nat) {g : Field} (hg : g.apart NMW_CLSTAT_HOLDERS = true) (j : Nat) :
    (d.holderAdd k node).rdi g j = d.rdi g j := stretch_rdi _ k hg j

end Dev

/-! ### The members stand by (R436, R508, R512) -/

/-- From `d` to `d'` a link of the switch is lost: the sleep clusters, the CAN controllers and the registers below the switch's are as
before. -/
structure Dev.Unlinks (d d' : Dev) : Prop where
  nmw : d'.nmw = d.nmw
  can : d'.can = d.can
  rdi : ∀ (g : Field) (j : Nat), g.key j < 0x40600000 * 32 → d'.rdi g j = d.rdi g j

/-- The field lies from the switch's registers on, and repeats within bounds. -/
def Field.aboveBuses (f : Field) : Bool := f.bounded && decide (0x40600000 * 32 ≤ f.place)

namespace Dev.Unlinks

variable {d₀ d : Dev}

theorem refl (d : Dev) : d.Unlinks d := ⟨rfl, rfl, fun _ _ _ => rfl⟩

variable (h : d₀.Unlinks d)
include h

theorem trans {e : Dev} (he : d.Unlinks e) : d₀.Unlinks e :=
  ⟨he.nmw.trans h.nmw, he.can.trans h.can, fun g j hg => (he.rdi g j hg).trans (h.rdi g j hg)⟩

theorem setSwx {x : SwxState} : d₀.Unlinks { d with swx := x } := h.trans ⟨rfl, rfl, fun _ _ _ => rfl⟩

theorem ite {c : Prop} [Decidable c] {a b : Dev} (ha : d₀.Unlinks d → d₀.Unlinks a) (hb : d₀.Unlinks d → d₀.Unlinks b) :
    d₀.Unlinks (if c then a else b) := by
  split
  · exact ha h
  · exact hb h

theorem each {α : Type} {l : List α} {f : Dev → α → Dev}
    (hf : ∀ {e : Dev} {x : α}, d₀.Unlinks e → d₀.Unlinks (f e x)) : d₀.Unlinks (d.each l f) :=
  List.foldlRecOn l f h fun _ he _ _ => hf he

theorem wri {f : Field} (hf : f.aboveBuses = true := by decide) {i v : Nat} : d₀.Unlinks (d.wri f i v) :=
  h.trans ⟨rfl, rfl, fun g j hg => by
    simp only [Field.aboveBuses, Bool.and_eq_true, decide_eq_true_eq] at hf
    have hkey := Field.key_bounds hf.1 i
    rw [Dev.rdi_wri, if_neg (by omega)]⟩

theorem wr {f : Field} (hf : f.aboveBuses = true := by decide) {v : Nat} : d₀.Unlinks (d.wr f v) := h.wri hf
theorem inci {f : Field} (hf : f.aboveBuses = true := by decide) {i : Nat} : d₀.Unlinks (d.inci f i) := h.wri hf
theorem addi {f : Field} (hf : f.aboveBuses = true := by decide) {i n : Nat} : d₀.Unlinks (d.addi f i n) := h.wri hf

theorem trig {code : Nat} {args : List Nat} : d₀.Unlinks (d.trig code args) :=
  h.trans ⟨d.trig_nmw .., d.trig_can .., fun g j hg => d.trig_rdi code args g j (Or.inl (by omega))⟩

theorem swxFlush {p : Nat} : d₀.Unlinks (d.swxFlush p) := (h.each fun h => h.wri.wr.setSwx).addi.wri.wr.trig
theorem swxHold {p : Nat} : d₀.Unlinks (d.swxHold p) := h.wri.wri.ite (·.swxFlush.wri.wri) id

theorem swxLinkLost {p t : Nat} : d₀.Unlinks (d.swxLinkLost p t) :=
  h.ite (fun h => (h.setSwx.ite (·.inci.wri.trig) id).wri.wri.trig.ite (·.swxHold) (·.wri)) id

end Dev.Unlinks

/-- A CAN member stands by: under selective wake it ignores the bus, else it is off. -/
def Dev.canStandby (d : Dev) (k c : Nat) : Dev :=
  let m1 := d.wakeMode k 1 c == some 1
  let d := d.setCanCtl c { d.canCtl c with ignore := m1, off := !m1, wakeErr := 0 }
  if m1 then d else d.wri CAN_STAT_STATE c 0

theorem Dev.membersStandby_unlinks (d : Dev) (k : Nat) :
    (d.each (d.clUnits k 1) fun d c => d.canStandby k c).Unlinks (d.membersStandby k) :=
  (Unlinks.refl _).each (·.swxLinkLost)

theorem Dev.canStandby_nmw (d : Dev) (k c : Nat) : (d.canStandby k c).nmw = d.nmw := by
  unfold canStandby
  dsimp only
  split <;> rfl

theorem Dev.each_nmw {α : Type} {f : Dev → α → Dev} (hf : ∀ (e : Dev) (x : α), (f e x).nmw = e.nmw) (l : List α) (d : Dev) :
    (d.each l f).nmw = d.nmw := by
  induction l generalizing d with
  | nil => rfl
  | cons x l ih => exact (ih (f d x)).trans (hf d x)

theorem Dev.membersStandby_nmw (d : Dev) (k : Nat) : (d.membersStandby k).nmw = d.nmw :=
  (d.membersStandby_unlinks k).nmw.trans (Dev.each_nmw (fun e c => e.canStandby_nmw k c) _ d)

theorem Dev.membersStandby_cl (d : Dev) (k j : Nat) : (d.membersStandby k).cl j = d.cl j := by
  rw [Dev.cl, d.membersStandby_nmw, Dev.cl]

section
variable {d : Dev} {k c : Nat} (hone : d.clUnits k 1 = [c])
include hone

theorem Dev.membersStandby_one : (d.canStandby k c).Unlinks (d.membersStandby k) := by
  have h := d.membersStandby_unlinks k
  rwa [hone] at h

theorem Dev.membersStandby_ignore (hmode : d.wakeMode k 1 c = some 1) :
    ((d.membersStandby k).canCtl c).ignore = true ∧ ((d.membersStandby k).canCtl c).off = false := by
  rw [Dev.canCtl, (Dev.membersStandby_one hone).can, ← Dev.canCtl, Dev.canStandby, hmode]
  dsimp only
  rw [if_pos (by decide), Dev.canCtl_setCanCtl, if_pos rfl]
  exact ⟨rfl, rfl⟩

theorem Dev.membersStandby_off (hmode : d.wakeMode k 1 c ≠ some 1) :
    (d.membersStandby k).rdi CAN_STAT_STATE c = 0 ∧ ((d.membersStandby k).canCtl c).off = true := by
  have hother : (d.wakeMode k 1 c == some 1) = false := beq_eq_false_iff_ne.mpr hmode
  have hkey := (Field.key_bounds (f := CAN_STAT_STATE) (by decide) c).2
  have hlast : CAN_STAT_STATE.lastPlace < 0x40600000 * 32 := by decide
  rw [Dev.canCtl, (Dev.membersStandby_one hone).can, (Dev.membersStandby_one hone).rdi _ _ (by omega), ← Dev.canCtl, Dev.canStandby,
    hother]
  dsimp only
  rw [if_neg Bool.false_ne_true, Dev.rdi_wri_self, Dev.canCtl_wri, Dev.canCtl_setCanCtl, if_pos rfl]
  exact ⟨rfl, rfl⟩

end

/-! ### The commands -/

variable {s : State} {k : Nat}

section
variable {init : Nat} (hport : s.dev.portOpen init = true)
include hport

section
variable (hnone : s.dev.tag init ≠ 0xFFFD) (hall : s.dev.tag init ≠ 0xFFFF) (hbarred : s.dev.ctxBarred (s.dev.tag init) = false)
  (hdecl : s.dev.bit NMW_STAT_DECL 0 k = true)
include hnone hall hbarred hdecl

theorem gives_nmwReqSet (reason : Nat) : Gives (.nmwReqSet init k reason) s (((s.dev.setCl k { s.dev.cl k with
    reqs := (s.dev.cl k).reqs.set (s.dev.tag init) (reason % 256) }).requestChange k 1 0 (s.dev.clRequested k)).answered 0) :=
  gives_onDevBy (exec_nmwReqSet ..) hport ((if_neg (by simp [hnone, hall, hbarred])).trans (if_pos hdecl))

theorem gives_nmwReqRelease : Gives (.nmwReqRelease init k) s (((s.dev.setCl k { s.dev.cl k with
    reqs := (s.dev.cl k).reqs.erase (s.dev.tag init) }).requestChange k 1 0 (s.dev.clRequested k)).answered 0) :=
  gives_onDevBy (exec_nmwReqRelease ..) hport ((if_neg (by simp [hnone, hall, hbarred])).trans (if_pos hdecl))

end

theorem gives_nmwReq_refused (htag : s.dev.tag init = 0xFFFD ∨ s.dev.tag init = 0xFFFF) (reason : Nat) :
    Gives (.nmwReqSet init k reason) s ((s.dev.refuse (s.dev.tag init) NMW_ACCERR_ACC_ERR 0).answered 0) ∧
      Gives (.nmwReqRelease init k) s ((s.dev.refuse (s.dev.tag init) NMW_ACCERR_ACC_ERR 0).answered 0) := by
  have hrefused : s.dev.tag init = 0xFFFD ∨ s.dev.tag init = 0xFFFF ∨ s.dev.ctxBarred (s.dev.tag init) = true :=
    htag.imp_right Or.inl
  exact ⟨gives_onDevBy (exec_nmwReqSet ..) hport (if_pos hrefused), gives_onDevBy (exec_nmwReqRelease ..) hport (if_pos hrefused)⟩

end

theorem gives_keepAwakeReceived {m : KaMsg} (hcluster : s.dev.kaCluster m = some k) (hvalid : s.dev.kaValid m = true)
    (hawake : m.awake = true) (hstate : s.dev.clState k = 1 ∨ s.dev.clState k = 2) :
    Gives (.keepAwakeReceived m) s ((s.dev.holderAdd k m.node).sleepWait k) := by
  refine gives_onDev (exec_keepAwakeReceived ..) ?_
  unfold Dev.kaReceived
  rw [hcluster]
  dsimp only
  rw [if_pos hvalid, Dev.kaHeard, if_neg (by simp [hawake]), if_neg (by rw [clCOMMIT]; omega), if_neg (by rw [clPREPARE]; omega)]
  exact if_pos hstate.symm

/-- A CAN message with another version, or whose identifier is not its node's, is counted. -/
theorem gives_keepAwakeReceived_bad {c ident : Nat} {p : List Byte} (hcluster : s.dev.kaCluster (.can c ident p) = some k)
    (hbad : (p.getD 0 0).toNat / 16 ≠ 1 ∨ ident % 64 ≠ beVal ((p.drop 2).take 2) % 64) :
    Gives (.keepAwakeReceived (.can c ident p)) s (s.dev.inc NMW_CNT_BADKA) := by
  have hinvalid : ¬ s.dev.kaValid (.can c ident p) = true := fun h => by
    obtain ⟨hver, hident⟩ := Bool.and_eq_true_iff.mp h
    exact hbad.elim (· (eq_of_beq hver)) (· (eq_of_beq hident))
  refine gives_onDev (exec_keepAwakeReceived ..) ?_
  unfold Dev.kaReceived
  rw [hcluster]
  exact if_neg hinvalid

/-- The cluster prepares to sleep. -/
def Dev.clPrepares (d : Dev) (k : Nat) : Dev :=
  (((d.setClState k clPREPARE).wri NMW_TLEFT_S k (d.rd NMW_TIMES_PREP)).wri NMW_EVT_PREP k 1).trig 0x0480 [k]

theorem exec_sleepWaitExpiry (k : Nat) (s : State) : exec (.sleepWaitExpiry k) s =
    onDev (fun d => if d.clState k = clAWAKE ∧ !d.clRequested k then d.clPrepares k else d) s := rfl

theorem gives_sleepWaitExpiry (hstate : s.dev.clState k = 2) (hfree : s.dev.clRequested k = false) :
    Gives (.sleepWaitExpiry k) s (s.dev.clPrepares k) :=
  gives_onDev (exec_sleepWaitExpiry ..) (if_pos ⟨hstate, congrArg not hfree⟩)

theorem gives_sleepWaitExpiry_requested (hreq : s.dev.clRequested k = true) : Gives (.sleepWaitExpiry k) s s.dev :=
  gives_onDev (exec_sleepWaitExpiry ..) (if_neg fun h => by simp [hreq] at h)

/-- The cluster passes its commit point, and the frames on the bus end first. -/
def Dev.clCommits (d : Dev) (k : Nat) : Dev :=
  let e := ((d.setClState k clCOMMIT).wri NMW_TLEFT_S k 0).wri NMW_EVT_COMMIT k 1
  (e.trig 0x0482 [k]).setCl k { e.cl k with step := 2 }

theorem Dev.clUnits_of_deck {d e : Dev} (h : e.deck = d.deck) (k kind : Nat) : e.clUnits k kind = d.clUnits k kind := by
  rw [clUnits, clMembers, rdeck, h, clUnits, clMembers, rdeck]

theorem Dev.clCommits_deck (d : Dev) (k : Nat) : (d.clCommits k).deck = d.deck :=
  (Dev.trig_deck ..).trans (d.setClState_deck ..)

theorem Dev.clCommits_cl (d : Dev) (k : Nat) : (d.clCommits k).cl k = { d.cl k with step := 2 } := by
  have hnmw : (((d.setClState k clCOMMIT).wri NMW_TLEFT_S k 0).wri NMW_EVT_COMMIT k 1).cl k = d.cl k := by
    rw [cl, wri_nmw, wri_nmw, setClState_nmw, ← cl]
  unfold clCommits
  dsimp only
  rw [cl_setCl, if_pos rfl, hnmw]

/-- The pending buffers of a CAN controller are abandoned. -/
def Dev.abandonPending (d : Dev) (c : Nat) : Dev :=
  d.each ((d.canCtl c).bufs.items.filter fun e => e.2.st == .pending) fun d e => d.canAbandon c e.1

/-- The members of a cluster that has passed its commit point leave their buses. -/
def Dev.membersLeave (d : Dev) (k : Nat) : Dev :=
  (d.each (d.clUnits k 1) Dev.abandonPending).each ((d.each (d.clUnits k 1) Dev.abandonPending).clUnits k 2) Dev.ttSleep

theorem exec_prepareExpiry (k : Nat) (s : State) : exec (.prepareExpiry k) s =
    onDev (fun d => if d.clState k = clPREPARE then (d.clCommits k).membersLeave k else d) s := rfl

theorem gives_prepareExpiry_alone (hstate : s.dev.clState k = 3) (hcan : s.dev.clUnits k 1 = []) (htt : s.dev.clUnits k 2 = []) :
    Gives (.prepareExpiry k) s (s.dev.clCommits k) := by
  have hcan : (s.dev.clCommits k).clUnits k 1 = [] := (Dev.clUnits_of_deck (s.dev.clCommits_deck k) ..).trans hcan
  have htt : (s.dev.clCommits k).clUnits k 2 = [] := (Dev.clUnits_of_deck (s.dev.clCommits_deck k) ..).trans htt
  refine gives_onDev (exec_prepareExpiry ..) ((if_pos hstate).trans ?_)
  rw [Dev.membersLeave, hcan]
  exact congrArg ((s.dev.clCommits k).each · Dev.ttSleep) htt

theorem gives_sleepCommitComplete (hstate : s.dev.clState k = 4) (hheld : (s.dev.cl k).held = none) (hstep : (s.dev.cl k).step < 4) :
    Gives (.sleepCommitComplete k) s
      (((s.dev.membersStandby k).setCl k { (s.dev.membersStandby k).cl k with step := 0 }).setClState k clSLEEP) := by
  have hnormal : s.dev.trxStandby k = false := by
    simp [Dev.trxStandby, hstate, clSLEEP, Nat.not_le.mpr hstep]
  refine gives_onDev (exec_sleepCommitComplete ..) ((if_pos ⟨hstate, by rw [hheld]; rfl⟩).trans ?_)
  simp [hnormal]

section
variable (hstate : s.dev.clState k = 4)
include hstate

theorem gives_sleepCommitStepEnd_held {h : Nat × Nat} (hheld : (s.dev.cl k).held = some h) (hstep : (s.dev.cl k).step ≠ 3) :
    Gives (.sleepCommitStepEnd k) s ((s.dev.setCl k { s.dev.cl k with held := none, step := 0 }).membersStart k) := by
  refine gives_onDev (exec_sleepCommitStepEnd ..) ((if_pos hstate).trans ?_)
  dsimp only
  rw [if_neg hstep, if_pos (by rw [hheld]; rfl)]

theorem gives_sleepCommitStepEnd (hheld : (s.dev.cl k).held = none) (hstep : (s.dev.cl k).step ≠ 3) :
    Gives (.sleepCommitStepEnd k) s (s.dev.setCl k { s.dev.cl k with step := min 4 ((s.dev.cl k).step + 1) }) := by
  refine gives_onDev (exec_sleepCommitStepEnd ..) ((if_pos hstate).trans ?_)
  dsimp only
  rw [if_neg hstep, if_neg (by rw [hheld]; decide)]

theorem gives_sleepCommitStepEnd_three (hheld : (s.dev.cl k).held = none) (hstep : (s.dev.cl k).step = 3) :
    Gives (.sleepCommitStepEnd k) s ((s.dev.membersStandby k).setCl k { (s.dev.membersStandby k).cl k with step := 4 }) := by
  refine gives_onDev (exec_sleepCommitStepEnd ..) ((if_pos hstate).trans ?_)
  dsimp only
  rw [if_pos hstep, if_neg (by rw [Dev.membersStandby_cl, hheld]; decide), hstep]
  rfl

end

theorem gives_wakeEvent {cause unit : Nat} (node : Nat) (hallowed : s.dev.wakeAllowed k cause unit = true) (hinput : cause ≠ 3)
    (hframe : cause ≠ 6) : Gives (.wakeEvent k cause unit node) s (s.dev.wake k cause unit) := by
  refine gives_onDev (exec_wakeEvent ..) ((if_pos hallowed).trans ((if_neg hframe).trans ?_))
  rw [if_neg hinput]

theorem gives_wakeEvent_input {unit : Nat} (node : Nat) (hinput : s.dev.bit NMW_CL_WAKEIN k unit = true) :
    Gives (.wakeEvent k 3 unit node) s ((s.dev.setBit NMW_WKEVT_WAKE 0 unit).wake k 3 unit) :=
  gives_onDev (exec_wakeEvent ..) (if_pos (c := s.dev.wakeAllowed k 3 unit = true) hinput)

theorem gives_wakeEvent_frame {unit : Nat} (node : Nat) (hallowed : s.dev.wakeAllowed k 6 unit = true) :
    Gives (.wakeEvent k 6 unit node) s (((s.dev.holderAdd k node).wake k 6 unit).sleepWait k) :=
  gives_onDev (exec_wakeEvent ..) (if_pos hallowed)

/-- In AWAKE the transceivers are in normal mode, so that nothing but an input wakes. -/
theorem gives_wakeEvent_awake {cause unit : Nat} (node : Nat) (hstate : s.dev.clState k = 2) (hinput : cause ≠ 3) :
    Gives (.wakeEvent k cause unit node) s s.dev := by
  have hnormal : s.dev.trxStandby k = false := by simp [Dev.trxStandby, hstate, clSLEEP, clCOMMIT]
  have hallowed : s.dev.wakeAllowed k cause unit = false := by
    rw [Dev.wakeAllowed, if_neg hinput, hnormal]
    simp only [Bool.false_and, ite_self]
  exact gives_onDev (exec_wakeEvent ..) (if_neg (ne_true_of_eq_false hallowed))

end Sys2Proof.Machine
end

section
/-! CERTIFICATES. Sleep clusters. -/

namespace Sys2Proof.Proofs

open Sys2Proof.Machine

/-- Settles O45. -/
theorem sleepClusterCommands : Obligations.SleepClusterCommands := by
  unfold Obligations.SleepClusterCommands
  refine ⟨?set, ?release, ?refused, ?send, ?heard, ?heardShown, ?bad, ?prepare, ?requested, ?commit, ?sleep, ?heldWake, ?nextStep,
    ?stepThree, ?wake, ?input, ?frame, ?awake⟩
  case set =>
    intro s init k reason hport hnone hall hbarred hdecl
    exact gives_nmwReqSet hport hnone hall hbarred hdecl reason
  case release =>
    intro s init k hport hnone hall hbarred hdecl
    exact gives_nmwReqRelease hport hnone hall hbarred hdecl
  case refused =>
    intro s init k reason hport htag
    exact gives_nmwReq_refused hport htag reason
  case send =>
    intro s k hstate hreq
    exact gives_onDev (exec_keepAwakeSend ..) (if_pos ⟨hstate, hreq⟩)
  case heard =>
    intro s k m hcluster hvalid hawake hstate
    exact gives_keepAwakeReceived hcluster hvalid hawake hstate
  case heardShown =>
    intro s k m hcluster hvalid hawake hstate
    refine ⟨_, gives_keepAwakeReceived hcluster hvalid hawake hstate, s.dev.holderAdd_holders k m.node, ?wait, ?state⟩
    case wait =>
      refine (Dev.rdi_wri_self ..).trans ?_
      rw [Dev.rd, Dev.holderAdd_rdi _ _ _ (by decide), ← Dev.rd]
    case state => exact (Dev.rdi_wri_apart _ (by decide) ..).trans (s.dev.holderAdd_rdi k m.node (by decide) k)
  case bad =>
    intro s k c ident p hcluster hbad
    exact ⟨_, gives_keepAwakeReceived_bad hcluster hbad, Dev.rd_inc_self .., Dev.onlyRegs_inci ..⟩
  case prepare =>
    intro s k hk hstate hfree
    refine ⟨_, gives_sleepWaitExpiry hstate hfree, ?state, ?prep, ?evt, ?left, ?nmw, ?mem⟩
    case state =>
      refine (Dev.trig_rdi_beside _ (by decide) ..).trans ?_
      simp (disch := decide) only [Dev.rdi_wri_apart]
      exact s.dev.setClState_clState k clPREPARE
    case prep => exact (Dev.trig_rdi_beside _ (by decide) ..).trans (Dev.rdi_wri_self ..)
    case evt =>
      refine (Dev.trig_rdi_beside _ (by decide) ..).trans ?_
      simp (disch := decide) only [Dev.rdi_wri_apart]
      exact s.dev.setClState_evt k clPREPARE
    case left =>
      refine (Dev.trig_rdi_beside _ (by decide) ..).trans ?_
      exact (Dev.rdi_wri_apart _ (by decide) ..).trans (Dev.rdi_wri_self ..)
    case nmw => exact (Dev.trig_nmw ..).trans (s.dev.setClState_nmw ..)
    case mem => exact (Dev.trig_mem ..).trans (s.dev.setClState_mem ..)
  case requested =>
    intro s k hreq
    exact gives_sleepWaitExpiry_requested hreq
  case commit =>
    intro s k hk hstate hcan htt
    refine ⟨_, gives_prepareExpiry_alone hstate hcan htt, ?state, ?evt, ?left, s.dev.clCommits_cl k, ?mem⟩
    case state =>
      refine (Dev.trig_rdi_beside _ (by decide) ..).trans ?_
      simp (disch := decide) only [Dev.rdi_wri_apart]
      exact s.dev.setClState_clState k clCOMMIT
    case evt => exact (Dev.trig_rdi_beside _ (by decide) ..).trans (Dev.rdi_wri_self ..)
    case left =>
      exact (Dev.trig_rdi_beside _ (by decide) ..).trans ((Dev.rdi_wri_apart _ (by decide) ..).trans (Dev.rdi_wri_self ..))
    case mem => exact (Dev.trig_mem ..).trans (s.dev.setClState_mem ..)
  case sleep =>
    intro s k hk hstate hheld hstep
    refine ⟨_, gives_sleepCommitComplete hstate hheld hstep, Dev.setClState_clState .., Dev.setClState_evt .., ?cluster, ?ignore,
      ?off⟩
    case cluster =>
      rw [Dev.cl, Dev.setClState_nmw, ← Dev.cl, Dev.cl_setCl, if_pos rfl, Dev.membersStandby_cl]
    case ignore =>
      intro c hc hone hmode
      rw [Dev.canCtl_setClState]
      exact Dev.membersStandby_ignore hone hmode
    case off =>
      intro c hc hone hmode
      obtain ⟨hstate, hoff⟩ := Dev.membersStandby_off hone hmode
      refine ⟨(Dev.canState_setClState ..).trans hstate, ?_⟩
      rw [Dev.canCtl_setClState]
      exact hoff
  case heldWake =>
    intro s k h hstate hheld hstep
    exact gives_sleepCommitStepEnd_held hstate hheld hstep
  case nextStep =>
    intro s k hstate hheld hstep
    exact ⟨_, gives_sleepCommitStepEnd hstate hheld hstep, (s.dev.cl_setCl ..).trans (if_pos rfl), rfl,
      fun j hj => (s.dev.cl_setCl ..).trans (if_neg hj)⟩
  case stepThree =>
    intro s k hstate hheld hstep
    exact gives_sleepCommitStepEnd_three hstate hheld hstep
  case wake =>
    intro s k cause unit node hallowed hinput hframe
    exact gives_wakeEvent node hallowed hinput hframe
  case input =>
    intro s k unit node hinput
    exact gives_wakeEvent_input node hinput
  case frame =>
    intro s k unit node hallowed
    exact gives_wakeEvent_frame node hallowed
  case awake =>
    intro s k cause unit node hstate hinput
    exact gives_wakeEvent_awake node hstate hinput

end Sys2Proof.Proofs
end

section
/-! SUPPORT. The start of a key operation: the form of its commands, and the block with which a start completes (R584, R585, R613). -/

namespace Sys2Proof.Machine

/-- An access to a register of the key engine, whose domain is on. -/
theorem gives_onKeys {i : Instr} {s : State} {init : Nat} {f : Dev → Dev} {d : Dev} (he : exec i s = onBlockBy init 0x40800000 f s)
    (hport : s.dev.portOpen init = true) (hdom : s.dev.domainOn 2 = true) (h : f (s.dev.answered 0) = d) : Gives i s d :=
  h ▸ gives_onBlockBy he hport hdom

/-- The commands that start an operation under a slot, each with its code. -/
def slotStarts (init n slot : Nat) (irq : Bool) : List (Nat × Instr) :=
  [(0x01, .gcmEnc init n slot irq), (0x02, .gcmDec init n slot irq), (0x03, .cmac init n slot irq), (0x04, .cmacVer init n slot irq),
    (0x05, .hmac init n slot irq), (0x06, .hmacVer init n slot irq), (0x07, .sign init n slot irq), (0x08, .verify init n slot irq),
    (0x09, .ecdh init n slot irq), (0x0A, .kdf init n slot irq), (0x0B, .hkdf init n slot irq), (0x0C, .chal init n slot irq),
    (0x10, .load init n slot irq)]

/-- The commands that start an operation without a slot, each with its code. -/
def plainStarts (init n : Nat) (irq : Bool) : List (Nat × Instr) :=
  [(0x11, .commit init n irq), (0x12, .inval init n irq), (0x18, .sha256 init n irq), (0x19, .sha384 init n irq)]

section
variable {init n slot op : Nat} {irq : Bool} {i : Instr} (s : State)

theorem exec_slotStarts (h : (op, i) ∈ slotStarts init n slot irq) :
    exec i s = onBlockBy init 0x40800000 (fun d => d.keyStart init n slot op irq) s := by
  simp only [slotStarts, List.mem_cons, Prod.mk.injEq, List.not_mem_nil, or_false] at h
  obtain ⟨rfl, rfl⟩ | ⟨rfl, rfl⟩ | ⟨rfl, rfl⟩ | ⟨rfl, rfl⟩ | ⟨rfl, rfl⟩ | ⟨rfl, rfl⟩ | ⟨rfl, rfl⟩ |
    ⟨rfl, rfl⟩ | ⟨rfl, rfl⟩ | ⟨rfl, rfl⟩ | ⟨rfl, rfl⟩ | ⟨rfl, rfl⟩ | ⟨rfl, rfl⟩ := h
  all_goals rfl

theorem exec_plainStarts (h : (op, i) ∈ plainStarts init n irq) :
    exec i s = onBlockBy init 0x40800000 (fun d => d.keyStart init n 0 op irq) s := by
  simp only [plainStarts, List.mem_cons, Prod.mk.injEq, List.not_mem_nil, or_false] at h
  obtain ⟨rfl, rfl⟩ | ⟨rfl, rfl⟩ | ⟨rfl, rfl⟩ | ⟨rfl, rfl⟩ := h
  all_goals rfl

end

/-- The block in which channel `n` holds what a start wrote, before the checks. -/
def Dev.keyWritten (d : Dev) (init n slot op : Nat) (irq : Bool) : Dev :=
  (((((((d.answered 0).wri KEY_OP_CTL_OP n op).wri KEY_OP_CTL_SLOT n slot).wri KEY_OP_CTL_IRQ n (b2n irq)).setKeyChan n
    { op := op, slot := slot, irq := irq }).wri KEY_OP_STAT_CTX n (d.tag init)).wri KEY_OP_STAT_DONE n 0).wri KEY_OP_OUTLEN_B n 0

section
variable {s : State} {init n slot op : Nat} {irq : Bool} {i : Instr}
  (he : exec i s = onBlockBy init 0x40800000 (fun d => d.keyStart init n slot op irq) s)
  (hport : s.dev.portOpen init = true) (hdom : s.dev.domainOn 2 = true)
include he hport hdom

/-- A start of an undeclared context is refused. -/
theorem gives_keyStart_undeclared (hrec : (s.dev.ctxRec (s.dev.tag init)).isNone = true) :
    Gives i s (((s.dev.answered 0).refuse (s.dev.tag init) KEY_ACCERR_ACC_ERR 0).answered 0) :=
  gives_onKeys he hport hdom (if_pos (Or.inl hrec))

variable (hrec : (s.dev.ctxRec (s.dev.tag init)).isNone = false) (hbarred : s.dev.ctxBarred (s.dev.tag init) = false)
include hrec hbarred

/-- A start on a free channel is checked: the operation begins, or ends with the code of its first failure. -/
theorem gives_keyStart (hfree : s.dev.rdi KEY_OP_STAT_STATE n = 0) : Gives i s
    ((if (s.dev.keyWritten init n slot op irq).keyCheck (s.dev.tag init) n op slot
        ((s.dev.keyWritten init n slot op irq).keyDesc n) = 0
      then (s.dev.keyWritten init n slot op irq).keyBegin n op slot ((s.dev.keyWritten init n slot op irq).keyDesc n)
      else (s.dev.keyWritten init n slot op irq).keyDone n ((s.dev.keyWritten init n slot op irq).keyCheck (s.dev.tag init) n op slot
        ((s.dev.keyWritten init n slot op irq).keyDesc n))).answered 0) := by
  have hallowed : ¬ (((s.dev.answered 0).ctxRec ((s.dev.answered 0).tag init)).isNone = true ∨
      (s.dev.answered 0).ctxBarred ((s.dev.answered 0).tag init) = true ∨ ((s.dev.answered 0).rdi KEY_OP_STAT_STATE n ≠ 0 ∧
        (s.dev.answered 0).rdi KEY_OP_STAT_CTX n ≠ (s.dev.answered 0).tag init)) := by
    rintro (h | h | h)
    · exact ne_true_of_eq_false hrec h
    · exact ne_true_of_eq_false hbarred h
    · exact h.1 hfree
  have hidle : ¬ (s.dev.answered 0).rdi KEY_OP_STAT_STATE n = 1 := hfree.trans_ne (by decide)
  exact gives_onKeys he hport hdom ((if_neg hallowed).trans (if_neg hidle))

/-- A start on a channel whose operation runs is refused with BUSY. -/
theorem gives_keyStart_busy (hirq : irq = false) (hbusy : s.dev.rdi KEY_OP_STAT_STATE n = 1)
    (howner : s.dev.rdi KEY_OP_STAT_CTX n = s.dev.tag init) :
    Gives i s ((((s.dev.answered 0).wri KEY_OP_STAT_CODE n 0x10).inc KEY_CNT_REFUSED).answered 0) := by
  have hallowed : ¬ (((s.dev.answered 0).ctxRec ((s.dev.answered 0).tag init)).isNone = true ∨
      (s.dev.answered 0).ctxBarred ((s.dev.answered 0).tag init) = true ∨ ((s.dev.answered 0).rdi KEY_OP_STAT_STATE n ≠ 0 ∧
        (s.dev.answered 0).rdi KEY_OP_STAT_CTX n ≠ (s.dev.answered 0).tag init)) := by
    rintro (h | h | h)
    · exact ne_true_of_eq_false hrec h
    · exact ne_true_of_eq_false hbarred h
    · exact h.2 howner
  subst hirq
  exact gives_onKeys he hport hdom ((if_neg hallowed).trans (if_pos hbusy))

end

end Sys2Proof.Machine
end

section
/-! CERTIFICATES. The starts of key operations. -/

namespace Sys2Proof.Proofs

open Sys2Proof.Machine

/-- Settles O47. -/
theorem keyStartCommands : Obligations.KeyStartCommands := by
  unfold Obligations.KeyStartCommands
  refine ⟨?slot, ?plain, ?undeclared, ?busy⟩
  case slot =>
    intro s init n slot op irq i d hport hmem hdom hrec hbarred hfree (hd : d = s.dev.keyWritten init n slot op irq)
    have hgives := gives_keyStart (exec_slotStarts s hmem) hport hdom hrec hbarred hfree
    rw [← hd] at hgives
    refine ⟨fun hcheck => ?_, fun code hcode hcheck => ?_⟩
    · rwa [if_pos hcheck] at hgives
    · rwa [hcheck, if_neg hcode] at hgives
  case plain =>
    intro s init n op irq i d hport hmem hdom hrec hbarred hfree (hd : d = s.dev.keyWritten init n 0 op irq)
    have hgives := gives_keyStart (exec_plainStarts s hmem) hport hdom hrec hbarred hfree
    rw [← hd] at hgives
    refine ⟨fun hcheck => ?_, fun code hcode hcheck => ?_⟩
    · rwa [if_pos hcheck] at hgives
    · rwa [hcheck, if_neg hcode] at hgives
  case undeclared =>
    intro s init n slot irq hport hdom hrec
    exact gives_keyStart_undeclared (exec_slotStarts s (op := 0x01) (slot := slot) (irq := irq) (n := n) (.head _)) hport hdom hrec
  case busy =>
    intro s init n slot hport hdom hrec hbarred hbusy howner
    have he : exec (.sign init n slot false) s = onBlockBy init 0x40800000 (fun d => d.keyStart init n slot 0x07 false) s := rfl
    refine ⟨_, gives_keyStart_busy he hport hdom hrec hbarred rfl hbusy howner, rfl, ?code, ?count, rfl, rfl, ?rest⟩
    case code => exact (Dev.rdi_inc_apart _ (by decide) n).trans (Dev.rdi_wri_self ..)
    case count =>
      refine (Dev.rd_inc_self ..).trans ?_
      rw [Dev.rd_wri_apart _ (by decide)]
      rfl
    case rest => exact ((Dev.regsBut.refl s.dev _).wri (by simp) _).wri (by simp) _

end Sys2Proof.Proofs
end

section
/-! CERTIFICATES. Watchdogs: a kick through the closed debug port (R619, R722). -/

namespace Sys2Proof.Machine

/-- The debug port is closed, and 10 stands among the watchdogs that have warned. -/
def warnedTen : State where
  dev := { pwr := { warned := [10] } }

end Sys2Proof.Machine

namespace Sys2Proof.Proofs

open Sys2Proof.Machine

/-- Refutes O58: its clause on the watchdog's kick lets any initiator `h` kick watchdog `h`, but initiator 10 is the debug port, whose
commands change nothing below FULL, so in the state `warnedTen` the warning of 10 stands. -/
theorem not_powerEvents : ¬ Obligations.PowerEvents := by
  unfold Obligations.PowerEvents
  rintro ⟨-, -, -, -, -, -, -, -, -, -, -, -, -, hkick, -⟩
  obtain ⟨d, hgives, hwarned, -⟩ := hkick warnedTen 10 (by decide)
  have hclosed : Gives (.watchdogKick 10 10 0x4B49434B) warnedTen warnedTen.dev :=
    closedDebugPort warnedTen _ 10 rfl (by decide) (by decide)
  have hstands : d.pwr = warnedTen.dev.pwr := (congrArg Dev.pwr (hgives.but_out hclosed) :)
  exact absurd (congrArg PwrState.warned (hwarned.symm.trans hstands)) (by decide)

end Sys2Proof.Proofs
end

section
/-! SUPPORT. A request of an open session as it arrives, where no command executes (R535, R537, R538). -/

namespace Sys2Proof.Machine

section
variable {d : Dev} {m : Msg} {k seq : Nat} {r : Request}

/-- A request that its session accepts is taken as the session reads it. -/
theorem Dev.request_take (hup : d.shtUp = true) (hk : d.sessionOf m.session = some k)
    (hcheck : m.check = .good ∨ m.check = .unknownCmd ∨ m.check = .badField) (hacc : (d.session k).accepts m.seq = true) :
    d.request m r = d.take k m.seq (m.reads r) := by
  have htag : m.check ≠ .badTag := by obtain h | h | h := hcheck <;> rw [h] <;> decide
  have hformed : ¬ (m.check = .badVersion ∨ m.check = .malformed) := by obtain h | h | h := hcheck <;> rw [h] <;> decide
  simp only [Dev.request, hup, hk, hacc, htag, hformed, Bool.not_true, Bool.false_eq_true, if_false, if_true]

theorem Msg.reads_good (h : m.check = .good) : m.reads r = r := by rw [Msg.reads, h]

/-- A request that is not handled on arrival executes at once where none does, and then those that wait. -/
theorem Dev.take_idle (hr : r.atOnce = false) (hidle : (d.session k).executing = none) :
    d.take k seq r = Dev.drain 9 ((d.setSession k ((d.session k).see seq)).execute k seq r false) k := by
  simp only [Dev.take, hr, hidle, Bool.false_eq_true, if_false]

theorem Dev.drain_no_waiting (n : Nat) (h : (d.session k).waiting = []) : Dev.drain n d k = d := by
  cases n with
  | zero => rfl
  | succ n => rw [Dev.drain]; cases hx : (d.session k).executing <;> simp only [h]

/-- The first request that waits executes, and then the others. -/
theorem Dev.drain_waiting {e : Nat × Request} {rest : List (Nat × Request)} (n : Nat) (hidle : (d.session k).executing = none)
    (h : (d.session k).waiting = e :: rest) :
    Dev.drain (n + 1) d k = Dev.drain n ((d.setSession k { d.session k with waiting := rest }).execute k e.1 e.2 e.2.long) k := by
  rw [Dev.drain]
  dsimp only
  split
  case h_1 seq r rest' _ hwaiting =>
    obtain ⟨rfl, rfl⟩ := List.cons.inj (h.symm.trans hwaiting)
    rfl
  case h_2 hnone => exact (hnone e.1 e.2 rest hidle h).elim

/-- A request that the session's roles do not allow is answered so. -/
theorem Dev.execute_no_role (acked : Bool) (h : r.roleIn (d.rdi SHT_SESS_ROLES k) = false) :
    d.execute k seq r acked = d.replyTo k r.code seq 0x0024 [] := by
  simp only [Dev.execute, Dev.runRequest, h, Bool.not_false, if_true]; rfl

/-- A request that the roles allow and the life-cycle state does not is answered so. -/
theorem Dev.execute_no_state (acked : Bool) (hrole : r.roleIn (d.rdi SHT_SESS_ROLES k) = true)
    (h : (d.lcMask r).testBit d.lcColumn = false) : d.execute k seq r acked = d.replyTo k r.code seq 0x0025 [] := by
  simp only [Dev.execute, Dev.runRequest, hrole, h, Bool.not_false, Bool.not_true, Bool.false_eq_true, if_false, if_true]; rfl

/-- A request that the roles and the life-cycle state allow is carried out. -/
theorem Dev.execute_allowed (acked : Bool) (hrole : r.roleIn (d.rdi SHT_SESS_ROLES k) = true)
    (h : (d.lcMask r).testBit d.lcColumn = true) :
    d.execute k seq r acked = (d.carry (d.rdi SHT_SESS_HOST k) (d.rdi SHT_SID_SESSION k) seq r).1.sessionRan k seq r acked
      (d.carry (d.rdi SHT_SESS_HOST k) (d.rdi SHT_SID_SESSION k) seq r).2 := by
  simp only [Dev.execute, Dev.runRequest, hrole, h, Bool.not_true, Bool.false_eq_true, if_false]

variable {cmd status : Nat} {payload : List Byte}

/-- A reply leaves the requests that wait in its session, which a SEQ is left for. -/
theorem Dev.replyTo_waiting (h : (d.session k).nextSeq ≤ 0xFFFFFFFF) :
    ((d.replyTo k cmd seq status payload).session k).waiting = (d.session k).waiting := by
  simp only [Dev.replyTo, Dev.sendTo, Dev.session_setSession, if_true, if_neg (Nat.not_lt.mpr h)]
  exact congrArg Session.waiting (Dev.session_setSession ..) |>.trans (by rw [if_pos rfl])

/-- A reply for which no SEQ is left ends its session. -/
theorem Dev.replyTo_exhausted (h : 0xFFFFFFFF < (d.session k).nextSeq) (hopen : d.rdi SHT_SESS_STATE k = 2) : ∃ x : Session,
    (d.replyTo k cmd seq status payload).sht = { d.sht with sess := (d.sht.sess.set k x).erase k } := by
  refine ⟨{ d.session k with
    replies := (⟨seq, (d.session k).nextSeq, cmd, status, payload⟩ :: (d.session k).replies).take 16 }, ?_⟩
  simp only [Dev.replyTo, Dev.sendTo, Dev.session_setSession, if_true, if_pos h, Dev.sessionEnd, Dev.setSession_rdi, hopen]
  exact Dev.trig_sht ..

end

/-- Session 0 stands twice in the table of sessions, which is not its canonical form: once with no SEQ left, and once with a request
that waits. -/
def sessionTwice : State where
  dev := {
    regs := ⟨[(SHT_SESS_STATE.key 0, 2)]⟩
    pwr := { state := .run }
    sht := { sess := ⟨[(0, { nextSeq := 0x100000000 }), (0, { waiting := [(5, .ping)] })]⟩ } }

theorem Gives.sht_eq {i : Instr} {s : State} {d e : Dev} (hd : Gives i s d) (he : Gives i s e) : d.sht = e.sht :=
  (congrArg Dev.sht (hd.but_out he) :)

/-- A message to session 0 whose CMD no command has. -/
def unknownToZero : Msg := ⟨0, 5, .unknownCmd⟩

/-- The block of `sessionTwice` once the unknown command has been answered, which takes the exhausted session away. -/
def sessionLeft : Dev :=
  (sessionTwice.dev.setSession 0 ((sessionTwice.dev.session 0).see 5)).replyTo 0 0 5 0x0012 []

theorem sessionLeft_session : sessionLeft.session 0 = { waiting := [(5, .ping)] } := by
  obtain ⟨x, hx⟩ := Dev.replyTo_exhausted (d := sessionTwice.dev.setSession 0 ((sessionTwice.dev.session 0).see 5)) (k := 0)
    (seq := 5) (cmd := 0) (status := 0x0012) (payload := []) (by decide) (by decide)
  rw [Dev.session, sessionLeft, hx]
  rfl

/-- A PING is answered, whatever its roles and state. -/
theorem Dev.execute_ping (d : Dev) (k seq : Nat) (acked : Bool) :
    ∃ status, d.execute k seq .ping acked = d.replyTo k 0x0010 seq status [] := by
  cases hstate : (d.lcMask .ping).testBit d.lcColumn with
  | true => exact ⟨0, Dev.execute_allowed acked rfl hstate⟩
  | false => exact ⟨0x0025, Dev.execute_no_state acked rfl hstate⟩

/-- The answer to the unknown command brings the second entry of session 0 to light, whose waiting request then executes. -/
theorem sessionTwice_drained : Ends (.ping unknownToZero) sessionTwice fun d => (d.session 0).waiting = [] := by
  refine ⟨_, gives_onDev (f := fun d => d.request unknownToZero .ping) rfl rfl, ?_⟩
  rw [Dev.request_take (k := 0) (by decide) (by decide) (.inr (.inl rfl)) (by decide), Dev.take_idle (by decide) (by decide),
    show unknownToZero.reads .ping = .unread 0x0012 from rfl, Dev.execute_allowed false rfl (by decide)]
  change ((Dev.drain 9 sessionLeft 0).session 0).waiting = []
  rw [Dev.drain_waiting 8 (by rw [sessionLeft_session]) (congrArg Session.waiting sessionLeft_session)]
  obtain ⟨status, hping⟩ :=
    (sessionLeft.setSession 0 { sessionLeft.session 0 with waiting := [] }).execute_ping 0 5 (Request.ping).long
  rw [hping]
  have hwaiting : (((sessionLeft.setSession 0 { sessionLeft.session 0 with waiting := [] }).replyTo 0 0x0010 5 status []).session
      0).waiting = [] := by
    rw [Dev.replyTo_waiting] <;> rw [Dev.session_setSession, if_pos rfl]
    rw [sessionLeft_session]
    decide
  rw [Dev.drain_no_waiting 8 hwaiting, hwaiting]

end Sys2Proof.Machine

namespace Sys2Proof.Proofs

open Sys2Proof.Machine

/-- Refutes O49: its clause on an unknown command has the reply alone change the block in every state, but a reply for which no SEQ is
left strikes the session from the table of sessions once, and in the state `sessionTwice` the table names it a second time, with a
request that then executes. -/
theorem not_shuttleArrivals : ¬ Obligations.ShuttleArrivals := by
  unfold Obligations.ShuttleArrivals
  rintro ⟨-, -, -, -, -, -, hunknown, -⟩
  have hgives : Gives (.ping unknownToZero) sessionTwice sessionLeft :=
    hunknown sessionTwice unknownToZero 0 0x0012 (by decide) (by decide) (by decide) (by decide) (by decide) (by decide) (by decide)
  obtain ⟨e, hgives', hwaiting⟩ := sessionTwice_drained
  have hsht : sessionLeft.sht = e.sht := hgives.sht_eq hgives'
  have hempty : (sessionLeft.session 0).waiting = [] := (congrArg (fun t : ShtState => (t.sess.get 0 {}).waiting) hsht).trans hwaiting
  rw [sessionLeft_session] at hempty
  exact absurd hempty (List.cons_ne_nil _ _)

end Sys2Proof.Proofs
end

section
/-! SUPPORT. Requests that roles or life cycle forbid (R528, R544, R610). -/

namespace Sys2Proof.Machine

/-- Requests of every role that a command can need, each with the command that brings it. -/
def orderedRequests (m : Msg) (a b c : Nat) (w : Value) : List (Instr × Request) :=
  [(Instr.restart m, Request.restart), (.updOpen m a b c, .updOpen a b c), (.keyCommit m a, .keyCommit a),
    (.sigForce m a w, .sigForce a w), (.chMan m a b c, .chMan a b c), (.ctxStop m a, .ctxStop a), (.recClear m, .recClear),
    (.trdIdle m, .trdIdle)]

variable {s : State} {m : Msg} {k a b c : Nat} {w : Value} {i : Instr} {r : Request}

/-- Each is a request that does not run on arrival. -/
theorem orderedRequests_spec (h : (i, r) ∈ orderedRequests m a b c w) :
    exec i s = onDev (fun d => d.request m r) s ∧ r.atOnce = false := by
  simp only [orderedRequests, List.mem_cons, Prod.mk.injEq, List.not_mem_nil, or_false] at h
  obtain ⟨rfl, rfl⟩ | ⟨rfl, rfl⟩ | ⟨rfl, rfl⟩ | ⟨rfl, rfl⟩ | ⟨rfl, rfl⟩ | ⟨rfl, rfl⟩ |
    ⟨rfl, rfl⟩ | ⟨rfl, rfl⟩ := h
  all_goals exact ⟨rfl, rfl⟩

/-- A request that only gets a reply, in a session that nothing waits in and that a SEQ is left for, changes nothing else. -/
theorem gives_answered {status : Nat} {d : Dev} (he : exec i s = onDev (fun d => d.request m r) s) (hr : r.atOnce = false)
    (hup : s.dev.shtUp = true) (hk : s.dev.sessionOf m.session = some k) (hgood : m.check = .good)
    (hacc : (s.dev.session k).accepts m.seq = true) (hidle : (s.dev.session k).executing = none)
    (hwait : (s.dev.session k).waiting = []) (hseq : (s.dev.session k).nextSeq < 0xFFFFFFFF)
    (hd : d = s.dev.setSession k ((s.dev.session k).see m.seq))
    (h : d.execute k m.seq r false = d.replyTo k r.code m.seq status []) : Gives i s (d.replyTo k r.code m.seq status []) := by
  refine gives_onDev he ?_
  have hsession : d.session k = (s.dev.session k).see m.seq := by rw [hd, Dev.session_setSession, if_pos rfl]
  have hnone : ((d.replyTo k r.code m.seq status []).session k).waiting = [] := by
    rw [Dev.replyTo_waiting (by rw [hsession]; exact hseq.le), hsession]
    exact hwait
  rw [Dev.request_take hup hk (.inl hgood) hacc, Msg.reads_good hgood, Dev.take_idle hr hidle, ← hd, h, Dev.drain_no_waiting 9 hnone]

end Sys2Proof.Machine

namespace Sys2Proof.Proofs

open Sys2Proof.Machine

/-- Settles O50: the request executes at once, its role is looked at first and then the life-cycle state, and the reply leaves nothing
to execute. -/
theorem shuttleRoles : Obligations.ShuttleRoles := by
  intro s m k r i d a b c w hmem hup hk hgood hacc hidle hwait hseq hd
  obtain ⟨he, hr⟩ := orderedRequests_spec (s := s) (i := i) (r := r) hmem
  have hroles : d.rdi SHT_SESS_ROLES k = s.dev.rdi SHT_SESS_ROLES k := by rw [hd, Dev.setSession_rdi]
  exact ⟨fun hrole => gives_answered he hr hup hk hgood hacc hidle hwait hseq hd (Dev.execute_no_role false (hroles ▸ hrole)),
    fun hrole hstate =>
      gives_answered he hr hup hk hgood hacc hidle hwait hseq hd (Dev.execute_no_state false (hroles ▸ hrole) hstate)⟩

end Sys2Proof.Proofs
end

section
/-! SUPPORT. What the orders of a Shuttle host do (R151, R192, R212, R535, R595, R598, R607, R661, R674, R679). -/

namespace Sys2Proof.Machine

variable (d : Dev)

/-! ### Contexts, signals and the idle card -/

/-- A context that is declared and not stopped is reset or stopped by the order. -/
theorem Dev.ctxOrderReq_running {c : Nat} (hrec : (d.ctxRec c).isNone = false) (hstate : d.ctxState c ≠ 4) (cause : Nat) :
    d.ctxOrderReq c cause = (d.ctxReset c cause, 0, []) := by
  rw [Dev.ctxOrderReq, if_neg (by rw [hrec]; decide), if_neg hstate]

theorem Dev.ctxOrderReq_stopped {c : Nat} (hrec : (d.ctxRec c).isNone = false) (hstate : d.ctxState c = 4) (cause : Nat) :
    d.ctxOrderReq c cause = (d, 0x0050, []) := by
  rw [Dev.ctxOrderReq, if_neg (by rw [hrec]; decide), if_pos hstate]

theorem Dev.ctxOrderReq_undeclared {c : Nat} (hrec : (d.ctxRec c).isNone = true) (cause : Nat) :
    d.ctxOrderReq c cause = (d, 0x0042, []) := if_pos hrec

theorem Dev.manReq_used {m en cmd : Nat} (hm : m ≤ 63) (hen : en ≤ 1) (hfitted : d.bankFitted (bankOf m) = true)
    (hused : d.chUsed m = true) :
    d.manReq m en cmd = (d.manWrite m en cmd, 0, beBytes [(4, (d.manWrite m en cmd).wordAt (CH_STAT_STATE.addr m) 0)]) := by
  rw [Dev.manReq, if_neg (by omega), if_neg (by rw [hfitted, hused]; decide)]

theorem Dev.sleepReq_declared {k on : Nat} (hk : k ≤ 15) (hon : on ≤ 1) (hdecl : d.bit NMW_STAT_DECL 0 k = true) :
    d.sleepReq k on = ((d.setCl k { d.cl k with hostReq := on == 1 }).requestChange k 2 0 (d.clRequested k), 0, []) := by
  rw [Dev.sleepReq, if_neg (by omega), if_neg (by rw [hdecl]; decide)]

/-- The order of the idle card sets its cause, which holds until it is released. -/
theorem Dev.trdIdleOrder_spec : d.trdIdleOrder.rd TRD_STAT_IDLE_HOST = 1 ∧
    d.trdIdleOrder.trd = { d.trd with idlePending := true, otherCause := true } ∧
    { d.trdIdleOrder with regs := d.regs, trd := d.trd } = d ∧ d.regsBut d.trdIdleOrder [(TRD_STAT_IDLE_HOST, 0)] := by
  have hother : (d.trd.otherCause || TRD_STAT_IDLE_HOST.lsb != 8) = true := Bool.or_true _
  refine ⟨Dev.rd_wr_self .., ?_, rfl, (Dev.onlyRegs_wri d TRD_STAT_IDLE_HOST 0 1).2⟩
  rw [Dev.trdIdleOrder, Dev.idleCause, hother]
  rfl

/-- The release order takes every cause away but that of the beat. -/
theorem Dev.trdRelease_spec : d.trdRelease.1.rd TRD_STAT_IDLE_DROP = 0 ∧ d.trdRelease.1.rd TRD_STAT_IDLE_CONF = 0 ∧
    d.trdRelease.1.rd TRD_STAT_IDLE_HOST = 0 ∧
    d.onlyRegs d.trdRelease.1 [(TRD_STAT_IDLE_DROP, 0), (TRD_STAT_IDLE_CONF, 0), (TRD_STAT_IDLE_HOST, 0)] := by
  rw [show d.trdRelease.1 = ((d.wr TRD_STAT_IDLE_DROP 0).wr TRD_STAT_IDLE_CONF 0).wr TRD_STAT_IDLE_HOST 0 from rfl]
  refine ⟨?_, ?_, Dev.rd_wr_self .., rfl, (((Dev.regsBut.refl d _).wri (by simp) _).wri (by simp) _).wri (by simp) _⟩
  · rw [Dev.rd_wr_apart _ (by decide), Dev.rd_wr_apart _ (by decide), Dev.rd_wr_self]; rfl
  · rw [Dev.rd_wr_apart _ (by decide), Dev.rd_wr_self]; rfl

/-! ### Keys and the life cycle -/

theorem Dev.keyCommitReq_checked {slot : Nat} (hdecl : d.slotDeclared slot = true) (h : d.hostKeyCheck 0x11 0 slot false = 0) :
    d.keyCommitReq slot = (d.keyCommit slot, 0, []) := by
  rw [Dev.keyCommitReq, if_neg (by rw [hdecl]; decide)]
  exact if_neg (not_not_intro h)

theorem Dev.keyInvalReq_checked {slot : Nat} (hdecl : d.slotDeclared slot = true) (h : d.hostKeyCheck 0x12 0 slot false = 0) :
    d.keyInvalReq slot = (d.keyInvalidate slot, 0, []) := by
  rw [Dev.keyInvalReq, if_neg (by rw [hdecl]; decide)]
  exact if_neg (not_not_intro h)

theorem Dev.carry_lcChange (h number seq dst : Nat) (auth : List Byte) :
    d.carry h number seq (.lcChange dst auth) = ranLong (d.lcChange number seq dst auth) .executing := rfl

theorem Dev.lcChange_barred {number seq dst : Nat} {auth : List Byte} (hbusy : d.flag KEY_STAT_LCBUSY = false)
    (h : d.lcAllowed dst = false) : d.lcChange number seq dst auth = (d, some (0x0025, [])) := by
  rw [Dev.lcChange, if_neg (by rw [hbusy]; decide), if_pos (by rw [h]; rfl)]

theorem Dev.lcChange_unproven {number seq dst : Nat} {auth : List Byte} (hbusy : d.flag KEY_STAT_LCBUSY = false)
    (h : d.lcAllowed dst = true) (hauth : d.authOk dst (d.nonceOf number) auth = false) :
    d.lcChange number seq dst auth = (d.trig 0x0507 [], some (0x0035, [])) := by
  rw [Dev.lcChange, if_neg (by rw [hbusy]; decide), if_neg (by rw [h]; decide), if_pos (by rw [hauth]; rfl)]

/-! ### The update controller -/

theorem Dev.carry_updOpen (h number seq ikind total xfer : Nat) :
    d.carry h number seq (.updOpen ikind total xfer) = ranOf (d.updOpen h number ikind total xfer) := rfl

/-- What the registers of the update controller show of a lock and an item. -/
theorem Dev.updShow_held {l : Nat × Nat} {i : UpdItem} (hl : d.upd.lock = some l) (hi : d.upd.item = some i) :
    d.updShow = (((((d.wr UPD_STAT_LOCKED 1).wr UPD_STAT_HOLDER l.1).wr UPD_STAT_IKIND i.ikind).wr UPD_STAT_TARGET
      ((i.man.map fun m => m.target).getD 0)).wr UPD_RECEIVED_BLOCKS i.blocks.length).wr UPD_TRYVER_IMG_VER
        (if d.updState = upRECEIVING then 0 else i.imgVer) := by
  have hstate : ((((d.wr UPD_STAT_LOCKED 1).wr UPD_STAT_HOLDER l.1).wr UPD_STAT_IKIND i.ikind).wr UPD_STAT_TARGET
      ((i.man.map fun m => m.target).getD 0)).updState = d.updState := by
    simp (disch := decide) only [Dev.updState, Dev.rd_wr_apart]
  rw [Dev.updShow, hl]
  simp only [Dev.wr_upd, hi, hstate]

/-- The block once a transfer is open (R674). -/
def Dev.updOpened (h number ikind total xfer : Nat) : Dev :=
  ((((d.setUpd { d.upd with lock := some (h, number) }).setItem { xfer := xfer, ikind := ikind, totalLen := total }).wr UPD_STAT_STATE
    upRECEIVING).wr UPD_EVT_LOCKCHG 1).updShow.trig 0x0520 [h, ikind]

/-- A transfer of a kind that exists opens where none is on probation and the lock is free. -/
theorem Dev.updOpen_free {h number ikind total xfer : Nat} (hlo : 1 ≤ ikind) (hhi : ikind ≤ 3) (hstate : d.updState ≠ 4)
    (hlock : d.upd.lock = none) :
    d.updOpen h number ikind total xfer = (d.updOpened h number ikind total xfer, 0, beBytes [(2, xfer), (2, 0)]) := by
  rw [Dev.updOpen, if_neg (by omega), if_neg (show ¬ d.updState = upPROBATION from hstate), hlock]
  rfl

/-- The lock of another host refuses a transfer. -/
theorem Dev.updOpen_held {h number ikind total xfer : Nat} {l : Nat × Nat} (hlo : 1 ≤ ikind) (hhi : ikind ≤ 3)
    (hstate : d.updState ≠ 4) (hlock : d.upd.lock = some l) (hother : l.1 ≠ h) :
    d.updOpen h number ikind total xfer = (d.trig 0x0521 [l.1, h], 0x0030, beBytes [(2, l.1), (4, l.2), (2, 60)]) := by
  rw [Dev.updOpen, if_neg (by omega), if_neg (show ¬ d.updState = upPROBATION from hstate), hlock]
  exact if_neg hother

theorem Dev.updOpened_spec (h number ikind total xfer : Nat) :
    (d.updOpened h number ikind total xfer).upd.lock = some (h, number) ∧
      (d.updOpened h number ikind total xfer).upd.item = some { xfer := xfer, ikind := ikind, totalLen := total } ∧
      (d.updOpened h number ikind total xfer).updState = 1 ∧ (d.updOpened h number ikind total xfer).rd UPD_STAT_LOCKED = 1 ∧
      (d.updOpened h number ikind total xfer).rd UPD_STAT_HOLDER = h % 2 ^ UPD_STAT_HOLDER.width ∧
      (d.updOpened h number ikind total xfer).mem = d.mem := by
  rw [Dev.updOpened, Dev.updShow_held _ (l := (h, number)) (i := { xfer := xfer, ikind := ikind, totalLen := total }) rfl rfl]
  refine ⟨by rw [Dev.trig_upd]; rfl, by rw [Dev.trig_upd]; rfl, ?_, ?_, ?_, by rw [Dev.trig_mem]; rfl⟩
  · rw [Dev.updState, Dev.trig_rd_beside _ (by decide)]
    simp (disch := decide) only [Dev.rd_wr_apart]
    exact Dev.rd_wr_self ..
  · rw [Dev.trig_rd_beside _ (by decide)]
    simp (disch := decide) only [Dev.rd_wr_apart]
    exact Dev.rd_wr_self ..
  · rw [Dev.trig_rd_beside _ (by decide)]
    simp (disch := decide) only [Dev.rd_wr_apart]
    exact Dev.rd_wr_self ..

/-- A transfer whose blocks have all come closes: its checks begin. -/
theorem Dev.updClose_whole {h number seq xfer : Nat} {i : UpdItem} (hi : d.updItemOf h xfer = some i) (hstate : d.updState = 1)
    (hclosing : d.upd.closing = none) (hwhole : i.streamBlocks ≤ i.blocks.length) :
    d.updClose h number seq xfer = (d.setUpd { d.upd with closing := some (number, seq) }, none) := by
  simp only [Dev.updClose, hi, hclosing, hstate, upRECEIVING, Option.isSome_none, ne_eq, not_true_eq_false, Bool.false_eq_true,
    or_self, if_false, Nat.not_lt.mpr hwhole]

/-- A staged full deck is armed for the moment of the order. -/
theorem Dev.updActivate_deck {h number seq xfer : Nat} {i : UpdItem} {k : Deck} (hi : d.updItemOf h xfer = some i)
    (hstate : d.updState = 2) (hdeck : i.deck = some k) : d.updActivate h number seq xfer 0 0 0 =
      ((d.setUpd { d.upd with item := some { i with when_ := 0, at_ := 0 }, armed := some (number, seq) }).wr UPD_STAT_STATE upARMED,
        none) := by
  rw [Dev.updActivate, hi]
  simp [hstate, hdeck, upSTAGED]

end Sys2Proof.Machine
end

section
/-! CERTIFICATES. The orders of a Shuttle host. -/

namespace Sys2Proof.Proofs

open Sys2Proof.Machine

/-- Settles O51: each order is what its request carries out, by the lemma about that request. -/
theorem shuttleOrders : Obligations.ShuttleOrders := by
  unfold Obligations.ShuttleOrders
  refine ⟨?restart, ?running, ?stopped, ?undeclared, ?signal, ?noSignal, ?manual, ?sleep, ?idle, ?release, ?keys, ?barred,
    ?unproven, ?opens, ?held, ?closes, ?activates, ?clears⟩
  case restart => exact fun _ _ _ _ => rfl
  case running =>
    exact fun d h n q c hrec hstate =>
      ⟨congrArg ranOf (d.ctxOrderReq_running hrec hstate 2), congrArg ranOf (d.ctxOrderReq_running hrec hstate 6)⟩
  case stopped =>
    exact fun d h n q c hrec hstate =>
      ⟨congrArg ranOf (d.ctxOrderReq_stopped hrec hstate 2), congrArg ranOf (d.ctxOrderReq_stopped hrec hstate 6)⟩
  case undeclared =>
    intro d h n q c hrec r hr
    simp only [List.mem_cons, List.not_mem_nil, or_false] at hr
    obtain rfl | rfl | rfl | rfl := hr
    · exact congrArg ranOf (d.ctxOrderReq_undeclared hrec 2)
    · exact congrArg ranOf (d.ctxOrderReq_undeclared hrec 6)
    · exact congrArg ranOf (if_pos hrec)
    · exact congrArg (fun p : Reply => ranOf (d, p)) (if_pos hrec)
  case signal =>
    intro d h n q x v r hr
    constructor
    · exact congrArg ranOf (show d.forceReq x v = (d.sigForce r v, 0, []) by rw [Dev.forceReq, hr])
    · exact congrArg ranOf (show d.releaseReq x = (d.sigRelease x, 0, []) by rw [Dev.releaseReq, hr])
  case noSignal =>
    intro d h n q x v hr
    constructor
    · exact congrArg ranOf (show d.forceReq x v = (d, 0x0042, []) by rw [Dev.forceReq, hr])
    · exact congrArg ranOf (show d.releaseReq x = (d, 0x0042, []) by rw [Dev.releaseReq, hr])
  case manual => exact fun d h n q m en cmd hm hen hfitted hused => congrArg ranOf (d.manReq_used hm hen hfitted hused)
  case sleep =>
    exact fun d h n q k hk hdecl => ⟨congrArg ranOf (d.sleepReq_declared hk (by decide) hdecl),
      congrArg ranOf (d.sleepReq_declared hk (by decide) hdecl)⟩
  case idle => exact fun d h n q => ⟨_, rfl, d.trdIdleOrder_spec⟩
  case release => exact fun d h n q => ⟨_, _, rfl, d.trdRelease_spec⟩
  case keys =>
    exact fun d h n q slot hdecl => ⟨fun hcheck => congrArg ranOf (d.keyCommitReq_checked hdecl hcheck),
      fun hcheck => congrArg ranOf (d.keyInvalReq_checked hdecl hcheck)⟩
  case barred =>
    intro d h n q dst l hbusy hbarred
    rw [Dev.carry_lcChange, d.lcChange_barred hbusy hbarred, ranLong]
  case unproven =>
    intro d h n q dst l hbusy hallowed hauth
    rw [Dev.carry_lcChange, d.lcChange_unproven hbusy hallowed hauth, ranLong]
  case opens =>
    intro d h n q kind total x hlo hhi hstate hlock
    refine ⟨d.updOpened h n kind total x, ?_, d.updOpened_spec h n kind total x⟩
    rw [Dev.carry_updOpen, d.updOpen_free hlo hhi hstate hlock, ranOf]
  case held =>
    intro d h n q kind total x l hlo hhi hstate hlock hother
    rw [Dev.carry_updOpen, d.updOpen_held hlo hhi hstate hlock hother, ranOf]
  case closes =>
    exact fun d h n q x i hi hstate hclosing hwhole =>
      congrArg (ranLong · .executing) (d.updClose_whole hi hstate hclosing hwhole)
  case activates =>
    intro d h n q x i k hi hstate hdeck
    exact ⟨_, congrArg (ranLong · .armed) (d.updActivate_deck hi hstate hdeck), Dev.rd_wr_self .., rfl, rfl,
      (Dev.regsBut.refl d _).wri (by simp) _⟩
  case clears =>
    exact fun d h n q => ⟨_, rfl, Dev.rd_wr_self .., rfl, rfl, (Dev.regsBut.refl d _).wri (by simp) _⟩

end Sys2Proof.Proofs
end

section
/-! SUPPORT. Handshakes, timeouts and notices of Shuttle (R522, R529 to R534, R542). -/

namespace Sys2Proof.Machine

theorem exec_hello (check : MsgCheck) (host number nonce epub : Nat) (s : State) :
    exec (.hello check host number nonce epub) s = execHello check host number nonce epub s := rfl

theorem exec_proof (m : Msg) (resp : List Byte) (s : State) : exec (.proof m resp) s = execProof m resp s := rfl

theorem exec_lockoutEnd (s : State) : exec .lockoutEnd s = execLockoutEnd s := rfl

theorem exec_halfOpenTimeout (number : Nat) (s : State) : exec (.halfOpenTimeout number) s = execHalfOpenTimeout number s := rfl

theorem exec_sessionIdleTimeout (number : Nat) (s : State) :
    exec (.sessionIdleTimeout number) s = execSessionIdleTimeout number s := rfl

theorem exec_noticeAck (m : Msg) (notice : Nat) (s : State) : exec (.noticeAck m notice) s = execNoticeAck m notice s := rfl

theorem exec_noticeResend (number notice : Nat) (s : State) :
    exec (.noticeResend number notice) s = execNoticeResend number notice s := rfl

theorem exec_neighborSolicitation (own : Bool) (src : Nat) (s : State) :
    exec (.neighborSolicitation own src) s = execNeighborSolicitation own src s := rfl

theorem exec_icmpv6Echo (own : Bool) (src ident seq : Nat) (data : List Nat) (s : State) :
    exec (.icmpv6Echo own src ident seq data) s = execIcmpv6Echo own src ident seq data s := rfl

theorem exec_reassemblyTimeout (src ident : Nat) (s : State) :
    exec (.reassemblyTimeout src ident) s = execReassemblyTimeout src ident s := rfl

theorem exec_updCloseComplete (x : CloseIn) (s : State) : exec (.updCloseComplete x) s = execUpdCloseComplete x s := rfl

theorem exec_lcTransitionComplete (s : State) : exec .lcTransitionComplete s = execLcTransitionComplete s := rfl

theorem exec_ringEraseComplete (s : State) : exec .ringEraseComplete s = execRingEraseComplete s := rfl

variable {s : State}

/-! ### The handshake -/

/-- The block once the module has sent the challenge of a half-open session that register slot 0 shows (R529). -/
def Dev.halfOpened (d : Dev) (x : HalfOpen) : Dev :=
  (((d.fresh.fresh.setHalfOpen [x]).wri SHT_SESS_STATE 0 1).wri SHT_SESS_HOST 0 x.host).wri SHT_SID_SESSION 0 x.number

theorem Dev.halfOpened_rdi_apart (d : Dev) (x : HalfOpen) {g : Field}
    (h : (g.apart SHT_STAT_HALFOPEN && g.apart SHT_SESS_STATE && g.apart SHT_SESS_HOST && g.apart SHT_SID_SESSION) = true) (j : Nat) :
    (d.halfOpened x).rdi g j = d.rdi g j := by
  simp only [Bool.and_eq_true] at h
  obtain ⟨⟨⟨hhalf, hstate⟩, hhost⟩, hsid⟩ := h
  rw [Dev.halfOpened, Dev.rdi_wri_apart _ hsid, Dev.rdi_wri_apart _ hhost, Dev.rdi_wri_apart _ hstate, Dev.setHalfOpen,
    Dev.rdi_wr_apart _ hhalf]
  rfl

/-- The half-open session bears neither on the module's identity nor on a host's secret. -/
theorem Dev.halfOpened_moduleId (d : Dev) (x : HalfOpen) : (d.halfOpened x).moduleId = d.moduleId := by
  simp only [Dev.moduleId, d.halfOpened_rdi_apart x (g := SHT_MODID_BYTES) (by decide)]

theorem Dev.halfOpened_hostSecret (d : Dev) (x : HalfOpen) (h : Nat) : (d.halfOpened x).hostSecret h = d.hostSecret h := by
  have hlc : (d.halfOpened x).lifeState = d.lifeState := d.halfOpened_rdi_apart x (g := KEY_LC_STATE) (by decide) 0
  have hkeyless : (d.halfOpened x).keyless = d.keyless :=
    congrArg (· == 1) (d.halfOpened_rdi_apart x (g := KEY_STAT_KEYLESS) (by decide) 0)
  have hkey (k : Nat) : (d.halfOpened x).hostKey k = d.hostKey k :=
    congrArg (· == 1) (d.halfOpened_rdi_apart x (g := KEY_SLOTSTAT_STATE) (by decide) (496 + k))
  have hslot (k : Nat) : (d.halfOpened x).keySlot k = d.keySlot k := rfl
  simp only [Dev.hostSecret, hlc, hkeyless, hkey, hslot]

theorem Dev.halfOpened_respM (d : Dev) (x y : HalfOpen) : (d.halfOpened x).respM y = d.respM y := by
  rw [Dev.respM, d.halfOpened_hostSecret, d.halfOpened_moduleId, Dev.respM]

theorem Dev.halfOpened_regsBut (d : Dev) (x : HalfOpen) : d.regsBut (d.halfOpened x)
    [(SHT_STAT_HALFOPEN, 0), (SHT_SESS_STATE, 0), (SHT_SESS_HOST, 0), (SHT_SID_SESSION, 0)] :=
  ((((Dev.regsBut.refl d _).wri (by simp) _).wri (by simp) _).wri (by simp) _).wri (by simp) _

theorem Dev.halfOpened_shows (d : Dev) (x : HalfOpen) : (d.halfOpened x).rdi SHT_SESS_STATE 0 = 1 ∧
    (d.halfOpened x).rdi SHT_SESS_HOST 0 = x.host % 2 ^ SHT_SESS_HOST.width ∧
    (d.halfOpened x).rdi SHT_SID_SESSION 0 = x.number % 2 ^ SHT_SID_SESSION.width ∧ (d.halfOpened x).rd SHT_STAT_HALFOPEN = 1 := by
  rw [Dev.halfOpened]
  refine ⟨?_, ?_, Dev.rdi_wri_self .., ?_⟩
  · rw [Dev.rdi_wri_apart _ (by decide), Dev.rdi_wri_apart _ (by decide), Dev.rdi_wri_self]; rfl
  · rw [Dev.rdi_wri_apart _ (by decide), Dev.rdi_wri_self]
  · simp (disch := decide) only [Dev.rd_wri_apart]
    exact Dev.rd_wr_self ..

/-- A HELLO that no rule turns away, on a module with no session under way and register slot 0 free, is answered with a challenge. -/
theorem gives_hello {host number nonce epub : Nat} {x : HalfOpen} (hup : s.dev.shtUp = true) (hlocked : s.dev.sht.locked = false)
    (hopen : s.dev.rd SHT_STAT_OPEN < 4) (hhalf : s.dev.sht.half = []) (hbusy : s.dev.flag KEY_STAT_LCBUSY = false)
    (hroles : (s.dev.hostRoles host).isSome = true) (hslot : s.dev.freeSlot = some 0)
    (hx : x = ⟨s.dev.sessionNumber number, host, some 0, nonce, s.dev.freeVal 128, epub, s.dev.fresh.freeVal 256⟩) :
    Gives (.hello .good host number nonce epub) s ((s.dev.halfOpened x).send (.clear { kind := 0, cmd := 2, session := x.number }
      (s.dev.moduleId ++ beOf 16 x.nonceM ++ x.epubM ++ s.dev.respM x))) := by
  have hroom : ¬ (4 ≤ s.dev.rd SHT_STAT_OPEN ∨ 4 ≤ ([] : List HalfOpen).length) := by rw [List.length_nil]; omega
  have hallowed : ¬ (s.dev.flag KEY_STAT_LCBUSY = true ∨ (s.dev.hostRoles host).isNone = true) := by
    rw [hbusy, ← Option.not_isSome, hroles]; decide
  rw [← s.dev.halfOpened_moduleId x, ← s.dev.halfOpened_respM x x]
  refine gives_onDev (exec_hello ..) ?_
  simp only [hup, hlocked, hslot, hhalf, Bool.not_true, Bool.false_eq_true, reduceCtorEq, ne_eq, not_true_eq_false, if_false,
    if_neg hroom, if_neg hallowed, hx]
  rfl

/-- HELLO is answered with an error while it is locked out. -/
theorem gives_hello_locked {host number nonce epub : Nat} (hup : s.dev.shtUp = true) (hlocked : s.dev.sht.locked = true) :
    Gives (.hello .good host number nonce epub) s
      (s.dev.send (.clear { kind := 2, cmd := 0, session := 0, status := 0x0023 } [])) := by
  refine gives_onDev (exec_hello ..) ?_
  simp only [hup, hlocked, Bool.not_true, Bool.false_eq_true, reduceCtorEq, ne_eq, not_true_eq_false, if_false, if_true]
  rfl

/-- A PROOF of a half-open session opens it when it carries the response that was asked for. -/
theorem gives_proof {m : Msg} {x : HalfOpen} {resp : List Byte} (hup : s.dev.shtUp = true)
    (hx : (s.dev.sht.half.find? fun x => x.number == m.session) = some x) (hgood : m.check = .good) :
    Gives (.proof m resp) s (if resp = s.dev.respH x then s.dev.establish x else s.dev.proofFail x) := by
  refine gives_onDev (exec_proof ..) ?_
  simp only [hup, hx, hgood, Bool.not_true, Bool.false_eq_true, if_false, ne_eq, not_true_eq_false]

/-- A counter that no register shows counts what it is set to. -/
theorem Dev.fwCount_fwSet_self {d : Dev} {c : CounterId} {count : Nat} {reached : Bool} (h : c.home = none) :
    (d.fwSet c count reached).fwCount c = count := by
  simp only [Dev.fwSet, Dev.fwCount, h, Map.get_set, if_true]

/-- The block once the lockout of HELLO has ended. -/
def Dev.lockoutEnded (d : Dev) : Dev :=
  (({ d with sht := { d.sht with locked := false } }).wr SHT_STAT_LOCKOUT 0).fwClear .handshake

theorem Dev.lockoutEnded_spec (d : Dev) : d.lockoutEnded.sht = { d.sht with locked := false } ∧
    d.lockoutEnded.rd SHT_STAT_LOCKOUT = 0 ∧ d.lockoutEnded.fwCount .handshake = 0 ∧
    { d.lockoutEnded with regs := d.regs, sht := d.sht, fw := d.fw } = d ∧ d.regsBut d.lockoutEnded [(SHT_STAT_LOCKOUT, 0)] := by
  refine ⟨rfl, Dev.rd_wr_self .., ?_, rfl, (Dev.regsBut.refl d _).wri (by simp) _⟩
  exact Dev.fwCount_fwSet_self (c := .handshake) rfl

/-- A half-open session that no register slot shows lapses. -/
theorem gives_halfOpenTimeout {number : Nat} {x : HalfOpen} (hx : (s.dev.sht.half.find? fun x => x.number == number) = some x)
    (hslot : x.slot = none) : Gives (.halfOpenTimeout number) s
      (s.dev.setHalfOpen (s.dev.sht.half.filter fun y => y.number != x.number)) := by
  refine gives_onDev (exec_halfOpenTimeout ..) ?_
  simp only [hx, Dev.halfDrop, hslot]

/-! ### Open sessions -/

/-- The session that is found by a number has it. -/
theorem Dev.sessionOf_number {d : Dev} {number k : Nat} (h : d.sessionOf number = some k) : d.rdi SHT_SID_SESSION k = number :=
  eq_of_beq (Bool.and_eq_true_iff.mp
    (List.find?_some (p := fun s => d.rdi SHT_SESS_STATE s == 2 && d.rdi SHT_SID_SESSION s == number) h)).2

variable {number notice k : Nat} {n : Unacked}

/-- A notice that waits for its acknowledgement is sent again. -/
theorem gives_noticeResend (hk : s.dev.sessionOf number = some k)
    (hn : ((s.dev.session k).unacked.find? fun n => n.seq == notice) = some n) (hagain : n.resends < 8) :
    Gives (.noticeResend number notice) s ((s.dev.setSession k { s.dev.session k with
      unacked := (s.dev.session k).unacked.map fun e =>
        if e.seq = notice then { e with resends := e.resends + 1 } else e }).sendSeq k 3 n.code n.seq 0 0 n.payload) := by
  refine gives_onDev (exec_noticeResend ..) ?_
  simp only [hk, hn, if_pos hagain]

/-- After the eighth resend it is lost. -/
theorem gives_noticeResend_last (hk : s.dev.sessionOf number = some k)
    (hn : ((s.dev.session k).unacked.find? fun n => n.seq == notice) = some n) (hlast : 8 ≤ n.resends) :
    Gives (.noticeResend number notice) s ((s.dev.setSession k { s.dev.session k with
      unacked := (s.dev.session k).unacked.filter fun e => e.seq != notice }).noteLost (s.dev.rdi SHT_SESS_HOST k)) := by
  refine gives_onDev (exec_noticeResend ..) ?_
  simp only [hk, hn, if_neg (Nat.not_lt.mpr hlast)]

/-- A notice that its host acknowledges is not sent again. -/
theorem gives_noticeAck {m : Msg} (hup : s.dev.shtUp = true) (hk : s.dev.sessionOf m.session = some k) (hgood : m.check = .good) :
    Gives (.noticeAck m notice) s (s.dev.setSession k { s.dev.session k with
      unacked := (s.dev.session k).unacked.filter fun n => n.seq != notice }) := by
  refine gives_onDev (exec_noticeAck ..) ?_
  simp only [hup, hk, hgood, Bool.not_true, Bool.false_eq_true, if_false, ne_eq, not_true_eq_false, reduceCtorEq]

end Sys2Proof.Machine
end

section
/-! CERTIFICATES. The sessions of Shuttle. -/

namespace Sys2Proof.Proofs

open Sys2Proof.Machine

/-- Settles O52: each command by the lemma that gives its block. -/
theorem shuttleSessions : Obligations.ShuttleSessions := by
  unfold Obligations.ShuttleSessions
  refine ⟨?hello, ?locked, ?proof, ?lockoutEnd, ?halfOpen, ?idle, ?ack, ?resend, ?lost, ?neighbor, ?echo, ?reassembly, ?close,
    ?lifeCycle, ?ring⟩
  case hello =>
    intro s host number nonce epub x hup hlocked hopen hhalf hbusy hroles hslot hx
    obtain ⟨hstate, hhost, hsid, hhalfopen⟩ := s.dev.halfOpened_shows x
    refine ⟨_, gives_hello hup hlocked hopen hhalf hbusy hroles hslot hx, hstate, ?_, hsid, hhalfopen, rfl, rfl, rfl,
      s.dev.halfOpened_regsBut x⟩
    rw [show host = x.host by rw [hx]]
    exact hhost
  case locked => exact fun s host number nonce epub hup hlocked => gives_hello_locked hup hlocked
  case proof => exact fun s m x resp hup hx hgood => gives_proof hup hx hgood
  case lockoutEnd =>
    exact fun s hlocked => ⟨s.dev.lockoutEnded, gives_onDev (exec_lockoutEnd s) (if_pos hlocked), s.dev.lockoutEnded_spec⟩
  case halfOpen =>
    exact fun s number x hx hslot => ⟨_, gives_halfOpenTimeout hx hslot, rfl, Dev.rd_wr_self .., rfl,
      (Dev.regsBut.refl s.dev _).wri (by simp) _⟩
  case idle => exact fun s number k hk => gives_onDev (exec_sessionIdleTimeout ..) (by simp only [hk])
  case ack => exact fun s m notice k hup hk hgood => gives_noticeAck hup hk hgood
  case resend =>
    intro s number notice k n hk hn hagain
    refine ⟨_, gives_noticeResend hk hn hagain, ?_, ?_, rfl, rfl⟩
    · rw [Dev.sendSeq, Dev.session_setSession, if_pos rfl, Dev.setSession_rdi, Dev.sessionOf_number hk]
      rfl
    · exact (Dev.session_setSession ..).trans (if_pos rfl)
  case lost => exact fun s number notice k n hk hn hlast => gives_noticeResend_last hk hn hlast
  case neighbor =>
    exact fun s src hup => ⟨gives_onDev (exec_neighborSolicitation ..) (if_pos ⟨hup, rfl⟩),
      gives_onDev (exec_neighborSolicitation ..) (if_neg fun h => Bool.false_ne_true h.2)⟩
  case echo => exact fun s src ident seq data hup => gives_onDev (exec_icmpv6Echo ..) (if_pos ⟨hup, rfl⟩)
  case reassembly => exact fun s src ident => gives_onDev (exec_reassemblyTimeout ..) rfl
  case close =>
    exact fun s c i x p hc hi hp => gives_onDev (exec_updCloseComplete ..) (by simp only [hc, hi, hp])
  case lifeCycle =>
    exact fun s dst number seq d hdst hd => gives_onDev (exec_lcTransitionComplete ..) (by simp only [hdst, hd])
  case ring => exact fun s p hclearing hp => gives_onDev (exec_ringEraseComplete ..) (by simp only [hclearing, if_true, hp])

end Sys2Proof.Proofs
end

section
/-! SUPPORT. An instruction scanned into the test access port (R616 to R618, R626, R636). -/

namespace Sys2Proof.Machine

/-- The block as an instruction that is allowed finds it, which is selected and marks the port attached (R616, R636). -/
def Dev.scanned (d : Dev) (ir : Nat) : Dev := { d.tck with dbg := { d.dbg with ir := ir, tck := d.now } }

section
variable {d : Dev} {ir : Nat} {f : Dev → Dev}

theorem Dev.scanned_rdi_apart {g : Field} (h : g.apart DBG_STAT_ATTACHED = true) (j : Nat) :
    (d.scanned ir).rdi g j = d.rdi g j :=
  Dev.rdi_wr_apart (d := { d with dbg := { d.dbg with tck := d.now } }) h j 1

theorem Dev.scanned_rd_apart {g : Field} (h : g.apart DBG_STAT_ATTACHED = true) : (d.scanned ir).rd g = d.rd g :=
  Dev.scanned_rdi_apart h 0

theorem Dev.scanned_attached : (d.scanned ir).rd DBG_STAT_ATTACHED = 1 := Dev.rd_wr_self ..

theorem Dev.scanned_regsBut : d.regsBut (d.scanned ir) [(DBG_STAT_ATTACHED, 0)] := (Dev.regsBut.refl d _).wri (by simp) _

theorem Dev.tck_tapAllows : d.tck.tapAllows ir = d.tapAllows ir := by
  have hlevel : d.tck.rd DBG_STAT_LEVEL = d.rd DBG_STAT_LEVEL :=
    Dev.rd_wr_apart (d := { d with dbg := { d.dbg with tck := d.now } }) (by decide) 1
  have hpwr : d.tck.pwr = d.pwr := rfl
  simp only [Dev.tapAllows, Dev.tapRun, hlevel, hpwr]

theorem Dev.tck_extestEnd (h : d.dbg.extest = false) : d.tck.extestEnd = d.tck :=
  if_neg (by rw [show d.tck.dbg.extest = false from h]; decide)

/-- An instruction that is allowed has its data register shifted out. -/
theorem Dev.tapScan_allowed (hon : d.pwr.state ≠ .off) (hextest : d.dbg.extest = false) (hallows : d.tapAllows ir = true) :
    d.tapScan ir f = f (d.scanned ir) := by
  have hallows' : d.tck.tapAllows ir = true := Dev.tck_tapAllows.trans hallows
  simp only [Dev.tapScan, if_neg hon, Dev.tck_extestEnd hextest, ite_self, hallows', if_true]
  rfl

/-- An instruction that is not allowed selects BYPASS. -/
theorem Dev.tapScan_barred (hon : d.pwr.state ≠ .off) (hextest : d.dbg.extest = false) (hbarred : d.tapAllows ir = false) :
    d.tapScan ir f = (d.scanned 0x1F).send (.tap 0x1F []) := by
  have hbarred' : d.tck.tapAllows ir = false := Dev.tck_tapAllows.trans hbarred
  simp only [Dev.tapScan, if_neg hon, Dev.tck_extestEnd hextest, ite_self, hbarred', Bool.false_eq_true, if_false]
  rfl

/-- A module that is off has no port. -/
theorem Dev.tapScan_off (hoff : d.pwr.state = .off) : d.tapScan ir f = d := if_pos hoff

/-- In RUN and DOZE the challenge and its response are allowed. -/
theorem Dev.tapAllows_unlock (hrun : d.pwr.state = .run ∨ d.pwr.state = .doze) :
    d.tapAllows 0x14 = true ∧ d.tapAllows 0x15 = true := by
  have htap : d.tapRun = true := by obtain h | h := hrun <;> rw [Dev.tapRun, h] <;> decide
  exact ⟨htap, htap⟩

theorem awake_on {p : PowerState} (h : p = .run ∨ p = .doze) : p ≠ .off := by obtain rfl | rfl := h <;> decide

end

/-! ### The instructions -/

theorem exec_idcode (s : State) : exec .idcode s = execIdcode s := rfl
theorem exec_samplePreload (lands : List Nat) (s : State) : exec (.samplePreload lands) s = execSamplePreload lands s := rfl
theorem exec_extest (lands : List Nat) (s : State) : exec (.extest lands) s = execExtest lands s := rfl
theorem exec_dtmcs (s : State) : exec .dtmcs s = execDtmcs s := rfl
theorem exec_dbgchal (level nonce : Nat) (s : State) : exec (.dbgchal level nonce) s = execDbgchal level nonce s := rfl
theorem exec_dbgresp (resp : List Byte) (s : State) : exec (.dbgresp resp) s = execDbgresp resp s := rfl
theorem exec_dbgstat (s : State) : exec .dbgstat s = execDbgstat s := rfl
theorem exec_wakereq (b : Bool) (s : State) : exec (.wakereq b) s = execWakereq b s := rfl
theorem exec_bypass (s : State) : exec .bypass s = execBypass s := rfl
theorem exec_ntrst (s : State) : exec .ntrst s = execNtrst s := rfl

/-- The instructions that only shift out a data register, each with its code and what it shifts out. -/
def plainScans (d : Dev) (lands : List Nat) : List (Instr × Nat × List Nat) :=
  [(Instr.idcode, 0x01, [0x10000000 + d.rd SYSCTL_PARTID_PART * 4096 + 0xCB7]), (.samplePreload lands, 0x02, lands),
    (.dtmcs, 0x10, []), (.bypass, 0x1F, []), (.wakereq false, 0x17, [])]

variable {s : State}

theorem gives_plainScan {lands data : List Nat} {i : Instr} {ir : Nat} (hi : (i, ir, data) ∈ plainScans s.dev lands)
    (hon : s.dev.pwr.state ≠ .off) (hextest : s.dev.dbg.extest = false) (hallows : s.dev.tapAllows ir = true) :
    Gives i s ((s.dev.scanned ir).send (.tap ir data)) := by
  simp only [plainScans, List.mem_cons, Prod.mk.injEq, List.not_mem_nil, or_false] at hi
  obtain ⟨rfl, rfl, rfl⟩ | ⟨rfl, rfl, rfl⟩ | ⟨rfl, rfl, rfl⟩ | ⟨rfl, rfl, rfl⟩ | ⟨rfl, rfl, rfl⟩ := hi
  · refine gives_onDev (exec_idcode s) ((Dev.tapScan_allowed hon hextest hallows).trans ?_)
    rw [Dev.idcode, Dev.scanned_rd_apart (by decide)]
  · exact gives_onDev (exec_samplePreload _ s) (Dev.tapScan_allowed hon hextest hallows)
  · exact gives_onDev (exec_dtmcs s) (Dev.tapScan_allowed hon hextest hallows)
  · exact gives_onDev (exec_bypass s) (Dev.tapScan_allowed hon hextest hallows)
  · exact gives_onDev (exec_wakereq false s)
      ((Dev.tapScan_allowed hon hextest hallows).trans (if_neg fun h => Bool.false_ne_true h.1))

/-- Steps that each leave the block as it is leave it so together. -/
theorem Dev.each_unchanged {α : Type} {d : Dev} {l : List α} {f : Dev → α → Dev} (h : ∀ x ∈ l, f d x = d) :
    d.each l f = d := by
  induction l with
  | nil => rfl
  | cons x xs ih =>
    rw [Dev.each, List.foldl_cons, h x (List.mem_cons_self ..)]
    exact ih fun y hy => h y (List.mem_cons_of_mem x hy)

/-- EXTEST stops the Treadle; with every keeper off nothing takes over (R618). -/
theorem gives_extest {lands : List Nat} (hrun : s.dev.pwr.state = .run ∨ s.dev.pwr.state = .doze)
    (hlevel : s.dev.rd DBG_STAT_LEVEL = 2) (hextest : s.dev.dbg.extest = false)
    (hoff : ∀ b, b < 4 → (s.dev.bk b).keeperOn = false) : Gives (.extest lands) s
      ((({ s.dev.scanned 0x03 with dbg := { (s.dev.scanned 0x03).dbg with extest := true } }).wr TRD_STAT_STATE 0).send
        (.tap 0x03 lands)) := by
  have hallows : s.dev.tapAllows 0x03 = true := by
    obtain h | h := hrun <;> simp only [Dev.tapAllows, Dev.tapRun, hlevel, h] <;> decide
  refine gives_onDev (exec_extest lands s) ((Dev.tapScan_allowed (awake_on hrun) hextest hallows).trans ?_)
  rw [if_neg (by rw [show (s.dev.scanned 0x03).dbg.extest = false from hextest]; decide)]
  refine congrArg (Dev.send · _) (Dev.each_unchanged fun b hb => if_neg ?_)
  rw [Bool.not_eq_true]
  exact hoff b (List.mem_range.mp hb)

/-- At APP it is not allowed. -/
theorem gives_extest_barred {lands : List Nat} (hon : s.dev.pwr.state ≠ .off) (hlevel : s.dev.rd DBG_STAT_LEVEL = 1)
    (hextest : s.dev.dbg.extest = false) : Gives (.extest lands) s ((s.dev.scanned 0x1F).send (.tap 0x1F [])) :=
  gives_onDev (exec_extest lands s) (Dev.tapScan_barred hon hextest (by simp only [Dev.tapAllows, hlevel]; rfl))

/-- A wake request in STANDBY wakes the module, but in SCRAPPED (R630). -/
theorem gives_wakereq (hstandby : s.dev.pwr.state = .standby) (hextest : s.dev.dbg.extest = false) (hlife : s.dev.lifeState ≠ 5) :
    Gives (.wakereq true) s (((s.dev.scanned 0x17).send (.tap 0x17 [])).wakeBegin 6 0 0 0xFF) := by
  have hallows : s.dev.tapAllows 0x17 = true := by simp only [Dev.tapAllows, hstandby]; rfl
  have hlife' : ((s.dev.scanned 0x17).send (.tap 0x17 [])).lifeState ≠ lsSCRAPPED :=
    (Dev.scanned_rd_apart (ir := 0x17) (g := KEY_LC_STATE) (by decide)).trans_ne hlife
  refine gives_onDev (exec_wakereq true s) ((Dev.tapScan_allowed (by rw [hstandby]; decide) hextest hallows).trans ?_)
  rw [if_pos ⟨rfl, hlife'⟩, Dev.moduleWake, show ((s.dev.scanned 0x17).send (.tap 0x17 [])).pwr.state = .standby from hstandby]

/-- A halt request that meets a life-cycle transition is counted before the scan (R632). -/
def Dev.dmiCounted (d : Dev) : DmiOp → Dev
  | .halt _ => if d.flag KEY_STAT_LCBUSY ∧ d.pwr.state ≠ .off then d.inc DBG_CNT_REFUSED else d
  | _ => d

/-- The scan of an operation of the debug module. -/
def Dev.dmiScan (d : Dev) (o : DmiOp) : Dev :=
  d.tapScan 0x11 fun d => (if d.flag KEY_STAT_LCBUSY then d else d.dmi o).send (.tap 0x11 [])

theorem exec_dmi (o : DmiOp) (s : State) : exec (.dmi o) s = onDev (fun d => (d.dmiCounted o).dmiScan o) s := by
  cases o <;> rfl

theorem Dev.dmiCounted_of {d : Dev} {o : DmiOp} (h : d.flag KEY_STAT_LCBUSY = false ∨ d.pwr.state = .off) : d.dmiCounted o = d := by
  cases o with
  | halt n =>
    refine if_neg fun hcounts => ?_
    obtain hidle | hoff := h
    · exact Bool.false_ne_true (hidle.symm.trans hcounts.1)
    · exact hcounts.2 hoff
  | _ => rfl

/-- An operation of the debug module is made while no life-cycle transition is in progress (R619, R632). -/
theorem gives_dmi {o : DmiOp} (hon : s.dev.pwr.state ≠ .off) (hextest : s.dev.dbg.extest = false)
    (hallows : s.dev.tapAllows 0x11 = true) (hbusy : s.dev.flag KEY_STAT_LCBUSY = false) :
    Gives (.dmi o) s (((s.dev.scanned 0x11).dmi o).send (.tap 0x11 [])) := by
  have hbusy' : (s.dev.scanned 0x11).flag KEY_STAT_LCBUSY = false :=
    (congrArg (· == 1) (Dev.scanned_rd_apart (g := KEY_STAT_LCBUSY) (by decide))).trans hbusy
  refine gives_onDev (exec_dmi o s) ?_
  rw [Dev.dmiCounted_of (.inl hbusy), Dev.dmiScan, Dev.tapScan_allowed hon hextest hallows, if_neg (Bool.eq_false_iff.mp hbusy')]

/-- A halt request during a transition is counted, and nothing comes of it. -/
theorem gives_dmi_halt {h : Nat} (hon : s.dev.pwr.state ≠ .off) (hextest : s.dev.dbg.extest = false)
    (hbusy : s.dev.flag KEY_STAT_LCBUSY = true) : ∃ ir,
      Gives (.dmi (.halt h)) s (((s.dev.inc DBG_CNT_REFUSED).scanned ir).send (.tap ir [])) := by
  have hcounted : s.dev.dmiCounted (.halt h) = s.dev.inc DBG_CNT_REFUSED := if_pos ⟨hbusy, hon⟩
  have hbusy' : ((s.dev.inc DBG_CNT_REFUSED).scanned 0x11).flag KEY_STAT_LCBUSY = true := by
    refine (congrArg (· == 1) (Dev.scanned_rd_apart (g := KEY_STAT_LCBUSY) (by decide))).trans ?_
    rw [Dev.rd_inc_apart _ (by decide)]
    exact hbusy
  cases hallows : (s.dev.inc DBG_CNT_REFUSED).tapAllows 0x11 with
  | true =>
    refine ⟨0x11, gives_onDev (exec_dmi (.halt h) s) ?_⟩
    rw [hcounted, Dev.dmiScan, Dev.tapScan_allowed (d := s.dev.inc DBG_CNT_REFUSED) hon hextest hallows, if_pos hbusy']
  | false =>
    refine ⟨0x1F, gives_onDev (exec_dmi (.halt h) s) ?_⟩
    rw [hcounted, Dev.dmiScan, Dev.tapScan_barred (d := s.dev.inc DBG_CNT_REFUSED) hon hextest hallows]

/-- The commands of the test access port. -/
def tapCommands (o : DmiOp) (lands : List Nat) (level nonce : Nat) (resp : List Byte) (b : Bool) : List Instr :=
  [Instr.idcode, .samplePreload lands, .extest lands, .dtmcs, .dmi o, .dbgchal level nonce, .dbgresp resp, .dbgstat, .wakereq b,
    .bypass, .ntrst]

/-- They do nothing at a module that is off. -/
theorem gives_tap_off {o : DmiOp} {lands : List Nat} {level nonce : Nat} {resp : List Byte} {b : Bool} {i : Instr}
    (hi : i ∈ tapCommands o lands level nonce resp b) (hoff : s.dev.pwr.state = .off) : Gives i s s.dev := by
  simp only [tapCommands, List.mem_cons, List.not_mem_nil, or_false] at hi
  obtain rfl | rfl | rfl | rfl | rfl | rfl | rfl | rfl | rfl | rfl | rfl := hi
  · exact gives_onDev (exec_idcode s) (Dev.tapScan_off hoff)
  · exact gives_onDev (exec_samplePreload lands s) (Dev.tapScan_off hoff)
  · exact gives_onDev (exec_extest lands s) (Dev.tapScan_off hoff)
  · exact gives_onDev (exec_dtmcs s) (Dev.tapScan_off hoff)
  · exact gives_onDev (exec_dmi o s) ((congrArg (Dev.dmiScan · o) (Dev.dmiCounted_of (.inr hoff))).trans (Dev.tapScan_off hoff))
  · exact gives_onDev (exec_dbgchal level nonce s) (Dev.tapScan_off hoff)
  · exact gives_onDev (exec_dbgresp resp s) (Dev.tapScan_off hoff)
  · exact gives_onDev (exec_dbgstat s) (Dev.tapScan_off hoff)
  · exact gives_onDev (exec_wakereq b s) (Dev.tapScan_off hoff)
  · exact gives_onDev (exec_bypass s) (Dev.tapScan_off hoff)
  · exact gives_onDev (exec_ntrst s) (if_pos hoff)

end Sys2Proof.Machine
end

section
/-! CERTIFICATES. Scans of the test access port. -/

namespace Sys2Proof.Proofs

open Sys2Proof.Machine

/-- Settles O55: each instruction is allowed or not by the level and the power state, which the scan itself leaves alone. -/
theorem tapScans : Obligations.TapScans := by
  unfold Obligations.TapScans
  refine ⟨?plain, ?status, ?extest, ?barred, ?wake, ?dmi, ?halt, ?off⟩
  case plain =>
    exact fun s lands i ir data hi hon hextest hallows => ⟨_, gives_plainScan hi hon hextest (Dev.tck_tapAllows.symm.trans hallows),
      rfl, rfl, Dev.scanned_attached (ir := ir), rfl, Dev.scanned_regsBut (ir := ir)⟩
  case status =>
    rintro s x hon hextest rfl
    exact gives_onDev (exec_dbgstat s) (Dev.tapScan_allowed hon hextest rfl)
  case extest =>
    intro s lands hrun hlevel hextest hoff
    exact ⟨_, gives_extest hrun hlevel hextest hoff, rfl, rfl, rfl, Dev.rd_wr_self ..,
      ((Dev.regsBut.refl s.dev _).wri (by simp) _).wri (by simp) _, rfl⟩
  case barred =>
    exact fun s lands hon hextest hlevel =>
      ⟨_, gives_extest_barred hon hlevel hextest, rfl, rfl, rfl, Dev.scanned_rd_apart (ir := 0x1F) (by decide)⟩
  case wake => exact fun s hstandby hextest hlife => gives_wakereq hstandby hextest hlife
  case dmi =>
    exact fun s o hon hextest hallows hbusy => gives_dmi hon hextest (Dev.tck_tapAllows.symm.trans hallows) hbusy
  case halt =>
    intro s h hon hextest hbusy
    obtain ⟨ir, hgives⟩ := gives_dmi_halt (h := h) hon hextest hbusy
    refine ⟨_, hgives, ?_, ?_, rfl⟩
    · exact (Dev.scanned_rd_apart (ir := ir) (by decide)).trans (Dev.rd_inc_self ..)
    · exact (Dev.scanned_rd_apart (ir := ir) (by decide)).trans (Dev.rd_inc_apart _ (by decide))
  case off => exact fun s o lands level nonce resp b i hi hoff => gives_tap_off hi hoff

end Sys2Proof.Proofs
end

section
/-! SUPPORT. The challenge, its response, and what ends a debug level (R621 to R624, R628). -/

namespace Sys2Proof.Machine

/-! ### Operations of the debug level -/

section
variable {d : Dev}

@[simp] theorem Dev.holdShow_dbg : d.holdShow.dbg = d.dbg := by
  rw [Dev.holdShow]
  split
  · exact Dev.trig_dbg ..
  · rfl

/-- Showing a hold touches PWRHELD and the debug unit's flag for it, beside what the recorder does. -/
theorem Dev.holdShow_rd {g : Field} (h : (g.apart DBG_STAT_PWRHELD && g.apart DBG_EVT_HELD && g.besideRec) = true) :
    d.holdShow.rd g = d.rd g := by
  simp only [Bool.and_eq_true] at h
  obtain ⟨⟨hheld, hevt⟩, hrec⟩ := h
  rw [Dev.holdShow]
  split
  · rw [Dev.trig_rd_beside _ hrec, Dev.rd_wr_apart _ hevt]
    exact Dev.rd_wr_apart _ hheld _
  · exact Dev.rd_wr_apart _ hheld _

theorem Dev.fwEvent_unlock_rdi (g : Field) (j : Nat) : (d.fwEvent .unlock 3).rdi g j = d.rdi g j := by
  rw [Dev.fwEvent]
  split <;> rfl

theorem Dev.fwEvent_unlock_dbg : (d.fwEvent .unlock 3).dbg = d.dbg := by
  rw [Dev.fwEvent]
  split <;> rfl

/-- The block after a fall of the debug level to CLOSED, from a level above it (R623, R624). -/
theorem Dev.dbgLower_closed {cause : Nat} (h : 1 ≤ d.rd DBG_STAT_LEVEL) :
    d.dbgLower 0 cause = ((((((d.wr DBG_STAT_LEVEL 0).wr DBG_STAT_HALTED 0).nonceEnd).tapLevel 0).wr DBG_EVT_LEVEL 1).trig 0x0513
      [(Config.openCode (4 + cause)).toNat]).holdShow := if_pos h

theorem Dev.dbgLower_spec {cause : Nat} (h : 1 ≤ d.rd DBG_STAT_LEVEL) : (d.dbgLower 0 cause).rd DBG_STAT_LEVEL = 0 ∧
    (d.dbgLower 0 cause).rd DBG_STAT_HALTED = 0 ∧ (d.dbgLower 0 cause).rd DBG_EVT_LEVEL = 1 ∧
    (d.dbgLower 0 cause).dbg.nonce = none ∧ (d.dbgLower 0 cause).dbg.triggers = ⟨[]⟩ := by
  rw [Dev.dbgLower_closed h]
  refine ⟨?_, ?_, ?_, ?_, ?_⟩
  · rw [Dev.holdShow_rd (by decide), Dev.trig_rd_beside _ (by decide), Dev.rd_wr_apart _ (by decide)]
    change ((((d.wr DBG_STAT_LEVEL 0).wr DBG_STAT_HALTED 0).wr DBG_STAT_CHRDY 0).rd DBG_STAT_LEVEL) = 0
    rw [Dev.rd_wr_apart _ (by decide), Dev.rd_wr_apart _ (by decide), Dev.rd_wr_self]
    rfl
  · rw [Dev.holdShow_rd (by decide), Dev.trig_rd_beside _ (by decide), Dev.rd_wr_apart _ (by decide)]
    change ((((d.wr DBG_STAT_LEVEL 0).wr DBG_STAT_HALTED 0).wr DBG_STAT_CHRDY 0).rd DBG_STAT_HALTED) = 0
    rw [Dev.rd_wr_apart _ (by decide), Dev.rd_wr_self]
    rfl
  · rw [Dev.holdShow_rd (by decide), Dev.trig_rd_beside _ (by decide), Dev.rd_wr_self]
    rfl
  · rw [Dev.holdShow_dbg, Dev.trig_dbg]
    rfl
  · rw [Dev.holdShow_dbg, Dev.trig_dbg]
    rfl

end

/-! ### The challenge -/

variable {s : State} {level nonce : Nat} {resp : List Byte}

theorem Dev.challenge_eq {d e : Dev} (hlife : e.rd KEY_LC_STATE = d.rd KEY_LC_STATE)
    (hid : ∀ n, e.rdi SHT_MODID_BYTES n = d.rdi SHT_MODID_BYTES n) : e.challenge nonce = d.challenge nonce := by
  simp only [Dev.challenge, Dev.lifeState, hlife, hid]

/-- A scan that lets the NONCE lapse leaves the registers but ATTACHED and CHRDY. -/
theorem Dev.scanned_nonceEnd_rdi {d : Dev} {ir : Nat} {g : Field} (h : (g.apart DBG_STAT_ATTACHED && g.apart DBG_STAT_CHRDY) = true)
    (j : Nat) : (d.scanned ir).nonceEnd.rdi g j = d.rdi g j := by
  rw [Bool.and_eq_true] at h
  exact (Dev.rdi_wr_apart (d := { d.scanned ir with dbg := { (d.scanned ir).dbg with nonce := none } }) h.2 j 0).trans
    (Dev.scanned_rdi_apart (ir := ir) h.1 j)

theorem Dev.scanned_nonceEnd_rd {d : Dev} {ir : Nat} {g : Field} (h : (g.apart DBG_STAT_ATTACHED && g.apart DBG_STAT_CHRDY) = true) :
    (d.scanned ir).nonceEnd.rd g = d.rd g := Dev.scanned_nonceEnd_rdi h 0

/-- The block once a NONCE has been drawn (R622). -/
def Dev.nonceDrawn (d : Dev) (level nonce : Nat) : Dev :=
  ({ (d.scanned 0x14).nonceEnd with dbg := { (d.scanned 0x14).nonceEnd.dbg with nonce := some (level, nonce) } }).wr DBG_STAT_CHRDY 1

theorem Dev.nonceDrawn_rdi {d : Dev} {g : Field} (h : (g.apart DBG_STAT_ATTACHED && g.apart DBG_STAT_CHRDY) = true) (j : Nat) :
    (d.nonceDrawn level nonce).rdi g j = d.rdi g j := by
  refine (Dev.rdi_wr_apart _ (Bool.and_eq_true_iff.mp h).2 j 1).trans ?_
  exact Dev.scanned_nonceEnd_rdi (ir := 0x14) h j

/-- A request of a level that is not lower draws a NONCE. -/
theorem gives_dbgchal (hrun : s.dev.pwr.state = .run ∨ s.dev.pwr.state = .doze) (hextest : s.dev.dbg.extest = false)
    (hlevel : s.dev.rd DBG_STAT_LEVEL ≤ level) (hlocked : s.dev.dbg.locked = false) :
    Gives (.dbgchal level nonce) s ((s.dev.nonceDrawn level nonce).send (.tap 0x14 (s.dev.challenge nonce))) := by
  have hchallenge : (s.dev.nonceDrawn level nonce).challenge nonce = s.dev.challenge nonce :=
    Dev.challenge_eq (Dev.nonceDrawn_rdi (by decide) 0) fun n => Dev.nonceDrawn_rdi (by decide) n
  have hnotlower : ¬ level < (s.dev.scanned 0x14).nonceEnd.rd DBG_STAT_LEVEL := by
    rw [Dev.scanned_nonceEnd_rd (by decide)]; exact Nat.not_lt.mpr hlevel
  have hnotlocked : ¬ (s.dev.scanned 0x14).nonceEnd.dbg.locked = true := Bool.eq_false_iff.mp hlocked
  rw [← hchallenge]
  refine gives_onDev (exec_dbgchal level nonce s)
    ((Dev.tapScan_allowed (awake_on hrun) hextest (Dev.tapAllows_unlock hrun).1).trans ?_)
  exact (if_neg hnotlower).trans (if_neg hnotlocked)

/-- While DBGCHAL is locked it reads zeros. -/
theorem gives_dbgchal_locked (hrun : s.dev.pwr.state = .run ∨ s.dev.pwr.state = .doze) (hextest : s.dev.dbg.extest = false)
    (hlevel : s.dev.rd DBG_STAT_LEVEL ≤ level) (hlocked : s.dev.dbg.locked = true) :
    Gives (.dbgchal level nonce) s ((s.dev.scanned 0x14).nonceEnd.send (.tap 0x14 [0, 0, 0, 0, 0, 0])) := by
  have hnotlower : ¬ level < (s.dev.scanned 0x14).nonceEnd.rd DBG_STAT_LEVEL := by
    rw [Dev.scanned_nonceEnd_rd (by decide)]; exact Nat.not_lt.mpr hlevel
  refine gives_onDev (exec_dbgchal level nonce s)
    ((Dev.tapScan_allowed (awake_on hrun) hextest (Dev.tapAllows_unlock hrun).1).trans ?_)
  exact (if_neg hnotlower).trans (if_pos hlocked)

/-! ### The response -/

/-- The block as a response finds it: the NONCE has lapsed. -/
def Dev.responding (d : Dev) : Dev := (d.scanned 0x15).nonceEnd.send (.tap 0x15 [])

theorem Dev.responding_rdi {d : Dev} {g : Field} (h : (g.apart DBG_STAT_ATTACHED && g.apart DBG_STAT_CHRDY) = true) (j : Nat) :
    d.responding.rdi g j = d.rdi g j := Dev.scanned_nonceEnd_rdi (ir := 0x15) h j

theorem Dev.responding_rd {d : Dev} {g : Field} (h : (g.apart DBG_STAT_ATTACHED && g.apart DBG_STAT_CHRDY) = true) :
    d.responding.rd g = d.rd g := Dev.responding_rdi h 0

theorem Dev.responding_chrdy (d : Dev) : d.responding.rd DBG_STAT_CHRDY = 0 := Dev.rd_wr_self ..

theorem Dev.responding_levelAllowed (d : Dev) : d.responding.levelAllowed level = d.levelAllowed level := by
  have hlife : d.responding.lifeState = d.lifeState := Dev.responding_rd (by decide)
  have hkeyless : d.responding.keyless = d.keyless := congrArg (· == 1) (Dev.responding_rd (g := KEY_STAT_KEYLESS) (by decide))
  have hpolicy (n : Nat) : d.responding.bit DBG_POLICY_APPLC 0 n = d.bit DBG_POLICY_APPLC 0 n :=
    congrArg (Nat.testBit · n) (Dev.responding_rd (g := DBG_POLICY_APPLC) (by decide))
  have hkey : d.responding.rdi KEY_SLOTSTAT_STATE 485 = d.rdi KEY_SLOTSTAT_STATE 485 := Dev.responding_rdi (by decide) 485
  simp only [Dev.levelAllowed, hlife, hkeyless, hpolicy, hkey]

theorem Dev.responding_unlockOk (d : Dev) : d.responding.unlockOk level nonce resp = d.unlockOk level nonce resp := by
  have hlife : d.responding.lifeState = d.lifeState := Dev.responding_rd (by decide)
  have hid : d.responding.moduleId = d.moduleId := by
    simp only [Dev.moduleId, Dev.responding_rdi (d := d) (g := SHT_MODID_BYTES) (by decide)]
  have hslot : d.responding.keySlot 485 = d.keySlot 485 := rfl
  simp only [Dev.unlockOk, hlife, hid, hslot]

/-- A level that is allowed is APP or FULL. -/
theorem Dev.levelAllowed_le {d : Dev} (h : d.levelAllowed level = true) : level ≤ 2 := by
  rw [Dev.levelAllowed] at h
  split at h
  · simp only [Bool.or_eq_true, beq_iff_eq] at h
    omega
  · split at h
    · simp only [Bool.and_eq_true, beq_iff_eq] at h
      obtain ⟨⟨⟨hlevel, -⟩, -⟩, -⟩ := h
      omega
    · exact absurd h Bool.false_ne_true

/-- The block at a level that has been unlocked (R622). -/
def Dev.unlocked (d : Dev) (level : Nat) : Dev :=
  ((d.responding.wr DBG_STAT_LEVEL level).wr DBG_EVT_LEVEL 1).trig 0x0510
    [level, d.responding.lifeState]

section
variable (hrun : s.dev.pwr.state = .run ∨ s.dev.pwr.state = .doze) (hextest : s.dev.dbg.extest = false)
include hrun hextest

theorem gives_dbgresp_unlocks (hnonce : s.dev.dbg.nonce = some (level, nonce)) (hallowed : s.dev.levelAllowed level = true)
    (hok : s.dev.unlockOk level nonce resp = true) : Gives (.dbgresp resp) s (s.dev.unlocked level) := by
  refine gives_onDev (exec_dbgresp resp s)
    ((Dev.tapScan_allowed (awake_on hrun) hextest (Dev.tapAllows_unlock hrun).2).trans ?_)
  simp only [show (s.dev.scanned 0x15).dbg.nonce = some (level, nonce) from hnonce]
  exact if_pos ⟨s.dev.responding_levelAllowed.trans hallowed, s.dev.responding_unlockOk.trans hok⟩

/-- A response with no live NONCE fails. -/
theorem gives_dbgresp_late (hnonce : s.dev.dbg.nonce = none) : Gives (.dbgresp resp) s s.dev.responding.unlockFail := by
  refine gives_onDev (exec_dbgresp resp s)
    ((Dev.tapScan_allowed (awake_on hrun) hextest (Dev.tapAllows_unlock hrun).2).trans ?_)
  simp only [show (s.dev.scanned 0x15).dbg.nonce = none from hnonce]
  rfl

/-- A response for a level that is not allowed, or that does not verify, fails. -/
theorem gives_dbgresp_fails (hnonce : s.dev.dbg.nonce = some (level, nonce))
    (hbad : s.dev.levelAllowed level = false ∨ s.dev.unlockOk level nonce resp = false) :
    Gives (.dbgresp resp) s s.dev.responding.unlockFail := by
  refine gives_onDev (exec_dbgresp resp s)
    ((Dev.tapScan_allowed (awake_on hrun) hextest (Dev.tapAllows_unlock hrun).2).trans ?_)
  simp only [show (s.dev.scanned 0x15).dbg.nonce = some (level, nonce) from hnonce]
  refine if_neg fun h => ?_
  obtain ⟨hallowed, hok⟩ := h
  obtain hbad | hbad := hbad
  · exact Bool.false_ne_true (hbad.symm.trans (s.dev.responding_levelAllowed.symm.trans hallowed))
  · exact Bool.false_ne_true (hbad.symm.trans (s.dev.responding_unlockOk.symm.trans hok))

end

theorem Dev.unlocked_spec {d : Dev} (hallowed : d.levelAllowed level = true) : (d.unlocked level).rd DBG_STAT_LEVEL = level ∧
    (d.unlocked level).rd DBG_EVT_LEVEL = 1 ∧ (d.unlocked level).dbg.nonce = none ∧ (d.unlocked level).rd DBG_STAT_CHRDY = 0 ∧
    (d.unlocked level).mem = d.mem := by
  have hsmall : level % 2 ^ DBG_STAT_LEVEL.width = level :=
    Nat.mod_eq_of_lt (Nat.lt_of_le_of_lt (Dev.levelAllowed_le hallowed) (by decide))
  rw [Dev.unlocked]
  refine ⟨?_, ?_, ?_, ?_, ?_⟩
  · rw [Dev.trig_rd_beside _ (by decide), Dev.rd_wr_apart _ (by decide), Dev.rd_wr_self, hsmall]
  · rw [Dev.trig_rd_beside _ (by decide), Dev.rd_wr_self]
    rfl
  · rw [Dev.trig_dbg]
    rfl
  · rw [Dev.trig_rd_beside _ (by decide), Dev.rd_wr_apart _ (by decide), Dev.rd_wr_apart _ (by decide), Dev.responding_chrdy]
  · rw [Dev.trig_mem]
    rfl

/-! ### Failed unlocks -/

/-- The lockout of DBGCHAL begins (R623). -/
def Dev.lockedOut (d : Dev) : Dev :=
  ((({ d with dbg := { d.dbg with locked := true } }).wr DBG_STAT_LOCKLEFT 300).wr DBG_EVT_LOCKOUT 1).trig 0x0512 []

theorem Dev.lockedOut_spec (d : Dev) : d.lockedOut.dbg.locked = true ∧ d.lockedOut.rd DBG_STAT_LOCKLEFT = 300 ∧
    d.lockedOut.rd DBG_EVT_LOCKOUT = 1 ∧ d.lockedOut.rd DBG_STAT_LEVEL = d.rd DBG_STAT_LEVEL := by
  rw [Dev.lockedOut]
  refine ⟨?_, ?_, ?_, ?_⟩
  · rw [Dev.trig_dbg]
    rfl
  · rw [Dev.trig_rd_beside _ (by decide), Dev.rd_wr_apart _ (by decide), Dev.rd_wr_self]
    rfl
  · rw [Dev.trig_rd_beside _ (by decide), Dev.rd_wr_self]
    rfl
  · rw [Dev.trig_rd_beside _ (by decide), Dev.rd_wr_apart _ (by decide), Dev.rd_wr_apart _ (by decide)]
    rfl

/-- The block once a failed unlock has been counted (R622, R623). -/
def Dev.unlockCounted (d : Dev) : Dev := (((d.wr DBG_EVT_FAIL 1).inc DBG_CNT_FAILS).trig 0x0511 []).fwEvent .unlock 3

section
variable {d : Dev}

theorem Dev.unlockFail_below (h : d.fwFires .unlock 3 = false) : d.unlockFail = d.unlockCounted := if_neg (Bool.eq_false_iff.mp h)

theorem Dev.unlockFail_third (h : d.fwFires .unlock 3 = true) : d.unlockFail = d.unlockCounted.lockedOut := by
  simp only [Dev.unlockFail, h, if_true, Dev.lockedOut, Dev.unlockCounted]

theorem Dev.unlockCounted_rd {g : Field} (h : (g.apart DBG_EVT_FAIL && g.apart DBG_CNT_FAILS && g.besideRec) = true) :
    d.unlockCounted.rd g = d.rd g := by
  simp only [Bool.and_eq_true] at h
  obtain ⟨⟨hevt, hcnt⟩, hrec⟩ := h
  exact (Dev.fwEvent_unlock_rdi g 0).trans ((Dev.trig_rd_beside _ hrec _ _).trans
    ((Dev.rd_inc_apart _ hcnt).trans (Dev.rd_wr_apart _ hevt 1)))

theorem Dev.unlockCounted_fail : d.unlockCounted.rd DBG_EVT_FAIL = 1 :=
  (Dev.fwEvent_unlock_rdi DBG_EVT_FAIL 0).trans ((Dev.trig_rd_beside _ (by decide) _ _).trans
    ((Dev.rd_inc_apart _ (by decide)).trans (Dev.rd_wr_self ..)))

theorem Dev.unlockCounted_dbg : d.unlockCounted.dbg = d.dbg := by
  rw [Dev.unlockCounted, Dev.fwEvent_unlock_dbg, Dev.trig_dbg]
  rfl

/-- A failure below the threshold is counted. -/
theorem Dev.unlockCounted_fwCount (h : d.fwCount .unlock < 3) : d.unlockCounted.fwCount .unlock = d.fwCount .unlock + 1 := by
  have hcount : (((d.wr DBG_EVT_FAIL 1).inc DBG_CNT_FAILS).trig 0x0511 []).fwCount .unlock = d.fwCount .unlock :=
    congrArg (fun m : Map FaultWindow => (m.get (CounterId.key .unlock) {}).count) (Dev.trig_fw ..)
  rw [Dev.unlockCounted, Dev.fwEvent, hcount, if_neg (Nat.not_le.mpr h)]
  exact Dev.fwCount_fwSet_self (c := .unlock) rfl

end

/-! ### Ends -/

theorem exec_nonceExpiry (s : State) : exec .nonceExpiry s = execNonceExpiry s := rfl
theorem exec_dbgLockoutEnd (s : State) : exec .dbgLockoutEnd s = execDbgLockoutEnd s := rfl
theorem exec_dbgClose (init : Nat) (s : State) : exec (.dbgClose init) s = execDbgClose init s := rfl

/-- The block once the lockout of DBGCHAL has ended (R623). -/
def Dev.dbgLockoutEnded (d : Dev) : Dev :=
  (({ d with dbg := { d.dbg with locked := false } }).wr DBG_STAT_LOCKLEFT 0).fwClear .unlock

theorem Dev.dbgLockoutEnded_spec (d : Dev) : d.dbgLockoutEnded.dbg = { d.dbg with locked := false } ∧
    d.dbgLockoutEnded.rd DBG_STAT_LOCKLEFT = 0 ∧ d.dbgLockoutEnded.fwCount .unlock = 0 ∧
    { d.dbgLockoutEnded with regs := d.regs, dbg := d.dbg, fw := d.fw } = d ∧
    d.regsBut d.dbgLockoutEnded [(DBG_STAT_LOCKLEFT, 0)] :=
  ⟨rfl, Dev.rd_wr_self .., Dev.fwCount_fwSet_self (c := .unlock) rfl, rfl, (Dev.regsBut.refl d _).wri (by simp) _⟩

/-- NTRST closes the level, and selects IDCODE (R616). -/
theorem gives_ntrst (hon : s.dev.pwr.state ≠ .off) (hextest : s.dev.dbg.extest = false) :
    Gives .ntrst s { s.dev.dbgLower 0 dcNTRST with dbg := { (s.dev.dbgLower 0 dcNTRST).dbg with ir := 0x01 } } := by
  have hend : s.dev.extestEnd = s.dev := if_neg (Bool.eq_false_iff.mp hextest)
  have hfall : s.dev.dbgFall 0 dcNTRST = s.dev.dbgLower 0 dcNTRST := if_neg fun h => Bool.false_ne_true (hextest.symm.trans h.1)
  refine gives_onDev (exec_ntrst s) ((if_neg hon).trans ?_)
  rw [hend, hfall]

end Sys2Proof.Machine
end

section
/-! CERTIFICATES. The debug levels. -/

namespace Sys2Proof.Proofs

open Sys2Proof.Machine

/-- Settles O56: a challenge, its response and the ends of a level, each by the block that it gives. -/
theorem debugLevels : Obligations.DebugLevels := by
  unfold Obligations.DebugLevels
  refine ⟨?challenge, ?locked, ?unlocks, ?late, ?third, ?fails, ?expiry, ?lockout, ?close, ?reset⟩
  case challenge =>
    exact fun s level nonce hrun hextest hlevel hlocked => ⟨_, gives_dbgchal hrun hextest hlevel hlocked, rfl, Dev.rd_wr_self ..,
      Dev.nonceDrawn_rdi (by decide) 0, rfl⟩
  case locked =>
    exact fun s level nonce hrun hextest hlevel hlocked => ⟨_, gives_dbgchal_locked hrun hextest hlevel hlocked, rfl,
      Dev.rd_wr_self .., rfl⟩
  case unlocks =>
    exact fun s level nonce resp hrun hextest hnonce hallowed hok => ⟨_, gives_dbgresp_unlocks hrun hextest hnonce hallowed hok,
      Dev.unlocked_spec hallowed⟩
  case late =>
    intro s resp hrun hextest hnonce hbelow
    have hbelow' : s.dev.responding.fwFires .unlock 3 = false := hbelow
    refine ⟨_, gives_dbgresp_late hrun hextest hnonce, ?_⟩
    rw [Dev.unlockFail_below hbelow']
    refine ⟨?_, Dev.unlockCounted_fail, ?_, fun hcount => Dev.unlockCounted_fwCount hcount⟩
    · rw [Dev.unlockCounted_rd (by decide), Dev.responding_rd (by decide)]
    · rw [Dev.unlockCounted_dbg]
      rfl
  case third =>
    intro s resp hrun hextest hnonce hfires
    have hfires' : s.dev.responding.fwFires .unlock 3 = true := hfires
    refine ⟨_, gives_dbgresp_late hrun hextest hnonce, ?_⟩
    obtain ⟨hlocked, hleft, hevt, hlevel⟩ := s.dev.responding.unlockCounted.lockedOut_spec
    rw [Dev.unlockFail_third hfires']
    refine ⟨hlocked, hleft, hevt, hlevel.trans ?_⟩
    rw [Dev.unlockCounted_rd (by decide), Dev.responding_rd (by decide)]
  case fails =>
    intro s level nonce resp hrun hextest hnonce hbad hbelow
    have hbelow' : s.dev.responding.fwFires .unlock 3 = false := hbelow
    refine ⟨_, gives_dbgresp_fails hrun hextest hnonce hbad, ?_⟩
    rw [Dev.unlockFail_below hbelow']
    refine ⟨?_, Dev.unlockCounted_fail, ?_, ?_, ?_⟩
    · rw [Dev.unlockCounted_rd (by decide), Dev.responding_rd (by decide)]
    · rw [Dev.unlockCounted_dbg]
      rfl
    · rw [Dev.unlockCounted_rd (by decide), Dev.responding_chrdy]
    · rw [Dev.unlockCounted_dbg]
      rfl
  case expiry =>
    exact fun s => ⟨_, gives_onDev (exec_nonceExpiry s) rfl, rfl, Dev.rd_wr_self .., rfl,
      (Dev.regsBut.refl s.dev _).wri (by simp) _⟩
  case lockout =>
    exact fun s hlocked => ⟨s.dev.dbgLockoutEnded, gives_onDev (exec_dbgLockoutEnd s) (if_pos hlocked), s.dev.dbgLockoutEnded_spec⟩
  case close =>
    intro s init hport hdom hon hbarred
    have hnotbarred : ¬ (s.dev.answered 0).ctxBarred ((s.dev.answered 0).tag init) = true := Bool.eq_false_iff.mp hbarred
    have hgives := gives_onBlockBy (exec_dbgClose init s) hport hdom
    rw [if_neg (show ¬ (s.dev.answered 0).pwr.state = .off from hon), if_neg hnotbarred] at hgives
    exact hgives
  case reset =>
    intro s hon hextest hlevel
    obtain ⟨hclosed, hhalted, hevt, hnonce, htriggers⟩ := Dev.dbgLower_spec (d := s.dev) (cause := dcNTRST) hlevel
    exact ⟨_, gives_ntrst hon hextest, hclosed, hhalted, hevt, rfl, hnonce, htriggers⟩

end Sys2Proof.Proofs
end

section
/-! SUPPORT. The recorder's ring, cursor, buckets and operating time (R640 to R643, R650 to R658). -/

namespace Sys2Proof.Machine

theorem exec_recTrig (init code : Nat) (s : State) : exec (.recTrig init code) s = execRecTrig init code s := rfl
theorem exec_bucketToken (b : Nat) (s : State) : exec (.bucketToken b) s = execBucketToken b s := rfl
theorem exec_recRingWrite (s : State) : exec .recRingWrite s = execRecRingWrite s := rfl
theorem exec_recCursor (init seq : Nat) (s : State) : exec (.recCursor init seq) s = execRecCursor init seq s := rfl
theorem exec_optimeTick (s : State) : exec .optimeTick s = execOptimeTick s := rfl
theorem exec_optimeSave (s : State) : exec .optimeSave s = execOptimeSave s := rfl

theorem Dev.awake_iff (d : Dev) : d.awake = true ↔ d.pwr.state = .run ∨ d.pwr.state = .doze := by
  rw [Dev.awake, Bool.or_eq_true, beq_iff_eq, beq_iff_eq]

/-! ### The ring -/

/-- What is written into the ring of a staged record (R640, R654). -/
def Dev.recordOf (d : Dev) (r : Staged) : RingRec :=
  let x : RingRec := { seq := seqNext (d.rd REC_HEAD_SEQ), code := r.code, optime := r.optime, pwrcyc := r.pwrcyc,
                       supp := r.supp, flags := d.ringFlags r.flags, snap := r.snap, crc := 0 }
  { x with crc := x.calcCrc }

/-- A record as it is written carries the CRC of its fields. -/
theorem Dev.recordOf_crc (d : Dev) (r : Staged) : (d.recordOf r).crc = (d.recordOf r).calcCrc := rfl

/-- The registers show the record that was written last, and the events of its place and code. -/
def Dev.ringShown (d : Dev) (seq slot tail code : Nat) : Dev :=
  let d := ((d.wr REC_HEAD_SEQ seq).wr REC_STAT_HEADSLOT slot).wr REC_TAIL_SEQ tail
  let d := if slot = 16383 then d.wr REC_EVT_WRAP 1 else d
  if 0x1000 ≤ code then d.wr REC_EVT_CTXREC 1 else d

section
variable (d : Dev) (seq slot tail code : Nat)

theorem Dev.ringShown_rest : { d.ringShown seq slot tail code with regs := d.regs } = d := by
  rw [Dev.ringShown]
  split <;> split <;> rfl

theorem Dev.ringShown_recd : (d.ringShown seq slot tail code).recd = d.recd :=
  (congrArg Dev.recd (d.ringShown_rest seq slot tail code) :)

theorem Dev.ringShown_rd {g : Field} (h : (g.apart REC_HEAD_SEQ && g.apart REC_STAT_HEADSLOT && g.apart REC_TAIL_SEQ &&
    g.apart REC_EVT_WRAP && g.apart REC_EVT_CTXREC) = true) : (d.ringShown seq slot tail code).rd g = d.rd g := by
  simp only [Bool.and_eq_true] at h
  obtain ⟨⟨⟨⟨hhead, hslot⟩, htail⟩, hwrap⟩, hctx⟩ := h
  rw [Dev.ringShown]
  split <;> split <;>
    simp only [Dev.rd_wr_apart _ hhead, Dev.rd_wr_apart _ hslot, Dev.rd_wr_apart _ htail, Dev.rd_wr_apart _ hwrap,
      Dev.rd_wr_apart _ hctx]

theorem Dev.ringShown_head : (d.ringShown seq slot tail code).rd REC_HEAD_SEQ = seq % 2 ^ REC_HEAD_SEQ.width := by
  rw [Dev.ringShown]
  split <;> split <;> simp (disch := decide) only [Dev.rd_wr_apart, Dev.rd_wr_self]

theorem Dev.ringShown_slot : (d.ringShown seq slot tail code).rd REC_STAT_HEADSLOT = slot % 2 ^ REC_STAT_HEADSLOT.width := by
  rw [Dev.ringShown]
  split <;> split <;> simp (disch := decide) only [Dev.rd_wr_apart, Dev.rd_wr_self]

theorem Dev.ringShown_wrap : (d.ringShown seq 16383 tail code).rd REC_EVT_WRAP = 1 := by
  rw [Dev.ringShown]
  split <;> simp (disch := decide) only [if_true, Dev.rd_wr_apart, Dev.rd_wr_self] <;> rfl

end

/-- The recorder's state once a record has been written. -/
def Dev.ringTaken (d : Dev) (r : Staged) : RecState :=
  { d.recd with ring := d.recd.ring.set ((d.rd REC_STAT_HEADSLOT + 1) % 16384) (d.recordOf r), tgapPending := false,
                lostPending := false }

/-- A record goes into the slot after the head, and the operating time is saved. -/
theorem Dev.ringWrite_eq (d : Dev) (r : Staged) : ∃ tail, d.ringWrite r =
    ((d.setRec (d.ringTaken r)).ringShown (seqNext (d.rd REC_HEAD_SEQ)) ((d.rd REC_STAT_HEADSLOT + 1) % 16384) tail
      r.code).optimeSave false := ⟨_, rfl⟩

theorem seqNext_lt {seq : Nat} (h : seq < 2 ^ 32) : seqNext seq < 2 ^ 32 := by
  rw [seqNext]
  split <;> omega

variable {s : State}

/-- The block once the next staged record, of which `rest` stand behind it, is off the stage. -/
def Dev.unstaged (d : Dev) (rest : List Staged) : Dev := (d.setRec { d.recd with staged := rest }).wr REC_STAT_STAGED rest.length

/-- The next staged record is written while the ring is ready and no clear is under way. -/
theorem gives_recRingWrite {r : Staged} {rest : List Staged} (hready : s.dev.flag REC_STAT_READY = true)
    (hclearing : s.dev.flag REC_STAT_CLEARING = false) (hstaged : s.dev.recd.staged = r :: rest) :
    Gives .recRingWrite s ((s.dev.unstaged rest).ringWrite r) := by
  refine gives_onDev (exec_recRingWrite s) ((if_pos ⟨hready, by rw [hclearing]; rfl⟩).trans ?_)
  rw [hstaged]
  rfl

theorem gives_recRingWrite_idle (h : s.dev.flag REC_STAT_READY = false ∨ s.dev.recd.staged = []) :
    Gives .recRingWrite s s.dev := by
  refine gives_onDev (exec_recRingWrite s) ?_
  obtain hnotready | hnone := h
  · exact if_neg fun hc => Bool.false_ne_true (hnotready.symm.trans hc.1)
  · rw [hnone]
    exact ite_self _

/-! ### The cursor -/

/-- Two fields of single registers, or of registers that each hart has a copy of, at different places of one hart's space. -/
def Field.apartInHart (f g : Field) : Bool :=
  f.stride == 0 && g.stride == 0 && f.gstride % 2 ^ 32 == 0 && g.gstride % 2 ^ 32 == 0 && f.place % 2 ^ 37 != g.place % 2 ^ 37

theorem Field.key_mod_hart {f : Field} (hstride : f.stride = 0) (hgstride : f.gstride % 2 ^ 32 = 0) (i : Nat) :
    f.key i % 2 ^ 37 = f.place % 2 ^ 37 := by
  obtain ⟨k, hk⟩ := Nat.dvd_of_mod_eq_zero hgstride
  have hkey : f.key i = f.place + 2 ^ 37 * (i / f.group * k) := by
    rw [Field.key, Field.addr, Field.place, hstride, hk]; ring
  rw [hkey, Nat.add_mul_mod_self_left]

theorem Field.key_ne_of_apartInHart {f g : Field} (h : f.apartInHart g = true) (i j : Nat) : f.key i ≠ g.key j := by
  simp only [Field.apartInHart, Bool.and_eq_true, beq_iff_eq, bne_iff_ne, ne_eq] at h
  obtain ⟨⟨⟨⟨hf, hg⟩, hfar⟩, hgar⟩, hplace⟩ := h
  intro hkey
  exact hplace ((Field.key_mod_hart hf hfar i).symm.trans ((congrArg (· % 2 ^ 37) hkey).trans (Field.key_mod_hart hg hgar j)))

theorem Dev.rdi_wri_apartInHart (d : Dev) {f g : Field} (h : g.apartInHart f = true) (i j v : Nat) :
    (d.wri f i v).rdi g j = d.rdi g j := by
  rw [Dev.rdi_wri, if_neg (Field.key_ne_of_apartInHart h j i)]

/-- The block once a SEQ stands in the cursor of a hart and no slot has been found yet (R658). -/
def Dev.cursorSet (d : Dev) (p seq : Nat) : Dev :=
  ((d.wri REC_CUR_SEQ p seq).wri REC_CURSTAT_PRESENT p 0).wri REC_CURSTAT_CRCERR p 0

theorem Dev.cursorSet_rd (d : Dev) (p seq : Nat) {g : Field}
    (h : (g.apartInHart REC_CUR_SEQ && g.apartInHart REC_CURSTAT_PRESENT && g.apartInHart REC_CURSTAT_CRCERR) = true) :
    (d.cursorSet p seq).rd g = d.rd g := by
  simp only [Bool.and_eq_true] at h
  obtain ⟨⟨hcur, hpresent⟩, hcrc⟩ := h
  exact (Dev.rdi_wri_apartInHart _ hcrc ..).trans ((Dev.rdi_wri_apartInHart _ hpresent ..).trans (Dev.rdi_wri_apartInHart _ hcur ..))

/-- The block once the cursor of a hart stands on a slot that holds a record. -/
def Dev.cursorOn (d : Dev) (p seq : Nat) (r : RingRec) : Dev :=
  if r.crc = r.calcCrc then (d.cursorSet p seq).wri REC_CURSTAT_PRESENT p (b2n (r.seq == seq))
  else (((d.cursorSet p seq).wri REC_CURSTAT_PRESENT p (b2n (r.seq == seq))).wri REC_CURSTAT_CRCERR p 1).wr REC_EVT_CRCERR 1

/-- A hart's write to its cursor selects the slot in which the SEQ stands. -/
theorem gives_recCursor {init seq : Nat} {r : RingRec} (hdom : s.dev.domainOn 2 = true) (hinit : init < 10)
    (hbarred : s.dev.ctxBarred (s.dev.tag init) = false) (hclearing : s.dev.flag REC_STAT_CLEARING = false)
    (hr : s.dev.recd.ring.find (s.dev.slotOf seq) = some r) :
    Gives (.recCursor init seq) s ((s.dev.answered 0).cursorOn init seq r) := by
  have hallowed : ¬ (s.dev.answered 0).ctxBarred ((s.dev.answered 0).tag init) = true := Bool.eq_false_iff.mp hbarred
  have hport : recPort init = init := if_pos hinit
  have hclearing' : ((s.dev.answered 0).cursorSet init seq).flag REC_STAT_CLEARING = false :=
    (congrArg (· == 1) (Dev.cursorSet_rd _ _ _ (g := REC_STAT_CLEARING) (by decide))).trans hclearing
  have hslot : ((s.dev.answered 0).cursorSet init seq).slotOf seq = s.dev.slotOf seq := by
    rw [Dev.slotOf, Dev.cursorSet_rd _ _ _ (by decide), Dev.cursorSet_rd _ _ _ (by decide)]
    rfl
  have hgives := gives_onBlockBy (exec_recCursor init seq s) (Dev.portOpen_hart s.dev hinit) hdom
  rw [if_neg hallowed, hport] at hgives
  change Gives _ _ (if ((s.dev.answered 0).cursorSet init seq).flag REC_STAT_CLEARING = true then _ else
    match s.dev.recd.ring.find (((s.dev.answered 0).cursorSet init seq).slotOf seq) with | some r => _ | none => _) at hgives
  rw [if_neg (Bool.eq_false_iff.mp hclearing'), hslot, hr] at hgives
  exact hgives

theorem b2n_mod_two (b : Bool) : b2n b % 2 = b2n b := by cases b <;> rfl

/-! ### Buckets and operating time -/

/-- A bucket with FILL gains a token, up to its depth. -/
theorem gives_bucketToken {b : Nat} (hdeck : s.dev.deck.running.isNone = false) (hb : b < 512)
    (hen : s.dev.flagi REC_BKT_CODE_EN b = true) (hfill : s.dev.rdi REC_BKT_FILL b ≠ 0) : Gives (.bucketToken b) s
      (s.dev.wri REC_BKT_STATE_TOKENS b (min (s.dev.rdi REC_BKT_STATE_TOKENS b + 1) (s.dev.rdi REC_BKT_FILL_DEPTH b))) :=
  gives_onDev (exec_bucketToken b s)
    ((if_neg (Bool.eq_false_iff.mp hdeck)).trans ((if_pos hb).trans (if_pos ⟨hen, hfill⟩)))

theorem gives_bucketToken_default (hdeck : s.dev.deck.running.isNone = false) (hfill : s.dev.rd REC_CFG_DFILL ≠ 0) :
    Gives (.bucketToken 512) s
      (s.dev.wr REC_DBKT_TOKENS (min (s.dev.rd REC_DBKT_TOKENS + 1) (s.dev.rd REC_CFG_DDEPTH))) :=
  gives_onDev (exec_bucketToken 512 s)
    ((if_neg (Bool.eq_false_iff.mp hdeck)).trans ((if_neg (by decide)).trans (if_pos ⟨rfl, hfill⟩)))

/-- The block with an operating time of `n`. -/
def Dev.optimeSet (d : Dev) (n : Nat) : Dev := (d.wr REC_OPTIMEL_OPTIME (n % 2 ^ 32)).wr REC_OPTIMEH_OPTIME (n / 2 ^ 32)

theorem Dev.optime_optimeSet (d : Dev) {n : Nat} (h : n < 2 ^ 40) : (d.optimeSet n).optime = n := by
  rw [Dev.optime, Dev.optimeSet, Dev.rd_wr_self, Dev.rd_wr_apart _ (by decide), Dev.rd_wr_self]
  change n / 2 ^ 32 % 2 ^ 8 * 2 ^ 32 + n % 2 ^ 32 % 2 ^ 32 = n
  omega

end Sys2Proof.Machine
end

section
/-! CERTIFICATES. The event recorder. -/

namespace Sys2Proof.Proofs

open Sys2Proof.Machine

/-- A written record stands in its slot, and no other slot changes (R654). -/
theorem recRingWrite_ends {s : State} {r : Staged} {rest : List Staged} (hready : s.dev.flag REC_STAT_READY = true)
    (hclearing : s.dev.flag REC_STAT_CLEARING = false) (hstaged : s.dev.recd.staged = r :: rest)
    (hseq : s.dev.rd REC_HEAD_SEQ < 2 ^ 32) :
    Ends .recRingWrite s fun d => d.recd.staged = rest ∧ d.rd REC_STAT_STAGED = rest.length % 2 ^ REC_STAT_STAGED.width ∧
      d.rd REC_HEAD_SEQ = seqNext (s.dev.rd REC_HEAD_SEQ) ∧
      d.rd REC_STAT_HEADSLOT = (s.dev.rd REC_STAT_HEADSLOT + 1) % 16384 ∧
      (∀ x, d.recd.ring.find ((s.dev.rd REC_STAT_HEADSLOT + 1) % 16384) = some x → x.seq = seqNext (s.dev.rd REC_HEAD_SEQ) ∧
        x.code = r.code ∧ x.snap = r.snap ∧ x.crc = x.calcCrc) ∧
      (d.recd.ring.find ((s.dev.rd REC_STAT_HEADSLOT + 1) % 16384)).isSome = true ∧
      (∀ k, k ≠ (s.dev.rd REC_STAT_HEADSLOT + 1) % 16384 → d.recd.ring.find k = s.dev.recd.ring.find k) ∧
      d.recd.savedOptime = s.dev.optime ∧ (s.dev.rd REC_STAT_HEADSLOT = 16382 → d.rd REC_EVT_WRAP = 1) ∧
      { d with regs := s.dev.regs, recd := s.dev.recd } = s.dev := by
  have hhead0 : (s.dev.unstaged rest).rd REC_HEAD_SEQ = s.dev.rd REC_HEAD_SEQ := Dev.rd_wr_apart _ (by decide) _
  have hslot0 : (s.dev.unstaged rest).rd REC_STAT_HEADSLOT = s.dev.rd REC_STAT_HEADSLOT := Dev.rd_wr_apart _ (by decide) _
  obtain ⟨tail, hwrite⟩ := (s.dev.unstaged rest).ringWrite_eq r
  have hgives := gives_recRingWrite hready hclearing hstaged
  rw [hwrite, hhead0, hslot0] at hgives
  have hrecd := ((s.dev.unstaged rest).setRec ((s.dev.unstaged rest).ringTaken r)).ringShown_recd (seqNext (s.dev.rd REC_HEAD_SEQ))
    ((s.dev.rd REC_STAT_HEADSLOT + 1) % 16384) tail r.code
  have hrest := ((s.dev.unstaged rest).setRec ((s.dev.unstaged rest).ringTaken r)).ringShown_rest (seqNext (s.dev.rd REC_HEAD_SEQ))
    ((s.dev.rd REC_STAT_HEADSLOT + 1) % 16384) tail r.code
  have hshown {g : Field} (h : (g.apart REC_HEAD_SEQ && g.apart REC_STAT_HEADSLOT && g.apart REC_TAIL_SEQ &&
      g.apart REC_EVT_WRAP && g.apart REC_EVT_CTXREC) = true) :=
    ((s.dev.unstaged rest).setRec ((s.dev.unstaged rest).ringTaken r)).ringShown_rd (seqNext (s.dev.rd REC_HEAD_SEQ))
      ((s.dev.rd REC_STAT_HEADSLOT + 1) % 16384) tail r.code h
  have hring (k : Nat) : (((s.dev.unstaged rest).ringTaken r).ring.find k) =
      if k = (s.dev.rd REC_STAT_HEADSLOT + 1) % 16384 then some ((s.dev.unstaged rest).recordOf r) else s.dev.recd.ring.find k := by
    rw [Dev.ringTaken, hslot0]
    exact Map.find_set ..
  refine ⟨_, hgives, ?staged, ?count, ?head, ?slot, ?record, ?present, ?others, ?optime, ?wrap, ?rest⟩
  case staged => exact congrArg RecState.staged hrecd
  case count => exact (hshown (by decide)).trans (Dev.rd_wr_self ..)
  case head => exact (Dev.ringShown_head ..).trans (Nat.mod_eq_of_lt (seqNext_lt hseq))
  case slot => exact (Dev.ringShown_slot ..).trans (Nat.mod_eq_of_lt (Nat.mod_lt _ (by decide)))
  case record =>
    intro x hx
    have hx' : x = (s.dev.unstaged rest).recordOf r := by
      have hfound := (congrArg (fun c : RecState => c.ring.find ((s.dev.rd REC_STAT_HEADSLOT + 1) % 16384)) hrecd).symm.trans hx
      rw [show ((s.dev.unstaged rest).setRec ((s.dev.unstaged rest).ringTaken r)).recd = (s.dev.unstaged rest).ringTaken r from rfl,
        hring, if_pos rfl] at hfound
      exact (Option.some.inj hfound).symm
    rw [hx']
    exact ⟨congrArg seqNext hhead0, rfl, rfl, Dev.recordOf_crc ..⟩
  case present =>
    refine (congrArg (fun c : RecState => (c.ring.find ((s.dev.rd REC_STAT_HEADSLOT + 1) % 16384)).isSome) hrecd).trans ?_
    exact (congrArg Option.isSome (hring _)).trans (by rw [if_pos rfl]; rfl)
  case others =>
    intro k hk
    exact (congrArg (fun c : RecState => c.ring.find k) hrecd).trans ((hring k).trans (if_neg hk))
  case optime =>
    refine congr_arg₂ (fun h l => h * 2 ^ 32 + l) ?_ ?_
    · exact (hshown (g := REC_OPTIMEH_OPTIME) (by decide)).trans (Dev.rd_wr_apart _ (by decide) _)
    · exact (hshown (g := REC_OPTIMEL_OPTIME) (by decide)).trans (Dev.rd_wr_apart _ (by decide) _)
  case wrap =>
    intro hlast
    rw [hlast]
    exact Dev.ringShown_wrap ..
  case rest => exact congrArg (fun d : Dev => { d with regs := s.dev.regs, recd := s.dev.recd }) hrest

/-- Settles O54: a record as its slot shows it, and each other command by the block that it gives. -/
theorem recorderCommands : Obligations.RecorderCommands := by
  unfold Obligations.RecorderCommands
  refine ⟨?trigger, ?refused, ?token, ?default, ?write, ?idle, ?cursor, ?badCrc, ?tick, ?save, ?stopped⟩
  case trigger =>
    intro s init code hdom hinit hmay
    have hgives := gives_onBlockBy (exec_recTrig init code s) (Dev.portOpen_hart s.dev hinit) hdom
    have hmay' : (s.dev.answered 0).mayTrigger ((s.dev.answered 0).tag init) code = true := hmay
    rw [if_pos ⟨hinit, hmay'⟩] at hgives
    exact hgives
  case refused =>
    intro s init code hport hdom hmay
    have hgives := gives_onBlockBy (exec_recTrig init code s) hport hdom
    rw [if_neg fun h => Bool.false_ne_true (hmay.symm.trans h.2)] at hgives
    exact hgives
  case token =>
    exact fun s b hdeck hb hen hfill => ⟨_, gives_bucketToken hdeck hb hen hfill, Dev.rdi_wri_self .., Dev.onlyRegs_wri ..⟩
  case default => exact fun s hdeck hfill => ⟨_, gives_bucketToken_default hdeck hfill, Dev.rd_wr_self .., Dev.onlyRegs_wri ..⟩
  case write => exact fun s r rest hready hclearing hstaged _ hseq => recRingWrite_ends hready hclearing hstaged hseq
  case idle => exact fun s h => gives_recRingWrite_idle h
  case cursor =>
    intro s init seq r hdom hinit hbarred hclearing hr hcrc
    have hgives := gives_recCursor hdom hinit hbarred hclearing hr
    rw [Dev.cursorOn, if_pos hcrc] at hgives
    refine ⟨_, hgives, rfl, ?_, ?_, ?_, rfl, ?_⟩
    · rw [Dev.rdi_wri_apartInHart _ (by decide), Dev.cursorSet, Dev.rdi_wri_apartInHart _ (by decide),
        Dev.rdi_wri_apartInHart _ (by decide), Dev.rdi_wri_self]
    · exact (Dev.rdi_wri_self ..).trans (b2n_mod_two _)
    · rw [Dev.rdi_wri_apartInHart _ (by decide), Dev.cursorSet, Dev.rdi_wri_self]
      rfl
    · exact ((((Dev.regsBut.refl s.dev _).wri (by simp) _).wri (by simp) _).wri (by simp) _).wri (by simp) _
  case badCrc =>
    intro s init seq r hdom hinit hbarred hclearing hr hcrc
    have hgives := gives_recCursor hdom hinit hbarred hclearing hr
    rw [Dev.cursorOn, if_neg hcrc] at hgives
    refine ⟨_, hgives, ?_, Dev.rd_wr_self ..⟩
    exact (Dev.rdi_wri_apartInHart _ (by decide) ..).trans (Dev.rdi_wri_self ..)
  case tick =>
    intro s hstate _ _ hroom
    exact ⟨s.dev.optimeSet (s.dev.optime + 1), gives_onDev (exec_optimeTick s) (if_pos (s.dev.awake_iff.mpr hstate)),
      s.dev.optime_optimeSet hroom, rfl, ((Dev.regsBut.refl s.dev _).wri (by simp) _).wri (by simp) _⟩
  case save =>
    exact fun s hstate => ⟨_, gives_onDev (exec_optimeSave s) (if_pos (s.dev.awake_iff.mpr hstate)), rfl, rfl⟩
  case stopped =>
    intro s hrun hdoze
    have hasleep : ¬ s.dev.awake = true := fun h => ((s.dev.awake_iff.mp h).elim hrun hdoze)
    exact ⟨gives_onDev (exec_optimeTick s) (if_neg hasleep), gives_onDev (exec_optimeSave s) (if_neg hasleep)⟩

end Sys2Proof.Proofs
end

section
/-! CERTIFICATES. The end of a LOAD under the identity's slot, with a register file that is not in its canonical form (R578, R598). -/

namespace Sys2Proof.Machine

theorem exec_keyOpComplete (n : Nat) (found : KeyFinding) (s : State) :
    exec (.keyOpComplete n found) s = execKeyOpComplete n found s := rfl

/-- A LOAD that brings nothing out of the engine fills the target's pending copy and ends. -/
theorem Dev.keySucceed_load {d : Dev} {n : Nat} {f : KeyFinding} (hop : (d.keyChan n).op = 0x10) (hout : (d.keyChan n).outLen = 0)
    (hpend : d.rdi KEY_SLOTSTAT_PEND (d.keyChan n).target = 1) : d.keySucceed n f =
      (((d.wri KEY_SLOTSTAT_PEND (d.keyChan n).target 2).setKeySlot (d.keyChan n).target { d.keySlot (d.keyChan n).target with
        pendVer := f.kver, pendKey := d.keyChild (d.keyChan n) f }).keyDone n 0).keyCountOut (d.keyChan n).slot := by
  rw [Dev.keySucceed]
  simp only [hop, hout, hpend, show keyFills 0x10 = true from rfl, show keyUsesSlot 0x10 = true from rfl, if_true,
    show ((0x10 : Nat) = 0x07) = False from by decide, if_false]

/-- An index of the register file above those of the key engine, at the place of the MAC address in the space of hart 1. -/
def macAbove : Nat := 2 ^ 37 + SWX_MACLO_MAC.key 0

/-- Channel 0 loads slot 495 under the orphaned slot 494, and the KVER of slot 495 stands behind an index that is above it, where it is
not found. -/
def identityLoads : State where
  dev := {
    regs := ⟨[(KEY_OP_STAT_STATE.key 0, 1), (KEY_SLOTSTAT_STATE.key 494, 2), (KEY_SLOTSTAT_PEND.key 495, 1), (macAbove, 0),
      (KEY_KVER.key 495, 7)]⟩
    key := { chans := ⟨[(0, { op := 0x10, slot := 494, target := 495 })]⟩ } }

/-- The block as the load leaves it before the orphaned slot is cleared. -/
def identityLoaded : Dev :=
  ((identityLoads.dev.wri KEY_SLOTSTAT_PEND 495 2).setKeySlot 495 { identityLoads.dev.keySlot 495 with
    pendVer := 1, pendKey := identityLoads.dev.keyChild (identityLoads.dev.keyChan 0) (.opened [0, 0, 0, 1]) }).keyDone 0 0

theorem identityLoads_complete :
    identityLoads.dev.keyComplete 0 (.opened [0, 0, 0, 1]) = identityLoaded.keyCountOut 494 := by
  rw [Dev.keyComplete, if_pos (by decide), if_neg (by decide), if_neg (by decide),
    Dev.keySucceed_load (by decide) (by decide) (by decide)]
  rfl

/-- The block when slot 494 is empty and the identity has given way to the factory's, before the record of it is written. -/
def identityGone : Dev :=
  ((((({ identityLoaded.wri KEY_SLOTSTAT_INUSE 494 0 with
    key := { identityLoaded.key with slots := identityLoaded.key.slots.erase 494 } }).wri KEY_SLOTSTAT_STATE 494 0).wri
      KEY_SLOTSTAT_PEND 494 0).wri KEY_KVER 494 0)).factoryIdentity

theorem identityLoaded_countOut : identityLoaded.keyCountOut 494 = identityGone.trig 0x0506 [494] := by
  rw [Dev.keyCountOut, Dev.keyClearIdle, if_pos (by decide), if_pos (by decide)]
  rfl

/-- The KVER of slot 495 comes to light as the identity of the module is forgotten. -/
theorem identityLoads_kver : Ends (.keyOpComplete 0 (.opened [0, 0, 0, 1])) identityLoads fun d => d.rdi KEY_KVER 495 = 7 := by
  refine ⟨_, gives_onDev (exec_keyOpComplete ..) (identityLoads_complete.trans identityLoaded_countOut), ?_⟩
  exact (Dev.trig_rdi_beside _ (by decide) _ _ _).trans (by decide)

end Sys2Proof.Machine

namespace Sys2Proof.Proofs

open Sys2Proof.Machine

/-- Refutes O48: its clause on a LOAD that ends well has the KVER of the target stay in every state, but the end of the last operation
on the orphaned slot 494 forgets the module's identity, and with it the index that hides the target's KVER in the register file of the
state `identityLoads`. -/
theorem not_keyEndCommands : ¬ Obligations.KeyEndCommands := by
  unfold Obligations.KeyEndCommands
  rintro ⟨-, -, -, -, -, -, -, -, hloaded, -⟩
  obtain ⟨d, hgives, -, hkver, -⟩ := hloaded identityLoads 0 495 [0, 0, 0, 1] (by decide) (by decide) (by decide) (by decide)
    (by decide) (by decide) (by decide) (by decide) (by decide)
  obtain ⟨e, hgives', hfound⟩ := identityLoads_kver
  exact absurd (hkver.symm.trans ((hgives.rdi_eq hgives' KEY_KVER 495).trans hfound)) (by decide)

end Sys2Proof.Proofs
end

section
/-! SUPPORT. Registers that stay at a value through operations that may forget others (R16), as the reset of a partition may: a value
that stands in the register file stays found when other indices leave it. -/

namespace Sys2Proof.Machine

/-- The register file holds a value at an index. -/
def Dev.holds (d : Dev) (key v : Nat) : Prop := d.regs.find key = some v

section
variable {d : Dev} {key v : Nat}

theorem Dev.holds.rdi {f : Field} {i : Nat} (h : d.holds (f.key i) v) : d.rdi f i = v := by
  rw [Dev.rdi, Map.get, h]; rfl

theorem Dev.holds.rd {f : Field} (h : d.holds (f.key 0) v) : d.rd f = v := h.rdi

/-- What a field has been set to stands in the register file. -/
theorem Dev.holds_wri (d : Dev) (f : Field) (i v : Nat) : (d.wri f i v).holds (f.key i) (v % 2 ^ f.width) :=
  (Map.find_set ..).trans (if_pos rfl)

theorem Dev.holds.wri {f : Field} {i w : Nat} (h : d.holds key v) (hkey : key ≠ f.key i) : (d.wri f i w).holds key v :=
  (Map.find_set ..).trans ((if_neg hkey).trans h)

theorem Dev.holds.wri_apart {f g : Field} {i j w : Nat} (h : d.holds (g.key j) v) (hg : g.apart f = true) :
    (d.wri f i w).holds (g.key j) v := h.wri (Field.key_ne_of_apart hg j i)

/-- A register of one word at an index of the register file, with a reset value of its own. -/
def Field.probe (key reset : Nat) : Field := { base := key / 32, lsb := key % 32, width := 32, acc := .ro, rst := .fixed reset }

theorem Field.probe_key (key reset i : Nat) : (Field.probe key reset).key i = key := by
  simp only [Field.key, Field.addr, Field.probe]
  omega

/-- A value stands in the register file when a register there that resets to another value reads it. -/
theorem Dev.holds_of_probe (h : d.rdi (Field.probe key (v + 1)) 0 = v) : d.holds key v := by
  rw [Dev.rdi, Field.probe_key, Map.get] at h
  unfold Dev.holds
  cases hfind : d.regs.find key with
  | some w => rw [hfind] at h; exact congrArg some h
  | none =>
    rw [hfind] at h
    exact absurd h (Nat.succ_ne_self v)

theorem Dev.holds.trig {code : Nat} {args : List Nat} (h : d.holds key v) (hkey : outsideRec key) :
    (d.trig code args).holds key v := by
  refine Dev.holds_of_probe ((Dev.trig_rdi d code args _ 0 ?_).trans ?_)
  · rw [Field.probe_key]
    exact hkey
  · refine Dev.holds.rdi ?_
    rw [Field.probe_key]
    exact h

/-- An index that is found is found in what is kept with it. -/
theorem lookupList_filter {α : Type} {k : Nat} {v : α} {p : Nat → Bool} (hk : p k = true) :
    ∀ {l : List (Nat × α)}, lookupList k l = some v → lookupList k (l.filter fun e => p e.1) = some v
  | [], h => nomatch h
  | (j, u) :: rest, h => by
    rw [lookupList] at h
    by_cases heq : k = j
    · subst heq
      rw [if_pos rfl] at h
      rw [List.filter_cons_of_pos (p := fun e : Nat × α => p e.1) hk, lookupList, if_pos rfl, h]
    · rw [if_neg heq] at h
      by_cases hlt : k < j
      · rw [if_pos hlt] at h
        exact nomatch h
      · rw [if_neg hlt] at h
        by_cases hj : p j = true
        · rw [List.filter_cons_of_pos (p := fun e : Nat × α => p e.1) hj, lookupList, if_neg heq, if_neg hlt]
          exact lookupList_filter hk h
        · rw [List.filter_cons_of_neg (p := fun e : Nat × α => p e.1) hj]
          exact lookupList_filter hk h

theorem Dev.holds.resetRange {lo hi : Nat} (h : d.holds key v) (hkey : ¬ (lo * 32 ≤ key % 2 ^ 37 ∧ key % 2 ^ 37 < hi * 32)) :
    (d.resetRange lo hi).holds key v := by
  refine lookupList_filter (p := fun k => !(decide (lo * 32 ≤ k % 2 ^ 37) && decide (k % 2 ^ 37 < hi * 32))) ?_ h
  rw [Bool.not_eq_true', Bool.and_eq_false_iff, decide_eq_false_iff_not, decide_eq_false_iff_not]
  exact Decidable.not_and_iff_or_not.mp hkey

end

/-! ### What the reset of a partition leaves -/

/-- An index of the block of the module's own faults. -/
def inFaults (key : Nat) : Prop := 0x40C00000 * 32 ≤ key ∧ key < 0x40C10000 * 32

/-- The field lies before the block of the module's own faults. -/
def Field.beforeFaults (f : Field) : Bool := f.bounded && decide (f.lastPlace < 0x40C00000 * 32)

/-- From `d` to `d'` the module's own faults stay: what the block keeps of them, and what their registers hold. -/
structure Dev.FaultsStay (d d' : Dev) : Prop where
  flt : d'.flt = d.flt
  holds : ∀ key v, inFaults key → d.holds key v → d'.holds key v

namespace Dev.FaultsStay

variable {d₀ d : Dev}

theorem refl (d : Dev) : d.FaultsStay d := ⟨rfl, fun _ _ _ h => h⟩

section
variable (h : d₀.FaultsStay d)
include h

theorem trans {e : Dev} (he : d.FaultsStay e) : d₀.FaultsStay e :=
  ⟨he.flt.trans h.flt, fun key v hkey hv => he.holds key v hkey (h.holds key v hkey hv)⟩

/-- A change beside the registers and the faults. -/
theorem but {mem out access free now fw recd deck beat trd sig ctx chan bank can tt swx brg nmw sht cpu key dbg upd pwr} :
    d₀.FaultsStay ⟨d.regs, mem, out, access, free, now, fw, recd, deck, beat, trd, sig, ctx, chan, bank, can, tt, swx, brg, nmw,
      sht, cpu, key, dbg, upd, pwr, d.flt⟩ := h.trans ⟨rfl, fun _ _ _ hv => hv⟩

theorem ite {c : Prop} [Decidable c] {a b : Dev} (ha : d₀.FaultsStay d → d₀.FaultsStay a)
    (hb : d₀.FaultsStay d → d₀.FaultsStay b) : d₀.FaultsStay (if c then a else b) := by
  split
  · exact ha h
  · exact hb h

theorem each {α : Type} {l : List α} {f : Dev → α → Dev}
    (hf : ∀ {e : Dev} {x : α}, d₀.FaultsStay e → d₀.FaultsStay (f e x)) : d₀.FaultsStay (d.each l f) :=
  List.foldlRecOn l f h fun _ he _ _ => hf he

theorem wri {f : Field} {i w : Nat} (hf : f.beforeFaults = true := by decide) : d₀.FaultsStay (d.wri f i w) := by
  refine h.trans ⟨rfl, fun key v hkey hv => hv.wri ?_⟩
  simp only [Field.beforeFaults, Bool.and_eq_true, decide_eq_true_eq] at hf
  have hlast := (Field.key_bounds hf.1 i).2
  obtain ⟨hlo, -⟩ := hkey
  omega

theorem wr {f : Field} {w : Nat} (hf : f.beforeFaults = true := by decide) : d₀.FaultsStay (d.wr f w) := h.wri hf

theorem trig {code : Nat} {args : List Nat} : d₀.FaultsStay (d.trig code args) :=
  h.trans ⟨Dev.trig_flt .., fun _ _ hkey hv => hv.trig (.inr (by obtain ⟨hlo, -⟩ := hkey; omega))⟩

theorem resetRange {lo hi : Nat} (hhi : hi ≤ 0x40C00000) : d₀.FaultsStay (d.resetRange lo hi) :=
  h.trans ⟨rfl, fun _ _ hkey hv => hv.resetRange (by obtain ⟨hlo, hup⟩ := hkey; omega)⟩

/-! ### Keys -/

theorem keyDropPending {k : Nat} : d₀.FaultsStay (d.keyDropPending k) := h.wri.ite id (·.but)

theorem factoryIdentity : d₀.FaultsStay d.factoryIdentity := (h.resetRange (by decide)).resetRange (by decide)

theorem keyClear {k code : Nat} : d₀.FaultsStay (d.keyClear k code) := (h.but.wri.wri.wri.ite (·.factoryIdentity) id).trig

theorem keyClearIdle {k : Nat} : d₀.FaultsStay (d.keyClearIdle k) := h.ite (·.ite (·.keyClear) (·.ite (·.keyClear) id)) id

theorem keyDone {n code : Nat} : d₀.FaultsStay (d.keyDone n code) :=
  (h.wri.wri.wri.wri.ite id (·.ite (·.wri) (·.wri))).ite (·.ite (·.wr) (·.wr)) id

theorem keyCountOut {k : Nat} : d₀.FaultsStay (d.keyCountOut k) := h.wri.keyClearIdle

theorem keyFail {n code : Nat} : d₀.FaultsStay (d.keyFail n code) :=
  h.ite (fun h => (h.ite (·.keyDropPending) (·.ite (·.but) id)).keyDone.ite (·.keyCountOut) id) id

theorem keyAbortOf {c : Nat} : d₀.FaultsStay (d.keyAbortOf c) := h.each (·.ite (·.keyFail) id)

/-! ### Reads through the bridge, bobbins and signals -/

theorem slotFree {s : Nat} : d₀.FaultsStay (d.slotFree s) := h.wri.wri.but.wr

theorem endRead {k : Work} : d₀.FaultsStay (d.endRead k) := h.ite (·.wri.wri.wri.but) (·.ite (·.wri.slotFree) id)

theorem endReadsIn {c w : Nat} : d₀.FaultsStay (d.endReadsIn c w) := by
  unfold Dev.endReadsIn
  extract_lets x mine d₁ d₂
  have h₁ : d₀.FaultsStay d₁ := h.each (·.endRead)
  have h₂ : d₀.FaultsStay d₂ := by
    unfold d₂
    split
    · exact h₁.ite (·.endRead) id
    · exact h₁
  exact h₂.but

theorem bridgeEndReads {c : Nat} : d₀.FaultsStay (d.bridgeEndReads c) := (h.each (·.endReadsIn)).each (·.wri.slotFree)

theorem bobEmpty {q : Nat} : d₀.FaultsStay (d.bobEmpty q) := h.wr.but.wri.wri.wri.wri

theorem resetSignals {c : Nat} : d₀.FaultsStay (d.resetSignals c) := h.each fun h => (h.ite id (·.but)).ite (·.but.but) id

/-! ### Contexts -/

theorem resetEffects {r : CtxRec} : d₀.FaultsStay (d.resetEffects r) :=
  (h.keyAbortOf.bridgeEndReads.each (·.bobEmpty)).resetSignals.ite (·.but) id

theorem ctxReset {c cause : Nat} : d₀.FaultsStay (d.ctxReset c cause) := by
  dsimp only [Dev.ctxReset]
  split
  · exact h
  · exact h.ite (fun h => ((h.ite (fun h => h.ite id (·.wri)) id).ite (·.but) id).wri.wri.but.resetEffects) (·.ite (·.but) id)

theorem resetBound {p : Nat → Bool} : d₀.FaultsStay (d.resetBound p) := h.each (·.ctxReset)

end

end Dev.FaultsStay

end Sys2Proof.Machine
end

section
/-! SUPPORT. Faults of the module's own parts (R555, R560, R563, R727 to R737). -/

namespace Sys2Proof.Machine

theorem exec_faultWindowClose (c : CounterId) (s : State) : exec (.faultWindowClose c) s = execFaultWindowClose c s := rfl
theorem exec_memoryRowFail (addr : Nat) (unc : Bool) (s : State) :
    exec (.memoryRowFail addr unc) s = execMemoryRowFail addr unc s := rfl
theorem exec_coreError (j : Nat) (s : State) : exec (.coreError j) s = execCoreError j s := rfl
theorem exec_lockstepMismatch (j : Nat) (s : State) : exec (.lockstepMismatch j) s = execLockstepMismatch j s := rfl
theorem exec_sramEccRead (addr n : Nat) (unc : Bool) (s : State) :
    exec (.sramEccRead addr n unc) s = execSramEccRead addr n unc s := rfl
theorem exec_sramScrub (cor unc : List Nat) (s : State) : exec (.sramScrub cor unc) s = execSramScrub cor unc s := rfl
theorem exec_canControllerError (u : Nat) (s : State) : exec (.canControllerError u) s = execCanControllerError u s := rfl
theorem exec_norVerifyFail (n : Nat) (s : State) : exec (.norVerifyFail n) s = execNorVerifyFail n s := rfl
theorem exec_busLinkCrcError (s : State) : exec .busLinkCrcError s = execBusLinkCrcError s := rfl

/-! ### Below the threshold and at it -/

section
variable {s : State} {j n u : Nat}

/-- A window that closes with the count at the threshold changes nothing. -/
theorem gives_faultWindowClose_reached {c : CounterId} (h : s.dev.threshOf c ≤ s.dev.fwCount c) :
    Gives (.faultWindowClose c) s s.dev := gives_onDev (exec_faultWindowClose c s) (if_pos (.inr h))

/-- A sector that failed its verify once is counted anew when its window closes. -/
theorem gives_faultWindowClose_nor (h : s.dev.fwCount (.nor n) = 1) :
    Gives (.faultWindowClose (.nor n)) s (s.dev.fwClear (.nor n)) := by
  refine gives_onDev (exec_faultWindowClose (.nor n) s) (if_neg ?_)
  rw [h]
  exact not_or_intro (by decide) (show ¬ 2 ≤ 1 by decide)

/-- The lasting fault's action, or the restart, of a core that replaces none. -/
theorem gives_coreError (hruns : s.dev.coreRuns = true) (hj : j < 5) (hn : s.dev.coreIndex j = some n)
    (hjoining : s.dev.joiningOf 1 j = none) : Gives (.coreError j) s
      (if s.dev.fwFires (.core j) 3 = true then
        (s.dev.fwEvent (.core j) 3).hartLasting (s.dev.fwEvent (.core j) 3).appKind j n
      else ((s.dev.fwEvent (.core j) 3).domainReset (3 + n)).restartLast 1 j) := by
  refine gives_onDev (exec_coreError j s) ((if_pos ⟨hruns, hj⟩).trans ?_)
  simp only [hn, hjoining]

theorem gives_coreError_spare {e : Nat × Nat × Nat × Nat} (hruns : s.dev.coreRuns = true) (hj : j < 5)
    (hn : s.dev.coreIndex j = some n) (he : s.dev.joiningOf 1 j = some e) :
    Gives (.coreError j) s (s.dev.spareFails s.dev.appKind e) := by
  refine gives_onDev (exec_coreError j s) ((if_pos ⟨hruns, hj⟩).trans ?_)
  simp only [hn, he]

/-- The same of a pair. -/
theorem gives_lockstepMismatch (hruns : s.dev.coreRuns = true) (hj : j < 5) (hn : s.dev.pairPart j = some n)
    (hjoining : s.dev.joiningOf 2 j = none) : Gives (.lockstepMismatch j) s
      (if s.dev.fwFires (.pair j) 3 = true then
        (s.dev.fwEvent (.pair j) 3).hartLasting (s.dev.fwEvent (.pair j) 3).rtKind j n
      else ((s.dev.fwEvent (.pair j) 3).resetBound (domainBinds (7 + n))).restartLast 2 j) := by
  refine gives_onDev (exec_lockstepMismatch j s) ((if_pos ⟨hruns, hj⟩).trans ?_)
  simp only [hn, Dev.pairEvent, hjoining]

theorem gives_lockstepMismatch_spare {e : Nat × Nat × Nat × Nat} (hruns : s.dev.coreRuns = true) (hj : j < 5)
    (hn : s.dev.pairPart j = some n) (he : s.dev.joiningOf 2 j = some e) :
    Gives (.lockstepMismatch j) s (s.dev.spareFails s.dev.rtKind e) := by
  refine gives_onDev (exec_lockstepMismatch j s) ((if_pos ⟨hruns, hj⟩).trans ?_)
  simp only [hn, Dev.pairEvent, he]

/-- A controller of a block of its own restarts, or its lasting fault's action is taken. -/
theorem gives_canControllerError (hruns : s.dev.coreRuns = true) (hu : u < 24) (hserved : s.dev.servedBy u = some u) :
    Gives (.canControllerError u) s (if s.dev.fwFires (.can u) 3 = true then (s.dev.fwEvent (.can u) 3).canLasting u u
      else (((s.dev.fwEvent (.can u) 3).imageCan u).canLeave u).restartLast 3 u) := by
  have hunit : ¬ ((!s.dev.coreRuns) = true ∨ 26 ≤ u) := by
    rw [hruns, Bool.not_true]
    exact not_or_intro (by decide) (by omega)
  refine gives_onDev (exec_canControllerError u s) ((if_neg hunit).trans ?_)
  rw [hserved]
  exact if_neg fun h => absurd h.1 (by omega)

/-- A sector that fails its verify is counted, and at the threshold with no spare sector left it goes out of use. -/
theorem gives_norVerifyFail (hruns : s.dev.coreRuns = true) (hn : n < 2048) (hfires : s.dev.fwFires (.nor n) 2 = false) :
    Gives (.norVerifyFail n) s (s.dev.fwEvent (.nor n) 2) := by
  have hsector : ¬ ((!s.dev.coreRuns) = true ∨ 2048 ≤ n) := by
    rw [hruns, Bool.not_true]
    exact not_or_intro (by decide) (by omega)
  exact gives_onDev (exec_norVerifyFail n s) ((if_neg hsector).trans (if_pos (by rw [hfires]; rfl)))

theorem gives_norVerifyFail_exhausted (hruns : s.dev.coreRuns = true) (hn : n < 2048)
    (hfires : s.dev.fwFires (.nor n) 2 = true) (hspares : (s.dev.fwEvent (.nor n) 2).rd FLT_STAT_NORSP = 0) :
    Gives (.norVerifyFail n) s ((((s.dev.fwEvent (.nor n) 2).lasting 5 4 n).exhausted n).latchOff n) := by
  have hsector : ¬ ((!s.dev.coreRuns) = true ∨ 2048 ≤ n) := by
    rw [hruns, Bool.not_true]
    exact not_or_intro (by decide) (by omega)
  exact gives_onDev (exec_norVerifyFail n s)
    ((if_neg hsector).trans ((if_neg (by rw [hfires]; decide)).trans (if_neg (by rw [hspares]; decide))))

/-- The bus link counts its repeated frames; at the threshold, the third of its resets latches the bus die off. -/
theorem gives_busLinkCrcError (hruns : s.dev.coreRuns = true) (hheld : s.dev.flt.busHeld = false)
    (hfires : s.dev.fwFires .busLink 16 = false) : Gives .busLinkCrcError s (s.dev.fwEvent .busLink 16) := by
  have hlink : ¬ ((!s.dev.coreRuns) = true ∨ s.dev.flt.busHeld = true) := by rw [hruns, hheld]; decide
  exact gives_onDev (exec_busLinkCrcError s) ((if_neg hlink).trans (if_pos (by rw [hfires]; rfl)))

theorem gives_busLinkCrcError_third (hruns : s.dev.coreRuns = true) (hheld : s.dev.flt.busHeld = false)
    (hfires : s.dev.fwFires .busLink 16 = true) (hthird : (s.dev.fwEvent .busLink 16).fwFires .busReset 3 = true) :
    Gives .busLinkCrcError s (((s.dev.fwEvent .busLink 16).lasting 6 3 0).busDieReset) := by
  have hlink : ¬ ((!s.dev.coreRuns) = true ∨ s.dev.flt.busHeld = true) := by rw [hruns, hheld]; decide
  exact gives_onDev (exec_busLinkCrcError s)
    ((if_neg hlink).trans ((if_neg (by rw [hfires]; decide)).trans (if_pos hthird)))

/-- A pass over system SRAM finds one word. -/
theorem gives_sramScrub {a : Nat} (hruns : s.dev.coreRuns = true) (hlo : 0x20000000 ≤ a) (hhi : a < 0x20A00000) :
    Gives (.sramScrub [a] []) s (s.dev.sramCorrected a) ∧ Gives (.sramScrub [] [a]) s (s.dev.sramUncorrectable a) := by
  constructor
  · refine gives_onDev (exec_sramScrub [a] [] s) ((if_pos hruns).trans ?_)
    simp only [List.filter_cons, List.filter_nil, hlo, hhi, decide_true, Bool.and_true, if_true]
    rfl
  · refine gives_onDev (exec_sramScrub [] [a] s) ((if_pos hruns).trans ?_)
    simp only [List.filter_cons, List.filter_nil, hlo, hhi, decide_true, Bool.and_true, if_true]
    rfl

end

/-! ### The counters of cores and pairs -/

/-- The third event of a core shows in its counter alone. -/
theorem Dev.fwEvent_core (d : Dev) {j : Nat} (h : d.fwCount (.core j) = 2) :
    d.fwEvent (.core j) 3 = (d.wri FLT_CORECNT_COUNT j 3).wri FLT_CORECNT_REACHED j 1 := by
  rw [Dev.fwEvent, h]
  rfl

theorem Dev.fwEvent_pair (d : Dev) {j : Nat} (h : d.fwCount (.pair j) = 2) :
    d.fwEvent (.pair j) 3 = (d.wri FLT_PAIRCNT_COUNT j 3).wri FLT_PAIRCNT_REACHED j 1 := by
  rw [Dev.fwEvent, h]
  rfl

/-! ### Lasting faults of harts -/

/-- FLT_LAST names a fault (R745). -/
def Dev.lastHolds (d : Dev) (kind action unit : Nat) : Prop :=
  d.holds (FLT_LAST_KIND.key 0) kind ∧ d.holds (FLT_LAST_ACTION.key 0) action ∧ d.holds (FLT_LAST_UNIT.key 0) unit

section
variable {d : Dev} {kind action unit : Nat}

theorem Dev.lasting_lastHolds (hkind : kind < 16) (haction : action < 8) (hunit : unit < 65536) :
    (d.lasting kind action unit).lastHolds kind action unit := by
  have hk : kind % 2 ^ FLT_LAST_KIND.width = kind := Nat.mod_eq_of_lt hkind
  have ha : action % 2 ^ FLT_LAST_ACTION.width = action := Nat.mod_eq_of_lt haction
  have hu : unit % 2 ^ FLT_LAST_UNIT.width = unit := Nat.mod_eq_of_lt hunit
  have hout (g : Field) (hg : g.besideRec = true) := outsideRec_of_besideRec hg 0
  refine ⟨(Dev.holds.trig ?_ (hout FLT_LAST_KIND (by decide))), (Dev.holds.trig ?_ (hout FLT_LAST_ACTION (by decide))),
    (Dev.holds.trig ?_ (hout FLT_LAST_UNIT (by decide)))⟩
  · have hset := Dev.holds_wri (d.setBit FLT_EVT_REACHED 0 kind) FLT_LAST_KIND 0 kind
    rw [hk] at hset
    exact (hset.wri_apart (f := FLT_LAST_ACTION) (by decide)).wri_apart (f := FLT_LAST_UNIT) (by decide)
  · have hset := Dev.holds_wri ((d.setBit FLT_EVT_REACHED 0 kind).wr FLT_LAST_KIND kind) FLT_LAST_ACTION 0 action
    rw [ha] at hset
    exact hset.wri_apart (f := FLT_LAST_UNIT) (by decide)
  · have hset := Dev.holds_wri (((d.setBit FLT_EVT_REACHED 0 kind).wr FLT_LAST_KIND kind).wr FLT_LAST_ACTION action)
      FLT_LAST_UNIT 0 unit
    rw [hu] at hset
    exact hset

theorem Dev.lastHolds.stay {e : Dev} (h : d.lastHolds kind action unit) (he : d.FaultsStay e) : e.lastHolds kind action unit :=
  ⟨he.holds _ _ ⟨by decide, by decide⟩ h.1, he.holds _ _ ⟨by decide, by decide⟩ h.2.1,
    he.holds _ _ ⟨by decide, by decide⟩ h.2.2⟩

theorem Dev.lastHolds.wri {f : Field} {i v : Nat} (h : d.lastHolds kind action unit)
    (hf : (FLT_LAST_KIND.apart f && FLT_LAST_ACTION.apart f && FLT_LAST_UNIT.apart f) = true := by decide) :
    (d.wri f i v).lastHolds kind action unit := by
  simp only [Bool.and_eq_true] at hf
  obtain ⟨⟨hkind, haction⟩, hunit⟩ := hf
  exact ⟨h.1.wri_apart hkind, h.2.1.wri_apart haction, h.2.2.wri_apart hunit⟩

theorem Dev.lastHolds.trig {code : Nat} {args : List Nat} (h : d.lastHolds kind action unit) :
    (d.trig code args).lastHolds kind action unit :=
  ⟨h.1.trig (outsideRec_of_besideRec (by decide) 0), h.2.1.trig (outsideRec_of_besideRec (by decide) 0),
    h.2.2.trig (outsideRec_of_besideRec (by decide) 0)⟩

theorem Dev.lastHolds.exhausted {u : Nat} (h : d.lastHolds kind action unit) : (d.exhausted u).lastHolds kind action unit :=
  (h.wri (f := FLT_EVT_EXHAUST)).trig

theorem Dev.lastHolds.latchOff {u : Nat} (h : d.lastHolds kind action unit) : (d.latchOff u).lastHolds kind action unit :=
  (h.wri (f := FLT_EVT_LATCHOFF)).trig

theorem Dev.lastHolds.shows (h : d.lastHolds kind action unit) :
    d.rd FLT_LAST_KIND = kind ∧ d.rd FLT_LAST_ACTION = action ∧ d.rd FLT_LAST_UNIT = unit := ⟨h.1.rd, h.2.1.rd, h.2.2.rd⟩

end

/-- The block of a lasting fault of a hart whose failure has been marked and whose place in the map is `m` (R560). -/
def Dev.hartMarked (d : Dev) (k : HartKind) (action j n m : Nat) : Dev :=
  (((d.lasting k.kind action j).resetBound (domainBinds (k.low + n))).setBit k.fail 0 j).wr k.map m

/-- The places of the logical harts once physical hart `j`, logical `n`, has failed and `spare` takes its place (R560, R567). -/
def Dev.hartPlaces (d : Dev) (k : HartKind) (action j n : Nat) (spare : Option Nat) : Nat :=
  hartMap (activeSet k.mask ((((d.lasting k.kind action j).resetBound (domainBinds (k.low + n))).setBit k.fail 0 j).rd k.fail))
    fun i => if i = n then spare else (activeSet k.mask (d.rd k.fail))[d.rd k.map / 4 ^ i % 4]?

section
variable {d : Dev} {k : HartKind} {j n : Nat}

theorem Dev.hartLasting_gone (h : d.idleSpare k = none) :
    ∃ m, d.hartLasting k j n = (d.hartMarked k acEXHAUST j n m).hartGone k n j := by
  refine ⟨d.hartPlaces k acEXHAUST j n none, ?_⟩
  simp only [Dev.hartLasting, h]
  rfl

/-- The spare takes the place of a marked hart (R560). -/
def Dev.hartReplaced (d : Dev) (k : HartKind) (n j p : Nat) : Dev :=
  let d := d.clrBit SYSCTL_CPUMAP_SPARES 0 k.spareBit
  let d := ((d.resetRange (0x40004000 + 0x20 * n) (0x40004020 + 0x20 * n)).memForget (0x20A00000 + 0x80000 * n)
    (0x20A80000 + 0x80000 * n)).showBinds
  let d := (d.setPwr { d.pwr with resetting := d.pwr.resetting.filter (· ≠ k.low + n) }).setBit PWR_STAT_DOMON 0 (k.low + n)
  { d with flt := { d.flt with joining := d.flt.joining ++ [(k.kind, n, j, p)] } }

theorem Dev.hartLasting_replaced {p : Nat} (hkind : k.kind = 2) (h : d.idleSpare k = some p) :
    ∃ m, d.hartLasting k j n = (d.hartMarked k acSUBST j n m).hartReplaced k n j p := by
  refine ⟨d.hartPlaces k acSUBST j n (some p), ?_⟩
  simp only [Dev.hartLasting, h, hkind, if_true, Option.isSome_some]
  simp only [Dev.hartReplaced, Dev.hartMarked, Dev.hartPlaces, hkind]

/-- A marked hart stands in FLT_LAST, and its substitutions are those there were. -/
theorem Dev.hartMarked_last {action m : Nat} (hkind : k.kind < 16) (haction : action < 8) (hj : j < 65536)
    (hfail : (FLT_LAST_KIND.apart k.fail && FLT_LAST_ACTION.apart k.fail && FLT_LAST_UNIT.apart k.fail) = true)
    (hmap : (FLT_LAST_KIND.apart k.map && FLT_LAST_ACTION.apart k.map && FLT_LAST_UNIT.apart k.map) = true) :
    (d.hartMarked k action j n m).lastHolds k.kind action j :=
  (((Dev.lasting_lastHolds hkind haction hj).stay (Dev.FaultsStay.refl _).resetBound).wri hfail).wri hmap

theorem Dev.hartMarked_flt {action m : Nat} : (d.hartMarked k action j n m).flt = d.flt :=
  (Dev.FaultsStay.refl (d.lasting k.kind action j)).resetBound.flt.trans (Dev.trig_flt ..)

/-- Bit `j` of a field of five bits, once it has been set. -/
theorem testBit_set_five (v : Nat) {j : Nat} (hj : j < 5) : ((v ||| 2 ^ j) % 2 ^ 5).testBit j = true := by
  rw [Nat.testBit_mod_two_pow, Nat.testBit_or, Nat.testBit_two_pow_self, Bool.or_true, decide_eq_true hj]
  rfl

/-- A failed hart's bit is set, in the register file itself. -/
theorem Dev.hartMarked_failed {action m : Nat} (hfail : k.fail.apart k.map = true) : ∃ v,
    (d.hartMarked k action j n m).holds (k.fail.key 0) ((v ||| 2 ^ j) % 2 ^ k.fail.width) :=
  ⟨_, (Dev.holds_wri _ k.fail 0 _).wri_apart hfail⟩

end

/-! ### A core without a spare -/

/-- A core that fails with no spare left stays halted: it is marked failed, and both events of FLT_EVT are raised (R561). -/
theorem Dev.coreGone_spec {d : Dev} {j n m : Nat} (hj : j < 5) :
    ((d.hartMarked d.appKind acEXHAUST j n m).hartGone d.appKind n j).bit SYSCTL_CPUMAP_FAILAPP 0 j = true ∧
    ((d.hartMarked d.appKind acEXHAUST j n m).hartGone d.appKind n j).rd FLT_EVT_EXHAUST = 1 ∧
    ((d.hartMarked d.appKind acEXHAUST j n m).hartGone d.appKind n j).rd FLT_EVT_LATCHOFF = 1 ∧
    ((d.hartMarked d.appKind acEXHAUST j n m).hartGone d.appKind n j).lastHolds 1 4 j := by
  obtain ⟨v, hv⟩ := Dev.hartMarked_failed (d := d) (k := d.appKind) (j := j) (n := n) (action := acEXHAUST) (m := m)
    (show SYSCTL_CPUMAP_FAILAPP.apart SYSCTL_CPUMAP_APPMAP = true by decide)
  have hlast : (d.hartMarked d.appKind acEXHAUST j n m).lastHolds 1 4 j :=
    Dev.hartMarked_last (k := d.appKind) (action := acEXHAUST) (show 1 < 16 by decide) (by decide) (by omega)
      (show (FLT_LAST_KIND.apart SYSCTL_CPUMAP_FAILAPP && FLT_LAST_ACTION.apart SYSCTL_CPUMAP_FAILAPP &&
        FLT_LAST_UNIT.apart SYSCTL_CPUMAP_FAILAPP) = true by decide)
      (show (FLT_LAST_KIND.apart SYSCTL_CPUMAP_APPMAP && FLT_LAST_ACTION.apart SYSCTL_CPUMAP_APPMAP &&
        FLT_LAST_UNIT.apart SYSCTL_CPUMAP_APPMAP) = true by decide)
  rw [Dev.hartGone]
  refine ⟨?_, ?_, ?_, Dev.lastHolds.latchOff (Dev.lastHolds.exhausted hlast)⟩
  · have hfailed : (((d.hartMarked d.appKind acEXHAUST j n m).stopBound (domainBinds (d.appKind.low + n)))).holds
        (SYSCTL_CPUMAP_FAILAPP.key 0) ((v ||| 2 ^ j) % 2 ^ 5) := hv
    have hbeside := outsideRec_of_besideRec (g := SYSCTL_CPUMAP_FAILAPP) (by decide) 0
    have hgone := (((hfailed.wri_apart (f := FLT_EVT_EXHAUST) (i := 0) (w := 1) (by decide)).trig (code := 0x0703)
      (args := [j]) hbeside).wri_apart (f := FLT_EVT_LATCHOFF) (i := 0) (w := 1) (by decide)).trig (code := 0x0704)
      (args := [j]) hbeside
    rw [Dev.bit]
    exact (congrArg (·.testBit j) hgone.rdi).trans (testBit_set_five v hj)
  · rw [Dev.latchOff, Dev.trig_rd_beside _ (by decide), Dev.rd_wr_apart _ (by decide), Dev.exhausted,
      Dev.trig_rd_beside _ (by decide), Dev.rd_wr_self]
    rfl
  · rw [Dev.latchOff, Dev.trig_rd_beside _ (by decide), Dev.rd_wr_self]
    rfl

/-! ### A pair with a spare -/

/-- Bit 0 of a field of four bits, once it has been cleared. -/
theorem testBit_clear_zero (v : Nat) : ((if v.testBit 0 then v - 2 ^ 0 else v) % 2 ^ 4).testBit 0 = false := by
  cases hv : v.testBit 0
  · rw [if_neg (by decide), Nat.testBit_mod_two_pow, hv, Bool.and_false]
  · rw [if_pos rfl]
    simp only [Nat.testBit_zero, decide_eq_true_eq, decide_eq_false_iff_not] at hv ⊢
    omega

/-- A register of the CPU map or of the faults keeps its value while the spare takes the place. -/
theorem Dev.holds.replaced {d : Dev} {f : Field} {n v : Nat} {k : HartKind} {j p : Nat} (hn : n < 4)
    (h : (d.clrBit SYSCTL_CPUMAP_SPARES 0 k.spareBit).holds (f.key 0) v)
    (hf : (f.apart CTX_HART_BIND && f.apart PWR_STAT_DOMON && f.bounded) = true)
    (hplace : f.lastPlace < 0x40004000 * 32 ∨ 0x40005000 * 32 ≤ f.place) (hhart : f.lastPlace < 2 ^ 37) :
    (d.hartReplaced k n j p).holds (f.key 0) v := by
  simp only [Bool.and_eq_true] at hf
  obtain ⟨⟨hbind, hdomon⟩, hbounded⟩ := hf
  obtain ⟨hlo, hhi⟩ := Field.key_bounds hbounded 0
  have hforgot := h.resetRange (lo := 0x40004000 + 0x20 * n) (hi := 0x40004020 + 0x20 * n) (by omega)
  refine Dev.holds.wri_apart (f := PWR_STAT_DOMON) ?_ hdomon
  exact List.foldlRecOn (motive := fun e : Dev => e.holds (f.key 0) v) _ _ hforgot fun e he x _ => he.wri_apart hbind

theorem Dev.lastHolds.replaced {d : Dev} {n kind action unit : Nat} {k : HartKind} {j p : Nat} (hn : n < 4)
    (h : d.lastHolds kind action unit) : (d.hartReplaced k n j p).lastHolds kind action unit := by
  obtain ⟨hkind, haction, hunit⟩ : (d.clrBit SYSCTL_CPUMAP_SPARES 0 k.spareBit).lastHolds kind action unit := h.wri
  exact ⟨hkind.replaced hn (by decide) (.inr (by decide)) (by decide),
    haction.replaced hn (by decide) (.inr (by decide)) (by decide),
    hunit.replaced hn (by decide) (.inr (by decide)) (by decide)⟩

theorem Dev.showBinds_flt (d : Dev) : d.showBinds.flt = d.flt :=
  List.foldlRecOn (motive := fun e : Dev => e.flt = d.flt) _ _ rfl fun _ he _ _ => he

theorem Dev.hartReplaced_joining (d : Dev) (k : HartKind) (n j p : Nat) :
    (d.hartReplaced k n j p).flt.joining = d.flt.joining ++ [(k.kind, n, j, p)] :=
  congrArg (fun x : FltState => x.joining ++ [(k.kind, n, j, p)]) (Dev.showBinds_flt _)

/-- A pair that fails is marked failed, the spare joins in its place, and FLT_LAST names the substitution (R560). -/
theorem Dev.pairReplaced_spec {d : Dev} {j n m p : Nat} (hj : j < 5) (hn : n < 4) :
    ((d.hartMarked d.rtKind acSUBST j n m).hartReplaced d.rtKind n j p).bit SYSCTL_CPUMAP_FAILRT 0 j = true ∧
    ((d.hartMarked d.rtKind acSUBST j n m).hartReplaced d.rtKind n j p).bit SYSCTL_CPUMAP_SPARES 0 0 = false ∧
    ((d.hartMarked d.rtKind acSUBST j n m).hartReplaced d.rtKind n j p).flt.joining = d.flt.joining ++ [(2, n, j, p)] ∧
    ((d.hartMarked d.rtKind acSUBST j n m).hartReplaced d.rtKind n j p).lastHolds 2 1 j := by
  obtain ⟨v, hv⟩ := Dev.hartMarked_failed (d := d) (k := d.rtKind) (j := j) (n := n) (action := acSUBST) (m := m)
    (show SYSCTL_CPUMAP_FAILRT.apart SYSCTL_CPUMAP_RTMAP = true by decide)
  have hlast : (d.hartMarked d.rtKind acSUBST j n m).lastHolds 2 1 j :=
    Dev.hartMarked_last (k := d.rtKind) (action := acSUBST) (show 2 < 16 by decide) (by decide) (by omega)
      (show (FLT_LAST_KIND.apart SYSCTL_CPUMAP_FAILRT && FLT_LAST_ACTION.apart SYSCTL_CPUMAP_FAILRT &&
        FLT_LAST_UNIT.apart SYSCTL_CPUMAP_FAILRT) = true by decide)
      (show (FLT_LAST_KIND.apart SYSCTL_CPUMAP_RTMAP && FLT_LAST_ACTION.apart SYSCTL_CPUMAP_RTMAP &&
        FLT_LAST_UNIT.apart SYSCTL_CPUMAP_RTMAP) = true by decide)
  refine ⟨?_, ?_, ?_, hlast.replaced hn⟩
  · have hfailed : ((d.hartMarked d.rtKind acSUBST j n m).clrBit SYSCTL_CPUMAP_SPARES 0 d.rtKind.spareBit).holds
        (SYSCTL_CPUMAP_FAILRT.key 0) ((v ||| 2 ^ j) % 2 ^ 5) := Dev.holds.wri_apart (g := SYSCTL_CPUMAP_FAILRT) hv (by decide)
    rw [Dev.bit, (hfailed.replaced (f := SYSCTL_CPUMAP_FAILRT) hn (by decide) (.inl (by decide)) (by decide)).rdi]
    exact testBit_set_five v hj
  · have hspares := Dev.holds_wri (d.hartMarked d.rtKind acSUBST j n m) SYSCTL_CPUMAP_SPARES 0
      (if ((d.hartMarked d.rtKind acSUBST j n m).rdi SYSCTL_CPUMAP_SPARES 0).testBit 0
        then (d.hartMarked d.rtKind acSUBST j n m).rdi SYSCTL_CPUMAP_SPARES 0 - 2 ^ 0
        else (d.hartMarked d.rtKind acSUBST j n m).rdi SYSCTL_CPUMAP_SPARES 0)
    rw [Dev.bit, (Dev.holds.replaced (f := SYSCTL_CPUMAP_SPARES) (k := d.rtKind) hn hspares (by decide) (.inl (by decide))
      (by decide)).rdi]
    exact testBit_clear_zero _
  · rw [Dev.hartReplaced_joining, Dev.hartMarked_flt]
    rfl

/-- A partition is one of four. -/
theorem Dev.pairPart_lt {d : Dev} {j n : Nat} (h : d.pairPart j = some n) : n < 4 := by
  rw [Dev.pairPart] at h
  exact List.mem_range.mp (List.mem_of_find?_eq_some h)

/-- The event of a hart's counter leaves the hart's kind and its spare. -/
theorem Dev.idleSpare_eq {d e : Dev} {k : HartKind} (hspares : e.rd SYSCTL_CPUMAP_SPARES = d.rd SYSCTL_CPUMAP_SPARES)
    (hfail : e.rd k.fail = d.rd k.fail) : e.idleSpare k = d.idleSpare k := by
  rw [Dev.idleSpare, Dev.idleSpare, Dev.bit, Dev.bit, hfail,
    show e.rdi SYSCTL_CPUMAP_SPARES 0 = d.rdi SYSCTL_CPUMAP_SPARES 0 from hspares]

/-- The third event of a core leaves its kind's spare. -/
theorem Dev.fwEvent_core_idleSpare {d : Dev} {j : Nat} (h : d.fwCount (.core j) = 2) :
    (d.fwEvent (.core j) 3).idleSpare (d.fwEvent (.core j) 3).appKind = d.idleSpare d.appKind := by
  rw [Dev.fwEvent_core d h]
  exact Dev.idleSpare_eq (d := d) (k := d.appKind)
    ((Dev.rd_wri_apart (g := SYSCTL_CPUMAP_SPARES) _ (by decide) _ _).trans (Dev.rd_wri_apart _ (by decide) _ _))
    ((Dev.rd_wri_apart (g := SYSCTL_CPUMAP_FAILAPP) _ (by decide) _ _).trans (Dev.rd_wri_apart _ (by decide) _ _))

theorem Dev.fwEvent_pair_idleSpare {d : Dev} {j : Nat} (h : d.fwCount (.pair j) = 2) :
    (d.fwEvent (.pair j) 3).idleSpare (d.fwEvent (.pair j) 3).rtKind = d.idleSpare d.rtKind := by
  rw [Dev.fwEvent_pair d h]
  exact Dev.idleSpare_eq (d := d) (k := d.rtKind)
    ((Dev.rd_wri_apart (g := SYSCTL_CPUMAP_SPARES) _ (by decide) _ _).trans (Dev.rd_wri_apart _ (by decide) _ _))
    ((Dev.rd_wri_apart (g := SYSCTL_CPUMAP_FAILRT) _ (by decide) _ _).trans (Dev.rd_wri_apart _ (by decide) _ _))

theorem Dev.fwEvent_pair_flt {d : Dev} {j : Nat} (h : d.fwCount (.pair j) = 2) : (d.fwEvent (.pair j) 3).flt = d.flt := by
  rw [Dev.fwEvent_pair d h]
  rfl

end Sys2Proof.Machine
end

section
/-! SUPPORT. What a row's error and the stop of the core die leave: memory, the power state, and what the recorder has saved for the
next start (R563, R643, R644, R715). -/

namespace Sys2Proof.Machine

/-- From `d` to `d'` memory, the power state and what the recorder has saved for the next start stay. -/
structure Dev.SavedStays (d d' : Dev) : Prop where
  mem : d'.mem = d.mem
  pwr : d'.pwr = d.pwr
  cycles : d'.recd.savedPwrcyc = d.recd.savedPwrcyc
  optime : d'.recd.savedOptime = d.recd.savedOptime
  mark : d'.recd.cleanMark = d.recd.cleanMark

namespace Dev.SavedStays

variable {d₀ d : Dev}

theorem refl (d : Dev) : d.SavedStays d := ⟨rfl, rfl, rfl, rfl, rfl⟩

section
variable (h : d₀.SavedStays d)
include h

/-- A change beside memory, the power state and the recorder. -/
theorem but {regs out access free now fw deck beat trd sig ctx chan bank can tt swx brg nmw sht cpu key dbg upd flt} :
    d₀.SavedStays ⟨regs, d.mem, out, access, free, now, fw, d.recd, deck, beat, trd, sig, ctx, chan, bank, can, tt, swx, brg, nmw,
      sht, cpu, key, dbg, upd, d.pwr, flt⟩ := ⟨h.mem, h.pwr, h.cycles, h.optime, h.mark⟩

theorem ite {c : Prop} [Decidable c] {a b : Dev} (ha : d₀.SavedStays d → d₀.SavedStays a)
    (hb : d₀.SavedStays d → d₀.SavedStays b) : d₀.SavedStays (if c then a else b) := by
  split
  · exact ha h
  · exact hb h

theorem each {α : Type} {l : List α} {f : Dev → α → Dev}
    (hf : ∀ {e : Dev} {x : α}, d₀.SavedStays e → d₀.SavedStays (f e x)) : d₀.SavedStays (d.each l f) :=
  List.foldlRecOn l f h fun _ he _ _ => hf he

theorem wri {f : Field} {i v : Nat} : d₀.SavedStays (d.wri f i v) := h.but
theorem wr {f : Field} {v : Nat} : d₀.SavedStays (d.wr f v) := h.but
theorem inci {f : Field} {i : Nat} : d₀.SavedStays (d.inci f i) := h.but
theorem inc {f : Field} : d₀.SavedStays (d.inc f) := h.but
theorem setBit {f : Field} {i n : Nat} : d₀.SavedStays (d.setBit f i n) := h.but
theorem clrBit {f : Field} {i n : Nat} : d₀.SavedStays (d.clrBit f i n) := h.but

/-! ### Counters and the recorder -/

theorem fwLeft {c : CounterId} {count : Nat} : d₀.SavedStays (d.fwLeft c count) := by
  dsimp only [Dev.fwLeft]
  split
  · exact h.ite (·.wri) (·.ite (·.wri) id)
  · exact h

theorem fwSet {c : CounterId} {count : Nat} {reached : Bool} : d₀.SavedStays (d.fwSet c count reached) := by
  dsimp only [Dev.fwSet]
  split
  · exact h.fwLeft.wri.wri
  · exact h.fwLeft.wri
  · exact h.fwLeft.but

theorem fwEvent {c : CounterId} {thresh : Nat} : d₀.SavedStays (d.fwEvent c thresh) := h.ite id (·.fwSet)
theorem fwClear {c : CounterId} : d₀.SavedStays (d.fwClear c) := h.fwSet

theorem setTokens {code n : Nat} : d₀.SavedStays (d.setTokens code n) := by
  dsimp only [Dev.setTokens]
  split
  · exact h.wri
  · exact h.wr

theorem setSuppCnt {code n : Nat} : d₀.SavedStays (d.setSuppCnt code n) := by
  dsimp only [Dev.setSuppCnt]
  split
  · exact h.wri
  · exact h.wr

theorem staging {l : List Staged} {lost : Bool} :
    d₀.SavedStays { d with recd := { d.recd with staged := l, lostPending := lost } } := ⟨h.mem, h.pwr, h.cycles, h.optime, h.mark⟩

theorem stage {r : Staged} : d₀.SavedStays (d.stage r) := h.ite (·.staging.wr) (·.staging.inc.wr)

theorem trigWith {code : Nat} {args : List Nat} {flags optime : Nat} : d₀.SavedStays (d.trigWith code args flags optime) :=
  h.ite (·.ite (·.setSuppCnt.inc.wr) (·.setTokens.setSuppCnt.stage)) (·.setSuppCnt.stage)

theorem trig {code : Nat} {args : List Nat} : d₀.SavedStays (d.trig code args) := h.trigWith

theorem lasting {kind action unit : Nat} : d₀.SavedStays (d.lasting kind action unit) := h.setBit.wr.wr.wr.trig
theorem exhausted {unit : Nat} : d₀.SavedStays (d.exhausted unit) := h.wr.trig

/-! ### Notices and broken promises -/

theorem noticeShow {b : Nat} : d₀.SavedStays (d.noticeShow b) := by
  dsimp only [Dev.noticeShow]
  split
  · exact h.wri.wri.wri
  · exact h.wri.wri.wri

theorem noticeTo {b : Nat} {n : Notice} : d₀.SavedStays (d.noticeTo b n) := h.ite (·.but.noticeShow) (·.inci.wr)

theorem notice {c kind cls detail : Nat} : d₀.SavedStays (d.notice c kind cls detail) := by
  dsimp only [Dev.notice]
  split
  · exact h.noticeTo
  · exact h

theorem c0Conflict {c kind : Nat} : d₀.SavedStays (d.c0Conflict c kind) := h.wr.inc.but.notice.trig

theorem breach {kind owner cls noticeKind detail code : Nat} {args : List Nat} :
    d₀.SavedStays (d.breach kind owner cls noticeKind detail code args) := h.inci.wr.notice.trig.ite (·.c0Conflict) id

/-! ### Memory rows -/

theorem bobDropNewest {q : Nat} : d₀.SavedStays (d.bobDropNewest q) := by
  dsimp only [Dev.bobDropNewest]
  split
  · exact h
  · exact h.but

theorem reclaim {q : Nat} : d₀.SavedStays (d.reclaim q) := h.each (·.ite (·.bobDropNewest) id)

theorem shrinkDepth {q cls owner : Nat} : d₀.SavedStays (d.shrinkDepth q cls owner) :=
  h.ite id fun h => (h.wri.wr.each (·.ite (·.bobDropNewest) id)).wri.breach

theorem poolFit : d₀.SavedStays d.poolFit := (h.each (·.reclaim)).each (·.shrinkDepth)
theorem swxFit : d₀.SavedStays d.swxFit := h.but.each (·.ite id (·.wri.wr.wr.breach))
theorem repairShow : d₀.SavedStays d.repairShow := (h.wr.wr.wr.wr.each (·.wri)).wr.wr

theorem follow {r : Nat} : d₀.SavedStays (d.follow r) := by
  refine h.ite id fun h => h.ite (·.but) fun h => ?_
  split
  · exact h.fwClear.but
  · exact h

theorem rowRepair {r : Nat} : d₀.SavedStays (d.rowRepair r) :=
  (show d₀.SavedStays d.fresh from h.but).lasting.fwClear.but.repairShow.inc.wr.trig

theorem rowExhausted {r : Nat} : d₀.SavedStays (d.rowExhausted r) := by
  unfold Dev.rowExhausted
  exact (show d₀.SavedStays d.fresh from h.but).lasting.exhausted.ite (·.but.repairShow.poolFit.trig)
    (·.ite (·.but.repairShow.swxFit.trig) id)

theorem rowEvent {a n : Nat} : d₀.SavedStays (d.rowEvent a n) := by
  unfold Dev.rowEvent
  exact h.ite id fun h => (h.wr.follow.each (·.fwEvent)).ite (·.ite (·.rowRepair) (·.rowExhausted)) id

theorem sramCorrected {a : Nat} : d₀.SavedStays (d.sramCorrected a) := h.inc.rowEvent

/-! ### Outputs and sessions as the core die stops -/

theorem openFault {init : Nat} : d₀.SavedStays (d.openFault init) := h.ite (·.but) id
theorem openSignals : d₀.SavedStays d.openSignals := (h.each (·.openFault)).but
theorem openBridge : d₀.SavedStays d.openBridge := h.each (·.openFault)
theorem sessionEnd {s reason : Nat} : d₀.SavedStays (d.sessionEnd s reason) := h.ite (·.wri.wri.wri.wri.wri.wr.but.wr.trig) id
theorem bankRec {b code : Nat} {args : List Nat} : d₀.SavedStays (d.bankRec b code args) := h.ite (·.ite (·.but) (·.inci)) (·.trig)

theorem periodPast {m : Nat} : d₀.SavedStays (d.periodPast m) := h.ite (·.but.but) id
theorem chOnEdge {m : Nat} : d₀.SavedStays (d.chOnEdge m) := h.but.ite (·.but.ite (·.wri.but) id) id

theorem periodBegin {m : Nat} : d₀.SavedStays (d.periodBegin m) := by
  refine ite (but ?_) (·.but.wri) (·.chOnEdge)
  split
  · exact h.periodPast.wri.wri
  · exact h.periodPast

theorem periodDrop {m : Nat} : d₀.SavedStays (d.periodDrop m) := by
  refine but ?_
  split
  · exact (h.ite (·.but) id).wri.wri
  · exact h.ite (·.but) id

theorem chOff {m st : Nat} : d₀.SavedStays (d.chOff m st) := h.periodDrop.but.wri.wri.but
theorem chOn {m : Nat} : d₀.SavedStays (d.chOn m) := h.wri.wri.wri.but.ite (·.periodBegin) (·.chOnEdge)
theorem unwait {l : Nat} : d₀.SavedStays (d.unwait l) := h.but.each (·.clrBit)
theorem startNow {l : Nat} : d₀.SavedStays (d.startNow l) := h.but.unwait.each (·.chOn)
theorem startDue {l : Nat} : d₀.SavedStays (d.startDue l) := h.ite (·.startNow) (·.but.each (·.wri.setBit.but))
theorem groupOff {l st : Nat} : d₀.SavedStays (d.groupOff l st) := h.unwait.each (·.chOff)

theorem obey {l w : Nat} {restart : Bool} : d₀.SavedStays (d.obey l w restart) := by
  dsimp only [Dev.obey]
  split
  · exact ((h.each (·.wri)).ite (·.each (·.wri)) id).ite (·.groupOff) id
  · exact (h.each (·.wri)).ite (·.ite id (·.startDue)) (·.ite (·.ite (·.each (·.periodDrop.chOnEdge)) (·.each (·.but))) id)

theorem command {l w : Nat} {restart : Bool} : d₀.SavedStays (d.command l w restart) :=
  h.ite (fun h => (h.each (·.wri)).bankRec.obey) (·.obey)

theorem failState {l : Nat} : d₀.SavedStays (d.failState l) := h.ite (·.command) (·.ite (·.command) (·.command))
theorem holdFail {l : Nat} : d₀.SavedStays (d.holdFail l) := (h.but.each (·.clrBit.setBit)).failState.wri.bankRec

theorem handOver {b : Nat} : d₀.SavedStays (d.handOver b) :=
  h.ite id (·.wri.wri.but.bankRec.each (·.ite (·.ite (·.holdFail) (·.but.each (·.setBit))) id))

theorem manEnd {l : Nat} : d₀.SavedStays (d.manEnd l) := h.ite (fun h => (h.each (·.but.wri.wri.wri)).but.bankRec.command) id
theorem manEndAll : d₀.SavedStays d.manEndAll := h.each (·.manEnd)

theorem itemDrop : d₀.SavedStays d.itemDrop := by
  dsimp only [Dev.itemDrop]
  split
  · exact h.ite (·.ite (·.but) (·.but)) id
  · exact h

end

end Dev.SavedStays

end Sys2Proof.Machine
end

section
namespace Sys2Proof.Proofs
open Machine

/-! ### The lasting fault of a core without a spare, and of a pair with one (R560, R561) -/

section
variable {s : State} {j n : Nat}

theorem coreError_alone (hruns : s.dev.coreRuns = true) (hj : j < 5) (hn : s.dev.coreIndex j = some n)
    (hjoining : s.dev.joiningOf 1 j = none) (hcount : s.dev.fwCount (.core j) = 2)
    (hspare : s.dev.idleSpare s.dev.appKind = none) :
    Ends (.coreError j) s fun d => d.bit SYSCTL_CPUMAP_FAILAPP 0 j = true ∧ d.rd FLT_EVT_EXHAUST = 1 ∧ d.rd FLT_EVT_LATCHOFF = 1 ∧
      d.rd FLT_LAST_KIND = 1 ∧ d.rd FLT_LAST_ACTION = 4 ∧ d.rd FLT_LAST_UNIT = j := by
  have hfires : s.dev.fwFires (.core j) 3 = true := by rw [Dev.fwFires, hcount]; decide
  have hgives := gives_coreError hruns hj hn hjoining
  rw [if_pos hfires] at hgives
  obtain ⟨m, hm⟩ := Dev.hartLasting_gone (j := j) (n := n) ((Dev.fwEvent_core_idleSpare hcount).trans hspare)
  obtain ⟨hfail, hexhaust, hlatch, hlast⟩ := Dev.coreGone_spec (d := s.dev.fwEvent (.core j) 3) (n := n) (m := m) hj
  rw [hm] at hgives
  exact ⟨_, hgives, hfail, hexhaust, hlatch, hlast.shows⟩

theorem lockstepMismatch_replaced {p : Nat} (hruns : s.dev.coreRuns = true) (hj : j < 5) (hn : s.dev.pairPart j = some n)
    (hjoining : s.dev.joiningOf 2 j = none) (hcount : s.dev.fwCount (.pair j) = 2)
    (hspare : s.dev.idleSpare s.dev.rtKind = some p) :
    Ends (.lockstepMismatch j) s fun d => d.bit SYSCTL_CPUMAP_FAILRT 0 j = true ∧ d.bit SYSCTL_CPUMAP_SPARES 0 0 = false ∧
      d.flt.joining = s.dev.flt.joining ++ [(2, n, j, p)] ∧ d.rd FLT_LAST_KIND = 2 ∧ d.rd FLT_LAST_ACTION = 1 ∧
      d.rd FLT_LAST_UNIT = j := by
  have hfires : s.dev.fwFires (.pair j) 3 = true := by rw [Dev.fwFires, hcount]; decide
  have hgives := gives_lockstepMismatch hruns hj hn hjoining
  rw [if_pos hfires] at hgives
  obtain ⟨m, hm⟩ := Dev.hartLasting_replaced (k := (s.dev.fwEvent (.pair j) 3).rtKind) (j := j) (n := n) rfl
    ((Dev.fwEvent_pair_idleSpare hcount).trans hspare)
  obtain ⟨hfail, hspares, hjoins, hlast⟩ :=
    Dev.pairReplaced_spec (d := s.dev.fwEvent (.pair j) 3) (n := n) (m := m) (p := p) hj (Dev.pairPart_lt hn)
  rw [hm] at hgives
  rw [Dev.fwEvent_pair_flt hcount] at hjoins
  exact ⟨_, hgives, hfail, hspares, hjoins, hlast.shows⟩

end

/-- Settles O53: the errors of the module's own parts, below their thresholds and at them. -/
theorem faultCommands : Obligations.FaultCommands := by
  unfold Obligations.FaultCommands
  refine ⟨?norWindow, ?reached, ?row, ?coreBelow, ?coreAt, ?pairBelow, ?pairAt, ?coreSpare, ?pairSpare, ?coreGone, ?pairReplaced,
    ?sramCorrected, ?sramUncorrectable, ?scrub, ?canBelow, ?canAt, ?norFirst, ?norBelow, ?norExhausted, ?busBelow, ?busThird⟩
  case norWindow =>
    intro s n hcount
    exact ⟨_, gives_faultWindowClose_nor hcount, Dev.fwCount_fwSet_self rfl, rfl⟩
  case reached =>
    intro s c hreached
    exact gives_faultWindowClose_reached hreached
  case row =>
    exact fun s addr hruns => ⟨gives_onDev (exec_memoryRowFail addr false s) (if_pos hruns),
      gives_onDev (exec_memoryRowFail addr true s) (if_pos hruns)⟩
  case coreBelow =>
    intro s j n hruns hj hn hjoining hfires
    have hgives := gives_coreError hruns hj hn hjoining
    rwa [if_neg (Bool.eq_false_iff.mp hfires)] at hgives
  case coreAt =>
    rintro s j n _ hruns hj hn hjoining hfires rfl
    have hgives := gives_coreError hruns hj hn hjoining
    rwa [if_pos hfires] at hgives
  case pairBelow =>
    intro s j n hruns hj hn hjoining hfires
    have hgives := gives_lockstepMismatch hruns hj hn hjoining
    rwa [if_neg (Bool.eq_false_iff.mp hfires)] at hgives
  case pairAt =>
    rintro s j n _ hruns hj hn hjoining hfires rfl
    have hgives := gives_lockstepMismatch hruns hj hn hjoining
    rwa [if_pos hfires] at hgives
  case coreSpare =>
    exact fun _ _ _ _ => gives_coreError_spare
  case pairSpare =>
    exact fun _ _ _ _ => gives_lockstepMismatch_spare
  case coreGone =>
    exact fun _ _ _ => coreError_alone
  case pairReplaced =>
    exact fun _ _ _ _ => lockstepMismatch_replaced
  case sramCorrected =>
    intro s addr n hin hruns
    have hpeek : (s.dev.sramCorrected addr).peek addr n = s.dev.peek addr n :=
      congrArg (memReadList · addr n) (Dev.SavedStays.refl s.dev).sramCorrected.mem
    rw [hpeek]
    exact gives_onDev (exec_sramEccRead addr n false s) ((if_pos ⟨hin, hruns⟩).trans (if_neg Bool.false_ne_true))
  case sramUncorrectable =>
    intro s addr n hin hruns
    exact ⟨_, gives_onDev (exec_sramEccRead addr n true s) ((if_pos ⟨hin, hruns⟩).trans (if_pos rfl)), rfl, rfl⟩
  case scrub =>
    exact fun _ _ => gives_sramScrub
  case canBelow =>
    intro s u hruns hu hserved hfires
    have hgives := gives_canControllerError hruns hu hserved
    rwa [if_neg (Bool.eq_false_iff.mp hfires)] at hgives
  case canAt =>
    intro s u hruns hu hserved hfires
    have hgives := gives_canControllerError hruns hu hserved
    rwa [if_pos hfires] at hgives
  case norFirst =>
    intro s n hruns hn hcount
    have hfires : s.dev.fwFires (.nor n) 2 = false := by rw [Dev.fwFires, hcount]; decide
    have hevent : s.dev.fwEvent (.nor n) 2 = s.dev.fwSet (.nor n) 1 false := by rw [Dev.fwEvent, hcount]; rfl
    have hgives := gives_norVerifyFail hruns hn hfires
    rw [hevent] at hgives
    exact ⟨_, hgives, Dev.fwCount_fwSet_self rfl, rfl⟩
  case norBelow =>
    exact fun _ _ => gives_norVerifyFail
  case norExhausted =>
    exact fun _ _ => gives_norVerifyFail_exhausted
  case busBelow =>
    exact fun _ => gives_busLinkCrcError
  case busThird =>
    exact fun _ => gives_busLinkCrcError_third

end Sys2Proof.Proofs
end

section
/-! SUPPORT. The stop of the core die, and the power states (R571 to R573, R700 to R705, R714 to R718). -/

namespace Sys2Proof.Machine

/-! ### The stop of the core die -/

/-- The core die once its accesses, sessions and manual drive have ended and its keepers have taken over, its registers still as they
were (R17, R36). -/
def Dev.coreQuiet (d : Dev) : Dev :=
  ((d.openSignals.openBridge.each (List.range 4) fun d s => d.sessionEnd s 5).manEndAll.each (List.range 4) fun d b =>
    if (d.bk b).keeperOn then d.handOver b else d).itemDrop

section
variable {d : Dev} {warm powerOn : Bool}

theorem Dev.coreQuiet_saved : d.SavedStays d.coreQuiet :=
  (((Dev.SavedStays.refl d).openSignals.openBridge.each (·.sessionEnd)).manEndAll.each (·.ite (·.handOver) id)).itemDrop

/-- The core die with its registers at their reset values and what its blocks held lost, before system memory (R17). -/
def Dev.coreCleared (d : Dev) (warm powerOn : Bool) : Dev :=
  ({ d.coreQuiet with regs := d.coreQuiet.regs.keep fun k => leftAlone k powerOn } : Dev).coreClear warm

/-- The core die with SRAM kept by a warm stop and lost by another. -/
def Dev.sramLeft (d : Dev) (warm : Bool) : Dev :=
  if warm then d.wr REC_STAT_STAGED d.recd.staged.length else d.memForget 0x20000000 0x21800000

theorem Dev.coreStop_eq : d.coreStop warm powerOn =
    ((d.coreCleared warm powerOn).sramLeft warm).wr PWR_STAT_DOMON (if warm ∨ powerOn then 0x8007 else 0x0003) := by
  rw [Dev.coreStop, Dev.sramLeft, Dev.coreCleared, Dev.coreQuiet]

theorem Dev.sramLeft_pwr (d : Dev) : (d.sramLeft warm).pwr = d.pwr := by
  rw [Dev.sramLeft]
  split <;> rfl

theorem Dev.sramLeft_deck (d : Dev) : (d.sramLeft warm).deck = d.deck := by
  rw [Dev.sramLeft]
  split <;> rfl

theorem Dev.sramLeft_recd (d : Dev) : (d.sramLeft warm).recd = d.recd := by
  rw [Dev.sramLeft]
  split <;> rfl

theorem Dev.coreClear_pwr (d : Dev) : (d.coreClear warm).pwr =
    { d.pwr with leases := [], warned := [], ordered := false, heldOnce := false, resetting := [] } := rfl

theorem Dev.coreStop_pwr : (d.coreStop warm powerOn).pwr =
    { d.pwr with leases := [], warned := [], ordered := false, heldOnce := false, resetting := [] } := by
  rw [Dev.coreStop_eq, Dev.wr_pwr, Dev.sramLeft_pwr, Dev.coreCleared, Dev.coreClear_pwr, Dev.coreQuiet_saved.pwr]

theorem Dev.coreClear_running (d : Dev) : (d.coreClear warm).deck.running = none := rfl

theorem Dev.coreStop_running : (d.coreStop warm powerOn).deck.running = none := by
  rw [Dev.coreStop_eq, Dev.wr_deck, Dev.sramLeft_deck, Dev.coreCleared, Dev.coreClear_running]

theorem Dev.coreClear_cycles (d : Dev) : (d.coreClear warm).recd.savedPwrcyc = d.recd.savedPwrcyc := rfl

theorem Dev.coreStop_cycles : (d.coreStop warm powerOn).recd.savedPwrcyc = d.recd.savedPwrcyc := by
  rw [Dev.coreStop_eq, Dev.wr_recd, Dev.sramLeft_recd, Dev.coreCleared, Dev.coreClear_cycles, Dev.coreQuiet_saved.cycles]

theorem Dev.coreStop_domon : (d.coreStop warm powerOn).rd PWR_STAT_DOMON = if warm ∨ powerOn then 0x8007 else 3 := by
  rw [Dev.coreStop_eq, Dev.rd_wr_self]
  cases warm <;> cases powerOn <;> rfl

end

/-! ### The commit point -/

section
variable {d : Dev} {k s reason cause : Nat}

/-- The block of a session that is no longer open, before its sessions are counted (R534). -/
def Dev.sessionClosed (d : Dev) (s : Nat) : Dev :=
  ((((d.wri SHT_SESS_STATE s 0).wri SHT_SESS_SUB s 0).wri SHT_SESS_HOST s 0).wri SHT_SESS_ROLES s 0).wri SHT_SID_SESSION s 0

theorem Dev.sessionClosed_state : (d.sessionClosed s).rdi SHT_SESS_STATE k = (d.wri SHT_SESS_STATE s 0).rdi SHT_SESS_STATE k := by
  rw [Dev.sessionClosed, Dev.rdi_wri_apart _ (by decide), Dev.rdi_wri_apart _ (by decide), Dev.rdi_wri_apart _ (by decide),
    Dev.rdi_wri_apart _ (by decide)]

theorem Dev.rdi_withSht {g : Field} {x : ShtState} : ({ d with sht := x } : Dev).rdi g k = d.rdi g k := rfl

theorem Dev.sessionEnd_state (h : d.rdi SHT_SESS_STATE s = 2) :
    (d.sessionEnd s reason).rdi SHT_SESS_STATE k = (d.wri SHT_SESS_STATE s 0).rdi SHT_SESS_STATE k := by
  rw [Dev.sessionEnd, if_pos h, Dev.trig_rdi_beside _ (by decide), Dev.rdi_wr_apart _ (by decide), Dev.rdi_withSht, Dev.countOpen,
    Dev.rdi_wr_apart _ (by decide)]
  exact Dev.sessionClosed_state

/-- A session that has ended, or that ends now, is not open (R534). -/
theorem Dev.sessionEnd_ended (hk : k < 4) (hs : s < 4) (h : k = s ∨ d.rdi SHT_SESS_STATE k ≠ 2) :
    (d.sessionEnd s reason).rdi SHT_SESS_STATE k ≠ 2 := by
  by_cases hopen : d.rdi SHT_SESS_STATE s = 2
  · have hkeys : SHT_SESS_STATE.key k = SHT_SESS_STATE.key s ↔ k = s :=
      Field.key_inj (by decide) (by decide) (Nat.lt_of_lt_of_le hk (by decide)) (Nat.lt_of_lt_of_le hs (by decide))
    rw [Dev.sessionEnd_state hopen, Dev.rdi_wri]
    split
    · decide
    next hne => exact h.resolve_left (mt hkeys.mpr hne)
  · rw [Dev.sessionEnd, if_neg hopen]
    rcases h with rfl | h
    · exact hopen
    · exact h

theorem Dev.each_sessionEnd_ended {l : List Nat} (hk : k < 4) (hl : ∀ s ∈ l, s < 4) (h : k ∈ l ∨ d.rdi SHT_SESS_STATE k ≠ 2) :
    (d.each l fun d s => d.sessionEnd s reason).rdi SHT_SESS_STATE k ≠ 2 := by
  induction l generalizing d with
  | nil => exact h.resolve_left List.not_mem_nil
  | cons s l ih =>
    refine ih (d := d.sessionEnd s reason) (fun x hx => hl x (List.mem_cons_of_mem s hx)) ?_
    have hs : s < 4 := hl s (List.mem_cons_self ..)
    rcases h with hmem | h
    · rcases List.mem_cons.mp hmem with heq | hmem
      · exact .inr (Dev.sessionEnd_ended hk hs (.inl heq))
      · exact .inl hmem
    · exact .inr (Dev.sessionEnd_ended hk hs (.inr h))

theorem Dev.holdShow_rdi {g : Field} (h : (g.apart DBG_STAT_PWRHELD && g.apart DBG_EVT_HELD && g.besideRec) = true) (i : Nat) :
    d.holdShow.rdi g i = d.rdi g i := by
  simp only [Bool.and_eq_true] at h
  obtain ⟨⟨hheld, hevt⟩, hrec⟩ := h
  rw [Dev.holdShow]
  split
  · rw [Dev.trig_rdi_beside _ hrec, Dev.rdi_wr_apart _ hevt]
    exact Dev.rdi_wr_apart _ hheld _ _
  · exact Dev.rdi_wr_apart _ hheld _ _

theorem Dev.trig_savedOptime (code : Nat) (args : List Nat) : (d.trig code args).recd.savedOptime = d.recd.savedOptime :=
  (Dev.SavedStays.refl d).trig.optime

theorem Dev.trig_cleanMark (code : Nat) (args : List Nat) : (d.trig code args).recd.cleanMark = d.recd.cleanMark :=
  (Dev.SavedStays.refl d).trig.mark

/-- What the recorder saves for the next start does not turn on a hold that is shown. -/
theorem Dev.holdShow_saves : d.holdShow.recd.savedOptime = d.recd.savedOptime ∧ d.holdShow.recd.cleanMark = d.recd.cleanMark := by
  rw [Dev.holdShow]
  split
  · rw [Dev.trig_savedOptime, Dev.trig_cleanMark]
    exact ⟨rfl, rfl⟩
  · exact ⟨rfl, rfl⟩

/-- A debug level that falls to CLOSED, or is CLOSED already (R624). -/
theorem Dev.dbgLower_level : (d.dbgLower 0 cause).rd DBG_STAT_LEVEL = 0 := by
  by_cases h : 0 < d.rd DBG_STAT_LEVEL
  · exact (Dev.dbgLower_spec h).1
  · rw [Dev.dbgLower, if_neg h]
    omega

theorem Dev.dbgLower_sessState (i : Nat) : (d.dbgLower 0 cause).rdi SHT_SESS_STATE i = d.rdi SHT_SESS_STATE i := by
  by_cases h : 1 ≤ d.rd DBG_STAT_LEVEL
  · rw [Dev.dbgLower_closed h, Dev.holdShow_rdi (by decide), Dev.trig_rdi_beside _ (by decide), Dev.rdi_wr_apart _ (by decide)]
    exact (Dev.rdi_wr_apart _ (by decide) _ _).trans ((Dev.rdi_wr_apart _ (by decide) _ _).trans
      (Dev.rdi_wr_apart (f := DBG_STAT_LEVEL) _ (by decide) _ _))
  · exact congrArg (Dev.rdi · SHT_SESS_STATE i) (if_neg h)

theorem Dev.dbgLower_saves : (d.dbgLower 0 cause).recd.savedOptime = d.recd.savedOptime ∧
    (d.dbgLower 0 cause).recd.cleanMark = d.recd.cleanMark := by
  by_cases h : 1 ≤ d.rd DBG_STAT_LEVEL
  · rw [Dev.dbgLower_closed h, Dev.holdShow_saves.1, Dev.holdShow_saves.2, Dev.trig_savedOptime, Dev.trig_cleanMark]
    exact ⟨rfl, rfl⟩
  · have hsame : d.dbgLower 0 cause = d := if_neg h
    rw [hsame]
    exact ⟨rfl, rfl⟩

/-- The block once every session has ended for a power state (R534). -/
def Dev.sessionsEnded (d : Dev) : Dev := d.each (List.range 4) fun d s => d.sessionEnd s 5

theorem Dev.sessionsEnded_saved : d.SavedStays d.sessionsEnded := (Dev.SavedStays.refl d).each (·.sessionEnd)

theorem Dev.sessionsEnded_state (hk : k < 4) : d.sessionsEnded.rdi SHT_SESS_STATE k ≠ 2 :=
  Dev.each_sessionEnd_ended hk (fun _ => List.mem_range.mp) (.inl (List.mem_range.mpr hk))

theorem Dev.captureImage_recd (seq : Nat) : (d.captureImage seq).recd = d.recd := rfl

/-- The commit point up to the end of the sessions (R701). -/
def Dev.commitSaved (d : Dev) : Dev :=
  (((d.optimeSave true).trig 0x0600 []).captureImage ((d.optimeSave true).trig 0x0600 []).newSeq).sessionsEnded

theorem Dev.commitSaved_saves : d.commitSaved.recd.savedOptime = d.optime ∧ d.commitSaved.recd.cleanMark = true := by
  rw [Dev.commitSaved, Dev.sessionsEnded_saved.optime, Dev.sessionsEnded_saved.mark, Dev.captureImage_recd, Dev.trig_savedOptime,
    Dev.trig_cleanMark]
  exact ⟨rfl, rfl⟩

/-- The block at the commit point, with the wake detection armed (R701). -/
def Dev.commitArmed (d : Dev) : Dev := d.commitSaved.setPwr { d.commitSaved.pwr with wakeSrcs := d.commitSaved.wakeSources }

/-- The commit point with nothing holding it (R701, R634). -/
def Dev.committed (d : Dev) : Dev :=
  (d.commitArmed.dbgLower 0 dcPOWER).setPwr { (d.commitArmed.dbgLower 0 dcPOWER).pwr with state := .standbyEntry }

theorem Dev.committed_saves : d.committed.recd.savedOptime = d.optime ∧ d.committed.recd.cleanMark = true := by
  rw [Dev.committed, Dev.setPwr_recd, Dev.dbgLower_saves.1, Dev.dbgLower_saves.2, Dev.commitArmed, Dev.setPwr_recd]
  exact Dev.commitSaved_saves

theorem Dev.committed_level : d.committed.rd DBG_STAT_LEVEL = 0 := by
  rw [Dev.committed, Dev.setPwr_rd]
  exact Dev.dbgLower_level

theorem Dev.committed_sessions (hk : k < 4) : d.committed.rdi SHT_SESS_STATE k ≠ 2 := by
  rw [Dev.committed, Dev.setPwr_rdi, Dev.dbgLower_sessState, Dev.commitArmed, Dev.setPwr_rdi, Dev.commitSaved]
  exact Dev.sessionsEnded_state hk

end

end Sys2Proof.Machine
end

section
/-! SUPPORT. The commands of the power states (R700 to R705, R714 to R718) and of tamper (R571 to R573). -/

namespace Sys2Proof.Machine

theorem exec_orderedRestart (x : BootIn) (s : State) : exec (.orderedRestart x) s = execOrderedRestart x s := rfl
theorem exec_powerOnReset (s : State) : exec .powerOnReset s = execPowerOnReset s := rfl
theorem exec_startupTimeout (x : BootIn) (s : State) : exec (.startupTimeout x) s = execStartupTimeout x s := rfl
theorem exec_brownOut (s : State) : exec .brownOut s = execBrownOut s := rfl
theorem exec_nrst (x : BootIn) (s : State) : exec (.nrst x) s = execNrst x s := rfl
theorem exec_powerOff (s : State) : exec .powerOff s = execPowerOff s := rfl
theorem exec_vsupLogGood (x : BootIn) (s : State) : exec (.vsupLogGood x) s = execVsupLogGood x s := rfl
theorem exec_dozeEnter (init : Nat) (s : State) : exec (.dozeEnter init) s = execDozeEnter init s := rfl
theorem exec_dozeExit (init : Nat) (s : State) : exec (.dozeExit init) s = execDozeExit init s := rfl
theorem exec_standbyRequest (s : State) : exec .standbyRequest s = execStandbyRequest s := rfl
theorem exec_standbyCommit (s : State) : exec .standbyCommit s = execStandbyCommit s := rfl
theorem exec_standbyCaptureDone (s : State) : exec .standbyCaptureDone s = execStandbyCaptureDone s := rfl
theorem exec_hibernateEntry (s : State) : exec .hibernateEntry s = execHibernateEntry s := rfl
theorem exec_wakeFromStandby (cause cluster unit : Nat) (rising : Bool) (s : State) :
    exec (.wakeFromStandby cause cluster unit rising) s = execWakeFromStandby cause cluster unit rising s := rfl
theorem exec_tamper (cause : Nat) (value : Int) (ns : Nat) (x : BootIn) (s : State) :
    exec (.tamper cause value ns x) s = execTamper cause value ns x s := rfl
theorem exec_vkeepLoss (mv ns : Nat) (x : BootIn) (s : State) : exec (.vkeepLoss mv ns x) s = execVkeepLoss mv ns x s := rfl

/-! ### Resets of the core die (R715 to R718) -/

/-- The block after a power-on reset. -/
def Dev.poweredOn (d : Dev) : Dev :=
  (({ d.coreStop false true with dbg := {} } : Dev).setPwr { (d.coreStop false true).pwr with
    state := .start, sysOn := false, heldReset := false, timedOut := false, retries := 0, inRom := false, supEn := true,
    wakeLatched := none }).powerCycle

/-- The block after a brown-out. -/
def Dev.brownedOut (d : Dev) : Dev :=
  (((d.coreStop false false).wr PWR_STAT_LASTRST 1).inc PWR_CNT_BROWNOUTS).setPwr { (d.coreStop false false).pwr with
    state := .start, sysOn := false, heldReset := d.pwr.heldReset, inRom := false, wakeLatched := none }

/-- The block with AON removed. -/
def Dev.poweredOff (d : Dev) : Dev :=
  ({ d.coreStop false true with dbg := {} } : Dev).setPwr { (d.coreStop false true).pwr with
    state := .off, sysOn := false, heldReset := false, timedOut := false, retries := 0, inRom := false, supEn := false,
    wakeLatched := none }

section
variable {s : State} {x : BootIn}

theorem gives_powerOnReset : Gives .powerOnReset s s.dev.poweredOn := gives_onDev (exec_powerOnReset s) rfl

theorem gives_brownOut (h : s.dev.sysPowered = true) : Gives .brownOut s s.dev.brownedOut :=
  gives_onDev (exec_brownOut s) (if_pos h)

theorem gives_powerOff : Gives .powerOff s s.dev.poweredOff := gives_onDev (exec_powerOff s) rfl

theorem gives_startupTimeout (hstate : s.dev.pwr.state = .start) (hsys : s.dev.pwr.sysOn = true) (hheld : s.dev.pwr.heldReset = false)
    (hrom : s.dev.pwr.inRom = false) (hordered : s.dev.pwr.ordered = false) {d : Dev}
    (hd : d = (s.dev.coreStop true false).wr PWR_STAT_LASTRST 8) : Gives (.startupTimeout x) s
      (if s.dev.pwr.retries < 3 then
        (d.setPwr { d.pwr with timedOut := true, retries := s.dev.pwr.retries + 1 }).startUp x false
      else d.setPwr { d.pwr with timedOut := true, heldReset := true }) := by
  subst hd
  exact gives_onDev (exec_startupTimeout x s)
    (if_pos ⟨hstate, hsys, by rw [hheld]; rfl, by rw [hrom]; rfl, by rw [hordered]; rfl⟩)

end

section
variable {d : Dev}

theorem Dev.rd_withDbg {x : DbgState} (f : Field) : ({ d with dbg := x } : Dev).rd f = d.rd f := rfl
theorem Dev.deck_withDbg {x : DbgState} : ({ d with dbg := x } : Dev).deck = d.deck := rfl
theorem Dev.recd_withDbg {x : DbgState} : ({ d with dbg := x } : Dev).recd = d.recd := rfl
theorem Dev.setPwr_pwr (p : PwrState) : (d.setPwr p).pwr = p := rfl

theorem Dev.powerCycle_pwrcyc : d.powerCycle.rd REC_PWRCYC = min (d.recd.savedPwrcyc + 1) 0xFFFFFF := by
  rw [Dev.powerCycle, Dev.rd_wr_self]
  exact Nat.mod_eq_of_lt (Nat.lt_of_le_of_lt (Nat.min_le_right ..) (by decide))

theorem Dev.powerCycle_domon : d.powerCycle.rd PWR_STAT_DOMON = d.rd PWR_STAT_DOMON := Dev.rd_wr_apart _ (by decide) _
theorem Dev.powerCycle_running : d.powerCycle.deck.running = d.deck.running := rfl

theorem Dev.poweredOn_pwrcyc : d.poweredOn.rd REC_PWRCYC = min (d.recd.savedPwrcyc + 1) 0xFFFFFF := by
  rw [Dev.poweredOn, Dev.powerCycle_pwrcyc, Dev.setPwr_recd, Dev.recd_withDbg, Dev.coreStop_cycles]

theorem Dev.poweredOn_domon : d.poweredOn.rd PWR_STAT_DOMON = 0x8007 := by
  rw [Dev.poweredOn, Dev.powerCycle_domon, Dev.setPwr_rd, Dev.rd_withDbg, Dev.coreStop_domon]
  rfl

theorem Dev.poweredOn_running : d.poweredOn.deck.running = none := by
  rw [Dev.poweredOn, Dev.powerCycle_running, Dev.setPwr_deck, Dev.deck_withDbg, Dev.coreStop_running]

theorem Dev.brownedOut_lastrst : d.brownedOut.rd PWR_STAT_LASTRST = 1 := by
  rw [Dev.brownedOut, Dev.setPwr_rd, Dev.rd_inc_apart _ (by decide), Dev.rd_wr_self]
  rfl

theorem Dev.brownedOut_domon : d.brownedOut.rd PWR_STAT_DOMON = 3 := by
  rw [Dev.brownedOut, Dev.setPwr_rd, Dev.rd_inc_apart _ (by decide), Dev.rd_wr_apart _ (by decide), Dev.coreStop_domon]
  rfl

theorem Dev.brownedOut_running : d.brownedOut.deck.running = none := by
  rw [Dev.brownedOut, Dev.setPwr_deck, Dev.inc_deck, Dev.wr_deck, Dev.coreStop_running]

theorem Dev.poweredOff_running : d.poweredOff.deck.running = none := by
  rw [Dev.poweredOff, Dev.setPwr_deck, Dev.deck_withDbg, Dev.coreStop_running]

end

/-! ### STANDBY (R701 to R705) -/

/-- The power state as STANDBY begins. -/
def Dev.inStandby (d : Dev) : Dev := d.setPwr { d.pwr with state := .standby, sysOn := false, supEn := false }

/-- The block as STANDBY begins with no wake latched. -/
def Dev.asleep (d : Dev) : Dev := ((d.captureRecord d.pwr.retSigSeq).coreStop false false).inStandby

/-- The block with a request for STANDBY that nothing holds. -/
def Dev.requested (d : Dev) : Dev :=
  (((d.wr PWR_STAT_PEND 1).wr PWR_EVT_REQ 1).setPwr { d.pwr with heldOnce := false }).wr DBG_STAT_PWRHELD 0

section
variable {d : Dev} {s : State}

theorem Dev.captureRecord_wakeLatched (seq : Nat) : (d.captureRecord seq).pwr.wakeLatched = d.pwr.wakeLatched := by
  rw [Dev.captureRecord, Dev.wr_pwr]
  split <;> rfl

theorem Dev.asleep_running : d.asleep.deck.running = none := by
  rw [Dev.asleep, Dev.inStandby, Dev.setPwr_deck, Dev.coreStop_running]

theorem Dev.asleep_domon : d.asleep.rd PWR_STAT_DOMON = 3 := by
  rw [Dev.asleep, Dev.inStandby, Dev.setPwr_rd, Dev.coreStop_domon]
  rfl

/-- The stop for STANDBY leaves a wake that is latched, and one that is not (R705). -/
theorem Dev.coreStop_captureRecord_wakeLatched (seq : Nat) :
    ((d.captureRecord seq).coreStop false false).pwr.wakeLatched = d.pwr.wakeLatched := by
  rw [Dev.coreStop_pwr]
  exact Dev.captureRecord_wakeLatched seq

theorem gives_standbyCaptureDone (hstate : s.dev.pwr.state = .standbyEntry) (hlatched : s.dev.pwr.wakeLatched = none) :
    Gives .standbyCaptureDone s s.dev.asleep := by
  refine gives_onDev (exec_standbyCaptureDone s) ((if_pos hstate).trans ?_)
  dsimp only
  split
  next w hw =>
    rw [Dev.setPwr_pwr] at hw
    dsimp only at hw
    rw [Dev.coreStop_captureRecord_wakeLatched, hlatched] at hw
    exact nomatch hw
  next => rw [Dev.asleep, Dev.inStandby]

/-- A hold reads nothing of the power state's own registers. -/
theorem Dev.requested_hold : (((d.wr PWR_STAT_PEND 1).wr PWR_EVT_REQ 1).setPwr { d.pwr with heldOnce := false }).debugHold =
    d.debugHold := by
  have hrd (g : Field) (hg : (g.apart PWR_STAT_PEND && g.apart PWR_EVT_REQ) = true) :
      (((d.wr PWR_STAT_PEND 1).wr PWR_EVT_REQ 1).setPwr { d.pwr with heldOnce := false }).rd g = d.rd g := by
    rw [Bool.and_eq_true] at hg
    rw [Dev.setPwr_rd, Dev.rd_wr_apart _ hg.2, Dev.rd_wr_apart _ hg.1]
  rw [Dev.debugHold, Dev.debugHold, Dev.flag, Dev.flag, Dev.bit, Dev.bit, Dev.lifeState, Dev.lifeState,
    hrd DBG_STAT_HALTED (by decide),
    hrd DBG_CTL_HOLDRUN (by decide), hrd DBG_STAT_LEVEL (by decide), hrd KEY_LC_STATE (by decide)]
  exact congrArg (fun v : Nat => _ || (_ && v.testBit (d.rd KEY_LC_STATE - 1))) (hrd DBG_POLICY_HOLDLC (by decide))

theorem gives_standbyRequest (hsleep : s.dev.flag NMW_STAT_ALLSLEEP = true)
    (hstate : s.dev.pwr.state = .run ∨ s.dev.pwr.state = .doze) (hpend : s.dev.flag PWR_STAT_PEND = false)
    (hhold : s.dev.debugHold = false) : Gives .standbyRequest s s.dev.requested := by
  refine gives_onDev (exec_standbyRequest s) ((if_pos ⟨hsleep, s.dev.awake_iff.mpr hstate, by rw [hpend]; rfl⟩).trans ?_)
  rw [Dev.holdShow, Dev.requested_hold, hhold, Bool.and_false]
  rfl

theorem Dev.requested_pend (d : Dev) : d.requested.rd PWR_STAT_PEND = 1 := by
  rw [Dev.requested, Dev.rd_wr_apart _ (by decide), Dev.setPwr_rd, Dev.rd_wr_apart _ (by decide), Dev.rd_wr_self]
  rfl

theorem Dev.requested_evt (d : Dev) : d.requested.rd PWR_EVT_REQ = 1 := by
  rw [Dev.requested, Dev.rd_wr_apart _ (by decide), Dev.setPwr_rd, Dev.rd_wr_self]
  rfl

theorem Dev.requested_regs (d : Dev) : d.regsBut d.requested [(PWR_STAT_PEND, 0), (PWR_EVT_REQ, 0), (DBG_STAT_PWRHELD, 0)] :=
  (((Dev.regsBut.refl d _).wri (by simp) _).wri (by simp) _).wri (by simp) _

theorem gives_standbyCommit (hpend : s.dev.flag PWR_STAT_PEND = true) (hstate : s.dev.pwr.state = .run ∨ s.dev.pwr.state = .doze)
    (hheld : s.dev.commitHeld = false) : Gives .standbyCommit s s.dev.committed := by
  refine gives_onDev (exec_standbyCommit s)
    ((if_pos ⟨hpend, s.dev.awake_iff.mpr hstate⟩).trans ((if_neg (Bool.eq_false_iff.mp hheld)).trans ?_))
  rw [Dev.committed, Dev.commitArmed, Dev.commitSaved, Dev.sessionsEnded]

end

/-! ### Wakes (R704) -/

section
variable {s : State} {cause cluster unit : Nat} {rising : Bool}

theorem gives_wakeFromStandby (hseen : s.dev.wakeSeen cause cluster unit rising = true) :
    Gives (.wakeFromStandby cause cluster unit rising) s (s.dev.moduleWake cause cluster unit) :=
  gives_onDev (exec_wakeFromStandby cause cluster unit rising s) (if_pos hseen)

theorem Dev.moduleWake_sleeping {d : Dev} (h : d.pwr.state = .standby ∨ d.pwr.state = .hibernate) :
    d.moduleWake cause cluster unit = d.wakeBegin (if d.pwr.state = .standby then 6 else 7) cause cluster unit := by
  rcases h with h | h <;> simp [Dev.moduleWake, h]

end

section
variable {d : Dev} {kind : Nat} (cause cluster unit : Nat)

theorem Dev.wakeBegin_shows (hkind : kind < 16) : (d.wakeBegin kind cause cluster unit).rd NMW_WAKESRC_CAUSE =
      cause % 2 ^ NMW_WAKESRC_CAUSE.width ∧
    (d.wakeBegin kind cause cluster unit).rd NMW_WAKESRC_CLUSTER = cluster % 2 ^ NMW_WAKESRC_CLUSTER.width ∧
    (d.wakeBegin kind cause cluster unit).rd NMW_WAKESRC_UNIT = unit % 2 ^ NMW_WAKESRC_UNIT.width ∧
    (d.wakeBegin kind cause cluster unit).rd PWR_STAT_LASTRST = kind := by
  rw [Dev.wakeBegin]
  simp only [Dev.setPwr_rd]
  refine ⟨?_, ?_, ?_, ?_⟩
  · rw [Dev.rd_wr_apart _ (by decide), Dev.rd_wr_apart _ (by decide), Dev.rd_wr_apart _ (by decide), Dev.rd_wr_self]
  · rw [Dev.rd_wr_apart _ (by decide), Dev.rd_wr_apart _ (by decide), Dev.rd_wr_self]
  · rw [Dev.rd_wr_apart _ (by decide), Dev.rd_wr_self]
  · exact (Dev.rd_wr_self ..).trans (Nat.mod_eq_of_lt hkind)

theorem Dev.wakeBegin_regs : d.regsBut (d.wakeBegin kind cause cluster unit) [(NMW_WAKESRC_CAUSE, 0), (NMW_WAKESRC_CLUSTER, 0),
    (NMW_WAKESRC_UNIT, 0), (PWR_STAT_LASTRST, 0)] :=
  ((((Dev.regsBut.refl d _).wri (by simp) _).wri (by simp) _).wri (by simp) _).wri (by simp) _

end

/-! ### Tamper (R571 to R573) -/

section
variable {s : State} {x : BootIn} {cause : Nat} {value : Int} {ns : Nat}

/-- A source that is armed trips under its detector's condition. -/
theorem gives_tamper {P : Prop} [Decidable P] (harmed : s.dev.tamperArmed cause = true)
    (htrips : s.dev.tamperTrips cause value ns = true ↔ P) :
    Gives (.tamper cause value ns x) s (if P then s.dev.tamper cause x else s.dev) := by
  refine gives_onDev (exec_tamper cause value ns x s) ?_
  by_cases h : P
  · rw [if_pos h]
    exact if_pos ⟨harmed, htrips.mpr h⟩
  · rw [if_neg h]
    exact if_neg fun hboth => h (htrips.mp hboth.2)

theorem gives_tamper_unless {P : Prop} [Decidable P] (harmed : s.dev.tamperArmed cause = true)
    (htrips : s.dev.tamperTrips cause value ns = true ↔ ¬ P) :
    Gives (.tamper cause value ns x) s (if P then s.dev else s.dev.tamper cause x) := by
  have hgives := gives_tamper (x := x) harmed htrips
  rwa [ite_not] at hgives

section
variable {d : Dev}

theorem Dev.tamperTrips_lid (h : cause ≤ 1) : d.tamperTrips cause value ns = true ↔ 2000 < value ∧ 100000 ≤ ns := by
  rw [Dev.tamperTrips, if_pos h, Bool.and_eq_true, decide_eq_true_eq, decide_eq_true_eq]

theorem Dev.tamperTrips_mesh : d.tamperTrips 2 value ns = true ↔ ¬ value = 0 := bne_iff_ne

theorem Dev.tamperTrips_clock : d.tamperTrips 4 value ns = true ↔
    value = 0 ∧ 100000 ≤ ns ∨ d.pwr.sysOn = true ∧ value ≠ 0 ∧ (value < 30000 ∨ 50000 < value) := by
  change ((value == 0 && decide (100000 ≤ ns)) ||
    (d.pwr.sysOn && value != 0 && (decide (value < 30000) || decide (50000 < value)))) = true ↔ _
  simp only [Bool.or_eq_true, Bool.and_eq_true, beq_iff_eq, bne_iff_ne, decide_eq_true_eq, and_assoc]

theorem Dev.tamperTrips_voltage : d.tamperTrips 5 value ns = true ↔ d.pwr.sysOn = true ∧ (value < 650 ∨ 950 < value) ∧ 20 < ns := by
  change (d.pwr.sysOn && (decide (value < 650) || decide (950 < value)) && decide (20 < ns)) = true ↔ _
  simp only [Bool.or_eq_true, Bool.and_eq_true, decide_eq_true_eq, and_assoc]

theorem Dev.tamperTrips_temperature : d.tamperTrips 6 value ns = true ↔ (value < -50 ∨ 130 < value) ∧ 10000000 ≤ ns := by
  change ((decide (value < -50) || decide (130 < value)) && decide (10000000 ≤ ns)) = true ↔ _
  simp only [Bool.or_eq_true, Bool.and_eq_true, decide_eq_true_eq]

end

theorem gives_tamper_unarmed (harmed : s.dev.tamperArmed cause = false) : Gives (.tamper cause value ns x) s s.dev :=
  gives_onDev (exec_tamper cause value ns x s) (if_neg fun h => Bool.false_ne_true (harmed.symm.trans h.1))

/-- The block once KEEP has lost its supply (R571). -/
def Dev.keepLost (d : Dev) : Dev := { d.keysLost with key := { d.keysLost.key with keepMarker := false } }

/-- Source 3 is armed but in BLANK and SCRAPPED (R572). -/
theorem Dev.keepLost_armed (d : Dev) : d.keepLost.tamperArmed 3 = !d.noAnchor := by
  have hanchor : d.keepLost.noAnchor = d.noAnchor := rfl
  rw [Dev.tamperArmed, hanchor]
  cases d.noAnchor <;> rfl

theorem gives_vkeepLoss {mv : Nat} (hmv : mv < 1800) (hns : 10000 ≤ ns) : Gives (.vkeepLoss mv ns x) s
    (if s.dev.noAnchor = true then s.dev.keepLost else s.dev.keepLost.tamper 3 x) := by
  refine gives_onDev (exec_vkeepLoss mv ns x s) ((if_neg (not_or_intro (by omega) (by omega))).trans ?_)
  change (if s.dev.keepLost.tamperArmed 3 = true then s.dev.keepLost.tamper 3 x else s.dev.keepLost) = _
  rw [Dev.keepLost_armed]
  cases s.dev.noAnchor <;> rfl

theorem gives_vkeepLoss_short {mv : Nat} (h : 1800 ≤ mv ∨ ns < 10000) : Gives (.vkeepLoss mv ns x) s s.dev :=
  gives_onDev (exec_vkeepLoss mv ns x s) (if_pos h)

end

end Sys2Proof.Machine
end

section
namespace Sys2Proof.Proofs
open Machine

/-- Settles O57: the power states, their resets and their wakes, and tamper. -/
theorem powerStates : Obligations.PowerStates := by
  unfold Obligations.PowerStates
  refine ⟨?ordered, ?powerOn, ?timeout, ?timeoutLast, ?brownOut, ?nrst, ?powerOff, ?supplyGood, ?dozeEnter, ?dozeExit, ?dozeRefused,
    ?request, ?commitHeld, ?commit, ?captureDone, ?hibernate, ?wake, ?wakeUnseen, ?lid, ?mesh, ?clockStopped, ?clock, ?voltage,
    ?temperature, ?unarmed, ?keepLost, ?keepShort, ?keepTamper⟩
  case ordered =>
    exact fun s x hordered hwarm => gives_onDev (exec_orderedRestart x s) (if_pos ⟨hordered, hwarm⟩)
  case powerOn =>
    exact fun s => ⟨_, gives_powerOnReset, rfl, rfl, rfl, rfl, rfl, Dev.poweredOn_pwrcyc, Dev.poweredOn_domon, Dev.poweredOn_running⟩
  case timeout =>
    intro s x d hstate hsys hheld hrom hordered hretries hd
    have hgives := gives_startupTimeout (x := x) hstate hsys hheld hrom hordered hd
    rwa [if_pos hretries] at hgives
  case timeoutLast =>
    intro s x d hstate hsys hheld hrom hordered hretries hd
    have hgives := gives_startupTimeout (x := x) hstate hsys hheld hrom hordered hd
    rwa [if_neg (Nat.not_lt.mpr hretries)] at hgives
  case brownOut =>
    exact fun s hpowered => ⟨_, gives_brownOut hpowered, rfl, rfl, rfl, Dev.brownedOut_lastrst, Dev.brownedOut_domon,
      Dev.brownedOut_running⟩
  case nrst =>
    exact fun s x hwarm => gives_onDev (exec_nrst x s) (if_pos hwarm)
  case powerOff =>
    exact fun s => ⟨_, gives_powerOff, rfl, rfl, rfl, rfl, Dev.poweredOff_running⟩
  case supplyGood =>
    intro s x hstate hsys hheld
    exact gives_onDev (exec_vsupLogGood x s) (if_pos ⟨hstate, by rw [hsys]; rfl, by rw [hheld]; rfl⟩)
  case dozeEnter =>
    intro s init hport hclass hrun
    exact ⟨((s.dev.setPwr { s.dev.pwr with state := .doze }).wr PWR_STAT_STATE 1).answered 0,
      gives_onDevBy (exec_dozeEnter init s) hport ((if_neg (by rw [hclass]; decide)).trans (if_pos hrun)), rfl,
      Dev.rd_wr_self .., rfl, rfl, (Dev.regsBut.refl s.dev _).wri (by simp) _⟩
  case dozeExit =>
    intro s init hport hclass hdoze
    exact ⟨((s.dev.setPwr { s.dev.pwr with state := .run }).wr PWR_STAT_STATE 0).answered 0,
      gives_onDevBy (exec_dozeExit init s) hport ((if_neg (by rw [hclass]; decide)).trans (if_pos hdoze)), rfl,
      Dev.rd_wr_self .., rfl, rfl, (Dev.regsBut.refl s.dev _).wri (by simp) _⟩
  case dozeRefused =>
    intro s init hport hclass
    have hother : (!s.dev.c0Tag init) = true := by rw [hclass]; rfl
    exact ⟨gives_onDevBy (exec_dozeEnter init s) hport (if_pos hother), gives_onDevBy (exec_dozeExit init s) hport (if_pos hother)⟩
  case request =>
    intro s hsleep hstate hpend hhold
    exact ⟨_, gives_standbyRequest hsleep hstate hpend hhold, s.dev.requested_pend, s.dev.requested_evt, Dev.rd_wr_self .., rfl, rfl,
      s.dev.requested_regs⟩
  case commitHeld =>
    intro s hpend hstate hheld
    exact gives_onDev (exec_standbyCommit s) ((if_pos ⟨hpend, s.dev.awake_iff.mpr hstate⟩).trans (if_pos hheld))
  case commit =>
    intro s hpend hstate hheld
    exact ⟨_, gives_standbyCommit hpend hstate hheld, rfl, Dev.committed_saves.1, Dev.committed_saves.2, Dev.committed_level,
      fun k hk => Dev.committed_sessions hk⟩
  case captureDone =>
    exact fun s hstate hlatched => ⟨_, gives_standbyCaptureDone hstate hlatched, rfl, rfl, rfl, Dev.asleep_running, Dev.asleep_domon⟩
  case hibernate =>
    exact fun s hstate hafter => gives_onDev (exec_hibernateEntry s) (if_pos ⟨hstate, hafter⟩)
  case wake =>
    intro s cause cluster unit rising hstate hseen
    have hgives := gives_wakeFromStandby hseen
    rw [Dev.moduleWake_sleeping hstate] at hgives
    obtain ⟨hcause, hcluster, hunit, hlast⟩ :=
      Dev.wakeBegin_shows (d := s.dev) (kind := if s.dev.pwr.state = .standby then 6 else 7) cause cluster unit (by split <;> decide)
    exact ⟨_, hgives, rfl, rfl, rfl, hcause, hcluster, hunit, hlast, rfl, Dev.wakeBegin_regs _ _ _⟩
  case wakeUnseen =>
    exact fun s cause cluster unit rising hseen =>
      gives_onDev (exec_wakeFromStandby cause cluster unit rising s) (if_neg (Bool.eq_false_iff.mp hseen))
  case lid =>
    exact fun s cause mv ns x harmed hcause => gives_tamper harmed (Dev.tamperTrips_lid hcause)
  case mesh =>
    exact fun s diff ns x harmed => gives_tamper_unless harmed Dev.tamperTrips_mesh
  case clockStopped =>
    intro s ns x harmed
    refine gives_tamper harmed (Dev.tamperTrips_clock.trans ⟨fun h => ?_, fun h => .inl ⟨rfl, h⟩⟩)
    rcases h with ⟨-, h⟩ | ⟨-, h, -⟩
    · exact h
    · exact absurd rfl h
  case clock =>
    intro s ps ns x harmed hsys hps
    refine gives_tamper_unless harmed (Dev.tamperTrips_clock.trans ⟨fun h => ?_, fun h => .inr ⟨hsys, by omega, by omega⟩⟩)
    rcases h with ⟨h, -⟩ | ⟨-, -, h⟩
    · exact absurd h (by omega)
    · omega
  case voltage =>
    exact fun s mv ns x harmed hsys => gives_tamper harmed (Dev.tamperTrips_voltage.trans (and_iff_right hsys))
  case temperature =>
    exact fun s deg ns x harmed => gives_tamper harmed Dev.tamperTrips_temperature
  case unarmed =>
    exact fun s cause value ns x => gives_tamper_unarmed
  case keepLost =>
    intro s mv ns x hanchor hmv hns
    have hgives := gives_vkeepLoss (s := s) (x := x) hmv hns
    rw [if_pos hanchor] at hgives
    exact ⟨_, hgives, rfl, rfl⟩
  case keepShort =>
    exact fun s mv ns x => gives_vkeepLoss_short
  case keepTamper =>
    intro s mv ns x hanchor hmv hns
    have hgives := gives_vkeepLoss (s := s) (x := x) hmv hns
    rwa [if_neg (Bool.eq_false_iff.mp hanchor)] at hgives

end Sys2Proof.Proofs
end
